-- ==== Sys2Proof/Word.lean ====
section
/-! DEFINITION. The word types of the module and their plainest helpers (R3, R27, R33, R2). -/

namespace Sys2Proof

/-- A 32-bit register of the register space (R3). -/
abbrev Word := BitVec 32

/-- A 72-bit native word (R27). -/
abbrev Word72 := BitVec 72

/-- A 74-bit timestamp: system time in bits 73:10, fine steps in bits 9:0 (R2). -/
abbrev Ts := BitVec 74

/-- A tile number, T0 to T15. -/
abbrev Tile := Fin 16
/-- A waveform channel, W0 to W7. -/
abbrev Wave := Fin 8
/-- A capture channel, C0 to C7. -/
abbrev CapCh := Fin 8
/-- A pin group, G0 to G7. -/
abbrev Grp := Fin 8
/-- A pin, P0 to P63. -/
abbrev Pin := Fin 64
/-- A context, 0 to 1023. -/
abbrev CtxNo := Fin 1024
/-- An event number, E0 to E1023. -/
abbrev EvtNo := Fin 1024
/-- A timer, 0 to 15. -/
abbrev TimerNo := Fin 16
/-- A trigger input, TRIG0 to TRIG3. -/
abbrev TrigNo := Fin 4
/-- A Terxa port, X0 to X3. -/
abbrev PortNo := Fin 4
/-- A stack, HBM0 to HBM3. -/
abbrev StackNo := Fin 4
/-- A rank id, stack × 48 + channel × 3 + SID. -/
abbrev RankNo := Fin 192
/-- A descriptor ring of the host bridge. -/
abbrev RingNo := Fin 8
/-- An event counter of the monitors. -/
abbrev MonNo := Fin 64
/-- A capture buffer entry. -/
abbrev BufNo := Fin 16

/-- Bits lo + n − 1 : lo of a natural number. -/
def fieldOf (x lo n : Nat) : Nat := x / 2 ^ lo % 2 ^ n

/-- x with bits lo + n − 1 : lo replaced by the low n bits of v. -/
def withField (x lo n v : Nat) : Nat :=
  x - fieldOf x lo n * 2 ^ lo + v % 2 ^ n * 2 ^ lo

/-- The n-bit two's complement value of the low n bits of v. -/
def signedOf (n v : Nat) : Int :=
  if v % 2 ^ n < 2 ^ (n - 1) then (v % 2 ^ n : Nat) else (v % 2 ^ n : Nat) - (2 ^ n : Nat)

/-- The low n bits of the two's complement form of i. -/
def unsignedOf (n : Nat) (i : Int) : Nat := (i % (2 ^ n : Nat)).toNat

/-- i cut to the range of an n-bit two's complement number. -/
def clampSigned (n : Nat) (i : Int) : Int :=
  if i < -(2 ^ (n - 1) : Nat) then -(2 ^ (n - 1) : Nat)
  else if (2 ^ (n - 1) : Nat) - 1 < i then (2 ^ (n - 1) : Nat) - 1 else i

/-- The quotient of a by b, rounded up. -/
def ceilDiv (a b : Nat) : Nat := (a + (b - 1)) / b

/-- Counters of the register space that saturate at 0xFFFF_FFFF. -/
def satAdd32 (a b : Nat) : Nat := Nat.min (a + b) 0xFFFFFFFF

/-- The timestamp of system time t at fine step f. -/
def mkTs (t f : Nat) : Ts := BitVec.ofNat 74 (t * 1024 + f)

/-- The status codes of R332. -/
inductive Sts where
  | ok | busy | nospace | bandwidth | locked | badhandle | precond | sag | sig
  | nolanding | bankbusy | range | state | trainfail | poison
  deriving DecidableEq, Repr

/-- The 8-bit code of a status (R332). -/
def Sts.code : Sts → Nat
  | .ok => 0x00 | .busy => 0x01 | .nospace => 0x02 | .bandwidth => 0x03 | .locked => 0x04
  | .badhandle => 0x05 | .precond => 0x06 | .sag => 0x07 | .sig => 0x08 | .nolanding => 0x09
  | .bankbusy => 0x0A | .range => 0x0B | .state => 0x0C | .trainfail => 0x0D | .poison => 0x0E

end Sys2Proof
end

