-- ==== Sys2Proof/Syntax.lean ====
section
/-! DEFINITION. The commands of the block: one constructor for each row of spec/opcode_table.json, in its order. -/

namespace Sys2Proof

/-- One command or happening of the module. A register-write row carries the value written; a happening carries what
the outside (a measurement, a message, an instruction word) brings; every other argument is read from the registers, as
the hardware reads it. -/
inductive Instr where
  /-- FIELD_POWER_ON_RESET (R351). Field power is applied once the 48 V input has held 42 V or more for 100 ms with
  DORMANT 0 and no shutdown, and the boot starts at stage 1. -/
  | fieldPowerOnReset
  /-- FIELD_RST_N_ASSERT (R348). An assertion of FIELD_RST_N is carried as a field-reset message, and the field side
  is held in reset with its outputs safe. -/
  | fieldRstNAssert
  /-- FIELD_RST_N_RELEASE (R348). Release of FIELD_RST_N starts the field reset, which restarts the boot at stage 2. -/
  | fieldRstNRelease
  /-- FIELD_RESET_ACK_TIMEOUT (R348). No field heartbeat acknowledges the field-reset message within 10 ms, so the
  host side cycles field power for 100 ms. -/
  | fieldResetAckTimeout
  /-- NVS_FIELD_RST (R347). A write of 0xA55A to NVS_FIELD_RST starts a field reset that restarts the boot at stage 2. -/
  | nvsFieldRst (v : Word)
  /-- SOFT_RESET (R347). A key-guarded write of GLB_SOFT_RST.GO restarts the boot at stage 4 on the active bank, with
  the Crossing kept up. -/
  | softReset (v : Word)
  /-- TILE_RESET (R350). A bit of NVS_TILE_RST resets a tile: it loads the tile's contexts, clears its arms, empties
  its caches and makes its output safe. -/
  | tileReset (v : Word)
  /-- MRAM_WRITE_COMPLETE (R349). An MRAM write in progress ends, and any field-side reset or shutdown waiting for it
  proceeds. -/
  | mramWriteComplete
  /-- STEWARD_STOP (R12). A steward misses its heartbeat for 100 µs, so the other steward makes every output safe and
  performs a field reset. -/
  | stewardStop (n : Fin 2)
  /-- SERVICE_LOCK_LOSS (R270). The service synthesizer loses lock, and S1 makes every output safe and performs a
  field reset. -/
  | serviceLockLoss
  /-- SAG_BELOW_42V (R353). The input falls below 42 V, which sets NV_BLOCK, refuses new MRAM writes and queues alarm
  0x0004. -/
  | sagBelow42V (vin : BitVec 10)
  /-- SAG_BELOW_38V (R353). The input falls below 38 V, which makes the outputs safe and enters Ash. -/
  | sagBelow38V (vin : BitVec 10)
  /-- SAG_BELOW_36V (R355). The input falls below 36 V, which requests an orderly shutdown. -/
  | sagBelow36V (vin : BitVec 10)
  /-- SUPPLY_RECOVER_42V5 (R353). The input rises to 42.5 V, which clears NV_BLOCK so that held records are written. -/
  | supplyRecover42V5 (vin : BitVec 10)
  /-- SUPPLY_RECOVER_40V (R25). The input rises to 40 V after a sag-forced Ash, so writes of an active profile are no
  longer refused with STS_SAG. -/
  | supplyRecover40V (vin : BitVec 10)
  /-- DORMANT_REQUEST (R351). A write of XNG_PWR.DORMANT 1 sends a power-state request: the outputs go safe, then HBM
  and field power go off. -/
  | dormantRequest (v : Word)
  /-- FIELD_POWER_REQUEST (R351). A write of XNG_PWR.DORMANT 0 restores field power under the power-up conditions. -/
  | fieldPowerRequest (v : Word)
  /-- PROFILE_CHANGE (R21). A key-guarded GLB_PROFILE write of Cobalt, Ivory or Umber is accepted or refused; if
  accepted, the clocks gate and the outputs go safe. -/
  | profileChange (v : Word)
  /-- PROFILE_CHANGE_COMPLETE (R22). An accepted profile change completes within 2 ms, and the new profile is in
  effect. -/
  | profileChangeComplete
  /-- ASH_ENTRY (R23). Entry into Ash pauses Running contexts, stops capture, makes the outputs safe, gates the clocks
  and puts HBM in self-refresh. -/
  | ashEntry (v : Word)
  /-- ASH_ENTRY_COMPLETE (R23). Entry into Ash completes within 1 ms. -/
  | ashEntryComplete
  /-- ASH_EXIT (R24). A write of an active profile while in Ash starts leaving Ash, with the conditions of R21 if the
  profile differs. -/
  | ashExit (v : Word)
  /-- ASH_EXIT_COMPLETE (R24). Leaving Ash completes within 5 ms plus any due HBM retraining. -/
  | ashExitComplete
  /-- GLB_KEY_WRITE (R325). A write of GLB_KEY unlocks for one RWK write with 0x0000_6B1E, and re-locks with any other
  value. -/
  | glbKeyWrite (v : Word)
  /-- GLB_UPDATE (R322). Writing 1 to bits of GLB_UPDATE strobes those update groups in the cycle the write is
  applied. -/
  | glbUpdate (v : Word)
  /-- GLB_FLAGS_WRITE (R324). A masked write of GLB_FLAGS changes only the data bits whose mask bits are 1. -/
  | glbFlagsWrite (v : Word)
  /-- MAILBOX_REQUEST (R329). A write of GLB_MBX_CTRL.REQ clears VALID and requests a sample of the selector in
  GLB_MBX_SEL. -/
  | mailboxRequest (v : Word)
  /-- MAILBOX_SAMPLE (R329). The field side samples the four mailbox words in one cycle, sets VALID and reports STS_OK
  or STS_RANGE. -/
  | mailboxSample
  /-- HV_ENABLE (R380). A key-guarded write of GLB_HV_CTRL.EN 1 starts the +45 V and -30 V rails. -/
  | hvEnable (v : Word)
  /-- HV_DISABLE (R381). A key-guarded write of GLB_HV_CTRL.EN 0 turns the rails off and clears LATCHED. -/
  | hvDisable (v : Word)
  /-- HV_RAILS_UP (R380). Both rails reach regulation and GLB_HV_CTRL.UP reads 1, so the wide pins take up their
  codes. -/
  | hvRailsUp
  /-- HV_RAIL_FAULT (R381). A rail exceeds its current limit for 2 ms, so both rails go off and the fault latches. -/
  | hvRailFault (pos : Bool) (neg : Bool)
  /-- REGISTER_WRITE (R319). A software write to a register that has no row of its own is applied under its fields'
  access codes. -/
  | registerWrite (addr : BitVec 24) (bytes : Nat) (v : BitVec 64)
  /-- REGISTER_READ_MESSAGE (R299). A BAR0 read crosses to the field side in order after earlier writes, or completes
  with 0xFFFF_FFFF while the field side is absent. -/
  | registerReadMessage (addr : BitVec 24) (bytes : Nat)
  /-- ALLOC (R35). The PLC ALLOC command takes a handle, places the segment's lines and admits its bandwidth, or
  refuses. -/
  | alloc (tag : BitVec 8)
  /-- FREE (R37). The PLC FREE command frees a non-LIVE segment and cancels its open LOADs, or refuses. -/
  | free (tag : BitVec 8)
  /-- LOAD (R53). The PLC LOAD command opens a ferry, peer or ring-mode transfer into or out of a segment, or refuses
  it. -/
  | load (tag : BitVec 8)
  /-- LOAD_END (R53). An open LOAD's last word is transferred; it reports its final status, and a FINAL write may make
  the segment READY. -/
  | loadEnd (h : BitVec 24)
  /-- REDIRECT (R46). The PLC REDIRECT command accepts a redirection of H to N's storage with an apply time, and
  starts the landing refills. -/
  | redirect (tag : BitVec 8)
  /-- REDIRECT_APPLY (R47). At T_a, handle H switches to the new storage and the arms switch to the refilled landing
  slots. -/
  | redirectApply (h : BitVec 24)
  /-- REDIRECT_OLD_RELEASE (R50). Once no reference that began before T_a remains, the old storage's lines return to
  free capacity. -/
  | redirectOldRelease (h : BitVec 24)
  /-- QUERY (R53). The PLC QUERY command returns a segment's state, class, kind, length, references or open-LOAD
  details. -/
  | query (tag : BitVec 8)
  /-- MIGRATE (R53). The PLC MIGRATE command starts migration of a segment or of the whole memory. -/
  | migrate (tag : BitVec 8) (extents : BitVec 20)
  /-- READMIT (R257). The key-guarded PLC READMIT command makes a RETIRED rank TESTING and starts its retraining and
  pattern test. -/
  | readmit (tag : BitVec 8)
  /-- READMIT_TEST_END (R257). The readmission test ends, and the rank becomes SPARE or RETIRED with its outcome in
  RANK_STATE.STS. -/
  | readmitTestEnd (rank : RankNo) (found : Bool) (passed : Bool)
  /-- MIGRATION_START (R252). Migration of a retiring rank's extents, or defragmentation, starts by itself. -/
  | migrationStart (rank : Option RankNo) (extents : BitVec 20)
  /-- MIGRATION_EXTENT_DONE (R252). An extent copy completes and its references switch to the target; when the rank is
  empty it becomes RETIRED. -/
  | migrationExtentDone (rank : Option RankNo)
  /-- RETIREMENT_RECORD_WRITE (R252). S0 records a rank retirement in the MRAM within 10 ms. -/
  | retirementRecordWrite (rank : RankNo)
  /-- NOP (R80). NOP takes effect with no result. -/
  | nop (t : Tile) (ops : BitVec 66)
  /-- HALT (R80). HALT makes the context Halted at its effect cycle, and the output carries the bridge value. -/
  | halt (t : Tile) (ops : BitVec 66)
  /-- PLAY (R67). PLAY begins playing a segment from OFFSET to its last word, after the reference checks. -/
  | play (t : Tile) (ops : BitVec 66)
  /-- PLAYN (R67). PLAYN begins playing a whole segment COUNT times back to back. -/
  | playn (t : Tile) (ops : BitVec 66)
  /-- LOOP (R69). LOOP pushes a loop-stack entry. -/
  | loop (t : Tile) (ops : BitVec 66)
  /-- ENDLOOP (R69). ENDLOOP decrements the top loop entry and branches back, or pops the entry. -/
  | endloop (t : Tile) (ops : BitVec 66)
  /-- CALL (R70). CALL pushes a call-stack entry and continues at its target. -/
  | call (t : Tile) (ops : BitVec 66)
  /-- RET (R70). RET pops the call stack, truncates the loop stack and continues at the return address. -/
  | ret (t : Tile) (ops : BitVec 66)
  /-- JUMP (R71). JUMP pops POP loop entries and continues at its target. -/
  | jump (t : Tile) (ops : BitVec 66)
  /-- ARM (R100). ARM writes an arm record and takes its landing slot, or faults when the ARM is refused. -/
  | arm (t : Tile) (ops : BitVec 66)
  /-- DISARM (R100). DISARM clears one arm record, or all of them. -/
  | disarm (t : Tile) (ops : BitVec 66)
  /-- WAIT (R72). WAIT holds the bridge value until its event registers. -/
  | wait (t : Tile) (ops : BitVec 66)
  /-- SYNC (R73). SYNC holds the bridge value until a sync pulse, a time, a delay or a strobe. -/
  | sync (t : Tile) (ops : BitVec 66)
  /-- SYNC_RELEASE (R73). A SYNC reaches its target cycle or is released late, and the next word leaves the tile. -/
  | syncRelease (t : Tile)
  /-- SETTS (R76). SETTS makes a bank the active timing bank of the group. -/
  | setts (t : Tile) (ops : BitVec 66)
  /-- SETF (R74). SETF sets the NCO frequency word, with or without a phase reset. -/
  | setf (t : Tile) (ops : BitVec 66)
  /-- SETPH (R74). SETPH sets the NCO phase, or adds to it. -/
  | setph (t : Tile) (ops : BitVec 66)
  /-- RAMP (R75). RAMP starts stepping the NCO frequency, the amplitude or the offset. -/
  | ramp (t : Tile) (ops : BitVec 66)
  /-- RAMP_STEP (R75). A RAMP step falls due DWELL cc after the previous step and applies DELTA. -/
  | rampStep (t : Tile)
  /-- MARK (R78). MARK records its tag and timestamp and sets the marker override. -/
  | mark (t : Tile) (ops : BitVec 66)
  /-- STREAM (R119). STREAM begins playing blocks from a slipway, after its checks. -/
  | stream (t : Tile) (ops : BitVec 66)
  /-- SWITCH (R81). SWITCH hands the tile to another context of the same tile. -/
  | switch (t : Tile) (ops : BitVec 66)
  /-- SIGNAL (R79). SIGNAL raises a sequencer SIGNAL source. -/
  | signal (t : Tile) (ops : BitVec 66)
  /-- COUNT (R64). COUNT adds VALUE to a context counter, or sets it. -/
  | count (t : Tile) (ops : BitVec 66)
  /-- USER_OPCODE (R80). A user opcode runs its routine from the user control store. -/
  | userOpcode (t : Tile) (word : Word72)
  /-- SPIN_FAULT (R59). 4,096 instructions of no duration are resolved in a row, and the context faults with cause
  SPIN. -/
  | spinFault (t : Tile)
  /-- MICRO_FAULT (R137). A routine executes 4,096 microwords without reaching a YIELD, NEXT, EMIT or WAITE, and
  faults with cause MICRO. -/
  | microFault (t : Tile)
  /-- GAP (R66). A word is not at the tile when due; the bridge value plays, or the context faults with GAP_FAULT set. -/
  | gap (t : Tile)
  /-- GAP_END (R66). The late word arrives and leaves the tile, and later effect cycles move back by the gap. -/
  | gapEnd (t : Tile)
  /-- SEQ_LOAD (R85). The context command LOAD initialises a context from its INIT fields. -/
  | seqLoad (t : Tile) (tag : BitVec 8) (c : CtxNo) (mode : BitVec 2)
  /-- SEQ_PREP (R85). The context command PREP validates the initial PC and begins making the context resident. -/
  | seqPrep (t : Tile) (tag : BitVec 8) (c : CtxNo) (mode : BitVec 2)
  /-- PREP_COMPLETE (R85). A PREP completes and the context becomes Ready. -/
  | prepComplete (t : Tile)
  /-- SEQ_START (R88). The context command START accepts a start at a computed start cycle, or refuses it. -/
  | seqStart (t : Tile) (tag : BitVec 8) (c : CtxNo) (mode : BitVec 2)
  /-- SEQ_RESUME (R88). The context command RESUME accepts a resume of a Paused context at a computed start cycle. -/
  | seqResume (t : Tile) (tag : BitVec 8) (c : CtxNo) (mode : BitVec 2)
  /-- START_CYCLE (R88). A pending START or RESUME reaches its start cycle, and the context becomes Running. -/
  | startCycle (t : Tile)
  /-- SEQ_PAUSE (R89). The context command PAUSE is accepted at a boundary or at a word. -/
  | seqPause (t : Tile) (tag : BitVec 8) (c : CtxNo) (mode : BitVec 2)
  /-- PAUSE_EFFECT (R89). A PAUSE takes effect and the context becomes Paused at its recorded point. -/
  | pauseEffect (t : Tile)
  /-- SEQ_STOP (R87). The context command STOP is accepted, and it discards a pending start. -/
  | seqStop (t : Tile) (tag : BitVec 8) (c : CtxNo) (mode : BitVec 2)
  /-- STOP_EFFECT (R89). A STOP takes effect at acceptance + 48 cc, and the context becomes Halted. -/
  | stopEffect (t : Tile)
  /-- SEQ_RELEASE (R85). The context command RELEASE makes a Loaded, Halted or Faulted context Free. -/
  | seqRelease (t : Tile) (tag : BitVec 8) (c : CtxNo) (mode : BitVec 2)
  /-- CONTEXT_TABLE_WRITE (R90). A write to a context-table entry is judged field by field against the context's
  state, and ignored fields set CTX_WRITE. -/
  | contextTableWrite (c : CtxNo) (off : BitVec 9) (v : Word)
  /-- TRIG_EDGE (R96). An edge of the selected polarity arrives at a TRIG input. -/
  | trigEdge (n : TrigNo) (rising : Bool) (fine : BitVec 10)
  /-- THRESHOLD_CHANGE (R227). A threshold's state Q changes after its dwell, and its event source occurs. -/
  | thresholdChange (c : CapCh) (i : Fin 4) (q : Bool) (ts : Ts)
  /-- PIN_COMPARE_FAIL (R192). A compare on a pin fails; it is counted, logged and raises its event source. -/
  | pinCompareFail (p : Pin) (ts : Ts) (tsel : BitVec 4)
  /-- MATCHER_MATCH (R195). A pattern matcher's shift makes it match, or leaves it matching, and its source occurs. -/
  | matcherMatch (g : Grp) (m : Fin 8) (bit : Bool) (code : BitVec 4) (ts : Ts)
  /-- EVENT_REGISTRATION (R96). An event number registers at its registration cycle with a timestamp, subject to map,
  enable and holdoff. -/
  | eventRegistration (n : EvtNo) (ts : Ts)
  /-- COMMIT_GOTO (R111). A caught GOTO arm commits at t + L: the ledger is restored and the context continues at the
  target after the bridge. -/
  | commitGoto (t : Tile)
  /-- COMMIT_CALL (R111). A caught CALL arm commits: the resume point is pushed and the context continues at the
  target. -/
  | commitCall (t : Tile)
  /-- COMMIT_SWITCH (R111). A caught SWITCH arm commits: the context pauses at its resume point and the target context
  runs. -/
  | commitSwitch (t : Tile)
  /-- COMMIT_STOP (R111). A caught STOP arm commits, and the context becomes Halted. -/
  | commitStop (t : Tile)
  /-- COMMIT_COUNT (R109). A caught COUNT arm adds 1 to a counter at c, and re-resolves conditions under R63. -/
  | commitCount (t : Tile)
  /-- LANDED_RUN_START (R112). At c + D, the first word of the landed run leaves the tile and its instructions take
  effect. -/
  | landedRunStart (t : Tile)
  /-- LANDING_FILL_START (R104). The tile starts the next queued landing-slot fill, at most one every 1,024 cc. -/
  | landingFillStart (t : Tile)
  /-- LANDING_FILL_COMPLETE (R104). A slot fill completes, and its arm becomes landed and responds. -/
  | landingFillComplete (t : Tile)
  /-- TIMER_START (R97). Writing a START bit of EVT_TMR_CMD starts or restarts a timer. -/
  | timerStart (n : TimerNo)
  /-- TIMER_STOP (R97). Writing a STOP bit of EVT_TMR_CMD stops a timer. -/
  | timerStop (n : TimerNo)
  /-- TIMER_EXPIRY (R97). A timer expires, its event source occurs, and a periodic timer re-arms. -/
  | timerExpiry (n : TimerNo)
  /-- EVT_HOST_RAISE (R98). Writing 1 to a bit of EVT_HOST_RAISE raises host message event n. -/
  | evtHostRaise (v : Word)
  /-- HOST_EVENT_RAISE_MESSAGE (R304). A host event raise message arrives over the Crossing, and host message event n
  occurs. -/
  | hostEventRaiseMessage (n : Fin 32)
  /-- SYSTEM_EVENT_MESSAGE (R287). A system event message arrives; it is forwarded and registered at t_a - L, or
  registered late. -/
  | systemEventMessage (se : BitVec 8) (origin : BitVec 9) (ts : Ts) (apply : BitVec 64) (port : PortNo)
  /-- BLOCK_PLAYED (R120). The last word of a slipway block leaves the tile, RD advances and the block counts. -/
  | blockPlayed (t : Tile)
  /-- RING_FILL_RESUME (R120). A ring-mode fill that waited for room resumes once RD has advanced. -/
  | ringFillResume (h : BitVec 24)
  /-- UNDERRUN (R123). A block is not complete at its decision cycle, and the underrun is counted, logged and handled
  under UPOL. -/
  | underrun (t : Tile)
  /-- HOLD_RESTART (R124). After a HOLD underrun, the next block plays at the later of r + 1,024 cc and its due cycle. -/
  | holdRestart (t : Tile)
  /-- DIVERT_COMMIT (R126). A DIVERT underrun commits at its due cycle as a CALL arm to CTX_DIVERT. -/
  | divertCommit (t : Tile)
  /-- SLIPWAY_TABLE_WRITE (R119). A write of HANDLE, EN or BLOCK to a slipway table entry is ignored while the slipway
  is LIVE. -/
  | slipwayTableWrite (e : Fin 256) (off : BitVec 6) (v : Word)
  /-- MC_ULOAD (R147). A key-guarded write of MC_ULOAD.GO starts a reload of the user control-store region, or refuses
  it. -/
  | mcUload (t : Tile) (v : Word)
  /-- USER_RELOAD_COMPLETE (R147). A user microcode reload finishes verification and replaces the user region and its
  dispatch entries, or fails. -/
  | userReloadComplete (t : Tile)
  /-- UKEY_OPEN (R151). A key-guarded write of NVS_UKEY_CTRL.OPEN opens customer key enrollment. -/
  | ukeyOpen (v : Word)
  /-- UKEY_HASH_WRITE (R151). A write of an NVS_UKEY_HASH register stores its hash bytes, and the twelfth write starts
  the fuse burn. -/
  | ukeyHashWrite (i : Fin 12) (v : Word)
  /-- FUSE_BURN_COMPLETE (R151). S1 completes the burn of the customer key hash fuses and sets ENROLLED. -/
  | fuseBurnComplete
  /-- WAV_FORCE_SAFE_SET (R175). Writing WAV_CTRL.FORCE_SAFE 1 opens the output switch at the write. -/
  | wavForceSafeSet (w : Wave) (v : Word)
  /-- WAV_FORCE_SAFE_CLEAR (R177). Writing WAV_CTRL.FORCE_SAFE 0 ends that latching condition, and the switch closes
  in the next cycle if a context is Running. -/
  | wavForceSafeClear (w : Wave) (v : Word)
  /-- RANGE_MUTE_END (R176). The 2 µs range-change mute ends and the switch closes in the new span. -/
  | rangeMuteEnd (w : Wave)
  /-- TS_HSTAGE_D2_WRITE (R187). A write of TS_HSTAGE_D2 stores a row in the host staging buffer and advances ROW. -/
  | tsHstageD2Write (g : Grp) (v : Word)
  /-- TS_HCOMMIT (R187). Writing TS_HCOMMIT.GO requests a commit of the staged timing set at the next strobe. -/
  | tsHcommit (g : Grp) (v : Word)
  /-- GRP_FORCE_SAFE_SET (R198). Writing GRP_CTRL.FORCE_SAFE 1 puts the group's drivers in the safe state and releases
  LIVE_N. -/
  | grpForceSafeSet (g : Grp) (v : Word)
  /-- GRP_FORCE_SAFE_CLEAR (R198). Writing GRP_CTRL.FORCE_SAFE 0 lets the drivers leave the safe state in the next
  cycle while a context runs. -/
  | grpForceSafeClear (g : Grp) (v : Word)
  /-- LIVE_HOLD (R200). A write of GRP_CTRL.LIVE_HOLD in G0 or G4 releases a connector's LIVE_N, or permits it to be
  pulled low. -/
  | liveHold (second : Bool) (v : Word)
  /-- PCAP_START (R194). Writing PCAP_CTRL.START starts raw pin capture, or arms its start source. -/
  | pcapStart (g : Grp) (v : Word)
  /-- PCAP_STOP (R194). Writing PCAP_CTRL.STOP stops raw pin capture. -/
  | pcapStop (g : Grp) (v : Word)
  /-- CAPTURE_CHANNEL_RESET (R234). Writing CAP_CTRL.CH_RST ends the recording, completes any fade, discards the
  pending swap and takes a synchronising reset. -/
  | captureChannelReset (c : CapCh) (v : Word)
  /-- CAP_SYNC_REQUEST (R220). Writing CAP_CTRL.SYNC requests a synchronising reset at SYNC_SRC. -/
  | capSyncRequest (c : CapCh) (v : Word)
  /-- SYNCHRONISING_RESET (R220). The capture chain is zeroed and its decimation phase restarts at cycle u. -/
  | synchronisingReset (c : CapCh)
  /-- RANGE_SETTLE_RESET (R206). At u + 1 µs after a capture range change, the channel takes a synchronising reset. -/
  | rangeSettleReset (c : CapCh)
  /-- SETTLING_END (R221). The S settling samples after a synchronising reset end, and the thresholds take their
  states. -/
  | settlingEnd (c : CapCh)
  /-- FIR_BANK_WRITE (R223). A write to a tap or to FIR_BANK_x is accepted, or refused with STS_BANKBUSY. -/
  | firBankWrite (c : CapCh) (second : Bool) (tap : Option (Fin 128)) (v : Word)
  /-- FIR_SWAP (R224). Writing FIR_SWAP.GO submits a bank swap request, which replaces any pending request. -/
  | firSwap (c : CapCh) (v : Word)
  /-- FADE_START (R225). A swap's trigger occurs, or a held request's wait ends, and the cross-fade starts with ACTIVE
  changing. -/
  | fadeStart (c : CapCh)
  /-- FADE_END (R225). After N output samples the fade ends and only the new bank runs. -/
  | fadeEnd (c : CapCh)
  /-- CAP_RECORD_START (R230). Writing CAP_REC_CTRL.START starts a recording, or arms its start source, or refuses it. -/
  | capRecordStart (c : CapCh) (v : Word)
  /-- CAP_RECORD_STOP (R231). Writing CAP_REC_CTRL.STOP ends the recording after the last unit formed before the stop. -/
  | capRecordStop (c : CapCh) (v : Word)
  /-- CBUF_TRIG (R231). Writing CBUF_CFG.TRIG gives a register trigger to a recording. -/
  | cbufTrig (b : BufNo) (v : Word)
  /-- RECORDING_END (R231). A recording ends when POST words follow the trigger word or a one-shot segment is full. -/
  | recordingEnd (b : BufNo)
  /-- RECORDING_DRAIN_COMPLETE (R232). The last word of an ended recording reaches memory; the segment becomes READY
  and STATE reads done. -/
  | recordingDrainComplete (b : BufNo)
  /-- CORRECTED_READ (R249). A read is corrected, counted and logged, and a line with 2 or more corrected bytes is
  written back. -/
  | correctedRead (rank : RankNo) (n : BitVec 3) (loc : BitVec 64)
  /-- UNCORRECTABLE_READ (R250). An uncorrectable read poisons its line and retires the rank with cause 1. -/
  | uncorrectableRead (rank : RankNo) (h : BitVec 24) (off : BitVec 34) (loc : BitVec 64)
  /-- CA_PARITY_ERROR (R250). A command/address parity error retries the command and retires the rank with cause 2. -/
  | caParityError (rank : RankNo) (loc : BitVec 64)
  /-- WRITE_PARITY_ERROR (R250). A write data parity error retries the write, and retires the rank if the retry fails. -/
  | writeParityError (rank : RankNo) (loc : BitVec 64) (retryFailed : Bool)
  /-- LATE_READ (R241). A priority-2 or priority-3 read is delivered after more than 600 ns and is counted. -/
  | lateRead
  /-- PER_BANK_REFRESH (R244). A bank falls due for a per-bank refresh, which is placed when the bank is idle. -/
  | perBankRefresh (rank : RankNo) (bank : Fin 64) (idle : Bool)
  /-- URGENT_REFRESH (R244). A refresh that would be a ninth postponed one is issued at once at priority 1. -/
  | urgentRefresh (rank : RankNo) (bank : Fin 64)
  /-- HBM_TEMP_READ (R245). Every 32 µs the controller reads the stack temperatures and applies the doubled-rate, hot
  and drift rules. -/
  | hbmTempRead (t0 : BitVec 8) (t1 : BitVec 8) (t2 : BitVec 8) (t3 : BitVec 8)
  /-- HOT_ASH_TIMEOUT (R246). A stack is still at 95 °C or above 1 ms after HOT, so the module enters Ash. -/
  | hotAshTimeout
  /-- SELF_REFRESH_ENTRY (R247). After MEM_SR.IDLE µs of idleness, every stack enters self-refresh after an all-bank
  refresh. -/
  | selfRefreshEntry
  /-- SELF_REFRESH_EXIT (R247). A request or command begins the exit from self-refresh, which completes within 400 ns. -/
  | selfRefreshExit
  /-- AUTO_RETRAIN (R255). A due retrain runs by itself at the first idle moment with AUTO_RETRAIN set. -/
  | autoRetrain
  /-- RETRAIN_COMPLETE (R256). A retrain completes, and a failing channel is degraded or its ranks are lost and
  retired. -/
  | retrainComplete (k : StackNo) (temp : BitVec 8) (fails : List (Fin 16)) (lost : List (Fin 16))
  /-- REF_LOSS (R264). The active reference is lost; the root enters HOLDOVER and gates the clocks, and the fallback
  may take over. -/
  | refLoss
  /-- REF_QUALIFIED (R264). A returning source stays within ±20 ppm for QUAL ms, is qualified and may become the
  active reference. -/
  | refQualified (src : BitVec 2)
  /-- ROOT_LOCK_LOSS (R271). The root loop loses lock, enters ACQUIRING and gates the converter, pattern and CLK_OUT
  clocks. -/
  | rootLockLoss
  /-- LOCK_ACQUIRED (R271). The band search and lock complete, and the loop enters ALIGNING. -/
  | lockAcquired (band : BitVec 6)
  /-- SLEW_COMPLETE (R271). The phase offset falls below one fine step, and the loop leaves SLEWING for ALIGNING. -/
  | slewComplete
  /-- RETUNE (R269). CLK_CMD RETUNE applies CLK_ROOT_FCW through a relock, or refuses it. -/
  | retune (tag : BitVec 8)
  /-- RELOCK (R269). CLK_CMD RELOCK takes the loop to ACQUIRING with a fresh band search. -/
  | relock (tag : BitVec 8)
  /-- RAMP_START (R275). CLK_CMD RAMP_START starts a single or triangle FCW ramp, at once or at a strobe. -/
  | rampStart (tag : BitVec 8) (mode : BitVec 2)
  /-- RAMP_STOP (R275). CLK_CMD RAMP_STOP ends a single ramp at once, or a triangle at its next return to the base. -/
  | rampStop (tag : BitVec 8) (mode : BitVec 2)
  /-- CLK_RAMP_END (R275). A single ramp reaches base + DEV and its value becomes the base. -/
  | clkRampEnd
  /-- LIGHT_PRESENT (R283). Light appears on all four receive lanes of a DOWN port, and it starts TRAINING. -/
  | lightPresent (p : PortNo) (partner : Bool)
  /-- LANE_ALIGNED (R283). All lanes of a training port align, and it enters CALIBRATING. -/
  | laneAligned (p : PortNo)
  /-- TRAINING_TIMEOUT (R283). A port finds no working setting within 20 ms and becomes FAILED. -/
  | trainingTimeout (p : PortNo)
  /-- PORT_CALIBRATION_DONE (R284). The round-trip skew measurement completes, and the port becomes UP with its hop
  delay. -/
  | portCalibrationDone (p : PortNo) (rtt : BitVec 32) (turn : BitVec 32) (resid : BitVec 32)
  /-- LIGHT_LOSS (R283). Loss of light on a lane takes a port DOWN. -/
  | lightLoss (p : PortNo)
  /-- KEEPALIVE_TIMEOUT (R283). An UP port receives no keep-alive for 3 µs and goes DOWN. -/
  | keepaliveTimeout (p : PortNo)
  /-- KEEPALIVE_SEND (R280). Every 1 µs a port sends a keep-alive with system time, TRACE, JOINED and READY reports. -/
  | keepaliveSend (p : PortNo)
  /-- KEEPALIVE_MESSAGE (R290). A keep-alive arrives and updates time decoding, TRACE and READY handling. -/
  | keepaliveMessage (p : PortNo) (time : BitVec 64) (trace : Bool) (joined : Bool) (depth : BitVec 4) (ready : List (BitVec 9))
  /-- SYNC_ISSUE (R285). The timekeeper, or a module with no upstream port, issues a sync message for the next
  multiple of TXL_SYNC_PER. -/
  | syncIssue
  /-- SYNC_MESSAGE (R285). A sync message arrives with T_s, worst path and join grants, and is forwarded into joined
  subtrees. -/
  | syncMessage (p : PortNo) (ts : BitVec 64) (worst : BitVec 32) (grants : List (BitVec 9)) (members : List (BitVec 9))
  /-- SYNC_PULSE (R285). The sync pulse applies at T_s and releases SYNCs, timed starts, strobes and ALIGNING. -/
  | syncPulse
  /-- PEER_DATA_FRAME (R291). A peer transfer frame arrives and its words are written to the destination segment. -/
  | peerDataFrame (p : PortNo) (kind : BitVec 2) (h : BitVec 24) (off : BitVec 34) (words : List Word72) (bad : List Nat)
  /-- TXL_RETRAIN (R283). TXL_CMD RETRAIN takes a port DOWN and retrains it. -/
  | txlRetrain (tag : BitVec 8) (p : PortNo)
  /-- TXL_DOWN (R283). TXL_CMD DOWN takes a port OFF. -/
  | txlDown (tag : BitVec 8) (p : PortNo)
  /-- TXL_ID_WRITE (R293). A write of TXL_ID sets the module ID, or is ignored while any port is UP. -/
  | txlIdWrite (v : Word)
  /-- HEARTBEAT_SEND (R301). Every 8 µs each side sends a heartbeat, with ATTENDED from the host or the field state
  from the field. -/
  | heartbeatSend (host : Bool)
  /-- HEARTBEAT_MESSAGE (R302). A heartbeat arrives, and two consecutive ones declare the other side present again. -/
  | heartbeatMessage (host : Bool)
  /-- FIELD_ABSENCE_TIMEOUT (R301). Four missed heartbeats make the host side declare the field side absent and
  complete waiting accesses. -/
  | fieldAbsenceTimeout
  /-- HOST_ABSENCE_TIMEOUT (R302). With no attended heartbeat for 1 ms, the field side declares the host absent and
  applies the absent policy. -/
  | hostAbsenceTimeout
  /-- WATCHDOG_EXPIRY (R300). The host watchdog expires, ATTENDED becomes 0 and the WDOG alert is set. -/
  | watchdogExpiry
  /-- XNG_KICK (R300). A write to XNG_KICK restarts the host watchdog. -/
  | xngKick (v : Word)
  /-- XNG_WDOG (R300). A write of XNG_WDOG sets the watchdog period, or disables the watchdog with 0. -/
  | xngWdog (v : Word)
  /-- XNG_RAISE (R304). Writing 1 to bits of XNG_RAISE sends host event raises, or loses them while the field side is
  absent. -/
  | xngRaise (v : Word)
  /-- ALARM_MESSAGE (R303). An alarm arrives at the host side and is queued, or dropped when the queue is full. -/
  | alarmMessage
  /-- NOTIFICATION_MESSAGE (R304). An event or watermark notification arrives at the host side and is queued, or
  dropped. -/
  | notificationMessage
  /-- XNG_POP_ALARM (R314). Writing XNG_POP.ALARM removes the oldest queued alarm. -/
  | xngPopAlarm (v : Word)
  /-- XNG_POP_NOTE (R314). Writing XNG_POP.NOTE removes the oldest queued notification. -/
  | xngPopNote (v : Word)
  /-- SAFE_LATCH_CLEAR (R302). Writing 1 to XNG_FSTATUS.SAFE_LATCH while the host is present ends the STOP_SAFE latch. -/
  | safeLatchClear (v : Word)
  /-- XNG_RING_TAIL (R306). A write of a ring's TAIL makes new descriptors available to the bridge. -/
  | xngRingTail (r : RingNo) (v : Word) (descs : List (BitVec 256))
  /-- FERRY_FRAME (R307). A ferry frame crosses and its words are written to, or read from, the matched open LOAD. -/
  | ferryFrame (r : RingNo) (words : List Word72)
  /-- FERRY_DESCRIPTOR_COMPLETE (R307). A descriptor completes; the bridge writes DONE and STS, advances HEAD and
  signals MSI-X if IRQ is set. -/
  | ferryDescriptorComplete (r : RingNo)
  /-- PERST_N_ASSERT (R311). PERST_N resets the bridge and host-side registers, abandons the descriptors being taken
  and makes ATTENDED 0. -/
  | perstNAssert
  /-- PERST_N_RELEASE (R303). PERST_N is released, and held alarms and notifications are sent. -/
  | perstNRelease
  /-- SMBUS_EEPROM_READ (R313). An SMBus read at address 0x50 returns bytes of the module-information EEPROM. -/
  | smbusEepromRead (addr : BitVec 11) (n : Nat)
  /-- SMBUS_STATUS_READ (R313). An SMBus read byte of command 0x00 at address 0x5A returns the module status byte. -/
  | smbusStatusRead
  /-- NV_WRITE_ENABLE (R352). A key-guarded write of NVS_NV_CTRL.WE enables image writes. -/
  | nvWriteEnable (v : Word)
  /-- IMG_WRITE_BLOCK (R352). NVS_IMG_CMD WRITE_BLOCK writes a 4 KiB staged block into the inactive bank. -/
  | imgWriteBlock (tag : BitVec 8)
  /-- IMG_COMMIT (R352). NVS_IMG_CMD COMMIT verifies the inactive bank and writes its commit record. -/
  | imgCommit (tag : BitVec 8)
  /-- IMG_COMMAND_COMPLETE (R352). An image block write or commit finishes and reports its status. -/
  | imgCommandComplete
  /-- DAC_LINEARITY (R359). CAL_CMD opcode 0x1 starts DAC linearity calibration of a channel, opening its output
  switch. -/
  | dacLinearity (tag : BitVec 8) (target : BitVec 8)
  /-- DAC_MARKER_TIMING (R359). CAL_CMD opcode 0x2 starts DAC and marker timing alignment on all eight channels. -/
  | dacMarkerTiming (tag : BitVec 8) (target : BitVec 8)
  /-- ADC_CALIBRATION (R359). CAL_CMD opcode 0x3 starts ADC offset, gain and timing calibration, holding the channel. -/
  | adcCalibration (tag : BitVec 8) (target : BitVec 8)
  /-- PIN_LEVELS (R359). CAL_CMD opcode 0x4 starts pin-level calibration of a group in its safe state. -/
  | pinLevels (tag : BitVec 8) (target : BitVec 8)
  /-- PIN_DESKEW (R359). CAL_CMD opcode 0x5 starts pin deskew of a group into a fixture or open pins. -/
  | pinDeskew (tag : BitVec 8) (target : BitVec 8) (opt : Bool)
  /-- TERXA_SKEW (R359). CAL_CMD opcode 0x6 recalibrates the skew of an UP port without taking it down. -/
  | terxaSkew (tag : BitVec 8) (target : BitVec 8)
  /-- HBM_RETRAIN (R363). CAL_CMD opcode 0x7 pauses Running contexts and retrains a stack. -/
  | hbmRetrain (tag : BitVec 8) (target : BitVec 8)
  /-- CAL_COMMIT (R368). Key-guarded CAL_CMD opcode 0x8 writes the coefficients in force to the older calibration
  slot. -/
  | calCommit (tag : BitVec 8) (target : BitVec 8)
  /-- CAL_PROCEDURE_COMPLETE (R361). A procedure ends: it applies its results and figures, or fails its precondition
  with STS_PRECOND. -/
  | calProcedureComplete (ok : Bool) (a : BitVec 16) (b : BitVec 16) (lat : BitVec 32)
  /-- CAL_COMMIT_COMPLETE (R368). A calibration commit finishes writing the payload and the header of its slot. -/
  | calCommitComplete
  /-- DAC_TEMP_READ (R366). Every 10 ms S1 reads the DAC die temperatures and sets CAL_DUE bits on drift. -/
  | dacTempRead (temps : List (BitVec 8))
  /-- MON_START (R371). A bit of MON_START starts an event counter, clearing it first with CLR set. -/
  | monStart (n : MonNo)
  /-- MON_STOP (R371). A bit of MON_STOP stops an event counter. -/
  | monStop (n : MonNo)
  /-- MON_SNAPSHOT (R371). A bit of MON_SNAP_CMD copies a counter's count and the system time to its snapshot
  registers. -/
  | monSnapshot (n : MonNo)
  /-- BOOT_STAGE_COMPLETE (R344). A boot stage finishes, and the next stage begins; a start-list wait of TYPE 0x2 runs
  out and the list continues. -/
  | bootStageComplete (temps : BitVec 32) (fails : List (Fin 64))
  /-- BLOCK_LOCK_LOSS (R279). A lane loses block lock after 16 invalid sync headers in 64 blocks, so the port or the
  Crossing stops carrying messages on it. -/
  | blockLockLoss (port : Option PortNo)
  /-- TRIANGLE_RETURN_TO_BASE (R275). After RAMP_STOP, a triangle ramp next reaches the base, ends there and clears
  RAMPING. -/
  | triangleReturnToBase
  /-- HOST_SIDE_POWER_UP (R351). 3V3_AUX and the 48 V input become present, the host side powers up with DORMANT 0 and
  the PERST_N-domain registers at their defaults, and heartbeats start. -/
  | hostSidePowerUp
  /-- HOST_SIDE_POWER_LOSS (R335). Host-side power is lost, which returns the PERST_N-domain registers to their reset
  values, releases HOST_ALERT_N and removes field power. -/
  | hostSidePowerLoss
  deriving DecidableEq, Repr

end Sys2Proof
end

