-- ==== Sys2Proof/Decode.lean ====
section
/-! DEFINITION. What the words of spec/opcode_table.json spell. The table gives no row any bits: a command of this block
is a register access, a frame, a message or an event at a pin, and no word of the table names one. -/

namespace Sys2Proof

/-- The command that a word spells by the table's bits: none, since no row gives bits. -/
def decodeTableWord (_nbits _w : Nat) : Option Instr := none

end Sys2Proof
end

