-- ==== Sys2Proof/Config.lean ====
section
/-! DEFINITION. The fixed figures of the module and its FREE VALUES: what the spec leaves open has no body here, so that
no proof can see a value of it. -/

namespace Sys2Proof.Config

/-- L, from registration to commit, in cc (R13). -/
def L : Nat := 48
/-- D, from commit to the landed run, in cc (R13). -/
def D : Nat := 16
/-- Fine steps per core cycle (R2). -/
def fine : Nat := 1024
/-- Lead of a START or RESUME, of a block's decision and of a seamless landed run, in cc (R88, R112, R123). -/
def lead : Nat := 1024
/-- The value that GLB_KEY takes to unlock (R325). -/
def key : Nat := 0x6B1E
/-- The admission ceiling in MB/s (R44). -/
def ceiling : Nat := 2580000
/-- The ceiling of one HBM channel in MB/s (R45). -/
def chanCeiling : Nat := 40312
/-- Extents of the whole memory, and of one rank (R34 ff., "Rate classes, extents and admission"). -/
def extents : Nat := 589824
def rankExtents : Nat := 3072
/-- Lines and words of an extent. -/
def extentLines : Nat := 4096

/-! ## Free values -/

/-- What word off of storage sid holds before anything has written it (R41: "Its contents are undefined until
written"). FREE VALUE, log entry 4. -/
opaque undefWord : Nat → Nat → BitVec 72

/-- A value the hardware produces and the spec does not state, drawn at count n. FREE VALUE, log entry 5. -/
opaque freeValue : Nat → BitVec 72

/-- The coefficients that calibration finds, and the response of circuits the spec gives no numbers for.
FREE VALUE, log entry 6. -/
opaque figure : Nat → Nat → BitVec 32

/-- SHA-384 of a list of bytes (R148, R343): the standard's function, not written out here. Log entry 7. -/
opaque sha384 : List (BitVec 8) → List (BitVec 8)

/-- Whether an ECDSA P-384 signature over a hash verifies under a key: the standard's function, not written out here.
Log entry 7. -/
opaque ecdsaVerifies : (key hash signature : List (BitVec 8)) → Bool

/-- Whether a vendor-signed section verifies under the vendor root key held in the fuses (R343, R146). Log entry 7. -/
opaque vendorVerifies : List (BitVec 8) → Bool

/-- The vendor build's control store and dispatch entries: format defined by Oxnula (R341), contents not given (R131).
Log entry 8. -/
opaque vendorWord : (kind : Bool) → Nat → BitVec 24
opaque vendorStart : (kind : Bool) → Nat → BitVec 12
opaque vendorBuild : List (BitVec 8) → BitVec 16

/-- The 12-bit ADC code of sample i of cycle n of a capture channel: what the input carries. Log entry 9. -/
opaque adcCode : Nat → Nat → Nat → BitVec 12

/-- Whether pin p stands above a level in mV at a fine step: what the DUT drives. Log entry 9. -/
opaque pinAbove : Nat → Int → Nat → Bool

/-- Whether TRIG input n stands at or above level mV at cycle t. Log entry 9. -/
opaque trigHigh : Nat → Int → Nat → Bool

/-- The output of the interpolator for factor k at a phase of the newest input sample, over the history of input samples,
rounded and saturated, and whether it saturated: the spec gives stage lengths and limits, no taps (R158). Log entry 6. -/
opaque interp : (k phase : Nat) → List Int → BitVec 16
opaque interpSat : (k phase : Nat) → List Int → Bool

/-- Tap i below the middle one of the compensation FIR for decimation D and of a halfband, standing for tap / 2^22, and how far
a halfband's gain at DC lies from 1: the spec gives lengths, symmetry and limits, no numbers (R212, R213). Log entry 6. -/
opaque compTap : Nat → Nat → BitVec 24
opaque halfbandTap : Nat → BitVec 24
opaque halfbandDc : BitVec 16

/-- The correction stage of a capture channel: offset, gain, timing and skew coefficients of the calibration (R207).
Log entry 6. -/
opaque correct : (c skew : Nat) → BitVec 64 → List (BitVec 12) → BitVec 12
/-- Whether the correction stage saturated on a sample (R215). Log entry 6. -/
opaque correctSat : (c skew : Nat) → BitVec 64 → List (BitVec 12) → Bool

/-- Whether VCO band b covers an FCW value (R267: 64 bands, their edges not given). Log entry 6. -/
opaque bandCovers : (b : Nat) → Int → Bool

/-- Whether reference input src, not active in cycle t, fails R264 in it: what the input carries. Log entry 56. -/
opaque refFails : (src t : Nat) → Bool

/-- The fine step of cycle t at which TRIG input n crosses a level in mV: what the input carries. Log entry 9. -/
opaque trigFine : Nat → Int → Nat → BitVec 10

/-- Byte a of MRAM device d as delivered, at d × 2^24 + a: the spec states a layout, and no contents (R338). Log entry 11. -/
opaque mramByte : Nat → BitVec 8

/-- The contents of the module-information EEPROM beyond what the spec states (R313). Log entry 10. -/
opaque eepromByte : Nat → BitVec 8

/-- The seed of a channel's 32-bit shift register, and the value after one: the spec gives neither (R248). Log entry 117. -/
opaque lfsrSeed : (ch : Nat) → BitVec 32
opaque lfsrNext : BitVec 32 → BitVec 32

/-- The bank, in the upper 6 bits, and the row in which a line of a storage lies within its extent: the placement engine's own
(R51). Log entry 104. -/
opaque lineSpot : (ext sid line : Nat) → BitVec 24

/-- The fixed pattern of a poisoned line: its 72 bytes (R251). Log entry 118. -/
opaque poisonPattern : List (BitVec 8)

/-- Oxnula's PCI-SIG vendor identifier, and the device's revision: the spec names the first and gives neither (R308). Log entry
122. -/
opaque pciVendor : BitVec 16
opaque pciRevision : BitVec 8

end Sys2Proof.Config
end

