-- ==== Sys2Proof/Machine/Maps.lean ====
section
/-! DEFINITION. Sparse maps: lists of (key, value) pairs in one canonical form, keys strictly rising and no entry equal
to what an unlisted key reads as. -/

namespace Sys2Proof.Machine

/-- A sparse map from naturals. -/
abbrev SMap (α : Type) := List (Nat × α)

/-- The value at key k; d gives what an unlisted key reads as. -/
def mget {α : Type} (d : Nat → α) : SMap α → Nat → α
  | [], k => d k
  | (i, a) :: m, k => if k = i then a else mget d m k

/-- m with a at key k, in order. -/
def mins {α : Type} : SMap α → Nat → α → SMap α
  | [], k, a => [(k, a)]
  | (i, b) :: m, k, a => if k < i then (k, a) :: (i, b) :: m else if k = i then (k, a) :: m else (i, b) :: mins m k a

/-- m without key k. -/
def mdel {α : Type} : SMap α → Nat → SMap α
  | [], _ => []
  | (i, b) :: m, k => if k = i then mdel m k else (i, b) :: mdel m k

/-- m with key k reading a: an entry equal to what an unlisted key reads as is removed. -/
def mset {α : Type} [DecidableEq α] (d : Nat → α) (m : SMap α) (k : Nat) (a : α) : SMap α :=
  if a = d k then mdel m k else mins m k a

/-- The keys of m lie above b and rise strictly. -/
def msorted {α : Type} : Nat → SMap α → Bool
  | _, [] => true
  | b, (i, _) :: m => decide (b ≤ i) && msorted (i + 1) m

/-- No entry of m equals what an unlisted key reads as. -/
def mproper {α : Type} [DecidableEq α] (d : Nat → α) : SMap α → Bool
  | [] => true
  | (i, a) :: m => decide (a ≠ d i) && mproper d m

/-- The canonical form. -/
def mwf {α : Type} [DecidableEq α] (d : Nat → α) (m : SMap α) : Bool := msorted 0 m && mproper d m

/-- The optional value at key k. -/
def mfind {α : Type} : SMap α → Nat → Option α
  | [], _ => none
  | (i, a) :: m, k => if k = i then some a else mfind m k

/-- The entries of m whose key satisfies p. -/
def mfilter {α : Type} (p : Nat → Bool) : SMap α → SMap α
  | [] => []
  | (i, a) :: m => if p i then (i, a) :: mfilter p m else mfilter p m

/-- m with f applied to every value. -/
def mmap {α : Type} (f : Nat → α → α) : SMap α → SMap α
  | [] => []
  | (i, a) :: m => (i, f i a) :: mmap f m

end Sys2Proof.Machine
end

