-- ==== Sys2Proof/Machine/RegMap.lean ====
section
/-! DEFINITION. The register map, written from the register tables of every chapter (R333, R334): one descriptor a
register, with its instances, reset domain, update group and fields; and one named field for each field of the tables. -/

namespace Sys2Proof.Machine

/-- The access codes of R7 and R319. -/
inductive Acc where
  | rw | ro | hw | w1c | wo | rws | rwm | rwk | wo1
  deriving DecidableEq, Repr

/-- The reset domains of R335. -/
inductive Dom where
  | field | tile | capCh | perst | none
  deriving DecidableEq, Repr

/-- The register whose UPD_GRP field governs the RWS fields of a block (R321). -/
inductive Upd where
  | none | plc | seq | evt | wav | grp | cap | mem | clk | txl | mon
  deriving DecidableEq, Repr

/-- One field of a register: its lowest bit, width, access code and reset value. -/
structure FieldD where
  lo : Nat
  n : Nat
  acc : Acc
  rst : Nat
  deriving DecidableEq, Repr

/-- One register of the map with its instances: instance (i, j) lies at base + i × s1 + j × s2, for i below c1 and
j below c2. -/
structure RegD where
  base : Nat
  c1 : Nat
  s1 : Nat
  c2 : Nat
  s2 : Nat
  dom : Dom
  upd : Upd
  flds : List FieldD
  deriving DecidableEq, Repr

/-- A named field of one register instance: its address, lowest bit and width. -/
structure Fld where
  addr : Nat
  lo : Nat
  n : Nat
  deriving DecidableEq, Repr

/-- The registers of the MEM and PLC. -/
def regsMemPlc : List RegD :=
  [
    ⟨0x038000, 1, 0x0, 1, 0x0, .field, .none, [⟨24, 8, .wo, 0⟩, ⟨7, 1, .wo, 0⟩, ⟨0, 4, .wo, 0⟩]⟩ /- PLC_CMD -/,
    ⟨0x038004, 1, 0x0, 1, 0x0, .field, .none, [⟨24, 8, .hw, 0⟩, ⟨16, 8, .hw, 0⟩, ⟨3, 1, .hw, 0⟩, ⟨2, 1, .hw, 0⟩, ⟨1, 1, .w1c, 0⟩, ⟨0, 1, .hw, 0⟩]⟩ /- PLC_STATUS -/,
    ⟨0x038008, 6, 0x4, 1, 0x0, .field, .none, [⟨0, 32, .rw, 0⟩]⟩ /- PLC_ARG -/,
    ⟨0x038020, 4, 0x4, 1, 0x0, .field, .none, [⟨0, 32, .hw, 0⟩]⟩ /- PLC_RES -/,
    ⟨0x038040, 1, 0x0, 1, 0x0, .field, .none, [⟨0, 20, .hw, 0⟩]⟩ /- PLC_CAP -/,
    ⟨0x038044, 1, 0x0, 1, 0x0, .field, .none, [⟨0, 21, .hw, 0⟩]⟩ /- PLC_HANDLES -/,
    ⟨0x038048, 1, 0x0, 1, 0x0, .field, .none, [⟨0, 32, .hw, 0⟩]⟩ /- PLC_ADMIT -/,
    ⟨0x03804C, 1, 0x0, 1, 0x0, .field, .none, [⟨8, 5, .hw, 4⟩, ⟨0, 8, .hw, 0⟩]⟩ /- PLC_SPARE -/,
    ⟨0x038050, 1, 0x0, 1, 0x0, .field, .plc, [⟨16, 1, .rws, 1⟩, ⟨8, 8, .rws, 0x40⟩, ⟨0, 4, .rw, 0⟩]⟩ /- PLC_CFG -/,
    ⟨0x038054, 1, 0x0, 1, 0x0, .field, .none, [⟨0, 20, .hw, 0⟩]⟩ /- PLC_MIG_STATUS -/,
    ⟨0x030000, 1, 0x0, 1, 0x0, .field, .mem, [⟨9, 1, .rws, 1⟩, ⟨8, 1, .rws, 0⟩, ⟨0, 4, .rw, 0⟩]⟩ /- MEM_CTRL -/,
    ⟨0x030004, 1, 0x0, 1, 0x0, .field, .none, [⟨13, 1, .w1c, 0⟩, ⟨12, 1, .w1c, 0⟩, ⟨11, 1, .w1c, 0⟩, ⟨10, 1, .w1c, 0⟩, ⟨9, 1, .w1c, 0⟩, ⟨8, 1, .w1c, 0⟩, ⟨7, 1, .hw, 0⟩, ⟨6, 1, .hw, 0⟩, ⟨5, 1, .hw, 0⟩, ⟨4, 1, .hw, 0⟩, ⟨3, 1, .hw, 0⟩, ⟨2, 1, .hw, 0⟩, ⟨1, 1, .hw, 0⟩, ⟨0, 1, .hw, 0⟩]⟩ /- MEM_STATUS -/] ++
  [
    ⟨0x030008, 1, 0x0, 1, 0x0, .field, .mem, [⟨16, 4, .hw, 0⟩, ⟨0, 16, .rws, 0x1f4⟩]⟩ /- MEM_SR -/,
    ⟨0x03000C, 1, 0x0, 1, 0x0, .field, .mem, [⟨0, 5, .rws, 0xa⟩]⟩ /- MEM_NBR -/,
    ⟨0x030010, 1, 0x0, 1, 0x0, .field, .mem, [⟨0, 3, .rws, 4⟩]⟩ /- MEM_ECC -/,
    ⟨0x030014, 1, 0x0, 1, 0x0, .field, .mem, [⟨0, 4, .rws, 8⟩]⟩ /- MEM_RET_RATE -/,
    ⟨0x030018, 1, 0x0, 1, 0x0, .field, .none, [⟨0, 32, .hw, 0⟩]⟩ /- MEM_TEMP -/,
    ⟨0x03001C, 1, 0x0, 1, 0x0, .field, .none, [⟨0, 32, .hw, 0⟩]⟩ /- MEM_TEMP_REF -/,
    ⟨0x030020, 1, 0x0, 1, 0x0, .field, .none, [⟨0, 32, .rw, 0⟩]⟩ /- MEM_CE_CNT -/,
    ⟨0x030024, 1, 0x0, 1, 0x0, .field, .none, [⟨0, 32, .rw, 0⟩]⟩ /- MEM_UE_CNT -/,
    ⟨0x030028, 1, 0x0, 1, 0x0, .field, .none, [⟨0, 32, .rw, 0⟩]⟩ /- MEM_PAR_CNT -/,
    ⟨0x03002C, 1, 0x0, 1, 0x0, .field, .none, [⟨0, 32, .rw, 0⟩]⟩ /- MEM_PPLAY_CNT -/,
    ⟨0x030030, 1, 0x0, 1, 0x0, .field, .none, [⟨0, 32, .rw, 0⟩]⟩ /- MEM_LATE_CNT -/,
    ⟨0x030034, 1, 0x0, 1, 0x0, .field, .none, [⟨0, 32, .rw, 0⟩]⟩ /- MEM_URGENT_CNT -/] ++
  [
    ⟨0x030038, 1, 0x0, 1, 0x0, .field, .none, [⟨16, 9, .hw, 0⟩, ⟨0, 8, .hw, 0⟩]⟩ /- MEM_LOG_WR -/,
    ⟨0x03003C, 1, 0x0, 1, 0x0, .field, .none, [⟨16, 8, .hw, 0⟩, ⟨0, 7, .hw, 0⟩]⟩ /- MEM_SERVICE -/]

/-- The registers of the context table. -/
def regsTableCtx : List RegD :=
  [
    ⟨0x180000, 1024, 0x200, 1, 0x0, .field, .none, [⟨28, 3, .hw, 0⟩, ⟨16, 8, .hw, 0⟩, ⟨8, 2, .rw, 0⟩, ⟨4, 1, .rw, 0⟩, ⟨0, 4, .rw, 0⟩]⟩ /- CTX_CFG -/,
    ⟨0x180004, 1024, 0x200, 1, 0x0, .field, .none, [⟨0, 32, .rw, 0⟩]⟩ /- CTX_BRIDGE -/,
    ⟨0x180008, 1024, 0x200, 1, 0x0, .field, .none, [⟨0, 32, .rw, 0⟩]⟩ /- CTX_INIT_PC_LO -/,
    ⟨0x180010, 1024, 0x200, 1, 0x0, .field, .none, [⟨0, 32, .hw, 0⟩]⟩ /- CTX_PC_LO -/,
    ⟨0x180024, 1024, 0x200, 1, 0x0, .field, .none, [⟨0, 32, .rw, 0⟩]⟩ /- CTX_DIVERT_LO -/,
    ⟨0x18000C, 1024, 0x200, 1, 0x0, .field, .none, [⟨8, 24, .rw, 0⟩, ⟨0, 2, .rw, 0⟩]⟩ /- CTX_INIT_PC_HI -/,
    ⟨0x180014, 1024, 0x200, 1, 0x0, .field, .none, [⟨8, 24, .hw, 0⟩, ⟨0, 2, .hw, 0⟩]⟩ /- CTX_PC_HI -/,
    ⟨0x180028, 1024, 0x200, 1, 0x0, .field, .none, [⟨8, 24, .rw, 0⟩, ⟨0, 2, .rw, 0⟩]⟩ /- CTX_DIVERT_HI -/,
    ⟨0x180018, 1024, 0x200, 2, 0x4, .field, .none, [⟨0, 32, .rw, 0⟩]⟩ /- CTX_CNT -/,
    ⟨0x180020, 1024, 0x200, 1, 0x0, .field, .none, [⟨16, 1, .hw, 0⟩, ⟨8, 5, .hw, 0⟩, ⟨0, 4, .hw, 0⟩]⟩ /- CTX_DEPTH -/,
    ⟨0x18002C, 1024, 0x200, 1, 0x0, .field, .none, [⟨8, 8, .hw, 0⟩, ⟨0, 8, .hw, 0⟩]⟩ /- CTX_FAULT -/,
    ⟨0x180140, 1024, 0x200, 8, 0x10, .field, .none, [⟨31, 1, .hw, 0⟩, ⟨30, 1, .hw, 0⟩, ⟨29, 1, .hw, 0⟩, ⟨28, 1, .hw, 0⟩, ⟨25, 3, .hw, 0⟩, ⟨24, 1, .hw, 0⟩, ⟨16, 6, .hw, 0⟩, ⟨0, 10, .hw, 0⟩]⟩ /- ARM_CTL -/] ++
  [
    ⟨0x180144, 1024, 0x200, 8, 0x10, .field, .none, [⟨8, 24, .hw, 0⟩]⟩ /- ARM_TGT_H -/,
    ⟨0x180148, 1024, 0x200, 8, 0x10, .field, .none, [⟨0, 22, .hw, 0⟩]⟩ /- ARM_TGT_O -/,
    ⟨0x18014C, 1024, 0x200, 8, 0x10, .field, .none, [⟨0, 32, .hw, 0⟩]⟩ /- ARM_FIRED -/]

/-- The registers of the SEQ, LND, MC, WAV and NCO of the tiles. -/
def regsTiles : List RegD :=
  [
    ⟨0x080000, 16, 0x4000, 1, 0x0, .tile, .seq, [⟨9, 1, .rws, 0⟩, ⟨8, 1, .rws, 0⟩, ⟨0, 4, .rw, 0⟩]⟩ /- SEQ_CTRL -/,
    ⟨0x080004, 16, 0x4000, 1, 0x0, .tile, .none, [⟨31, 1, .hw, 0⟩, ⟨30, 1, .hw, 0⟩, ⟨20, 10, .hw, 0⟩, ⟨10, 10, .hw, 0⟩, ⟨4, 1, .w1c, 0⟩, ⟨3, 1, .w1c, 0⟩, ⟨2, 1, .w1c, 0⟩, ⟨1, 1, .w1c, 0⟩, ⟨0, 1, .w1c, 0⟩]⟩ /- SEQ_STATUS -/,
    ⟨0x080008, 16, 0x4000, 1, 0x0, .tile, .none, [⟨24, 8, .wo, 0⟩, ⟨14, 10, .wo, 0⟩, ⟨8, 2, .wo, 0⟩, ⟨7, 1, .wo, 0⟩, ⟨0, 4, .wo, 0⟩]⟩ /- SEQ_CMD -/,
    ⟨0x08000C, 16, 0x4000, 1, 0x0, .tile, .none, [⟨24, 8, .hw, 0⟩, ⟨16, 8, .hw, 0⟩, ⟨1, 1, .w1c, 0⟩, ⟨0, 1, .hw, 0⟩]⟩ /- SEQ_CMD_STATUS -/,
    ⟨0x080010, 16, 0x4000, 2, 0x4, .tile, .none, [⟨0, 32, .rw, 0⟩]⟩ /- SEQ_ARG -/,
    ⟨0x080018, 16, 0x4000, 1, 0x0, .tile, .none, [⟨22, 10, .hw, 0⟩, ⟨8, 8, .hw, 0⟩, ⟨0, 8, .hw, 0⟩]⟩ /- SEQ_FAULT -/,
    ⟨0x08001C, 16, 0x4000, 1, 0x0, .tile, .none, [⟨0, 9, .hw, 0⟩]⟩ /- SEQ_RESIDENT -/,
    ⟨0x080020, 16, 0x4000, 1, 0x0, .tile, .none, [⟨0, 32, .rw, 0⟩]⟩ /- SEQ_GAP_CNT -/,
    ⟨0x080024, 16, 0x4000, 1, 0x0, .tile, .none, [⟨0, 32, .rw, 0⟩]⟩ /- SEQ_LATE_CNT -/,
    ⟨0x080028, 16, 0x4000, 1, 0x0, .tile, .none, [⟨0, 32, .hw, 0⟩]⟩ /- SEQ_MARK_TAG -/,
    ⟨0x08002C, 16, 0x4000, 1, 0x0, .tile, .none, [⟨0, 32, .hw, 0⟩]⟩ /- SEQ_MARK_TS_LO -/,
    ⟨0x080030, 16, 0x4000, 1, 0x0, .tile, .none, [⟨0, 32, .hw, 0⟩]⟩ /- SEQ_MARK_TS_HI -/] ++
  [
    ⟨0x080034, 16, 0x4000, 1, 0x0, .tile, .none, [⟨22, 10, .hw, 0⟩, ⟨16, 6, .hw, 0⟩, ⟨0, 16, .hw, 0⟩]⟩ /- SEQ_RESUME -/,
    ⟨0x080100, 16, 0x4000, 1, 0x0, .tile, .none, [⟨8, 6, .hw, 0⟩, ⟨0, 6, .hw, 0x30⟩]⟩ /- LND_STATUS -/,
    ⟨0x080104, 16, 0x4000, 1, 0x0, .tile, .none, [⟨0, 32, .rw, 0⟩]⟩ /- LND_LOST_CNT -/,
    ⟨0x080108, 16, 0x4000, 1, 0x0, .tile, .none, [⟨0, 32, .rw, 0⟩]⟩ /- LND_UNLANDED_CNT -/,
    ⟨0x080200, 16, 0x4000, 1, 0x0, .field, .none, [⟨16, 16, .hw, 0⟩, ⟨0, 16, .hw, 0⟩]⟩ /- MC_VERSION -/,
    ⟨0x080204, 16, 0x4000, 1, 0x0, .field, .none, [⟨24, 8, .hw, 0⟩, ⟨0, 1, .hw, 0⟩]⟩ /- MC_STATUS -/,
    ⟨0x080208, 16, 0x4000, 1, 0x0, .field, .none, [⟨8, 24, .rw, 0⟩]⟩ /- MC_ULOAD_SRC -/,
    ⟨0x08020C, 16, 0x4000, 1, 0x0, .field, .none, [⟨0, 1, .rwk, 0⟩]⟩ /- MC_ULOAD -/,
    ⟨0x080400, 8, 0x4000, 1, 0x0, .field, .wav, [⟨9, 1, .rw, 0⟩, ⟨8, 1, .rws, 0⟩, ⟨4, 2, .rws, 0⟩, ⟨0, 4, .rw, 0⟩]⟩ /- WAV_CTRL -/,
    ⟨0x080404, 8, 0x4000, 1, 0x0, .field, .wav, [⟨4, 3, .rws, 0⟩, ⟨0, 2, .rws, 0⟩]⟩ /- WAV_CFG -/,
    ⟨0x080408, 8, 0x4000, 1, 0x0, .field, .wav, [⟨0, 16, .rws, 0⟩]⟩ /- WAV_HOLD -/,
    ⟨0x08040C, 8, 0x4000, 1, 0x0, .field, .wav, [⟨0, 28, .rws, 0x8000000⟩]⟩ /- WAV_GAIN -/] ++
  [
    ⟨0x080410, 8, 0x4000, 1, 0x0, .field, .wav, [⟨0, 28, .rws, 0⟩]⟩ /- WAV_OFFSET -/,
    ⟨0x080414, 8, 0x4000, 1, 0x0, .field, .wav, [⟨0, 14, .rws, 0⟩]⟩ /- WAV_SLEW_STEP -/,
    ⟨0x080418, 8, 0x4000, 1, 0x0, .field, .wav, [⟨0, 8, .rws, 0⟩]⟩ /- WAV_SLEW_RATE -/,
    ⟨0x08041C, 8, 0x4000, 1, 0x0, .field, .wav, [⟨0, 6, .rws, 8⟩]⟩ /- WAV_MTH -/,
    ⟨0x080420, 8, 0x4000, 1, 0x0, .field, .none, [⟨6, 1, .hw, 0⟩, ⟨5, 1, .hw, 0⟩, ⟨4, 1, .hw, 0⟩, ⟨3, 1, .hw, 0⟩, ⟨2, 1, .w1c, 0⟩, ⟨1, 1, .w1c, 0⟩, ⟨0, 1, .w1c, 0⟩]⟩ /- WAV_STATUS -/,
    ⟨0x080424, 8, 0x4000, 1, 0x0, .field, .none, [⟨0, 32, .rw, 0⟩]⟩ /- WAV_SAT_CNT -/,
    ⟨0x080428, 8, 0x4000, 1, 0x0, .field, .none, [⟨0, 32, .rw, 0⟩]⟩ /- WAV_SLEW_CNT -/,
    ⟨0x08042C, 8, 0x4000, 1, 0x0, .field, .none, [⟨0, 32, .rw, 0⟩]⟩ /- WAV_MTH_CNT -/,
    ⟨0x080430, 8, 0x4000, 1, 0x0, .field, .none, [⟨0, 32, .hw, 0⟩]⟩ /- WAV_GDELAY -/,
    ⟨0x080434, 8, 0x4000, 1, 0x0, .field, .none, [⟨0, 28, .hw, 0x8000000⟩]⟩ /- WAV_GAIN_ACT -/,
    ⟨0x080438, 8, 0x4000, 1, 0x0, .field, .none, [⟨0, 28, .hw, 0⟩]⟩ /- WAV_OFFSET_ACT -/,
    ⟨0x080440, 8, 0x4000, 1, 0x0, .field, .wav, [⟨0, 32, .rws, 0⟩]⟩ /- NCO_FTW_LO -/] ++
  [
    ⟨0x080444, 8, 0x4000, 1, 0x0, .field, .wav, [⟨0, 16, .rws, 0⟩]⟩ /- NCO_FTW_HI -/,
    ⟨0x080448, 8, 0x4000, 1, 0x0, .field, .none, [⟨0, 32, .hw, 0⟩]⟩ /- NCO_FTW_ACT_LO -/,
    ⟨0x08044C, 8, 0x4000, 1, 0x0, .field, .none, [⟨0, 16, .hw, 0⟩]⟩ /- NCO_FTW_ACT_HI -/,
    ⟨0x080450, 8, 0x4000, 1, 0x0, .field, .wav, [⟨0, 32, .rws, 0⟩]⟩ /- NCO_RST_PH_LO -/,
    ⟨0x080454, 8, 0x4000, 1, 0x0, .field, .wav, [⟨0, 16, .rws, 0⟩]⟩ /- NCO_RST_PH_HI -/,
    ⟨0x080458, 8, 0x4000, 1, 0x0, .field, .wav, [⟨0, 16, .rws, 0xffff⟩]⟩ /- NCO_AMP -/]

/-- The registers of the EVT. -/
def regsEvt : List RegD :=
  [
    ⟨0x040000, 1, 0x0, 1, 0x0, .field, .evt, [⟨8, 1, .rws, 1⟩, ⟨0, 4, .rw, 0⟩]⟩ /- EVT_CTRL -/,
    ⟨0x040004, 1, 0x0, 1, 0x0, .field, .none, [⟨4, 1, .hw, 0⟩, ⟨3, 1, .w1c, 0⟩, ⟨2, 1, .w1c, 0⟩, ⟨1, 1, .w1c, 0⟩, ⟨0, 1, .w1c, 0⟩]⟩ /- EVT_STATUS -/,
    ⟨0x040008, 1, 0x0, 1, 0x0, .field, .evt, [⟨0, 32, .rws, 0x1000⟩]⟩ /- EVT_SYS_BUDGET -/,
    ⟨0x04000C, 1, 0x0, 1, 0x0, .field, .none, [⟨0, 32, .rw, 0⟩]⟩ /- EVT_SYS_LATE_CNT -/,
    ⟨0x040010, 1, 0x0, 1, 0x0, .field, .none, [⟨0, 32, .wo, 0⟩]⟩ /- EVT_HOST_RAISE -/,
    ⟨0x040014, 1, 0x0, 1, 0x0, .field, .none, [⟨0, 9, .hw, 0⟩]⟩ /- EVT_LOG_WR -/,
    ⟨0x040040, 4, 0x4, 1, 0x0, .field, .evt, [⟨16, 12, .rws, 0⟩, ⟨4, 2, .rws, 0⟩, ⟨2, 1, .rws, 0⟩, ⟨0, 1, .rws, 0⟩]⟩ /- EVT_TRIG_CFG -/,
    ⟨0x040080, 16, 0x10, 1, 0x0, .field, .evt, [⟨16, 10, .rws, 0⟩, ⟨12, 4, .rws, 0⟩, ⟨4, 2, .rws, 0⟩, ⟨1, 1, .rws, 0⟩, ⟨0, 1, .hw, 0⟩]⟩ /- EVT_TMR_CTRL -/,
    ⟨0x040084, 16, 0x10, 1, 0x0, .field, .evt, [⟨0, 32, .rws, 0⟩]⟩ /- EVT_TMR_PER_LO -/,
    ⟨0x040088, 16, 0x10, 1, 0x0, .field, .evt, [⟨0, 16, .rws, 0⟩]⟩ /- EVT_TMR_PER_HI -/,
    ⟨0x040180, 1, 0x0, 1, 0x0, .field, .none, [⟨16, 16, .wo, 0⟩, ⟨0, 16, .wo, 0⟩]⟩ /- EVT_TMR_CMD -/,
    ⟨0x0401C0, 16, 0x4, 1, 0x0, .field, .evt, [⟨31, 1, .rws, 0⟩, ⟨16, 8, .rws, 0⟩, ⟨0, 10, .rws, 0⟩]⟩ /- EVT_SYSOUT -/]

/-- The registers of the event map and capture buffer entries. -/
def regsTableEvtBuf : List RegD :=
  [
    ⟨0x160000, 276, 0x4, 1, 0x0, .field, .evt, [⟨31, 1, .rws, 1⟩, ⟨30, 1, .rws, 1⟩, ⟨12, 16, .rws, 0⟩, ⟨0, 9, .rws, 0⟩]⟩ /- EVT_MAP -/,
    ⟨0x160450, 492, 0x4, 1, 0x0, .field, .evt, [⟨31, 1, .rws, 0⟩, ⟨30, 1, .rws, 1⟩, ⟨12, 16, .rws, 0⟩, ⟨0, 9, .rws, 0⟩]⟩ /- EVT_MAP -/,
    ⟨0x161000, 16, 0x40, 1, 0x0, .field, .none, [⟨16, 10, .rw, 0⟩, ⟨8, 1, .wo, 0⟩, ⟨4, 2, .rw, 0⟩, ⟨0, 1, .rw, 0⟩]⟩ /- CBUF_CFG -/,
    ⟨0x161004, 16, 0x40, 1, 0x0, .field, .none, [⟨0, 32, .rw, 0⟩]⟩ /- CBUF_PRE -/,
    ⟨0x161008, 16, 0x40, 1, 0x0, .field, .none, [⟨0, 32, .rw, 0⟩]⟩ /- CBUF_POST -/,
    ⟨0x16100C, 16, 0x40, 1, 0x0, .field, .none, [⟨24, 8, .hw, 0⟩, ⟨6, 1, .w1c, 0⟩, ⟨4, 2, .hw, 0⟩, ⟨0, 3, .hw, 0⟩]⟩ /- CBUF_STATUS -/,
    ⟨0x161010, 16, 0x40, 1, 0x0, .field, .none, [⟨0, 32, .hw, 0⟩]⟩ /- CBUF_TRIG_LO -/,
    ⟨0x161014, 16, 0x40, 1, 0x0, .field, .none, [⟨0, 2, .hw, 0⟩]⟩ /- CBUF_TRIG_HI -/,
    ⟨0x161018, 16, 0x40, 1, 0x0, .field, .none, [⟨0, 32, .hw, 0⟩]⟩ /- CBUF_FIRST_LO -/,
    ⟨0x16101C, 16, 0x40, 1, 0x0, .field, .none, [⟨0, 2, .hw, 0⟩]⟩ /- CBUF_FIRST_HI -/,
    ⟨0x161020, 16, 0x40, 1, 0x0, .field, .none, [⟨0, 32, .hw, 0⟩]⟩ /- CBUF_COUNT_LO -/,
    ⟨0x161024, 16, 0x40, 1, 0x0, .field, .none, [⟨0, 2, .hw, 0⟩]⟩ /- CBUF_COUNT_HI -/]

/-- The registers of the slipway and rank tables. -/
def regsTableSlwRank : List RegD :=
  [
    ⟨0x170000, 256, 0x40, 1, 0x0, .field, .none, [⟨8, 24, .rw, 0⟩, ⟨0, 1, .rw, 0⟩]⟩ /- SLW_HANDLE -/,
    ⟨0x170004, 256, 0x40, 1, 0x0, .field, .none, [⟨0, 17, .rw, 0x40⟩]⟩ /- SLW_BLOCK -/,
    ⟨0x170008, 256, 0x40, 1, 0x0, .field, .none, [⟨16, 16, .rw, 1⟩, ⟨0, 16, .rw, 0⟩]⟩ /- SLW_WMARK -/,
    ⟨0x17000C, 256, 0x40, 1, 0x0, .field, .none, [⟨8, 1, .rw, 0⟩, ⟨7, 1, .rw, 0⟩, ⟨0, 6, .rw, 0⟩]⟩ /- SLW_SIG -/,
    ⟨0x170010, 256, 0x40, 1, 0x0, .field, .none, [⟨0, 32, .hw, 0⟩]⟩ /- SLW_WR_LO -/,
    ⟨0x170014, 256, 0x40, 1, 0x0, .field, .none, [⟨0, 32, .hw, 0⟩]⟩ /- SLW_WR_HI -/,
    ⟨0x170018, 256, 0x40, 1, 0x0, .field, .none, [⟨0, 32, .hw, 0⟩]⟩ /- SLW_RD_LO -/,
    ⟨0x17001C, 256, 0x40, 1, 0x0, .field, .none, [⟨0, 32, .hw, 0⟩]⟩ /- SLW_RD_HI -/,
    ⟨0x170020, 256, 0x40, 1, 0x0, .field, .none, [⟨0, 32, .rw, 0⟩]⟩ /- SLW_UR_CNT -/,
    ⟨0x170024, 256, 0x40, 1, 0x0, .field, .none, [⟨0, 32, .hw, 0⟩]⟩ /- SLW_UR_TIME_LO -/,
    ⟨0x170028, 256, 0x40, 1, 0x0, .field, .none, [⟨0, 32, .hw, 0⟩]⟩ /- SLW_UR_TIME_HI -/,
    ⟨0x178000, 192, 0x20, 1, 0x0, .field, .none, [⟨24, 8, .hw, 0⟩, ⟨12, 12, .hw, 0⟩, ⟨8, 4, .hw, 0⟩, ⟨0, 3, .hw, 0⟩]⟩ /- RANK_STATE -/] ++
  [
    ⟨0x178004, 192, 0x20, 1, 0x0, .field, .none, [⟨0, 32, .rw, 0⟩]⟩ /- RANK_CE_CNT -/,
    ⟨0x178008, 192, 0x20, 1, 0x0, .field, .none, [⟨0, 32, .rw, 0⟩]⟩ /- RANK_UE_CNT -/,
    ⟨0x17800C, 192, 0x20, 1, 0x0, .field, .none, [⟨0, 32, .hw, 0⟩]⟩ /- RANK_RET_TIME_LO -/,
    ⟨0x178010, 192, 0x20, 1, 0x0, .field, .none, [⟨0, 32, .hw, 0⟩]⟩ /- RANK_RET_TIME_HI -/,
    ⟨0x178014, 192, 0x20, 1, 0x0, .field, .none, [⟨16, 16, .hw, 0⟩, ⟨0, 16, .hw, 0⟩]⟩ /- RANK_EYE -/]

/-- The registers of the dispatch tables. -/
def regsDispatchT : List RegD :=
  [
    ⟨0x140000, 16, 0x100, 64, 0x4, .field, .none, [⟨15, 1, .ro, 0⟩, ⟨0, 12, .ro, 0⟩]⟩ /- MC_DISPATCH -/]

/-- The registers of the CAL and NVS. -/
def regsCalNvs : List RegD :=
  [
    ⟨0x070200, 12, 0x4, 1, 0x0, .none, .none, [⟨0, 32, .wo1, 0⟩]⟩ /- NVS_UKEY_HASH -/,
    ⟨0x070230, 1, 0x0, 1, 0x0, .field, .none, [⟨24, 8, .hw, 0⟩, ⟨2, 1, .hw, 0⟩, ⟨1, 1, .hw, 0⟩, ⟨0, 1, .rwk, 0⟩]⟩ /- NVS_UKEY_CTRL -/,
    ⟨0x070100, 1, 0x0, 1, 0x0, .field, .none, [⟨24, 8, .hw, 0⟩, ⟨16, 8, .hw, 0⟩, ⟨8, 4, .hw, 1⟩, ⟨4, 1, .hw, 0⟩, ⟨0, 1, .hw, 0⟩]⟩ /- NVS_BOOT -/,
    ⟨0x070104, 1, 0x0, 1, 0x0, .none, .none, [⟨16, 16, .hw, 0⟩, ⟨0, 8, .hw, 0⟩]⟩ /- NVS_RST_CAUSE -/,
    ⟨0x070108, 1, 0x0, 1, 0x0, .field, .none, [⟨0, 16, .wo, 0⟩]⟩ /- NVS_FIELD_RST -/,
    ⟨0x07010C, 1, 0x0, 1, 0x0, .field, .none, [⟨0, 16, .wo, 0⟩]⟩ /- NVS_TILE_RST -/,
    ⟨0x070110, 1, 0x0, 1, 0x0, .field, .none, [⟨18, 1, .w1c, 0⟩, ⟨17, 1, .hw, 0⟩, ⟨16, 1, .hw, 0⟩, ⟨0, 10, .hw, 0⟩]⟩ /- NVS_SUPPLY -/,
    ⟨0x070114, 1, 0x0, 1, 0x0, .field, .none, [⟨16, 16, .hw, 0⟩, ⟨8, 8, .hw, 0⟩, ⟨0, 8, .hw, 0⟩]⟩ /- NVS_LIST -/,
    ⟨0x070300, 1, 0x0, 1, 0x0, .field, .none, [⟨1, 1, .hw, 0⟩, ⟨0, 1, .rwk, 0⟩]⟩ /- NVS_NV_CTRL -/,
    ⟨0x070304, 1, 0x0, 1, 0x0, .field, .none, [⟨24, 8, .wo, 0⟩, ⟨7, 1, .wo, 0⟩, ⟨0, 4, .wo, 0⟩]⟩ /- NVS_IMG_CMD -/,
    ⟨0x070308, 1, 0x0, 1, 0x0, .field, .none, [⟨0, 32, .rw, 0⟩]⟩ /- NVS_IMG_ADDR -/,
    ⟨0x07030C, 1, 0x0, 1, 0x0, .field, .none, [⟨24, 8, .hw, 0⟩, ⟨16, 8, .hw, 0⟩, ⟨1, 1, .w1c, 0⟩, ⟨0, 1, .hw, 0⟩]⟩ /- NVS_IMG_STATUS -/] ++
  [
    ⟨0x071000, 1024, 0x4, 1, 0x0, .field, .none, [⟨0, 32, .rw, 0⟩]⟩ /- NVS_STAGE -/,
    ⟨0x070000, 1, 0x0, 1, 0x0, .field, .none, [⟨24, 8, .wo, 0⟩, ⟨16, 1, .wo, 0⟩, ⟨8, 4, .wo, 0⟩, ⟨7, 1, .wo, 0⟩, ⟨0, 4, .wo, 0⟩]⟩ /- CAL_CMD -/,
    ⟨0x070004, 1, 0x0, 1, 0x0, .field, .none, [⟨24, 8, .hw, 0⟩, ⟨16, 8, .hw, 0⟩, ⟨1, 1, .w1c, 0⟩, ⟨0, 1, .hw, 0⟩]⟩ /- CAL_CMD_STATUS -/,
    ⟨0x070008, 1, 0x0, 1, 0x0, .field, .none, [⟨16, 16, .hw, 0xffff⟩, ⟨0, 16, .hw, 0xffff⟩]⟩ /- CAL_QUAL -/,
    ⟨0x07000C, 1, 0x0, 1, 0x0, .field, .none, [⟨3, 1, .hw, 0⟩, ⟨2, 1, .hw, 0⟩, ⟨0, 2, .hw, 0⟩]⟩ /- CAL_STORE -/,
    ⟨0x070010, 1, 0x0, 1, 0x0, .field, .none, [⟨0, 32, .hw, 0⟩]⟩ /- CAL_SEQ_A -/,
    ⟨0x070014, 1, 0x0, 1, 0x0, .field, .none, [⟨0, 32, .hw, 0⟩]⟩ /- CAL_SEQ_B -/,
    ⟨0x070018, 1, 0x0, 1, 0x0, .field, .none, [⟨0, 8, .hw, 0⟩]⟩ /- CAL_DUE -/,
    ⟨0x07001C, 1, 0x0, 1, 0x0, .field, .none, [⟨24, 1, .hw, 0⟩, ⟨16, 8, .hw, 0⟩, ⟨8, 8, .hw, 0⟩, ⟨0, 8, .hw, 0⟩]⟩ /- CAL_BOOT -/,
    ⟨0x070040, 33, 0x4, 1, 0x0, .field, .none, [⟨16, 16, .hw, 0xffff⟩, ⟨0, 16, .hw, 0xffff⟩]⟩ /- CAL_Q -/,
    ⟨0x070118, 1, 0x0, 1, 0x0, .field, .none, [⟨24, 8, .hw, 0⟩, ⟨16, 8, .hw, 0⟩, ⟨8, 8, .hw, 0⟩, ⟨0, 8, .hw, 0⟩]⟩ /- NVS_TEMP -/,
    ⟨0x07011C, 1, 0x0, 1, 0x0, .field, .none, [⟨24, 8, .hw, 0⟩, ⟨16, 8, .hw, 0⟩, ⟨2, 1, .w1c, 0⟩, ⟨1, 1, .w1c, 0⟩, ⟨0, 1, .hw, 0⟩]⟩ /- NVS_HV_STATUS -/]

/-- The registers of the waveform analog paths. -/
def regsWpath : List RegD :=
  [
    ⟨0x0E0000, 8, 0x800, 1, 0x0, .field, .wav, [⟨0, 4, .rws, 0⟩]⟩ /- WAV_RANGE -/,
    ⟨0x0E0004, 8, 0x800, 1, 0x0, .field, .none, [⟨0, 4, .hw, 0⟩]⟩ /- WAV_PATH_STATUS -/,
    ⟨0x0E0010, 8, 0x800, 2, 0x4, .field, .wav, [⟨0, 12, .rws, 0⟩]⟩ /- MK_DELAY -/,
    ⟨0x0E0018, 8, 0x800, 2, 0x4, .field, .wav, [⟨16, 16, .rws, 0x3e8⟩, ⟨0, 16, .rws, 0⟩]⟩ /- MK_LEVEL -/]

/-- The registers of the pin groups and pins. -/
def regsGrp : List RegD :=
  [
    ⟨0x0D0000, 2, 0x4000, 1, 0x1000, .field, .grp, [⟨11, 1, .rw, 0⟩, ⟨10, 1, .rws, 0⟩, ⟨9, 1, .rw, 0⟩, ⟨0, 4, .rw, 0⟩]⟩ /- GRP_CTRL -/,
    ⟨0x0D1000, 2, 0x4000, 3, 0x1000, .field, .grp, [⟨10, 1, .rws, 0⟩, ⟨9, 1, .rw, 0⟩, ⟨0, 4, .rw, 0⟩]⟩ /- GRP_CTRL -/,
    ⟨0x0D0004, 6, 0x1000, 1, 0x0, .field, .none, [⟨6, 1, .hw, 0⟩, ⟨5, 1, .w1c, 0⟩, ⟨4, 1, .hw, 0⟩, ⟨3, 1, .w1c, 0⟩, ⟨2, 1, .w1c, 0⟩, ⟨1, 1, .hw, 0⟩, ⟨0, 1, .hw, 0⟩]⟩ /- GRP_STATUS -/,
    ⟨0x0D6004, 2, 0x1000, 1, 0x0, .field, .none, [⟨6, 1, .hw, 1⟩, ⟨5, 1, .w1c, 0⟩, ⟨4, 1, .hw, 0⟩, ⟨3, 1, .w1c, 0⟩, ⟨2, 1, .w1c, 0⟩, ⟨1, 1, .hw, 0⟩, ⟨0, 1, .hw, 0⟩]⟩ /- GRP_STATUS -/,
    ⟨0x0D0008, 8, 0x1000, 1, 0x0, .tile, .none, [⟨0, 32, .hw, 0⟩]⟩ /- GRP_VCYC_LO -/,
    ⟨0x0D000C, 8, 0x1000, 1, 0x0, .tile, .none, [⟨0, 32, .hw, 0⟩]⟩ /- GRP_VCYC_HI -/,
    ⟨0x0D0010, 8, 0x1000, 1, 0x0, .tile, .none, [⟨0, 32, .rw, 0⟩]⟩ /- GRP_FAIL_CNT -/,
    ⟨0x0D0014, 8, 0x1000, 1, 0x0, .tile, .none, [⟨16, 11, .hw, 0⟩, ⟨0, 10, .hw, 0⟩]⟩ /- GRP_FLOG_WR -/,
    ⟨0x0D0020, 8, 0x1000, 1, 0x0, .field, .none, [⟨5, 8, .rw, 0⟩, ⟨0, 5, .rw, 0⟩]⟩ /- TS_HSTAGE_ADDR -/,
    ⟨0x0D0024, 8, 0x1000, 1, 0x0, .field, .none, [⟨0, 32, .rw, 0⟩]⟩ /- TS_HSTAGE_D0 -/,
    ⟨0x0D0028, 8, 0x1000, 1, 0x0, .field, .none, [⟨0, 32, .rw, 0⟩]⟩ /- TS_HSTAGE_D1 -/,
    ⟨0x0D002C, 8, 0x1000, 1, 0x0, .field, .none, [⟨0, 8, .rw, 0⟩]⟩ /- TS_HSTAGE_D2 -/] ++
  [
    ⟨0x0D0030, 8, 0x1000, 1, 0x0, .field, .grp, [⟨24, 8, .hw, 0⟩, ⟨1, 1, .hw, 0⟩, ⟨0, 1, .wo, 0⟩]⟩ /- TS_HCOMMIT -/,
    ⟨0x0D0034, 8, 0x1000, 1, 0x0, .field, .none, [⟨0, 32, .hw, 0x400⟩]⟩ /- GRP_PMIN -/,
    ⟨0x0D0040, 8, 0x1000, 1, 0x0, .field, .none, [⟨22, 10, .rw, 0⟩, ⟨12, 10, .rw, 0⟩, ⟨10, 2, .rw, 0⟩, ⟨8, 2, .rw, 0⟩, ⟨1, 1, .wo, 0⟩, ⟨0, 1, .wo, 0⟩]⟩ /- PCAP_CTRL -/,
    ⟨0x0D0044, 8, 0x1000, 1, 0x0, .field, .none, [⟨8, 24, .rw, 0⟩]⟩ /- PCAP_HANDLE -/,
    ⟨0x0D0048, 8, 0x1000, 1, 0x0, .field, .none, [⟨24, 8, .hw, 0⟩, ⟨0, 1, .hw, 0⟩]⟩ /- PCAP_STATUS -/,
    ⟨0x0D0080, 8, 0x1000, 8, 0x20, .field, .grp, [⟨7, 1, .rws, 0⟩, ⟨6, 1, .rws, 0⟩, ⟨5, 1, .rws, 0⟩, ⟨4, 1, .rws, 0⟩, ⟨0, 3, .rws, 0⟩]⟩ /- MATCH_CFG -/,
    ⟨0x0D0084, 8, 0x1000, 8, 0x20, .field, .grp, [⟨0, 32, .rws, 0⟩]⟩ /- MATCH_MASK_LO -/,
    ⟨0x0D0088, 8, 0x1000, 8, 0x20, .field, .grp, [⟨0, 32, .rws, 0⟩]⟩ /- MATCH_MASK_HI -/,
    ⟨0x0D008C, 8, 0x1000, 8, 0x20, .field, .grp, [⟨0, 32, .rws, 0⟩]⟩ /- MATCH_VAL_LO -/,
    ⟨0x0D0090, 8, 0x1000, 8, 0x20, .field, .grp, [⟨0, 32, .rws, 0⟩]⟩ /- MATCH_VAL_HI -/,
    ⟨0x0D0200, 8, 0x1000, 8, 0x40, .field, .none, [⟨0, 1, .rw, 0⟩]⟩ /- PIN_CFG -/,
    ⟨0x0D0204, 6, 0x1000, 8, 0x40, .field, .grp, [⟨0, 18, .rws, 0x708⟩]⟩ /- PIN_DRV_HI -/] ++
  [
    ⟨0x0D6204, 2, 0x1000, 8, 0x40, .field, .grp, [⟨0, 18, .rws, 0x1388⟩]⟩ /- PIN_DRV_HI -/,
    ⟨0x0D0208, 6, 0x1000, 8, 0x40, .field, .grp, [⟨0, 18, .rws, 0⟩]⟩ /- PIN_DRV_LO -/,
    ⟨0x0D6208, 2, 0x1000, 8, 0x40, .field, .grp, [⟨0, 18, .rws, 0⟩]⟩ /- PIN_DRV_LO -/,
    ⟨0x0D020C, 6, 0x1000, 8, 0x40, .field, .grp, [⟨0, 18, .rws, 0x4b0⟩]⟩ /- PIN_CMP_HI -/,
    ⟨0x0D620C, 2, 0x1000, 8, 0x40, .field, .grp, [⟨0, 18, .rws, 0xdac⟩]⟩ /- PIN_CMP_HI -/,
    ⟨0x0D0210, 6, 0x1000, 8, 0x40, .field, .grp, [⟨0, 18, .rws, 0x258⟩]⟩ /- PIN_CMP_LO -/,
    ⟨0x0D6210, 2, 0x1000, 8, 0x40, .field, .grp, [⟨0, 18, .rws, 0x5dc⟩]⟩ /- PIN_CMP_LO -/,
    ⟨0x0D0214, 6, 0x1000, 8, 0x40, .field, .grp, [⟨0, 18, .rws, 0xce4⟩]⟩ /- PIN_CLAMP_HI -/,
    ⟨0x0D6214, 2, 0x1000, 8, 0x40, .field, .grp, [⟨0, 18, .rws, 0x9c40⟩]⟩ /- PIN_CLAMP_HI -/,
    ⟨0x0D0218, 6, 0x1000, 8, 0x40, .field, .grp, [⟨0, 18, .rws, 0x3fc18⟩]⟩ /- PIN_CLAMP_LO -/,
    ⟨0x0D6218, 2, 0x1000, 8, 0x40, .field, .grp, [⟨0, 18, .rws, 0x39e58⟩]⟩ /- PIN_CLAMP_LO -/,
    ⟨0x0D021C, 6, 0x1000, 8, 0x40, .field, .grp, []⟩ /- PIN_SLEW -/] ++
  [
    ⟨0x0D621C, 2, 0x1000, 8, 0x40, .field, .grp, [⟨0, 8, .rws, 0⟩]⟩ /- PIN_SLEW -/,
    ⟨0x0D0220, 8, 0x1000, 8, 0x40, .field, .grp, [⟨0, 12, .rws, 0⟩]⟩ /- PIN_DELAY -/,
    ⟨0x0D0224, 8, 0x1000, 8, 0x40, .field, .none, [⟨2, 1, .w1c, 0⟩, ⟨1, 1, .w1c, 0⟩, ⟨0, 1, .hw, 0⟩]⟩ /- PIN_STATUS -/,
    ⟨0x0D0228, 8, 0x1000, 8, 0x40, .tile, .none, [⟨0, 32, .rw, 0⟩]⟩ /- PIN_FAIL_CNT -/,
    ⟨0x0D022C, 8, 0x1000, 8, 0x40, .field, .none, [⟨1, 1, .hw, 0⟩, ⟨0, 1, .hw, 0⟩]⟩ /- PIN_STATE -/]

/-- The registers of the capture channels. -/
def regsCap : List RegD :=
  [
    ⟨0x0C0000, 8, 0x2000, 1, 0x0, .field, .cap, [⟨10, 2, .rws, 0⟩, ⟨9, 1, .wo, 0⟩, ⟨8, 1, .wo, 0⟩, ⟨0, 4, .rw, 0⟩]⟩ /- CAP_CTRL -/,
    ⟨0x0C0004, 8, 0x2000, 1, 0x0, .capCh, .none, [⟨8, 1, .hw, 0⟩, ⟨7, 1, .hw, 0⟩, ⟨6, 1, .w1c, 0⟩, ⟨5, 1, .hw, 0⟩, ⟨4, 1, .hw, 0⟩, ⟨3, 1, .hw, 0⟩, ⟨2, 1, .w1c, 0⟩, ⟨1, 1, .w1c, 0⟩, ⟨0, 1, .hw, 0⟩]⟩ /- CAP_STATUS -/,
    ⟨0x0C0008, 8, 0x2000, 1, 0x0, .field, .cap, [⟨0, 6, .rws, 2⟩]⟩ /- CAP_RANGE -/,
    ⟨0x0C000C, 8, 0x2000, 1, 0x0, .field, .cap, [⟨0, 6, .rws, 0⟩]⟩ /- CAP_SKEW -/,
    ⟨0x0C0010, 8, 0x2000, 1, 0x0, .field, .cap, [⟨31, 1, .rws, 0⟩, ⟨30, 1, .rws, 0⟩, ⟨29, 1, .rws, 0⟩, ⟨28, 1, .rws, 0⟩, ⟨27, 1, .rws, 0⟩, ⟨26, 1, .rws, 1⟩, ⟨20, 3, .rws, 0⟩, ⟨0, 13, .rws, 1⟩]⟩ /- FLT_CFG -/,
    ⟨0x0C0014, 8, 0x2000, 1, 0x0, .field, .cap, [⟨0, 6, .rws, 0x1f⟩]⟩ /- EQ_CFG -/,
    ⟨0x0C0100, 8, 0x2000, 1, 0x4, .field, .cap, [⟨0, 18, .rws, 0x10000⟩]⟩ /- EQ_COEF -/,
    ⟨0x0C0104, 8, 0x2000, 31, 0x4, .field, .cap, [⟨0, 18, .rws, 0⟩]⟩ /- EQ_COEF -/,
    ⟨0x0C0018, 8, 0x2000, 1, 0x0, .field, .none, [⟨0, 32, .hw, 0⟩]⟩ /- FLT_GD_FINE -/,
    ⟨0x0C001C, 8, 0x2000, 1, 0x0, .field, .none, [⟨0, 32, .hw, 0⟩]⟩ /- FLT_GD_OUT -/,
    ⟨0x0C0020, 8, 0x2000, 1, 0x0, .field, .none, [⟨0, 32, .hw, 0⟩]⟩ /- FLT_GD_CC -/,
    ⟨0x0C0024, 8, 0x2000, 1, 0x0, .field, .none, [⟨0, 32, .hw, 0⟩]⟩ /- FLT_SETTLE -/] ++
  [
    ⟨0x0C0028, 8, 0x2000, 1, 0x0, .field, .cap, [⟨7, 1, .rws, 0⟩, ⟨4, 2, .rws, 1⟩, ⟨3, 1, .rws, 0⟩, ⟨0, 2, .rws, 0⟩]⟩ /- CAP_FLAG -/,
    ⟨0x0C002C, 8, 0x2000, 1, 0x0, .field, .none, [⟨22, 10, .rw, 0⟩, ⟨12, 10, .rw, 0⟩, ⟨10, 2, .rw, 0⟩, ⟨8, 2, .rw, 0⟩, ⟨1, 1, .wo, 0⟩, ⟨0, 1, .wo, 0⟩]⟩ /- CAP_REC_CTRL -/,
    ⟨0x0C0030, 8, 0x2000, 1, 0x0, .field, .none, [⟨8, 24, .rw, 0⟩]⟩ /- CAP_HANDLE -/,
    ⟨0x0C0034, 8, 0x2000, 1, 0x0, .capCh, .none, [⟨0, 32, .rw, 0⟩]⟩ /- CAP_SAT_CNT -/,
    ⟨0x0C0038, 8, 0x2000, 1, 0x0, .capCh, .none, [⟨0, 32, .rw, 0⟩]⟩ /- CAP_CLIP_CNT -/,
    ⟨0x0C0040, 8, 0x2000, 4, 0x10, .field, .cap, [⟨31, 1, .rws, 0⟩, ⟨28, 2, .rws, 0⟩, ⟨0, 16, .rws, 0⟩]⟩ /- TH_CFG -/,
    ⟨0x0C0044, 8, 0x2000, 4, 0x10, .field, .cap, [⟨16, 16, .rws, 0⟩, ⟨0, 16, .rws, 0⟩]⟩ /- TH_LEVEL -/,
    ⟨0x0C0048, 8, 0x2000, 4, 0x10, .field, .cap, [⟨0, 16, .rws, 0⟩]⟩ /- TH_HYST -/,
    ⟨0x0C004C, 8, 0x2000, 4, 0x10, .capCh, .none, [⟨0, 32, .rw, 0⟩]⟩ /- TH_CNT -/,
    ⟨0x0C0080, 8, 0x2000, 1, 0x0, .field, .none, [⟨16, 8, .rw, 0⟩, ⟨15, 1, .hw, 1⟩, ⟨0, 7, .rw, 0⟩]⟩ /- FIR_BANK_A -/,
    ⟨0x0C0084, 8, 0x2000, 1, 0x0, .field, .none, [⟨16, 8, .rw, 0⟩, ⟨15, 1, .hw, 1⟩, ⟨0, 7, .rw, 0⟩]⟩ /- FIR_BANK_B -/,
    ⟨0x0C0088, 8, 0x2000, 1, 0x0, .field, .none, [⟨30, 2, .wo, 0⟩, ⟨16, 10, .wo, 0⟩, ⟨8, 3, .wo, 0⟩, ⟨0, 1, .wo, 0⟩]⟩ /- FIR_SWAP -/] ++
  [
    ⟨0x0C008C, 8, 0x2000, 1, 0x0, .field, .none, [⟨24, 8, .hw, 0⟩, ⟨16, 8, .hw, 0⟩, ⟨4, 1, .w1c, 0⟩, ⟨3, 1, .hw, 0⟩, ⟨2, 1, .hw, 0⟩, ⟨1, 1, .hw, 0⟩, ⟨0, 1, .hw, 0⟩]⟩ /- FIR_STATUS -/]

/-- The registers of the CLK. -/
def regsClk : List RegD :=
  [
    ⟨0x020000, 1, 0x0, 1, 0x0, .field, .clk, [⟨24, 8, .rws, 0xa⟩, ⟨8, 2, .rws, 3⟩, ⟨5, 1, .rws, 1⟩, ⟨4, 1, .rws, 0⟩, ⟨0, 4, .rw, 0⟩]⟩ /- CLK_CTRL -/,
    ⟨0x020004, 1, 0x0, 1, 0x0, .field, .none, [⟨20, 6, .hw, 0⟩, ⟨16, 2, .hw, 3⟩, ⟨10, 1, .w1c, 0⟩, ⟨9, 1, .w1c, 0⟩, ⟨8, 1, .hw, 0⟩, ⟨7, 1, .hw, 0⟩, ⟨6, 1, .hw, 0⟩, ⟨5, 1, .hw, 0⟩, ⟨4, 1, .hw, 0⟩, ⟨3, 1, .hw, 1⟩, ⟨0, 3, .hw, 2⟩]⟩ /- CLK_STATUS -/,
    ⟨0x020008, 1, 0x0, 1, 0x0, .field, .clk, [⟨0, 32, .rws, 0⟩]⟩ /- CLK_ROOT_FCW_LO -/,
    ⟨0x02000C, 1, 0x0, 1, 0x0, .field, .clk, [⟨0, 8, .rws, 0xf0⟩]⟩ /- CLK_ROOT_FCW_HI -/,
    ⟨0x020010, 1, 0x0, 1, 0x0, .field, .clk, [⟨0, 32, .hw, 0⟩]⟩ /- CLK_ROOT_FCW_ACT_LO -/,
    ⟨0x020014, 1, 0x0, 1, 0x0, .field, .clk, [⟨0, 8, .hw, 0xf0⟩]⟩ /- CLK_ROOT_FCW_ACT_HI -/,
    ⟨0x020018, 1, 0x0, 1, 0x0, .field, .none, [⟨24, 8, .wo, 0⟩, ⟨8, 2, .wo, 0⟩, ⟨7, 1, .wo, 0⟩, ⟨0, 4, .wo, 0⟩]⟩ /- CLK_CMD -/,
    ⟨0x02001C, 1, 0x0, 1, 0x0, .field, .none, [⟨24, 8, .hw, 0⟩, ⟨16, 8, .hw, 0⟩, ⟨1, 1, .w1c, 0⟩, ⟨0, 1, .hw, 0⟩]⟩ /- CLK_CMD_STATUS -/,
    ⟨0x020020, 1, 0x0, 1, 0x0, .field, .clk, [⟨0, 2, .rws, 0⟩]⟩ /- CLK_RAMP_CFG -/,
    ⟨0x020024, 1, 0x0, 1, 0x0, .field, .clk, [⟨0, 32, .rws, 0⟩]⟩ /- CLK_RAMP_DEV_LO -/,
    ⟨0x020028, 1, 0x0, 1, 0x0, .field, .clk, [⟨0, 8, .rws, 0⟩]⟩ /- CLK_RAMP_DEV_HI -/,
    ⟨0x02002C, 1, 0x0, 1, 0x0, .field, .clk, [⟨0, 32, .rws, 1⟩]⟩ /- CLK_RAMP_STEP -/] ++
  [
    ⟨0x020030, 1, 0x0, 1, 0x0, .field, .clk, [⟨0, 16, .rws, 0x3e8⟩]⟩ /- CLK_SLEW -/,
    ⟨0x020034, 1, 0x0, 1, 0x0, .field, .clk, [⟨31, 1, .rws, 0⟩, ⟨16, 10, .rws, 0⟩, ⟨0, 16, .rws, 0x10⟩]⟩ /- CLK_OUT_CFG -/,
    ⟨0x020040, 24, 0x4, 1, 0x0, .field, .none, [⟨0, 10, .hw, 0⟩]⟩ /- CLK_DLY -/,
    ⟨0x0200A0, 1, 0x0, 1, 0x0, .field, .none, [⟨0, 32, .rw, 0⟩]⟩ /- CLK_LOR_CNT -/,
    ⟨0x0200A4, 1, 0x0, 1, 0x0, .field, .none, [⟨0, 32, .rw, 0⟩]⟩ /- CLK_LOL_CNT -/,
    ⟨0x0200A8, 1, 0x0, 1, 0x0, .field, .none, [⟨0, 32, .hw, 0⟩]⟩ /- CLK_REF_FERR -/]

/-- The registers of the TXL. -/
def regsTxl : List RegD :=
  [
    ⟨0x050000, 1, 0x0, 1, 0x0, .field, .txl, [⟨8, 4, .rws, 0⟩, ⟨4, 3, .rws, 4⟩, ⟨0, 4, .rw, 0⟩]⟩ /- TXL_CFG -/,
    ⟨0x050004, 1, 0x0, 1, 0x0, .field, .none, [⟨0, 9, .rw, 0⟩]⟩ /- TXL_ID -/,
    ⟨0x050008, 1, 0x0, 1, 0x0, .field, .none, [⟨24, 8, .hw, 0⟩, ⟨20, 4, .hw, 0⟩, ⟨7, 1, .w1c, 0⟩, ⟨6, 1, .w1c, 0⟩, ⟨5, 1, .w1c, 0⟩, ⟨4, 1, .w1c, 0⟩, ⟨3, 1, .hw, 0⟩, ⟨2, 1, .hw, 0⟩, ⟨1, 1, .hw, 0⟩, ⟨0, 1, .hw, 0⟩]⟩ /- TXL_STATUS -/,
    ⟨0x05000C, 1, 0x0, 1, 0x0, .field, .txl, [⟨0, 32, .rws, 0x16e360⟩]⟩ /- TXL_SYNC_PER_LO -/,
    ⟨0x050010, 1, 0x0, 1, 0x0, .field, .txl, [⟨0, 8, .rws, 0⟩]⟩ /- TXL_SYNC_PER_HI -/,
    ⟨0x050014, 1, 0x0, 1, 0x0, .field, .none, [⟨0, 32, .hw, 0⟩]⟩ /- TXL_WORST -/,
    ⟨0x050018, 1, 0x0, 1, 0x0, .field, .none, [⟨0, 10, .hw, 1⟩]⟩ /- TXL_MEMBERS -/,
    ⟨0x05001C, 1, 0x0, 1, 0x0, .field, .none, [⟨24, 8, .wo, 0⟩, ⟨8, 2, .wo, 0⟩, ⟨7, 1, .wo, 0⟩, ⟨0, 4, .wo, 0⟩]⟩ /- TXL_CMD -/,
    ⟨0x050020, 1, 0x0, 1, 0x0, .field, .none, [⟨24, 8, .hw, 0⟩, ⟨16, 8, .hw, 0⟩, ⟨1, 1, .w1c, 0⟩, ⟨0, 1, .hw, 0⟩]⟩ /- TXL_CMD_STATUS -/,
    ⟨0x050024, 1, 0x0, 1, 0x0, .field, .none, [⟨0, 9, .rw, 0⟩]⟩ /- TXL_PEER_MOD -/,
    ⟨0x050028, 1, 0x0, 1, 0x0, .field, .none, [⟨8, 24, .rw, 0⟩]⟩ /- TXL_PEER_HANDLE -/,
    ⟨0x05002C, 1, 0x0, 1, 0x0, .field, .none, [⟨0, 32, .rw, 0⟩]⟩ /- TXL_PEER_OFF_LO -/] ++
  [
    ⟨0x050030, 1, 0x0, 1, 0x0, .field, .none, [⟨0, 2, .rw, 0⟩]⟩ /- TXL_PEER_OFF_HI -/,
    ⟨0x050034, 1, 0x0, 1, 0x0, .field, .none, [⟨0, 32, .hw, 0⟩]⟩ /- TXL_PEER_DONE_LO -/,
    ⟨0x050038, 1, 0x0, 1, 0x0, .field, .none, [⟨0, 2, .hw, 0⟩]⟩ /- TXL_PEER_DONE_HI -/,
    ⟨0x050100, 4, 0x40, 1, 0x0, .field, .none, [⟨24, 8, .hw, 0⟩, ⟨5, 1, .hw, 0⟩, ⟨4, 1, .hw, 0⟩, ⟨0, 3, .hw, 0⟩]⟩ /- TXL_PSTATUS -/,
    ⟨0x050104, 4, 0x40, 1, 0x0, .field, .none, [⟨0, 32, .hw, 0⟩]⟩ /- TXL_PLAT -/,
    ⟨0x050110, 4, 0x40, 1, 0x0, .field, .none, [⟨0, 10, .hw, 0⟩]⟩ /- TXL_PMODS -/,
    ⟨0x050108, 4, 0x40, 1, 0x0, .field, .txl, [⟨0, 16, .rws, 0⟩]⟩ /- TXL_ASYM -/,
    ⟨0x05010C, 4, 0x40, 1, 0x0, .field, .none, [⟨0, 16, .hw, 0xffff⟩]⟩ /- TXL_PRES -/,
    ⟨0x050114, 4, 0x40, 1, 0x0, .field, .none, [⟨0, 32, .rw, 0⟩]⟩ /- TXL_KA_MISS_CNT -/,
    ⟨0x050118, 4, 0x40, 1, 0x0, .field, .none, [⟨0, 32, .rw, 0⟩]⟩ /- TXL_DOWN_CNT -/,
    ⟨0x05011C, 4, 0x40, 1, 0x0, .field, .none, [⟨0, 32, .rw, 0⟩]⟩ /- TXL_BLK_ERR_CNT -/]

/-- The registers of the XNG. -/
def regsXng : List RegD :=
  [
    ⟨0x010000, 1, 0x0, 1, 0x0, .perst, .none, [⟨4, 4, .hw, 0⟩, ⟨3, 1, .hw, 0⟩, ⟨2, 1, .hw, 1⟩, ⟨1, 1, .hw, 0⟩, ⟨0, 1, .hw, 1⟩]⟩ /- XNG_HSTATUS -/,
    ⟨0x010004, 1, 0x0, 1, 0x0, .perst, .none, [⟨2, 1, .w1c, 0⟩, ⟨1, 1, .w1c, 0⟩, ⟨0, 1, .w1c, 0⟩]⟩ /- XNG_HALERT -/,
    ⟨0x010008, 1, 0x0, 1, 0x0, .perst, .none, [⟨2, 1, .rw, 0⟩, ⟨1, 1, .rw, 1⟩, ⟨0, 1, .rw, 1⟩]⟩ /- XNG_HALERT_EN -/,
    ⟨0x01000C, 1, 0x0, 1, 0x0, .perst, .none, [⟨0, 32, .rw, 0⟩]⟩ /- XNG_WDOG -/,
    ⟨0x010010, 1, 0x0, 1, 0x0, .perst, .none, [⟨0, 32, .wo, 0⟩]⟩ /- XNG_KICK -/,
    ⟨0x010014, 1, 0x0, 1, 0x0, .perst, .none, [⟨0, 32, .wo, 0⟩]⟩ /- XNG_RAISE -/,
    ⟨0x010018, 1, 0x0, 1, 0x0, .perst, .none, [⟨24, 8, .hw, 0⟩, ⟨0, 1, .rw, 0⟩]⟩ /- XNG_PWR -/,
    ⟨0x010020, 4, 0x4, 1, 0x0, .perst, .none, [⟨0, 32, .hw, 0⟩]⟩ /- XNG_ALARM -/,
    ⟨0x010030, 3, 0x4, 1, 0x0, .perst, .none, [⟨0, 32, .hw, 0⟩]⟩ /- XNG_NOTE -/,
    ⟨0x01003C, 1, 0x0, 1, 0x0, .perst, .none, [⟨1, 1, .wo, 0⟩, ⟨0, 1, .wo, 0⟩]⟩ /- XNG_POP -/,
    ⟨0x010040, 1, 0x0, 1, 0x0, .perst, .none, [⟨16, 16, .rw, 0⟩, ⟨0, 9, .hw, 0⟩]⟩ /- XNG_ALARM_STAT -/,
    ⟨0x010044, 1, 0x0, 1, 0x0, .perst, .none, [⟨0, 9, .hw, 0⟩]⟩ /- XNG_NOTE_STAT -/] ++
  [
    ⟨0x010048, 1, 0x0, 1, 0x0, .perst, .none, [⟨0, 32, .rw, 0⟩]⟩ /- XNG_ABS_RD_CNT -/,
    ⟨0x01004C, 1, 0x0, 1, 0x0, .perst, .none, [⟨0, 32, .rw, 0⟩]⟩ /- XNG_ABS_WR_CNT -/,
    ⟨0x010050, 1, 0x0, 1, 0x0, .perst, .none, [⟨0, 32, .rw, 0⟩]⟩ /- XNG_NOTE_LOST_CNT -/,
    ⟨0x010100, 8, 0x10, 1, 0x0, .perst, .none, [⟨0, 1, .rw, 0⟩]⟩ /- XNG_RING_CTRL -/,
    ⟨0x010104, 8, 0x10, 1, 0x0, .perst, .none, [⟨0, 8, .hw, 0⟩]⟩ /- XNG_RING_HEAD -/,
    ⟨0x010108, 8, 0x10, 1, 0x0, .perst, .none, [⟨0, 8, .rw, 0⟩]⟩ /- XNG_RING_TAIL -/,
    ⟨0x010800, 1, 0x0, 1, 0x0, .field, .none, [⟨0, 2, .rw, 0⟩]⟩ /- XNG_ABSENT_POLICY -/,
    ⟨0x010804, 1, 0x0, 1, 0x0, .field, .none, [⟨2, 1, .w1c, 0⟩, ⟨1, 1, .w1c, 0⟩, ⟨0, 1, .hw, 0⟩]⟩ /- XNG_FSTATUS -/,
    ⟨0x010840, 32, 0x4, 1, 0x0, .field, .none, [⟨0, 32, .rw, 0⟩]⟩ /- XNG_NOTIFY -/]

/-- The registers of the GLB. -/
def regsGlb : List RegD :=
  [
    ⟨0x000000, 1, 0x0, 1, 0x0, .none, .none, [⟨16, 16, .ro, 0x9072⟩, ⟨8, 8, .ro, 0⟩]⟩ /- GLB_ID -/,
    ⟨0x000004, 1, 0x0, 1, 0x0, .field, .none, [⟨16, 16, .hw, 0⟩, ⟨0, 16, .hw, 0⟩]⟩ /- GLB_VERSION -/,
    ⟨0x000008, 1, 0x0, 1, 0x0, .field, .none, [⟨24, 8, .hw, 0⟩, ⟨12, 1, .hw, 0⟩, ⟨11, 1, .hw, 0⟩, ⟨8, 1, .hw, 0⟩, ⟨0, 4, .hw, 0⟩]⟩ /- GLB_STATE -/,
    ⟨0x00000C, 1, 0x0, 1, 0x0, .field, .none, [⟨0, 4, .rwk, 0⟩]⟩ /- GLB_PROFILE -/,
    ⟨0x000010, 1, 0x0, 1, 0x0, .field, .none, [⟨0, 32, .wo, 0⟩]⟩ /- GLB_KEY -/,
    ⟨0x000014, 1, 0x0, 1, 0x0, .field, .none, [⟨0, 16, .wo, 0⟩]⟩ /- GLB_UPDATE -/,
    ⟨0x000018, 1, 0x0, 1, 0x0, .field, .none, [⟨16, 12, .hw, 0⟩, ⟨4, 1, .w1c, 0⟩, ⟨3, 1, .w1c, 0⟩, ⟨2, 1, .w1c, 0⟩, ⟨1, 1, .w1c, 0⟩, ⟨0, 1, .w1c, 0⟩]⟩ /- GLB_ERR -/,
    ⟨0x00001C, 1, 0x0, 1, 0x0, .field, .none, [⟨0, 32, .rw, 0⟩]⟩ /- GLB_LOCKED_CNT -/,
    ⟨0x000020, 1, 0x0, 1, 0x0, .field, .none, [⟨0, 32, .rw, 0⟩]⟩ /- GLB_WO_CNT -/,
    ⟨0x000024, 1, 0x0, 1, 0x0, .field, .none, [⟨0, 16, .rw, 0⟩]⟩ /- GLB_MBX_SEL -/,
    ⟨0x000028, 1, 0x0, 1, 0x0, .field, .none, [⟨24, 8, .hw, 0⟩, ⟨0, 1, .wo, 0⟩]⟩ /- GLB_MBX_CTRL -/,
    ⟨0x00002C, 1, 0x0, 1, 0x0, .field, .none, [⟨0, 1, .hw, 0⟩]⟩ /- GLB_MBX_VALID -/] ++
  [
    ⟨0x000030, 4, 0x4, 1, 0x0, .field, .none, [⟨0, 32, .hw, 0⟩]⟩ /- GLB_MBX_DATA -/,
    ⟨0x000040, 16, 0x4, 1, 0x0, .field, .none, [⟨12, 2, .rw, 0⟩, ⟨0, 10, .rw, 0⟩]⟩ /- GLB_UPD_SRC -/,
    ⟨0x000080, 1, 0x0, 1, 0x0, .field, .none, [⟨0, 32, .hw, 0⟩]⟩ /- GLB_SYSTIME_LO -/,
    ⟨0x000084, 1, 0x0, 1, 0x0, .field, .none, [⟨0, 32, .hw, 0⟩]⟩ /- GLB_SYSTIME_HI -/,
    ⟨0x000088, 1, 0x0, 1, 0x0, .field, .none, [⟨16, 16, .rwm, 0⟩, ⟨0, 16, .rwm, 0⟩]⟩ /- GLB_FLAGS -/,
    ⟨0x00008C, 1, 0x0, 1, 0x0, .field, .none, [⟨0, 1, .rwk, 0⟩]⟩ /- GLB_SOFT_RST -/,
    ⟨0x000090, 1, 0x0, 1, 0x0, .field, .none, [⟨1, 1, .hw, 0⟩, ⟨0, 1, .rwk, 0⟩]⟩ /- GLB_HV_CTRL -/]

/-- The registers of the MON. -/
def regsMon : List RegD :=
  [
    ⟨0x060800, 1, 0x0, 1, 0x0, .field, .mon, [⟨0, 4, .rw, 0⟩]⟩ /- MON_CTRL -/,
    ⟨0x060804, 1, 0x0, 1, 0x0, .field, .none, [⟨0, 32, .wo, 0⟩]⟩ /- MON_START_LO -/,
    ⟨0x060808, 1, 0x0, 1, 0x0, .field, .none, [⟨0, 32, .wo, 0⟩]⟩ /- MON_START_HI -/,
    ⟨0x06080C, 1, 0x0, 1, 0x0, .field, .none, [⟨0, 32, .wo, 0⟩]⟩ /- MON_STOP_LO -/,
    ⟨0x060810, 1, 0x0, 1, 0x0, .field, .none, [⟨0, 32, .wo, 0⟩]⟩ /- MON_STOP_HI -/,
    ⟨0x060814, 1, 0x0, 1, 0x0, .field, .none, [⟨0, 32, .wo, 0⟩]⟩ /- MON_SNAP_CMD_LO -/,
    ⟨0x060818, 1, 0x0, 1, 0x0, .field, .none, [⟨0, 32, .wo, 0⟩]⟩ /- MON_SNAP_CMD_HI -/,
    ⟨0x060000, 64, 0x20, 1, 0x0, .field, .mon, [⟨31, 1, .hw, 0⟩, ⟨30, 1, .w1c, 0⟩, ⟨22, 1, .rws, 1⟩, ⟨20, 2, .rws, 0⟩, ⟨18, 2, .rws, 0⟩, ⟨16, 2, .rws, 0⟩, ⟨0, 10, .rws, 0⟩]⟩ /- MON_CFG -/,
    ⟨0x060004, 64, 0x20, 1, 0x0, .field, .mon, [⟨20, 10, .rws, 0⟩, ⟨10, 10, .rws, 0⟩, ⟨0, 10, .rws, 0⟩]⟩ /- MON_EVT -/,
    ⟨0x060008, 64, 0x20, 1, 0x0, .field, .none, [⟨0, 32, .rw, 0⟩]⟩ /- MON_COUNT_LO -/,
    ⟨0x06000C, 64, 0x20, 1, 0x0, .field, .none, [⟨0, 16, .rw, 0⟩]⟩ /- MON_COUNT_HI -/,
    ⟨0x060010, 64, 0x20, 1, 0x0, .field, .none, [⟨0, 32, .hw, 0⟩]⟩ /- MON_SNAP_LO -/] ++
  [
    ⟨0x060014, 64, 0x20, 1, 0x0, .field, .none, [⟨0, 16, .hw, 0⟩]⟩ /- MON_SNAP_HI -/,
    ⟨0x060018, 64, 0x20, 1, 0x0, .field, .none, [⟨0, 32, .hw, 0⟩]⟩ /- MON_SNAP_TIME_LO -/,
    ⟨0x06001C, 64, 0x20, 1, 0x0, .field, .none, [⟨0, 32, .hw, 0⟩]⟩ /- MON_SNAP_TIME_HI -/]

/-- The descriptors that may describe address a, by the block it lies in (R333, R334). -/
def regsNear (a : Nat) : List RegD :=
  match a / 0x10000 with
  | 0x00 => regsGlb
  | 0x01 => regsXng
  | 0x02 => regsClk
  | 0x03 => regsMemPlc
  | 0x04 => regsEvt
  | 0x05 => regsTxl
  | 0x06 => regsMon
  | 0x07 => regsCalNvs
  | 0x08 => regsTiles
  | 0x09 => regsTiles
  | 0x0A => regsTiles
  | 0x0B => regsTiles
  | 0x0C => regsCap
  | 0x0D => regsGrp
  | 0x0E => regsWpath
  | 0x14 => regsDispatchT
  | 0x16 => regsTableEvtBuf
  | 0x17 => regsTableSlwRank
  | 0x18 => regsTableCtx
  | 0x19 => regsTableCtx
  | 0x1A => regsTableCtx
  | 0x1B => regsTableCtx
  | 0x1C => regsTableCtx
  | 0x1D => regsTableCtx
  | 0x1E => regsTableCtx
  | 0x1F => regsTableCtx
  | _ => []

/-- The instance (i, j) of d that lies at address a, if one does. -/
def RegD.at (d : RegD) (a : Nat) : Option (Nat × Nat) :=
  if a < d.base then none
  else if d.c1 = 1 ∨ d.s1 = 0 then
    (if d.s2 = 0 then (if a = d.base then some (0, 0) else none)
     else if (a - d.base) % d.s2 = 0 ∧ (a - d.base) / d.s2 < d.c2 then some (0, (a - d.base) / d.s2) else none)
  else if d.c1 ≤ (a - d.base) / d.s1 then none
  else if d.s2 = 0 then (if (a - d.base) % d.s1 = 0 then some ((a - d.base) / d.s1, 0) else none)
  else if (a - d.base) % d.s1 % d.s2 = 0 ∧ (a - d.base) % d.s1 / d.s2 < d.c2 then
    some ((a - d.base) / d.s1, (a - d.base) % d.s1 / d.s2)
  else none

/-- The first descriptor of a list that has an instance at a, with the instance. -/
def findReg (a : Nat) : List RegD → Option (RegD × Nat × Nat)
  | [] => none
  | d :: ds =>
    match d.at a with
    | some (i, j) => some (d, i, j)
    | none => findReg a ds

/-- The register at address a of the map, with its instance numbers. -/
def regAt (a : Nat) : Option (RegD × Nat × Nat) := findReg a (regsNear a)

/-- The reset value that the fields of a register give it. -/
def fieldsReset : List FieldD → Nat
  | [] => 0
  | f :: fs => f.rst * 2 ^ f.lo + fieldsReset fs

/-- The reset value of the register at address a (R335); the SRC field of EVT_MAP n is n + 1 for n up to 275 (R95).
An address with no register reads 0 (R318). -/
def resetWord (a : Nat) : Word :=
  match regAt a with
  | some (d, _, _) =>
    BitVec.ofNat 32 (fieldsReset d.flds + (if 0x160000 ≤ a ∧ a < 0x160450 then (a - 0x160000) / 4 + 1 else 0))
  | none => 0

/-! Named fields. The instance numbers are plain naturals; an address computed from numbers in range is that of the
table. -/

namespace Reg

def PLC_CMD_TAG : Fld := ⟨0x038000, 24, 8⟩
def PLC_CMD_GO : Fld := ⟨0x038000, 7, 1⟩
def PLC_CMD_OPCODE : Fld := ⟨0x038000, 0, 4⟩
def PLC_STATUS_TAG : Fld := ⟨0x038004, 24, 8⟩
def PLC_STATUS_STS : Fld := ⟨0x038004, 16, 8⟩
def PLC_STATUS_LOAD_END : Fld := ⟨0x038004, 3, 1⟩
def PLC_STATUS_MIGRATING : Fld := ⟨0x038004, 2, 1⟩
def PLC_STATUS_OVERRUN : Fld := ⟨0x038004, 1, 1⟩
def PLC_STATUS_BUSY : Fld := ⟨0x038004, 0, 1⟩
def PLC_ARG (i : Nat) : Fld := ⟨0x038008 + i * 0x4, 0, 32⟩
def PLC_RES (i : Nat) : Fld := ⟨0x038020 + i * 0x4, 0, 32⟩
def PLC_CAP : Fld := ⟨0x038040, 0, 20⟩
def PLC_HANDLES : Fld := ⟨0x038044, 0, 21⟩
def PLC_ADMIT : Fld := ⟨0x038048, 0, 32⟩
def PLC_SPARE_TARGET : Fld := ⟨0x03804C, 8, 5⟩
def PLC_SPARE_COUNT : Fld := ⟨0x03804C, 0, 8⟩
def PLC_CFG_DEFRAG_EN : Fld := ⟨0x038050, 16, 1⟩
def PLC_CFG_MIG_LIMIT : Fld := ⟨0x038050, 8, 8⟩
def PLC_CFG_UPD_GRP : Fld := ⟨0x038050, 0, 4⟩
def PLC_MIG_STATUS : Fld := ⟨0x038054, 0, 20⟩
def CTX_CFG_STATE (i : Nat) : Fld := ⟨0x180000 + i * 0x200, 28, 3⟩
def CTX_CFG_RSLOT (i : Nat) : Fld := ⟨0x180000 + i * 0x200, 16, 8⟩
def CTX_CFG_UPOL (i : Nat) : Fld := ⟨0x180000 + i * 0x200, 8, 2⟩
def CTX_CFG_BR_MODE (i : Nat) : Fld := ⟨0x180000 + i * 0x200, 4, 1⟩
def CTX_CFG_BIND (i : Nat) : Fld := ⟨0x180000 + i * 0x200, 0, 4⟩
def CTX_BRIDGE (i : Nat) : Fld := ⟨0x180004 + i * 0x200, 0, 32⟩
def CTX_INIT_PC_LO (i : Nat) : Fld := ⟨0x180008 + i * 0x200, 0, 32⟩
def CTX_PC_LO (i : Nat) : Fld := ⟨0x180010 + i * 0x200, 0, 32⟩
def CTX_DIVERT_LO (i : Nat) : Fld := ⟨0x180024 + i * 0x200, 0, 32⟩
def CTX_INIT_PC_HI_HANDLE (i : Nat) : Fld := ⟨0x18000C + i * 0x200, 8, 24⟩
def CTX_INIT_PC_HI_OFFSET_HI (i : Nat) : Fld := ⟨0x18000C + i * 0x200, 0, 2⟩
def CTX_PC_HI_HANDLE (i : Nat) : Fld := ⟨0x180014 + i * 0x200, 8, 24⟩
def CTX_PC_HI_OFFSET_HI (i : Nat) : Fld := ⟨0x180014 + i * 0x200, 0, 2⟩
def CTX_DIVERT_HI_HANDLE (i : Nat) : Fld := ⟨0x180028 + i * 0x200, 8, 24⟩
def CTX_DIVERT_HI_OFFSET_HI (i : Nat) : Fld := ⟨0x180028 + i * 0x200, 0, 2⟩
def CTX_CNT (i j : Nat) : Fld := ⟨0x180018 + i * 0x200 + j * 0x4, 0, 32⟩
def CTX_DEPTH_TSBANK (i : Nat) : Fld := ⟨0x180020 + i * 0x200, 16, 1⟩
def CTX_DEPTH_CDEPTH (i : Nat) : Fld := ⟨0x180020 + i * 0x200, 8, 5⟩
def CTX_DEPTH_LDEPTH (i : Nat) : Fld := ⟨0x180020 + i * 0x200, 0, 4⟩
def CTX_FAULT_CAUSE (i : Nat) : Fld := ⟨0x18002C + i * 0x200, 8, 8⟩
def CTX_FAULT_STS (i : Nat) : Fld := ⟨0x18002C + i * 0x200, 0, 8⟩
def SEQ_CTRL_LATE_FAULT (i : Nat) : Fld := ⟨0x080000 + i * 0x4000, 9, 1⟩
def SEQ_CTRL_GAP_FAULT (i : Nat) : Fld := ⟨0x080000 + i * 0x4000, 8, 1⟩
def SEQ_CTRL_UPD_GRP (i : Nat) : Fld := ⟨0x080000 + i * 0x4000, 0, 4⟩
def SEQ_STATUS_RUNNING (i : Nat) : Fld := ⟨0x080004 + i * 0x4000, 31, 1⟩
def SEQ_STATUS_START_PEND (i : Nat) : Fld := ⟨0x080004 + i * 0x4000, 30, 1⟩
def SEQ_STATUS_RUN_CTX (i : Nat) : Fld := ⟨0x080004 + i * 0x4000, 20, 10⟩
def SEQ_STATUS_PEND_CTX (i : Nat) : Fld := ⟨0x080004 + i * 0x4000, 10, 10⟩
def SEQ_STATUS_CTX_WRITE (i : Nat) : Fld := ⟨0x080004 + i * 0x4000, 4, 1⟩
def SEQ_STATUS_PARTIAL (i : Nat) : Fld := ⟨0x080004 + i * 0x4000, 3, 1⟩
def SEQ_STATUS_LATE (i : Nat) : Fld := ⟨0x080004 + i * 0x4000, 2, 1⟩
def SEQ_STATUS_GAP (i : Nat) : Fld := ⟨0x080004 + i * 0x4000, 1, 1⟩
def SEQ_STATUS_FAULT (i : Nat) : Fld := ⟨0x080004 + i * 0x4000, 0, 1⟩
def SEQ_CMD_TAG (i : Nat) : Fld := ⟨0x080008 + i * 0x4000, 24, 8⟩
def SEQ_CMD_CTX (i : Nat) : Fld := ⟨0x080008 + i * 0x4000, 14, 10⟩
def SEQ_CMD_MODE (i : Nat) : Fld := ⟨0x080008 + i * 0x4000, 8, 2⟩
def SEQ_CMD_GO (i : Nat) : Fld := ⟨0x080008 + i * 0x4000, 7, 1⟩
def SEQ_CMD_OPCODE (i : Nat) : Fld := ⟨0x080008 + i * 0x4000, 0, 4⟩
def SEQ_CMD_STATUS_TAG (i : Nat) : Fld := ⟨0x08000C + i * 0x4000, 24, 8⟩
def SEQ_CMD_STATUS_STS (i : Nat) : Fld := ⟨0x08000C + i * 0x4000, 16, 8⟩
def SEQ_CMD_STATUS_OVERRUN (i : Nat) : Fld := ⟨0x08000C + i * 0x4000, 1, 1⟩
def SEQ_CMD_STATUS_BUSY (i : Nat) : Fld := ⟨0x08000C + i * 0x4000, 0, 1⟩
def SEQ_ARG (i j : Nat) : Fld := ⟨0x080010 + i * 0x4000 + j * 0x4, 0, 32⟩
def SEQ_FAULT_CTX (i : Nat) : Fld := ⟨0x080018 + i * 0x4000, 22, 10⟩
def SEQ_FAULT_CAUSE (i : Nat) : Fld := ⟨0x080018 + i * 0x4000, 8, 8⟩
def SEQ_FAULT_STS (i : Nat) : Fld := ⟨0x080018 + i * 0x4000, 0, 8⟩
def SEQ_RESIDENT (i : Nat) : Fld := ⟨0x08001C + i * 0x4000, 0, 9⟩
def SEQ_GAP_CNT (i : Nat) : Fld := ⟨0x080020 + i * 0x4000, 0, 32⟩
def SEQ_LATE_CNT (i : Nat) : Fld := ⟨0x080024 + i * 0x4000, 0, 32⟩
def SEQ_MARK_TAG (i : Nat) : Fld := ⟨0x080028 + i * 0x4000, 0, 32⟩
def SEQ_MARK_TS_LO (i : Nat) : Fld := ⟨0x08002C + i * 0x4000, 0, 32⟩
def SEQ_MARK_TS_HI (i : Nat) : Fld := ⟨0x080030 + i * 0x4000, 0, 32⟩
def SEQ_RESUME_CTX (i : Nat) : Fld := ⟨0x080034 + i * 0x4000, 22, 10⟩
def SEQ_RESUME_OPC (i : Nat) : Fld := ⟨0x080034 + i * 0x4000, 16, 6⟩
def SEQ_RESUME_STEP (i : Nat) : Fld := ⟨0x080034 + i * 0x4000, 0, 16⟩
def ARM_CTL_VALID (i j : Nat) : Fld := ⟨0x180140 + i * 0x200 + j * 0x10, 31, 1⟩
def ARM_CTL_LANDED (i j : Nat) : Fld := ⟨0x180140 + i * 0x200 + j * 0x10, 30, 1⟩
def ARM_CTL_PERSIST (i j : Nat) : Fld := ⟨0x180140 + i * 0x200 + j * 0x10, 29, 1⟩
def ARM_CTL_RESUME (i j : Nat) : Fld := ⟨0x180140 + i * 0x200 + j * 0x10, 28, 1⟩
def ARM_CTL_ACT (i j : Nat) : Fld := ⟨0x180140 + i * 0x200 + j * 0x10, 25, 3⟩
def ARM_CTL_RELAND (i j : Nat) : Fld := ⟨0x180140 + i * 0x200 + j * 0x10, 24, 1⟩
def ARM_CTL_SLOT (i j : Nat) : Fld := ⟨0x180140 + i * 0x200 + j * 0x10, 16, 6⟩
def ARM_CTL_EVT (i j : Nat) : Fld := ⟨0x180140 + i * 0x200 + j * 0x10, 0, 10⟩
def ARM_TGT_H (i j : Nat) : Fld := ⟨0x180144 + i * 0x200 + j * 0x10, 8, 24⟩
def ARM_TGT_O (i j : Nat) : Fld := ⟨0x180148 + i * 0x200 + j * 0x10, 0, 22⟩
def ARM_FIRED (i j : Nat) : Fld := ⟨0x18014C + i * 0x200 + j * 0x10, 0, 32⟩
def EVT_CTRL_LOG_EN : Fld := ⟨0x040000, 8, 1⟩
def EVT_CTRL_UPD_GRP : Fld := ⟨0x040000, 0, 4⟩
def EVT_STATUS_BUDGET_LOW : Fld := ⟨0x040004, 4, 1⟩
def EVT_STATUS_LOG_WRAP : Fld := ⟨0x040004, 3, 1⟩
def EVT_STATUS_UNDERRUN : Fld := ⟨0x040004, 2, 1⟩
def EVT_STATUS_SYS_LATE : Fld := ⟨0x040004, 1, 1⟩
def EVT_STATUS_LOST : Fld := ⟨0x040004, 0, 1⟩
def EVT_SYS_BUDGET : Fld := ⟨0x040008, 0, 32⟩
def EVT_SYS_LATE_CNT : Fld := ⟨0x04000C, 0, 32⟩
def EVT_HOST_RAISE : Fld := ⟨0x040010, 0, 32⟩
def EVT_LOG_WR : Fld := ⟨0x040014, 0, 9⟩
def EVT_TRIG_CFG_LEVEL (i : Nat) : Fld := ⟨0x040040 + i * 0x4, 16, 12⟩
def EVT_TRIG_CFG_EDGE (i : Nat) : Fld := ⟨0x040040 + i * 0x4, 4, 2⟩
def EVT_TRIG_CFG_TERM (i : Nat) : Fld := ⟨0x040040 + i * 0x4, 2, 1⟩
def EVT_TRIG_CFG_EN (i : Nat) : Fld := ⟨0x040040 + i * 0x4, 0, 1⟩
def EVT_TMR_CTRL_START_EVT (i : Nat) : Fld := ⟨0x040080 + i * 0x10, 16, 10⟩
def EVT_TMR_CTRL_UPD_GRP (i : Nat) : Fld := ⟨0x040080 + i * 0x10, 12, 4⟩
def EVT_TMR_CTRL_START_SRC (i : Nat) : Fld := ⟨0x040080 + i * 0x10, 4, 2⟩
def EVT_TMR_CTRL_PERIODIC (i : Nat) : Fld := ⟨0x040080 + i * 0x10, 1, 1⟩
def EVT_TMR_CTRL_RUN (i : Nat) : Fld := ⟨0x040080 + i * 0x10, 0, 1⟩
def EVT_TMR_PER_LO (i : Nat) : Fld := ⟨0x040084 + i * 0x10, 0, 32⟩
def EVT_TMR_PER_HI (i : Nat) : Fld := ⟨0x040088 + i * 0x10, 0, 16⟩
def EVT_TMR_CMD_STOP : Fld := ⟨0x040180, 16, 16⟩
def EVT_TMR_CMD_START : Fld := ⟨0x040180, 0, 16⟩
def EVT_SYSOUT_EN (i : Nat) : Fld := ⟨0x0401C0 + i * 0x4, 31, 1⟩
def EVT_SYSOUT_SE (i : Nat) : Fld := ⟨0x0401C0 + i * 0x4, 16, 8⟩
def EVT_SYSOUT_LOCAL (i : Nat) : Fld := ⟨0x0401C0 + i * 0x4, 0, 10⟩
def EVT_MAP_EN (i : Nat) : Fld := ⟨0x160000 + i * 0x4, 31, 1⟩
def EVT_MAP_LOG (i : Nat) : Fld := ⟨0x160000 + i * 0x4, 30, 1⟩
def EVT_MAP_HOLDOFF (i : Nat) : Fld := ⟨0x160000 + i * 0x4, 12, 16⟩
def EVT_MAP_SRC (i : Nat) : Fld := ⟨0x160000 + i * 0x4, 0, 9⟩
def LND_STATUS_FILLQ (i : Nat) : Fld := ⟨0x080100 + i * 0x4000, 8, 6⟩
def LND_STATUS_FREE (i : Nat) : Fld := ⟨0x080100 + i * 0x4000, 0, 6⟩
def LND_LOST_CNT (i : Nat) : Fld := ⟨0x080104 + i * 0x4000, 0, 32⟩
def LND_UNLANDED_CNT (i : Nat) : Fld := ⟨0x080108 + i * 0x4000, 0, 32⟩
def SLW_HANDLE_HANDLE (i : Nat) : Fld := ⟨0x170000 + i * 0x40, 8, 24⟩
def SLW_HANDLE_EN (i : Nat) : Fld := ⟨0x170000 + i * 0x40, 0, 1⟩
def SLW_BLOCK (i : Nat) : Fld := ⟨0x170004 + i * 0x40, 0, 17⟩
def SLW_WMARK_RESTART (i : Nat) : Fld := ⟨0x170008 + i * 0x40, 16, 16⟩
def SLW_WMARK_LOW (i : Nat) : Fld := ⟨0x170008 + i * 0x40, 0, 16⟩
def SLW_SIG_NOTIFY (i : Nat) : Fld := ⟨0x17000C + i * 0x40, 8, 1⟩
def SLW_SIG_SIG_EN (i : Nat) : Fld := ⟨0x17000C + i * 0x40, 7, 1⟩
def SLW_SIG_SIG (i : Nat) : Fld := ⟨0x17000C + i * 0x40, 0, 6⟩
def SLW_WR_LO (i : Nat) : Fld := ⟨0x170010 + i * 0x40, 0, 32⟩
def SLW_WR_HI (i : Nat) : Fld := ⟨0x170014 + i * 0x40, 0, 32⟩
def SLW_RD_LO (i : Nat) : Fld := ⟨0x170018 + i * 0x40, 0, 32⟩
def SLW_RD_HI (i : Nat) : Fld := ⟨0x17001C + i * 0x40, 0, 32⟩
def SLW_UR_CNT (i : Nat) : Fld := ⟨0x170020 + i * 0x40, 0, 32⟩
def SLW_UR_TIME_LO (i : Nat) : Fld := ⟨0x170024 + i * 0x40, 0, 32⟩
def SLW_UR_TIME_HI (i : Nat) : Fld := ⟨0x170028 + i * 0x40, 0, 32⟩
def MC_DISPATCH_VALID (i j : Nat) : Fld := ⟨0x140000 + i * 0x100 + j * 0x4, 15, 1⟩
def MC_DISPATCH_START (i j : Nat) : Fld := ⟨0x140000 + i * 0x100 + j * 0x4, 0, 12⟩
def NVS_UKEY_HASH (i : Nat) : Fld := ⟨0x070200 + i * 0x4, 0, 32⟩
def NVS_UKEY_CTRL_STS : Fld := ⟨0x070230, 24, 8⟩
def NVS_UKEY_CTRL_ENROLLED : Fld := ⟨0x070230, 2, 1⟩
def NVS_UKEY_CTRL_BURNING : Fld := ⟨0x070230, 1, 1⟩
def NVS_UKEY_CTRL_OPEN : Fld := ⟨0x070230, 0, 1⟩
def MC_VERSION_VENDOR (i : Nat) : Fld := ⟨0x080200 + i * 0x4000, 16, 16⟩
def MC_VERSION_USER (i : Nat) : Fld := ⟨0x080200 + i * 0x4000, 0, 16⟩
def MC_STATUS_STS (i : Nat) : Fld := ⟨0x080204 + i * 0x4000, 24, 8⟩
def MC_STATUS_BUSY (i : Nat) : Fld := ⟨0x080204 + i * 0x4000, 0, 1⟩
def MC_ULOAD_SRC (i : Nat) : Fld := ⟨0x080208 + i * 0x4000, 8, 24⟩
def MC_ULOAD (i : Nat) : Fld := ⟨0x08020C + i * 0x4000, 0, 1⟩
def WAV_CTRL_FORCE_SAFE (i : Nat) : Fld := ⟨0x080400 + i * 0x4000, 9, 1⟩
def WAV_CTRL_MTH_EN (i : Nat) : Fld := ⟨0x080400 + i * 0x4000, 8, 1⟩
def WAV_CTRL_LSB (i : Nat) : Fld := ⟨0x080400 + i * 0x4000, 4, 2⟩
def WAV_CTRL_UPD_GRP (i : Nat) : Fld := ⟨0x080400 + i * 0x4000, 0, 4⟩
def WAV_CFG_INTERP (i : Nat) : Fld := ⟨0x080404 + i * 0x4000, 4, 3⟩
def WAV_CFG_MODE (i : Nat) : Fld := ⟨0x080404 + i * 0x4000, 0, 2⟩
def WAV_HOLD (i : Nat) : Fld := ⟨0x080408 + i * 0x4000, 0, 16⟩
def WAV_GAIN (i : Nat) : Fld := ⟨0x08040C + i * 0x4000, 0, 28⟩
def WAV_OFFSET (i : Nat) : Fld := ⟨0x080410 + i * 0x4000, 0, 28⟩
def WAV_SLEW_STEP (i : Nat) : Fld := ⟨0x080414 + i * 0x4000, 0, 14⟩
def WAV_SLEW_RATE (i : Nat) : Fld := ⟨0x080418 + i * 0x4000, 0, 8⟩
def WAV_MTH (i : Nat) : Fld := ⟨0x08041C + i * 0x4000, 0, 6⟩
def WAV_STATUS_DEFERRED (i : Nat) : Fld := ⟨0x080420 + i * 0x4000, 6, 1⟩
def WAV_STATUS_MUTE (i : Nat) : Fld := ⟨0x080420 + i * 0x4000, 5, 1⟩
def WAV_STATUS_CLOSED (i : Nat) : Fld := ⟨0x080420 + i * 0x4000, 4, 1⟩
def WAV_STATUS_MTH_ACT (i : Nat) : Fld := ⟨0x080420 + i * 0x4000, 3, 1⟩
def WAV_STATUS_MTH (i : Nat) : Fld := ⟨0x080420 + i * 0x4000, 2, 1⟩
def WAV_STATUS_SLEW (i : Nat) : Fld := ⟨0x080420 + i * 0x4000, 1, 1⟩
def WAV_STATUS_SAT (i : Nat) : Fld := ⟨0x080420 + i * 0x4000, 0, 1⟩
def WAV_SAT_CNT (i : Nat) : Fld := ⟨0x080424 + i * 0x4000, 0, 32⟩
def WAV_SLEW_CNT (i : Nat) : Fld := ⟨0x080428 + i * 0x4000, 0, 32⟩
def WAV_MTH_CNT (i : Nat) : Fld := ⟨0x08042C + i * 0x4000, 0, 32⟩
def WAV_GDELAY (i : Nat) : Fld := ⟨0x080430 + i * 0x4000, 0, 32⟩
def WAV_GAIN_ACT (i : Nat) : Fld := ⟨0x080434 + i * 0x4000, 0, 28⟩
def WAV_OFFSET_ACT (i : Nat) : Fld := ⟨0x080438 + i * 0x4000, 0, 28⟩
def NCO_FTW_LO (i : Nat) : Fld := ⟨0x080440 + i * 0x4000, 0, 32⟩
def NCO_FTW_HI (i : Nat) : Fld := ⟨0x080444 + i * 0x4000, 0, 16⟩
def NCO_FTW_ACT_LO (i : Nat) : Fld := ⟨0x080448 + i * 0x4000, 0, 32⟩
def NCO_FTW_ACT_HI (i : Nat) : Fld := ⟨0x08044C + i * 0x4000, 0, 16⟩
def NCO_RST_PH_LO (i : Nat) : Fld := ⟨0x080450 + i * 0x4000, 0, 32⟩
def NCO_RST_PH_HI (i : Nat) : Fld := ⟨0x080454 + i * 0x4000, 0, 16⟩
def NCO_AMP (i : Nat) : Fld := ⟨0x080458 + i * 0x4000, 0, 16⟩
def WAV_RANGE (i : Nat) : Fld := ⟨0x0E0000 + i * 0x800, 0, 4⟩
def WAV_PATH_STATUS (i : Nat) : Fld := ⟨0x0E0004 + i * 0x800, 0, 4⟩
def MK_DELAY (i j : Nat) : Fld := ⟨0x0E0010 + i * 0x800 + j * 0x4, 0, 12⟩
def MK_LEVEL_HIGH (i j : Nat) : Fld := ⟨0x0E0018 + i * 0x800 + j * 0x4, 16, 16⟩
def MK_LEVEL_LOW (i j : Nat) : Fld := ⟨0x0E0018 + i * 0x800 + j * 0x4, 0, 16⟩
def GRP_CTRL_LIVE_HOLD (i : Nat) : Fld := ⟨0x0D0000 + i * 0x1000, 11, 1⟩
def GRP_CTRL_FLOG_STOP (i : Nat) : Fld := ⟨0x0D0000 + i * 0x1000, 10, 1⟩
def GRP_CTRL_FORCE_SAFE (i : Nat) : Fld := ⟨0x0D0000 + i * 0x1000, 9, 1⟩
def GRP_CTRL_UPD_GRP (i : Nat) : Fld := ⟨0x0D0000 + i * 0x1000, 0, 4⟩
def GRP_STATUS_HV_OFF (i : Nat) : Fld := ⟨0x0D0004 + i * 0x1000, 6, 1⟩
def GRP_STATUS_HVZ (i : Nat) : Fld := ⟨0x0D0004 + i * 0x1000, 5, 1⟩
def GRP_STATUS_FLOG_FULL (i : Nat) : Fld := ⟨0x0D0004 + i * 0x1000, 4, 1⟩
def GRP_STATUS_FLOG_WRAP (i : Nat) : Fld := ⟨0x0D0004 + i * 0x1000, 3, 1⟩
def GRP_STATUS_FAIL (i : Nat) : Fld := ⟨0x0D0004 + i * 0x1000, 2, 1⟩
def GRP_STATUS_DRV_EN (i : Nat) : Fld := ⟨0x0D0004 + i * 0x1000, 1, 1⟩
def GRP_STATUS_LIVE (i : Nat) : Fld := ⟨0x0D0004 + i * 0x1000, 0, 1⟩
def GRP_VCYC_LO (i : Nat) : Fld := ⟨0x0D0008 + i * 0x1000, 0, 32⟩
def GRP_VCYC_HI (i : Nat) : Fld := ⟨0x0D000C + i * 0x1000, 0, 32⟩
def GRP_FAIL_CNT (i : Nat) : Fld := ⟨0x0D0010 + i * 0x1000, 0, 32⟩
def GRP_FLOG_WR_FILL (i : Nat) : Fld := ⟨0x0D0014 + i * 0x1000, 16, 11⟩
def GRP_FLOG_WR_NEXT (i : Nat) : Fld := ⟨0x0D0014 + i * 0x1000, 0, 10⟩
def TS_HSTAGE_ADDR_ROW (i : Nat) : Fld := ⟨0x0D0020 + i * 0x1000, 5, 8⟩
def TS_HSTAGE_ADDR_SET (i : Nat) : Fld := ⟨0x0D0020 + i * 0x1000, 0, 5⟩
def TS_HSTAGE_D0 (i : Nat) : Fld := ⟨0x0D0024 + i * 0x1000, 0, 32⟩
def TS_HSTAGE_D1 (i : Nat) : Fld := ⟨0x0D0028 + i * 0x1000, 0, 32⟩
def TS_HSTAGE_D2 (i : Nat) : Fld := ⟨0x0D002C + i * 0x1000, 0, 8⟩
def TS_HCOMMIT_STS (i : Nat) : Fld := ⟨0x0D0030 + i * 0x1000, 24, 8⟩
def TS_HCOMMIT_PEND (i : Nat) : Fld := ⟨0x0D0030 + i * 0x1000, 1, 1⟩
def TS_HCOMMIT_GO (i : Nat) : Fld := ⟨0x0D0030 + i * 0x1000, 0, 1⟩
def GRP_PMIN (i : Nat) : Fld := ⟨0x0D0034 + i * 0x1000, 0, 32⟩
def PCAP_CTRL_STOP_EVT (i : Nat) : Fld := ⟨0x0D0040 + i * 0x1000, 22, 10⟩
def PCAP_CTRL_START_EVT (i : Nat) : Fld := ⟨0x0D0040 + i * 0x1000, 12, 10⟩
def PCAP_CTRL_STOP_SRC (i : Nat) : Fld := ⟨0x0D0040 + i * 0x1000, 10, 2⟩
def PCAP_CTRL_START_SRC (i : Nat) : Fld := ⟨0x0D0040 + i * 0x1000, 8, 2⟩
def PCAP_CTRL_STOP (i : Nat) : Fld := ⟨0x0D0040 + i * 0x1000, 1, 1⟩
def PCAP_CTRL_START (i : Nat) : Fld := ⟨0x0D0040 + i * 0x1000, 0, 1⟩
def PCAP_HANDLE (i : Nat) : Fld := ⟨0x0D0044 + i * 0x1000, 8, 24⟩
def PCAP_STATUS_STS (i : Nat) : Fld := ⟨0x0D0048 + i * 0x1000, 24, 8⟩
def PCAP_STATUS_REC (i : Nat) : Fld := ⟨0x0D0048 + i * 0x1000, 0, 1⟩
def MATCH_CFG_EN (i j : Nat) : Fld := ⟨0x0D0080 + i * 0x1000 + j * 0x20, 7, 1⟩
def MATCH_CFG_EDGE (i j : Nat) : Fld := ⟨0x0D0080 + i * 0x1000 + j * 0x20, 6, 1⟩
def MATCH_CFG_QUAL (i j : Nat) : Fld := ⟨0x0D0080 + i * 0x1000 + j * 0x20, 5, 1⟩
def MATCH_CFG_THR (i j : Nat) : Fld := ⟨0x0D0080 + i * 0x1000 + j * 0x20, 4, 1⟩
def MATCH_CFG_PIN (i j : Nat) : Fld := ⟨0x0D0080 + i * 0x1000 + j * 0x20, 0, 3⟩
def MATCH_MASK_LO (i j : Nat) : Fld := ⟨0x0D0084 + i * 0x1000 + j * 0x20, 0, 32⟩
def MATCH_MASK_HI (i j : Nat) : Fld := ⟨0x0D0088 + i * 0x1000 + j * 0x20, 0, 32⟩
def MATCH_VAL_LO (i j : Nat) : Fld := ⟨0x0D008C + i * 0x1000 + j * 0x20, 0, 32⟩
def MATCH_VAL_HI (i j : Nat) : Fld := ⟨0x0D0090 + i * 0x1000 + j * 0x20, 0, 32⟩
def PIN_CFG (i j : Nat) : Fld := ⟨0x0D0200 + i * 0x1000 + j * 0x40, 0, 1⟩
def PIN_DRV_HI (i j : Nat) : Fld := ⟨0x0D0204 + i * 0x1000 + j * 0x40, 0, 18⟩
def PIN_DRV_LO (i j : Nat) : Fld := ⟨0x0D0208 + i * 0x1000 + j * 0x40, 0, 18⟩
def PIN_CMP_HI (i j : Nat) : Fld := ⟨0x0D020C + i * 0x1000 + j * 0x40, 0, 18⟩
def PIN_CMP_LO (i j : Nat) : Fld := ⟨0x0D0210 + i * 0x1000 + j * 0x40, 0, 18⟩
def PIN_CLAMP_HI (i j : Nat) : Fld := ⟨0x0D0214 + i * 0x1000 + j * 0x40, 0, 18⟩
def PIN_CLAMP_LO (i j : Nat) : Fld := ⟨0x0D0218 + i * 0x1000 + j * 0x40, 0, 18⟩
def PIN_SLEW (i j : Nat) : Fld := ⟨0x0D021C + i * 0x1000 + j * 0x40, 0, 8⟩
def PIN_DELAY (i j : Nat) : Fld := ⟨0x0D0220 + i * 0x1000 + j * 0x40, 0, 12⟩
def PIN_STATUS_LVL_REFUSED (i j : Nat) : Fld := ⟨0x0D0224 + i * 0x1000 + j * 0x40, 2, 1⟩
def PIN_STATUS_CLAMPED (i j : Nat) : Fld := ⟨0x0D0224 + i * 0x1000 + j * 0x40, 1, 1⟩
def PIN_STATUS_DRIVING (i j : Nat) : Fld := ⟨0x0D0224 + i * 0x1000 + j * 0x40, 0, 1⟩
def PIN_FAIL_CNT (i j : Nat) : Fld := ⟨0x0D0228 + i * 0x1000 + j * 0x40, 0, 32⟩
def PIN_STATE_ABOVE_HI (i j : Nat) : Fld := ⟨0x0D022C + i * 0x1000 + j * 0x40, 1, 1⟩
def PIN_STATE_ABOVE_LO (i j : Nat) : Fld := ⟨0x0D022C + i * 0x1000 + j * 0x40, 0, 1⟩
def CAP_CTRL_SYNC_SRC (i : Nat) : Fld := ⟨0x0C0000 + i * 0x2000, 10, 2⟩
def CAP_CTRL_CH_RST (i : Nat) : Fld := ⟨0x0C0000 + i * 0x2000, 9, 1⟩
def CAP_CTRL_SYNC (i : Nat) : Fld := ⟨0x0C0000 + i * 0x2000, 8, 1⟩
def CAP_CTRL_UPD_GRP (i : Nat) : Fld := ⟨0x0C0000 + i * 0x2000, 0, 4⟩
def CAP_STATUS_SYNC_PEND (i : Nat) : Fld := ⟨0x0C0004 + i * 0x2000, 8, 1⟩
def CAP_STATUS_DEFERRED (i : Nat) : Fld := ⟨0x0C0004 + i * 0x2000, 7, 1⟩
def CAP_STATUS_CFG_REFUSED (i : Nat) : Fld := ⟨0x0C0004 + i * 0x2000, 6, 1⟩
def CAP_STATUS_HELD (i : Nat) : Fld := ⟨0x0C0004 + i * 0x2000, 5, 1⟩
def CAP_STATUS_SETTLING (i : Nat) : Fld := ⟨0x0C0004 + i * 0x2000, 4, 1⟩
def CAP_STATUS_RNG_SETTLE (i : Nat) : Fld := ⟨0x0C0004 + i * 0x2000, 3, 1⟩
def CAP_STATUS_CLIP (i : Nat) : Fld := ⟨0x0C0004 + i * 0x2000, 2, 1⟩
def CAP_STATUS_SAT (i : Nat) : Fld := ⟨0x0C0004 + i * 0x2000, 1, 1⟩
def CAP_STATUS_REC (i : Nat) : Fld := ⟨0x0C0004 + i * 0x2000, 0, 1⟩
def CAP_RANGE (i : Nat) : Fld := ⟨0x0C0008 + i * 0x2000, 0, 6⟩
def CAP_SKEW (i : Nat) : Fld := ⟨0x0C000C + i * 0x2000, 0, 6⟩
def FLT_CFG_FIR_EN (i : Nat) : Fld := ⟨0x0C0010 + i * 0x2000, 31, 1⟩
def FLT_CFG_HB2_EN (i : Nat) : Fld := ⟨0x0C0010 + i * 0x2000, 30, 1⟩
def FLT_CFG_HB1_EN (i : Nat) : Fld := ⟨0x0C0010 + i * 0x2000, 29, 1⟩
def FLT_CFG_COMP_EN (i : Nat) : Fld := ⟨0x0C0010 + i * 0x2000, 28, 1⟩
def FLT_CFG_EQ_EN (i : Nat) : Fld := ⟨0x0C0010 + i * 0x2000, 27, 1⟩
def FLT_CFG_CORR_EN (i : Nat) : Fld := ⟨0x0C0010 + i * 0x2000, 26, 1⟩
def FLT_CFG_OUT_SH (i : Nat) : Fld := ⟨0x0C0010 + i * 0x2000, 20, 3⟩
def FLT_CFG_CIC_D (i : Nat) : Fld := ⟨0x0C0010 + i * 0x2000, 0, 13⟩
def EQ_CFG (i : Nat) : Fld := ⟨0x0C0014 + i * 0x2000, 0, 6⟩
def EQ_COEF (i j : Nat) : Fld := ⟨0x0C0100 + i * 0x2000 + j * 0x4, 0, 18⟩
def FLT_GD_FINE (i : Nat) : Fld := ⟨0x0C0018 + i * 0x2000, 0, 32⟩
def FLT_GD_OUT (i : Nat) : Fld := ⟨0x0C001C + i * 0x2000, 0, 32⟩
def FLT_GD_CC (i : Nat) : Fld := ⟨0x0C0020 + i * 0x2000, 0, 32⟩
def FLT_SETTLE (i : Nat) : Fld := ⟨0x0C0024 + i * 0x2000, 0, 32⟩
def CAP_FLAG_B_EN (i : Nat) : Fld := ⟨0x0C0028 + i * 0x2000, 7, 1⟩
def CAP_FLAG_B_SEL (i : Nat) : Fld := ⟨0x0C0028 + i * 0x2000, 4, 2⟩
def CAP_FLAG_A_EN (i : Nat) : Fld := ⟨0x0C0028 + i * 0x2000, 3, 1⟩
def CAP_FLAG_A_SEL (i : Nat) : Fld := ⟨0x0C0028 + i * 0x2000, 0, 2⟩
def CAP_REC_CTRL_STOP_EVT (i : Nat) : Fld := ⟨0x0C002C + i * 0x2000, 22, 10⟩
def CAP_REC_CTRL_START_EVT (i : Nat) : Fld := ⟨0x0C002C + i * 0x2000, 12, 10⟩
def CAP_REC_CTRL_STOP_SRC (i : Nat) : Fld := ⟨0x0C002C + i * 0x2000, 10, 2⟩
def CAP_REC_CTRL_START_SRC (i : Nat) : Fld := ⟨0x0C002C + i * 0x2000, 8, 2⟩
def CAP_REC_CTRL_STOP (i : Nat) : Fld := ⟨0x0C002C + i * 0x2000, 1, 1⟩
def CAP_REC_CTRL_START (i : Nat) : Fld := ⟨0x0C002C + i * 0x2000, 0, 1⟩
def CAP_HANDLE (i : Nat) : Fld := ⟨0x0C0030 + i * 0x2000, 8, 24⟩
def CAP_SAT_CNT (i : Nat) : Fld := ⟨0x0C0034 + i * 0x2000, 0, 32⟩
def CAP_CLIP_CNT (i : Nat) : Fld := ⟨0x0C0038 + i * 0x2000, 0, 32⟩
def TH_CFG_EN (i j : Nat) : Fld := ⟨0x0C0040 + i * 0x2000 + j * 0x10, 31, 1⟩
def TH_CFG_MODE (i j : Nat) : Fld := ⟨0x0C0040 + i * 0x2000 + j * 0x10, 28, 2⟩
def TH_CFG_DWELL (i j : Nat) : Fld := ⟨0x0C0040 + i * 0x2000 + j * 0x10, 0, 16⟩
def TH_LEVEL_LEVEL_B (i j : Nat) : Fld := ⟨0x0C0044 + i * 0x2000 + j * 0x10, 16, 16⟩
def TH_LEVEL_LEVEL_A (i j : Nat) : Fld := ⟨0x0C0044 + i * 0x2000 + j * 0x10, 0, 16⟩
def TH_HYST (i j : Nat) : Fld := ⟨0x0C0048 + i * 0x2000 + j * 0x10, 0, 16⟩
def TH_CNT (i j : Nat) : Fld := ⟨0x0C004C + i * 0x2000 + j * 0x10, 0, 32⟩
def FIR_BANK_A_GD (i : Nat) : Fld := ⟨0x0C0080 + i * 0x2000, 16, 8⟩
def FIR_BANK_A_SYM (i : Nat) : Fld := ⟨0x0C0080 + i * 0x2000, 15, 1⟩
def FIR_BANK_A_TAPS (i : Nat) : Fld := ⟨0x0C0080 + i * 0x2000, 0, 7⟩
def FIR_BANK_B_GD (i : Nat) : Fld := ⟨0x0C0084 + i * 0x2000, 16, 8⟩
def FIR_BANK_B_SYM (i : Nat) : Fld := ⟨0x0C0084 + i * 0x2000, 15, 1⟩
def FIR_BANK_B_TAPS (i : Nat) : Fld := ⟨0x0C0084 + i * 0x2000, 0, 7⟩
def FIR_SWAP_WHEN (i : Nat) : Fld := ⟨0x0C0088 + i * 0x2000, 30, 2⟩
def FIR_SWAP_EVT (i : Nat) : Fld := ⟨0x0C0088 + i * 0x2000, 16, 10⟩
def FIR_SWAP_FADE (i : Nat) : Fld := ⟨0x0C0088 + i * 0x2000, 8, 3⟩
def FIR_SWAP_GO (i : Nat) : Fld := ⟨0x0C0088 + i * 0x2000, 0, 1⟩
def FIR_STATUS_WSTS (i : Nat) : Fld := ⟨0x0C008C + i * 0x2000, 24, 8⟩
def FIR_STATUS_SSTS (i : Nat) : Fld := ⟨0x0C008C + i * 0x2000, 16, 8⟩
def FIR_STATUS_REPLACED (i : Nat) : Fld := ⟨0x0C008C + i * 0x2000, 4, 1⟩
def FIR_STATUS_HELD (i : Nat) : Fld := ⟨0x0C008C + i * 0x2000, 3, 1⟩
def FIR_STATUS_PEND (i : Nat) : Fld := ⟨0x0C008C + i * 0x2000, 2, 1⟩
def FIR_STATUS_FADING (i : Nat) : Fld := ⟨0x0C008C + i * 0x2000, 1, 1⟩
def FIR_STATUS_ACTIVE (i : Nat) : Fld := ⟨0x0C008C + i * 0x2000, 0, 1⟩
def CBUF_CFG_TRIG_EVT (i : Nat) : Fld := ⟨0x161000 + i * 0x40, 16, 10⟩
def CBUF_CFG_TRIG (i : Nat) : Fld := ⟨0x161000 + i * 0x40, 8, 1⟩
def CBUF_CFG_TRIG_SRC (i : Nat) : Fld := ⟨0x161000 + i * 0x40, 4, 2⟩
def CBUF_CFG_MODE (i : Nat) : Fld := ⟨0x161000 + i * 0x40, 0, 1⟩
def CBUF_PRE (i : Nat) : Fld := ⟨0x161004 + i * 0x40, 0, 32⟩
def CBUF_POST (i : Nat) : Fld := ⟨0x161008 + i * 0x40, 0, 32⟩
def CBUF_STATUS_STS (i : Nat) : Fld := ⟨0x16100C + i * 0x40, 24, 8⟩
def CBUF_STATUS_EARLY (i : Nat) : Fld := ⟨0x16100C + i * 0x40, 6, 1⟩
def CBUF_STATUS_TSAMP (i : Nat) : Fld := ⟨0x16100C + i * 0x40, 4, 2⟩
def CBUF_STATUS_STATE (i : Nat) : Fld := ⟨0x16100C + i * 0x40, 0, 3⟩
def CBUF_TRIG_LO (i : Nat) : Fld := ⟨0x161010 + i * 0x40, 0, 32⟩
def CBUF_TRIG_HI (i : Nat) : Fld := ⟨0x161014 + i * 0x40, 0, 2⟩
def CBUF_FIRST_LO (i : Nat) : Fld := ⟨0x161018 + i * 0x40, 0, 32⟩
def CBUF_FIRST_HI (i : Nat) : Fld := ⟨0x16101C + i * 0x40, 0, 2⟩
def CBUF_COUNT_LO (i : Nat) : Fld := ⟨0x161020 + i * 0x40, 0, 32⟩
def CBUF_COUNT_HI (i : Nat) : Fld := ⟨0x161024 + i * 0x40, 0, 2⟩
def MEM_CTRL_SR_EN : Fld := ⟨0x030000, 9, 1⟩
def MEM_CTRL_AUTO_RETRAIN : Fld := ⟨0x030000, 8, 1⟩
def MEM_CTRL_UPD_GRP : Fld := ⟨0x030000, 0, 4⟩
def MEM_STATUS_TRAIN_FAIL : Fld := ⟨0x030004, 13, 1⟩
def MEM_STATUS_LOG_WRAP : Fld := ⟨0x030004, 12, 1⟩
def MEM_STATUS_LATE : Fld := ⟨0x030004, 11, 1⟩
def MEM_STATUS_PPLAY : Fld := ⟨0x030004, 10, 1⟩
def MEM_STATUS_UE : Fld := ⟨0x030004, 9, 1⟩
def MEM_STATUS_CE : Fld := ⟨0x030004, 8, 1⟩
def MEM_STATUS_RETRAIN_DUE : Fld := ⟨0x030004, 7, 1⟩
def MEM_STATUS_NOSPARE : Fld := ⟨0x030004, 6, 1⟩
def MEM_STATUS_DEGRADED : Fld := ⟨0x030004, 5, 1⟩
def MEM_STATUS_RETIRING : Fld := ⟨0x030004, 4, 1⟩
def MEM_STATUS_HOT : Fld := ⟨0x030004, 3, 1⟩
def MEM_STATUS_URGENT : Fld := ⟨0x030004, 2, 1⟩
def MEM_STATUS_DOUBLE : Fld := ⟨0x030004, 1, 1⟩
def MEM_STATUS_TRAINING : Fld := ⟨0x030004, 0, 1⟩
def MEM_SR_ACTIVE : Fld := ⟨0x030008, 16, 4⟩
def MEM_SR_IDLE : Fld := ⟨0x030008, 0, 16⟩
def MEM_NBR : Fld := ⟨0x03000C, 0, 5⟩
def MEM_ECC : Fld := ⟨0x030010, 0, 3⟩
def MEM_RET_RATE : Fld := ⟨0x030014, 0, 4⟩
def MEM_TEMP : Fld := ⟨0x030018, 0, 32⟩
def MEM_TEMP_REF : Fld := ⟨0x03001C, 0, 32⟩
def MEM_CE_CNT : Fld := ⟨0x030020, 0, 32⟩
def MEM_UE_CNT : Fld := ⟨0x030024, 0, 32⟩
def MEM_PAR_CNT : Fld := ⟨0x030028, 0, 32⟩
def MEM_PPLAY_CNT : Fld := ⟨0x03002C, 0, 32⟩
def MEM_LATE_CNT : Fld := ⟨0x030030, 0, 32⟩
def MEM_URGENT_CNT : Fld := ⟨0x030034, 0, 32⟩
def MEM_LOG_WR_FILL : Fld := ⟨0x030038, 16, 9⟩
def MEM_LOG_WR_NEXT : Fld := ⟨0x030038, 0, 8⟩
def MEM_SERVICE_RANKS : Fld := ⟨0x03003C, 16, 8⟩
def MEM_SERVICE_CHANNELS : Fld := ⟨0x03003C, 0, 7⟩
def RANK_STATE_STS (i : Nat) : Fld := ⟨0x178000 + i * 0x20, 24, 8⟩
def RANK_STATE_EXT_USED (i : Nat) : Fld := ⟨0x178000 + i * 0x20, 12, 12⟩
def RANK_STATE_CAUSE (i : Nat) : Fld := ⟨0x178000 + i * 0x20, 8, 4⟩
def RANK_STATE_STATE (i : Nat) : Fld := ⟨0x178000 + i * 0x20, 0, 3⟩
def RANK_CE_CNT (i : Nat) : Fld := ⟨0x178004 + i * 0x20, 0, 32⟩
def RANK_UE_CNT (i : Nat) : Fld := ⟨0x178008 + i * 0x20, 0, 32⟩
def RANK_RET_TIME_LO (i : Nat) : Fld := ⟨0x17800C + i * 0x20, 0, 32⟩
def RANK_RET_TIME_HI (i : Nat) : Fld := ⟨0x178010 + i * 0x20, 0, 32⟩
def RANK_EYE_WIDTH (i : Nat) : Fld := ⟨0x178014 + i * 0x20, 16, 16⟩
def RANK_EYE_UI (i : Nat) : Fld := ⟨0x178014 + i * 0x20, 0, 16⟩
def CLK_CTRL_QUAL : Fld := ⟨0x020000, 24, 8⟩
def CLK_CTRL_REF_SEL : Fld := ⟨0x020000, 8, 2⟩
def CLK_CTRL_FALLBACK_EN : Fld := ⟨0x020000, 5, 1⟩
def CLK_CTRL_RECOVER : Fld := ⟨0x020000, 4, 1⟩
def CLK_CTRL_UPD_GRP : Fld := ⟨0x020000, 0, 4⟩
def CLK_STATUS_BAND : Fld := ⟨0x020004, 20, 6⟩
def CLK_STATUS_REF_ACT : Fld := ⟨0x020004, 16, 2⟩
def CLK_STATUS_LOR : Fld := ⟨0x020004, 10, 1⟩
def CLK_STATUS_LOL : Fld := ⟨0x020004, 9, 1⟩
def CLK_STATUS_SVC_LOCK : Fld := ⟨0x020004, 8, 1⟩
def CLK_STATUS_REF_OK : Fld := ⟨0x020004, 7, 1⟩
def CLK_STATUS_INSTEP : Fld := ⟨0x020004, 6, 1⟩
def CLK_STATUS_RAMPING : Fld := ⟨0x020004, 5, 1⟩
def CLK_STATUS_FALLBACK : Fld := ⟨0x020004, 4, 1⟩
def CLK_STATUS_GATED : Fld := ⟨0x020004, 3, 1⟩
def CLK_STATUS_STATE : Fld := ⟨0x020004, 0, 3⟩
def CLK_ROOT_FCW_LO : Fld := ⟨0x020008, 0, 32⟩
def CLK_ROOT_FCW_HI : Fld := ⟨0x02000C, 0, 8⟩
def CLK_ROOT_FCW_ACT_LO : Fld := ⟨0x020010, 0, 32⟩
def CLK_ROOT_FCW_ACT_HI : Fld := ⟨0x020014, 0, 8⟩
def CLK_CMD_TAG : Fld := ⟨0x020018, 24, 8⟩
def CLK_CMD_MODE : Fld := ⟨0x020018, 8, 2⟩
def CLK_CMD_GO : Fld := ⟨0x020018, 7, 1⟩
def CLK_CMD_OPCODE : Fld := ⟨0x020018, 0, 4⟩
def CLK_CMD_STATUS_TAG : Fld := ⟨0x02001C, 24, 8⟩
def CLK_CMD_STATUS_STS : Fld := ⟨0x02001C, 16, 8⟩
def CLK_CMD_STATUS_OVERRUN : Fld := ⟨0x02001C, 1, 1⟩
def CLK_CMD_STATUS_BUSY : Fld := ⟨0x02001C, 0, 1⟩
def CLK_RAMP_CFG : Fld := ⟨0x020020, 0, 2⟩
def CLK_RAMP_DEV_LO : Fld := ⟨0x020024, 0, 32⟩
def CLK_RAMP_DEV_HI : Fld := ⟨0x020028, 0, 8⟩
def CLK_RAMP_STEP : Fld := ⟨0x02002C, 0, 32⟩
def CLK_SLEW : Fld := ⟨0x020030, 0, 16⟩
def CLK_OUT_CFG_EN : Fld := ⟨0x020034, 31, 1⟩
def CLK_OUT_CFG_DELAY : Fld := ⟨0x020034, 16, 10⟩
def CLK_OUT_CFG_DIV : Fld := ⟨0x020034, 0, 16⟩
def CLK_DLY (i : Nat) : Fld := ⟨0x020040 + i * 0x4, 0, 10⟩
def CLK_LOR_CNT : Fld := ⟨0x0200A0, 0, 32⟩
def CLK_LOL_CNT : Fld := ⟨0x0200A4, 0, 32⟩
def CLK_REF_FERR : Fld := ⟨0x0200A8, 0, 32⟩
def TXL_CFG_PORT_EN : Fld := ⟨0x050000, 8, 4⟩
def TXL_CFG_UP : Fld := ⟨0x050000, 4, 3⟩
def TXL_CFG_UPD_GRP : Fld := ⟨0x050000, 0, 4⟩
def TXL_ID : Fld := ⟨0x050004, 0, 9⟩
def TXL_STATUS_JOIN_STS : Fld := ⟨0x050008, 24, 8⟩
def TXL_STATUS_DEPTH : Fld := ⟨0x050008, 20, 4⟩
def TXL_STATUS_ID_IGNORED : Fld := ⟨0x050008, 7, 1⟩
def TXL_STATUS_DUP : Fld := ⟨0x050008, 6, 1⟩
def TXL_STATUS_SUBLOST : Fld := ⟨0x050008, 5, 1⟩
def TXL_STATUS_LOSS : Fld := ⟨0x050008, 4, 1⟩
def TXL_STATUS_SYSLOST : Fld := ⟨0x050008, 3, 1⟩
def TXL_STATUS_JOINED : Fld := ⟨0x050008, 2, 1⟩
def TXL_STATUS_TK : Fld := ⟨0x050008, 1, 1⟩
def TXL_STATUS_TRACE : Fld := ⟨0x050008, 0, 1⟩
def TXL_SYNC_PER_LO : Fld := ⟨0x05000C, 0, 32⟩
def TXL_SYNC_PER_HI : Fld := ⟨0x050010, 0, 8⟩
def TXL_WORST : Fld := ⟨0x050014, 0, 32⟩
def TXL_MEMBERS : Fld := ⟨0x050018, 0, 10⟩
def TXL_CMD_TAG : Fld := ⟨0x05001C, 24, 8⟩
def TXL_CMD_PORT : Fld := ⟨0x05001C, 8, 2⟩
def TXL_CMD_GO : Fld := ⟨0x05001C, 7, 1⟩
def TXL_CMD_OPCODE : Fld := ⟨0x05001C, 0, 4⟩
def TXL_CMD_STATUS_TAG : Fld := ⟨0x050020, 24, 8⟩
def TXL_CMD_STATUS_STS : Fld := ⟨0x050020, 16, 8⟩
def TXL_CMD_STATUS_OVERRUN : Fld := ⟨0x050020, 1, 1⟩
def TXL_CMD_STATUS_BUSY : Fld := ⟨0x050020, 0, 1⟩
def TXL_PEER_MOD : Fld := ⟨0x050024, 0, 9⟩
def TXL_PEER_HANDLE : Fld := ⟨0x050028, 8, 24⟩
def TXL_PEER_OFF_LO : Fld := ⟨0x05002C, 0, 32⟩
def TXL_PEER_OFF_HI : Fld := ⟨0x050030, 0, 2⟩
def TXL_PEER_DONE_LO : Fld := ⟨0x050034, 0, 32⟩
def TXL_PEER_DONE_HI : Fld := ⟨0x050038, 0, 2⟩
def TXL_PSTATUS_STS (i : Nat) : Fld := ⟨0x050100 + i * 0x40, 24, 8⟩
def TXL_PSTATUS_LIGHT (i : Nat) : Fld := ⟨0x050100 + i * 0x40, 5, 1⟩
def TXL_PSTATUS_ROLE (i : Nat) : Fld := ⟨0x050100 + i * 0x40, 4, 1⟩
def TXL_PSTATUS_STATE (i : Nat) : Fld := ⟨0x050100 + i * 0x40, 0, 3⟩
def TXL_PLAT (i : Nat) : Fld := ⟨0x050104 + i * 0x40, 0, 32⟩
def TXL_PMODS (i : Nat) : Fld := ⟨0x050110 + i * 0x40, 0, 10⟩
def TXL_ASYM (i : Nat) : Fld := ⟨0x050108 + i * 0x40, 0, 16⟩
def TXL_PRES (i : Nat) : Fld := ⟨0x05010C + i * 0x40, 0, 16⟩
def TXL_KA_MISS_CNT (i : Nat) : Fld := ⟨0x050114 + i * 0x40, 0, 32⟩
def TXL_DOWN_CNT (i : Nat) : Fld := ⟨0x050118 + i * 0x40, 0, 32⟩
def TXL_BLK_ERR_CNT (i : Nat) : Fld := ⟨0x05011C + i * 0x40, 0, 32⟩
def XNG_HSTATUS_FSTATE : Fld := ⟨0x010000, 4, 4⟩
def XNG_HSTATUS_WDOG_EXP : Fld := ⟨0x010000, 3, 1⟩
def XNG_HSTATUS_ATTENDED : Fld := ⟨0x010000, 2, 1⟩
def XNG_HSTATUS_FIELD_PWR : Fld := ⟨0x010000, 1, 1⟩
def XNG_HSTATUS_FIELD_ABSENT : Fld := ⟨0x010000, 0, 1⟩
def XNG_HALERT_WDOG : Fld := ⟨0x010004, 2, 1⟩
def XNG_HALERT_ALARM : Fld := ⟨0x010004, 1, 1⟩
def XNG_HALERT_FIELD_LOST : Fld := ⟨0x010004, 0, 1⟩
def XNG_HALERT_EN_WDOG : Fld := ⟨0x010008, 2, 1⟩
def XNG_HALERT_EN_ALARM : Fld := ⟨0x010008, 1, 1⟩
def XNG_HALERT_EN_FIELD_LOST : Fld := ⟨0x010008, 0, 1⟩
def XNG_WDOG : Fld := ⟨0x01000C, 0, 32⟩
def XNG_KICK : Fld := ⟨0x010010, 0, 32⟩
def XNG_RAISE : Fld := ⟨0x010014, 0, 32⟩
def XNG_PWR_STS : Fld := ⟨0x010018, 24, 8⟩
def XNG_PWR_DORMANT : Fld := ⟨0x010018, 0, 1⟩
def XNG_ALARM (i : Nat) : Fld := ⟨0x010020 + i * 0x4, 0, 32⟩
def XNG_NOTE (i : Nat) : Fld := ⟨0x010030 + i * 0x4, 0, 32⟩
def XNG_POP_NOTE : Fld := ⟨0x01003C, 1, 1⟩
def XNG_POP_ALARM : Fld := ⟨0x01003C, 0, 1⟩
def XNG_ALARM_STAT_LOST : Fld := ⟨0x010040, 16, 16⟩
def XNG_ALARM_STAT_FILL : Fld := ⟨0x010040, 0, 9⟩
def XNG_NOTE_STAT : Fld := ⟨0x010044, 0, 9⟩
def XNG_ABS_RD_CNT : Fld := ⟨0x010048, 0, 32⟩
def XNG_ABS_WR_CNT : Fld := ⟨0x01004C, 0, 32⟩
def XNG_NOTE_LOST_CNT : Fld := ⟨0x010050, 0, 32⟩
def XNG_RING_CTRL (i : Nat) : Fld := ⟨0x010100 + i * 0x10, 0, 1⟩
def XNG_RING_HEAD (i : Nat) : Fld := ⟨0x010104 + i * 0x10, 0, 8⟩
def XNG_RING_TAIL (i : Nat) : Fld := ⟨0x010108 + i * 0x10, 0, 8⟩
def XNG_ABSENT_POLICY : Fld := ⟨0x010800, 0, 2⟩
def XNG_FSTATUS_SAFE_LATCH : Fld := ⟨0x010804, 2, 1⟩
def XNG_FSTATUS_HOST_BACK : Fld := ⟨0x010804, 1, 1⟩
def XNG_FSTATUS_HOST_ABSENT : Fld := ⟨0x010804, 0, 1⟩
def XNG_NOTIFY (i : Nat) : Fld := ⟨0x010840 + i * 0x4, 0, 32⟩
def GLB_ID_PART : Fld := ⟨0x000000, 16, 16⟩
def GLB_ID_STEP : Fld := ⟨0x000000, 8, 8⟩
def GLB_VERSION_FW : Fld := ⟨0x000004, 16, 16⟩
def GLB_VERSION_IMAGE : Fld := ⟨0x000004, 0, 16⟩
def GLB_STATE_PSTS : Fld := ⟨0x000008, 24, 8⟩
def GLB_STATE_UNLOCKED : Fld := ⟨0x000008, 12, 1⟩
def GLB_STATE_LISTED : Fld := ⟨0x000008, 11, 1⟩
def GLB_STATE_BUSY : Fld := ⟨0x000008, 8, 1⟩
def GLB_STATE_PROFILE : Fld := ⟨0x000008, 0, 4⟩
def GLB_PROFILE : Fld := ⟨0x00000C, 0, 4⟩
def GLB_KEY : Fld := ⟨0x000010, 0, 32⟩
def GLB_UPDATE : Fld := ⟨0x000014, 0, 16⟩
def GLB_ERR_COLLIDE_ADDR : Fld := ⟨0x000018, 16, 12⟩
def GLB_ERR_COLLIDE : Fld := ⟨0x000018, 4, 1⟩
def GLB_ERR_ACC_SIZE : Fld := ⟨0x000018, 3, 1⟩
def GLB_ERR_UNMAPPED : Fld := ⟨0x000018, 2, 1⟩
def GLB_ERR_WO_REWRITE : Fld := ⟨0x000018, 1, 1⟩
def GLB_ERR_LOCKED_WRITE : Fld := ⟨0x000018, 0, 1⟩
def GLB_LOCKED_CNT : Fld := ⟨0x00001C, 0, 32⟩
def GLB_WO_CNT : Fld := ⟨0x000020, 0, 32⟩
def GLB_MBX_SEL : Fld := ⟨0x000024, 0, 16⟩
def GLB_MBX_CTRL_STS : Fld := ⟨0x000028, 24, 8⟩
def GLB_MBX_CTRL_REQ : Fld := ⟨0x000028, 0, 1⟩
def GLB_MBX_VALID : Fld := ⟨0x00002C, 0, 1⟩
def GLB_MBX_DATA (i : Nat) : Fld := ⟨0x000030 + i * 0x4, 0, 32⟩
def GLB_UPD_SRC_SRC (i : Nat) : Fld := ⟨0x000040 + i * 0x4, 12, 2⟩
def GLB_UPD_SRC_EVT (i : Nat) : Fld := ⟨0x000040 + i * 0x4, 0, 10⟩
def GLB_SYSTIME_LO : Fld := ⟨0x000080, 0, 32⟩
def GLB_SYSTIME_HI : Fld := ⟨0x000084, 0, 32⟩
def GLB_FLAGS_MASK : Fld := ⟨0x000088, 16, 16⟩
def GLB_FLAGS_FLAGS : Fld := ⟨0x000088, 0, 16⟩
def GLB_SOFT_RST : Fld := ⟨0x00008C, 0, 1⟩
def GLB_HV_CTRL_UP : Fld := ⟨0x000090, 1, 1⟩
def GLB_HV_CTRL_EN : Fld := ⟨0x000090, 0, 1⟩
def NVS_BOOT_STS : Fld := ⟨0x070100, 24, 8⟩
def NVS_BOOT_SECTION : Fld := ⟨0x070100, 16, 8⟩
def NVS_BOOT_STAGE : Fld := ⟨0x070100, 8, 4⟩
def NVS_BOOT_STOPPED : Fld := ⟨0x070100, 4, 1⟩
def NVS_BOOT_BANK : Fld := ⟨0x070100, 0, 1⟩
def NVS_RST_CAUSE_COUNT : Fld := ⟨0x070104, 16, 16⟩
def NVS_RST_CAUSE_CAUSE : Fld := ⟨0x070104, 0, 8⟩
def NVS_FIELD_RST : Fld := ⟨0x070108, 0, 16⟩
def NVS_TILE_RST : Fld := ⟨0x07010C, 0, 16⟩
def NVS_SUPPLY_SAG : Fld := ⟨0x070110, 18, 1⟩
def NVS_SUPPLY_ASH_SAG : Fld := ⟨0x070110, 17, 1⟩
def NVS_SUPPLY_NV_BLOCK : Fld := ⟨0x070110, 16, 1⟩
def NVS_SUPPLY_VIN : Fld := ⟨0x070110, 0, 10⟩
def NVS_LIST_ENTRY : Fld := ⟨0x070114, 16, 16⟩
def NVS_LIST_STS : Fld := ⟨0x070114, 8, 8⟩
def NVS_LIST_FAILS : Fld := ⟨0x070114, 0, 8⟩
def NVS_NV_CTRL_INACT_VALID : Fld := ⟨0x070300, 1, 1⟩
def NVS_NV_CTRL_WE : Fld := ⟨0x070300, 0, 1⟩
def NVS_IMG_CMD_TAG : Fld := ⟨0x070304, 24, 8⟩
def NVS_IMG_CMD_GO : Fld := ⟨0x070304, 7, 1⟩
def NVS_IMG_CMD_OPCODE : Fld := ⟨0x070304, 0, 4⟩
def NVS_IMG_ADDR : Fld := ⟨0x070308, 0, 32⟩
def NVS_IMG_STATUS_TAG : Fld := ⟨0x07030C, 24, 8⟩
def NVS_IMG_STATUS_STS : Fld := ⟨0x07030C, 16, 8⟩
def NVS_IMG_STATUS_OVERRUN : Fld := ⟨0x07030C, 1, 1⟩
def NVS_IMG_STATUS_BUSY : Fld := ⟨0x07030C, 0, 1⟩
def NVS_STAGE (i : Nat) : Fld := ⟨0x071000 + i * 0x4, 0, 32⟩
def CAL_CMD_TAG : Fld := ⟨0x070000, 24, 8⟩
def CAL_CMD_OPT : Fld := ⟨0x070000, 16, 1⟩
def CAL_CMD_TARGET : Fld := ⟨0x070000, 8, 4⟩
def CAL_CMD_GO : Fld := ⟨0x070000, 7, 1⟩
def CAL_CMD_OPCODE : Fld := ⟨0x070000, 0, 4⟩
def CAL_CMD_STATUS_TAG : Fld := ⟨0x070004, 24, 8⟩
def CAL_CMD_STATUS_STS : Fld := ⟨0x070004, 16, 8⟩
def CAL_CMD_STATUS_OVERRUN : Fld := ⟨0x070004, 1, 1⟩
def CAL_CMD_STATUS_BUSY : Fld := ⟨0x070004, 0, 1⟩
def CAL_QUAL_B : Fld := ⟨0x070008, 16, 16⟩
def CAL_QUAL_A : Fld := ⟨0x070008, 0, 16⟩
def CAL_STORE_VALID_B : Fld := ⟨0x07000C, 3, 1⟩
def CAL_STORE_VALID_A : Fld := ⟨0x07000C, 2, 1⟩
def CAL_STORE_LOADED : Fld := ⟨0x07000C, 0, 2⟩
def CAL_SEQ_A : Fld := ⟨0x070010, 0, 32⟩
def CAL_SEQ_B : Fld := ⟨0x070014, 0, 32⟩
def CAL_DUE : Fld := ⟨0x070018, 0, 8⟩
def CAL_BOOT_DAC_TIME : Fld := ⟨0x07001C, 24, 1⟩
def CAL_BOOT_PIN_LVL : Fld := ⟨0x07001C, 16, 8⟩
def CAL_BOOT_ADC : Fld := ⟨0x07001C, 8, 8⟩
def CAL_BOOT_DAC_LIN : Fld := ⟨0x07001C, 0, 8⟩
def CAL_Q_B (i : Nat) : Fld := ⟨0x070040 + i * 0x4, 16, 16⟩
def CAL_Q_A (i : Nat) : Fld := ⟨0x070040 + i * 0x4, 0, 16⟩
def MON_CTRL : Fld := ⟨0x060800, 0, 4⟩
def MON_START_LO : Fld := ⟨0x060804, 0, 32⟩
def MON_START_HI : Fld := ⟨0x060808, 0, 32⟩
def MON_STOP_LO : Fld := ⟨0x06080C, 0, 32⟩
def MON_STOP_HI : Fld := ⟨0x060810, 0, 32⟩
def MON_SNAP_CMD_LO : Fld := ⟨0x060814, 0, 32⟩
def MON_SNAP_CMD_HI : Fld := ⟨0x060818, 0, 32⟩
def MON_CFG_RUN (i : Nat) : Fld := ⟨0x060000 + i * 0x20, 31, 1⟩
def MON_CFG_OVF (i : Nat) : Fld := ⟨0x060000 + i * 0x20, 30, 1⟩
def MON_CFG_CLR (i : Nat) : Fld := ⟨0x060000 + i * 0x20, 22, 1⟩
def MON_CFG_SNAP_SEL (i : Nat) : Fld := ⟨0x060000 + i * 0x20, 20, 2⟩
def MON_CFG_STOP_SEL (i : Nat) : Fld := ⟨0x060000 + i * 0x20, 18, 2⟩
def MON_CFG_START_SEL (i : Nat) : Fld := ⟨0x060000 + i * 0x20, 16, 2⟩
def MON_CFG_SRC (i : Nat) : Fld := ⟨0x060000 + i * 0x20, 0, 10⟩
def MON_EVT_SNAP_EVT (i : Nat) : Fld := ⟨0x060004 + i * 0x20, 20, 10⟩
def MON_EVT_STOP_EVT (i : Nat) : Fld := ⟨0x060004 + i * 0x20, 10, 10⟩
def MON_EVT_START_EVT (i : Nat) : Fld := ⟨0x060004 + i * 0x20, 0, 10⟩
def MON_COUNT_LO (i : Nat) : Fld := ⟨0x060008 + i * 0x20, 0, 32⟩
def MON_COUNT_HI (i : Nat) : Fld := ⟨0x06000C + i * 0x20, 0, 16⟩
def MON_SNAP_LO (i : Nat) : Fld := ⟨0x060010 + i * 0x20, 0, 32⟩
def MON_SNAP_HI (i : Nat) : Fld := ⟨0x060014 + i * 0x20, 0, 16⟩
def MON_SNAP_TIME_LO (i : Nat) : Fld := ⟨0x060018 + i * 0x20, 0, 32⟩
def MON_SNAP_TIME_HI (i : Nat) : Fld := ⟨0x06001C + i * 0x20, 0, 32⟩
def NVS_TEMP_COLD : Fld := ⟨0x070118, 24, 8⟩
def NVS_TEMP_ENGINE : Fld := ⟨0x070118, 16, 8⟩
def NVS_TEMP_DAC_MAX : Fld := ⟨0x070118, 8, 8⟩
def NVS_TEMP_ADC_MAX : Fld := ⟨0x070118, 0, 8⟩
def NVS_HV_STATUS_I_POS : Fld := ⟨0x07011C, 24, 8⟩
def NVS_HV_STATUS_I_NEG : Fld := ⟨0x07011C, 16, 8⟩
def NVS_HV_STATUS_FAULT_NEG : Fld := ⟨0x07011C, 2, 1⟩
def NVS_HV_STATUS_FAULT_POS : Fld := ⟨0x07011C, 1, 1⟩
def NVS_HV_STATUS_LATCHED : Fld := ⟨0x07011C, 0, 1⟩

end Reg

end Sys2Proof.Machine
end

