-- ==== Sys2Proof/Machine/State.lean ====
section
/-! DEFINITION. The state of the module: everything the spec gives it, as plain data. A register whose home is the
register file is not repeated here. -/

namespace Sys2Proof.Machine

/-- Why a step stops with a fault. The spec gives every command an effect, so no meaning of this model ends in one. -/
inductive Fault where
  /-- Raised by no meaning: it names what a step would answer for a command the spec gives no effect. Safe. -/
  | noEffect
  deriving DecidableEq, Repr

/-- Why a step is refused. -/
inductive Refusal where
  /-- Raised by exec's arms alone, for a command that has no meaning yet. Safe: nothing is claimed of it. -/
  | notModelled (mnemonic : String)
  deriving DecidableEq, Repr

/-! ## Segments (chapter 02) -/

/-- The five kinds of R34. -/
inductive SegKind where
  | program | waveform | pattern | capture | slipway
  deriving DecidableEq, Repr

/-- The rate classes of R42. -/
inductive RateClass where
  | A | B | C
  deriving DecidableEq, Repr

/-- A run of a segment's lines in one extent: the stripe they belong to, by its place among the segment's channels, the
extent's number, and how many lines (R42). -/
structure Strip where
  stripe : Nat
  ext : Nat
  lines : Nat
  deriving DecidableEq, Repr

/-- An extent that holds lines: the rank it lies on, the class of the segments that share it and the lines in use (R42, R51). -/
structure Ext where
  rank : Nat
  cls : RateClass
  used : Nat
  deriving DecidableEq, Repr

/-- One storage: the lines that an ALLOC gave, reached through a handle until FREE, or kept as the old storage of a
REDIRECT (R50). -/
structure Storage where
  kind : SegKind
  cls : RateClass
  len : Nat
  fill : Nat
  chans : List Nat
  /-- Where its lines lie, stripe by stripe and in the order of the lines of a stripe. -/
  parts : List Strip
  recLen : Nat
  wr : Nat
  rd : Nat
  /-- The cycles in which WR changed, with its value, oldest first (R123). -/
  wrLog : List (Nat × Nat)
  deriving DecidableEq, Repr

/-- The storage an unknown number names: no words, no channels. -/
def Storage.init : Storage := ⟨.program, .C, 0, 0, [], [], 0, 0, 0, []⟩

/-- One open LOAD (R53), ferry or peer. -/
structure OpenLoad where
  tag : Nat
  read : Bool
  final : Bool
  ring : Bool
  src : Nat
  off : Nat
  count : Nat
  done : Nat
  poisoned : Nat
  peerMod : Nat
  peerHandle : Nat
  peerOff : Nat
  waiting : Bool
  /-- The storage that it began on: a peer transfer keeps to it (R38, R48, R50). -/
  sid : Nat
  /-- Lines poisoned since it began, which its earlier words do not clear (R41, R251). -/
  marred : List Nat
  deriving DecidableEq, Repr

/-- A transfer that another module's LOAD has opened on a segment of this one (R291): the port, whether it reads here, whether
it fills a ring, the storage it began on, the word it began at and the words it has moved, and the lines poisoned since. -/
structure Guest where
  port : Nat
  read : Bool
  ring : Bool
  sid : Nat
  off : Nat
  done : Nat
  marred : List Nat
  deriving DecidableEq, Repr

/-- A pending REDIRECT (R47). -/
structure Redirect where
  sid : Nat
  mode : Nat
  at_ : Option Nat
  bound : Nat
  grp : Nat
  /-- Tile, slot that holds H's opening words, and the second slot taken for it (R49). -/
  slots : List (Nat × Nat × Nat)
  deriving DecidableEq, Repr

/-- A live handle: its storage, whether it is LOADING, and what is open on it (R36). -/
structure Seg where
  sid : Nat
  loading : Bool
  finalDone : Bool
  loads : List OpenLoad
  redirect : Option Redirect
  guests : List Guest
  deriving DecidableEq, Repr

/-- An old storage kept until its last reference ends (R50). -/
structure OldStore where
  h : Nat
  sid : Nat
  deriving DecidableEq, Repr

/-! ## Contexts (chapter 03, 04) -/

/-- The life-cycle states of R84. -/
inductive CtxState where
  | free | loaded | ready | running | paused | halted | faulted
  deriving DecidableEq, Repr

/-- The encoding of CTX_CFG.STATE (R84). -/
def CtxState.code : CtxState → Nat
  | .free => 0 | .loaded => 1 | .ready => 2 | .running => 3 | .paused => 4 | .halted => 5 | .faulted => 6

/-- An instruction address (R33), with the storage it was recorded in (R48). -/
structure Addr where
  h : Nat
  sid : Nat
  off : Nat
  deriving DecidableEq, Repr

/-- How a context continues at its PC (R110): at an instruction, or inside an item. -/
inductive Pos where
  /-- At the instruction at the PC. -/
  | fresh
  /-- In a PLAY or PLAYN: at word w of storage sid (handle h, len words), with reps repetitions after this one; a
  repetition begins at word first. -/
  | words (h sid len first w reps : Nat)
  /-- In a STREAM of n blocks (0 without end) from entry e: at word w of the block that starts at ring total b,
  counted blocks already counted. -/
  | block (h sid e n b w counted : Nat)
  /-- At a SYNC entered again, first entered at cycle since: it keeps its target cycle when that is known. -/
  | sync (target : Option Nat) (since : Nat)
  /-- At a stepped routine of which k steps have applied. -/
  | steps (k : Nat)
  deriving DecidableEq, Repr

/-- A loop-stack entry (R69). -/
structure LoopEnt where
  start : Addr
  left : Nat
  forever : Bool
  rpt : Bool
  deriving DecidableEq, Repr

/-- A call-stack entry (R70), with the hidden position of R110 and R141. -/
structure CallEnt where
  ret : Addr
  pos : Pos
  depth : Nat
  deriving DecidableEq, Repr

/-- The actions of an arm (R101). -/
inductive ArmAct where
  | goto | call | switch | stop | count
  deriving DecidableEq, Repr

/-- The encoding of ACT (R61). -/
def ArmAct.code : ArmAct → Nat
  | .goto => 0 | .call => 1 | .switch => 2 | .stop => 3 | .count => 4

/-- An arm record (R100, R106). -/
structure ArmRec where
  valid : Bool
  evt : Nat
  act : ArmAct
  h : Nat
  off : Nat
  rewind : Bool
  persist : Bool
  slot : Option Nat
  fired : Nat
  gen : Nat
  deriving DecidableEq, Repr

/-- An arm record that has never been written. -/
def ArmRec.init : ArmRec := ⟨false, 0, .goto, 0, 0, false, false, none, 0, 0⟩

/-- A context: its state beyond the RW fields of its table entry. -/
structure Ctx where
  st : CtxState
  pc : Addr
  pos : Pos
  loops : List LoopEnt
  calls : List CallEnt
  arms : SMap ArmRec
  tsBank : Nat
  rslot : Nat
  cause : Nat
  sts : Nat
  played : List (Nat × Nat)
  deriving DecidableEq, Repr

/-- A context after reset: Free (R93). -/
def Ctx.init : Ctx := ⟨.free, ⟨0, 0, 0⟩, .fresh, [], [], [], 0, 0, 0, 0, []⟩

/-! ## Tiles (chapters 03, 04, 05) -/

/-- The landed run a slot holds (R102): ranges of words, and the instructions resolved with them. -/
structure LRun where
  words : List (Nat × Nat × Nat)
  instrs : List (Nat × Nat)
  deriving DecidableEq, Repr

/-- A landing slot in use (R103, R104). -/
structure Slot where
  run : LRun
  /-- The cycle from which its fill may run: when run-ahead may first have resolved its arm. -/
  since : Nat
  /-- The cycle in which the fill started. -/
  started : Option Nat
  /-- The cycle in which the fill completed. -/
  filled : Option Nat
  deriving DecidableEq, Repr

/-- A catch waiting for its commit (R107, R108). -/
structure Catch where
  c : Nat
  k : Nat
  gen : Nat
  evt : Nat
  at_ : Nat
  ts : Ts
  deriving DecidableEq, Repr

/-- How a STREAM stands with its current block (R122 to R125). -/
inductive BlockPhase where
  /-- The block is due at its position, or plays since then. -/
  | playing
  /-- The block named in R123, which starts at ring total b of the same storage, plays again. -/
  | replaying (b : Nat)
  /-- HOLD: the output holds since the block's due cycle; bridge says that the hold value is the bridge value. -/
  | held (bridge : Bool)
  deriving DecidableEq, Repr

/-- One part of what a user routine has handed to the player (R135, EMIT): words, or a bridge value for some cycles; and a
write of a stage resource, which acts between the words before it and those after it (R187). -/
inductive Part where
  | words (sid w n : Nat)
  | hold (cc : Nat)
  | setr (r v : Nat)
  deriving DecidableEq, Repr

/-- What plays on a tile (R58). Positions are in fine steps of the play timeline. -/
inductive Item where
  /-- No timed item: the next instruction takes effect at nextPos. -/
  | idle
  /-- A PLAY or PLAYN: word w of storage sid leaves at pos; reps repetitions follow this one, which began at word
  first. -/
  | words (h sid len first w reps pos : Nat)
  /-- A WAIT from cycle since on: until ends_ once its event has released it (R72). -/
  | wait (evt since : Nat) (ends_ : Option Nat)
  | sync (mode arg since : Nat) (target : Option Nat)
  /-- A RAMP: step k + 1 is due at cycle next. -/
  | ramp (target steps dwell delta k next : Nat)
  /-- A STREAM: the block that starts at ring total b plays from word w at pos. -/
  | stream (h sid e n counted b w pos : Nat) (ph : BlockPhase)
  /-- The dead time of a commit of context c: its bridge value until the landed run starts at cycle until_ (R112). -/
  | dead (until_ c : Nat)
  /-- A user routine's parts play from pos. -/
  | user (parts : List Part) (pos : Nat)
  /-- A user routine that R137 faults, its fault not yet taken. -/
  | runaway
  deriving DecidableEq, Repr

/-- A pending START or RESUME (R88). -/
structure StartReq where
  c : Nat
  resume : Bool
  mode : Nat
  at_ : Option Nat
  earliest : Nat
  deriving DecidableEq, Repr

/-- An accepted PAUSE or STOP that has not taken effect (R89). -/
structure EndReq where
  c : Nat
  at_ : Nat
  word : Bool
  deriving DecidableEq, Repr

/-- What resolving an ARM, or a STREAM under DIVERT, has found (R103, R126): the slot taken, none where no landing is
needed, or the status of the refusal that its effect cycle will report. -/
inductive Landing where
  | free
  | slot (i : Nat)
  | refused (sts : Sts)
  deriving DecidableEq, Repr

/-- An instruction that run-ahead has resolved and that has not taken effect, with its ledger checkpoint (R38, R59, R139):
its storage and offset, the storage it will play, and its landing. -/
structure Resolved where
  sid : Nat
  off : Nat
  play : Option Nat
  land : Option Landing
  deriving DecidableEq, Repr

/-- The run-ahead of a tile along the planned path of context c (R59, R102, R139): the state that resolution has reached,
what it has resolved, oldest first, the instructions of no duration in a row, and whether the path ends there. -/
structure Ahead where
  c : Nat
  pc : Addr
  loops : List LoopEnt
  calls : List CallEnt
  cnt0 : Nat
  cnt1 : Nat
  led : List Resolved
  dry : Nat
  ends_ : Bool
  deriving DecidableEq, Repr

/-- A change of visible state by a user routine that waits for its checkpoint cycle (R138, R139). -/
inductive Delayed where
  | setr (res v : Nat)
  | stks (loops : List LoopEnt) (calls : List CallEnt)
  | arm (ops : Nat) (land : Landing)
  | clear (k : Nat) (all : Bool)
  deriving DecidableEq, Repr

/-- The micro-machine of a tile (R131). -/
structure Micro where
  m : SMap Word72
  z : Bool
  cy : Bool
  ld : Bool
  link : Option Nat
  /-- The record that the last ARMR writes, and its landing (R136). -/
  lastArm : Option (Nat × Landing)
  /-- The player queue that FETCH fills. -/
  queue : List (Nat × Nat × Nat)
  /-- The routine in progress continues at this control-store address. -/
  upc : Option Nat
  /-- Its effect cycle, its current checkpoint offset, the offsets of its checkpoints, and the k it was entered with. -/
  eff : Nat
  ck : Nat
  cks : List Nat
  k0 : Nat
  loops : List LoopEnt
  calls : List CallEnt
  due : List (Nat × Delayed)
  /-- A WAITE that begins when the parts handed over have played: its mode and its operand. -/
  wait : Option (Nat × Nat)
  /-- Microwords that may still execute before R137's fault. -/
  left : Nat
  /-- Microwords executed since dispatch up to the first EMIT, WAITE or NEXT (R145), and whether that is still to come. -/
  words : Nat
  open_ : Bool
  deriving DecidableEq, Repr

/-- The micro-machine emptied (R154). -/
def Micro.init : Micro := ⟨[], false, false, false, none, none, [], none, 0, 0, [], 0, [], [], [], none, 4096, 0, true⟩

/-- A user microcode reload in progress (R147). -/
structure Reload where
  h : Nat
  sid : Nat
  deriving DecidableEq, Repr

/-- A DIVERT underrun that waits for its commit (R126): table entry, due cycle, storage, block, and the handler's slot. -/
structure Divert where
  e : Nat
  due : Nat
  slot : Nat
  deriving DecidableEq, Repr

/-- A stream tile. -/
structure TileSt where
  running : Option Nat
  last : Option Nat
  nextPos : Nat
  item : Item
  spin : Nat
  gapAt : Option Nat
  /-- The position at which the item in play began, and whether it holds condition 1 of R65. -/
  itemAt : Nat
  itemOk : Bool
  /-- The timed item before: its duration in whole cc, whether it held condition 1, and the instructions resolved after it
  (R65, R145). -/
  lastCc : Nat
  lastOk : Bool
  between : Nat
  /-- The position of a word that cannot be late: the first after a seamless transition, or after a landed run (R65,
  R112). -/
  sureAt : Option Nat
  /-- The position from which the item in play plays from the repeat cache (R65). -/
  rcFrom : Option Nat
  /-- The cycle from which the path in force was resolved again, after a COUNT arm's commit (R63). -/
  reres : Option Nat
  start : Option StartReq
  pauses : List EndReq
  stops : List EndReq
  catches : List Catch
  slots : SMap Slot
  fillQ : List Nat
  lastFill : Option Nat
  /-- The run-ahead of the path in force: none until it resolves its first instruction (R59, R104). -/
  ahead : Option Ahead
  /-- The lines in the instruction cache, the newest first: storage and line (R66). -/
  icache : List (Nat × Nat)
  /-- The slot of the DIVERT handler of the STREAM in play. -/
  divert : Option Nat
  /-- The DIVERT underrun that waits for its commit. -/
  diverting : Option Divert
  /-- The due cycle of an underrun under DIVERT that has been counted and logged (R126). -/
  heldDue : Option Nat
  prep : Option (Nat × Nat)
  /-- The slot from which a landed run plays, and the words of the run that no item has begun to play (R105). -/
  landing : Option (Nat × Nat)
  /-- The position at which the last word of the landed run that an item has begun to play ends. -/
  landUntil : Nat
  /-- The words of the landed run have been played, and no word after them: whether the run lasted 1,024 cc (R112). -/
  afterRun : Option Bool
  /-- The last word of the block in play has left the tile (R120, R122). -/
  blockDone : Bool
  mark0 : Nat
  mark1 : Nat
  /-- The repeat cache: storage and words (R65). -/
  rcache : Option (Nat × Nat)
  micro : Micro
  reload : Option Reload
  ran : Bool
  /-- The cycle of the last tile reset (R92). -/
  resetAt : Option Nat
  /-- The cycle in which a context last left Running here (R177). -/
  leftAt : Option Nat
  deriving DecidableEq, Repr

/-- A tile after reset (R93, R130, R154). -/
def TileSt.init : TileSt where
  running := none
  last := none
  nextPos := 0
  item := .idle
  spin := 0
  gapAt := none
  itemAt := 0
  itemOk := false
  lastCc := 0
  lastOk := false
  between := 0
  sureAt := none
  rcFrom := none
  reres := none
  start := none
  pauses := []
  stops := []
  catches := []
  slots := []
  fillQ := []
  lastFill := none
  ahead := none
  icache := []
  divert := none
  diverting := none
  heldDue := none
  prep := none
  landing := none
  landUntil := 0
  afterRun := none
  blockDone := false
  mark0 := 0
  mark1 := 0
  rcache := none
  micro := Micro.init
  reload := none
  ran := false
  resetAt := none
  leftAt := none

/-! ## Events (chapter 04) -/

/-- An occurrence of a source that awaits its registration cycle (R96). -/
structure Occ where
  src : Nat
  cyc : Nat
  ts : Ts
  deriving DecidableEq, Repr

/-- A system event that awaits its registration (R116, R117). -/
structure SysReg where
  se : Nat
  cyc : Nat
  ts : Ts
  apply : Nat
  late : Bool
  deriving DecidableEq, Repr

/-- The last registration of an event number (R99). -/
structure LastReg where
  cyc : Option Nat
  ts : Ts
  count : Nat
  deriving DecidableEq, Repr

/-- An event log entry (R99, R393). -/
structure LogEnt where
  ts : Ts
  num : Nat
  tile : Nat
  kind : Nat
  slw : Bool
  ctx : Nat
  reason : Nat
  deriving DecidableEq, Repr

/-- A running timer (R97): when it expires next, and whether that expiry is its last. -/
structure Timer where
  expiry : Nat
  last : Bool
  deriving DecidableEq, Repr

/-- The event fabric, with the occurrences of R370 in this cycle. -/
structure Events where
  occ : List Occ
  sys : List SysReg
  lasts : SMap LastReg
  log : SMap LogEnt
  logged : Nat
  timers : SMap Timer
  trig : List Bool
  /-- The last strobe of each update group, as a cycle; key 16 is the sync pulse. -/
  strobes : SMap Nat
  /-- Strobes that an apply time drives and that have not come yet: (cycle, group) (R322). -/
  strobeDue : List (Nat × Nat)
  /-- Registrations of this cycle that the arms have not yet been offered: they meet the arms as the cycle leaves them
  (R107, R129). -/
  offers : List (Nat × Ts)
  /-- Registers whose RWS fields software has written before this cycle, and which have not transferred since (R321). -/
  written : List Nat
  /-- Levels with a swing above 1,800 mV that a strobe of this cycle transfers once the commits of the cycle are made (R202):
  update group, pin group, pin. -/
  levels : List (Nat × Nat × Nat)
  /-- The register words as this cycle began, or as software has written them in it: by these hardware's updates of the cycle
  are known (R331). -/
  began : SMap Word
  deriving DecidableEq, Repr

/-- The event fabric after reset (R130). -/
def Events.init : Events := ⟨[], [], [], [], 0, [], [false, false, false, false], [], [], [], [], [], []⟩

/-! ## Waveform channels (chapter 06) -/

/-- The latching conditions that hold an output in its safe state (R175, R198), apart from FORCE_SAFE, whose home is its
register, and the module-wide ones, which are computed. -/
structure Latches where
  /-- The field side is held in reset (R348). -/
  reset : Bool
  gated : Bool
  power : Bool
  cal : Bool
  absent : Bool
  deriving DecidableEq, Repr

/-- The phase of slot 0 of a cycle, the frequency word, the gain and the offset, as a channel has them from that cycle on
(R162, R164). -/
structure WavLag where
  cyc : Nat
  phase : BitVec 48
  ftw : Nat
  gain : Nat
  off : Nat
  deriving DecidableEq, Repr

/-- The input samples that the interpolator's longest history spans (R158). -/
def histLen : Nat := 128

/-- The digital path of a waveform channel (R155 to R170) and its output switch. -/
structure WavSt where
  /-- The phase of slot 0 of cycle phaseAt; it advances by FTW a slot unless held. -/
  phase : BitVec 48
  phaseAt : Nat
  phaseHeld : Bool
  /-- Input samples taken, the newest first (R159). -/
  hist : List Int
  /-- The input sample in progress: what it is, and the slots it has lasted. -/
  key : Nat
  sub : Nat
  err1 : Int
  err2 : Int
  lim : Int
  slot : Nat
  /-- The DAC code that the output holds, and the DAC value of the slot before. -/
  dac : Int
  prev : Int
  cur : BitVec 16
  mko : Nat
  /-- No sample has come since the last event of R159 (R173). -/
  fresh : Bool
  closed : Bool
  muteUntil : Option Nat
  /-- What the channel applied before the combiner and at the gain stage, the newest first: it lags by G (R157, R165). -/
  lag : List WavLag
  /-- DAC codes and marker bits by the position at the connector from which each holds, the newest first (R157, R174). -/
  codes : List (Nat × Int)
  marks : List (Nat × Nat)
  deriving DecidableEq, Repr

/-- A waveform channel after reset: rest code 0, switch open (R159, R169, R175). -/
def WavSt.init : WavSt where
  phase := 0
  phaseAt := 0
  phaseHeld := true
  hist := List.replicate histLen 0
  key := 0
  sub := 0
  err1 := 0
  err2 := 0
  lim := 0
  slot := 0
  dac := 8192
  prev := 8192
  cur := 0
  mko := 0
  fresh := true
  closed := false
  muteUntil := none
  lag := []
  codes := []
  marks := []

/-! ## Recordings (chapters 07, 08) -/

/-- A recording of a capture channel or pin group in progress (R231). -/
structure Recd where
  h : Nat
  sid : Nat
  units : Nat
  acc : Word72
  trig : Option Nat
  trigTs : Option Ts
  stopAt : Option Nat
  ended : Bool
  sts : Nat
  /-- The instants of its units, the newest first. -/
  insts : List Ts
  /-- The cycle in which it started, and STS and STATE of its buffer entry before it. -/
  from_ : Nat
  was : Nat × Nat
  /-- The cycle in which it ended. -/
  endAt : Nat
  deriving DecidableEq, Repr

/-! ## Pattern groups (chapter 07) -/

/-- The state of a pin's driver: off, or on at 0 or 1 (R189, R190). -/
inductive Drive where
  | off | lo | hi
  deriving DecidableEq, Repr

/-- A fail log entry (R192). -/
structure FailEnt where
  ts : Ts
  pins : BitVec 8
  tsel : Nat
  bank : Nat
  vcyc : BitVec 32
  deriving DecidableEq, Repr

/-- The vector cycle in progress of a group: where it started, its word half, set and bank, the rows in force when it
started, and the drive states before it (R183 to R191). -/
structure VCyc where
  pos : Nat
  codes : BitVec 32
  tsel : Nat
  bank : Nat
  rows : SMap Word72
  before : List Drive
  poison : Bool
  /-- Its compares are evaluated up to this position. -/
  evald : Nat
  /-- Its result bits (R31), failing pins and the earliest failing compare. -/
  res : Nat
  fails : Nat
  failTs : Option Ts
  /-- Raw capture takes it (R194). -/
  taken : Bool
  deriving DecidableEq, Repr

/-- A pin group. -/
structure GrpSt where
  /-- Committed rows: row r of set s at 32 × s + r. -/
  sets : SMap Word72
  hstage : SMap Word72
  mstage : SMap Word72
  /-- Whether a row above 24 has been addressed in each buffer since its last commit. -/
  hbad : Bool
  mbad : Bool
  mAddr : Nat
  drive : List Drive
  vc : Option VCyc
  /-- Where cycle 1 of the word in play starts, once its cycle 0 has started. -/
  mid : Option Nat
  flog : SMap FailEnt
  mhist : SMap (BitVec 64)
  mmatch : SMap Bool
  enabled : Bool
  recd : Option Recd
  armed : Bool
  /-- The pins are held high-impedance, until the first vector cycle that starts with the rails up (R199). -/
  hz : Bool
  /-- The vector cycle count of the last failing vector cycle (R192). -/
  failAt : Option Nat
  /-- Which pins have driven at the end of the last cycles, the newest first: bit k for pin k (R181, R201). -/
  outs : List Nat
  /-- The cycle of the last stop of recording (R202), and recordings that have ended and drain. -/
  stopCyc : Option Nat
  drains : List Recd
  deriving DecidableEq, Repr

/-- A pin group after reset: staging buffers empty, drivers off (R203). -/
def GrpSt.init : GrpSt where
  sets := []
  hstage := []
  mstage := []
  hbad := false
  mbad := false
  mAddr := 0
  drive := [.off, .off, .off, .off, .off, .off, .off, .off]
  vc := none
  mid := none
  flog := []
  mhist := []
  mmatch := []
  enabled := false
  recd := none
  armed := false
  hz := false
  failAt := none
  outs := []
  stopCyc := none
  drains := []

/-! ## Capture channels (chapter 08) -/

/-- The filter chain's registers (R207 to R215), zero after a synchronising reset (R220). -/
structure Chain where
  xc : List (BitVec 12)
  eq : List Int
  cic : List (BitVec 72)
  comb : List (BitVec 72)
  comp : List Int
  hb1 : List Int
  hb2 : List Int
  fir : List Int
  n : Nat
  ncic : Nat
  nhb1 : Nat
  nhb2 : Nat
  out : Nat
  deriving DecidableEq, Repr

/-- The chain zeroed (R220). -/
def Chain.init : Chain :=
  ⟨[], [], [0, 0, 0, 0, 0], [0, 0, 0, 0, 0], [], [], [], [], 0, 0, 0, 0, 0⟩

/-- A threshold: its state, and the samples that have satisfied the new condition in a row (R227). -/
structure Thr where
  q : Bool
  run : Nat
  init : Bool
  deriving DecidableEq, Repr

/-- A swap request (R224, R226). -/
structure Swap where
  when_ : Nat
  evt : Nat
  fade : Nat
  after : Nat
  /-- The cycle of its acceptance. -/
  acc : Nat
  deriving DecidableEq, Repr

/-- A cross-fade in progress: samples done of n (R225). -/
structure Fade where
  n : Nat
  done : Nat
  deriving DecidableEq, Repr

/-- A capture channel. -/
structure CapSt where
  chain : Chain
  epoch : Nat
  settle : Nat
  thr : SMap Thr
  taps : SMap (BitVec 18)
  swap : Option Swap
  triggered : Bool
  fade : Option Fade
  sync : Option Nat
  rngAt : Option Nat
  calHeld : Bool
  absHeld : Bool
  /-- A steward has stopped, and the reset that it forces has not begun (R12, R349). -/
  stewHeld : Bool
  recd : Option Recd
  armed : Bool
  /-- The cycle of the last stop of recording (R235), and recordings that have ended and drain. -/
  stopCyc : Option Nat
  drains : List Recd
  deriving DecidableEq, Repr

/-- A threshold after a reset: it takes its state from the first sample (R227). -/
def Thr.fresh : Thr := ⟨false, 0, true⟩

/-- A capture channel after reset (R237). -/
def CapSt.init : CapSt :=
  ⟨Chain.init, 0, 0, [], [], none, false, none, none, none, false, false, false, none, false, none, []⟩

/-! ## The Crossing and the host bridge (chapter 12) -/

/-- An alarm (R303). -/
structure Alarm where
  ts : Ts
  code : Nat
  detail : Nat
  deriving DecidableEq, Repr

/-- An event notification (R304): an event number, or a slipway entry with mark set. -/
structure Note where
  ts : Ts
  num : Nat
  mark : Bool
  deriving DecidableEq, Repr

/-- A ferry descriptor as it stands in its ring (R305). -/
structure Desc where
  addr : BitVec 64
  count : Nat
  handle : Nat
  toHost : Bool
  irq : Bool
  flagsRsv : Nat
  done : Nat
  sts : Nat
  user : BitVec 64
  deriving DecidableEq, Repr

/-- A slot of a ring that has never been written. -/
def Desc.init : Desc := ⟨0, 0, 0, false, false, 0, 0, 0, 0⟩

/-- A register access that waits at the bridge (R301): data for a write, none for a read. -/
structure Access where
  addr : Nat
  bytes : Nat
  data : Option (BitVec 64)
  deriving DecidableEq, Repr

/-- One ring's transfer in progress (R307): the status that has ended it, if one has, and poisoned words met. -/
structure Xfer where
  sts : Option Nat
  poisoned : Nat
  deriving DecidableEq, Repr

/-- The configuration space of the PCI Express endpoint, in its fields that can hold more than one value (R308, R309): the command
word, the bases of BAR0 and BAR2, the interrupt line; the link's width and its speed (1 for 2.5 GT/s to 4 for 16);
Max_Payload_Size and Max_Read_Request_Size as PCI Express encodes them (128 << n); 10-bit tags, D3hot, ASPM L1 and MSI-X
enabled; the AER status words; and the MSI-X table and pending bits. -/
structure Pcie where
  command : Nat
  bar0 : Nat
  bar2 : Nat
  intLine : Nat
  width : Nat
  speed : Nat
  payload : Nat
  readReq : Nat
  tags10 : Bool
  d3hot : Bool
  aspmL1 : Bool
  msix : Bool
  aerUncor : Word
  aerCor : Word
  table : SMap Word
  pend : Nat
  deriving DecidableEq, Repr

/-- The configuration space after PERST_N (R311): the values that PCI Express gives its registers at reset, on a link trained to the
full width and speed (PRESUMED, log 122). -/
def Pcie.init : Pcie := ⟨0, 0, 0, 0, 8, 4, 0, 2, false, false, false, false, 0, 0, [], 0⟩

/-- Both ends of the Crossing, and the bridge. -/
structure Crossing where
  /-- The field-side end carries messages. -/
  up : Bool
  fAlarms : List Alarm
  fAlarmLost : Nat
  fNotes : List Note
  fNoteLost : Nat
  hAlarms : List Alarm
  hNotes : List Note
  /-- Descriptor i of ring r at 256 × r + i. -/
  rings : SMap Desc
  xfers : SMap Xfer
  waiting : List Access
  /-- PERST_N is asserted. -/
  perst : Bool
  /-- Heartbeats on their way: ATTENDED of one from the host side, the field state of one from the field side. -/
  beatHost : Option Bool
  beatField : Option Nat
  /-- Heartbeats in a row at the host side, and attended ones at the field side, while the other is absent. -/
  hbHost : Nat
  hbField : Nat
  /-- Signals of each MSI-X vector since PERST_N (R310). -/
  irqs : SMap Nat
  /-- Host event raises on their way to the field side (R304). -/
  raises : List Nat
  /-- The cycle from which the STOP_SAFE policy holds the outputs safe (R302). -/
  safeAt : Option Nat
  /-- An accepted Dormant request precedes the absence (R301). -/
  dormant : Bool
  /-- The data with which the last register read completed (R299). -/
  readData : BitVec 64
  /-- The mailbox data words that the bridge serves since a host read VALID as 1, until the next request (R299). -/
  mbx : List Nat
  /-- What the SMBus last returned (R313). -/
  smbus : List (BitVec 8)
  pcie : Pcie
  /-- The words that the last frame to the host carried (R251, R307). -/
  ferried : List Word72
  deriving DecidableEq, Repr

/-- The Crossing after power-up: not yet carrying messages. -/
def Crossing.init : Crossing where
  up := false
  fAlarms := []
  fAlarmLost := 0
  fNotes := []
  fNoteLost := 0
  hAlarms := []
  hNotes := []
  rings := []
  xfers := []
  waiting := []
  perst := false
  beatHost := none
  beatField := none
  hbHost := 0
  hbField := 0
  irqs := []
  raises := []
  safeAt := none
  dormant := false
  readData := 0
  mbx := []
  smbus := []
  pcie := Pcie.init
  ferried := []

/-! ## Stacked memory (chapter 09) -/

/-- An error-log entry (R259). -/
structure MemEnt where
  ts : Ts
  rank : Nat
  kind : Nat
  bytes : Nat
  loc : BitVec 64
  deriving DecidableEq, Repr

/-- A retrain in progress (R255, R363): its stacks, and the contexts it paused. -/
structure Retrain where
  stks : List Nat
  auto : Bool
  failed : Bool
  deriving DecidableEq, Repr

/-- The memory controller and the placement engine's own state. -/
structure MemSt where
  log : SMap MemEnt
  /-- The cycles in which stacks have reached 95 °C and whose millisecond is not over, and the stacks whose priority-5 traffic
  is stopped (R246). -/
  hotAt : List Nat
  hotStks : List Nat
  /-- The stacks that report the doubled refresh rate (R245). -/
  double : List Nat
  /-- Refreshes that a bank owes: bank b of rank r at 64 × r + b (R244). -/
  owed : SMap Nat
  /-- The cycle by which the urgent bursts in progress have completed (R245). -/
  urgentTill : Option Nat
  /-- The extents that hold lines, by number, and the number of the next (R42, R51). -/
  exts : SMap Ext
  nextExt : Nat
  /-- Ranks whose extents migrate, and the copies in progress: the retiring rank's extent and its target (R252, R253). -/
  moving : List Nat
  copies : SMap (Nat × Nat)
  /-- The cycle in which a rank was retired (R252, R261). -/
  retAt : SMap Nat
  /-- Lost ranks whose extents wait for a target (R253, R256). -/
  lost : List Nat
  /-- Extents left of other migrations: of storage n at n, of the whole memory at 0 (R52, R53). -/
  jobs : SMap Nat
  /-- Retirement records that wait for the MRAM (R252, R354), as rank and cause: cause 0 clears the record (R257). -/
  records : List (Nat × Nat)
  retrain : Option Retrain
  /-- The last cycle in which a condition of R247 did not hold. -/
  busyAt : Nat
  /-- The cycle in which the exit from self-refresh in progress began (R247). -/
  exitAt : Option Nat
  /-- The open row of each bank: bank b of rank r at 64 × r + b (R243). -/
  rows : SMap Nat
  /-- The shift register of each channel, and the physical rows that a bank's neighbour refresh still owes (R248). -/
  lfsr : SMap (BitVec 32)
  near : SMap (List Nat)
  /-- Lines whose device holds a byte in error that no write-back has mended (R240), as rank and place in the log's form. -/
  flaws : List (Nat × Nat)
  /-- Placement hints of the image: handle A, TYPE, and handle B or the stack (R342). -/
  hints : List (Nat × Nat × Nat)
  /-- The stack address map of the image: rows per bank, and the physical row of row i of stack k at k × rows + i (R248,
  R342). -/
  mapRows : Nat
  map : List Nat
  deriving DecidableEq, Repr

/-- The memory before its training: nothing owed, nothing moving. -/
def MemSt.init : MemSt where
  log := []
  hotAt := []
  hotStks := []
  double := []
  owed := []
  urgentTill := none
  exts := []
  nextExt := 0
  moving := []
  copies := []
  retAt := []
  lost := []
  jobs := []
  records := []
  retrain := none
  busyAt := 0
  exitAt := none
  rows := []
  lfsr := []
  near := []
  flaws := []
  hints := []
  mapRows := 0
  map := []

/-! ## Power states, resets and the image store (chapters 01 and 14) -/

/-- A field-side reset, a shutdown or a Dormant request that waits for an MRAM write to end (R349, R351, R355). -/
inductive Wanted where
  | powerOn (cause : Nat)
  | field (cause : Nat)
  | soft
  | shutdown
  | dormant
  deriving DecidableEq, Repr

/-- An MRAM write in progress (R349): an image block, an image commit of a length, or a calibration commit to a slot. -/
inductive NvWrite where
  | block (tag : Nat)
  | commit (tag len : Nat)
  | cal (tag : Nat) (slotB : Bool)
  deriving DecidableEq, Repr

/-- The power manager and the image store's state. -/
structure Power where
  /-- Field power is present; host-side power is present. -/
  fieldOn : Bool
  hostOn : Bool
  /-- FIELD_RST_N is asserted: the field side is held in reset (R348). -/
  rstN : Bool
  /-- The profile in effect before Ash (R24). -/
  prev : Nat
  /-- The profile a change in progress leads to (R22 to R24). -/
  change : Option Nat
  /-- A reset or shutdown that waits for the MRAM writes in progress to end (R349); with field power off, the cause of the
  reset that restores it. -/
  wanted : Option Wanted
  writing : List NvWrite
  /-- An orderly shutdown has removed field power (R355). -/
  shut : Bool
  /-- Retirement records in the MRAM: rank and cause (R338). -/
  retired : List (Nat × Nat)
  /-- The pending alarm 0x0007 in the record region, with the steward that stopped (R303, R338). -/
  pend7 : Option Nat
  /-- NV_BLOCK has cleared, and the records held back are due (R354, R357). -/
  flush : Bool
  /-- The start list: the next entry, the cycle a wait lasts to, and whether it has ended (R346). -/
  listAt : Nat
  listWait : Option Nat
  deriving DecidableEq, Repr

/-- The power manager as field power is applied (R351). -/
def Power.init : Power where
  fieldOn := true
  hostOn := true
  rstN := false
  prev := 0
  change := none
  wanted := none
  writing := []
  shut := false
  retired := []
  pend7 := none
  flush := false
  listAt := 0
  listWait := none

/-! ## Clocks (chapter 10) -/

/-- A ramp in progress (R275): its shape, base and bounds in FCW units, where it stands, and the part of a reference cycle
that has passed, in units of 1 / FCW. -/
structure Ramp where
  triangle : Bool
  base : Int
  dev : Int
  step : Int
  cur : Int
  back : Bool
  stopping : Bool
  acc : Nat
  deriving DecidableEq, Repr

/-- CLK_OUT with a divider and a delay in force (R268): the fine step from which they act, and a rising edge of the divider,
before the delay, from which its edges count. -/
structure ClkOut where
  div : Nat
  delay : Nat
  from_ : Nat
  edge : Nat
  deriving DecidableEq, Repr

/-- The root loop beyond its registers. -/
structure ClkSt where
  ramp : Option Ramp
  /-- A RAMP_START that waits for its strobe, by its TAG. -/
  rampWait : Option Nat
  /-- A RETUNE or RELOCK that has not completed, by its TAG. -/
  cmd : Option Nat
  /-- The cycle in which ALIGNING began. -/
  alignedAt : Nat
  /-- INSTEP is 0 until the first sync pulse after a ramp (R275). -/
  outOfStep : Bool
  /-- The qualified sources, by REF_SEL's encoding (R264). -/
  qualified : List Nat
  /-- The source to which the active reference changes in the next cycle (R265, R266). -/
  next : Option Nat
  /-- The span that the last band search covered (R267). -/
  span : Int × Int
  /-- The part of a count of system time that has passed in ACQUIRING, in units of 1 / (160 × 2^32) (R271). -/
  acq : Nat
  /-- The FCW that a ramp had reached when the reference was lost, at which HOLDOVER holds the root (R271, R275). -/
  held : Option Nat
  /-- CLK_OUT as it runs, with what it takes at its next rising edge; none while it is held at 0 V (R268). -/
  out : Option ClkOut
  outNext : Option ClkOut
  /-- What holds CLK_OUT in its safe state (R15). -/
  outSafe : Latches
  deriving DecidableEq, Repr

/-- The loop after reset (R271): acquiring, the oven oscillator requested, the outputs gated. -/
def ClkSt.init : ClkSt where
  ramp := none
  rampWait := none
  cmd := none
  alignedAt := 0
  outOfStep := false
  qualified := []
  next := none
  span := (240 * 2 ^ 32, 240 * 2 ^ 32)
  acq := 0
  held := none
  out := none
  outNext := none
  outSafe := ⟨false, true, false, false, false⟩

/-! ## Calibration (chapter 15) -/

/-- A calibration procedure in progress (R359, R360): its opcode, tag, TARGET, the target it stands at, OPT, the contexts it
paused as (tile, context), the worst figures so far, whether a channel has found no working setting, and whether the boot
runs it. -/
structure CalRun where
  op : Nat
  tag : Nat
  target : Nat
  cur : Nat
  opt : Bool
  paused : List (Nat × Nat)
  a : Nat
  b : Nat
  failed : Bool
  boot : Bool
  deriving DecidableEq, Repr

/-- Calibration beyond its registers. -/
structure CalSt where
  run : Option CalRun
  /-- The coefficients in force of CAL_Q target n; 0 the defaults (R369). -/
  coef : SMap (BitVec 64)
  /-- The DAC and ADC die temperatures at their calibration, one signed byte a channel (R366, R367). -/
  dacRef : SMap (BitVec 8)
  adcRef : SMap (BitVec 8)
  /-- The DAC die temperatures last read (R366). -/
  dacTemp : SMap (BitVec 8)
  /-- Ports whose delay steps to a new value (R284): the value, and the cycle of the next step. -/
  plat : SMap (Nat × Nat)
  deriving DecidableEq, Repr

/-- Calibration with nothing loaded (R369). -/
def CalSt.init : CalSt := ⟨none, [], [], [], [], []⟩

/-! ## The Terxa link (chapter 11) -/

/-- A sync that awaits its pulse (R285): the cycle of the pulse, T_s, the worst path, the modules whose join it grants and
the members from T_s. -/
structure SyncMsg where
  due : Nat
  ts : Nat
  worst : Nat
  grants : List Nat
  members : List Nat
  deriving DecidableEq, Repr

/-- The link's state beyond its registers. -/
structure TxlSt where
  /-- The other members, each with the port it is reached through (R292). -/
  members : List (Nat × Nat)
  /-- READY reports in the last keep-alive of each port: port and module (R290). -/
  reports : List (Nat × Nat)
  /-- Ports whose far end reports JOINED (R288). -/
  joined : List Nat
  /-- Ports whose far end is an upstream end (R281). -/
  facing : List Nat
  /-- Ports that have lost block lock (R279). -/
  unlocked : List Nat
  /-- The upstream end sends TRACE 1, and its depth (R281, R288). -/
  traceUp : Bool
  depthUp : Nat
  /-- The last upstream keep-alive: its cycle, and the system time it gave (R290). -/
  heard : Option (Nat × Nat)
  /-- Two consecutive keep-alives have confirmed the time (R290). -/
  timeOk : Bool
  /-- READY has been reported (R290). -/
  ready : Bool
  sync : Option SyncMsg
  /-- A sync pulse has come since the boot (R285). -/
  started : Bool
  /-- The membership map, valid from the last T_s (R294). -/
  map : List Nat
  deriving DecidableEq, Repr

/-- The link after reset: ports dark, nobody joined (R296). -/
def TxlSt.init : TxlSt := ⟨[], [], [], [], [], false, 0, none, false, false, none, false, []⟩

/-! ## The module -/

/-- The canonical form of a memory: addresses strictly rising. An unlisted byte reads as a free value, so no listed byte
can equal what it would read as. -/
def Memory.wf (m : List Host.Cell) : Bool := msorted 0 m

/-- The state of the module. -/
structure State where
  /-- The commands that wait, first in, first out. -/
  pending : List Instr
  /-- Core cycles counted by the model since reset. -/
  now : Nat
  /-- System time less now (R2, R274). -/
  timeOff : BitVec 64
  /-- MODEL'S OWN: the count of free values drawn. -/
  free : Nat
  /-- Stored register values and shadows. -/
  regs : SMap Word
  /-- Active values of the RWS fields (R321). -/
  act : SMap Word
  segs : SMap Seg
  stores : SMap Storage
  olds : List OldStore
  mem : List Host.Cell
  poison : List (Nat × Nat)
  nextSid : Nat
  /-- The slipway table entries whose low watermark has notified (R121). -/
  lows : List Nat
  ctxs : SMap Ctx
  tiles : SMap TileSt
  evt : Events
  wav : SMap WavSt
  grp : SMap GrpSt
  cap : SMap CapSt
  latch : SMap Latches
  xng : Crossing
  /-- The control stores: microword a of tile t at 4,096 × t + a (R131). -/
  ustore : SMap (BitVec 24)
  /-- The sources of R370 that have occurred in this cycle. -/
  mon : List Nat
  /-- Registers that software has written in this cycle, and GLB_HV_CTRL and NVS_HV_STATUS where the rails changed in it, each
  as it stood before (R331, R392). -/
  wrote : SMap Word
  /-- The event counters started in this cycle, each with its count before, and those stopped in it (R374). -/
  monBegun : SMap Nat
  monEnded : List Nat
  mc : MemSt
  pw : Power
  clk : ClkSt
  txl : TxlSt
  cal : CalSt
  /-- The MRAM: device d's byte a at d × 2^24 + a (R338). -/
  mram : List Host.Cell
  /-- The customer key hash registers written since enrolment opened (R151). -/
  ukey : List Nat
  deriving DecidableEq, Repr

/-- The conditions after a reset: the clocks are gated until the loop locks (R16, R271). -/
def Latches.init : Latches := ⟨false, true, false, false, false⟩

/-- The machine right after reset: field power has just been applied, every field-side register at its reset value, the
boot at stage 1 (R344), the queue empty. -/
def State.reset : State where
  pending := []
  now := 0
  timeOff := 0
  free := 0
  regs := []
  act := []
  segs := []
  stores := []
  olds := []
  mem := []
  poison := []
  nextSid := 1
  lows := []
  ctxs := []
  tiles := []
  evt := Events.init
  wav := []
  grp := []
  cap := []
  latch := []
  xng := Crossing.init
  ustore := []
  mon := []
  wrote := []
  monBegun := []
  monEnded := []
  mc := MemSt.init
  pw := Power.init
  clk := ClkSt.init
  txl := TxlSt.init
  cal := CalSt.init
  mram := []
  ukey := []

end Sys2Proof.Machine
end

