-- ==== Sys2Proof/Machine/Ops.lean ====
section
/-! DEFINITION. The named operations over registers, memory, time and the state's maps. -/

namespace Sys2Proof.Machine

/-! ## Registers -/

/-- The stored word of the register at address a. -/
def State.regWord (s : State) (a : Nat) : Word := mget resetWord s.regs a

/-- s with the stored word of the register at address a replaced. -/
def State.setRegWord (s : State) (a : Nat) (w : Word) : State := { s with regs := mset resetWord s.regs a w }

/-- The active word of the register at address a (R321). -/
def State.actWord (s : State) (a : Nat) : Word := mget resetWord s.act a

/-- s with the active word of the register at address a replaced. -/
def State.setActWord (s : State) (a : Nat) (w : Word) : State := { s with act := mset resetWord s.act a w }

/-- The stored value of a field; of an RWS field, its shadow. -/
def State.get (s : State) (f : Fld) : Nat := fieldOf (s.regWord f.addr).toNat f.lo f.n

/-- s with the stored value of a field replaced. -/
def State.put (s : State) (f : Fld) (v : Nat) : State :=
  s.setRegWord f.addr (BitVec.ofNat 32 (withField (s.regWord f.addr).toNat f.lo f.n v))

/-- The active value of an RWS field (R321). -/
def State.active (s : State) (f : Fld) : Nat := fieldOf (s.actWord f.addr).toNat f.lo f.n

/-- s with the active value of an RWS field replaced. -/
def State.putActive (s : State) (f : Fld) (v : Nat) : State :=
  s.setActWord f.addr (BitVec.ofNat 32 (withField (s.actWord f.addr).toNat f.lo f.n v))

/-- s with a counter that saturates at 0xFFFF_FFFF advanced by n. -/
def State.bump (s : State) (f : Fld) (n : Nat := 1) : State := s.put f (satAdd32 (s.get f) n)

/-- A Bool as a bit. -/
def bit (b : Bool) : Nat := if b then 1 else 0

/-- s with the 64-bit value v in a LO and HI register pair (R3). -/
def State.put64 (s : State) (lo hi : Fld) (v : Nat) : State :=
  (s.put lo (v % 2 ^ 32)).put hi (v / 2 ^ 32)

/-- The value of a LO and HI register pair (R3). -/
def State.get64 (s : State) (lo hi : Fld) : Nat := s.get lo + 2 ^ 32 * s.get hi

/-- The active value of a LO and HI register pair. -/
def State.active64 (s : State) (lo hi : Fld) : Nat := s.active lo + 2 ^ 32 * s.active hi

/-! ## Parts of the state -/

/-- Context c. -/
def State.ctx (s : State) (c : Nat) : Ctx := mget (fun _ => Ctx.init) s.ctxs c
/-- s with context c replaced. -/
def State.setCtx (s : State) (c : Nat) (x : Ctx) : State :=
  { s with ctxs := mset (fun _ => Ctx.init) s.ctxs c x }
/-- Tile t. -/
def State.tile (s : State) (t : Nat) : TileSt := mget (fun _ => TileSt.init) s.tiles t
/-- s with tile t replaced. -/
def State.setTile (s : State) (t : Nat) (x : TileSt) : State :=
  { s with tiles := mset (fun _ => TileSt.init) s.tiles t x }
/-- Waveform channel w. -/
def State.wave (s : State) (w : Nat) : WavSt := mget (fun _ => WavSt.init) s.wav w
/-- s with waveform channel w replaced. -/
def State.setWave (s : State) (w : Nat) (x : WavSt) : State :=
  { s with wav := mset (fun _ => WavSt.init) s.wav w x }
/-- Pin group g. -/
def State.group (s : State) (g : Nat) : GrpSt := mget (fun _ => GrpSt.init) s.grp g
/-- s with pin group g replaced. -/
def State.setGroup (s : State) (g : Nat) (x : GrpSt) : State :=
  { s with grp := mset (fun _ => GrpSt.init) s.grp g x }
/-- Capture channel c. -/
def State.capture (s : State) (c : Nat) : CapSt := mget (fun _ => CapSt.init) s.cap c
/-- s with capture channel c replaced. -/
def State.setCapture (s : State) (c : Nat) (x : CapSt) : State :=
  { s with cap := mset (fun _ => CapSt.init) s.cap c x }
/-- The latching conditions of the output of tile t. -/
def State.latches (s : State) (t : Nat) : Latches := mget (fun _ => Latches.init) s.latch t
/-- s with the latching conditions of the output of tile t replaced. -/
def State.setLatches (s : State) (t : Nat) (x : Latches) : State :=
  { s with latch := mset (fun _ => Latches.init) s.latch t x }
/-- Storage sid. -/
def State.store (s : State) (sid : Nat) : Storage := mget (fun _ => Storage.init) s.stores sid
/-- s with storage sid replaced. -/
def State.setStore (s : State) (sid : Nat) (x : Storage) : State :=
  { s with stores := mset (fun _ => Storage.init) s.stores sid x }
/-- The live handle h, if it is live (R35). -/
def State.seg (s : State) (h : Nat) : Option Seg := mfind s.segs h
/-- s with the live handle h replaced. -/
def State.setSeg (s : State) (h : Nat) (x : Seg) : State := { s with segs := mins s.segs h x }

/-- s with f applied to each of 0 to n − 1, in order. -/
def forUpto (f : State → Nat → State) : Nat → State → State
  | 0, s => s
  | n + 1, s => f (forUpto f n s) n

/-- s with f applied to each element of a list, in order. -/
def forEach {α : Type} (f : State → α → State) : List α → State → State
  | [], s => s
  | a :: as, s => forEach f as (f s a)

/-- The naturals 0 to n − 1. -/
def upto (n : Nat) : List Nat := List.range n

/-- s with an occurrence in this cycle of a source of R370 noted: several in one cycle count as one. -/
def State.monMark (s : State) (src : Nat) : State := if s.mon.contains src then s else { s with mon := src :: s.mon }

/-! ## Time -/

/-- System time at cycle n of the model's count (R2). -/
def State.sysTime (s : State) (n : Nat) : Nat := (BitVec.ofNat 64 n + s.timeOff).toNat

/-- The cycle of the model's count at which system time is t. -/
def State.cycleOf (s : State) (t : Nat) : Nat := (BitVec.ofNat 64 t - s.timeOff).toNat

/-- The timestamp of cycle n, sub-cycle 0 (R2). -/
def State.tsAt (s : State) (n : Nat) : Ts := mkTs (s.sysTime n) 0

/-- A free value, and s with one more drawn. -/
def State.drawFree (s : State) : Word72 × State := (Config.freeValue s.free, { s with free := s.free + 1 })

/-- The coefficients in force of CAL_Q target n (R369). -/
def State.calCoef (s : State) (n : Nat) : BitVec 64 := mget (fun _ => 0) s.cal.coef n

/-! ## Memory

Byte k of word off of storage sid lies at (sid × 2^34 + off) × 9 + k (R27). -/

/-- The address of byte k of a word. -/
def byteAddr (sid off k : Nat) : Nat := (sid * 2 ^ 34 + off) * 9 + k

/-- The byte at an address: none where nothing has been written (R41). -/
def State.readByte (s : State) (a : Nat) : Option (BitVec 8) := mfind s.mem a

/-- s with one byte written. -/
def State.writeByte (s : State) (a : Nat) (b : BitVec 8) : State := { s with mem := mins s.mem a b }

/-- The bytes k to 8 of a word, low byte first, as a number: none where one of them is unwritten. -/
def State.readBytes (s : State) (sid off : Nat) : Nat → Option Nat
  | 0 => some 0
  | n + 1 =>
    match s.readByte (byteAddr sid off (8 - n)), s.readBytes sid off n with
    | some b, some r => some (b.toNat + 256 * r)
    | _, _ => none

/-- Word off of storage sid; where it is not written, whatever the line holds (R41): a free value. -/
def State.readWord (s : State) (sid off : Nat) : Word72 :=
  match s.readBytes sid off 9 with
  | some v => BitVec.ofNat 72 v
  | none => Config.undefWord sid off

/-- s with bytes 9 − n to 8 of a word written from v. -/
def State.writeBytes (s : State) (sid off v : Nat) : Nat → State
  | 0 => s
  | n + 1 => (s.writeByte (byteAddr sid off (8 - n)) (BitVec.ofNat 8 v)).writeBytes sid off (v / 256) n

/-- s with word off of storage sid written. -/
def State.writeWord (s : State) (sid off : Nat) (w : Word72) : State := s.writeBytes sid off w.toNat 9

/-- Whether the line that holds word off of storage sid is poisoned (R41, R251). -/
def State.poisoned (s : State) (sid off : Nat) : Bool := s.poison.contains (sid, off / 7)

end Sys2Proof.Machine
end

