-- ==== Sys2Proof/Machine/Bytes.lean ====
section
/-! DEFINITION. Byte strings: little-endian values, the CRC-32 of IEEE 802.3, the MRAM's bytes, and the bytes of a segment
(R27, R338, R367). -/

namespace Sys2Proof.Machine

/-- The value of a little-endian byte string. -/
def leNat : List (BitVec 8) → Nat
  | [] => 0
  | b :: l => b.toNat + 256 * leNat l

/-- v as n bytes, little-endian. -/
def leBytes : Nat → Nat → List (BitVec 8)
  | 0, _ => []
  | n + 1, v => BitVec.ofNat 8 v :: leBytes n (v / 256)

/-- n bytes of a string from a on, as a value. -/
def leAt (l : List (BitVec 8)) (a n : Nat) : Nat := leNat ((l.drop a).take n)

/-- One bit of the CRC register, reflected form of the IEEE 802.3 polynomial. -/
def crcBit (c : BitVec 32) : BitVec 32 := if c.getLsbD 0 then (c >>> 1) ^^^ 0xEDB88320#32 else c >>> 1

/-- n bits of the CRC register. -/
def crcBits : Nat → BitVec 32 → BitVec 32
  | 0, c => c
  | n + 1, c => crcBits n (crcBit c)

/-- The CRC register after a byte string. -/
def crcFold (c : BitVec 32) : List (BitVec 8) → BitVec 32
  | [] => c
  | b :: l => crcFold (crcBits 8 (c ^^^ b.setWidth 32)) l

/-- The CRC-32 of a byte string. -/
def crc32 (l : List (BitVec 8)) : Nat := (crcFold (BitVec.allOnes 32) l ^^^ BitVec.allOnes 32).toNat

/-! ## The MRAM -/

/-- Byte a of MRAM device d: as written, or as delivered. -/
def State.mramAt (s : State) (d a : Nat) : BitVec 8 := (mfind s.mram (d * 2 ^ 24 + a)).getD (Config.mramByte (d * 2 ^ 24 + a))

/-- n bytes of MRAM device d from a on. -/
def State.mramBytes (s : State) (d a n : Nat) : List (BitVec 8) := (upto n).map (fun i => s.mramAt d (a + i))

/-- s with bytes written to MRAM device d from a on. -/
def State.putMram (s : State) (d a : Nat) : List (BitVec 8) → State
  | [] => s
  | b :: l => { s with mram := mins s.mram (d * 2 ^ 24 + a) b }.putMram d (a + 1) l

/-- A little-endian value of n bytes in MRAM device d. -/
def State.mramVal (s : State) (d a n : Nat) : Nat := leNat (s.mramBytes d a n)

/-! ## Segments -/

/-- The bytes of a native word, in the order in which a byte string is carried in words (R27). -/
def wordBytes (w : Word72) : List (BitVec 8) := leBytes 9 w.toNat

/-- The bytes of the words of storage sid. -/
def State.segBytes (s : State) (sid : Nat) : List (BitVec 8) :=
  (upto (s.store sid).len).flatMap (fun i => wordBytes (s.readWord sid i))

/-- A byte string as whole words (R27). -/
def bytesWords : Nat → List (BitVec 8) → List Word72
  | 0, _ => []
  | n + 1, l => BitVec.ofNat 72 (leNat (l.take 9)) :: bytesWords n (l.drop 9)

end Sys2Proof.Machine
end

