-- ==== Sys2Proof/Machine/RegWrite.lean ====
section
/-! DEFINITION. What a register write does to its own fields (R7, R319, R324), and lengths of time in core cycles (R1). -/

namespace Sys2Proof.Machine

/-- The low n bits of a with those of b cleared. -/
def clearBits (n a b : Nat) : Nat := a &&& ((2 ^ n - 1) ^^^ (b % 2 ^ n))

/-- Whether the RW field at bit lo of the register with base address b is a counter that hardware advances (R331). -/
def countsUp (b lo : Nat) : Bool :=
  [(0x00001C, 0), (0x000020, 0), (0x010040, 16), (0x010048, 0), (0x01004C, 0), (0x010050, 0), (0x0200A0, 0), (0x0200A4, 0),
   (0x030020, 0), (0x030024, 0), (0x030028, 0), (0x03002C, 0), (0x030030, 0), (0x030034, 0), (0x04000C, 0), (0x050114, 0),
   (0x050118, 0), (0x05011C, 0), (0x080020, 0), (0x080024, 0), (0x080104, 0), (0x080108, 0), (0x080424, 0), (0x080428, 0),
   (0x08042C, 0), (0x0C0034, 0), (0x0C0038, 0), (0x0C004C, 0), (0x0D0010, 0), (0x0D0228, 0), (0x170020, 0), (0x178004, 0),
   (0x178008, 0)].contains (b, lo)

/-- A field of the register with base address b after a write of v (R319, R331): old is what it holds, was what it held before
hardware's updates of the cycle. Of a counter what hardware has added in the cycle is added to v; a sticky bit that hardware has
set in it stays. The keyed, write-once and acting fields are the command's own. -/
def fieldWrite (b : Nat) (f : FieldD) (was old v : Nat) : Nat :=
  let v := fieldOf v f.lo f.n
  let old1 := fieldOf old f.lo f.n
  let was1 := fieldOf was f.lo f.n
  match f.acc with
  | .rw => withField old f.lo f.n (if countsUp b f.lo then Nat.min (v + (old1 - was1)) (2 ^ f.n - 1) else v)
  | .rws => withField old f.lo f.n v
  | .w1c => withField old f.lo f.n (clearBits f.n old1 (clearBits f.n v (clearBits f.n old1 was1)))
  | _ => old

/-- A register word after a write of v to its fields. -/
def wordWrite (b was : Nat) : List FieldD → Nat → Nat → Nat
  | [], old, _ => old
  | f :: fs, old, v => wordWrite b was fs (fieldWrite b f was old v) v

/-- s with w as what software has left in the register at address a in this cycle. -/
def State.markBegun (s : State) (a : Nat) (w : Word) : State :=
  { s with evt := { s.evt with began := mset resetWord s.evt.began a w } }

/-- s with the word at address a kept as it stands, where this cycle has not kept it yet (R331, R392). -/
def State.noted (s : State) (a : Nat) : State :=
  if (mfind s.wrote a).isSome then s else { s with wrote := mins s.wrote a (s.regWord a) }

/-- s with a write of v to the stored fields of the register at address a; an unmapped address sets GLB_ERR.UNMAPPED
(R318). -/
def State.plainWrite (s : State) (a v : Nat) : State :=
  match regAt a with
  | some (d, _, _) =>
    let w := BitVec.ofNat 32 (wordWrite d.base (mget resetWord s.evt.began a).toNat d.flds (s.regWord a).toNat v)
    ((s.noted a).setRegWord a w).markBegun a w
  | none => s.put Reg.GLB_ERR_UNMAPPED 1

/-- s with a collision at address a recorded (R331). -/
def State.collide (s : State) (a : Nat) : State :=
  (s.put Reg.GLB_ERR_COLLIDE 1).put Reg.GLB_ERR_COLLIDE_ADDR (fieldOf a 12 12)

/-- s with a write to a locked RWK field recorded (R327). -/
def State.lockedWrite (s : State) : State := (s.put Reg.GLB_ERR_LOCKED_WRITE 1).bump Reg.GLB_LOCKED_CNT

/-- A write to a register that holds an RWK field (R325): it consumes the unlock, and f applies; while locked the field
stays and the write is recorded. -/
def State.guarded (s : State) (f : State → State) : State :=
  if s.get Reg.GLB_STATE_UNLOCKED = 1 then f (s.put Reg.GLB_STATE_UNLOCKED 0) else s.lockedWrite

/-- The FCW that the root follows now: the base, the value a ramp has reached, or, in HOLDOVER, the value that a ramp had reached
(R267, R271, R275). -/
def State.fcwAct (s : State) : Nat :=
  match s.clk.ramp, s.clk.held with
  | some r, _ => r.cur.toNat
  | none, some f => f
  | none, none => s.get64 Reg.CLK_ROOT_FCW_ACT_LO Reg.CLK_ROOT_FCW_ACT_HI

/-- The rate of the core clock as an FCW (R1, R271): while the loop acquires, the core runs on the 1.0 GHz fallback, as it would
at a root of 16 GHz. -/
def State.rate (s : State) : Nat := if s.get Reg.CLK_STATUS_STATE = 2 then 160 * 2 ^ 32 else s.fcwAct

/-- n × 10 ns in core cycles at the core clock's rate now, rounded up (R1, R267, R273): a core cycle lasts 160 / rate ns. -/
def State.tenNs (s : State) (n : Nat) : Nat := ceilDiv (n * s.rate) (16 * 2 ^ 32)

/-- n µs in core cycles, rounded up. -/
def State.microsec (s : State) (n : Nat) : Nat := s.tenNs (100 * n)

end Sys2Proof.Machine
end

