-- ==== Sys2Proof/Machine/Banks.lean ====
section
/-! DEFINITION. Where lines lie: extents on ranks (R6, R42, R51, R239), the open row of a bank, refresh and neighbour refresh
(R243, R244, R248), and what a request does to self-refresh (R247). -/

namespace Sys2Proof.Machine

/-- The number of elements of a list that satisfy p. -/
def countIf {α : Type} (p : α → Bool) : List α → Nat
  | [] => 0
  | a :: as => (if p a then 1 else 0) + countIf p as

/-- The sum of f over a list. -/
def sumOf {α : Type} (f : α → Nat) : List α → Nat
  | [] => 0
  | a :: as => f a + sumOf f as

/-! ## Ranks -/

/-- The HBM channels of a segment of a class (R42). -/
def RateClass.nchan : RateClass → Nat
  | .A => 32 | .B => 8 | .C => 1

/-- STATE of rank r (R260). -/
def State.rankSt (s : State) (r : Nat) : Nat := s.get (Reg.RANK_STATE_STATE r)

/-- Whether rank r is in service. -/
def State.inService (s : State) (r : Nat) : Bool := decide (s.rankSt r = 0)

/-- The three ranks of channel ch, a channel being stack × 16 + channel (R6). -/
def ranksOf (ch : Nat) : List Nat := [3 * ch, 3 * ch + 1, 3 * ch + 2]

/-- The channel, and the stack, of a rank (R6). -/
def chanOf (r : Nat) : Nat := r / 3
def stackOf (r : Nat) : Nat := r / 48

/-! ## Lines -/

/-- Lines that a segment takes on each of its channels (R42). -/
def linesPer (cls : RateClass) (len : Nat) : Nat := ceilDiv (ceilDiv len 7) cls.nchan

/-- Extent e. -/
def State.ext (s : State) (e : Nat) : Option Ext := mfind s.mc.exts e

/-- The rank of extent e: 192 for none. -/
def State.extRank (s : State) (e : Nat) : Nat :=
  match s.ext e with
  | some x => x.rank
  | none => 192

/-- The extent that holds line j of a stripe, among runs of lines in their order. -/
def stripExt (stripe : Nat) : List Strip → Nat → Option Nat
  | [], _ => none
  | p :: l, j =>
    if p.stripe ≠ stripe then stripExt stripe l j
    else if j < p.lines then some p.ext
    else stripExt stripe l (j - p.lines)

/-- The extent that holds a line of a storage: consecutive lines go to its channels in turn (R42). -/
def Storage.lineExt (st : Storage) (line : Nat) : Option Nat :=
  stripExt (line % st.cls.nchan) st.parts (line / st.cls.nchan)

/-- The rank on which a line of storage sid lies now (R6, R239). -/
def State.lineRank (s : State) (sid line : Nat) : Option Nat := ((s.store sid).lineExt line).map s.extRank

/-- The lines of a stripe, of a storage with nch channels, that lie in extents that p selects: runs in their order, the first
line of the first run being line j of the stripe. -/
def stripLines (nch stripe : Nat) (p : Nat → Bool) : List Strip → Nat → List Nat
  | [], _ => []
  | q :: l, j =>
    if q.stripe ≠ stripe then stripLines nch stripe p l j
    else (if p q.ext then (upto q.lines).map (fun i => (j + i) * nch + stripe) else []) ++ stripLines nch stripe p l (j + q.lines)

/-- The lines of a storage that hold words of it in extents that p selects. -/
def Storage.linesIn (st : Storage) (p : Nat → Bool) : List Nat :=
  ((upto st.cls.nchan).flatMap (fun c => stripLines st.cls.nchan c p st.parts 0)).filter
    (fun i => decide (i < ceilDiv st.len 7))

/-- Whether lines of a storage lie on a stack that p selects. -/
def State.onStack (s : State) (sid : Nat) (p : Nat → Bool) : Bool :=
  (s.store sid).parts.any (fun q => p (stackOf (s.extRank q.ext)))

/-- Whether priority-5 traffic to storage sid is stopped for temperature (R20, R246). -/
def State.tooHot (s : State) (sid : Nat) : Bool := s.onStack sid (fun k => s.mc.hotStks.contains k)

/-! ## Open rows and neighbour refresh -/

/-- The physical row of logical row i of stack k, where the stack address map shows that it exists (R248, R342). -/
def State.physRow (s : State) (k i : Nat) : Option Nat :=
  if i < s.mc.mapRows then
    match s.mc.map[k * s.mc.mapRows + i]? with
    | some x => if x = 0xFFFFFFFF then none else some x
    | none => none
  else none

/-- The physical rows at logical distances ±1 and ±2 from row i of stack k that exist. -/
def State.neighbours (s : State) (k i : Nat) : List Nat :=
  ((if 2 ≤ i then [i - 2] else []) ++ (if 1 ≤ i then [i - 1] else []) ++ [i + 1, i + 2]).filterMap (s.physRow k)

/-- The shift register of channel ch: its seed is a free value. -/
def State.lfsrOf (s : State) (ch : Nat) : BitVec 32 := mget Config.lfsrSeed s.mc.lfsr ch

/-- s with row i of bank b activated (R243, R248), b being 64 × rank + bank: the neighbour refresh that the bank owes comes
first; then the channel's shift register is drawn, and with probability 2^−PROB the row's neighbours are to be refreshed before
the next activate. -/
def State.activate (s : State) (b i : Nat) : State :=
  let ch := chanOf (b / 64)
  let d := Config.lfsrNext (s.lfsrOf ch)
  let hit := decide (d.toNat % 2 ^ s.active Reg.MEM_NBR = 0)
  { s with mc := { s.mc with
      rows := mins s.mc.rows b i
      lfsr := mins s.mc.lfsr ch d
      near := if hit then mins s.mc.near b (s.neighbours (stackOf (b / 64)) i) else mdel s.mc.near b } }

/-- s with a request to row i of bank b: an open row serves it, another is closed for it (R243). -/
def State.rowUse (s : State) (b i : Nat) : State := if mfind s.mc.rows b = some i then s else s.activate b i

/-- s with bank b refreshed: its row closes, and a refresh that falls due with a neighbour refresh goes first, so that the
bank's neighbour refresh stays owed (R243, R261). -/
def State.bankRefreshed (s : State) (b : Nat) : State := { s with mc := { s.mc with rows := mdel s.mc.rows b } }

/-- s with every bank of the ranks that p selects refreshed. -/
def State.ranksRefreshed (s : State) (p : Nat → Bool) : State :=
  { s with mc := { s.mc with rows := mfilter (fun b => !p (b / 64)) s.mc.rows } }

/-! ## Requests and self-refresh (R247) -/

/-- s with a request, or a command that counts as one, accepted in this cycle: it begins the exit from self-refresh, but in Ash,
where HBM stays in it (R23). -/
def State.memWake (s : State) : State :=
  { s with mc := { s.mc with
      busyAt := s.now
      exitAt := if s.get Reg.MEM_SR_ACTIVE ≠ 0 ∧ s.get Reg.GLB_STATE_PROFILE ≠ 3 ∧ s.mc.exitAt = none then some s.now
        else s.mc.exitAt } }

/-- s with a request to a line of storage sid: the engine's own placement says which bank and row of the rank it meets
(R51). -/
def State.lineUse (s : State) (sid line : Nat) : State :=
  match (s.store sid).lineExt line with
  | none => s
  | some e =>
    let at_ := Config.lineSpot e sid line
    s.memWake.rowUse (64 * s.extRank e + at_.toNat / 2 ^ 18) (at_.toNat % 2 ^ 18)

/-- s with requests to the lines that hold n words of storage sid from offset off on. -/
def State.wordsUse (s : State) (sid off n : Nat) : State :=
  if n = 0 then s else forUpto (fun s i => s.lineUse sid (off / 7 + i)) ((off + n - 1) / 7 - off / 7 + 1) s

/-- s with a word of storage sid written, and the request that writes it. -/
def State.storeWord (s : State) (sid off : Nat) (w : Word72) : State := (s.writeWord sid off w).lineUse sid (off / 7)

end Sys2Proof.Machine
end

