-- ==== Sys2Proof/Machine/LineCode.lean ====
section
/-! DEFINITION. A line as its lanes hold it: the words, the check bytes of the line code and the pattern of a poisoned line
(R239, R240, R251). -/

namespace Sys2Proof.Machine

/-! ## GF(2^8) over x^8 + x^4 + x^3 + x^2 + 1 (R240) -/

/-- The product of an element and α, the class of x. -/
def gfDouble (a : Nat) : Nat := if 2 * a < 256 then 2 * a else (2 * a) ^^^ 0x11D

/-- The product of a and the polynomial of b's low n bits. -/
def gfTimes (a b : Nat) : Nat → Nat
  | 0 => 0
  | n + 1 => (if b % 2 = 1 then a else 0) ^^^ gfTimes (gfDouble a) (b / 2) n

/-- The product of two elements. -/
def gfMul (a b : Nat) : Nat := gfTimes a b 8

/-- α^n. -/
def gfPow : Nat → Nat
  | 0 => 1
  | n + 1 => gfDouble (gfPow n)

/-! ## The line code -/

/-- A polynomial, highest coefficient first, times x − r: c is the coefficient before the list. -/
def polyRoot (r c : Nat) : List Nat → List Nat
  | [] => [gfMul r c]
  | d :: l => (d ^^^ gfMul r c) :: polyRoot r d l

/-- The generator with the roots α^0 to α^(n − 1), without its leading 1. -/
def genTail : Nat → List Nat
  | 0 => []
  | n + 1 => polyRoot (gfPow n) 1 (genTail n)

/-- The remainder of a message times x^9 divided by the generator, the remainder so far being r. -/
def codeRem (g r : List Nat) : List Nat → List Nat
  | [] => r
  | b :: l =>
    let f := r.headD 0 ^^^ b
    codeRem g (List.zipWith (fun x y => x ^^^ gfMul f y) (r.drop 1 ++ [0]) g) l

/-- The 9 check bytes of 63 payload bytes (R240): the code word, the payload first, is a multiple of the generator. -/
def checkBytes (payload : List Nat) : List Nat := codeRem (genTail 9) (List.replicate 9 0) payload

/-- What the decoder makes of a line with a number of bytes in error (R240). -/
inductive Verdict where
  | clean | corrected | uncorrectable
  /-- The spec leaves open what becomes of it: it may be miscorrected. -/
  | beyond
  deriving DecidableEq, Repr

/-- The decoder's verdict at a value of CORR_MAX (R240). -/
def lineVerdict (corrMax n : Nat) : Verdict :=
  if n = 0 then .clean else if n ≤ corrMax then .corrected else if n ≤ 9 - corrMax then .uncorrectable else .beyond

/-! ## The lanes (R239) -/

/-- The 63 payload bytes of a line of a storage: its words, low byte first; positions beyond the segment's last word hold zero
words (R41). -/
def State.linePayload (s : State) (sid line : Nat) : List Nat :=
  (upto 7).flatMap (fun w =>
    let v := if 7 * line + w < (s.store sid).len then (s.readWord sid (7 * line + w)).toNat else 0
    (upto 9).map (fun k => fieldOf v (8 * k) 8))

/-- The 72 bytes of a line: data-lane bytes 0 to 63, then check-lane bytes 0 to 7. -/
def State.lineBytes (s : State) (sid line : Nat) : List Nat :=
  if s.poison.contains (sid, line) then Config.poisonPattern.map (fun b => b.toNat)
  else s.linePayload sid line ++ checkBytes (s.linePayload sid line)

/-- The bytes that the data lanes, and the check lanes, of a line hold. -/
def State.dataLanes (s : State) (sid line : Nat) : List Nat := (s.lineBytes sid line).take 64
def State.checkLanes (s : State) (sid line : Nat) : List Nat := (s.lineBytes sid line).drop 64

end Sys2Proof.Machine
end

