-- ==== Sys2Proof/Machine/Operands.lean ====
section
/-! DEFINITION. The operand layouts of the sequence instructions (R60, R61), read from bits 65:0 of the word. -/

namespace Sys2Proof.Machine

/-- Bits lo + n − 1 : lo of an instruction's bits 65:0. -/
def opBits (ops : BitVec 66) (lo n : Nat) : Nat := fieldOf ops.toNat lo n

/-- Bits 65:62, a condition code or flags (R60). -/
def opCond (ops : BitVec 66) : Nat := opBits ops 62 4
/-- HANDLE of TGT, bits 57:34. -/
def opHandle (ops : BitVec 66) : Nat := opBits ops 34 24
/-- OFFSET of TGT, bits 33:0. -/
def opOffset (ops : BitVec 66) : Nat := opBits ops 0 34

/-- No operand: bits 61:0 are reserved. -/
def resvNone (ops : BitVec 66) : Bool := decide (opBits ops 0 62 ≠ 0)
/-- TGT alone in bits 61:0: bits 61:58 are reserved. -/
def resvTgt (ops : BitVec 66) : Bool := decide (opBits ops 58 4 ≠ 0)
/-- The condition code is one of R62. -/
def condLegal (ops : BitVec 66) : Bool := decide (opCond ops < 7)

/-- The reserved bits of an ARM (R61), by its action. -/
def resvArm (ops : BitVec 66) : Bool :=
  decide (opBits ops 62 2 ≠ 0) ||
  (match opBits ops 56 3 with
   | 0 => false
   | 1 => false
   | 2 => decide (opBits ops 22 24 ≠ 0 ∨ opBits ops 10 12 ≠ 0)
   | 3 => decide (opBits ops 0 46 ≠ 0)
   | 4 => decide (opBits ops 22 24 ≠ 0 ∨ opBits ops 1 21 ≠ 0)
   | _ => true)

/-- The action an ARM names (R61). -/
def armAct (n : Nat) : ArmAct :=
  match n with
  | 0 => .goto
  | 1 => .call
  | 2 => .switch
  | 3 => .stop
  | _ => .count

/-- The reserved bits of a SYNC (R61), by its mode. -/
def resvSync (ops : BitVec 66) : Bool :=
  decide (opBits ops 64 2 ≠ 0) ||
  (match opBits ops 62 2 with
   | 0 => decide (opBits ops 0 62 ≠ 0)
   | 1 => false
   | 2 => decide (opBits ops 42 20 ≠ 0)
   | _ => decide (opBits ops 4 58 ≠ 0))

/-- Whether an instruction's reserved bits, a reserved value of an operand or a zero count faults it with cause OPERAND
(R60, R67, R75, R78, R82). -/
def operandFault (t op : Nat) (ops : BitVec 66) : Bool :=
  match op with
  | 0x00 => decide (ops ≠ 0)
  | 0x01 => resvNone ops || !condLegal ops
  | 0x02 => decide (opCond ops ≠ 0) || resvTgt ops
  | 0x03 => decide (opBits ops 58 8 ≠ 0 ∨ opBits ops 32 2 ≠ 0 ∨ opBits ops 0 32 = 0)
  | 0x04 => decide (opBits ops 63 3 ≠ 0 ∨ opBits ops 32 30 ≠ 0)
  | 0x05 => decide (ops ≠ 0)
  | 0x06 => resvTgt ops || !condLegal ops
  | 0x07 => resvNone ops || !condLegal ops
  | 0x08 => !condLegal ops
  | 0x09 => resvArm ops
  | 0x0A => decide (opBits ops 62 3 ≠ 0 ∨ opBits ops 0 59 ≠ 0)
  | 0x0B => decide (opBits ops 10 56 ≠ 0)
  | 0x0C => resvSync ops
  | 0x0D => decide (opBits ops 1 65 ≠ 0)
  | 0x0E => decide (opBits ops 48 17 ≠ 0)
  | 0x0F => decide (opBits ops 48 17 ≠ 0)
  | 0x10 => decide (opCond ops ≠ 0 ∨ opBits ops 60 2 = 3 ∨ opBits ops 44 16 = 0 ∨ opBits ops 28 16 = 0)
  | 0x11 =>
    decide (opBits ops 36 30 ≠ 0 ∨ opBits ops 34 2 = 3 ∨ opBits ops 32 2 = 3) ||
    decide (8 ≤ t ∧ opBits ops 32 4 ≠ 0)
  | 0x12 => decide (opBits ops 58 8 ≠ 0 ∨ opBits ops 32 2 ≠ 0)
  | 0x13 => decide (opBits ops 10 55 ≠ 0)
  | 0x14 => decide (opBits ops 6 56 ≠ 0) || !condLegal ops
  | 0x15 => decide (opBits ops 65 1 ≠ 0 ∨ opBits ops 62 2 ≠ 0 ∨ opBits ops 33 29 ≠ 0)
  | _ => false

/-- Opcodes that R61 does not list for the tile (R77): SETTS on a waveform tile, SETF, SETPH and RAMP on a pattern
tile. -/
def wrongKind (t op : Nat) : Bool :=
  if t < 8 then decide (op = 0x0D) else decide (op = 0x0E ∨ op = 0x0F ∨ op = 0x10)

end Sys2Proof.Machine
end

