-- ==== Sys2Proof/Machine/Flags.lean ====
section
/-! DEFINITION. Conditions and counters (R62, R64), and the flags of the micro-machine (R135, R136). -/

namespace Sys2Proof.Machine

/-- Counter i of context c (R62). -/
def State.cnt (s : State) (c i : Nat) : Nat := s.get (Reg.CTX_CNT c i)

/-- s with counter i of context c replaced. -/
def State.setCnt (s : State) (c i v : Nat) : State := s.put (Reg.CTX_CNT c i) v

/-- Whether a condition code holds of counters n0 and n1 (R62). A reserved code never reaches here: it faults. -/
def condHolds (n0 n1 cc : Nat) : Bool :=
  match cc with
  | 0 => true
  | 1 => decide (n0 = 0)
  | 2 => decide (n0 ≠ 0)
  | 3 => decide (n1 = 0)
  | 4 => decide (n1 ≠ 0)
  | 5 => decide (n0 = n1)
  | 6 => decide (n0 ≠ n1)
  | _ => false

/-- Whether condition code cc holds for context c (R62). -/
def State.holds (s : State) (c cc : Nat) : Bool := condHolds (s.cnt c 0) (s.cnt c 1) cc

/-- The sum of two micro-registers modulo 2^72 with its zero flag and carry (R135). -/
def microAdd (a b : Word72) : Word72 × Bool × Bool := (a + b, decide (a + b = 0), decide (2 ^ 72 ≤ a.toNat + b.toNat))

/-- The difference of two micro-registers modulo 2^72 with its zero flag and borrow (R135). -/
def microSub (a b : Word72) : Word72 × Bool × Bool := (a - b, decide (a - b = 0), decide (a.toNat < b.toNat))

end Sys2Proof.Machine
end

