-- ==== Sys2Proof/Machine/Refs.lean ====
section
/-! DEFINITION. References to segments: liveness (R36, R38), the refusals of R40, R43, R67 and R68, and the play timeline
of a tile (R57, R58, R156, R183). -/

namespace Sys2Proof.Machine

/-! ## Occurrences, events' log -/

/-- s with an occurrence of source src awaiting registration at cycle cyc (R96). -/
def State.occur (s : State) (src cyc : Nat) (ts : Ts) : State :=
  { s with evt := { s.evt with occ := s.evt.occ ++ [⟨src, cyc, ts⟩] } }

/-- s with one entry written to the event log, while LOG_EN is 1: with all 512 entries full the oldest is overwritten
and LOG_WRAP set (R99). -/
def State.logWrite (s : State) (e : LogEnt) : State :=
  if s.active Reg.EVT_CTRL_LOG_EN = 1 then
    let s1 := if s.evt.logged = 512 then s.put Reg.EVT_STATUS_LOG_WRAP 1 else s
    let s2 := { s1 with evt := { s1.evt with log := mins s1.evt.log (s1.get Reg.EVT_LOG_WR) e,
                                             logged := Nat.min 512 (s1.evt.logged + 1) } }
    s2.put Reg.EVT_LOG_WR ((s2.get Reg.EVT_LOG_WR + 1) % 512)
  else s

/-! ## Messages to the host -/

/-- Whether the Crossing carries alarms and notifications to the host (R303, R304). -/
def State.carries (s : State) : Bool := s.xng.up && !s.xng.perst

/-- s with an alarm sent by the field side (R303): it holds up to 64 while they cannot be carried. -/
def State.alarm (s : State) (code detail : Nat) : State :=
  if !s.carries ∧ 64 ≤ s.xng.fAlarms.length then
    { s with xng := { s.xng with fAlarmLost := s.xng.fAlarmLost + 1 } }
  else { s with xng := { s.xng with fAlarms := s.xng.fAlarms ++ [⟨s.tsAt s.now, code, detail⟩] } }

/-- s with an event notification sent by the field side (R304): it holds up to 64 while they cannot be carried. -/
def State.notify (s : State) (ts : Ts) (num : Nat) (mark : Bool) : State :=
  if !s.carries ∧ 64 ≤ s.xng.fNotes.length then
    { s with xng := { s.xng with fNoteLost := s.xng.fNoteLost + 1 } }
  else { s with xng := { s.xng with fNotes := s.xng.fNotes ++ [⟨ts, num, mark⟩] } }

/-- s with an MSI-X vector signalled (R310). -/
def State.signalVec (s : State) (v : Nat) : State :=
  { s with xng := { s.xng with irqs := mset (fun _ => 0) s.xng.irqs v (mget (fun _ => 0) s.xng.irqs v + 1) } }

/-! ## Kinds and rates -/

/-- The encoding of KIND (R34). -/
def SegKind.code : SegKind → Nat
  | .program => 0 | .waveform => 1 | .pattern => 2 | .capture => 3 | .slipway => 4

/-- The encoding of CLASS (R42). -/
def RateClass.code : RateClass → Nat
  | .A => 0 | .B => 1 | .C => 2

/-- The maximum rate of a class in MB/s (R42). -/
def RateClass.rate : RateClass → Nat
  | .A => 110592 | .B => 55296 | .C => 6912

/-- The interpolation factor k of a waveform channel in force (R158). -/
def State.interp (s : State) (w : Nat) : Nat := 2 ^ s.active (Reg.WAV_CFG_INTERP w)

/-- The hold-repeat count h of a waveform channel in force (R155). -/
def State.holdCount (s : State) (w : Nat) : Nat := s.active (Reg.WAV_HOLD w) + 1

/-- Whether the profile in effect is Ivory (R17). -/
def State.ivory (s : State) : Bool := decide (s.get Reg.GLB_STATE_PROFILE = 1)

/-- DAC slots of a core cycle (R156). -/
def State.slots (s : State) : Nat := if s.ivory then 16 else 32

/-- Whether channel w is in NCO sine mode (R160). -/
def State.ncoSine (s : State) (w : Nat) : Bool := decide (s.active (Reg.WAV_CFG_MODE w) = 1)

/-- The duration of a waveform word in fine steps: k × h / 8 cc, or k × h / 4 cc in Ivory (R58). -/
def State.wordFine (s : State) (w : Nat) : Nat :=
  s.interp w * s.holdCount w * (if s.ivory then 256 else 128)

/-- Row r of timing set n of group g; a set that nothing has committed holds PERIOD 1,024 and zeros (R185). -/
def setDefault (k : Nat) : Word72 := if k % 32 = 0 then 1024 else 0
def State.setRow (s : State) (g n r : Nat) : Word72 := mget setDefault (s.group g).sets (n * 32 + r)

/-- PERIOD of timing set n of group g in fine steps (R185). -/
def State.period (s : State) (g n : Nat) : Nat := (s.setRow g n 0).toNat % 2 ^ 32

/-- The duration in fine steps of a pattern word: the periods of the sets its two cycles select (R58, R29). -/
def State.patFine (s : State) (g bank : Nat) (word : Word72) : Nat :=
  s.period g (16 * bank + fieldOf word.toNat 64 4) + s.period g (16 * bank + fieldOf word.toNat 68 4)

/-- Whether playing on tile t at the rates of R43 exceeds the maximum of a class. -/
def State.rateExceeds (s : State) (t : Nat) (cls : RateClass) : Bool :=
  if t < 8 then
    decide (cls.rate * (s.interp t * s.holdCount t) < (if s.ivory then 55296 else 110592))
  else
    -- 4.5 bytes a cycle at 24.576 GHz: one cycle lasts PMIN / (24,576 × 64) µs
    decide (cls.rate * s.get (Reg.GRP_PMIN (t - 8)) * 2 < 9 * 24576 * 64)

/-- Whether pin capture of group g exceeds the maximum of a class: 2.25 bytes a cycle (R43). -/
def State.pcapExceeds (s : State) (g : Nat) (cls : RateClass) : Bool :=
  decide (cls.rate * s.get (Reg.GRP_PMIN g) * 4 < 9 * 24576 * 64)

/-! ## Reference checks -/

/-- Whether a landed run reads storage sid. -/
def LRun.reads (sid : Nat) (r : LRun) : Bool :=
  r.words.any (fun q => decide (q.1 = sid)) || r.instrs.any (fun q => decide (q.1 = sid))

/-- The old storage of handle h that the landed run in play on tile t was landed from (R49): a REDIRECT of h has applied
since the event that plays the run committed. -/
def State.landedFrom (s : State) (t h : Nat) : Option Nat :=
  match (s.tile t).landing with
  | none => none
  | some (i, _) =>
    match mfind (s.tile t).slots i with
    | none => none
    | some y => (s.olds.find? (fun o => decide (o.h = h) && y.run.reads o.sid)).map (fun o => o.sid)

/-- The refusals of R40: of a handle that is not live, of a LOADING segment, of an offset at or beyond the length. -/
def State.refCheck (s : State) (h off : Nat) : Except Sts (Nat × Storage) :=
  match s.seg h with
  | none => .error .badhandle
  | some g =>
    if g.loading then .error .state
    else if (s.store g.sid).len ≤ off then .error .range
    else .ok (g.sid, s.store g.sid)

/-- A reference that tile t makes: within a landed run, to the storage that the run was landed from (R40, R48, R49). -/
def State.refOn (s : State) (t h off : Nat) : Except Sts (Nat × Storage) :=
  match s.landedFrom t h with
  | none => s.refCheck h off
  | some sid => if (s.store sid).len ≤ off then .error .range else .ok (sid, s.store sid)

/-- A storage that a reference of R68 may reach, as an instruction address. -/
def progAddr (h off : Nat) (r : Nat × Storage) : Except Sts Addr :=
  if r.2.kind = .program then .ok ⟨h, r.1, off⟩ else .error .precond

/-- A reference to a program address (R40, R68). -/
def State.refProgram (s : State) (h off : Nat) : Except Sts Addr :=
  match s.refCheck h off with
  | .error e => .error e
  | .ok r => progAddr h off r

/-- The reference of a JUMP or CALL of tile t (R40, R48, R68). -/
def State.refTarget (s : State) (t h off : Nat) : Except Sts Addr :=
  match s.refOn t h off with
  | .error e => .error e
  | .ok r => progAddr h off r

/-- A PLAY or PLAYN of tile t of what a reference has found (R40, R43, R67, R161). -/
def State.playable (s : State) (t : Nat) (r : Except Sts (Nat × Storage)) : Except Sts (Nat × Storage) :=
  if t < 8 ∧ s.ncoSine t then .error .precond
  else
    match r with
    | .error e => .error e
    | .ok (sid, st) =>
      if st.kind ≠ (if t < 8 then SegKind.waveform else SegKind.pattern) then .error .precond
      else if s.rateExceeds t st.cls then .error .bandwidth
      else .ok (sid, st)

/-- A PLAY or PLAYN reference of tile t (R40, R43, R49, R67, R161). -/
def State.refPlay (s : State) (t h off : Nat) : Except Sts (Nat × Storage) := s.playable t (s.refOn t h off)

/-! ## Liveness -/

/-- References that a position holds on storage sid (R38). -/
def Pos.refs (sid : Nat) : Pos → Nat
  | .words _ i _ _ _ _ => if i = sid then 1 else 0
  | .block _ i _ _ _ _ _ => if i = sid then 1 else 0
  | _ => 0

/-- References of storage sid that an item in play holds. -/
def Item.refs (sid : Nat) : Item → Nat
  | .words _ i _ _ _ _ _ => if i = sid then 1 else 0
  | .stream _ i _ _ _ _ _ _ _ => if i = sid then 1 else 0
  | .user parts _ => if parts.any (fun p => match p with | .words i _ _ => decide (i = sid) | .hold _ => false | .setr _ _ => false) then 1 else 0
  | _ => 0

/-- A context in one of the states that hold references (R38). -/
def Ctx.holds (x : Ctx) : Bool := decide (x.st = .ready ∨ x.st = .running ∨ x.st = .paused)

/-- References that a context holds on storage sid, reached through handle h (R38): its PC, stacks, resume points and
the targets of its arms. -/
def Ctx.refs (h sid : Nat) (x : Ctx) : Nat :=
  if x.holds then
    (if x.pc.sid = sid then 1 else 0) + x.pos.refs sid + countIf (fun l => decide (l.start.sid = sid)) x.loops +
    sumOf (fun c => (if c.ret.sid = sid then 1 else 0) + c.pos.refs sid) x.calls +
    countIf (fun a => a.2.valid && decide (a.2.h = h) && decide (h ≠ 0)) x.arms
  else 0

/-- References that the landing slots of a tile hold on storage sid (R38): its words, or instructions resolved with them. -/
def TileSt.slotRefs (sid : Nat) (x : TileSt) : Nat := countIf (fun p => p.2.run.reads sid) x.slots

/-- Plays of storage sid that the run-ahead of a tile has resolved and that have not begun (R38). -/
def TileSt.aheadRefs (sid : Nat) (x : TileSt) : Nat :=
  match x.ahead with
  | none => 0
  | some a => countIf (fun r => decide (r.play = some sid)) a.led

/-- References that a recording holds on storage sid. -/
def recRefs (sid : Nat) : Option Recd → Nat
  | some r => if r.sid = sid then 1 else 0
  | none => 0

/-- References that recordings which drain hold on storage sid (R232). -/
def drainRefs (sid : Nat) (l : List Recd) : Nat := countIf (fun r => decide (r.sid = sid)) l

/-- The number of references that hold storage sid, reached through handle h (R38). -/
def State.refCount (s : State) (h sid : Nat) : Nat :=
  -- an arm names the storage that its handle reaches now
  sumOf (fun p => p.2.refs (match s.seg h with
    | some g => if g.sid = sid then h else 0
    | none => 0) sid) s.ctxs + sumOf (fun p => p.2.item.refs sid + p.2.slotRefs sid + p.2.aheadRefs sid) s.tiles +
  sumOf (fun p => recRefs sid p.2.recd + drainRefs sid p.2.drains) s.grp +
  sumOf (fun p => recRefs sid p.2.recd + drainRefs sid p.2.drains) s.cap +
  (match s.seg h with
   | some g => countIf (fun l => decide (l.src ≠ 0 ∧ l.sid = sid)) g.loads + countIf (fun l => decide (l.sid = sid)) g.guests
   | none => 0)

/-- The states of a live handle (R36), by STATE's encoding. -/
def State.segState (s : State) (h : Nat) : Nat :=
  match s.seg h with
  | none => 0
  | some g => if g.loading then 1 else if s.refCount h g.sid = 0 then 2 else 3

/-- Whether a live handle is LIVE (R38). -/
def State.isLive (s : State) (h : Nat) : Bool := decide (s.segState h = 3)

/-! ## The play timeline -/

/-- Pattern words from word w at position pos of storage sid, up to the first word that starts at or after limit:
the word, its position and the repetitions left. -/
def State.patRun (s : State) (g bank sid len limit : Nat) : Nat → Nat → Nat → Nat → Nat × Nat × Nat
  | 0, reps, w, pos => (reps, w, pos)
  | n + 1, reps, w, pos =>
    if limit ≤ pos then (reps, w, pos)
    else if w < len then
      s.patRun g bank sid len limit n reps (w + 1) (pos + s.patFine g bank (s.readWord sid w))
    else match reps with
      | 0 => (0, w, pos)
      | r + 1 => s.patRun g bank sid len limit n r 0 pos

/-- As patRun, from a word of which cycle 0 may have started already: cycle 1 then starts where it was fixed to. -/
def State.patFrom (s : State) (g bank sid len limit n reps w pos : Nat) : Nat × Nat × Nat :=
  match (s.group g).mid with
  | none => s.patRun g bank sid len limit n reps w pos
  | some m =>
    if limit ≤ pos then (reps, w, pos)
    else s.patRun g bank sid len limit n reps (w + 1)
      (m + s.period g (16 * bank + fieldOf (s.readWord sid w).toNat 68 4))

/-- Where a played item of tile t stands at position limit: repetitions left, the word due at or after limit, and that
word's position (R110). The item is at word w at position pos. -/
def State.playedTo (s : State) (t bank sid len w reps pos limit : Nat) : Nat × Nat × Nat :=
  if t < 8 then
    let j := ceilDiv (limit - pos) (s.wordFine t)
    let total := (len - w) + reps * len
    if total ≤ j then (0, len, pos + total * s.wordFine t)
    else if j < len - w then (reps, w + j, pos + j * s.wordFine t)
    else (reps - 1 - (j - (len - w)) / len, (j - (len - w)) % len, pos + j * s.wordFine t)
  else s.patFrom (t - 8) bank sid len limit ((len - w) + reps * (len + 1) + 1) reps w pos

/-- The position at which a played item of tile t ends: padded to a whole cycle on a waveform tile (R156), exact on a
pattern tile (R183). -/
def State.playEnd (s : State) (t bank sid len w reps pos : Nat) : Nat :=
  if t < 8 then
    ceilDiv (pos + ((len - w) + reps * len) * s.wordFine t) Config.fine * Config.fine
  else
    (s.patFrom (t - 8) bank sid len (pos + 2 ^ 120) ((len - w) + reps * (len + 1) + 1) reps w pos).2.2

/-- The position at which n words of storage sid end, from word w at position pos on, over and over. -/
def State.patCount (s : State) (g bank sid len : Nat) : Nat → Nat → Nat → Nat
  | 0, _, pos => pos
  | n + 1, w, pos =>
    s.patCount g bank sid len n (if w + 1 < len then w + 1 else 0) (pos + s.patFine g bank (s.readWord sid w))

/-- The position at which the next n words of an item of tile t end, the item being at word w at position pos. -/
def State.wordsEnd (s : State) (t bank sid len w n pos : Nat) : Nat :=
  if t < 8 then pos + n * s.wordFine t else s.patCount (t - 8) bank sid len n w pos

/-- The timing bank of the context that runs on tile t (R188). -/
def State.bankOf (s : State) (t : Nat) : Nat :=
  match (s.tile t).running with
  | some c => (s.ctx c).tsBank
  | none => 0

/-- The words of a block of slipway entry e. -/
def State.blockLen (s : State) (e : Nat) : Nat := s.get (Reg.SLW_BLOCK e)

/-- The first cycle of a ring's log in which WR reached a total. -/
def reached (x : Nat) : List (Nat × Nat) → Option Nat
  | [] => none
  | (n, w) :: l => if x ≤ w then some n else reached x l

/-- Whether the block that starts at ring total b of storage sid, of entry e, due at position pos, was complete at its
decision cycle (R120, R123). -/
def State.blockReady (s : State) (sid e b pos : Nat) : Bool :=
  match reached (b + s.blockLen e) (s.store sid).wrLog with
  | some n => decide (n + Config.lead ≤ pos / Config.fine)
  | none => false

/-- The position at which the parts of a user routine end: words padded to a whole cycle on a waveform tile (R156). -/
def State.partsEnd (s : State) (t bank : Nat) : List Part → Nat → Nat
  | [], pos => pos
  | .words sid w n :: ps, pos => s.partsEnd t bank ps (s.playEnd t bank sid (w + n) w 0 pos)
  | .hold cc :: ps, pos => s.partsEnd t bank ps (pos + cc * Config.fine)
  | .setr _ _ :: ps, pos => s.partsEnd t bank ps pos

/-- The cycle that contains a position of a tile's timeline (R57, R156, R183). -/
def posCycle (pos : Nat) : Nat := pos / Config.fine

/-- The last block of storage sid that context c has played since it became Running (R123). -/
def Ctx.lastBlock (x : Ctx) (sid : Nat) : Option Nat :=
  match x.played.find? (fun p => decide (p.1 = sid)) with
  | some p => some p.2
  | none => none

/-- The last registration of event number n. -/
def State.lastReg (s : State) (n : Nat) : LastReg := mget (fun _ => ⟨none, 0, 0⟩) s.evt.lasts n

/-- The position at which the next instruction of tile t takes effect, when that is known (R57): none while a WAIT, a
SYNC, a STREAM, a dead time or a gap is in progress. -/
def State.itemEnd (s : State) (t : Nat) : Option Nat :=
  if (s.tile t).gapAt.isSome then none
  else match (s.tile t).item with
  | .idle => some (s.tile t).nextPos
  | .words _ sid len _ w reps pos => some (s.playEnd t (s.bankOf t) sid len w reps pos)
  | .wait _ _ (some n) => some (n * Config.fine)
  | .ramp _ steps _ _ k next => if k = steps then some (next * Config.fine) else none
  | .user parts pos =>
    if (s.tile t).micro.wait.isSome then none else some (s.partsEnd t (s.bankOf t) parts pos)
  | _ => none

end Sys2Proof.Machine
end

