-- ==== Sys2Proof/Machine/Landing.lean ====
section
/-! DEFINITION. Landed runs and landing slots (R102 to R105), and the release of what a context holds. -/

namespace Sys2Proof.Machine

/-- The words of an item as ranges, cut at room words: a PLAY or PLAYN from word w with reps repetitions to follow. -/
def itemRanges (sid len w reps room : Nat) : Nat → List (Nat × Nat × Nat)
  | 0 => []
  | n + 1 =>
    if room = 0 then []
    else
      let k := Nat.min (len - w) room
      (if k = 0 then [] else [(sid, w, k)]) ++
        (match reps with
         | 0 => []
         | r + 1 => itemRanges sid len 0 r (room - k) n)

/-- The words that a list of ranges holds. -/
def rangeWords (l : List (Nat × Nat × Nat)) : Nat := sumOf (fun q => q.2.2) l

/-- The landed run from an instruction address on (R102). n bounds the instructions resolved, dry counts instructions of
no duration in a row, room is what the run may still hold. A run that reaches the end of its program segment ends there
(DESIGN CHOICE, log 112: R102 does not list that end). -/
def State.runFrom (s : State) (t : Nat) : Nat → Addr → Nat → Nat → LRun → Except Sts LRun
  | 0, _, _, _, run => .ok run
  | n + 1, pc, dry, room, run =>
    if (s.store pc.sid).len ≤ pc.off then .ok run
    else
      let w := (s.readWord pc.sid pc.off).toNat
      let ops := BitVec.ofNat 66 w
      let op := fieldOf w 66 6
      let run' := { run with instrs := run.instrs ++ [(pc.sid, pc.off)] }
      let next := { pc with off := pc.off + 1 }
      let step := fun (a : Addr) =>
        if 4095 ≤ dry ∨ (8 ≤ dry ∧ run.words = []) then .error .precond
        else s.runFrom t n a (dry + 1) room run'
      let endsHere := decide (op = 0x01 ∨ op = 0x05 ∨ op = 0x07 ∨ op = 0x0B ∨ op = 0x0C ∨ op = 0x10 ∨ op = 0x12 ∨
        op = 0x13 ∨ 0x16 ≤ op) || ((op = 0x06 || op = 0x08 || op = 0x14) && decide (opCond ops ≠ 0))
      if endsHere || wrongKind t op || operandFault t op ops then .ok run
      else if op = 0x02 then
        match s.playable t (s.refCheck (opHandle ops) (opOffset ops)) with
        | .error e => .error e
        | .ok (sid, st) =>
          let r := itemRanges sid st.len (opOffset ops) 0 room 1
          if room ≤ rangeWords r then .ok { run' with words := run.words ++ r }
          else s.runFrom t n next 0 (room - rangeWords r) { run' with words := run.words ++ r }
      else if op = 0x03 then
        match s.playable t (s.refCheck (opHandle ops) 0) with
        | .error e => .error e
        | .ok (sid, st) =>
          let r := itemRanges sid st.len 0 (opBits ops 0 32 - 1) room (opBits ops 0 32)
          if room ≤ rangeWords r then .ok { run' with words := run.words ++ r }
          else s.runFrom t n next 0 (room - rangeWords r) { run' with words := run.words ++ r }
      else if op = 0x06 ∨ op = 0x08 then
        match s.refProgram (opHandle ops) (opOffset ops) with
        | .error e => .error e
        | .ok a => step a
      else step next

/-- The words a landing slot of tile t holds (R10 ff., the table of tiles). -/
def slotWords (t : Nat) : Nat := if t < 8 then 8192 else 2048

/-- A bound on the instructions a landed run resolves. -/
def runBound : Nat := 2 ^ 26

/-- The landed run of a program target (R102). -/
def State.progRun (s : State) (t h off : Nat) : Except Sts LRun :=
  match s.refProgram h off with
  | .error e => .error e
  | .ok a => s.runFrom t runBound a 0 (slotWords t) ⟨[], []⟩

/-- The landed run of a context as the target of a SWITCH arm (R102, R105): from its recorded item position, or from its
PC, in the storage it was recorded in where the context holds one (R48). -/
def State.ctxRun (s : State) (t c : Nat) : Except Sts LRun :=
  let x := s.ctx c
  match x.pos with
  | .words _ sid len _ w reps =>
    let r := itemRanges sid len w reps (slotWords t) (reps + 1)
    if slotWords t ≤ rangeWords r then .ok ⟨r, []⟩
    else s.runFrom t runBound x.pc 0 (slotWords t - rangeWords r) ⟨r, []⟩
  | .block _ _ _ _ _ _ _ => .ok ⟨[], []⟩
  | .steps _ => .ok ⟨[], []⟩
  | .sync _ _ => .ok ⟨[], []⟩
  | .fresh => if x.holds then s.runFrom t runBound x.pc 0 (slotWords t) ⟨[], []⟩ else s.progRun t x.pc.h x.pc.off

/-- The slot of tile t that holds a run, if one does (R103: identical runs share). -/
def findSlot (run : LRun) : SMap Slot → Option Nat
  | [] => none
  | (i, x) :: m => if x.run = run then some i else findSlot run m

/-- The lowest slot number from i on that m does not use, below 48. -/
def freeSlot (m : SMap Slot) : Nat → Nat → Option Nat
  | 0, _ => none
  | n + 1, i => if (mfind m i).isSome then freeSlot m n (i + 1) else some i

/-- A slot of tile t for a run: a shared one, or a free one whose fill is requested now (R103, R104). -/
def State.takeSlot (s : State) (t : Nat) (run : LRun) : Option (Nat × State) :=
  let x := s.tile t
  match findSlot run x.slots with
  | some i => some (i, s)
  | none =>
    match freeSlot x.slots 48 0 with
    | none => none
    | some i =>
      some (i, s.setTile t { x with slots := mins x.slots i ⟨run, s.now, none, none⟩, fillQ := x.fillQ ++ [i] })

/-! ## What holds a slot -/

/-- Whether an arm of a context holds slot i of the tile it is bound to (R105). -/
def Ctx.holdsSlot (i : Nat) (x : Ctx) : Bool :=
  x.holds && x.arms.any (fun a => a.2.valid && (a.2.slot == some i))

/-- Whether what resolution has found is slot i. -/
def Landing.isSlot (i : Nat) : Landing → Bool
  | .slot j => decide (j = i)
  | _ => false

/-- Whether an instruction that run-ahead has resolved has taken slot i (R103). -/
def Resolved.holdsSlot (i : Nat) (r : Resolved) : Bool :=
  match r.land with
  | some l => l.isSlot i
  | none => false

/-- Whether a routine's change that waits for its checkpoint has taken slot i. -/
def Delayed.holdsSlot (i : Nat) : Delayed → Bool
  | .arm _ l => l.isSlot i
  | _ => false

/-- Whether the instructions that a tile has resolved hold slot i: on its planned path, or within a routine. -/
def TileSt.resolvedSlot (i : Nat) (x : TileSt) : Bool :=
  (match x.ahead with
   | some a => a.led.any (Resolved.holdsSlot i)
   | none => false) || x.micro.due.any (fun p => p.2.holdsSlot i)

/-- Whether anything but an arm holds slot i of tile t: a landed run in play, a DIVERT handler, a resolved instruction, or
a redirection (R49, R103, R105, R126). -/
def State.slotUsed (s : State) (t i : Nat) : Bool :=
  (match (s.tile t).landing with
   | some (j, _) => decide (j = i)
   | none => false) ||
  (s.tile t).divert == some i ||
  (match (s.tile t).diverting with
   | some d => decide (d.slot = i)
   | none => false) ||
  (s.tile t).resolvedSlot i ||
  s.segs.any (fun p => match p.2.redirect with
    | some r => r.slots.any (fun q => decide (q.1 = t) && (decide (q.2.1 = i) || decide (q.2.2 = i)))
    | none => false)

/-- Whether slot i of tile t is held (R105). -/
def State.slotHeld (s : State) (t i : Nat) : Bool :=
  s.ctxs.any (fun p => decide (s.get (Reg.CTX_CFG_BIND p.1) = t) && p.2.holdsSlot i) || s.slotUsed t i

/-- s with the slots of tile t that nothing holds released (R105). -/
def State.releaseSlots (s : State) (t : Nat) : State :=
  let x := s.tile t
  let keep := mfilter (fun i => s.slotHeld t i) x.slots
  s.setTile t { x with slots := keep, fillQ := x.fillQ.filter (fun i => (mfind keep i).isSome) }

/-- Whether slot i of tile t is filled (R104). -/
def TileSt.slotFilled (x : TileSt) (i : Nat) : Bool :=
  match mfind x.slots i with
  | some y => y.filled.isSome
  | none => false

/-- Whether an arm record responds (R101, R104): in force, and landed where its action needs a landing. -/
def State.responds (s : State) (t : Nat) (a : ArmRec) : Bool :=
  a.valid &&
  (match a.act with
   | .stop => true
   | .count => true
   | _ =>
     match a.slot with
     | none => false
     | some i => (s.tile t).slotFilled i)

/-- Record k of context c. -/
def Ctx.arm (x : Ctx) (k : Nat) : ArmRec := mget (fun _ => ArmRec.init) x.arms k

/-- x with record k replaced. -/
def Ctx.setArm (x : Ctx) (k : Nat) (a : ArmRec) : Ctx := { x with arms := mset (fun _ => ArmRec.init) x.arms k a }

/-- The records of x, each with its number. -/
def Ctx.armList (x : Ctx) : List (Nat × ArmRec) := x.arms

/-! ## SWITCH arms whose target's resume point changes (R105) -/

/-- Whether only SWITCH arms of target d hold slot i of tile t (R105). -/
def State.slotOf (s : State) (t i d : Nat) : Bool :=
  !s.slotUsed t i &&
  s.ctxs.all (fun p => !(decide (s.get (Reg.CTX_CFG_BIND p.1) = t) && p.2.holds) ||
    p.2.arms.all (fun a => !(a.2.valid && (a.2.slot == some i)) || decide (a.2.act = .switch ∧ a.2.off = d)))

/-- s with slot i of tile t refilled in place with a run (R105). -/
def State.refillSlot (s : State) (t i : Nat) (run : LRun) : State :=
  let x := s.tile t
  s.setTile t { x with
    slots := mins x.slots i ⟨run, s.now, none, none⟩, fillQ := x.fillQ.filter (fun j => decide (j ≠ i)) ++ [i] }

/-- s with the slot of arm record k of context c replaced. -/
def State.setSlot (s : State) (c k : Nat) (i : Option Nat) : State :=
  s.setCtx c ((s.ctx c).setArm k { (s.ctx c).arm k with slot := i })

/-- s with arm record k of context c, a SWITCH arm, landed for its target's resume point as it is now (R105): its slot is
refilled in place where only SWITCH arms of that target hold it; otherwise the arm takes a free slot, or shares one; with
none, or a run that is refused, it stays in force unlanded. -/
def State.relandSwitch (s : State) (t c k : Nat) : State :=
  let a := (s.ctx c).arm k
  match s.ctxRun t a.off with
  | .error _ => s.setSlot c k none
  | .ok run =>
    let held := match a.slot with
      | some i => (mfind (s.tile t).slots i).map (fun y => (i, y.run))
      | none => none
    match held with
    | some (i, old) =>
      if old = run then s
      else if s.slotOf t i a.off then s.refillSlot t i run
      else (match s.takeSlot t run with
        | none => s.setSlot c k none
        | some (j, s1) => s1.setSlot c k (some j))
    | none =>
      (match s.takeSlot t run with
       | none => s.setSlot c k none
       | some (j, s1) => s1.setSlot c k (some j))

/-- s with the SWITCH arms of tile t that p selects landed afresh. -/
def State.relandArms (s : State) (t : Nat) (p : ArmRec → Bool) : State :=
  forEach (fun s q =>
    if s.get (Reg.CTX_CFG_BIND q.1) = t ∧ q.2.holds then
      forEach (fun s a => if a.2.valid ∧ a.2.act = .switch ∧ p a.2 then s.relandSwitch t q.1 a.1 else s) q.2.armList s
    else s) s.ctxs s

/-- s with every unlanded SWITCH arm of tile t tried again, since a slot was released (R105). -/
def State.retrySwitch (s : State) (t : Nat) : State := s.relandArms t (fun a => a.slot.isNone)

/-- s with the slots of tile t that nothing holds released, and the unlanded SWITCH arms tried again. -/
def State.gcSlots (s : State) (t : Nat) : State :=
  let s1 := s.releaseSlots t
  if (s1.tile t).slots.length < (s.tile t).slots.length then s1.retrySwitch t else s1

/-- s with every SWITCH arm of tile t whose target is context c landed afresh, since c's resume point changed (R105). -/
def State.refillSwitch (s : State) (t c : Nat) : State := (s.relandArms t (fun a => decide (a.off = c))).gcSlots t

/-! ## What resolving an ARM or a STREAM finds (R103, R126) -/

/-- The landed run an ARM's target needs (R101, R102): none for STOP and COUNT. -/
def State.armRun (s : State) (t : Nat) (act : ArmAct) (h off : Nat) : Except Sts (Option LRun) :=
  match act with
  | .stop => .ok none
  | .count => .ok none
  | .goto => (s.progRun t h off).map some
  | .call => (s.progRun t h off).map some
  | .switch => if s.get (Reg.CTX_CFG_BIND off) ≠ t then .error .precond else (s.ctxRun t off).map some

/-- s with the slot taken that a landed run needs, and what resolution has found (R103). -/
def State.land (s : State) (t : Nat) (r : Except Sts (Option LRun)) : State × Landing :=
  match r with
  | .error e => (s, .refused e)
  | .ok none => (s, .free)
  | .ok (some run) =>
    match s.takeSlot t run with
    | none => (s, .refused .nolanding)
    | some (i, s1) => (s1, .slot i)

/-- What resolving an ARM word finds. -/
def State.landArm (s : State) (t : Nat) (ops : BitVec 66) : State × Landing :=
  s.land t (s.armRun t (armAct (opBits ops 56 3)) (opBits ops 22 24) (opBits ops 0 22))

/-- CTX_DIVERT of context c (R126). -/
def State.divertTo (s : State) (c : Nat) : Nat × Nat :=
  (s.get (Reg.CTX_DIVERT_HI_HANDLE c), s.get (Reg.CTX_DIVERT_LO c) + 2 ^ 32 * s.get (Reg.CTX_DIVERT_HI_OFFSET_HI c))

/-- The underrun policy of context c: 0 HOLD, 1 REPEAT, 2 DIVERT; 3 acts as HOLD (R123). -/
def State.upol (s : State) (c : Nat) : Nat :=
  if s.get (Reg.CTX_CFG_UPOL c) = 3 then 0 else s.get (Reg.CTX_CFG_UPOL c)

/-- What resolving a STREAM of context c finds (R126): the handler's slot where the policy is DIVERT. -/
def State.landHandler (s : State) (t c : Nat) : State × Landing :=
  if s.upol c ≠ 2 then (s, .free)
  else s.land t ((s.progRun t (s.divertTo c).1 (s.divertTo c).2).map some)

end Sys2Proof.Machine
end

