-- ==== Sys2Proof/Machine/Ahead.lean ====
section
/-! DEFINITION. Run-ahead (R59, R63, R66, R102, R103, R139): a tile resolves one instruction a cycle along its planned path,
ahead of the instructions' effect cycles. -/

namespace Sys2Proof.Machine

/-! ## What an instruction's resolution needs -/

/-- Opcodes that are timed items (R58). -/
def timedOp (op : Nat) : Bool :=
  decide (op = 0x02 ∨ op = 0x03 ∨ op = 0x0B ∨ op = 0x0C ∨ op = 0x10 ∨ op = 0x12 ∨ 0x30 ≤ op)

/-- The address after a. -/
def Addr.next (a : Addr) : Addr := { a with off := a.off + 1 }

/-- The address of the instruction before a. -/
def Addr.prev (a : Addr) : Addr := { a with off := a.off - 1 }

/-- A stack cut to its d outermost entries. -/
def cutTo {α : Type} (d : Nat) (l : List α) : List α := l.drop (l.length - d)

/-- The loop-stack depth below which a program may not pop: that recorded in the top call-stack entry (R69, R71). -/
def loopFloor : List CallEnt → Nat
  | [] => 0
  | e :: _ => e.depth

/-- The loop-stack entry that a LOOP pushes (R69). -/
def loopEntry (pc : Addr) (ops : BitVec 66) : LoopEnt :=
  ⟨pc.next, opBits ops 0 32, decide (opBits ops 0 32 = 0), decide (opBits ops 62 1 = 1)⟩

/-- The enabled slipway table entry whose HANDLE is h, the lowest of them (R119). -/
def State.slipEntry (s : State) (h : Nat) : Option Nat :=
  (upto 256).find? (fun e => decide (s.get (Reg.SLW_HANDLE_EN e) = 1 ∧ s.get (Reg.SLW_HANDLE_HANDLE e) = h))

/-- Whether another context than c plays storage sid, on another tile than t, or holds a resume point in it (R119, R38). -/
def State.slipTaken (s : State) (t c sid : Nat) : Bool :=
  s.tiles.any (fun p => decide (p.1 ≠ t) && decide (0 < p.2.item.refs sid + p.2.aheadRefs sid)) ||
  s.ctxs.any (fun p => decide (p.1 ≠ c) && p.2.holds &&
    (decide (0 < p.2.pos.refs sid) || p.2.calls.any (fun k => decide (0 < k.pos.refs sid))))

/-- The checks of a STREAM's reference in the order of R119: storage and entry, or the refusal. -/
def State.refStream (s : State) (t c h : Nat) : Except Sts (Nat × Nat) :=
  if t < 8 ∧ s.ncoSine t then .error .precond
  else match s.seg h with
  | none => .error .badhandle
  | some g =>
    let st := s.store g.sid
    if g.loading then .error .state
    else if st.kind ≠ .slipway then .error .precond
    else match s.slipEntry h with
    | none => .error .precond
    | some e =>
      let B := s.blockLen e
      if B < 64 ∨ 65536 < B then .error .range
      else if st.len % B ≠ 0 then .error .precond
      else if s.slipTaken t c g.sid then .error .precond
      else if s.rateExceeds t st.cls then .error .bandwidth
      else .ok (g.sid, e)

/-! ## The cursor -/

/-- A cursor at the point at which tile t's context c will be once what it has resolved has taken effect, where nothing is
resolved: at its PC, with the changes made that its last routine has pending (R139). A STREAM without end ends the path. -/
def State.aheadSeed (s : State) (t c : Nat) : Ahead :=
  let x := s.ctx c
  let endless := match (s.tile t).item with
    | .stream _ _ _ n _ _ _ _ _ => decide (n = 0)
    | _ => false
  (s.tile t).micro.due.foldl (fun a p => match p.2 with
    | .stks l k => { a with loops := l, calls := k }
    | .setr 0x08 v => { a with cnt0 := v % 2 ^ 32 }
    | .setr 0x09 v => { a with cnt1 := v % 2 ^ 32 }
    | _ => a) ⟨c, x.pc, x.loops, x.calls, s.cnt c 0, s.cnt c 1, [], (s.tile t).spin, endless⟩

/-- The context that tile t runs, or is about to run (R88, R104). -/
def TileSt.planned (x : TileSt) : Option Nat :=
  match x.running with
  | some c => some c
  | none => x.start.map (fun r => r.c)

/-- The cursor after a JUMP, CALL or RET that is taken. -/
def State.aheadJump (s : State) (t : Nat) (a : Ahead) (op : Nat) (ops : BitVec 66) : Ahead :=
  let stop := { a with ends_ := true }
  match op with
  | 0x06 =>
    if 16 ≤ a.calls.length then stop
    else (match s.refTarget t (opHandle ops) (opOffset ops) with
      | .error _ => stop
      | .ok b => { a with calls := ⟨a.pc.next, .fresh, a.loops.length⟩ :: a.calls, pc := b })
  | 0x07 =>
    (match a.calls with
     | [] => stop
     | k :: ks =>
       if (s.store k.ret.sid).kind ≠ .program then stop
       else { a with calls := ks, loops := cutTo k.depth a.loops, pc := k.ret })
  | _ =>
    if 8 < opBits ops 58 4 ∨ a.loops.length - loopFloor a.calls < opBits ops 58 4 then stop
    else match s.refTarget t (opHandle ops) (opOffset ops) with
      | .error _ => stop
      | .ok b => { a with loops := a.loops.drop (opBits ops 58 4), pc := b }

/-- The cursor after the instruction at its PC (R57, R68 to R71, R81): the path ends at a HALT that takes effect, at a
STREAM without end, at a user opcode, whose routine decides what follows, at a second SWITCH, and where an instruction will
fault. -/
def State.aheadGo (s : State) (t : Nat) (a : Ahead) (op : Nat) (ops : BitVec 66) : Ahead :=
  let stop := { a with ends_ := true }
  let next := { a with pc := a.pc.next }
  let taken := condHolds a.cnt0 a.cnt1 (opCond ops)
  match op with
  | 0x01 => if taken then stop else next
  | 0x04 => if 8 ≤ a.loops.length then stop else { next with loops := loopEntry a.pc ops :: a.loops }
  | 0x05 =>
    (match a.loops with
     | [] => stop
     | l :: ls =>
       if a.loops.length ≤ loopFloor a.calls then stop
       else if l.forever then { a with pc := l.start }
       else if 1 < l.left then { a with pc := l.start, loops := { l with left := l.left - 1 } :: ls }
       else { next with loops := ls })
  | 0x06 => if taken then s.aheadJump t a op ops else next
  | 0x07 => if taken then s.aheadJump t a op ops else next
  | 0x08 => if taken then s.aheadJump t a op ops else next
  | 0x12 => if opBits ops 0 32 = 0 then stop else next
  | 0x13 =>
    let d := opBits ops 0 10
    let x := s.ctx d
    if (s.tile t).planned = some a.c ∧ s.get (Reg.CTX_CFG_BIND d) = t ∧ (x.st = .ready ∨ x.st = .paused) ∧ d ≠ a.c then
      { a with c := d, pc := x.pc, loops := x.loops, calls := x.calls, cnt0 := s.cnt d 0, cnt1 := s.cnt d 1 }
    else stop
  | 0x15 =>
    let v := fun (n : Nat) => if opBits ops 64 2 = 1 then opBits ops 0 32 else (n + opBits ops 0 32) % 2 ^ 32
    if opBits ops 32 1 = 0 then { next with cnt0 := v a.cnt0 } else { next with cnt1 := v a.cnt1 }
  | _ => if 0x16 ≤ op then stop else next

/-- The instructions of no duration in a row after one more (R59). -/
def Ahead.dryAfter (a : Ahead) (op : Nat) : Nat := if timedOp op then 0 else a.dry + 1

/-- The cursor a, with the instructions of a list resolved again along the planned path as far as it is the path they lie
on (R63). -/
def State.replay (s : State) (t : Nat) : List Resolved → Ahead → Ahead
  | [], a => a
  | r :: rs, a =>
    if a.ends_ || decide (a.pc.sid ≠ r.sid ∨ a.pc.off ≠ r.off) then a
    else
      let w := (s.readWord r.sid r.off).toNat
      let b := s.aheadGo t a (fieldOf w 66 6) (BitVec.ofNat 66 w)
      s.replay t rs { b with led := a.led ++ [r], dry := a.dryAfter (fieldOf w 66 6) }

/-! ## The run-ahead of a tile -/

/-- s with the run-ahead of tile t replaced. -/
def State.setAhead (s : State) (t : Nat) (a : Option Ahead) : State := s.setTile t { s.tile t with ahead := a }

/-- The instruction at the PC of context c as run-ahead on tile t has resolved it, where it has. -/
def State.resolvedAt (s : State) (t c : Nat) : Option Resolved :=
  match (s.tile t).ahead with
  | none => none
  | some a =>
    match a.led with
    | [] => none
    | r :: _ => if r.sid = (s.ctx c).pc.sid ∧ r.off = (s.ctx c).pc.off then some r else none

/-- s with the instruction at the PC of context c taken from what tile t has resolved; what was resolved along another path,
or to an end, is given up (R59). -/
def State.popAhead (s : State) (t c : Nat) : State :=
  match s.resolvedAt t c, (s.tile t).ahead with
  | some _, some a =>
    s.setAhead t (if a.ends_ && decide (a.led.length ≤ 1) then none else some { a with led := a.led.drop 1 })
  | _, _ => s.setAhead t none

/-- The checkpoints that tile t's ledger holds (R139): one an instruction resolved, and those of its routine that lie
ahead. -/
def State.ledger (s : State) (t : Nat) (led : List Resolved) : Nat :=
  led.length + countIf (fun a => decide (s.now < (s.tile t).micro.eff + a)) (s.tile t).micro.cks

/-- The lines an instruction cache holds (R66). -/
def cacheLines : Nat := 1024

/-- s with the line of word off of storage sid brought into tile t's instruction cache (R66), requested where it is not there: the
line used longest ago makes room (DESIGN CHOICE, log 113). -/
def State.cacheLine (s : State) (t sid off : Nat) : State :=
  let l := (sid, off / 7)
  let x := s.tile t
  (if x.icache.contains l then s else s.lineUse sid (off / 7)).setTile t { x with icache := l :: (x.icache.filter (fun q => decide (q ≠ l))).take (cacheLines - 1) }

/-- s with the instruction at cursor a, of opcode op, resolved, having found what the pair says: the storage it will play and
its landing. -/
def State.resolved (s : State) (t : Nat) (a : Ahead) (op : Nat) (ops : BitVec 66) (play : Option Nat) (land : Option Landing)
    (ends_ : Bool) : State :=
  let b := s.aheadGo t a op ops
  s.setAhead t (some { b with
    led := a.led ++ [⟨a.pc.sid, a.pc.off, play, land⟩], dry := a.dryAfter op, ends_ := b.ends_ || ends_ })

/-- Whether resolution ends before the instruction at cursor a: the end of its segment, its line poisoned, or a fault by its
form or its number in a row (R59, R60, R68, R77, R82, R143). -/
def State.aheadBad (s : State) (t : Nat) (a : Ahead) (op : Nat) (ops : BitVec 66) : Bool :=
  decide ((s.store a.pc.sid).len ≤ a.pc.off) || s.poisoned a.pc.sid a.pc.off ||
  decide (s.get (Reg.MC_DISPATCH_VALID t op) = 0) || wrongKind t op || operandFault t op ops ||
  (decide (4095 ≤ a.dry) && !timedOp op && !(decide (op = 0x01) && condHolds a.cnt0 a.cnt1 (opCond ops)))

/-- Whether a reference is refused. -/
def refused {α : Type} (r : Except Sts α) : Bool :=
  match r with
  | .error _ => true
  | .ok _ => false

/-- s with the instruction at cursor a of tile t's planned path resolved (R38, R59, R103, R126): an ARM, or a STREAM under
DIVERT, takes its landing slot; a PLAY, PLAYN or STREAM holds its segment. -/
def State.aheadStep (s : State) (t : Nat) (a : Ahead) : State :=
  let w := (s.readWord a.pc.sid a.pc.off).toNat
  let op := fieldOf w 66 6
  let ops := BitVec.ofNat 66 w
  if s.aheadBad t a op ops then s.setAhead t (some { a with ends_ := true })
  else
    let s1 := s.cacheLine t a.pc.sid a.pc.off
    match op with
    | 0x02 =>
      let r := s1.refPlay t (opHandle ops) (opOffset ops)
      s1.resolved t a op ops (r.toOption.map (fun q => q.1)) none (refused r)
    | 0x03 =>
      let r := s1.refPlay t (opHandle ops) 0
      s1.resolved t a op ops (r.toOption.map (fun q => q.1)) none (refused r)
    | 0x09 =>
      let q := s1.landArm t ops
      q.1.resolved t a op ops none (some q.2) (match q.2 with
        | .refused _ => true
        | _ => false)
    | 0x12 =>
      let r := s1.refStream t a.c (opHandle ops)
      if refused r then s1.resolved t a op ops none none true
      else
        let q := s1.landHandler t a.c
        q.1.resolved t a op ops (r.toOption.map (fun q => q.1)) (some q.2) (match q.2 with
          | .refused _ => true
          | _ => false)
    | _ => s1.resolved t a op ops none none false

/-- s with the next instruction of tile t's planned path resolved (R59): none while no context runs or is about to, while a
routine decides the path, at its end, or with 1,024 checkpoints in the ledger (R139). -/
def State.aheadTick (s : State) (t : Nat) : State :=
  let x := s.tile t
  match x.planned with
  | none => s
  | some c =>
    if x.micro.upc.isSome then s
    else
      let a := match x.ahead with
        | some a => a
        | none => s.aheadSeed t c
      if a.ends_ || decide (1024 ≤ s.ledger t a.led) then s else s.aheadStep t a

end Sys2Proof.Machine
end

