-- ==== Sys2Proof/Machine/Record.lean ====
section
/-! DEFINITION. Recordings into capture segments (R194, R230 to R232): buffer entry b serves capture channel b below 8 and
pin group b − 8 from 8 on. -/

namespace Sys2Proof.Machine

/-- The recording of buffer entry b. -/
def State.recOf (s : State) (b : Nat) : Option Recd := if b < 8 then (s.capture b).recd else (s.group (b - 8)).recd

/-- s with the recording of buffer entry b replaced. -/
def State.setRec (s : State) (b : Nat) (r : Option Recd) : State :=
  if b < 8 then s.setCapture b { s.capture b with recd := r } else s.setGroup (b - 8) { s.group (b - 8) with recd := r }

/-- The handle that buffer entry b records into. -/
def State.recHandle (s : State) (b : Nat) : Nat :=
  if b < 8 then s.get (Reg.CAP_HANDLE b) else s.get (Reg.PCAP_HANDLE (b - 8))

/-- The total decimation d of capture channel c (R216). -/
def State.decim (s : State) (c : Nat) : Nat :=
  s.active (Reg.FLT_CFG_CIC_D c) * 2 ^ s.active (Reg.FLT_CFG_HB1_EN c) * 2 ^ s.active (Reg.FLT_CFG_HB2_EN c)

/-- Whether recording by buffer entry b exceeds the maximum rate of a class (R43). -/
def State.recExceeds (s : State) (b : Nat) (cls : RateClass) : Bool :=
  if b < 8 then decide (cls.rate * s.decim b < 55296) else s.pcapExceeds (b - 8) cls

/-- Whether capture channel c is held (R233): its clocks are gated, which Ash and a profile change bring with them, or a
calibration, the host-absent policy or a steward's stop holds it. -/
def State.capHeld (s : State) (c : Nat) : Bool :=
  decide (s.get Reg.CLK_STATUS_GATED = 1) || (s.capture c).calHeld || (s.capture c).absHeld ||
  (s.capture c).stewHeld

/-- s with the status of a start or a recording of buffer entry b reported. -/
def State.recStatus (s : State) (b : Nat) (e : Sts) : State :=
  let s1 := s.put (Reg.CBUF_STATUS_STS b) e.code
  if b < 8 then s1 else s1.put (Reg.PCAP_STATUS_STS (b - 8)) e.code

/-- Whether a recording of buffer entry b is in progress. -/
def State.recording (s : State) (b : Nat) : Bool :=
  match s.recOf b with
  | some r => !r.ended
  | none => false

/-- The checks of a start of recording (R230): the storage to record into, or the refusal. A start while a recording of the
same buffer entry is in progress is refused with STS_BUSY, whatever segment it names (DESIGN CHOICE, log 116). -/
def State.recCheck (s : State) (b : Nat) : Except Sts Nat :=
  let h := s.recHandle b
  match s.refCheck h 0 with
  | .error e => .error e
  | .ok (sid, st) =>
    if s.isLive h || s.recording b then .error .busy
    else if st.kind ≠ .capture then .error .precond
    else if s.recExceeds b st.cls then .error .bandwidth
    else if s.get (Reg.CBUF_CFG_MODE b) = 1 ∧ st.len < s.get (Reg.CBUF_PRE b) + s.get (Reg.CBUF_POST b) + 1 then
      .error .range
    else if s.get (Reg.CBUF_CFG_MODE b) = 0 ∧ s.get (Reg.CBUF_PRE b) ≠ 0 then .error .range
    else if b < 8 ∧ s.capHeld b then .error .state
    else .ok sid

/-- Whether buffer entry b accepts a trigger once w words are complete (R231). -/
def State.trigOpen (s : State) (b w : Nat) : Bool :=
  decide (s.get (Reg.CBUF_CFG_MODE b) = 0 ∨ s.get (Reg.CBUF_PRE b) ≤ w)

/-- STATE of buffer entry b while it records untriggered, w words being complete (R236). -/
def State.recState (s : State) (b w : Nat) : Nat :=
  if s.get (Reg.CBUF_CFG_TRIG_SRC b) = 0 then 1 else if s.trigOpen b w then 2 else 1

/-- The recordings of buffer entry b that have ended and drain, behind a newer one. -/
def State.drainsOf (s : State) (b : Nat) : List Recd := if b < 8 then (s.capture b).drains else (s.group (b - 8)).drains

/-- s with them replaced. -/
def State.setDrains (s : State) (b : Nat) (l : List Recd) : State :=
  if b < 8 then s.setCapture b { s.capture b with drains := l } else s.setGroup (b - 8) { s.group (b - 8) with drains := l }

/-- s with a recording by buffer entry b started, or refused (R230). -/
def State.recStart (s : State) (b : Nat) : State :=
  match s.recCheck b with
  | .error e => s.recStatus b e
  | .ok sid =>
    let s1 := s.setDrains b (s.drainsOf b ++ (s.recOf b).toList)
    let was := (s.get (Reg.CBUF_STATUS_STS b), s.get (Reg.CBUF_STATUS_STATE b))
    (((s1.setRec b (some ⟨s.recHandle b, sid, 0, 0, none, none, none, false, 0, [], s.now, was, 0⟩)).recStatus b .ok).put
      (Reg.CBUF_STATUS_STATE b) (s.recState b 0)).memWake

/-- The offset of word n of a recording of storage sid: modulo the length in ring mode (R231). -/
def State.recOffset (s : State) (b sid n : Nat) : Nat :=
  if s.get (Reg.CBUF_CFG_MODE b) = 1 then n % (s.store sid).len else n

/-- Whether a recording has reached its end of itself (R231): the segment is full in one-shot mode, or POST words follow
the trigger word. -/
def State.recFull (s : State) (b : Nat) (r : Recd) : Bool :=
  decide (s.get (Reg.CBUF_CFG_MODE b) = 0 ∧ 4 * (s.store r.sid).len ≤ r.units) ||
  (match r.trig with
   | some u => decide (4 * (u / 4 + s.get (Reg.CBUF_POST b) + 1) ≤ r.units)
   | none => false)

/-- The bits of a word that a unit occupies: a sample with its flag (R30), or the results of a vector cycle (R31), with
the cycle tag of cycle 0. -/
def unitBits (b j x tag : Nat) : Nat :=
  if b < 8 then (x % 2 ^ 16) * 2 ^ (16 * j) + (x / 2 ^ 16 % 4) * 2 ^ (64 + 2 * j)
  else (x % 2 ^ 16) * 2 ^ (16 * j) + (if j = 0 then tag % 256 * 2 ^ 64 else 0)

/-- s with one unit x of timestamp ts recorded by buffer entry b (R231). The unit on which a stop falls takes no trigger (R235). -/
def State.recUnit (s : State) (b x tag : Nat) (ts : Ts) : State :=
  match s.recOf b with
  | none => s
  | some r =>
    if r.ended || s.recFull b r then s
    else
      let j := r.units % 4
      let acc := BitVec.ofNat 72 (r.acc.toNat + unitBits b j x tag)
      let trig := match r.trig, r.trigTs with
        | none, some t => if t.toNat ≤ ts.toNat ∧ r.stopAt = none then some r.units else none
        | u, _ => u
      let s1 := if j = 3 then s.storeWord r.sid (s.recOffset b r.sid (r.units / 4)) acc else s
      let s2 := s1.setRec b (some { r with
        units := r.units + 1, acc := (if j = 3 then 0 else acc), trig := trig, insts := ts :: r.insts })
      if r.trigTs.isSome then s2 else s2.put (Reg.CBUF_STATUS_STATE b) (s.recState b ((r.units + 1) / 4))

/-- The first unit at or after a timestamp, of units whose instants a list gives newest first. -/
def unitFrom (t : Ts) : List Ts → Option Nat
  | [] => none
  | x :: l =>
    match unitFrom t l with
    | some u => some u
    | none => if t.toNat ≤ x.toNat then some l.length else none

/-- s with a trigger of buffer entry b at timestamp ts taken, or ignored (R231): its unit may have been recorded before the
trigger registers. -/
def State.recTrigger (s : State) (b : Nat) (ts : Ts) : State :=
  match s.recOf b with
  | none => s
  | some r =>
    if r.ended || r.trigTs.isSome || r.stopAt.isSome then s
    else if s.trigOpen b (r.units / 4) then
      (s.setRec b (some { r with trigTs := some ts, trig := unitFrom ts r.insts })).put (Reg.CBUF_STATUS_STATE b) 3
    else s.put (Reg.CBUF_STATUS_EARLY b) 1

/-- s with the recording of buffer entry b ended (R231, R232): a partial last word is written, the outcome reported, and
the recorded length set. -/
def State.recEnd (s : State) (b : Nat) (e : Sts) : State :=
  match s.recOf b with
  | none => s
  | some r =>
    if r.ended then s
    else
      let words := ceilDiv r.units 4
      let len := (s.store r.sid).len
      let s1 := if r.units % 4 = 0 then s else s.storeWord r.sid (s.recOffset b r.sid (r.units / 4)) r.acc
      let count := Nat.min words len
      let s2 := s1.put64 (Reg.CBUF_COUNT_LO b) (Reg.CBUF_COUNT_HI b) count
      let s3 := s2.put64 (Reg.CBUF_FIRST_LO b) (Reg.CBUF_FIRST_HI b) (if len < words then words % len else 0)
      let s4 := match r.trig with
        | none => s3
        | some u =>
          (s3.put64 (Reg.CBUF_TRIG_LO b) (Reg.CBUF_TRIG_HI b) (s3.recOffset b r.sid (u / 4))).put
            (Reg.CBUF_STATUS_TSAMP b) (u % 4)
      let s5 := s4.setStore r.sid { s4.store r.sid with recLen := count }
      (s5.setRec b (some { r with ended := true, sts := e.code, endAt := s.now })).recStatus b e

/-- s with a stop of recording noted for buffer entry b in this cycle. -/
def State.markStop (s : State) (b : Nat) : State :=
  if b < 8 then s.setCapture b { s.capture b with stopCyc := some s.now }
  else s.setGroup (b - 8) { s.group (b - 8) with stopCyc := some s.now }

/-- Whether recording by buffer entry b has been stopped in this cycle. -/
def State.stoppedNow (s : State) (b : Nat) : Bool :=
  decide ((if b < 8 then (s.capture b).stopCyc else (s.group (b - 8)).stopCyc) = some s.now)

/-- s with the recording of buffer entry b stopped (R194, R231): a pin group's recording takes the vector cycle in
progress first. -/
def State.recStop (s : State) (b : Nat) : State :=
  match s.recOf b with
  | none => s
  | some r =>
    if r.ended then s
    else if b < 8 then s.recEnd b .ok
    else match (s.group (b - 8)).vc with
      | some v => if v.taken then s.setRec b (some { r with stopAt := some s.now }) else s.recEnd b .ok
      | none => s.recEnd b .ok

/-- s with a stop of recording by buffer entry b in this cycle: it wins over a start of the same cycle, of which nothing remains
(R202, R235). -/
def State.recHalt (s : State) (b : Nat) : State :=
  let s1 := s.markStop b
  match s1.recOf b with
  | some r =>
    if !r.ended && decide (r.from_ = s.now) then
      let s2 := (s1.setRec b none).put (Reg.CBUF_STATUS_STATE b) r.was.2
      let s3 := s2.put (Reg.CBUF_STATUS_STS b) r.was.1
      if b < 8 then s3 else s3.put (Reg.PCAP_STATUS_STS (b - 8)) r.was.1
    else s1.recStop b
  | none => s1

/-- s with a start of recording by buffer entry b: none in a cycle in which it has been stopped (R202, R235). -/
def State.recGo (s : State) (b : Nat) : State := if s.stoppedNow b then s else s.recStart b

/-- s with the recording of buffer entry b ended by a hold or a reset (R233, R235): one that has ended in this cycle takes
STS_STATE as well. -/
def State.recHold (s : State) (b : Nat) : State :=
  match s.recOf b with
  | some r =>
    if r.ended && decide (r.endAt = s.now) then (s.setRec b (some { r with sts := Sts.state.code })).recStatus b .state
    else s.recEnd b .state
  | none => s

end Sys2Proof.Machine
end

