-- ==== Sys2Proof/Machine/PatEngine.lean ====
section
/-! DEFINITION. The vector timeline of a pin group (R183 to R199): vector cycles, drive edges, compares, fails, matchers
and raw capture. Positions are in fine steps of the tile's timeline. -/

namespace Sys2Proof.Machine

/-- Edge i (0 to 3) of pin k in a vector cycle (R185). -/
def VCyc.edge (v : VCyc) (k i : Nat) : Nat :=
  fieldOf (mget (fun _ => 0) v.rows (1 + 3 * k + i / 2)).toNat (if i % 2 = 0 then 0 else 32) 32

/-- The compare edges C0 and C1 of pin k (R185). -/
def VCyc.cEdge (v : VCyc) (k : Nat) (second : Bool) : Nat :=
  fieldOf (mget (fun _ => 0) v.rows (3 + 3 * k)).toNat (if second then 32 else 0) 32

/-- FMT of pin k (R190). -/
def VCyc.fmt (v : VCyc) (k : Nat) : Nat := fieldOf (mget (fun _ => 0) v.rows (1 + 3 * k)).toNat 64 3

/-- CMODE of pin k: window compare (R191). -/
def VCyc.window (v : VCyc) (k : Nat) : Bool := decide (fieldOf (mget (fun _ => 0) v.rows (1 + 3 * k)).toNat 67 1 = 1)

/-- PERIOD of the vector cycle (R185). -/
def VCyc.period (v : VCyc) : Nat := fieldOf (mget (fun _ => 0) v.rows 0).toNat 0 32

/-- The pin code of pin k (R29). -/
def VCyc.code (v : VCyc) (k : Nat) : Nat := fieldOf v.codes.toNat (4 * k) 4

/-- The bit that a pin code drives, if it drives one (R189). -/
def drives (code : Nat) : Option Bool :=
  match code with
  | 0x0 => some false | 0x9 => some false | 0xB => some false | 0xD => some false
  | 0x1 => some true | 0xA => some true | 0xC => some true | 0xE => some true
  | _ => none

/-- A driver at a level. -/
def Drive.ofBit (b : Bool) : Drive := if b then .hi else .lo

/-- The drive edges of a pin code under a format, in order (R190): an edge's number and the state from it on. -/
def fmtEdges (fmt code : Nat) : List (Nat × Drive) :=
  match drives code with
  | some d =>
    (match fmt with
     | 0 => [(0, Drive.ofBit d)]
     | 1 => [(0, Drive.ofBit d), (1, .lo)]
     | 2 => [(0, Drive.ofBit d), (1, .hi)]
     | 3 => [(0, Drive.ofBit !d), (1, Drive.ofBit d), (2, Drive.ofBit !d)]
     | _ => [(0, Drive.ofBit d), (3, .off)])
  | none => if code = 0x7 ∨ code = 0xF then [] else [(0, .off)]

/-- The drive state of pin k of a list. -/
def driveOf (l : List Drive) (k : Nat) : Drive := l.getD k .off

/-- The bridge code of a pin (R197): the state it takes, from its own before. -/
def bridgeDrive (code : Nat) (before : Drive) : Drive :=
  match drives code with
  | some d => Drive.ofBit d
  | none => if code = 0x7 ∨ code = 0xF then before else .off

/-- The context whose bridge value tile t carries (R86, R112): in the dead time of a commit the one that was committing;
else the one that runs, or the last that ran. -/
def State.bridgeCtx (s : State) (t : Nat) : Option Nat :=
  match (s.tile t).item, (s.tile t).running with
  | .dead _ c, some _ => some c
  | _, some c => some c
  | _, none => (s.tile t).last

/-- Whether the high-voltage rails of group g are off (R199). -/
def State.hvOff (s : State) (g : Nat) : Bool := decide (6 ≤ g) && decide (s.get Reg.GLB_HV_CTRL_UP = 0)

/-- Whether the pins of group g are held high-impedance (R199): the rails are off, or have been since its last vector cycle
started. -/
def State.held (s : State) (g : Nat) : Bool := s.hvOff g || (s.group g).hz

/-- The bridge of pin k of group g (R197, R199): high-impedance with BR_MODE 0, the dead-time vector's code with
BR_MODE 1. -/
def State.pinBridge (s : State) (g k : Nat) (before : Drive) : Drive :=
  if s.held g then .off
  else match s.bridgeCtx (8 + g) with
  | none => .off
  | some c =>
    if s.get (Reg.CTX_CFG_BR_MODE c) = 1 then bridgeDrive (fieldOf (s.get (Reg.CTX_BRIDGE c)) (4 * k) 4) before else .off

/-- The drive state of pin k of group g at a position within the vector cycle (R189, R190, R199, R251). -/
def State.driveAt (s : State) (g : Nat) (v : VCyc) (k limit : Nat) : Drive :=
  if s.held g then .off
  else if v.poison then s.pinBridge g k (driveOf v.before k)
  else (fmtEdges (v.fmt k) (v.code k)).foldl (fun d e => if v.pos + v.edge k e.1 < limit then e.2 else d)
    (driveOf v.before k)

/-- What a compare expects of the pin (R189). -/
inductive Expect where
  | below | above | between
  deriving DecidableEq, Repr

/-- What the code of a pin compares, given the state that a keep code keeps; none for the other codes (R189). -/
def expects (code : Nat) (kept : Drive) : Option Expect :=
  match code with
  | 0x2 => some .below | 0x9 => some .below | 0xC => some .below
  | 0x3 => some .above | 0xA => some .above | 0xB => some .above
  | 0x4 => some .between | 0xD => some .between | 0xE => some .between
  | 0xF => some (match kept with
    | .lo => .below
    | .hi => .above
    | .off => .between)
  | _ => none

/-- The pin pipeline of group g in cc (R181). -/
def pinPipe (g : Nat) : Nat := if g < 6 then 36 else 44

/-- The instant at the pin of an edge at a position (R184), in fine steps of the model's count. -/
def State.pinInstant (s : State) (g k pos : Nat) : Nat :=
  pos + pinPipe g * Config.fine + s.active (Reg.PIN_DELAY g k)

/-- The timestamp of an instant (R2). -/
def State.tsOf (s : State) (x : Nat) : Ts := mkTs (s.sysTime (x / Config.fine)) (x % Config.fine)

/-- Whether a level in mV lies outside the window of group g's pins (R182). -/
def outOfWindow (g : Nat) (v : Int) : Bool :=
  if g < 6 then decide (v < -1000 ∨ 3300 < v) else decide (v < -25000 ∨ 40000 < v)

/-- A level in mV cut to the window of group g's pins (R179 ff., R182): wide pins are set in steps of 10 mV. -/
def clampLevel (g : Nat) (v : Int) : Int :=
  let c := fun (lo hi : Int) => if v < lo then lo else if hi < v then hi else v
  if g < 6 then c (-1000) 3300 else (c (-25000) 40000 + 5) / 10 * 10

/-- A level in force of a pin of group g (R182). -/
def State.level (s : State) (g : Nat) (f : Fld) : Int := clampLevel g (signedOf 18 (s.active f))

/-- The states of a pin's comparators at an instant: above CMP_LO, above CMP_HI. -/
def State.pinStates (s : State) (g k x : Nat) : Bool × Bool :=
  (Config.pinAbove (8 * g + k) (s.level g (Reg.PIN_CMP_LO g k)) x,
   Config.pinAbove (8 * g + k) (s.level g (Reg.PIN_CMP_HI g k)) x)

/-- Whether comparator states satisfy an expectation (R189). -/
def Expect.met (e : Expect) (q : Bool × Bool) : Bool :=
  match e with
  | .below => !q.1
  | .above => q.2
  | .between => q.1 && !q.2

/-- s with a fail on pin k of group g at an instant with timestamp ts, registered in cycle cyc: nothing where FAIL_MASK is
1 (R192, R96). -/
def State.pinFail (s : State) (g k cyc : Nat) (ts : Ts) : State :=
  if s.get (Reg.PIN_CFG g k) = 1 then s
  else (s.bump (Reg.PIN_FAIL_CNT g k)).occur (0x061 + (8 * g + k)) cyc ts

/-- GRP_VCYC of group g (R193). -/
def State.vcyc (s : State) (g : Nat) : Nat := s.get64 (Reg.GRP_VCYC_LO g) (Reg.GRP_VCYC_HI g)

/-- s with the failing vector cycle of group g that GRP_VCYC counts counted and logged (R192). -/
def State.groupFail (s0 : State) (g : Nat) (e : FailEnt) : State :=
  let s := s0.setGroup g { s0.group g with failAt := some (s0.vcyc g) }
  let s1 := (s.bump (Reg.GRP_FAIL_CNT g)).put (Reg.GRP_STATUS_FAIL g) 1
  let full := decide (s1.get (Reg.GRP_FLOG_WR_FILL g) = 1024)
  if full && decide (s1.active (Reg.GRP_CTRL_FLOG_STOP g) = 1) then s1.put (Reg.GRP_STATUS_FLOG_FULL g) 1
  else
    let n := s1.get (Reg.GRP_FLOG_WR_NEXT g)
    let s2 := if full then s1.put (Reg.GRP_STATUS_FLOG_WRAP g) 1
      else s1.put (Reg.GRP_FLOG_WR_FILL g) (s1.get (Reg.GRP_FLOG_WR_FILL g) + 1)
    (s2.setGroup g { s2.group g with flog := mins (s2.group g).flog n e }).put (Reg.GRP_FLOG_WR_NEXT g) ((n + 1) % 1024)

/-- s with a failing compare of the vector cycle that GRP_VCYC counts entered in the fail log of group g: a cycle that has
failed already takes the pin into its entry, where the log holds it, and the earlier timestamp (R192). -/
def State.failCycle (s : State) (g : Nat) (e : FailEnt) : State :=
  if (s.group g).failAt = some (s.vcyc g) then
    let n := (s.get (Reg.GRP_FLOG_WR_NEXT g) + 1023) % 1024
    match mfind (s.group g).flog n with
    | some y =>
      if y.vcyc = e.vcyc then
        s.setGroup g { s.group g with flog := mins (s.group g).flog n { y with
          pins := y.pins ||| e.pins, ts := (if e.ts.toNat < y.ts.toNat then e.ts else y.ts) } }
      else s
    | none => s
  else s.groupFail g e

/-- s with one bit shifted into matcher m of group g, and its source raised where R195 says so: cyc is the cycle of the
timestamp. -/
def State.matchShift (s : State) (g m : Nat) (bitv : Bool) (cyc : Nat) (ts : Ts) : State :=
  let x := s.group g
  let h := BitVec.ofNat 64 (2 * (mget (fun _ => 0) x.mhist m).toNat + bit bitv)
  let mask := BitVec.ofNat 64 (s.active64 (Reg.MATCH_MASK_LO g m) (Reg.MATCH_MASK_HI g m))
  let val := BitVec.ofNat 64 (s.active64 (Reg.MATCH_VAL_LO g m) (Reg.MATCH_VAL_HI g m))
  let hit := decide ((h ^^^ val) &&& mask = 0)
  let was := mget (fun _ => false) x.mmatch m
  let s1 := s.setGroup g { x with mhist := mset (fun _ => 0) x.mhist m h, mmatch := mset (fun _ => false) x.mmatch m hit }
  if hit && (!was || decide (s.active (Reg.MATCH_CFG_EDGE g m) = 1)) then
    s1.occur (0x021 + (8 * g + m)) (cyc + 16) ts
  else s1

/-- Whether matcher m of group g shifts on a pin code (R195). -/
def State.matchTakes (s : State) (g m k code : Nat) : Bool :=
  decide (s.active (Reg.MATCH_CFG_EN g m) = 1 ∧ s.active (Reg.MATCH_CFG_PIN g m) = k) &&
  (decide (s.active (Reg.MATCH_CFG_QUAL g m) = 0) || decide (code = 0x8) || (expects code .off).isSome)

/-- s with the matchers of group g that watch pin k shifted at its C0 instant. -/
def State.matchPin (s : State) (g k code : Nat) (q : Bool × Bool) (x : Nat) : State :=
  forUpto (fun s m =>
    if s.matchTakes g m k code then
      s.matchShift g m (if s.active (Reg.MATCH_CFG_THR g m) = 1 then q.2 else q.1) (x / Config.fine) (s.tsOf x)
    else s) 8 s

/-- Whether a compare passes (R191): at C0, or at every instant from C0 to C1. -/
def State.comparePasses (s : State) (g : Nat) (v : VCyc) (k : Nat) (e : Expect) : Bool :=
  let c0 := v.pos + v.cEdge k false
  if v.window k then
    (upto (v.cEdge k true - v.cEdge k false + 1)).all (fun i => e.met (s.pinStates g k (s.pinInstant g k (c0 + i))))
  else e.met (s.pinStates g k (s.pinInstant g k c0))

/-- s and the vector cycle v of group g with what falls on pin k from position from_ up to position limit: its compare or
sample, and the matchers' shifts, that of a window compare once the window has been evaluated (R191 to R196, R199). -/
def State.evalPin (s : State) (g : Nat) (v : VCyc) (k from_ limit : Nat) : State × VCyc :=
  let c0 := v.pos + v.cEdge k false
  let at_ := if v.window k then v.pos + v.cEdge k true else c0
  let code := v.code k
  let x := s.pinInstant g k c0
  let inC0 := decide (from_ ≤ c0 ∧ c0 < limit)
  let inAt := decide (from_ ≤ at_ ∧ at_ < limit)
  if v.poison then (s, v)
  else if s.held g then
    (s, if inAt && (expects code .off).isSome then { v with res := v.res + 3 * 4 ^ k } else v)
  else
    let q := s.pinStates g k x
    let s1 := if (if (expects code .off).isSome then inAt else inC0) then s.matchPin g k code q x else s
    match expects code (driveOf v.before k) with
    | none =>
      (s1, if inC0 && decide (code = 0x8) then { v with res := v.res + (bit q.1 + 2 * bit q.2) * 4 ^ k } else v)
    | some e =>
      if !inAt then (s1, v)
      else if s1.comparePasses g v k e then (s1, { v with res := v.res + 4 ^ k })
      else
        let s2 := s1.pinFail g k (x / Config.fine + 14) (s1.tsOf x)
        let v1 := { v with res := v.res + 2 * 4 ^ k }
        (s2, if s.get (Reg.PIN_CFG g k) = 1 then v1 else { v1 with
          fails := v1.fails + 2 ^ k
          failTs := (match v1.failTs with
            | none => some (s1.tsOf x)
            | some t => some (if (s1.tsOf x).toNat < t.toNat then s1.tsOf x else t)) })

/-- s and v with every pin of a list evaluated. -/
def State.evalPins (s : State) (g : Nat) (v : VCyc) (from_ limit : Nat) : List Nat → State × VCyc
  | [] => (s, v)
  | k :: ks =>
    let r := s.evalPin g v k from_ limit
    r.1.evalPins g r.2 from_ limit ks

/-- s with the vector cycle in progress of group g evaluated up to a position. -/
def State.evalVec (s : State) (g limit : Nat) : State :=
  match (s.group g).vc with
  | none => s
  | some v =>
    if limit ≤ v.evald then s
    else
      let r := s.evalPins g v v.evald limit (upto 8)
      r.1.setGroup g { r.1.group g with vc := some { r.2 with evald := limit } }

/-- s with the vector cycle in progress of group g ended at a position (R183, R196): its drive state kept, its fails
counted, its results recorded. -/
def State.endVec (s : State) (g limit : Nat) : State :=
  let s1 := s.evalVec g limit
  match (s1.group g).vc with
  | none => s1
  | some v =>
    let s2 := s1.setGroup g { s1.group g with vc := none, drive := (upto 8).map (fun k => s1.driveAt g v k limit) }
    let s3 := match v.failTs with
      | none => s2
      | some ts => s2.failCycle g ⟨ts, BitVec.ofNat 8 v.fails, v.tsel, v.bank, BitVec.ofNat 32 (s2.vcyc g)⟩
    if v.taken then
      let s4 := s3.recUnit (8 + g) v.res (s3.vcyc g) (s3.tsOf v.pos)
      match s4.recOf (8 + g) with
      | some r => if r.stopAt.isSome then s4.recEnd (8 + g) .ok else s4
      | none => s4
    else s3

/-- The rows of timing set n of group g. -/
def State.setRows (s : State) (g n : Nat) : SMap Word72 := (upto 25).map (fun r => (r, s.setRow g n r))

/-- s with a vector cycle of group g begun at a position: cycle half of a word (R29, R183, R193, R251). GRP_VCYC counts it
from its start, so the first cycle after a reset carries the tag 1 (DESIGN CHOICE, log 112). -/
def State.startVec (s : State) (g bank pos half : Nat) (word : Word72) (poison : Bool) : State :=
  let tsel := if poison then 0 else fieldOf word.toNat (64 + 4 * half) 4
  let codes := BitVec.ofNat 32 (fieldOf word.toNat (32 * half) 32)
  let s1 := s.put64 (Reg.GRP_VCYC_LO g) (Reg.GRP_VCYC_HI g) ((s.vcyc g + 1) % 2 ^ 64)
  let taken := match s1.recOf (8 + g) with
    | some r => !r.ended && r.stopAt.isNone
    | none => false
  let s2 := s1.setGroup g { s1.group g with
    hz := s1.hvOff g
    vc := some ⟨pos, codes, tsel, bank, s1.setRows g (16 * bank + tsel), (s1.group g).drive, poison, pos, 0, 0, none,
      taken⟩ }
  if s2.hvOff g && !poison && (upto 8).any (fun k => (drives (fieldOf codes.toNat (4 * k) 4)).isSome) then
    s2.put (Reg.GRP_STATUS_HVZ g) 1
  else s2

/-- s with a played word's poison counted (R251). -/
def State.poisonPlayed (s : State) : State := ((s.bump Reg.MEM_PPLAY_CNT).put Reg.MEM_STATUS_PPLAY 1).monMark 0x264

/-- s with the request for a word that group g plays, where it comes from memory and not from a landing (R243). -/
def State.fetchWord (s : State) (g sid w : Nat) : State :=
  if (s.tile (8 + g)).landing.isSome then s else s.lineUse sid (w / 7)

/-- s with tile 8 + g's word w of storage sid, which starts at pos, played up to a position: whether both its vector
cycles have started, and where the word ends. -/
def State.playVec (s : State) (g bank sid w pos limit : Nat) : State × Option Nat :=
  let word := s.readWord sid w
  let bad := s.poisoned sid w
  let p0 := s.period g (16 * bank + (if bad then 0 else fieldOf word.toNat 64 4))
  let s1 := match (s.group g).mid with
    | some _ => s
    | none =>
      if limit ≤ pos then s
      else
        let a := ((s.fetchWord g sid w).endVec g pos).startVec g bank pos 0 word bad
        let b := if bad then a.poisonPlayed else a
        b.setGroup g { b.group g with mid := some (pos + p0) }
  match (s1.group g).mid with
  | none => (s1, none)
  | some m =>
    if limit ≤ m then (s1, none)
    else
      let a := (s1.endVec g m).startVec g bank m 1 word bad
      (a.setGroup g { a.group g with mid := none },
       some (m + s1.period g (16 * bank + (if bad then 0 else fieldOf word.toNat 68 4))))

/-- The item of tile t after its word ended at a position: the next word, or the next repetition of a PLAYN. -/
def Item.nextWord (p : Nat) : Item → Item
  | .words h sid len f w reps _ =>
    if w + 1 < len then .words h sid len f (w + 1) reps p
    else match reps with
      | 0 => .words h sid len f len 0 p
      | r + 1 => .words h sid len f 0 r p
  | .stream h sid e n c b w _ ph => .stream h sid e n c b (w + 1) p ph
  | .user (.words sid w n :: ps) _ =>
    -- a stage resource's write among the parts (R187) stays first until it has acted
    if 1 < n then .user (.words sid (w + 1) (n - 1) :: ps) p else .user ps p
  | i => i

/-- The word of tile t's item that is next to start, as storage and offset, with its position: none when the item plays
no further word. -/
def State.itemWord (s : State) (t : Nat) : Option (Nat × Nat × Nat) :=
  match (s.tile t).item with
  | .words _ sid len _ w _ pos => if w < len then some (sid, w, pos) else none
  | .stream _ sid e _ _ b w pos ph =>
    if s.get (Reg.SLW_BLOCK e) ≤ w then none
    else match ph with
      | .playing =>
        if w = 0 && (s.group (t - 8)).mid.isNone && !s.blockReady sid e b pos then none
        else some (sid, b % (s.store sid).len + w, pos)
      | .replaying b' => some (sid, b' % (s.store sid).len + w, pos)
      | .held _ => none
  | .user (.words sid w n :: _) pos => if n = 0 then none else some (sid, w, pos)
  | _ => none

/-- s with the pins of tile t under the bridge (R197). -/
def State.bridgePins (s : State) (t : Nat) : State :=
  if t < 8 then s
  else s.setGroup (t - 8) { s.group (t - 8) with
    drive := (upto 8).map (fun k => s.pinBridge (t - 8) k (driveOf (s.group (t - 8)).drive k)) }

/-- s with the vector cycles of group g's item that start before a position begun, at most n words of them; an EMITted bridge
value applies from its start. -/
def State.patAdvance (s : State) (g limit : Nat) : Nat → State
  | 0 => s
  | n + 1 =>
    if (s.tile (8 + g)).gapAt.isSome then s
    else match s.itemWord (8 + g) with
      | none =>
        (match (s.tile (8 + g)).item with
         | .user (.hold cc :: ps) pos =>
           if limit ≤ pos then s
           else
             let s1 := (s.endVec g pos).bridgePins (8 + g)
             if pos + cc * Config.fine ≤ limit then
               (s1.setTile (8 + g) { s1.tile (8 + g) with item := .user ps (pos + cc * Config.fine) }).patAdvance g limit n
             else s1
         | _ => s)
      | some (sid, w, pos) =>
        match s.playVec g (s.bankOf (8 + g)) sid w pos limit with
        | (s1, none) => s1
        | (s1, some p) =>
          (s1.setTile (8 + g) { s1.tile (8 + g) with item := Item.nextWord p (s1.tile (8 + g)).item }).patAdvance g limit n

/-- Whether no word of tile t stands between its two vector cycles: always so on a waveform tile. -/
def State.midNone (s : State) (t : Nat) : Bool := decide (t < 8) || (s.group (t - 8)).mid.isNone

/-- s with tile t's vector timeline caught up to a position: a waveform tile has none. -/
def State.catchUp (s : State) (t limit : Nat) : State :=
  if t < 8 then s
  else
    let s1 := s.patAdvance (t - 8) limit (limit / 512 + 2)
    s1.evalVec (t - 8) limit

/-- s with the vector cycle in progress on tile t ended at a position (R196): what starts from there on is abandoned, and the
pins keep their drive states. -/
def State.stopVec (s : State) (t limit : Nat) : State :=
  if t < 8 then s
  else
    let s1 := (s.catchUp t limit).endVec (t - 8) limit
    s1.setGroup (t - 8) { s1.group (t - 8) with mid := none }

/-- s with tile t's vector timeline cut at a position (R113, R196): what starts from there on is abandoned, and the bridge
applies (R197). -/
def State.cutVec (s : State) (t limit : Nat) : State := (s.stopVec t limit).bridgePins t

/-- s with tile t's item over at a position: its last vector cycle ends there. -/
def State.closeVec (s : State) (t limit : Nat) : State :=
  if t < 8 then s
  else
    let s1 := s.catchUp t limit
    match (s1.group (t - 8)).vc with
    | none => s1
    | some v => if v.pos + v.period ≤ limit then s1.endVec (t - 8) (v.pos + v.period) else s1

/-- Which pins of group g drive on the timeline at the end of a cycle, bit k for pin k: none in the safe state (R198). -/
def State.drivingAt (s : State) (g limit : Nat) : Nat :=
  if !(s.group g).enabled || s.held g then 0
  else sumOf (fun k => (2 ^ k) * bit (decide ((match (s.group g).vc with
    | some v => s.driveAt g v k limit
    | none => driveOf (s.group g).drive k) ≠ .off))) (upto 8)

/-- s with the driving pins of group g at the end of this cycle noted, for as long as the pin pipeline holds them (R181). -/
def State.outNote (s : State) (g : Nat) : State :=
  s.setGroup g { s.group g with
    outs := s.drivingAt g ((s.now + 1) * Config.fine) :: (s.group g).outs.take (pinPipe g + 4) }

end Sys2Proof.Machine
end

