-- ==== Sys2Proof/Machine/SeqCore.lean ====
section
/-! DEFINITION. What every sequence instruction shares: its effect cycle, its checks, a fault, and the end of a context's
run (R57, R59, R60, R77, R80, R82). -/

namespace Sys2Proof.Machine

/-- The fault causes of R82. -/
inductive Cause where
  | refused | loopOvf | loopUnf | callOvf | callUnf | opcode | tileKind | operand | switch | poison | end_ | gap | late
  | micro | spin
  deriving DecidableEq, Repr

/-- The code of a fault cause (R82). -/
def Cause.code : Cause → Nat
  | .refused => 0x01 | .loopOvf => 0x02 | .loopUnf => 0x03 | .callOvf => 0x04 | .callUnf => 0x05 | .opcode => 0x06
  | .tileKind => 0x07 | .operand => 0x08 | .switch => 0x09 | .poison => 0x0A | .end_ => 0x0B | .gap => 0x0C
  | .late => 0x0D | .micro => 0x0E | .spin => 0x0F

/-! ## Underruns (R123) -/

/-- s with an underrun of entry e on tile t counted, timed and logged (R123, R393): the due cycle as its timestamp, SLW 1,
and the policy that handled it as its REASON. -/
def State.underrunLog (s : State) (t c e due reason : Nat) : State :=
  let s1 := (s.bump (Reg.SLW_UR_CNT e)).put64 (Reg.SLW_UR_TIME_LO e) (Reg.SLW_UR_TIME_HI e) (s.sysTime due)
  ((s1.put Reg.EVT_STATUS_UNDERRUN 1).monMark (0x223 + 4 * t)).logWrite ⟨s.tsAt due, e, t, 2, true, c, reason⟩

/-- Whether the block due on tile t is an underrun (R123): its table entry, due position and storage. -/
def State.underrunAt (s : State) (t : Nat) : Option (Nat × Nat × Nat) :=
  match (s.tile t).item with
  | .stream _ sid e _ _ b w pos .playing =>
    if w = 0 && s.midNone t && !s.blockReady sid e b pos then some (e, pos, sid) else none
  | _ => none

/-- s with an underrun that the end of a run in its due cycle finds not dealt with counted and logged (R92, R129): it is not acted
on. -/
def State.underrunSeen (s : State) (t c : Nat) : State :=
  match s.underrunAt t with
  | some (e, pos, _) =>
    if posCycle pos ≤ s.now ∧ (s.tile t).heldDue ≠ some (posCycle pos) then s.underrunLog t c e (posCycle pos) 0x11 else s
  | none => s

/-! ## The end of a run -/

/-- s with the run of context c on tile t ended in state st: the tile plays no context, and the MARK override ends (R78). -/
def State.endRun (s : State) (t c : Nat) (st : CtxState) : State :=
  let s1 := s.setCtx c { s.ctx c with st := st }
  s1.setTile t { s1.tile t with
    running := none, last := some c, leftAt := some s.now, item := .idle, gapAt := none, mark0 := 0, mark1 := 0, landing := none,
    divert := none, diverting := none, blockDone := false, sureAt := none, afterRun := none,
    micro := { (s1.tile t).micro with upc := none, due := [], wait := none } }

/-- s with the run of context c on tile t ended in state st at this cycle, outside the planned path: what was to play is
abandoned, what was resolved is given up, and slots that nothing holds any more are released. -/
def State.leave (s : State) (t c : Nat) (st : CtxState) : State :=
  let s1 := ((s.underrunSeen t c).cutVec t (s.now * Config.fine)).endRun t c st
  (s1.setTile t { s1.tile t with spin := 0, ahead := none }).gcSlots t

/-! ## Stepped routines (R141) -/

/-- Steps of the user routine in progress on tile t whose checkpoint cycle lies before n (R141), with those it was entered
with. -/
def State.microSteps (s : State) (t n : Nat) : Nat :=
  (s.tile t).micro.k0 + countIf (fun a => decide ((s.tile t).micro.eff + a < n)) (s.tile t).micro.cks

/-- Whether the user routine in progress on tile t is a stepped one (R141). -/
def State.microStepped (s : State) (t : Nat) : Bool := (s.tile t).micro.cks.any (fun a => decide (a ≠ 0))

/-- Whether a user routine is in progress on tile t at cycle n. -/
def State.userOn (s : State) (t n : Nat) : Bool :=
  (s.tile t).micro.upc.isSome ||
  (match (s.tile t).item with
   | .user parts pos => decide (n * Config.fine < s.partsEnd t (s.bankOf t) parts pos)
   | _ => false)

/-- Whether a stepped routine is in progress on tile t at an interruption at cycle n, and its applied steps (R141). -/
def State.stepped (s : State) (t n : Nat) : Option Nat :=
  match (s.tile t).item with
  | .ramp _ steps _ _ k next => if k = steps ∧ next ≤ n then none else some k
  | _ => if s.microStepped t && s.userOn t n then some (s.microSteps t n) else none

/-- s with a fault of context c on tile t (R82): the context is Faulted, CTX_FAULT and SEQ_FAULT hold the cause and
status, and SEQ_STATUS.FAULT is set. A stepped routine of which a step has applied sets PARTIAL (R141). -/
def State.faultCtx (s : State) (t c : Nat) (cause : Cause) (sts : Sts) : State :=
  let s0 := if 0 < (s.stepped t s.now).getD 0 then s.put (Reg.SEQ_STATUS_PARTIAL t) 1 else s
  let s1 := s0.setCtx c { s0.ctx c with cause := cause.code, sts := sts.code }
  let s2 := ((s1.put (Reg.SEQ_FAULT_CTX t) c).put (Reg.SEQ_FAULT_CAUSE t) cause.code).put (Reg.SEQ_FAULT_STS t) sts.code
  (s2.put (Reg.SEQ_STATUS_FAULT t) 1).leave t c .faulted

/-! ## Timed items (R58, R65) -/

/-- The duration in whole cc for which condition 2 of R65 counts an item that ends at a position: 64 for a WAIT. -/
def TileSt.countedCc (x : TileSt) (pos : Nat) : Nat :=
  match x.item with
  | .wait _ _ _ => 64
  | _ => (pos - x.itemAt) / Config.fine

/-- x with its timed item over at a position. -/
def TileSt.closed (x : TileSt) (pos : Nat) : TileSt :=
  if x.item = .idle then { x with nextPos := pos }
  else { x with item := .idle, nextPos := pos, spin := 0, between := 0, lastCc := x.countedCc pos, lastOk := x.itemOk,
                rcFrom := none, blockDone := false }

/-- s with the timed item of tile t ended at position pos. -/
def State.closeItem (s : State) (t pos : Nat) : State :=
  let s1 := s.closeVec t pos
  s1.setTile t ((s1.tile t).closed pos)

/-- x with a timed item begun at its position: ok says whether it meets condition 1 of R65. -/
def TileSt.timed (x : TileSt) (it : Item) (ok : Bool) : TileSt :=
  { x with item := it, spin := 0, itemAt := x.nextPos, itemOk := ok, rcFrom := none, blockDone := false }

/-- s with a timed item begun on tile t that plays no word of its own. -/
def State.setItem (s : State) (t : Nat) (it : Item) : State := s.setTile t ((s.tile t).timed it true)

/-- Whether the transition to an item that meets condition 1 of R65 where ok says so, and counts as n instructions, is
seamless (R63, R65): the items on both sides are long enough, and the instructions fit into the item before. Words that a
COUNT arm's commit had resolved again are sure from 1,024 cc on (DEDUCED, log 125). -/
def TileSt.smooth (x : TileSt) (ok : Bool) (n : Nat) : Bool :=
  x.lastOk && ok && decide (x.between + n ≤ x.lastCc) && x.afterRun.isNone &&
  (match x.reres with
   | some c => decide (c + Config.lead ≤ posCycle x.nextPos)
   | none => true)

/-- x with the first word of an item at its position: it cannot be late after a seamless transition, and not after a landed
run of at least 1,024 cc (R112). -/
def TileSt.firstWord (x : TileSt) (ok : Bool) (n : Nat) : TileSt :=
  { x with sureAt := (if x.afterRun = some true || x.smooth ok n then some x.nextPos else none), afterRun := none }

/-- x with n words of the landed run in play begun at its position, of an item from which ends gives the end of a number of
words (R105, R112): the words of the item beyond the run follow it. -/
def TileSt.landWords (x : TileSt) (i left n : Nat) (ends : Nat → Nat) : TileSt :=
  if n < left then { x with landing := some (i, left - n), sureAt := none, afterRun := none }
  else
    let u := ends left
    let long := decide (x.landUntil + Config.lead * Config.fine ≤ u)
    { x with
      landing := some (i, 0), landUntil := u
      sureAt := (if left < n ∧ long then some u else none)
      afterRun := (if n = left then some long else none) }

/-- s with an item of words begun on tile t at its position, at word w with reps repetitions to follow, each of which begins
at word first (R65, R67): a short segment's later repetitions play from the repeat cache. -/
def State.playWords (s : State) (t h sid len first w reps : Nat) : State :=
  let x := s.tile t
  let pos := x.nextPos
  let n := (len - w) + reps * len
  let cached := decide (0 < reps ∧ len < 64)
  let ends := fun m => s.wordsEnd t (s.bankOf t) sid len w m pos
  let landed := match x.landing with
    | some (_, left) => decide (0 < left)
    | none => false
  let ok := decide (64 ≤ n) && !cached || landed
  let y := match x.landing with
    | some (i, left) => if 0 < left then x.landWords i left n ends else x.firstWord ok 1
    | none => x.firstWord ok 1
  s.setTile t { y.timed (.words h sid len first w reps pos) (ok || cached) with
    rcFrom := (if cached then some (ends (len - w)) else none)
    rcache := (if cached then some (sid, len) else x.rcache) }

/-- s with one block after another of a slipway begun on tile t: the first word after a landed run is sure where its block
is complete (R112). -/
def State.playBlocks (s : State) (t : Nat) (it : Item) : State :=
  let x := s.tile t
  s.setTile t { (x.firstWord true 1).timed it true with
    sureAt := (if x.afterRun.isSome || x.smooth true 1 then some x.nextPos else none) }

/-! ## One instruction -/

/-- s with one more instruction of no duration counted on tile t (R59, R65). -/
def State.addSpin (s : State) (t : Nat) : State :=
  s.setTile t { s.tile t with spin := (s.tile t).spin + 1, between := (s.tile t).between + 1 }

/-- s with the PC of context c at a (R68). -/
def State.setPc (s : State) (c : Nat) (a : Addr) : State := s.setCtx c { s.ctx c with pc := a, pos := .fresh }

/-- s with the PC of context c at the next word of its segment (R68). -/
def State.nextPc (s : State) (c : Nat) : State := s.setPc c (s.ctx c).pc.next

/-- Whether the instruction that comes next on tile t is the 4,096th of no duration in a row (R59): neither a timed item nor a
HALT that ends the context. -/
def State.spins (s : State) (t c op : Nat) (ops : BitVec 66) : Bool :=
  decide (4095 ≤ (s.tile t).spin) && !timedOp op && !(decide (op = 0x01) && s.holds c (opCond ops))

/-- The check of one instruction before its operands take effect, in this order: the PC past the end of its segment (R68),
its line poisoned (R82), the 4,096th of no duration in a row, which has no effect of its own (R59), no routine (R143), an
opcode not valid on the tile (R77), reserved bits and operands (R60). -/
def State.instrFault (s : State) (t c op : Nat) (ops : BitVec 66) : Option (Cause × Sts) :=
  let pc := (s.ctx c).pc
  if (s.store pc.sid).len ≤ pc.off then some (.end_, .range)
  else if s.poisoned pc.sid pc.off then some (.poison, .poison)
  else if s.spins t c op ops then some (.spin, .range)
  else if s.get (Reg.MC_DISPATCH_VALID t op) = 0 then some (.opcode, .precond)
  else if wrongKind t op then some (.tileKind, .precond)
  else if operandFault t op ops then some (.operand, .range)
  else none

/-- The own effect f of an instruction of context c on tile t, or its fault, at effect cycle e: s1 is the tile with the item
before it over. What run-ahead has resolved of it is taken, and an instruction of no duration is counted (R59). -/
def State.takeInstr (s1 : State) (t c e op : Nat) (ops : BitVec 66) (f : State → Nat → Nat → Option Landing → State) :
    State :=
  match s1.instrFault t c op ops with
  | some (k, st) => s1.faultCtx t c k st
  | none =>
    let s2 := s1.popAhead t c
    f (if timedOp op then s2 else s2.addSpin t) c e ((s1.resolvedAt t c).bind (fun r => r.land))

/-- One instruction on tile t at its effect cycle e, which has come: nothing while the tile runs no context or its item has
no known end. A fault ends the last vector cycle of a pattern tile at the effect cycle (R196). -/
def State.instr (s : State) (t op : Nat) (ops : BitVec 66) (f : State → Nat → Nat → Option Landing → State) : State :=
  match (s.tile t).running, s.itemEnd t with
  | some c, some p =>
    if (s.tile t).micro.upc.isSome then s else
    let e := posCycle p
    if s.now < e then s else
    let u := (s.closeItem t p).takeInstr t c e op ops f
    if 8 ≤ t ∧ (u.tile t).running = none ∧ (u.ctx c).st = .faulted then
      let s1 := s.stopVec t (e * Config.fine)
      (s1.setTile t ((s1.tile t).closed p)).takeInstr t c e op ops f
    else u
  | _, _ => s

/-- f where condition code cc holds for context c; otherwise the instruction takes effect as NOP (R62). -/
def State.ifCond (s : State) (c : Nat) (ops : BitVec 66) (f : State → State) : State :=
  if s.holds c (opCond ops) then f s else s.nextPc c

/-- A reference by an instruction: refused, it faults the context with cause REFUSED (R40, R82). -/
def State.orRefuse {α : Type} (s : State) (t c : Nat) (r : Except Sts α) (f : α → State) : State :=
  match r with
  | .error e => s.faultCtx t c .refused e
  | .ok a => f a

/-- s with the slot of a DIVERT handler taken for a STREAM of context c that plays on (R126): with none to be had, its
underruns are handled as under HOLD (DEDUCED, log 114). -/
def State.retakeHandler (s : State) (t c : Nat) : State :=
  let q := s.landHandler t c
  match q.2 with
  | .slot i => q.1.setTile t { q.1.tile t with divert := some i }
  | _ => s

/-- s with context c running on tile t from position pos, at the point it recorded (R81, R88, R110): inside an item, the
item plays on from pos. -/
def State.enter (s : State) (t c pos : Nat) : State :=
  let x := s.ctx c
  let s1 := s.setCtx c { x with
    st := .running
    played := (if x.st = .running then x.played else [])
    pos := (match x.pos with
      | .words _ _ _ _ _ _ => .fresh
      | .block _ _ _ _ _ _ _ => .fresh
      | p => p) }
  let s2 := s1.setTile t { s1.tile t with running := some c, nextPos := pos, item := .idle, ran := true }
  match x.pos with
  | .words h sid len f w reps => s2.playWords t h sid len f w reps
  | .block h sid e n b w counted => (s2.playBlocks t (.stream h sid e n counted b w pos .playing)).retakeHandler t c
  | _ => s2

/-- x about to begin a path that no timed item precedes: at a start, or at a commit (R65, R88, R112). -/
def TileSt.fresh (x : TileSt) : TileSt :=
  { x with lastCc := 0, lastOk := false, between := 0, sureAt := none, reres := none, rcFrom := none, blockDone := false }

end Sys2Proof.Machine
end

