-- ==== Sys2Proof/Machine/SeqInstr.lean ====
section
/-! DEFINITION. The sequence instructions of the play and control families (R64 to R82, R100): one meaning an opcode. -/

namespace Sys2Proof.Machine

/-- NOP (R80). -/
def execNop (t : Tile) (ops : BitVec 66) (s : State) : Host.Outcome State Fault Refusal :=
  .next (s.instr t 0x00 ops fun s c _ _ => s.nextPc c)

/-- HALT (R80): the context becomes Halted at its effect cycle. -/
def execHalt (t : Tile) (ops : BitVec 66) (s : State) : Host.Outcome State Fault Refusal :=
  .next (s.instr t 0x01 ops fun s c _ _ => s.ifCond c ops fun s => (s.nextPc c).leave t c .halted)

/-- PLAY (R67). -/
def execPlay (t : Tile) (ops : BitVec 66) (s : State) : Host.Outcome State Fault Refusal :=
  .next (s.instr t 0x02 ops fun s c _ _ =>
    s.orRefuse t c (s.refPlay t (opHandle ops) (opOffset ops)) fun r =>
      (s.nextPc c).playWords t (opHandle ops) r.1 r.2.len (opOffset ops) (opOffset ops) 0)

/-- PLAYN (R67): the whole segment COUNT times. -/
def execPlayn (t : Tile) (ops : BitVec 66) (s : State) : Host.Outcome State Fault Refusal :=
  .next (s.instr t 0x03 ops fun s c _ _ =>
    s.orRefuse t c (s.refPlay t (opHandle ops) 0) fun r =>
      (s.nextPc c).playWords t (opHandle ops) r.1 r.2.len 0 0 (opBits ops 0 32 - 1))

/-- LOOP (R69): pushes a loop-stack entry; a ninth faults with LOOP_OVF. -/
def execLoop (t : Tile) (ops : BitVec 66) (s : State) : Host.Outcome State Fault Refusal :=
  .next (s.instr t 0x04 ops fun s c _ _ =>
    let x := s.ctx c
    if 8 ≤ x.loops.length then s.faultCtx t c .loopOvf .range
    else
      (s.setCtx c { x with loops := loopEntry x.pc ops :: x.loops }).nextPc c)

/-- The loop-stack depth below which the context may not pop: that recorded in the top call-stack entry (R69, R71). -/
def Ctx.loopFloor (x : Ctx) : Nat := Sys2Proof.Machine.loopFloor x.calls

/-- ENDLOOP (R69): decrements the top entry and branches back, or pops it. -/
def execEndloop (t : Tile) (ops : BitVec 66) (s : State) : Host.Outcome State Fault Refusal :=
  .next (s.instr t 0x05 ops fun s c _ _ =>
    let x := s.ctx c
    match x.loops with
    | [] => s.faultCtx t c .loopUnf .range
    | l :: ls =>
      if x.loops.length ≤ x.loopFloor then s.faultCtx t c .loopUnf .range
      else if l.forever then s.setPc c l.start
      else if 1 < l.left then (s.setCtx c { x with loops := { l with left := l.left - 1 } :: ls }).setPc c l.start
      else (s.setCtx c { x with loops := ls }).nextPc c)

/-- CALL (R70): pushes a call-stack entry and continues at TGT. -/
def execCall (t : Tile) (ops : BitVec 66) (s : State) : Host.Outcome State Fault Refusal :=
  .next (s.instr t 0x06 ops fun s c _ _ => s.ifCond c ops fun s =>
    let x := s.ctx c
    if 16 ≤ x.calls.length then s.faultCtx t c .callOvf .range
    else
      s.orRefuse t c (s.refTarget t (opHandle ops) (opOffset ops)) fun a =>
        (s.setCtx c { x with calls := ⟨x.pc.next, .fresh, x.loops.length⟩ :: x.calls }).setPc c a)

/-- RET (R70): pops the top entry, truncates the loop stack and continues at the recorded address, or inside the item in
which the resume point lies (R110, R142). A return into a segment that is not a program is refused (R68). -/
def execRet (t : Tile) (ops : BitVec 66) (s : State) : Host.Outcome State Fault Refusal :=
  .next (s.instr t 0x07 ops fun s c e _ => s.ifCond c ops fun s =>
    let x := s.ctx c
    match x.calls with
    | [] => s.faultCtx t c .callUnf .range
    | k :: ks =>
      if (s.store k.ret.sid).kind ≠ .program then s.faultCtx t c .refused .precond
      else
        let s1 := s.setCtx c { x with calls := ks, loops := cutTo k.depth x.loops, pc := k.ret, pos := k.pos }
        match k.pos with
        | .words _ _ _ _ _ _ => s1.enter t c (s.tile t).nextPos
        | .block _ _ _ _ _ _ _ => s1.enter t c (s.tile t).nextPos
        | _ => s1.setTile t { s1.tile t with nextPos := Nat.max (s1.tile t).nextPos (e * Config.fine) })

/-- JUMP (R71): discards POP loop entries and continues at TGT. -/
def execJump (t : Tile) (ops : BitVec 66) (s : State) : Host.Outcome State Fault Refusal :=
  .next (s.instr t 0x08 ops fun s c _ _ => s.ifCond c ops fun s =>
    let x := s.ctx c
    let pop := opBits ops 58 4
    if 8 < pop ∨ x.loops.length - x.loopFloor < pop then s.faultCtx t c .loopUnf .range
    else
      s.orRefuse t c (s.refTarget t (opHandle ops) (opOffset ops)) fun a =>
        (s.setCtx c { x with loops := x.loops.drop pop }).setPc c a)

/-- A record cleared: no longer in force and without a slot. Its other fields keep what they held (DESIGN CHOICE, log 112: the
spec does not say what they read), and it counts as written once more. -/
def ArmRec.cleared (a : ArmRec) : ArmRec := { a with valid := false, slot := none, gen := a.gen + 1 }

/-- The record that an ARM word writes (R100): its number of writes and its slot are given. -/
def armRecord (ops : BitVec 66) (gen : Nat) (slot : Option Nat) : ArmRec :=
  let act := armAct (opBits ops 56 3)
  ⟨true, opBits ops 46 10, act, if act = .goto ∨ act = .call then opBits ops 22 24 else 0, opBits ops 0 22,
    decide (opBits ops 65 1 = 1), decide (opBits ops 64 1 = 1), slot, 0, gen⟩

/-- s with arm record k of context c holding a record, which a SWITCH lands afresh where the target's resume point has
changed since it was resolved (R105). -/
def State.putArm (s : State) (t c k : Nat) (a : ArmRec) : State :=
  let s1 := s.setCtx c ((s.ctx c).setArm k a)
  (if a.act = .switch then s1.relandSwitch t c k else s1).gcSlots t

/-- s with arm record k of context c written as what resolving the ARM has found says: the slot was taken before the old one
is released (R100, R103); an ARM that is refused faults the context with cause REFUSED, and no record is written. -/
def State.armWrite (s : State) (t c k : Nat) (ops : BitVec 66) (l : Landing) : State :=
  let g := ((s.ctx c).arm k).gen + 1
  match l with
  | .refused e => s.faultCtx t c .refused e
  | .free => s.putArm t c k (armRecord ops g none)
  | .slot i => s.putArm t c k (armRecord ops g (some i))

/-- ARM (R100, R103): one that run-ahead has not resolved is resolved now. -/
def execArm (t : Tile) (ops : BitVec 66) (s : State) : Host.Outcome State Fault Refusal :=
  .next (s.instr t 0x09 ops fun s c _ l =>
    let q := match l with
      | some l => (s, l)
      | none => s.landArm t ops
    let s1 := q.1.armWrite t c (opBits ops 59 3) ops q.2
    if (s1.ctx c).st = .running then s1.nextPc c else s1)

/-- s with arm record k of context c cleared, or all eight (R100). -/
def State.disarm (s : State) (t c k : Nat) (all : Bool) : State :=
  let x := s.ctx c
  let x1 := if all then { x with arms := mmap (fun _ a => a.cleared) x.arms } else
    (if (x.arm k).valid then x.setArm k (x.arm k).cleared else x)
  (s.setCtx c x1).gcSlots t

/-- DISARM (R100). -/
def execDisarm (t : Tile) (ops : BitVec 66) (s : State) : Host.Outcome State Fault Refusal :=
  .next (s.instr t 0x0A ops fun s c _ _ => (s.disarm t c (opBits ops 59 3) (decide (opBits ops 65 1 = 1))).nextPc c)

/-- The cycle up to which a WAIT for event n with its effect at cycle e lasts, where a registration at or after e has come:
the word after it leaves 64 cc later, L + D (R72). -/
def State.waitEnds (s : State) (n e : Nat) : Option Nat :=
  match (s.lastReg n).cyc with
  | some r => if e ≤ r then some (r + Config.L + Config.D) else none
  | none => none

/-- s with a WAIT of tile t for event n begun at cycle e: the bridge value holds until its release (R72, R197). -/
def State.beginWait (s : State) (t n e : Nat) : State := (s.bridgePins t).setItem t (.wait n e (s.waitEnds n e))

/-- WAIT (R72): the bridge value holds until the first registration of EVT at or after the effect cycle. -/
def execWait (t : Tile) (ops : BitVec 66) (s : State) : Host.Outcome State Fault Refusal :=
  .next (s.instr t 0x0B ops fun s c e _ => (s.nextPc c).beginWait t (opBits ops 0 10) e)

/-- The last strobe of group g, as a cycle; key 16 is the sync pulse (R73, R322). -/
def State.lastStrobe (s : State) (g : Nat) : Option Nat := mfind s.evt.strobes g

/-- The first strobe of group g at or after cycle e that has already come. -/
def State.strobeSince (s : State) (g e : Nat) : Option Nat :=
  match s.lastStrobe g with
  | some n => if e ≤ n then some n else none
  | none => none

/-- The target cycle of a SYNC with its effect at cycle e, when it is known (R73). -/
def State.syncTarget (s : State) (mode arg e : Nat) : Option Nat :=
  match mode with
  | 0 => s.strobeSince 16 e
  | 1 =>
    if s.sysTime e ≤ arg then some (e + (arg - s.sysTime e)) else some (e - (s.sysTime e - arg))
  | 2 => some (e + arg)
  | _ => s.strobeSince arg e

/-- The operand of a SYNC, by its mode (R61). -/
def syncArg (ops : BitVec 66) : Nat :=
  match opBits ops 62 2 with
  | 0 => 0
  | 1 => opBits ops 0 62
  | 2 => opBits ops 0 42
  | _ => opBits ops 0 4

/-- s with a SYNC of tile t begun at cycle e: the bridge value holds until its target cycle (R73, R197). -/
def State.beginSync (s : State) (t mode arg e : Nat) (tgt : Option Nat) : State :=
  (s.bridgePins t).setItem t (.sync mode arg e tgt)

/-- SYNC (R73). Entered again under R110, it keeps its target cycle. -/
def execSync (t : Tile) (ops : BitVec 66) (s : State) : Host.Outcome State Fault Refusal :=
  .next (s.instr t 0x0C ops fun s c e _ =>
    let mode := opBits ops 62 2
    let tgt :=
      match (s.ctx c).pos with
      | .sync (some n) _ => some n
      | .sync none since => s.syncTarget mode (syncArg ops) since
      | _ => s.syncTarget mode (syncArg ops) e
    (s.nextPc c).beginSync t mode (syncArg ops) e tgt)

/-- s with a late SYNC of context c on tile t recorded (R73). -/
def State.lateSync (s : State) (t : Nat) : State :=
  (s.put (Reg.SEQ_STATUS_LATE t) 1).bump (Reg.SEQ_LATE_CNT t)

/-- SYNC_RELEASE (R73): the SYNC's target cycle, or its effect cycle when the target lies before it; then LATE_FAULT
faults the context in place of the release. -/
def execSyncRelease (t : Tile) (s : State) : Host.Outcome State Fault Refusal :=
  .next (match (s.tile t).running, (s.tile t).item with
    | some c, .sync _ _ since (some n) =>
      if s.now < n then s
      else if since ≤ n then s.closeItem t (n * Config.fine)
      else
        let s1 := s.lateSync t
        if s1.active (Reg.SEQ_CTRL_LATE_FAULT t) = 1 then
          (s1.setPc c { (s1.ctx c).pc with off := (s1.ctx c).pc.off - 1 }).faultCtx t c .late .range
        else s1.closeItem t (since * Config.fine)
    | _, _ => s)

/-- SETTS (R76): BANK becomes the active timing bank of the context that plays. -/
def execSetts (t : Tile) (ops : BitVec 66) (s : State) : Host.Outcome State Fault Refusal :=
  .next (s.instr t 0x0D ops fun s c _ _ => (s.setCtx c { s.ctx c with tsBank := opBits ops 0 1 }).nextPc c)

/-- The NCO frequency word of channel w at the play point (R163). -/
def State.ftw (s : State) (w : Nat) : Nat := s.get64 (Reg.NCO_FTW_ACT_LO w) (Reg.NCO_FTW_ACT_HI w)

/-- The phase of slot 0 of cycle e before any command of that cycle: it advances by FTW a slot unless the clocks are
gated (R164, R167). -/
def State.phaseOf (s : State) (w e : Nat) : Nat :=
  let x := s.wave w
  if x.phaseHeld then x.phase.toNat
  else (x.phase.toNat + s.ftw w * s.slots * (e - x.phaseAt)) % 2 ^ 48

/-- φ_last of R165 for a command with effect cycle e: the phase of the last slot before e, or the result of an earlier
command of the same cycle. -/
def State.phaseLast (s : State) (w e : Nat) : Nat :=
  if (s.wave w).phaseAt = e then (s.wave w).phase.toNat
  else (s.phaseOf w e + 2 ^ 48 - s.ftw w % 2 ^ 48) % 2 ^ 48

/-- s with φ(e, 0) of channel w set. -/
def State.setPhase (s : State) (w e v : Nat) : State :=
  s.setWave w { s.wave w with phase := BitVec.ofNat 48 v, phaseAt := e }

/-- s with the NCO frequency word of channel w replaced at cycle e: φ(e, 0) = φ_last + FTW (R165). -/
def State.setFtw (s : State) (w e v : Nat) : State :=
  (s.setPhase w e (s.phaseLast w e + v)).put64 (Reg.NCO_FTW_ACT_LO w) (Reg.NCO_FTW_ACT_HI w) (v % 2 ^ 48)

/-- The programmed reset phase of channel w (R165). -/
def State.rstPhase (s : State) (w : Nat) : Nat := s.active64 (Reg.NCO_RST_PH_LO w) (Reg.NCO_RST_PH_HI w)

/-- SETF (R74, R165). -/
def execSetf (t : Tile) (ops : BitVec 66) (s : State) : Host.Outcome State Fault Refusal :=
  .next (s.instr t 0x0E ops fun s c e _ =>
    let s1 := s.setFtw t e (opBits ops 0 48)
    (if opBits ops 65 1 = 1 then s1.setPhase t e (s1.rstPhase t) else s1).nextPc c)

/-- SETPH (R74, R165). -/
def execSetph (t : Tile) (ops : BitVec 66) (s : State) : Host.Outcome State Fault Refusal :=
  .next (s.instr t 0x0F ops fun s c e _ =>
    (if opBits ops 65 1 = 1 then s.setPhase t e (opBits ops 0 48)
     else s.setPhase t e (s.phaseLast t e + s.ftw t + opBits ops 0 48)).nextPc c)

/-- RAMP (R75): STEPS changes at intervals of DWELL; entered again, it skips the steps already applied (R142). -/
def execRamp (t : Tile) (ops : BitVec 66) (s : State) : Host.Outcome State Fault Refusal :=
  .next (s.instr t 0x10 ops fun s c e _ =>
    let k := match (s.ctx c).pos with
      | .steps k => k
      | _ => 0
    (s.nextPc c).setItem t (.ramp (opBits ops 60 2) (opBits ops 44 16) (opBits ops 28 16) (opBits ops 0 28) k e))

/-- s with one step of a RAMP applied to channel w at cycle e (R75, R162): frequency, amplitude or offset. -/
def State.rampApply (s : State) (w e target delta : Nat) : State :=
  match target with
  | 0 => s.setFtw w e (unsignedOf 48 ((s.ftw w : Int) + signedOf 28 delta * 2 ^ 20))
  | 1 =>
    let v := (s.get (Reg.WAV_GAIN_ACT w) : Int) + signedOf 28 delta
    s.put (Reg.WAV_GAIN_ACT w) (if v < 0 then 0 else Nat.min v.toNat 0xFFFFFFF)
  | _ =>
    s.put (Reg.WAV_OFFSET_ACT w)
      (unsignedOf 28 (clampSigned 28 (signedOf 28 (s.get (Reg.WAV_OFFSET_ACT w)) + signedOf 28 delta)))

/-- RAMP_STEP (R75): the step that is due applies DELTA; the next falls due DWELL cc later. -/
def execRampStep (t : Tile) (s : State) : Host.Outcome State Fault Refusal :=
  .next (match (s.tile t).item with
    | .ramp target steps dwell delta k next =>
      if k < steps ∧ next ≤ s.now then
        (s.rampApply t next target delta).setTile t
          { s.tile t with item := .ramp target steps dwell delta (k + 1) (next + dwell) }
      else s
    | _ => s)

/-- MARK (R78): TAG and the effect cycle are recorded; on a waveform tile the marker override is set. -/
def execMark (t : Tile) (ops : BitVec 66) (s : State) : Host.Outcome State Fault Refusal :=
  .next (s.instr t 0x11 ops fun s c e _ =>
    let s1 := (s.put (Reg.SEQ_MARK_TAG t) (opBits ops 0 32)).put64 (Reg.SEQ_MARK_TS_LO t) (Reg.SEQ_MARK_TS_HI t)
      (s.sysTime e)
    (if t.val < 8 then s1.setTile t { s1.tile t with mark0 := opBits ops 32 2, mark1 := opBits ops 34 2 }
     else s1).nextPc c)

/-- SWITCH (R81): hands the tile to context CTX. The transition is planned: no bridge comes between, drive states hold, and
the instructions of no duration count on (R59, R65, R190). -/
def execSwitch (t : Tile) (ops : BitVec 66) (s : State) : Host.Outcome State Fault Refusal :=
  .next (s.instr t 0x13 ops fun s c _ _ =>
    let d := opBits ops 0 10
    if s.get (Reg.CTX_CFG_BIND d) ≠ t.val then s.faultCtx t c .switch .precond
    else if (s.ctx d).st ≠ .ready ∧ (s.ctx d).st ≠ .paused then s.faultCtx t c .switch .state
    else
      let p := (s.tile t).nextPos
      let s1 := (s.nextPc c).endRun t c (if opBits ops 65 1 = 1 then .halted else .paused)
      (s1.enter t d p).refillSwitch t c)

/-- SIGNAL (R79): raises sequencer SIGNAL source SIG at its effect cycle. -/
def execSignal (t : Tile) (ops : BitVec 66) (s : State) : Host.Outcome State Fault Refusal :=
  .next (s.instr t 0x14 ops fun s c e _ => s.ifCond c ops fun s =>
    (s.occur (0x0B5 + opBits ops 0 6) e (s.tsAt e)).nextPc c)

/-- COUNT (R64): adds VALUE to the counter CTR, or sets it. -/
def execCount (t : Tile) (ops : BitVec 66) (s : State) : Host.Outcome State Fault Refusal :=
  .next (s.instr t 0x15 ops fun s c _ _ =>
    let i := opBits ops 32 1
    (s.setCnt c i (if opBits ops 64 2 = 1 then opBits ops 0 32 else (s.cnt c i + opBits ops 0 32) % 2 ^ 32)).nextPc c)

/-- SPIN_FAULT (R59): with 4,095 instructions of no duration resolved in a row, the next of them faults the context. -/
def execSpinFault (t : Tile) (s : State) : Host.Outcome State Fault Refusal :=
  .next (match (s.tile t).running with
    | some c => if 4095 ≤ (s.tile t).spin then s.faultCtx t c .spin .range else s
    | none => s)

/-! ## Gaps (R65, R66, R112) -/

/-- The parts of a user routine on tile t that are left at a position, and where their first begins. -/
def State.partsFrom (s : State) (t bank limit : Nat) : List Part → Nat → List Part × Nat
  | [], pos => ([], pos)
  | .words sid w n :: ps, pos =>
    let r := s.playedTo t bank sid (w + n) w 0 pos limit
    if w + n ≤ r.2.1 then s.partsFrom t bank limit ps (s.playEnd t bank sid (w + n) w 0 pos)
    else (.words sid r.2.1 (w + n - r.2.1) :: ps, r.2.2)
  | .hold cc :: ps, pos =>
    if pos + cc * Config.fine ≤ limit then s.partsFrom t bank limit ps (pos + cc * Config.fine) else (.hold cc :: ps, pos)
  | .setr r v :: ps, pos => (.setr r v :: ps, pos)

/-- An item of words at repetitions, word and position, with a next word: the first of the next repetition where this one is
over. -/
def wordsAt (h sid len f : Nat) (r : Nat × Nat × Nat) : Option (Item × Nat) :=
  if r.2.1 < len then some (.words h sid len f r.2.1 r.1 r.2.2, r.2.2)
  else match r.1 with
    | 0 => none
    | k + 1 => some (.words h sid len f 0 k r.2.2, r.2.2)

/-- The block in play of a STREAM at the word that comes at or after a position: first is the offset at which the block
begins. -/
def State.blockAt (s : State) (t first e w pos limit sid : Nat) : Nat × Nat :=
  let r := s.playedTo t (s.bankOf t) sid (first + s.blockLen e) (first + w) 0 pos limit
  (r.2.1 - first, r.2.2)

/-- The item of tile t as it stands at the first word that comes at or after a position, and that word's position (R57): none
where no word comes. -/
def State.itemAtWord (s : State) (t limit : Nat) : Option (Item × Nat) :=
  match (s.tile t).item with
  | .words h sid len f w reps pos => wordsAt h sid len f (s.playedTo t (s.bankOf t) sid len w reps pos limit)
  | .stream h sid e n counted b w pos .playing =>
    if w = 0 && decide (limit ≤ pos) && !s.blockReady sid e b pos then none
    else
      let r := s.blockAt t (b % (s.store sid).len) e w pos limit sid
      if r.1 < s.blockLen e then some (.stream h sid e n counted b r.1 r.2 .playing, r.2) else none
  | .stream h sid e n counted b w pos (.replaying b') =>
    let r := s.blockAt t (b' % (s.store sid).len) e w pos limit sid
    if r.1 < s.blockLen e then some (.stream h sid e n counted b r.1 r.2 (.replaying b'), r.2) else none
  | .user parts pos =>
    (match s.partsFrom t (s.bankOf t) limit parts pos with
     | (.words sid w n :: ps, p) => some (.user (.words sid w n :: ps) p, p)
     | _ => none)
  | _ => none

/-- Whether a word of tile t due at a position is at the tile whatever the memory does (R65, R105, R112): a word that
TileSt.sureAt names, a word of a landed run, or a word that the repeat cache plays. -/
def TileSt.sure (x : TileSt) (pos : Nat) : Bool :=
  decide (x.sureAt = some pos) ||
  (match x.landing with
   | some (_, left) => decide (0 < left ∨ pos < x.landUntil)
   | none => false) ||
  (match x.rcFrom with
   | some p => decide (p ≤ pos)
   | none => false)

/-- The word of tile t that is due in this cycle and may be late (R66): the item as it stands at it, and its position. -/
def State.lateWord (s : State) (t : Nat) : Option (Item × Nat) :=
  match s.itemAtWord t (s.now * Config.fine) with
  | some (it, p) => if posCycle p ≤ s.now ∧ !(s.tile t).sure p then some (it, p) else none
  | none => none

/-- s with a gap on tile t counted (R66). -/
def State.countGap (s : State) (t : Nat) : State :=
  ((s.bump (Reg.SEQ_GAP_CNT t)).put (Reg.SEQ_STATUS_GAP t) 1).monMark (0x222 + 4 * t)

/-- GAP (R66): the word due in this cycle is not at the tile. It is counted, and the bridge value plays until the word
arrives; with GAP_FAULT set the context faults at this cycle, in which the word was due. Where no word is due, or the word
cannot be late (R65, R112), nothing happens. -/
def execGap (t : Tile) (s : State) : Host.Outcome State Fault Refusal :=
  .next (match (s.tile t).running, (s.tile t).gapAt, s.lateWord t with
    | some c, none, some (it, p) =>
      let s1 := s.countGap t
      if s1.active (Reg.SEQ_CTRL_GAP_FAULT t) = 1 then s1.faultCtx t c .gap .state
      else
        let s2 := (s1.stopVec t p).bridgePins t
        s2.setTile t { s2.tile t with gapAt := some s.now, item := it }
    | _, _, _ => s)

/-- An item of words whose next word leaves at a position. -/
def Item.moved (pos : Nat) : Item → Item
  | .words h sid len f w reps _ => .words h sid len f w reps pos
  | .stream h sid e k c b w _ ph => .stream h sid e k c b w pos ph
  | .user parts _ => .user parts pos
  | i => i

/-- m with its routine's effect cycle, and the changes that wait, n cc later. -/
def Micro.later (n : Nat) (m : Micro) : Micro := { m with eff := m.eff + n, due := m.due.map (fun p => (p.1 + n, p.2)) }

/-- GAP_END (R66): the late word leaves now, at fine step 0 on a pattern tile (R183), and every later effect cycle moves back
by the length of the gap. -/
def execGapEnd (t : Tile) (s : State) : Host.Outcome State Fault Refusal :=
  .next (match (s.tile t).gapAt, s.itemAtWord t 0 with
    | some d, some (_, p) =>
      let x := s.tile t
      let pos := s.now * Config.fine
      s.setTile t { x with
        gapAt := none, item := x.item.moved pos, itemAt := x.itemAt + (pos - p), rcFrom := x.rcFrom.map (fun q => q + (pos - p))
        micro := x.micro.later (s.now - d) }
    | some _, none => s.setTile t { s.tile t with gapAt := none }
    | none, _ => s)

end Sys2Proof.Machine
end

