-- ==== Sys2Proof/Machine/Commit.lean ====
section
/-! DEFINITION. Catches, resume points and commits (R107 to R113, R127, R141). -/

namespace Sys2Proof.Machine

/-- s with the loss of a catch on tile t logged: KIND 1, with the timestamp of the registration that was caught (R99,
R393). -/
def State.logLoss (s : State) (t : Nat) (k : Catch) (reason : Nat) : State :=
  s.logWrite ⟨k.ts, k.evt, t, 1, false, k.c, reason⟩

/-- s with a catch on tile t dropped: logged, and counted in LND_LOST_CNT (R108). -/
def State.dropCatch (s : State) (t : Nat) (k : Catch) (reason : Nat) : State :=
  (((s.logLoss t k reason).bump (Reg.LND_LOST_CNT t)).put Reg.EVT_STATUS_LOST 1).monMark (0x221 + 4 * t)

/-- s with every catch of tile t that p selects dropped for a reason. -/
def State.dropCatches (s : State) (t : Nat) (p : Catch → Bool) (reason : Nat) : State :=
  let s1 := s.setTile t { s.tile t with catches := (s.tile t).catches.filter (fun k => !p k) }
  forEach (fun s k => if p k then s.dropCatch t k reason else s) (s.tile t).catches s1

/-- Why a catch does not commit at its cycle, if it does not (R108): its record cleared or rewritten, its context not
Running, its SWITCH target not Ready or Paused, or bound to another tile by now (R11). -/
def State.dropReason (s : State) (t : Nat) (k : Catch) : Option Nat :=
  let a := (s.ctx k.c).arm k.k
  if !a.valid || a.gen ≠ k.gen then some 0x02
  else if (s.tile t).running ≠ some k.c then some 0x03
  else if a.act = .switch ∧
      ((s.ctx a.off).st ≠ .ready ∧ (s.ctx a.off).st ≠ .paused ∨ s.get (Reg.CTX_CFG_BIND a.off) ≠ t) then some 0x05
  else none

/-- The earliest commit cycle of a list of catches. -/
def firstAt : List Catch → Option Nat
  | [] => none
  | k :: ks =>
    match firstAt ks with
    | none => some k.at_
    | some n => some (Nat.min k.at_ n)

/-- The catch with the lowest event number of a list; of one number, the lowest record. -/
def lowestEvt : List Catch → Option Catch
  | [] => none
  | k :: ks =>
    match lowestEvt ks with
    | none => some k
    | some j => if k.evt ≤ j.evt then some k else some j

/-- The catches of tile t for their earliest commit cycle, and that cycle. -/
def State.catchesNow (s : State) (t : Nat) : Option (Nat × List Catch) :=
  (firstAt (s.tile t).catches).map (fun c => (c, (s.tile t).catches.filter (fun k => decide (k.at_ = c))))

/-- The catch of a list that commits (R108): of those that are not dropped, the one with the lowest event number. -/
def State.winner (s : State) (t : Nat) (l : List Catch) : Option Catch :=
  lowestEvt (l.filter (fun k => (s.dropReason t k).isNone))

/-- s with those catches of a list dropped that R108 drops before they commit. -/
def State.dropStale (s : State) (t : Nat) (l : List Catch) : State :=
  forEach (fun s1 k =>
    match s.dropReason t k with
    | some r => s1.dropCatches t (fun j => decide (j = k)) r
    | none => s1) l s

/-- s with the catches of tile t settled at their earliest commit cycle c, once it has come: those that R108 drops are
dropped, and of the others the one with the lowest event number is the one that commits, if act names its action; then the
rest are dropped with REASON 0x01. -/
def State.settle (s : State) (t : Nat) (act : ArmAct) : State × Option Catch :=
  match s.catchesNow t with
  | none => (s, none)
  | some (c, here) =>
    if s.now < c then (s, none) else
    match s.winner t here with
    | none => (s.dropStale t here, none)
    | some k =>
      if ((s.ctx k.c).arm k.k).act = act then
        let s1 := s.dropStale t here
        let s2 := s1.setTile t { s1.tile t with catches := (s1.tile t).catches.filter (fun j => decide (j ≠ k)) }
        ((s2.dropCatches t (fun j => decide (j.at_ = c)) 0x01).monMark (0x220 + 4 * t), some k)
      else (s, none)

/-- s with the catches of tile t dropped that yield to a COUNT catch of their commit cycle, which stays: it commits after the
instructions of the cycle (R64, R108). -/
def State.yieldCatches (s : State) (t : Nat) : State :=
  match s.catchesNow t with
  | none => s
  | some (c, here) =>
    match s.winner t here with
    | none => s
    | some k => (s.dropStale t here).dropCatches t (fun j => decide (j.at_ = c ∧ j ≠ k)) 0x01

/-- The word of a block that is due at or after cycle c, the block being at word w at position pos. -/
def State.blockTo (s : State) (t sid e b w pos c : Nat) : Nat :=
  (s.blockAt t (b % (s.store sid).len) e w pos (c * Config.fine) sid).1

/-- The resume point in an item of words that plays at a position (R110): with RESUME 0 the word due there, with RESUME 1 the
first word of the item, or of the current repetition; the next instruction where no word is due. -/
def State.resumeWords (s : State) (t bank : Nat) (pc : Addr) (h sid len f w reps pos limit : Nat) (rewind : Bool) :
    Addr × Pos :=
  if s.playEnd t bank sid len w reps pos ≤ limit then (pc, .fresh)
  else
    let r := s.playedTo t bank sid len w reps pos limit
    if rewind then (pc, .words h sid len f f r.1)
    else match wordsAt h sid len f r with
      | some (.words _ _ _ _ w' k _, _) => (pc, .words h sid len f w' k)
      | _ => (pc, .fresh)

/-- The resume point in a STREAM (R110, R127): in its block, or at the next block where the last word of this one has left;
the next instruction where that was the last. -/
def State.resumeBlock (s : State) (t : Nat) (pc : Addr) (h sid e cnt counted b w pos : Nat) (ph : BlockPhase)
    (limit : Nat) (rewind : Bool) : Addr × Pos :=
  if (s.tile t).blockDone then
    if cnt ≠ 0 ∧ cnt ≤ counted then (pc, .fresh)
    else (pc, .block h sid e cnt (if ph = .playing then b + s.blockLen e else b) 0 counted)
  else match ph with
    | .playing => (pc, .block h sid e cnt b (if rewind then 0 else s.blockTo t sid e b w pos limit) counted)
    | _ => (pc, .block h sid e cnt b 0 counted)

/-- The cycle up to which the words due have left a tile at cycle n: within a gap, the cycle at which it began (R66). -/
def TileSt.playedCycle (x : TileSt) (n : Nat) : Nat :=
  match x.gapAt with
  | some d => Nat.min d n
  | none => n

/-- The resume point of the context c that runs on tile t, for an interruption at cycle n (R110): in the item that
plays, at the WAIT or SYNC in progress, at the stepped routine in progress, or at the next instruction. -/
def State.resumePoint (s : State) (t c n : Nat) (rewind : Bool) : Addr × Pos :=
  let x := s.ctx c
  let m := (s.tile t).playedCycle n
  let routine := (x.pc.prev, if s.microStepped t then Pos.steps (s.microSteps t n) else .fresh)
  if (s.tile t).micro.upc.isSome then routine
  else match (s.tile t).item with
  | .words h sid len f w reps pos => s.resumeWords t x.tsBank x.pc h sid len f w reps pos (m * Config.fine) rewind
  | .wait _ _ _ => (x.pc.prev, .fresh)
  | .sync _ _ since tgt => (x.pc.prev, .sync tgt since)
  | .ramp _ steps _ _ k next => if k = steps ∧ next ≤ n then (x.pc, .fresh) else (x.pc.prev, .steps k)
  | .stream h sid e cnt counted b w pos ph => s.resumeBlock t x.pc h sid e cnt counted b w pos ph m rewind
  | .runaway => (x.pc.prev, .fresh)
  | .user parts pos => if s.partsEnd t x.tsBank parts pos ≤ m * Config.fine then (x.pc, .fresh) else routine
  | _ => (x.pc, x.pos)

/-- The opcode of the instruction before the PC of context c. -/
def State.lastOp (s : State) (c : Nat) : Nat :=
  fieldOf (s.readWord (s.ctx c).pc.sid (s.ctx c).pc.prev.off).toNat 66 6

/-- s with an interruption at cycle n of a stepped routine of context c recorded (R141): SEQ_RESUME holds the steps, and
an abandonment after at least one step sets PARTIAL. -/
def State.interrupted (s : State) (t c n : Nat) (abandons : Bool) : State :=
  match s.stepped t n with
  | none => s
  | some k =>
    let s1 := ((s.put (Reg.SEQ_RESUME_CTX t) c).put (Reg.SEQ_RESUME_OPC t) (s.lastOp c)).put (Reg.SEQ_RESUME_STEP t) k
    if abandons ∧ 0 < k then s1.put (Reg.SEQ_STATUS_PARTIAL t) 1 else s1

/-- s with the block that has begun on tile t by cycle n consumed: RD moves past it (R127). -/
def State.consumeBlock (s : State) (t n : Nat) : State :=
  match (s.tile t).item with
  | .stream _ sid e _ _ b w pos .playing =>
    if (s.tile t).blockDone || (w = 0 && decide (n * Config.fine ≤ pos) && s.midNone t) || !s.blockReady sid e b pos then s
    else s.setStore sid { s.store sid with rd := Nat.max (s.store sid).rd (b + s.blockLen e) }
  | _ => s

/-- s with record k of context c fired: counted, and cleared unless PERSIST is 1 (R106, R109). -/
def State.fire (s : State) (k : Catch) : State :=
  let x := s.ctx k.c
  let a := x.arm k.k
  let a1 := { a with fired := satAdd32 a.fired 1 }
  s.setCtx k.c (x.setArm k.k (if a.persist then a1 else a1.cleared))

/-- The words of the landed run that a slot of tile t holds. -/
def TileSt.runWords (x : TileSt) (slot : Option Nat) : Option (Nat × Nat) :=
  match slot with
  | none => none
  | some i => (mfind x.slots i).map (fun y => (i, rangeWords y.run.words))

/-- s with tile t in the dead time of a commit of context c at cycle n: its bridge value holds until n + D, from where the
landed run of a slot plays (R112); the path in force is abandoned, and run-ahead begins along the new one (R104). -/
def State.startDead (s0 : State) (t c n : Nat) (slot : Option Nat) : State :=
  let s := s0.cutVec t (n * Config.fine)
  let x := s.tile t
  let run := x.runWords slot
  s.setTile t { x.fresh with
    item := .dead (n + Config.D) c, nextPos := (n + Config.D) * Config.fine, gapAt := none, spin := 0
    landing := run, landUntil := (n + Config.D) * Config.fine
    afterRun := (if (run.getD (0, 0)).2 = 0 then some false else none)
    divert := none, diverting := none, ahead := none
    micro := { x.micro with upc := none, due := [], wait := none } }

/-- COMMIT_GOTO (R109, R111): the stacks stay, the resume point is discarded, and the context continues at the target. -/
def execCommitGoto (t : Tile) (s : State) : Host.Outcome State Fault Refusal :=
  .next (match s.settle t .goto with
    | (s1, none) => s1
    | (s1, some k) =>
      let a := (s1.ctx k.c).arm k.k
      let s2 := (((s1.interrupted t k.c k.at_ true).consumeBlock t k.at_).fire k).startDead t k.c k.at_ a.slot
      let sid := match s2.seg a.h with
        | some g => g.sid
        | none => 0
      (s2.setPc k.c ⟨a.h, sid, a.off⟩).gcSlots t)

/-- s with a CALL commit's entry pushed and the context at its target (R111); with 16 entries already present the
context faults with CALL_OVF. -/
def State.commitCallTo (s : State) (t c n : Nat) (rewind : Bool) (h off : Nat) (slot : Option Nat) : State :=
  let r := s.resumePoint t c n rewind
  let x := s.ctx c
  let s1 := s.interrupted t c n false
  let s2 := s1.setCtx c { x with calls := ⟨r.1, r.2, x.loops.length⟩ :: x.calls }
  let sid := match s2.seg h with
    | some g => g.sid
    | none => 0
  ((s2.startDead t c n slot).setPc c ⟨h, sid, off⟩).gcSlots t

/-- COMMIT_CALL (R111). -/
def execCommitCall (t : Tile) (s : State) : Host.Outcome State Fault Refusal :=
  .next (match s.settle t .call with
    | (s1, none) => s1
    | (s1, some k) =>
      let a := (s1.ctx k.c).arm k.k
      if 16 ≤ (s1.ctx k.c).calls.length then
        ((s1.fire k).logLoss t k 0x07).faultCtx t k.c .callOvf .range
      else (s1.fire k).commitCallTo t k.c k.at_ a.rewind a.h a.off a.slot)

/-- s with context c of tile t paused at a resume point; a stepped routine that a SWITCH interrupts is abandoned, and the
context resumes after it (R111, R141). -/
def State.pauseAt (s : State) (t c n : Nat) (rewind abandon : Bool) : State :=
  let r := s.resumePoint t c n rewind
  let r := match r.2 with
    | .steps _ => if abandon then ((s.ctx c).pc, Pos.fresh) else r
    | _ => r
  let s1 := s.interrupted t c n abandon
  let s2 := s1.setCtx c { s1.ctx c with pc := r.1, pos := r.2 }
  ((s2.cutVec t (n * Config.fine)).leave t c .paused).refillSwitch t c

/-- COMMIT_SWITCH (R111, R112): the context becomes Paused at the resume point, and the target runs after the committing
context's bridge. -/
def execCommitSwitch (t : Tile) (s : State) : Host.Outcome State Fault Refusal :=
  .next (match s.settle t .switch with
    | (s1, none) => s1
    | (s1, some k) =>
      let a := (s1.ctx k.c).arm k.k
      let s2 := s1.pauseAt t k.c k.at_ a.rewind true
      let s3 := s2.startDead t k.c k.at_ a.slot
      let s4 := s3.setCtx a.off { s3.ctx a.off with st := .running, played := [] }
      ((s4.setTile t { s4.tile t with running := some a.off, ran := true }).fire k).gcSlots t)

/-- COMMIT_STOP (R111): the context becomes Halted. -/
def execCommitStop (t : Tile) (s : State) : Host.Outcome State Fault Refusal :=
  .next (match s.settle t .stop with
    | (s1, none) => s1
    | (s1, some k) =>
      (((s1.interrupted t k.c k.at_ true).consumeBlock t k.at_).fire k).leave t k.c .halted)

/-- s with the path that tile t has resolved for context c resolved again where a counter's change leads it elsewhere, from
the first instruction on that does not lie on the new path (R63). -/
def State.reresolve (s : State) (t c : Nat) : State :=
  match (s.tile t).ahead with
  | none => s
  | some a =>
    let b := s.replay t a.led (s.aheadSeed t c)
    if b.led.length = a.led.length then s.setAhead t (some b)
    else (s.setTile t { s.tile t with ahead := some b, reres := some s.now }).gcSlots t

/-- COMMIT_COUNT (R63, R109): adds 1 to the counter named, modulo 2^32, and abandons nothing. -/
def execCommitCount (t : Tile) (s : State) : Host.Outcome State Fault Refusal :=
  .next (match s.settle t .count with
    | (s1, none) => s1
    | (s1, some k) =>
      let a := (s1.ctx k.c).arm k.k
      let i := a.off % 2
      ((s1.fire k).setCnt k.c i ((s1.cnt k.c i + 1) % 2 ^ 32)).reresolve t k.c)

/-- The cycle from which the fill of a slot may run: when it was requested, and 1,024 cc after the fill before it (R104). -/
def TileSt.fillFrom (x : TileSt) (y : Slot) : Nat :=
  match x.lastFill with
  | none => y.since
  | some n => Nat.max y.since (n + 1024)

/-- The first slot of tile t that waits for its fill, with the cycle from which that fill may run (R104). -/
def State.fillNext (s : State) (t : Nat) : Option (Nat × Slot × Nat) :=
  let x := s.tile t
  match x.fillQ.filter (fun i => match mfind x.slots i with
      | some y => y.started.isNone
      | none => false) with
  | [] => none
  | i :: _ =>
    match mfind x.slots i with
    | none => none
    | some y => some (i, y, x.fillFrom y)

/-- The fill of tile t that has started first and has not completed, with the cycle by which it completes (R104). -/
def State.fillOpen (s : State) (t : Nat) : Option (Nat × Slot × Nat) :=
  let x := s.tile t
  match x.fillQ.filter (fun i => match mfind x.slots i with
      | some y => y.started.isSome && y.filled.isNone
      | none => false) with
  | [] => none
  | i :: _ =>
    match mfind x.slots i with
    | some ⟨run, since, some n, f⟩ => some (i, ⟨run, since, some n, f⟩, n + 2048)
    | _ => none

/-- LANDING_FILL_START (R104): the fill requested first starts, unless a fill of the tile started less than 1,024 cc
before. -/
def execLandingFillStart (t : Tile) (s : State) : Host.Outcome State Fault Refusal :=
  .next (match s.fillNext t with
    | none => s
    | some (i, y, n) =>
      if s.now < n then s
      else s.setTile t { s.tile t with
        slots := mins (s.tile t).slots i { y with started := some s.now }, lastFill := some s.now })

/-- s with the requests for the words and the instructions of a landed run (R104, R243). -/
def State.runUse (s : State) (r : LRun) : State :=
  forEach (fun s q => s.lineUse q.1 (q.2 / 7)) r.instrs (forEach (fun s q => s.wordsUse q.1 q.2.1 q.2.2) r.words s)

/-- LANDING_FILL_COMPLETE (R104): the fill that started first completes, at the latest 2,048 cc after its start; its arms
respond from now on. -/
def execLandingFillComplete (t : Tile) (s : State) : Host.Outcome State Fault Refusal :=
  .next (match s.fillOpen t with
    | none => s
    | some (i, y, n) =>
      (s.runUse y.run).setTile t { s.tile t with
        slots := mins (s.tile t).slots i { y with filled := some (Nat.min s.now n) }
        fillQ := (s.tile t).fillQ.filter (fun j => decide (j ≠ i)) })

end Sys2Proof.Machine
end

