-- ==== Sys2Proof/Machine/Outputs.lean ====
section
/-! DEFINITION. The safe state of the outputs (R15): the output switch of a waveform channel and the drivers of a pin
group, their latching conditions and LIVE_N (R175, R176, R198, R200). -/

namespace Sys2Proof.Machine

/-- FORCE_SAFE of the output that tile t drives. -/
def forceSafeFld (t : Nat) : Fld := if t < 8 then Reg.WAV_CTRL_FORCE_SAFE t else Reg.GRP_CTRL_FORCE_SAFE (t - 8)

/-- Whether a latching condition holds the output of tile t in its safe state (R175, R198). -/
def State.heldSafe (s : State) (t : Nat) : Bool :=
  (s.latches t).reset || s.pw.rstN || (s.latches t).gated || (s.latches t).power || (s.latches t).cal || (s.latches t).absent ||
  decide (s.get (forceSafeFld t) = 1)

/-- s with the output of tile t in its safe state: the switch open, or the drivers off (R15). -/
def State.openOutput (s : State) (t : Nat) : State :=
  if t < 8 then s.setWave t { s.wave t with closed := false }
  else s.setGroup (t - 8) { s.group (t - 8) with enabled := false, drive := GrpSt.init.drive }

/-- s with the output of tile t out of its safe state, if no latching condition holds and a context runs on t: the
switch is let close, which a range-change mute puts off (R175, R176, R198). -/
def State.closeOutput (s : State) (t : Nat) : State :=
  if s.heldSafe t || (s.tile t).running.isNone then s
  else if t < 8 then s.setWave t { s.wave t with closed := true }
  else s.setGroup (t - 8) { s.group (t - 8) with enabled := true }

/-- s with the latching conditions of tile t's output changed by f: the output opens where one now holds. -/
def State.latchOn (s : State) (t : Nat) (f : Latches → Latches) : State :=
  (s.setLatches t (f (s.latches t))).openOutput t

/-- s with a latching condition of tile t's output ended: the output closes in this cycle if a context runs (R177). -/
def State.latchOff (s : State) (t : Nat) (f : Latches → Latches) : State :=
  (s.setLatches t (f (s.latches t))).closeOutput t

/-! ## CLK_OUT (R15, R268) -/

/-- Whether CLK_OUT runs: enabled, its clock not gated, and nothing holding it in its safe state. -/
def State.clkOutOn (s : State) : Bool :=
  decide (s.get Reg.CLK_STATUS_GATED = 0 ∧ s.active Reg.CLK_OUT_CFG_EN = 1) && !s.pw.rstN &&
  !(s.clk.outSafe.reset || s.clk.outSafe.gated || s.clk.outSafe.power || s.clk.outSafe.absent)

/-- The first rising edge of CLK_OUT after position p, at its divider and delay. -/
def ClkOut.nextEdge (o : ClkOut) (p : Nat) : Nat :=
  let a := o.edge + o.delay
  if p < a then a else a + ((p - a) / (64 * o.div) + 1) * (64 * o.div)

/-- Whether CLK_OUT is high at position p: for ⌈DIV / 2⌉ root periods from each rising edge. -/
def ClkOut.high (o : ClkOut) (p : Nat) : Bool :=
  let a := o.edge + o.delay
  let e := a + (p - a) / (64 * o.div) * (64 * o.div)
  decide (a ≤ p ∧ o.from_ ≤ e ∧ p < e + 64 * ceilDiv o.div 2)

/-- CLK_OUT as it runs at position p. -/
def ClkSt.outAt (x : ClkSt) (p : Nat) : Option ClkOut :=
  match x.outNext with
  | some n => if n.from_ ≤ p then some n else x.out
  | none => x.out

/-- Whether CLK_OUT is high at position p, in fine steps: held at 0 V it is not (R15). -/
def State.clkOutHigh (s : State) (p : Nat) : Bool :=
  match s.clk.outAt p with
  | some o => o.high p
  | none => false

/-- CLK_OUT o given a divider and a delay at position p: they take effect at its next rising edge, from which its edges count
anew (DEDUCED, log 124); none where they are its own. A delay that would bring an edge before that one gives none there. -/
def ClkOut.retune (o : ClkOut) (p div delay : Nat) : Option ClkOut :=
  if o.div = div ∧ o.delay = delay then none else some ⟨div, delay, o.nextEdge p, o.nextEdge p - o.delay⟩

/-- s with CLK_OUT as its enable, its gating, its safe state and its settings have it from now on. -/
def State.judgeOut (s : State) : State :=
  let div := s.active Reg.CLK_OUT_CFG_DIV
  let delay := s.active Reg.CLK_OUT_CFG_DELAY
  let p := s.now * Config.fine
  if !s.clkOutOn then { s with clk := { s.clk with out := none, outNext := none } }
  else match s.clk.outAt p with
    | none => { s with clk := { s.clk with out := some ⟨div, delay, p, p⟩, outNext := none } }
    | some o => { s with clk := { s.clk with out := some o, outNext := o.retune p div delay } }

/-- s with f applied to what holds CLK_OUT in its safe state. -/
def State.latchOut (s : State) (f : Latches → Latches) : State :=
  { s with clk := { s.clk with outSafe := f s.clk.outSafe } }.judgeOut

/-! ## Every output -/

/-- s with f applied to the latching conditions of every output, which goes safe. -/
def State.latchAll (s : State) (f : Latches → Latches) : State := (forUpto (fun s t => s.latchOn t f) 16 s).latchOut f

/-- s with a latching condition ended on every output. -/
def State.unlatchAll (s : State) (f : Latches → Latches) : State := (forUpto (fun s t => s.latchOff t f) 16 s).latchOut f

/-- s with every output in its safe state (R15). -/
def State.allSafe (s : State) : State := forUpto (fun s t => s.openOutput t) 16 s

/-- Whether the output switch of channel w is closed (R175, R176). -/
def State.switchClosed (s : State) (w : Nat) : Bool := (s.wave w).closed && (s.wave w).muteUntil.isNone

/-- Whether LIVE_N of a connector is pulled low (R200): second is PINS-B. -/
def State.live (s : State) (second : Bool) : Bool :=
  let b := if second then 4 else 0
  decide (s.get Reg.GLB_STATE_LISTED = 1) &&
  (upto 4).all (fun i => !s.heldSafe (8 + b + i)) && (upto 4).all (fun i => (s.group (b + i)).enabled) &&
  decide (s.get (Reg.GRP_CTRL_LIVE_HOLD b) = 0)

end Sys2Proof.Machine
end

