-- ==== Sys2Proof/Machine/Stream.lean ====
section
/-! DEFINITION. Slipways and STREAM (R119 to R127). -/

namespace Sys2Proof.Machine

/-- s with the STREAM's handler slot as resolving the STREAM has found it, or the refusal (R126). -/
def State.useHandler (s : State) (t : Nat) : Landing → Except Sts State
  | .refused e => .error e
  | .free => .ok s
  | .slot i => .ok (s.setTile t { s.tile t with divert := some i })

/-- STREAM (R119, R122, R126): plays BLOCKS counted blocks of the slipway in ring order, from RD. Under DIVERT, one that
run-ahead has not resolved takes the handler's slot now. -/
def execStream (t : Tile) (ops : BitVec 66) (s : State) : Host.Outcome State Fault Refusal :=
  .next (s.instr t 0x12 ops fun s c _ l =>
    s.orRefuse t c (s.refStream t c (opHandle ops)) fun r =>
      let q := match l with
        | some l => (s, l)
        | none => s.landHandler t c
      q.1.orRefuse t c (q.1.useHandler t q.2) fun s1 =>
        (s1.nextPc c).playBlocks t
          (.stream (opHandle ops) r.1 r.2 (opBits ops 0 32) 0 (s1.store r.1).rd 0 (s1.tile t).nextPos .playing))

/-- The position at which the block in play on tile t ends (R122): none while the output holds. -/
def State.blockEnd (s : State) (t : Nat) : Option Nat :=
  match (s.tile t).item with
  | .stream _ sid e _ _ b w pos .playing =>
    if w = 0 && s.midNone t && !s.blockReady sid e b pos then none
    else
      let first := b % (s.store sid).len
      if t < 8 then some (pos + (s.blockLen e - w) * s.wordFine t)
      else some (s.playEnd t (s.bankOf t) sid (first + s.blockLen e) (first + w) 0 pos)
  | .stream _ sid e _ _ _ w pos (.replaying b') =>
    let first := b' % (s.store sid).len
    if t < 8 then some (pos + (s.blockLen e - w) * s.wordFine t)
    else some (s.playEnd t (s.bankOf t) sid (first + s.blockLen e) (first + w) 0 pos)
  | _ => none

/-- s with the current STREAM of tile t over at a position: the next instruction takes effect there, or at the next whole
cycle on a waveform tile. -/
def State.streamOver (s : State) (t pos : Nat) : State :=
  let p := if t < 8 then ceilDiv pos Config.fine * Config.fine else pos
  let s1 := s.closeItem t p
  (s1.setTile t { s1.tile t with divert := none }).gcSlots t

/-- Whether a repeated block counts (R125): the innermost open loop entry of context c has RPT 1. -/
def State.repeatCounts (s : State) (c : Nat) : Bool :=
  match (s.ctx c).loops with
  | [] => false
  | l :: _ => l.rpt && decide ((s.ctx c).loopFloor < (s.ctx c).loops.length)

/-- s with block b of storage sid noted as the last that context c played of that slipway (R123). -/
def State.notePlayed (s : State) (c sid b : Nat) : State :=
  let x := s.ctx c
  s.setCtx c { x with played := (sid, b) :: x.played.filter (fun p => decide (p.1 ≠ sid)) }

/-- The cycle in which the last word of the block in play on tile t leaves it (R57, R120): on a pattern tile the words of an
item have left when its last vector cycle ends. -/
def State.leftCycle (s : State) (t : Nat) : Option Nat :=
  (s.blockEnd t).map (fun p => if t < 8 then ceilDiv p Config.fine - 1 else posCycle p)

/-- BLOCK_PLAYED (R120, R122, R125): the last word of the block has left the tile. A block of the ring counts and RD moves
past it; a repeat counts as R125 says. -/
def execBlockPlayed (t : Tile) (s : State) : Host.Outcome State Fault Refusal :=
  .next (
    match (s.tile t).running, (s.tile t).item, s.leftCycle t with
    | some c, .stream h sid e n counted b w pos ph, some m =>
      if s.now < m ∨ (s.tile t).blockDone ∨ (s.tile t).gapAt.isSome then s
      else
        let own := decide (ph = .playing)
        let count' := if own || s.repeatCounts c then counted + 1 else counted
        let s1 := if own then
            (s.setStore sid { s.store sid with rd := Nat.max (s.store sid).rd (b + s.blockLen e) }).notePlayed c sid b
          else s
        s1.setTile t { s1.tile t with item := .stream h sid e n count' b w pos ph, blockDone := true }
    | _, _, _ => s)

/-- s with the STREAM item of tile t replaced: the item goes on. -/
def State.putItem (s : State) (t : Nat) (it : Item) : State := s.setTile t { s.tile t with item := it }

/-- Whether the block that has left tile t makes way for what comes after it now: the last block of a waveform tile keeps its
cycle to the end (R58). -/
def State.blockOver (s : State) (t : Nat) : Bool :=
  (s.tile t).blockDone && (s.tile t).gapAt.isNone &&
  (match (s.tile t).item, s.blockEnd t with
   | .stream _ _ _ n counted _ _ _ _, some p =>
     decide ((if t < 8 ∧ n ≠ 0 ∧ n ≤ counted then ceilDiv p Config.fine else posCycle p) ≤ s.now)
   | _, _ => false)

/-- Whether block b of storage sid, due at position p on tile t, is played or replaced by a repeat: an underrun under HOLD or
DIVERT is not (R123 to R126). -/
def State.blockPlays (s : State) (t sid e b p : Nat) : Bool :=
  s.blockReady sid e b p ||
  (match (s.tile t).running with
   | some c => decide (s.upol c = 1) && ((s.ctx c).lastBlock sid).isSome
   | none => false)

/-- s with the next block of the STREAM on tile t in play at the end of the one that has left it, or the STREAM over (R122).
On a pattern tile, an underrun that is not repeated ends the last vector cycle in its due cycle (R196). -/
def State.nextBlock (s : State) (t : Nat) : State :=
  match (s.tile t).item, s.blockEnd t with
  | .stream h sid e n counted b _ _ ph, some p =>
    if n ≠ 0 ∧ n ≤ counted then s.streamOver t p
    else
      let b' := if ph = .playing then b + s.blockLen e else b
      let limit := if s.blockPlays t sid e b' p then p else posCycle p * Config.fine
      let s1 := if t < 8 then s else s.patAdvance (t - 8) limit (limit / 512 + 2)
      s1.setTile t { s1.tile t with item := .stream h sid e n counted b' 0 p .playing, blockDone := false }
  | _, _ => s

/-- The blocks the ring of entry e holds (R124). -/
def State.ringBlocks (s : State) (sid e : Nat) : Nat := (s.store sid).len / s.blockLen e

/-- n_r of R124 for entry e. -/
def State.restartLevel (s : State) (sid e : Nat) : Nat :=
  let r := s.get (Reg.SLW_WMARK_RESTART e)
  Nat.min (if r = 0 then 1 else r) (s.ringBlocks sid e)

/-- The cycle in which a held STREAM of tile t plays its next block (R124): the later of r + 1,024 cc and the due cycle;
none while too few blocks are complete. -/
def State.holdUntil (s : State) (t : Nat) : Option Nat :=
  match (s.tile t).item with
  | .stream _ sid e _ _ b _ pos (.held _) =>
    (match reached (b + s.restartLevel sid e * s.blockLen e) (s.store sid).wrLog with
     | some n =>
       let due := posCycle pos
       some (Nat.max (Nat.max n (due - Config.lead) + Config.lead) due)
     | none => none)
  | _ => none

/-- HOLD_RESTART (R124): the next block plays at the later of r + 1,024 cc and the due cycle. -/
def execHoldRestart (t : Tile) (s : State) : Host.Outcome State Fault Refusal :=
  .next (match (s.tile t).item, s.holdUntil t with
    | .stream h sid e n counted b _ pos (.held _), some r =>
      if s.now < r then s
      else s.putItem t (.stream h sid e n counted b 0 (Nat.max pos (r * Config.fine)) .playing)
    | _, _ => s)

/-- s with an underrun on tile t handled as under HOLD: the last sample, or the bridge value, from the due cycle on, at which
the vector cycle in progress ends (R123, R124, R196). -/
def State.holdBlock (s : State) (t : Nat) (bridge : Bool) : State :=
  match (s.tile t).item with
  | .stream h sid e n counted b _ pos _ =>
    let s1 := s.stopVec t (posCycle pos * Config.fine)
    (if bridge then s1.bridgePins t else s1).putItem t (.stream h sid e n counted b 0 pos (.held bridge))
  | _ => s

/-- s with an underrun of the STREAM in play handled under HOLD or REPEAT (R124, R125). -/
def State.underrunPlain (s : State) (t c e sid pos : Nat) (policy : Nat) : State :=
  let due := posCycle pos
  match policy, (s.ctx c).lastBlock sid, (s.tile t).item with
  | 1, some b', .stream h _ _ n counted b _ _ _ =>
    -- the block before has played to its end, from where the repeat plays
    ((s.closeVec t pos).underrunLog t c e due 0x12).putItem t (.stream h sid e n counted b 0 pos (.replaying b'))
  | 1, none, _ => (s.underrunLog t c e due 0x11).holdBlock t true
  | _, _, _ => (s.underrunLog t c e due 0x11).holdBlock t false

/-- s with the words of a list written to storage sid at its ring position (R120): WR advances with each. The poison of a line is
cleared with its last word, where the LOAD, which began at total first, has written all of it since it was poisoned (R41):
marred are the lines poisoned meanwhile, until their first word comes again. -/
def State.ringWrite (s : State) (sid first : Nat) (marred : List Nat) : List Word72 → State
  | [] => s
  | w :: ws =>
    let st := s.store sid
    let pos := st.wr % st.len
    let rest := if pos % 7 = 0 then marred.filter (fun i => decide (i ≠ pos / 7)) else marred
    let s1 := s.storeWord sid pos w
    let s2 := if (pos % 7 = 6 ∨ pos + 1 = st.len) ∧ first + pos % 7 ≤ st.wr ∧ !rest.contains (pos / 7) then
        { s1 with poison := s1.poison.filter (fun p => decide (p ≠ (sid, pos / 7))) }
      else s1
    (s2.setStore sid { s2.store sid with
      wr := st.wr + 1, wrLog := st.wrLog ++ [(s.now, st.wr + 1)] }).ringWrite sid first rest ws

/-- The words a ring can take now: a fill waits whenever WR − RD equals the length (R120). -/
def State.ringRoom (s : State) (sid : Nat) : Nat := (s.store sid).len - ((s.store sid).wr - (s.store sid).rd)

/-- RING_FILL_RESUME (R120): the fills that wait on the slipway go on, since WR − RD is below the length. -/
def execRingFillResume (h : BitVec 24) (s : State) : Host.Outcome State Fault Refusal :=
  .next (match s.seg h.toNat with
    | none => s
    | some g =>
      if s.ringRoom g.sid = 0 then s
      else s.setSeg h.toNat { g with loads := g.loads.map (fun l => { l with waiting := false }) })

/-- Whether the slipway that entry e names is LIVE (R119). -/
def State.slipLive (s : State) (e : Nat) : Bool := s.isLive (s.get (Reg.SLW_HANDLE_HANDLE e))

/-- SLIPWAY_TABLE_WRITE (R119, R128, R318): HANDLE, EN and BLOCK are written only while the slipway is not LIVE. An entry
that comes to be enabled, or is given a LOW where it had 0, is tested afresh (R121). -/
def execSlipwayTableWrite (e : Fin 256) (off : BitVec 6) (v : Word) (s : State) : Host.Outcome State Fault Refusal :=
  let fresh := fun (s : State) => { s with lows := s.lows.filter (fun x => decide (x ≠ e.val)) }
  .next (match off.toNat with
    | 0x00 =>
      if s.slipLive e then s
      else
        let s1 := (s.put (Reg.SLW_HANDLE_HANDLE e) (fieldOf v.toNat 8 24)).put (Reg.SLW_HANDLE_EN e) (v.toNat % 2)
        if s.get (Reg.SLW_HANDLE_EN e) = 0 then fresh s1 else s1
    | 0x04 => if s.slipLive e then s else s.put (Reg.SLW_BLOCK e) (v.toNat % 2 ^ 17)
    | 0x08 =>
      let s1 := (s.put (Reg.SLW_WMARK_RESTART e) (fieldOf v.toNat 16 16)).put (Reg.SLW_WMARK_LOW e) (v.toNat % 2 ^ 16)
      if s.get (Reg.SLW_WMARK_LOW e) = 0 then fresh s1 else s1
    | 0x0C =>
      ((s.put (Reg.SLW_SIG_NOTIFY e) (fieldOf v.toNat 8 1)).put (Reg.SLW_SIG_SIG_EN e) (fieldOf v.toNat 7 1)).put
        (Reg.SLW_SIG_SIG e) (v.toNat % 64)
    | 0x20 => s.put (Reg.SLW_UR_CNT e) v.toNat
    | 0x10 => s
    | 0x14 => s
    | 0x18 => s
    | 0x1C => s
    | 0x24 => s
    | 0x28 => s
    | _ => s.put Reg.GLB_ERR_UNMAPPED 1)

/-- The complete unplayed blocks of the slipway that entry e names (R121): none where it names none. -/
def State.slipLevel (s : State) (e : Nat) : Option Nat :=
  match s.seg (s.get (Reg.SLW_HANDLE_HANDLE e)) with
  | none => none
  | some g =>
    if (s.store g.sid).kind = .slipway ∧ 0 < s.blockLen e then
      some (((s.store g.sid).wr - (s.store g.sid).rd) / s.blockLen e)
    else none

/-- Whether entry e's level is tested in this cycle and found below LOW, or not, of which the entry has not yet taken note
(R121). -/
def State.lowOpen (s : State) (e : Nat) : Option Bool :=
  let low := s.get (Reg.SLW_WMARK_LOW e)
  if s.get (Reg.SLW_HANDLE_EN e) = 0 ∨ low = 0 then none
  else match s.slipLevel e with
    | none => none
    | some n => if decide (n < low) = s.lows.contains e then none else some (decide (n < low))

/-- s with the low watermark of entry e tested in this cycle (R121). -/
def State.lowTest (s : State) (e : Nat) : State :=
  match s.lowOpen e with
  | none => s
  | some false => { s with lows := s.lows.filter (fun x => decide (x ≠ e)) }
  | some true =>
    let s1 := { s with lows := e :: s.lows }
    let s2 := if s1.get (Reg.SLW_SIG_NOTIFY e) = 1 then s1.notify (s1.tsAt s1.now) e true else s1
    if s2.get (Reg.SLW_SIG_SIG_EN e) = 1 then s2.occur (0x0B5 + s2.get (Reg.SLW_SIG_SIG e)) s2.now (s2.tsAt s2.now)
    else s2

end Sys2Proof.Machine
end

