-- ==== Sys2Proof/Machine/Placement.lean ====
section
/-! DEFINITION. The placement engine: lines, extents and admission (R42 to R45), the PLC commands (R35 to R41, R46 to R50,
R53), and migration (R51, R52, R252, R253). Which channels and ranks a segment takes is the engine's own choice (R51). -/

namespace Sys2Proof.Machine

/-! ## Extents and admission -/

/-- Free extents of rank r, if it is in service. -/
def State.rankFree (s : State) (r : Nat) : Nat :=
  if s.inService r then Config.rankExtents - s.get (Reg.RANK_STATE_EXT_USED r) else 0

/-- Free extents of a channel. -/
def State.chanFree (s : State) (ch : Nat) : Nat := sumOf (fun r => s.rankFree r) (ranksOf ch)

/-- Whether a channel has a rank in service (R254). -/
def State.chanServed (s : State) (ch : Nat) : Bool := (ranksOf ch).any (fun r => s.inService r)

/-- Channels with a rank in service (MEM_SERVICE). -/
def State.served (s : State) : Nat := countIf (fun ch => s.chanServed ch) (upto 64)

/-- FREE_EXT of PLC_CAP. -/
def State.freeExt (s : State) : Nat := sumOf (fun r => s.rankFree r) (upto 192)

/-- The extents of class k on channel ch that new lines can share: those with room, on a rank in service. -/
def State.shared (s : State) (k : RateClass) (ch : Nat) : List (Nat × Ext) :=
  s.mc.exts.filter (fun p => decide (p.2.cls = k ∧ chanOf p.2.rank = ch ∧ p.2.used < Config.extentLines) &&
    s.inService p.2.rank)

/-- Extents that lines of class k more take on channel ch, beyond those they can share. -/
def State.extNeed (s : State) (k : RateClass) (ch lines : Nat) : Nat :=
  ceilDiv (lines - sumOf (fun p => Config.extentLines - p.2.used) (s.shared k ch)) Config.extentLines

/-- The reserved demand of a profile in MB/s (R19, R44). -/
def demandOf (profile : Nat) : Nat :=
  match profile with
  | 1 => 1050624
  | 2 => 1271808
  | _ => 1492992

/-- The profile whose demand is reserved: in Ash, and during a change into or out of it, the one in effect before (R24,
R44). -/
def State.demandProfile (s : State) : Nat :=
  if s.get Reg.GLB_STATE_PROFILE = 3 then s.pw.prev else s.get Reg.GLB_STATE_PROFILE

/-- Fill rates of the slipways in force, in all. -/
def State.fillTotal (s : State) : Nat := sumOf (fun p => p.2.fill) s.stores

/-- The admitted total (R44). -/
def State.admitted (s : State) : Nat := demandOf s.demandProfile + s.fillTotal

/-- Lines of a storage that lie on channel ch now. -/
def State.linesOn (s : State) (st : Storage) (ch : Nat) : Nat :=
  sumOf (fun q => if chanOf (s.extRank q.ext) = ch then q.lines else 0) st.parts

/-- The product of the slipways' lines on a channel: what makes every slipway's share of a channel a whole number. -/
def State.loadUnit (s : State) : Nat :=
  s.stores.foldl (fun n p => if p.2.fill = 0 then n else n * linesPer p.2.cls p.2.len) 1

/-- The load that n lines of a slipway put on a channel, in the unit of State.loadOf: its fill rate is spread over its lines
(R45, R253). -/
def State.fillLoad (s : State) (st : Storage) (n : Nat) : Nat :=
  if st.fill = 0 then 0 else st.fill * s.served * (32 / st.cls.nchan) * (s.loadUnit / linesPer st.cls st.len) * n

/-- The load of channel ch, in units of 1 / (32 × channels in service × loadUnit) MB/s (R45, R254). -/
def State.loadOf (s : State) (profile ch : Nat) : Nat :=
  32 * demandOf profile * s.loadUnit + sumOf (fun p => s.fillLoad p.2 (s.linesOn p.2 ch)) s.stores

/-- Whether a load keeps a channel within its limit (R45). -/
def State.bears (s : State) (load : Nat) : Bool := decide (load ≤ Config.chanCeiling * s.served * 32 * s.loadUnit)

/-- Whether every channel of a list stays within its limit with fill more spread over n channels (R45). -/
def State.withinLimit (s : State) (profile fill n : Nat) (l : List Nat) : Bool :=
  l.all (fun ch => s.bears (s.loadOf profile ch + fill * s.served * (32 / n) * s.loadUnit))

/-- The least loaded of a list of channels, the lowest first. -/
def State.leastLoaded (s : State) : List Nat → Option Nat
  | [] => none
  | c :: cs =>
    match s.leastLoaded cs with
    | none => some c
    | some d => if s.loadOf 0 c ≤ s.loadOf 0 d then some c else some d

/-- n channels of a list, the least loaded first: none where the list is too short. -/
def State.pickChans (s : State) : Nat → List Nat → Option (List Nat)
  | 0, _ => some []
  | n + 1, l =>
    match s.leastLoaded l with
    | none => none
    | some c => (s.pickChans n (l.filter (fun d => decide (d ≠ c)))).map (fun r => c :: r)

/-- The channels of a stack that can take lines of class k. -/
def State.roomy (s : State) (k : RateClass) (lines stack : Nat) : List Nat :=
  ((upto 16).map (fun c => 16 * stack + c)).filter (fun ch => s.chanServed ch && decide (s.extNeed k ch lines ≤ s.chanFree ch))

/-- Picks from each stack of a list. -/
def State.pickStacks (s : State) (k : RateClass) (lines n : Nat) : List Nat → Option (List Nat)
  | [] => some []
  | q :: qs =>
    match s.pickChans n (s.roomy k lines q), s.pickStacks k lines n qs with
    | some a, some b => some (a ++ b)
    | _, _ => none

/-- The hint for a handle (R342). -/
def State.hintOf (s : State) (h : Nat) : Option (Nat × Nat) :=
  (s.mc.hints.find? (fun p => decide (p.1 = h))).map (fun p => p.2)

/-- The channels that a hint asks for, where the class allows it and the lines fit. -/
def State.hinted (s : State) (k : RateClass) (lines h : Nat) : Option (List Nat) :=
  match s.hintOf h with
  | some (1, b) =>
    (match s.seg b with
     | some g =>
       if (s.store g.sid).cls = k && (s.store g.sid).chans.all (fun ch => decide (s.extNeed k ch lines ≤ s.chanFree ch))
       then some (s.store g.sid).chans else none
     | none => none)
  | some (2, q) => if k = .C then s.pickChans 1 (s.roomy k lines q) else none
  | _ => none

/-- The channels for a segment of class k (R42), or the refusal (R42, R45). -/
def State.place (s : State) (k : RateClass) (len fill h : Nat) : Except Sts (List Nat) :=
  let lines := linesPer k len
  let ok := fun l => s.withinLimit s.demandProfile fill k.nchan l
  let free := match k with
    | .A => s.pickStacks k lines 8 [0, 1, 2, 3]
    | .B => s.pickStacks k lines 2 [0, 1, 2, 3]
    | .C => s.pickChans 1 ((upto 4).flatMap (fun q => s.roomy k lines q))
  match s.hinted k lines h with
  | some l => if ok l then .ok l else (match free with
    | none => .error .nospace
    | some m => if ok m then .ok m else .error .bandwidth)
  | none =>
    match free with
    | none => .error .nospace
    | some m => if ok m then .ok m else .error .bandwidth

/-! ## Lines taken and given back -/

/-- Runs of n lines of a stripe in extents with room, in turn. -/
def shareLines (stripe : Nat) : Nat → List (Nat × Ext) → List Strip
  | 0, _ => []
  | _, [] => []
  | n, p :: l => ⟨stripe, p.1, Nat.min n (Config.extentLines - p.2.used)⟩ ::
    shareLines stripe (n - (Config.extentLines - p.2.used)) l

/-- s with EXT_USED of rank r one more, or one less. -/
def State.extMore (s : State) (r : Nat) : State := s.put (Reg.RANK_STATE_EXT_USED r) (s.get (Reg.RANK_STATE_EXT_USED r) + 1)
def State.extLess (s : State) (r : Nat) : State := s.put (Reg.RANK_STATE_EXT_USED r) (s.get (Reg.RANK_STATE_EXT_USED r) - 1)

/-- s with extent e replaced. -/
def State.setExt (s : State) (e : Nat) (x : Ext) : State := { s with mc := { s.mc with exts := mins s.mc.exts e x } }

/-- s with the lines of a run in use in its extent. -/
def State.useLines (s : State) (q : Strip) : State :=
  match s.ext q.ext with
  | some x => s.setExt q.ext { x with used := x.used + q.lines }
  | none => s

/-- s with n lines of a stripe of class k taken from fresh extents of channel ch, on the first rank with room, and their
runs. -/
def State.openExts (s : State) (k : RateClass) (ch stripe : Nat) : Nat → Nat → State × List Strip
  | 0, _ => (s, [])
  | m + 1, n =>
    match n, (ranksOf ch).find? (fun r => decide (0 < s.rankFree r)) with
    | 0, _ => (s, [])
    | _, none => (s, [])
    | n, some r =>
      let e := s.mc.nextExt
      let s1 := (s.extMore r).setExt e ⟨r, k, Nat.min n Config.extentLines⟩
      let d := { s1 with mc := { s1.mc with nextExt := e + 1 } }.openExts k ch stripe m (n - Config.extentLines)
      (d.1, ⟨stripe, e, Nat.min n Config.extentLines⟩ :: d.2)

/-- s with n lines of a stripe of class k taken on channel ch, and their runs. -/
def State.takeStripe (s : State) (k : RateClass) (n stripe ch : Nat) : State × List Strip :=
  let l := shareLines stripe n (s.shared k ch)
  let rest := n - sumOf (fun q => q.lines) l
  let d := (forEach State.useLines l s).openExts k ch stripe (ceilDiv rest Config.extentLines) rest
  (d.1, l ++ d.2)

/-- s with n lines taken on each of a list of channels, the first of them stripe i, and their runs. -/
def State.takeStripes (s : State) (k : RateClass) (n : Nat) : Nat → List Nat → State × List Strip
  | _, [] => (s, [])
  | i, ch :: l =>
    let d := s.takeStripe k n i ch
    let d2 := d.1.takeStripes k n (i + 1) l
    (d2.1, d.2 ++ d2.2)

/-- s with extent e free: a copy of it ends, at both locations (R261). -/
def State.dropExt (s : State) (e : Nat) (x : Ext) : State :=
  let s1 := { s with mc := { s.mc with exts := mdel s.mc.exts e } }.extLess x.rank
  match mfind s1.mc.copies x.rank with
  | some (e', q) => if e' = e then { s1 with mc := { s1.mc with copies := mdel s1.mc.copies x.rank } }.extLess q else s1
  | none => s1

/-- s with the lines of a run given back: an extent with none left is free. -/
def State.giveLines (s : State) (q : Strip) : State :=
  match s.ext q.ext with
  | some x => if x.used ≤ q.lines then s.dropExt q.ext x else s.setExt q.ext { x with used := x.used - q.lines }
  | none => s

/-! ## Copies (R252, R253) -/

/-- Ranks in the spare reserve. -/
def State.spares (s : State) : List Nat := (upto 192).filter (fun r => decide (s.rankSt r = 1))

/-- The storages that have lines in extent e. -/
def State.tenants (s : State) (e : Nat) : List Storage :=
  (s.stores.map (fun p => p.2)).filter (fun st => st.parts.any (fun q => decide (q.ext = e)))

/-- Whether extent e of rank r can go to rank q: the fill rates that move with its lines keep q's channel within its limit
(R45, R253). -/
def State.canMove (s : State) (e r q : Nat) : Bool :=
  decide (q ≠ r) &&
  (decide (chanOf q = chanOf r) || s.bears (s.loadOf s.demandProfile (chanOf q) +
    sumOf (fun st => s.fillLoad st (sumOf (fun p => if p.ext = e then p.lines else 0) st.parts)) (s.tenants e)))

/-- The rank to which extent e of rank r is copied (R253): a rank in service of the same channel, a spare of the same stack, a
spare of any stack, a rank in service of a channel that carries no lines of its segments; of several, the lowest (DESIGN
CHOICE, log 40: the engine's own). -/
def State.target (s : State) (e r : Nat) : Option Nat :=
  let room := fun q => decide (0 < s.rankFree q) && s.canMove e r q
  let spare := fun q => s.canMove e r q
  match (ranksOf (chanOf r)).find? room with
  | some q => some q
  | none =>
    match s.spares.find? (fun q => decide (stackOf q = stackOf r) && spare q) with
    | some q => some q
    | none =>
      match s.spares.find? spare with
      | some q => some q
      | none => (upto 192).find? (fun q => room q && (s.tenants e).all (fun st => decide (s.linesOn st (chanOf q) = 0)))

/-- s with rank q in service, if it was a spare (R253). -/
def State.enlist (s : State) (q : Nat) : State := if s.rankSt q = 1 then s.put (Reg.RANK_STATE_STATE q) 0 else s

/-- The first extent on rank r. -/
def State.firstExt (s : State) (r : Nat) : Option (Nat × Ext) := s.mc.exts.find? (fun p => decide (p.2.rank = r))

/-- s with the copy of an extent of the retiring rank r begun, where none is in progress and a target qualifies (R252, R253):
the target's extent is allocated, and a spare comes into service. -/
def State.startCopy (s : State) (r : Nat) : State :=
  if (mfind s.mc.copies r).isSome then s
  else match s.firstExt r with
    | none => s
    | some (e, _) =>
      match s.target e r with
      | none => s
      | some q =>
        let s1 := (s.enlist q).extMore q
        { s1 with mc := { s1.mc with copies := mins s1.mc.copies r (e, q) } }

/-- s with the extents of the lost rank r reassigned without reading, as far as targets qualify (R253, R256): n bounds their
number. -/
def State.reassign (s : State) (r : Nat) : Nat → State
  | 0 => s
  | n + 1 =>
    match s.firstExt r with
    | none => { s with mc := { s.mc with lost := s.mc.lost.filter (fun q => decide (q ≠ r)) } }
    | some (e, x) =>
      match s.target e r with
      | none => s
      | some q => ((((s.enlist q).extMore q).extLess r).setExt e { x with rank := q }).reassign r n

/-- s with every copy and reassignment begun that waited for capacity (R253): of several ranks, the lowest first (R261). -/
def State.capacity (s : State) : State :=
  let s1 := forUpto (fun s r => if s.mc.moving.contains r then s.startCopy r else s) 192 s
  forUpto (fun s r => if s.mc.lost.contains r then s.reassign r (s.mc.exts.length + 1) else s) 192 s1

/-- s with rank r RETIRED, at this time (R252). -/
def State.rankRetired (s : State) (r : Nat) : State :=
  ({ s with mc := { s.mc with
      moving := s.mc.moving.filter (fun q => decide (q ≠ r))
      retAt := mdel s.mc.retAt r } }.put (Reg.RANK_STATE_STATE r) 3).put64
    (Reg.RANK_RET_TIME_LO r) (Reg.RANK_RET_TIME_HI r) (s.sysTime s.now)

/-- Whether rank r is RETIRING or DEGRADED. -/
def State.rankLeaving (s : State) (r : Nat) : Bool := decide (s.rankSt r = 2 ∨ s.rankSt r = 5)

/-- Whether an extent waits for a target (R253). -/
def State.noSpare (s : State) : Bool :=
  !s.mc.lost.isEmpty || s.mc.moving.any (fun r => (s.firstExt r).isSome && (mfind s.mc.copies r).isNone)

/-- s with MEM_STATUS's RETIRING, DEGRADED and NOSPARE as the ranks stand (R252, R253, R256). -/
def State.rankFlags (s : State) : State :=
  let s1 := s.put Reg.MEM_STATUS_RETIRING (bit ((upto 192).any (fun r => s.rankLeaving r)))
  let s2 := s1.put Reg.MEM_STATUS_DEGRADED (bit ((upto 192).any (fun r => decide (s1.rankSt r = 5))))
  s2.put Reg.MEM_STATUS_NOSPARE (bit s2.noSpare)

/-- s with the ranks that leave service and hold no extent any more RETIRED (R252). -/
def State.settleRanks (s : State) : State :=
  (forUpto (fun s r =>
    if s.rankLeaving r && decide (s.get (Reg.RANK_STATE_EXT_USED r) = 0) then s.rankRetired r else s) 192 s).rankFlags

/-- Extents that remain to be copied, in all. -/
def State.extLeft (s : State) : Nat :=
  sumOf (fun p => p.2) s.mc.jobs + sumOf (fun r => s.get (Reg.RANK_STATE_EXT_USED r)) s.mc.moving

/-- s with a new storage (R35, R36): its lines taken from the free capacity. -/
def State.addStorage (s : State) (h : Nat) (kind : SegKind) (k : RateClass) (len fill : Nat) (chans : List Nat) : State :=
  let d := s.takeStripes k (linesPer k len) 0 chans
  let s1 := d.1
  let sid := s1.nextSid
  let s2 := { s1.setStore sid ⟨kind, k, len, fill, chans, d.2, 0, 0, 0, []⟩ with nextSid := sid + 1 }
  s2.setSeg h ⟨sid, decide (kind = .program ∨ kind = .waveform ∨ kind = .pattern), false, [], none, []⟩

/-- s with storage sid's lines returned to the free capacity (R50), what they held gone and a migration of it ended (R52, R55,
R261): what waited for capacity goes on. -/
def State.dropStorage (s : State) (sid : Nat) : State :=
  let st := s.store sid
  let s1 := { s with
    stores := mdel s.stores sid
    mem := mfilter (fun a => decide (a / 9 / 2 ^ 34 ≠ sid)) s.mem
    poison := s.poison.filter (fun p => decide (p.1 ≠ sid))
    mc := { s.mc with jobs := mdel s.mc.jobs sid } }
  (forEach State.giveLines st.parts s1).capacity.settleRanks

/-! ## Reports -/

/-- s with a result register written. -/
def State.plcRes (s : State) (i v : Nat) : State := s.put (Reg.PLC_RES i) v

/-- s with a report of a PLC command (R53): TAG, STS and LOAD_END together, and vector 2. -/
def State.plcReport (s : State) (tag : Nat) (e : Sts) (loadEnd : Bool) : State :=
  let s1 := ((s.put Reg.PLC_STATUS_TAG tag).put Reg.PLC_STATUS_STS e.code).put Reg.PLC_STATUS_LOAD_END (bit loadEnd)
  if s1.carries then s1.signalVec 2 else s1

/-- Argument register i. -/
def State.plcArg (s : State) (i : Nat) : Nat := s.get (Reg.PLC_ARG i)

/-- Whether the argument fields beyond what an opcode lists are 0 (R53): mask i gives the bits it lists in argument i. -/
def State.plcArgsOk (s : State) (masks : List Nat) : Bool :=
  (upto 6).all (fun i => decide (s.plcArg i / 2 ^ (masks.getD i 0) = 0))

/-- A PLC command (R53): discarded with OVERRUN while another runs; STS_RANGE for a field the table does not list; accepted, it
begins an exit from self-refresh (R247). -/
def State.plcCmd (s : State) (tag : Nat) (masks : List Nat) (f : State → State) : State :=
  if s.get Reg.PLC_STATUS_BUSY = 1 then s.put Reg.PLC_STATUS_OVERRUN 1
  else if !s.plcArgsOk masks then s.plcReport tag .range false
  else if (f s).get Reg.PLC_STATUS_STS = Sts.ok.code then (f s).memWake
  else f s

/-! ## ALLOC and FREE -/

/-- The kind and class that codes name, where R34 permits them together. -/
def kindClass (kind cls : Nat) : Option (SegKind × RateClass) :=
  match kind, cls with
  | 0, 2 => some (.program, .C)
  | 1, 0 => some (.waveform, .A)
  | 1, 1 => some (.waveform, .B)
  | 1, 2 => some (.waveform, .C)
  | 2, 1 => some (.pattern, .B)
  | 2, 2 => some (.pattern, .C)
  | 3, 0 => some (.capture, .A)
  | 3, 1 => some (.capture, .B)
  | 3, 2 => some (.capture, .C)
  | 4, 0 => some (.slipway, .A)
  | 4, 1 => some (.slipway, .B)
  | 4, 2 => some (.slipway, .C)
  | _, _ => none

/-- The lowest handle from i on that is not live (R35). -/
def freeHandle (m : SMap Seg) : Nat → Nat → Nat
  | 0, i => i
  | n + 1, i => if (mfind m i).isSome then freeHandle m n (i + 1) else i

/-- An ALLOC: the handle and the state, or the refusal (R34, R35, R41, R42, R44, R45). -/
def State.allocate (s : State) (h kind cls len fill : Nat) : Except Sts (Nat × State) :=
  match kindClass kind cls with
  | none => .error .range
  | some (kd, k) =>
    if len = 0 ∨ 2 ^ 34 ≤ len then .error .range
    else if (kd = .slipway ∧ (fill = 0 ∨ k.rate < fill)) ∨ (kd ≠ .slipway ∧ fill ≠ 0) then .error .range
    else if (s.seg h).isSome then .error .badhandle
    else if 1048576 ≤ s.segs.length then .error .nospace
    else if Config.ceiling < s.admitted + fill then .error .bandwidth
    else
      let n := if h = 0 then freeHandle s.segs 1048576 1 else h
      match s.place k len fill n with
      | .error e => .error e
      | .ok chans => .ok (n, s.addStorage n kd k len fill chans)

/-- ALLOC (R35). -/
def execAlloc (tag : BitVec 8) (s : State) : Host.Outcome State Fault Refusal :=
  .next (s.plcCmd tag.toNat [24, 5, 32, 32, 32, 0] fun s =>
    match s.allocate (s.plcArg 0) (fieldOf (s.plcArg 1) 0 3) (fieldOf (s.plcArg 1) 3 2)
      (s.plcArg 2 + 2 ^ 32 * s.plcArg 3) (s.plcArg 4) with
    | .error e => s.plcReport tag.toNat e false
    | .ok (n, s1) => (s1.plcRes 0 n).plcReport tag.toNat .ok false)

/-- s with the ring transfers in progress whose descriptors p selects ended with a status (R307). -/
def State.endXfers (s : State) (p : Desc → Bool) (e : Sts) : State :=
  { s with xng := { s.xng with xfers := mmap (fun r x =>
      if x.sts.isNone && p (mget (fun _ => Desc.init) s.xng.rings (256 * r + s.get (Reg.XNG_RING_HEAD r))) then
        { x with sts := some e.code } else x) s.xng.xfers } }

/-- s with handle h freed: its open LOADs cancelled and reported, its storage gone (R36, R53). -/
def State.freeHandle (s0 : State) (h : Nat) (g : Seg) : State :=
  let s := s0.endXfers (fun d => decide (d.handle = h)) .badhandle
  let s1 := forEach (fun s1 l => ((s1.plcRes 0 h).plcRes 1 (satAdd32 l.poisoned 0)).plcReport l.tag .badhandle true) g.loads s
  { s1 with segs := mdel s1.segs h }.dropStorage g.sid

/-- Whether handle h is LIVE, or a reference to it begins in this cycle: one that a tile's run-ahead resolves now wins over a LOAD
or a FREE of the cycle (R55). -/
def State.liveNow (s : State) (h : Nat) : Bool := s.isLive h || (forUpto State.aheadTick 16 s).isLive h

/-- FREE (R37, R55). -/
def execFree (tag : BitVec 8) (s : State) : Host.Outcome State Fault Refusal :=
  .next (s.plcCmd tag.toNat [24, 0, 0, 0, 0, 0] fun s =>
    match s.seg (s.plcArg 0) with
    | none => s.plcReport tag.toNat .badhandle false
    | some g =>
      if s.liveNow (s.plcArg 0) ∨ g.redirect.isSome then s.plcReport tag.toNat .busy false
      else (s.freeHandle (s.plcArg 0) g).plcReport tag.toNat .ok false)

/-! ## LOAD -/

/-- Whether a port can carry a peer transfer to the peer module that TXL_PEER_MOD names (R292). -/
def State.peerReach (s : State) (port peer : Nat) : Bool :=
  decide (s.get (Reg.TXL_PSTATUS_STATE port) = 4) && decide (s.get Reg.TXL_STATUS_JOINED = 1) &&
  s.txl.members.contains (port, peer)

/-- The checks of a LOAD (R39 to R41, R53, R55, R120, R292). A writing LOAD without RING to a slipway is taken as R39 takes one to
any other segment, and makes it LOADING (DESIGN CHOICE, log 119: R34 has ring-mode LOADs write slipways, and gives no status for
another). -/
def State.loadCheck (s : State) (h : Nat) (g : Seg) (read ring : Bool) (src off count : Nat) : Except Sts Unit :=
  let st := s.store g.sid
  if 4 < src then .error .range
  else if src ≠ 0 ∧ s.get Reg.GLB_STATE_PROFILE = 3 then .error .state
  else if src ≠ 0 ∧ !s.peerReach (src - 1) (s.get Reg.TXL_PEER_MOD) then .error .precond
  -- a push with RING writes the peer's ring: R120 governs it there (R291)
  else if ring ∧ off ≠ 0 ∧ !(read ∧ src ≠ 0) then .error .range
  else if ring ∧ ((read ∧ src = 0) ∨ (!read ∧ st.kind ≠ .slipway)) then .error .precond
  else if !read ∧ st.kind = .capture then .error .precond
  else if !read ∧ !ring ∧ s.liveNow h then .error .busy
  else if read ∧ g.loading then .error .state
  else if read ∧ st.kind = .capture ∧ s.isLive h then .error .busy
  else if st.len < off + count then .error .range
  else if read ∧ st.kind = .capture ∧ st.recLen < off + count then .error .range
  else if 16 ≤ g.loads.length then .error .busy
  else .ok ()

/-- LOAD (R53): accepted, it opens a transfer; a writing one makes the segment LOADING, but for ring mode (R36). -/
def execLoad (tag : BitVec 8) (s : State) : Host.Outcome State Fault Refusal :=
  .next (s.plcCmd tag.toNat [24, 6, 32, 32, 32, 32] fun s =>
    let h := s.plcArg 0
    let a := s.plcArg 1
    let read := decide (fieldOf a 0 1 = 1)
    let ring := decide (fieldOf a 2 1 = 1)
    let off := s.plcArg 2 + 2 ^ 32 * s.plcArg 3
    let count := s.plcArg 4 + 2 ^ 32 * s.plcArg 5
    match s.seg h with
    | none => s.plcReport tag.toNat .badhandle false
    | some g =>
      match s.loadCheck h g read ring (fieldOf a 3 3) off count with
      | .error e => s.plcReport tag.toNat e false
      | .ok _ =>
        let l : OpenLoad := ⟨tag.toNat, read, decide (fieldOf a 1 1 = 1), ring, fieldOf a 3 3, off, count, 0, 0,
          s.get Reg.TXL_PEER_MOD, s.get Reg.TXL_PEER_HANDLE,
          s.get Reg.TXL_PEER_OFF_LO + 2 ^ 32 * s.get Reg.TXL_PEER_OFF_HI, false, g.sid, []⟩
        let enters := !read && !ring
        let s1 := s.setSeg h { g with
          loads := g.loads ++ [l], loading := g.loading || enters,
          finalDone := if enters && !g.loading then false else g.finalDone }
        (s1.plcRes 0 h).plcReport tag.toNat .ok false)

/-- Whether a LOAD writes its segment so that the segment is LOADING while it is open (R36). -/
def OpenLoad.writes (l : OpenLoad) : Bool := !l.read && !l.ring

/-- Whether another module's transfer makes the segment LOADING while it is open (R36, R291). -/
def Guest.writes (l : Guest) : Bool := !l.read && !l.ring

/-- s with LOAD l of handle h ended with a status: reported, and the segment READY where R36 says so. full says that all its
words were written. -/
def State.endLoad (s : State) (h : Nat) (g : Seg) (l : OpenLoad) (e : Sts) (full : Bool) : State :=
  let rest := g.loads.erase l
  let fin := g.finalDone || (l.writes && l.final && full)
  let s1 := s.setSeg h { g with
    loads := rest, finalDone := fin
    loading := g.loading && (rest.any (fun x => x.writes) || g.guests.any (fun x => x.writes) || !fin) }
  let s2 := if l.src ≠ 0 then s1.put64 Reg.TXL_PEER_DONE_LO Reg.TXL_PEER_DONE_HI l.done else s1
  ((s2.plcRes 0 h).plcRes 1 (satAdd32 l.poisoned 0)).plcReport l.tag e true

/-- LOAD_END (R53): the oldest open LOAD of the handle whose last word has been transferred ends. -/
def execLoadEnd (h : BitVec 24) (s : State) : Host.Outcome State Fault Refusal :=
  .next (match s.seg h.toNat with
    | none => s
    | some g =>
      match g.loads.find? (fun l => decide (l.done = l.count)) with
      | none => s
      | some l => s.endLoad h.toNat g l (if 0 < l.poisoned then .poison else .ok) true)

/-- s with a line of storage sid poisoned (R251): a transfer that has written part of it does not clear it. -/
def State.poisonLine (s : State) (sid line : Nat) : State :=
  let cut := fun (off done : Nat) => decide (off < 7 * line + 7 ∧ 7 * line < off + done)
  let s1 := { s with segs := mmap (fun _ g => { g with
    loads := g.loads.map (fun l => if l.sid = sid ∧ (l.ring ∨ cut l.off l.done) then { l with marred := line :: l.marred } else l)
    guests := g.guests.map (fun l =>
      if l.sid = sid ∧ (l.ring ∨ cut l.off l.done) then { l with marred := line :: l.marred } else l) }) s.segs }
  if s1.poison.contains (sid, line) then s1 else { s1 with poison := (sid, line) :: s1.poison }

/-- s with the poison cleared of the lines that a transfer into storage sid has come to cover with the words up to upTo, the
words up to prev having come before (R41): the lines every word of which it has written since it began at word first, but for
those poisoned meanwhile. -/
def State.clearPoison (s : State) (sid first prev upTo : Nat) (marred : List Nat) : State :=
  let len := (s.store sid).len
  let end_ := fun (i : Nat) => Nat.min (7 * i + 7) len
  { s with poison := s.poison.filter (fun p =>
      !(decide (p.1 = sid ∧ first ≤ 7 * p.2 ∧ prev < end_ p.2 ∧ end_ p.2 ≤ upTo) && !marred.contains p.2)) }

/-- s with words written to storage sid from offset off on. -/
def State.writeWords (s : State) (sid off : Nat) : List Word72 → State
  | [] => s
  | w :: ws => (s.storeWord sid off w).writeWords sid (off + 1) ws

/-- s with words written by a transfer into storage sid that began at word first and stands at word at. -/
def State.fillWords (s : State) (sid first at_ : Nat) (marred : List Nat) (ws : List Word72) : State :=
  (s.writeWords sid at_ ws).clearPoison sid first at_ (at_ + ws.length) marred

/-- The words of a frame that LOAD l takes now: of a full ring, none that would overwrite an unplayed word (R120). -/
def State.loadTakes (s : State) (l : OpenLoad) (ws : List Word72) : List Word72 :=
  if !l.ring then ws else if l.waiting then [] else ws.take (s.ringRoom l.sid)

/-- s with words that reached the module written by LOAD l of handle h (R41, R120, R307): the LOAD's next words, or the ring's;
the fill waits with the words that the ring cannot take yet. A LOAD writes the storage it began on. -/
def State.loadWords (s : State) (h : Nat) (g : Seg) (l : OpenLoad) (l0 : List Word72) : State :=
  let ws := s.loadTakes l l0
  let s1 := if l.ring then s.ringWrite l.sid ((s.store l.sid).wr - l.done) l.marred ws
    else s.fillWords l.sid l.off (l.off + l.done) l.marred ws
  let l1 := { l with
    done := l.done + ws.length
    marred := if l.ring then l.marred.filter (fun i => !(upto ws.length).any (fun k =>
        decide (((s.store l.sid).wr + k) % (s.store l.sid).len = 7 * i)))
      else l.marred
    waiting := decide (ws.length < l0.length) }
  s1.setSeg h { g with loads := g.loads.map (fun x => if x = l then l1 else x) }

/-! ## REDIRECT -/

/-- The landing slots that hold words of storage sid, each with its tile (R47). -/
def State.slotsHolding (s : State) (sid : Nat) : List (Nat × Nat) :=
  s.tiles.flatMap (fun p => (p.2.slots.filter (fun q => q.2.run.reads sid)).map (fun q => (p.1, q.1)))

/-- The landings that a tile's resolved ARMs hold, each with its word: on its planned path, and within a routine. -/
def State.ledArms (s : State) (t : Nat) : List (BitVec 66 × Landing) :=
  let path := match (s.tile t).ahead with
    | some a => a.led.filterMap (fun r =>
        let w := (s.readWord r.sid r.off).toNat
        if fieldOf w 66 6 = 0x09 then r.land.map (fun l => (BitVec.ofNat 66 w, l)) else none)
    | none => []
  path ++ (s.tile t).micro.due.filterMap (fun p => match p.2 with
    | .arm ops l => some (BitVec.ofNat 66 ops, l)
    | _ => none)

/-- The run that slot i of tile t is to hold once handle h reaches other storage: that of an arm, of an ARM resolved ahead of its
effect cycle, or of the DIVERT handler, that holds the slot; s is the state in which h reaches it. -/
def State.newRun (s : State) (t i : Nat) : Option LRun :=
  let arms := s.ctxs.flatMap (fun p =>
    if s.get (Reg.CTX_CFG_BIND p.1) = t ∧ p.2.holds then
      (p.2.armList.filter (fun q => q.2.valid && q.2.slot == some i)).map (fun q => q.2) else [])
  let led := ((s.ledArms t).filter (fun p => p.2.isSlot i)).map (fun p => armRecord p.1 0 none)
  match arms ++ led with
  | a :: _ =>
    (match s.armRun t a.act a.h a.off with
     | .ok r => r
     | .error _ => none)
  | [] =>
    if (s.tile t).divert == some i || (s.tile t).resolvedSlot i then
      match (s.tile t).running with
      | some c => (match s.progRun t (s.divertTo c).1 (s.divertTo c).2 with
        | .ok r => some r
        | .error _ => none)
      | none => none
    else none

/-- s with second slots taken for a list of slots, filled from the runs that state v gives (R49); none where a tile has no
free slot. -/
def State.takeSeconds (s v : State) : List (Nat × Nat) → Option (List (Nat × Nat × Nat) × State)
  | [] => some ([], s)
  | (t, i) :: l =>
    match v.newRun t i with
    | none => s.takeSeconds v l
    | some r =>
      match s.takeSlot t r with
      | none => none
      | some (j, s1) =>
        match s1.takeSeconds v l with
        | none => none
        | some (m, s2) => some ((t, i, j) :: m, s2)

/-- The refusals of R46, in the order of its table. -/
def State.redirectCheck (s : State) (h n : Nat) : Except Sts (Seg × Seg) :=
  if n = h then .error .badhandle
  else match s.seg h, s.seg n with
    | some a, some b =>
      if a.loading || b.loading then .error .state
      else if s.isLive n || a.redirect.isSome then .error .busy
      else
        let k := (s.store a.sid).kind
        if k ≠ (s.store b.sid).kind ∨ k = .capture ∨ k = .slipway then .error .precond
        else .ok (a, b)
    | _, _ => .error .badhandle

/-- REDIRECT (R46, R47, R49): accepted, N becomes FREE, and the landing refills start. A pending REDIRECT of N and its open LOADs
end with its handle, without a report (DESIGN CHOICE, log 120: R46 names no refusal for them). -/
def execRedirect (tag : BitVec 8) (s : State) : Host.Outcome State Fault Refusal :=
  let mode := fieldOf (s.plcArg 1) 24 2
  .next (s.plcCmd tag.toNat [24, 26, if mode = 1 then 32 else 0, if mode = 1 then 32 else 0, 0, 0] fun s =>
    let h := s.plcArg 0
    let n := fieldOf (s.plcArg 1) 0 24
    if mode = 3 then s.plcReport tag.toNat .range false
    else match s.redirectCheck h n with
    | .error e => s.plcReport tag.toNat e false
    | .ok (a, b) =>
      let slots := s.slotsHolding a.sid
      let bound := s.now + 2048 + 1024 * slots.length
      let at_ := s.plcArg 2 + 2 ^ 32 * s.plcArg 3
      if mode = 1 ∧ at_ < s.sysTime bound then s.plcReport tag.toNat .range false
      else match s.takeSeconds (s.setSeg h { a with sid := b.sid }) slots with
      | none => s.plcReport tag.toNat .nolanding false
      | some (pairs, s1) =>
        let r : Redirect := ⟨b.sid, mode, if mode = 1 then some (s.now + (at_ - s.sysTime s.now)) else none, bound,
          s.get Reg.PLC_CFG_UPD_GRP, pairs⟩
        let s2 := { s1 with segs := mdel s1.segs n }.setSeg h { a with redirect := some r }
        let ta := if mode = 1 then at_ else s.sysTime bound
        (((s2.plcRes 0 h).plcRes 2 (ta % 2 ^ 32)).plcRes 3 (ta / 2 ^ 32)).plcReport tag.toNat .ok false)

/-- Whether every second slot of a redirection has been filled. -/
def State.secondsFilled (s : State) (r : Redirect) : Bool :=
  r.slots.all (fun q => match mfind (s.tile q.1).slots q.2.2 with
    | some y => y.filled.isSome
    | none => true)

/-- Whether T_a of a pending redirection has come (R47): in mode 0, once every refill has completed and at the latest at
the bound, after the cycle of acceptance. -/
def State.redirectDue (s : State) (r : Redirect) : Bool :=
  match r.mode with
  | 0 => (s.secondsFilled r && decide (r.bound < s.now + 2048 + 1024 * r.slots.length)) || decide (r.bound ≤ s.now)
  | _ =>
    match r.at_ with
    | some n => decide (n ≤ s.now)
    | none => false

/-- A landing with slot i replaced by slot j. -/
def Landing.swap (i j : Nat) (l : Landing) : Landing := if l.isSlot i then .slot j else l

/-- s with slot i of tile t replaced by slot j in every arm and DIVERT handler, and in what is resolved (R49). -/
def State.switchSlot (s : State) (t i j : Nat) : State :=
  let swap := fun (_ : Nat) (a : ArmRec) => if a.slot == some i then { a with slot := some j } else a
  let f := fun (c : Nat) (x : Ctx) =>
    if s.get (Reg.CTX_CFG_BIND c) = t then { x with arms := mmap swap x.arms } else x
  let s1 := { s with ctxs := mmap f s.ctxs }
  let x := s1.tile t
  s1.setTile t { x with
    divert := if x.divert == some i then some j else x.divert
    ahead := x.ahead.map (fun a => { a with led := a.led.map (fun r => { r with land := r.land.map (Landing.swap i j) }) })
    micro := { x.micro with due := x.micro.due.map (fun p => match p.2 with
      | .arm ops l => (p.1, .arm ops (l.swap i j))
      | _ => p) } }

/-- s with arm k of context c, written since the acceptance of a redirection of its target, landed afresh (R48). -/
def State.relandArm (s : State) (t c k : Nat) : State :=
  let a := (s.ctx c).arm k
  match s.armRun t a.act a.h a.off with
  | .ok (some run) =>
    (match s.takeSlot t run with
     | some (i, s1) => s1.setCtx c ((s1.ctx c).setArm k { a with slot := some i })
     | none => s.setCtx c ((s.ctx c).setArm k { a with slot := none }))
  | _ => s.setCtx c ((s.ctx c).setArm k { a with slot := none })

/-- s with every arm that names handle h, whose slot still reads storage sid, landed afresh. -/
def State.relandStale (s : State) (h sid : Nat) : State :=
  forEach (fun s p =>
    if p.2.holds then
      forEach (fun s q =>
        match q.2.slot with
        | some i =>
          let t := s.get (Reg.CTX_CFG_BIND p.1)
          (match mfind (s.tile t).slots i with
           | some y =>
             if q.2.valid && decide (q.2.h = h) && y.run.instrs.any (fun z => decide (z.1 = sid)) then s.relandArm t p.1 q.1
             else s
           | none => s)
        | none => s) p.2.armList s
    else s) s.ctxs s

/-- s with the slots of tile t that its resolved instructions have taken since the acceptance of a redirection, and that still read
storage sid, exchanged for slots that read the new one. -/
def State.relandLed (s : State) (sid t : Nat) : State :=
  forEach (fun s p =>
    if p.2.run.reads sid && (s.tile t).resolvedSlot p.1 then
      (match s.newRun t p.1 with
       | some r => (match s.takeSlot t r with
         | some (j, s1) => s1.switchSlot t p.1 j
         | none => s)
       | none => s)
    else s) (s.tile t).slots s

/-- REDIRECT_APPLY (R47, R49): at T_a, H reaches the new storage, and the arms switch to their second slots. -/
def execRedirectApply (h : BitVec 24) (s : State) : Host.Outcome State Fault Refusal :=
  .next (match s.seg h.toNat with
    | some g =>
      (match g.redirect with
       | some r =>
         if !s.redirectDue r then s
         else
           let s1 := { s.setSeg h.toNat { g with sid := r.sid, redirect := none } with
             olds := s.olds ++ [⟨h.toNat, g.sid⟩] }
           let s2 := forEach (fun s q => s.switchSlot q.1 q.2.1 q.2.2) r.slots s1
           let s3 := s2.relandStale h.toNat g.sid
           forUpto (fun s t => (s.relandLed g.sid t).gcSlots t) 16 s3
       | none => s)
    | none => s)

/-- REDIRECT_OLD_RELEASE (R50): once nothing refers to an old storage any more, its lines are free. -/
def execRedirectOldRelease (h : BitVec 24) (s : State) : Host.Outcome State Fault Refusal :=
  .next (match s.olds.find? (fun o => decide (o.h = h.toNat) && decide (s.refCount o.h o.sid = 0)) with
    | none => s
    | some o => { s with olds := s.olds.filter (fun p => decide (p ≠ o)) }.dropStorage o.sid)

/-! ## QUERY, MIGRATE, READMIT -/

/-- Poisoned lines of storage sid. -/
def State.poisonCount (s : State) (sid : Nat) : Nat := countIf (fun p => decide (p.1 = sid)) s.poison

/-- QUERY (R53). -/
def execQuery (tag : BitVec 8) (s : State) : Host.Outcome State Fault Refusal :=
  .next (s.plcCmd tag.toNat [24, 1, 0, 0, 0, 0] fun s =>
    let h := s.plcArg 0
    let res := fun (a b c : Nat) (s : State) => (((s.plcRes 0 a).plcRes 1 b).plcRes 2 (c % 2 ^ 32)).plcRes 3 (c / 2 ^ 32)
    match s.seg h with
    | none => (res 0 0 0 s).plcReport tag.toNat .badhandle false
    | some g =>
      let st := s.store g.sid
      let r0 := 2 ^ 31 * bit g.redirect.isSome + 2 ^ 29 * s.segState h + 2 ^ 27 * st.cls.code + 2 ^ 24 * st.kind.code + h
      let s1 := if s.plcArg 1 = 0 then
          res r0 (65536 * Nat.min (s.poisonCount g.sid) 65535 + Nat.min (s.refCount h g.sid) 65535) st.len s
        else
          let left := match g.loads.find? (fun l => decide (l.src = 0) && decide (l.done < l.count)) with
            | some l => l.count - l.done
            | none => 0
          res r0 g.loads.length left s
      s1.plcReport tag.toNat .ok false)

/-- s with n extents more to copy, of storage sid, or of the whole memory for 0 (R53). -/
def State.addJob (s : State) (sid n : Nat) : State :=
  if n = 0 then s else { s with mc := { s.mc with jobs := mins s.mc.jobs sid (mget (fun _ => 0) s.mc.jobs sid + n) } }

/-- MIGRATE (R53): the engine's own choice says how many extents it copies (R51); a handle that is not live is refused. -/
def execMigrate (tag : BitVec 8) (extents : BitVec 20) (s : State) : Host.Outcome State Fault Refusal :=
  .next (s.plcCmd tag.toNat [24, 0, 0, 0, 0, 0] fun s =>
    match s.plcArg 0, s.seg (s.plcArg 0) with
    | 0, _ => (s.addJob 0 extents.toNat).plcReport tag.toNat .ok false
    | _, none => s.plcReport tag.toNat .badhandle false
    | _, some g => (s.addJob g.sid extents.toNat).plcReport tag.toNat .ok false)

/-- READMIT (R54, R257): guarded; a RETIRED rank becomes TESTING, and its training is in progress. -/
def execReadmit (tag : BitVec 8) (s : State) : Host.Outcome State Fault Refusal :=
  .next (s.guarded fun s => s.plcCmd tag.toNat [32, 0, 0, 0, 0, 0] fun s =>
    let r := s.plcArg 0
    if 191 < r then s.plcReport tag.toNat .range false
    else if s.rankSt r ≠ 3 then s.plcReport tag.toNat .state false
    else ((s.put (Reg.RANK_STATE_STATE r) 4).put Reg.MEM_STATUS_TRAINING 1).plcReport tag.toNat .ok false)

/-- s with the eye of rank r measured: free values. -/
def State.measureEye (s : State) (r : Nat) : State :=
  let d := s.drawFree
  (d.2.put (Reg.RANK_EYE_WIDTH r) d.1.toNat).put (Reg.RANK_EYE_UI r) (d.1.toNat / 2 ^ 16)

/-- s with TRAINING as the retrain and the ranks under test leave it. -/
def State.judgeTraining (s : State) : State :=
  s.put Reg.MEM_STATUS_TRAINING (bit (s.mc.retrain.isSome || (upto 192).any (fun r => decide (s.rankSt r = 4))))

/-- s with the retirement record of a readmitted rank r cleared in the MRAM: at once, or, while new MRAM writes are refused, owed
(R257, R354). -/
def State.clearRecord (s : State) (r : Nat) : State :=
  let rest := s.mc.records.filter (fun p => decide (p.1 ≠ r))
  if s.get Reg.NVS_SUPPLY_NV_BLOCK = 1 then { s with mc := { s.mc with records := rest ++ [(r, 0)] } }
  else { s with
    mc := { s.mc with records := rest }
    pw := { s.pw with retired := s.pw.retired.filter (fun p => decide (p.1 ≠ r)) } }

/-- s with rank r RETIRED again, a readmission having failed with a status (R252, R257). -/
def State.readmitFailed (s : State) (r : Nat) (e : Sts) : State :=
  (s.rankRetired r).put (Reg.RANK_STATE_STS r) e.code

/-- READMIT_TEST_END (R257): found says that training found a setting, passed that no pattern read in error. A rank that passes
is a spare, with an eye measured, no cause and its record cleared; what waited for capacity goes on. -/
def execReadmitTestEnd (rank : RankNo) (found passed : Bool) (s : State) : Host.Outcome State Fault Refusal :=
  let r := rank.val
  .next (
    if s.rankSt r ≠ 4 then s
    else if !found then (s.readmitFailed r .trainfail).judgeTraining
    else if !passed then ((s.measureEye r).readmitFailed r .precond).judgeTraining
    else
      let s1 := (((s.measureEye r).put (Reg.RANK_STATE_STATE r) 1).put (Reg.RANK_STATE_STS r) Sts.ok.code).put
        (Reg.RANK_STATE_CAUSE r) 0
      ((s1.clearRecord r).capacity.settleRanks).judgeTraining)

/-! ## Migration -/

/-- s with the migration of the leaving rank r begun (R252). -/
def State.startMoving (s : State) (r : Nat) : State :=
  { s with mc := { s.mc with moving := s.mc.moving ++ [r] } }.startCopy r

/-- MIGRATION_START (R51, R252): of a retiring rank's extents, or of extents of the engine's own choosing while DEFRAG_EN is 1.
Of ranks that retired in one cycle the lowest choose their targets first (R261). -/
def execMigrationStart (rank : Option RankNo) (extents : BitVec 20) (s : State) : Host.Outcome State Fault Refusal :=
  .next (match rank with
    | some r =>
      if s.rankLeaving r && !s.mc.moving.contains r.val then
        let lower := (upto r.val).filter (fun q => s.rankLeaving q && !s.mc.moving.contains q &&
          decide (mfind s.mc.retAt q = mfind s.mc.retAt r.val))
        (forEach State.startMoving (lower ++ [r.val]) s).rankFlags
      else s
    | none => if s.active Reg.PLC_CFG_DEFRAG_EN = 1 then s.addJob 0 extents.toNat else s)

/-- Whether the copies to or from a rank are stopped for temperature (R246, R261). -/
def State.rankHot (s : State) (r : Nat) : Bool := s.mc.hotStks.contains (stackOf r)

/-- s with the copy of an extent e from rank r to rank q complete: the references to its lines switch to the target, and the next
copy begins (R252). -/
def State.copyDone (s : State) (r e q : Nat) (x : Ext) : State :=
  let s1 := { s with mc := { s.mc with copies := mdel s.mc.copies r } }
  (((s1.setExt e { x with rank := q }).extLess r).startCopy r).settleRanks

/-- s with one extent of the other migrations copied. -/
def State.jobDone (s : State) : State :=
  match s.mc.jobs with
  | [] => s
  | (i, n) :: _ => { s with mc := { s.mc with jobs := if n ≤ 1 then mdel s.mc.jobs i else mins s.mc.jobs i (n - 1) } }

/-- MIGRATION_EXTENT_DONE (R252, R253): an extent's lines switch to the target; an empty rank is RETIRED. Priority-5
traffic stops on a stack while it is HOT, and in self-refresh (R246, R261). -/
def execMigrationExtentDone (rank : Option RankNo) (s : State) : Host.Outcome State Fault Refusal :=
  .next (
    if s.get Reg.MEM_SR_ACTIVE ≠ 0 then s
    else match rank with
    | some r =>
      (match mfind s.mc.copies r.val with
       | none => s
       | some (e, q) =>
         match s.ext e with
         | none => s
         | some x => if s.rankHot r.val || s.rankHot q then s else s.copyDone r.val e q x)
    | none => if s.get Reg.MEM_STATUS_HOT = 1 then s else s.jobDone)

/-- The MRAM's retirement records after one is written: cause 0 clears a rank's record. -/
def recordWritten (l : List (Nat × Nat)) (p : Nat × Nat) : List (Nat × Nat) :=
  l.filter (fun q => decide (q.1 ≠ p.1)) ++ (if p.2 = 0 then [] else [p])

/-- RETIREMENT_RECORD_WRITE (R252, R338): S0 records a retirement in the MRAM, unless new MRAM writes are refused (R354). -/
def execRetirementRecordWrite (rank : RankNo) (s : State) : Host.Outcome State Fault Refusal :=
  .next (
    if s.get Reg.NVS_SUPPLY_NV_BLOCK = 1 then s
    else match s.mc.records.find? (fun p => decide (p.1 = rank.val)) with
      | none => s
      | some p =>
        { s with
          mc := { s.mc with records := s.mc.records.filter (fun q => decide (q.1 ≠ rank.val)) },
          pw := { s.pw with retired := recordWritten s.pw.retired p } })

end Sys2Proof.Machine
end

