-- ==== Sys2Proof/Machine/PatCmds.lean ====
section
/-! DEFINITION. Timing-set commits (R185 to R187), the safe state of the outputs by register (R175, R198, R200), and the
recording controls (R194, R230). -/

namespace Sys2Proof.Machine

/-- The drive edges that a format uses (R190). -/
def usedEdges (fmt : Nat) : List Nat :=
  match fmt with
  | 0 => [0]
  | 1 => [0, 1]
  | 2 => [0, 1]
  | 3 => [0, 1, 2]
  | _ => [0, 3]

/-- Whether edge values stand in order, at least p apart from one another, and below a period. -/
def edgesOrdered (p period : Nat) : List Nat → Bool
  | [] => true
  | [a] => decide (a < period)
  | a :: b :: l => decide (a + p ≤ b) && edgesOrdered p period (b :: l)

/-- The absolute swing of pin k of group g in mV (R182). -/
def State.swing (s : State) (g k : Nat) : Nat :=
  (s.level g (Reg.PIN_DRV_HI g k) - s.level g (Reg.PIN_DRV_LO g k)).natAbs

/-- A staging buffer as a vector cycle's rows, to read its fields. -/
def stageView (rows : SMap Word72) : VCyc := ⟨0, 0, 0, 0, rows, [], false, 0, 0, 0, none, false⟩

/-- Whether the staged set of a pin is legal within the staged period (R186). -/
def pinStaged (g : Nat) (v : VCyc) (k : Nat) : Bool :=
  decide (v.fmt k ≤ 4) &&
  edgesOrdered (if g < 6 then 126 else 15729) v.period ((usedEdges (v.fmt k)).map (v.edge k)) &&
  (if v.window k then
     decide (v.cEdge k false ≤ v.cEdge k true ∧ v.cEdge k true < v.period ∧
       v.cEdge k true - v.cEdge k false ≤ 8192)
   else decide (v.cEdge k false < v.period))

/-- Whether a staging buffer of group g may be committed (R186): bad says that a row above 24 has been addressed. -/
def State.stageLegal (s : State) (g : Nat) (rows : SMap Word72) (bad : Bool) : Bool :=
  let v := stageView rows
  !bad && decide ((if g < 6 then 512 else 31458) ≤ v.period) &&
  !(decide (v.period < 1573) && decide (g < 6) && (upto 8).any (fun k => decide (1800 < s.swing g k))) &&
  (upto 8).all (fun k => pinStaged g v k)

/-- The shortest PERIOD in either bank of group g (GRP_PMIN). -/
def State.shortest (s : State) (g : Nat) : Nat :=
  (upto 32).foldl (fun m n => Nat.min m (s.period g n)) (s.period g 0)

/-- The bits of row r of a timing set that are no reserved bits (R185): reserved ones read 0 (R4). -/
def rowBits (r : Nat) : Nat := if r = 0 then 32 else if r % 3 = 1 then 68 else 64

/-- s with set n of group g replaced by 25 staged rows (R186): the whole set in one step. -/
def State.commitSet (s : State) (g n : Nat) (rows : SMap Word72) : State :=
  let x := s.group g
  let row := fun (r : Nat) => BitVec.ofNat 72 ((mget (fun _ => 0) rows r).toNat % 2 ^ rowBits r)
  let sets := (upto 25).foldl (fun m r => mset setDefault m (32 * n + r) (row r)) x.sets
  let s1 := s.setGroup g { x with sets := sets }
  s1.put (Reg.GRP_PMIN g) (s1.shortest g)

/-- s with ROW of group g's host staging advanced by 1: discarded where software has written ROW in this cycle (R187,
R331). -/
def State.rowAdvance (s : State) (g : Nat) : State :=
  let f := Reg.TS_HSTAGE_ADDR_ROW g
  if (mfind s.wrote f.addr).isSome then s.collide f.addr else s.put f ((s.get f + 1) % 256)

/-- TS_HSTAGE_D2_WRITE (R187): D2's write stores the row and advances ROW by 1. -/
def execTsHstageD2Write (g : Grp) (v : Word) (s : State) : Host.Outcome State Fault Refusal :=
  let s1 := s.plainWrite (Reg.TS_HSTAGE_D2 g).addr v.toNat
  let row := s1.get (Reg.TS_HSTAGE_ADDR_ROW g)
  let w : Word72 := BitVec.ofNat 72
    (s1.get (Reg.TS_HSTAGE_D0 g) + 2 ^ 32 * s1.get (Reg.TS_HSTAGE_D1 g) + 2 ^ 64 * (v.toNat % 256))
  let x := s1.group g
  let s2 := if row ≤ 24 then s1.setGroup g { x with hstage := mset (fun _ => 0) x.hstage row w }
    else s1.setGroup g { x with hbad := true }
  .next (s2.rowAdvance g)

/-- TS_HCOMMIT (R187): a GO waits for the next strobe of the group, replacing one that waits. -/
def execTsHcommit (g : Grp) (v : Word) (s : State) : Host.Outcome State Fault Refusal :=
  .next (if v.toNat % 2 = 1 then s.put (Reg.TS_HCOMMIT_PEND g) 1 else s)

/-- s with the pending host commit of group g made at a strobe (R186, R187): the contents, or STS_RANGE. -/
def State.hostCommit (s : State) (g : Nat) : State :=
  if s.get (Reg.TS_HCOMMIT_PEND g) = 0 then s
  else
    let s1 := s.put (Reg.TS_HCOMMIT_PEND g) 0
    let x := s1.group g
    let s2 := s1.setGroup g { x with hbad := false }
    if s1.stageLegal g x.hstage x.hbad then
      (s2.commitSet g (s1.get (Reg.TS_HSTAGE_ADDR_SET g)) x.hstage).put (Reg.TS_HCOMMIT_STS g) Sts.ok.code
    else s2.put (Reg.TS_HCOMMIT_STS g) Sts.range.code

/-- s with a write of v to WAV_CTRL or GRP_CTRL of tile t: FORCE_SAFE 1 opens the output at the write; FORCE_SAFE 0 lets it
leave its safe state in the next cycle (R175, R177, R198, R202). -/
def State.safeWrite (s : State) (t : Nat) (v : Word) : State :=
  let s1 := s.plainWrite (forceSafeFld t).addr v.toNat
  if s1.get (forceSafeFld t) = 1 then s1.openOutput t else s1

/-- WAV_FORCE_SAFE_SET (R175). -/
def execWavForceSafeSet (w : Wave) (v : Word) (s : State) : Host.Outcome State Fault Refusal :=
  .next (s.safeWrite w.val v)

/-- WAV_FORCE_SAFE_CLEAR (R177). -/
def execWavForceSafeClear (w : Wave) (v : Word) (s : State) : Host.Outcome State Fault Refusal :=
  .next (s.safeWrite w.val v)

/-- GRP_FORCE_SAFE_SET (R198). -/
def execGrpForceSafeSet (g : Grp) (v : Word) (s : State) : Host.Outcome State Fault Refusal :=
  .next (s.safeWrite (8 + g.val) v)

/-- GRP_FORCE_SAFE_CLEAR (R202). -/
def execGrpForceSafeClear (g : Grp) (v : Word) (s : State) : Host.Outcome State Fault Refusal :=
  .next (s.safeWrite (8 + g.val) v)

/-- LIVE_HOLD (R200): a write of GRP_CTRL of G0, or of G4 for the second connector. -/
def execLiveHold (second : Bool) (v : Word) (s : State) : Host.Outcome State Fault Refusal :=
  .next (s.safeWrite (if second then 12 else 8) v)

/-- RANGE_MUTE_END (R176): 2 µs after the transfer the mute ends. -/
def execRangeMuteEnd (w : Wave) (s : State) : Host.Outcome State Fault Refusal :=
  .next (match (s.wave w).muteUntil with
    | some n => if n ≤ s.now then s.setWave w { s.wave w with muteUntil := none } else s
    | none => s)

/-! ## Recording controls -/

/-- Whether buffer entry b has a start source armed. -/
def State.armedOf (s : State) (b : Nat) : Bool := if b < 8 then (s.capture b).armed else (s.group (b - 8)).armed

/-- s with the start source of buffer entry b armed or not. -/
def State.setArmed (s : State) (b : Nat) (a : Bool) : State :=
  if b < 8 then s.setCapture b { s.capture b with armed := a } else s.setGroup (b - 8) { s.group (b - 8) with armed := a }

/-- CAP_REC_CTRL or PCAP_CTRL of buffer entry b. -/
def recCtrl (b : Nat) : Fld := if b < 8 then Reg.CAP_REC_CTRL_START b else Reg.PCAP_CTRL_START (b - 8)

/-- START_SRC of buffer entry b. -/
def State.startSrc (s : State) (b : Nat) : Nat :=
  if b < 8 then s.get (Reg.CAP_REC_CTRL_START_SRC b) else s.get (Reg.PCAP_CTRL_START_SRC (b - 8))

/-- s with a write of v to the recording control of buffer entry b (R194, R202, R230, R235): a stop wins over a start. -/
def State.recCtrlWrite (s : State) (b : Nat) (v : Word) : State :=
  let s1 := s.plainWrite (recCtrl b).addr v.toNat
  if fieldOf v.toNat 1 1 = 1 then (s1.setArmed b false).recHalt b
  else if v.toNat % 2 = 1 then (if s1.startSrc b = 0 then s1.recGo b else s1.setArmed b true)
  else s1

/-- PCAP_START (R194). -/
def execPcapStart (g : Grp) (v : Word) (s : State) : Host.Outcome State Fault Refusal :=
  .next (s.recCtrlWrite (8 + g.val) v)

/-- PCAP_STOP (R194). -/
def execPcapStop (g : Grp) (v : Word) (s : State) : Host.Outcome State Fault Refusal :=
  .next (s.recCtrlWrite (8 + g.val) v)

/-- CAP_RECORD_START (R230). -/
def execCapRecordStart (c : CapCh) (v : Word) (s : State) : Host.Outcome State Fault Refusal :=
  .next (s.recCtrlWrite c.val v)

/-- CAP_RECORD_STOP (R231). -/
def execCapRecordStop (c : CapCh) (v : Word) (s : State) : Host.Outcome State Fault Refusal :=
  .next (s.recCtrlWrite c.val v)

/-- CBUF_TRIG (R231): a write of CBUF_CFG; TRIG triggers now where TRIG_SRC selects the register. -/
def execCbufTrig (b : BufNo) (v : Word) (s : State) : Host.Outcome State Fault Refusal :=
  let s1 := s.plainWrite (Reg.CBUF_CFG_TRIG b).addr v.toNat
  .next (if fieldOf v.toNat 8 1 = 1 ∧ s1.get (Reg.CBUF_CFG_TRIG_SRC b) = 1 then s1.recTrigger b (s1.tsAt s1.now) else s1)

/-- RECORDING_END (R231): the recording has reached its end of itself. -/
def execRecordingEnd (b : BufNo) (s : State) : Host.Outcome State Fault Refusal :=
  .next (match s.recOf b with
    | some r => if !r.ended && s.recFull b r then s.recEnd b .ok else s
    | none => s)

/-- RECORDING_DRAIN_COMPLETE (R232): the last word of the recording that ended first is in memory; the segment becomes READY, and
STATE reads done where no newer recording has begun. -/
def execRecordingDrainComplete (b : BufNo) (s : State) : Host.Outcome State Fault Refusal :=
  .next (if !(s.drainsOf b).isEmpty then s.setDrains b (s.drainsOf b).tail
    else match s.recOf b with
    | some r => if r.ended then (s.setRec b none).put (Reg.CBUF_STATUS_STATE b) 4 else s
    | none => s)

end Sys2Proof.Machine
end

