-- ==== Sys2Proof/Machine/CapEngine.lean ====
section
/-! DEFINITION. The chain of a capture channel, one input sample at a time (R205 to R229). -/

namespace Sys2Proof.Machine

/-! ## Settings -/

/-- D_cic in force. -/
def State.cicD (s : State) (c : Nat) : Nat := s.active (Reg.FLT_CFG_CIC_D c)

/-- Whether the compensation FIR runs (R212). -/
def State.compOn (s : State) (c : Nat) : Bool := decide (s.cicD c ≠ 1 ∧ s.active (Reg.FLT_CFG_COMP_EN c) = 1)

/-- Tap i of bank b of channel c (R222). -/
def State.firTap (s : State) (c b i : Nat) : Int := (mget (fun _ => 0) (s.capture c).taps (128 * b + i)).toInt

/-- TAPS of bank b. -/
def State.firTaps (s : State) (c b : Nat) : Nat :=
  (if b = 0 then s.get (Reg.FIR_BANK_A_TAPS c) else s.get (Reg.FIR_BANK_B_TAPS c)) + 1

/-- Whether bank b is symmetric (R222). -/
def State.firSym (s : State) (c b : Nat) : Bool :=
  let n := s.firTaps c b
  (upto n).all (fun i => decide (s.firTap c b i = s.firTap c b (n - 1 - i)))

/-- GD_BANK of the active bank in half output samples (R222). -/
def State.gdBank (s : State) (c : Nat) : Nat :=
  let b := s.get (Reg.FIR_STATUS_ACTIVE c)
  if s.firSym c b then s.firTaps c b - 1
  else if b = 0 then s.get (Reg.FIR_BANK_A_GD c) else s.get (Reg.FIR_BANK_B_GD c)

/-- h1 of R206 ff.: 2 with halfband 1 enabled. -/
def State.hb1Rate (s : State) (c : Nat) : Nat := 2 ^ s.active (Reg.FLT_CFG_HB1_EN c)

/-- G_in in half input samples (R217). -/
def State.chainDelay (s : State) (c : Nat) : Nat :=
  let D := s.cicD c
  (if s.active (Reg.FLT_CFG_EQ_EN c) = 1 then s.active (Reg.EQ_CFG c) else 0) + 5 * (D - 1) +
  (if s.compOn c then 30 * D else 0) + (if s.active (Reg.FLT_CFG_HB1_EN c) = 1 then 46 * D else 0) +
  (if s.active (Reg.FLT_CFG_HB2_EN c) = 1 then 46 * D * s.hb1Rate c else 0) +
  (if s.active (Reg.FLT_CFG_FIR_EN c) = 1 then s.gdBank c * s.decim c else 0)

/-- FLT_GD_FINE, FLT_GD_OUT and FLT_GD_CC (R217). -/
def State.gdFine (s : State) (c : Nat) : Nat := 32 * s.chainDelay c
def State.gdOut (s : State) (c : Nat) : Nat := 128 * s.chainDelay c / s.decim c
def State.gdCc (s : State) (c : Nat) : Nat := ceilDiv (s.gdFine c) 1024

/-- S, the settling length (R219). -/
def State.settleLen (s : State) (c : Nat) : Nat :=
  let D := s.cicD c
  let span := (if s.active (Reg.FLT_CFG_EQ_EN c) = 1 then 31 else 0) + 5 * (D - 1) +
    (if s.compOn c then 30 * D else 0) + (if s.active (Reg.FLT_CFG_HB1_EN c) = 1 then 46 * D else 0) +
    (if s.active (Reg.FLT_CFG_HB2_EN c) = 1 then 46 * D * s.hb1Rate c else 0) +
    (if s.active (Reg.FLT_CFG_FIR_EN c) = 1 then
      (s.firTaps c (s.get (Reg.FIR_STATUS_ACTIVE c)) - 1) * s.decim c else 0)
  ceilDiv span (s.decim c)

/-- Whether the output samples of channel c are flagged settling now (R206, R221). -/
def State.settling (s : State) (c : Nat) : Bool :=
  decide ((s.capture c).chain.out < (s.capture c).settle) || (s.capture c).rngAt.isSome

/-! ## Synchronising reset -/

/-- s with a synchronising reset of channel c in this cycle (R220): the chain zeroed, the decimation phase and the output
count restarted, the settling count with them; the thresholds take their states afresh after it (R227). -/
def State.syncReset (s : State) (c : Nat) : State :=
  s.setCapture c { s.capture c with chain := Chain.init, epoch := s.now, settle := s.settleLen c, thr := [] }

/-- s with a hold of channel c begun (R233): its recording ends with STS_STATE. -/
def State.holdCap (s : State) (c : Nat) : State := s.recHold c

/-- s with every capture channel's hold begun. -/
def State.holdCaps (s : State) : State := forUpto (fun s c => s.holdCap c) 8 s

/-- s after a hold may have ended: each channel that is held no more takes a synchronising reset (R220). -/
def State.freeCaps (s : State) : State := forUpto (fun s c => if s.capHeld c then s else s.syncReset c) 8 s

/-! ## Stages -/

/-- i cut to n bits, and whether that changed it. -/
def satTo (n : Nat) (i : Int) : Int × Bool := (clampSigned n i, decide (clampSigned n i ≠ i))

/-- s with a saturation on channel c counted where b says so (R215). -/
def State.countSat (s : State) (c : Nat) (b : Bool) : State :=
  if b then (s.bump (Reg.CAP_SAT_CNT c)).put (Reg.CAP_STATUS_SAT c) 1 else s

/-- Σ f i × x i over a list, from tap i on. -/
def dotFrom (f : Nat → Int) : Nat → List Int → Int
  | _, [] => 0
  | i, x :: xs => f i * x + dotFrom f (i + 1) xs

/-- A stage of taps f standing for f / 2^16 over a history, rounded half up and saturated to n bits (R208, R214, R215). -/
def firStage (n : Nat) (f : Nat → Int) (l : List Int) : Int × Bool := satTo n ((dotFrom f 0 l + 32768) / 65536)

/-- The five integrators after an input (R209). -/
def integrate : BitVec 72 → List (BitVec 72) → List (BitVec 72)
  | _, [] => []
  | x, i :: is => (i + x) :: integrate (i + x) is

/-- The five combs (R209): what they leave, and their state. -/
def combs : BitVec 72 → List (BitVec 72) → BitVec 72 × List (BitVec 72)
  | c, [] => (c, [])
  | c, z :: zs => ((combs (c - z) zs).1, c :: (combs (c - z) zs).2)

/-- The least k with a ≤ 2^k, searching from k. -/
def log2Up (a : Nat) : Nat → Nat → Nat
  | 0, k => k
  | n + 1, k => if a ≤ 2 ^ k then k else log2Up a n (k + 1)

/-- The CIC's output normalised to 24 bits (R211). -/
def cicNorm (D : Nat) (y : Int) : Int :=
  let s5 := log2Up (D ^ 5) 64 0
  if 12 < s5 then (y + 2 ^ (s5 - 13)) / 2 ^ (s5 - 12) else y * 2 ^ (12 - s5)

/-- The sum of f over the taps below n. -/
def tapSum (f : Nat → Int) : Nat → Int
  | 0 => 0
  | n + 1 => tapSum f n + f n

/-- Tap i of 2m + 1 symmetric taps that add up to a gain, f giving those below the middle one (R212, R213). -/
def symTap (m : Nat) (gain : Int) (f : Nat → Int) (i : Nat) : Int :=
  if i = m then gain - 2 * tapSum f m else if i < m then f i else f (2 * m - i)

/-- One in the scale of the module's own taps. -/
def tapOne : Int := 2 ^ 22

/-- A stage of the module's own taps over a history, rounded half up and saturated to 24 bits (R215). -/
def firWide (f : Nat → Int) (l : List Int) : Int × Bool := satTo 24 ((dotFrom f 0 l + tapOne / 2) / tapOne)

/-- The DC gain of the compensation FIR for a decimation: with the CIC's own, D^5 / 2^S5, it makes 1 within 2^−18 (R211,
R212). -/
def compGain (D : Nat) : Int :=
  let d5 : Int := (D ^ 5 : Nat)
  (tapOne * 2 ^ log2Up (D ^ 5) 64 0 + d5 / 2) / d5

/-- The 31 taps of the compensation FIR for a decimation (R212). -/
def compTaps (D : Nat) : Nat → Int := symTap 15 (compGain D) (fun i => (Config.compTap D i).toInt)

/-- The 47 taps of a halfband (R213): at DC it lies within 0.01 dB of 1. -/
def halfband : Nat → Int :=
  symTap 23 (tapOne + ((Config.halfbandDc.toNat % 9649 : Nat) : Int) - 4824) (fun i => (Config.halfbandTap i).toInt)

/-- The output of the FIR stage over a history (R214, R225): of the active bank, or of both in a fade whose sample n of N
this is. -/
def State.firOut (s : State) (c : Nat) (l : List Int) : Int × Bool :=
  let a := s.get (Reg.FIR_STATUS_ACTIVE c)
  let run := fun b => firStage 24 (s.firTap c b) (l.take (s.firTaps c b))
  match (s.capture c).fade with
  | none => run a
  | some f =>
    let old := run (1 - a)
    let new := run a
    ((old.1 * ((f.n - f.done - 1 : Nat) : Int) + new.1 * ((f.done + 1 : Nat) : Int) + (f.n / 2 : Nat)) / (f.n : Int),
      old.2 || new.2)

/-! ## Swaps (R224 to R226) -/

/-- Whether channel c forms an output sample in this cycle (R216): its chain takes 16 input samples, and forms one with every
d-th since the last synchronising reset. -/
def State.formsOutput (s : State) (c : Nat) : Bool :=
  let n := (s.capture c).chain.n
  !s.capHeld c && decide (n / s.decim c < (n + 16) / s.decim c)

/-- Whether the fade of a triggered swap of channel c starts in this cycle (R224, R235). -/
def State.fadeStarts (s : State) (c : Nat) : Bool :=
  (match (s.capture c).swap with
   | some w => (s.capture c).triggered && decide (w.after < s.now) && (s.capture c).fade.isNone
   | none => false) && s.formsOutput c

/-- N of a fade code. -/
def fadeLen (code : Nat) : Option Nat :=
  match code with
  | 0 => some 0
  | 1 => some 16
  | 2 => some 64
  | 3 => some 256
  | 4 => some 1024
  | _ => none

/-- s with the pending swap of channel c triggered in this cycle: held while a fade is in progress. -/
def State.swapTrigger (s : State) (c : Nat) : State :=
  match (s.capture c).swap with
  | some w =>
    let s1 := s.setCapture c { s.capture c with swap := some { w with after := s.now }, triggered := true }
    if (s.capture c).fade.isSome then s1.put (Reg.FIR_STATUS_HELD c) 1 else s1
  | none => s

/-- s with the fade of a triggered swap of channel c started at the output sample about to be formed, when one may be: the
first formed after the trigger's cycle, with no fade in progress. -/
def State.fadeBegin (s : State) (c : Nat) : State :=
  match (s.capture c).swap with
  | some w =>
    if (s.capture c).triggered && decide (w.after < s.now) && (s.capture c).fade.isNone then
      let n := (fadeLen w.fade).getD 0
      let s1 := s.setCapture c { s.capture c with
        swap := none, triggered := false, fade := if n = 0 then none else some ⟨n, 0⟩ }
      ((s1.put (Reg.FIR_STATUS_ACTIVE c) (1 - s.get (Reg.FIR_STATUS_ACTIVE c))).put (Reg.FIR_STATUS_HELD c) 0)
    else s
  | none => s

/-- s with a fade of channel c that has served its N samples ended. -/
def State.fadeFinish (s : State) (c : Nat) : State :=
  match (s.capture c).fade with
  | some f => if f.n ≤ f.done then s.setCapture c { s.capture c with fade := none } else s
  | none => s

/-! ## Thresholds (R227 to R229) -/

/-- Threshold i of channel c. -/
def State.thr (s : State) (c i : Nat) : Thr := mget (fun _ => Thr.fresh) (s.capture c).thr i

/-- s with threshold i of channel c replaced. -/
def State.setThr (s : State) (c i : Nat) (t : Thr) : State :=
  s.setCapture c { s.capture c with thr := mset (fun _ => Thr.fresh) (s.capture c).thr i t }

/-- LEVEL_A, LEVEL_B and HYST of threshold i in force. -/
def State.thrLevels (s : State) (c i : Nat) : Int × Int × Int :=
  (signedOf 16 (s.active (Reg.TH_LEVEL_LEVEL_A c i)), signedOf 16 (s.active (Reg.TH_LEVEL_LEVEL_B c i)),
    (s.active (Reg.TH_HYST c i) : Nat))

/-- The condition under which Q becomes 1. -/
def State.thrOne (s : State) (c i : Nat) (x : Int) : Bool :=
  let l := s.thrLevels c i
  if s.active (Reg.TH_CFG_MODE c i) = 3 then decide (l.1 ≤ x ∧ x ≤ l.2.1) else decide (l.1 ≤ x)

/-- The condition under which Q becomes 0. -/
def State.thrZero (s : State) (c i : Nat) (x : Int) : Bool :=
  let l := s.thrLevels c i
  decide (x < l.1 - l.2.2) || (decide (s.active (Reg.TH_CFG_MODE c i) = 3) && decide (l.2.1 + l.2.2 < x))

/-- s with a change of Q of threshold i at a timestamp: its event source occurs where MODE says so (R227, R228). -/
def State.thrChange (s : State) (c i : Nat) (q : Bool) (ts : Ts) : State :=
  let mode := s.active (Reg.TH_CFG_MODE c i)
  let s1 := s.setThr c i ⟨q, 0, false⟩
  if mode = 2 ∨ mode = 3 ∨ (mode = 0 ∧ q = true) ∨ (mode = 1 ∧ q = false) then
    -- the cycle of the timestamp is that of the model's count
    (s1.bump (Reg.TH_CNT c i)).occur (0x001 + (4 * c + i)) (s1.cycleOf (ts.toNat / 1024) + 20 + s1.gdCc c) ts
  else s1

/-- s with threshold i of channel c judging output sample x. -/
def State.thrSample (s : State) (c i : Nat) (x : Int) (ts : Ts) : State :=
  let t := s.thr c i
  if s.active (Reg.TH_CFG_EN c i) = 0 then s.setThr c i Thr.fresh
  else if s.settling c then s
  else if t.init then s.setThr c i ⟨s.thrOne c i x, 0, false⟩
  else
    let hit := if t.q then s.thrZero c i x else s.thrOne c i x
    if !hit then s.setThr c i { t with run := 0 }
    else if s.active (Reg.TH_CFG_DWELL c i) ≤ t.run then s.thrChange c i (!t.q) ts
    else s.setThr c i { t with run := t.run + 1 }

/-- The flag of an output sample (R229). -/
def State.flagOf (s : State) (c : Nat) : Nat :=
  let on := fun i => decide (s.active (Reg.TH_CFG_EN c i) = 1) && (s.thr c i).q
  if s.settling c then 3
  else if s.active (Reg.CAP_FLAG_A_EN c) = 1 ∧ on (s.active (Reg.CAP_FLAG_A_SEL c)) = true then 1
  else if s.active (Reg.CAP_FLAG_B_EN c) = 1 ∧ on (s.active (Reg.CAP_FLAG_B_SEL c)) = true then 2
  else 0

/-! ## One sample -/

/-- The timestamp of the output sample formed from input sample i of this cycle (R218). -/
def State.sampleTs (s : State) (c i : Nat) : Ts :=
  BitVec.ofNat 74 (s.sysTime s.now * 1024 + 64 * i + 2 ^ 74 - s.gdFine c)

/-- s with an output sample formed from the input v' of the programmable FIR (R214, R215, R225, R227 to R231). -/
def State.capOutput (s0 : State) (c i : Nat) (v : Int) : State :=
  let s := s0.fadeBegin c
  let x := s.capture c
  let hist := (v :: x.chain.fir).take 128
  let w := if s.active (Reg.FLT_CFG_FIR_EN c) = 1 then s.firOut c hist else (v, false)
  let o := satTo 16 ((w.1 * 2 ^ s.active (Reg.FLT_CFG_OUT_SH c) + 128) / 256)
  let s1 := ((s.setCapture c { x with
    chain := { x.chain with fir := hist },
    fade := x.fade.map (fun f => { f with done := f.done + 1 }) }).countSat c w.2).countSat c o.2
  let ts := s1.sampleTs c i
  let s2 := forUpto (fun s k => s.thrSample c k o.1 ts) 4 s1
  let unit := unsignedOf 16 o.1 + 65536 * s2.flagOf c
  let s3 := s2.setCapture c { s2.capture c with chain := { (s2.capture c).chain with out := (s2.capture c).chain.out + 1 } }
  (s3.recUnit c unit 0 ts).fadeFinish c

/-- s with the chain of channel c replaced. -/
def State.setChain (s : State) (c : Nat) (h : Chain) : State := s.setCapture c { s.capture c with chain := h }

/-- s with a sample at the rate of halfband 2's input taken (R213). -/
def State.capHb2 (s : State) (c i : Nat) (v : Int) : State :=
  if s.active (Reg.FLT_CFG_HB2_EN c) = 0 then s.capOutput c i v
  else
    let h := (s.capture c).chain
    let hist := (v :: h.hb2).take 47
    let s1 := s.setChain c { h with hb2 := hist, nhb2 := h.nhb2 + 1 }
    if h.nhb2 % 2 = 0 then s1
    else
      let r := firWide halfband hist
      (s1.countSat c r.2).capOutput c i r.1

/-- s with a sample at the rate of halfband 1's input taken (R213). -/
def State.capHb1 (s : State) (c i : Nat) (v : Int) : State :=
  if s.active (Reg.FLT_CFG_HB1_EN c) = 0 then s.capHb2 c i v
  else
    let h := (s.capture c).chain
    let hist := (v :: h.hb1).take 47
    let s1 := s.setChain c { h with hb1 := hist, nhb1 := h.nhb1 + 1 }
    if h.nhb1 % 2 = 0 then s1
    else
      let r := firWide halfband hist
      (s1.countSat c r.2).capHb2 c i r.1

/-- s with a CIC output taken by the compensation FIR (R212). -/
def State.capComp (s : State) (c i : Nat) (v : Int) : State :=
  if !s.compOn c then s.capHb1 c i v
  else
    let h := (s.capture c).chain
    let hist := (v :: h.comp).take 31
    let r := firWide (compTaps (s.cicD c)) hist
    ((s.setChain c { h with comp := hist }).countSat c r.2).capHb1 c i r.1

/-- s with an equalised sample taken by the CIC (R209 to R211). -/
def State.capCic (s : State) (c i : Nat) (x : Int) : State :=
  let D := s.cicD c
  if D = 1 then s.capComp c i (x * 4096)
  else
    let h := (s.capture c).chain
    let ints := integrate (BitVec.ofInt 72 x) h.cic
    let h1 := { h with cic := ints, ncic := if h.ncic + 1 = D then 0 else h.ncic + 1 }
    if h.ncic + 1 ≠ D then s.setChain c h1
    else
      let r := combs (ints.getLastD 0) h.comb
      (s.setChain c { h1 with comb := r.2 }).capComp c i (cicNorm D r.1.toInt)

/-- s with input sample i of this cycle taken by channel c (R205, R207, R208). -/
def State.capSample (s : State) (c i : Nat) : State :=
  let code := Config.adcCode c s.now i
  let s1 := if code.toInt = -2048 ∨ code.toInt = 2047 then (s.bump (Reg.CAP_CLIP_CNT c)).put (Reg.CAP_STATUS_CLIP c) 1 else s
  let h := (s1.capture c).chain
  let codes := (code :: h.xc).take 64
  let corr := decide (s1.active (Reg.FLT_CFG_CORR_EN c) = 1)
  let skew := s1.active (Reg.CAP_SKEW c)
  let xc : Int := if corr then (Config.correct c skew (s1.calCoef (9 + c)) codes).toInt else code.toInt
  let s2 := s1.countSat c (corr && Config.correctSat c skew (s1.calCoef (9 + c)) codes)
  let hist := (xc :: h.eq).take 32
  let xe := if s2.active (Reg.FLT_CFG_EQ_EN c) = 1 then
      firStage 12 (fun k => signedOf 18 (s2.active (Reg.EQ_COEF c k))) hist else (xc, false)
  (((s2.setChain c { h with xc := codes, eq := hist, n := h.n + 1 }).countSat c xe.2).capCic c i xe.1)

/-- s after this core cycle on channel c: nothing while it is held (R233). -/
def State.capTick (s : State) (c : Nat) : State :=
  if s.capHeld c then s else forUpto (fun s i => s.capSample c i) 16 s

end Sys2Proof.Machine
end

