-- ==== Sys2Proof/Machine/CalBase.lean ====
section
/-! DEFINITION. A calibration procedure's hold on the outputs, and its early end (R360, R362, R364). -/

namespace Sys2Proof.Machine

/-- The tiles that a procedure affects at its current target (R360): for an HBM retrain, all of them. -/
def CalRun.tiles (r : CalRun) : List Nat :=
  match r.op with
  | 1 => [r.cur]
  | 2 => upto 8
  | 4 => [8 + r.cur]
  | 5 => [8 + r.cur]
  | 7 => upto 16
  | _ => []

/-- The tiles whose outputs a procedure holds safe (R362). -/
def CalRun.safes (r : CalRun) : List Nat := if r.op = 7 then [] else r.tiles

/-- s with the current target of a procedure taken: its outputs safe, or its capture channel held (R362). -/
def State.calTake (s : State) (r : CalRun) : State :=
  let s1 := forEach (fun s t => s.latchOn t (fun l => { l with cal := true })) r.safes s
  if r.op = 3 then (s1.setCapture r.cur { s1.capture r.cur with calHeld := true }).holdCap r.cur else s1

/-- s with the current target of a procedure let go: the end of a channel's hold is a synchronising reset (R220). -/
def State.calDrop (s : State) (r : CalRun) : State :=
  let s1 := forEach (fun s t => s.latchOff t (fun l => { l with cal := false })) r.safes s
  if r.op = 3 then
    let s2 := s1.setCapture r.cur { s1.capture r.cur with calHeld := false }
    if s2.capHeld r.cur then s2 else s2.syncReset r.cur
  else s1

/-- s with a calibration command reported (R360). -/
def State.calReport (s : State) (tag : Nat) (e : Sts) : State :=
  ((s.put Reg.CAL_CMD_STATUS_TAG tag).put Reg.CAL_CMD_STATUS_STS e.code).put Reg.CAL_CMD_STATUS_BUSY 0

/-- s with the procedure in progress over: nothing holds its target any more; one that the boot runs reports nothing. -/
def State.calOver (s : State) (r : CalRun) (e : Sts) : State :=
  let s1 := { s with cal := { s.cal with run := none } }.calDrop r
  if r.boot then s1 else s1.calReport r.tag e

/-- s with the procedure in progress ended with STS_STATE, nothing applied, if p selects it (R364). -/
def State.endCalWhere (s : State) (p : CalRun → Bool) : State :=
  match s.cal.run with
  | some r =>
    if p r then
      let s1 := if r.op = 7 then
          { s with mc := { s.mc with retrain := none } }.put Reg.MEM_STATUS_TRAINING 0 else s
      s1.calOver r .state
    else s
  | none => s

/-- s with the procedure in progress ended with STS_STATE (R364). -/
def State.endCal (s : State) : State := s.endCalWhere (fun _ => true)

/-- What a calibration procedure in progress makes of a START or RESUME on tile t (R360). -/
def State.calHold (s : State) (t : Nat) : Option Sts :=
  match s.cal.run with
  | some r => if r.tiles.contains t then some .busy else none
  | none => if s.mc.retrain.isSome then some .busy else none

end Sys2Proof.Machine
end

