-- ==== Sys2Proof/Machine/CapCmds.lean ====
section
/-! DEFINITION. The commands of a capture channel: resets, coefficient banks and swaps (R206, R220 to R226, R234, R235). -/

namespace Sys2Proof.Machine

/-- s with a capture channel reset of c in this cycle (R234): the recording ended, a fade completed with the new bank
active, a pending swap discarded, a synchronising reset, and counters and sticky bits zero. -/
def State.captureReset (s : State) (c : Nat) : State :=
  let s1 := (s.endCalWhere (fun r => decide (r.op = 3 ∧ r.cur = c))).recHold c
  -- a request of this cycle is accepted after the reset (R235)
  let keep := match (s1.capture c).swap with
    | some w => decide (w.acc = s.now)
    | none => false
  let s2 := s1.setCapture c { s1.capture c with
    fade := none, swap := (if keep then (s1.capture c).swap else none), triggered := keep && (s1.capture c).triggered,
    sync := none, rngAt := none }
  let s3 := s2.syncReset c
  let s4 := forEach (fun s f => s.put f 0) [Reg.CAP_SAT_CNT c, Reg.CAP_CLIP_CNT c, Reg.CAP_STATUS_SAT c, Reg.CAP_STATUS_CLIP c, Reg.CAP_STATUS_CFG_REFUSED c,
    Reg.CAP_STATUS_SYNC_PEND c, Reg.CAP_STATUS_DEFERRED c, Reg.CAP_STATUS_RNG_SETTLE c, Reg.FIR_STATUS_REPLACED c, Reg.FIR_STATUS_HELD c] s3
  forUpto (fun s i => s.put (Reg.TH_CNT c i) 0) 4 s4

/-- s with a synchronising reset of channel c requested at SYNC_SRC (R220): the next cycle, or a pulse or strobe to come. -/
def State.syncRequest (s : State) (c : Nat) : State :=
  (s.setCapture c { s.capture c with
    sync := if s.active (Reg.CAP_CTRL_SYNC_SRC c) = 0 then some (s.now + 1) else none }).put (Reg.CAP_STATUS_SYNC_PEND c) 1

/-- s with a write of v to CAP_CTRL of channel c: CH_RST resets the channel, SYNC requests a synchronising reset. -/
def State.capCtrlWrite (s : State) (c : Nat) (v : Word) : State :=
  let s1 := s.plainWrite (Reg.CAP_CTRL_UPD_GRP c).addr v.toNat
  let s2 := if v.getLsbD 9 then s1.captureReset c else s1
  if v.getLsbD 8 then s2.syncRequest c else s2

/-- CAPTURE_CHANNEL_RESET (R234). -/
def execCaptureChannelReset (c : CapCh) (v : Word) (s : State) : Host.Outcome State Fault Refusal :=
  .next (s.capCtrlWrite c v)

/-- CAP_SYNC_REQUEST (R220). -/
def execCapSyncRequest (c : CapCh) (v : Word) (s : State) : Host.Outcome State Fault Refusal :=
  .next (s.capCtrlWrite c v)

/-- SYNCHRONISING_RESET (R220): a requested reset whose cycle has come. -/
def execSynchronisingReset (c : CapCh) (s : State) : Host.Outcome State Fault Refusal :=
  .next (match (s.capture c).sync with
    | some n =>
      if s.now < n then s
      else ((s.setCapture c { s.capture c with sync := none }).put (Reg.CAP_STATUS_SYNC_PEND c) 0).syncReset c
    | none => s)

/-- RANGE_SETTLE_RESET (R206): the reset that ends a range change. -/
def execRangeSettleReset (c : CapCh) (s : State) : Host.Outcome State Fault Refusal :=
  .next (match (s.capture c).rngAt with
    | some n =>
      if s.now < n then s
      else ((s.setCapture c { s.capture c with rngAt := none }).put (Reg.CAP_STATUS_RNG_SETTLE c) 0).syncReset c
    | none => s)

/-- SETTLING_END (R221): the S settling samples have been formed; the count is over until the next reset. -/
def execSettlingEnd (c : CapCh) (s : State) : Host.Outcome State Fault Refusal :=
  .next (if (s.capture c).settle ≤ (s.capture c).chain.out then s.setCapture c { s.capture c with settle := 0 } else s)

/-- FIR_BANK_WRITE (R223): a tap of bank A or B, or its FIR_BANK register; refused in the cycle of a fade's first sample too
(R235). -/
def execFirBankWrite (c : CapCh) (second : Bool) (tap : Option (Fin 128)) (v : Word) (s : State) :
    Host.Outcome State Fault Refusal :=
  let b := bit second
  .next (
    if (s.capture c).fade.isSome ∨ s.fadeStarts c = true ∨ (s.get (Reg.FIR_STATUS_ACTIVE c) = b ∧ s.active (Reg.FLT_CFG_FIR_EN c) = 1) then
      s.put (Reg.FIR_STATUS_WSTS c) Sts.bankbusy.code
    else
      let s1 := match tap with
        | some i => s.setCapture c { s.capture c with
            taps := mset (fun _ => 0) (s.capture c).taps (128 * b + i.val) (BitVec.ofNat 18 v.toNat) }
        | none => s.plainWrite (if second then (Reg.FIR_BANK_B_TAPS c).addr else (Reg.FIR_BANK_A_TAPS c).addr) v.toNat
      s1.put (Reg.FIR_STATUS_WSTS c) Sts.ok.code)

/-- FIR_SWAP (R224, R226): a request replaces a pending one; a reserved fade length is refused. -/
def execFirSwap (c : CapCh) (v : Word) (s : State) : Host.Outcome State Fault Refusal :=
  let w : Swap := ⟨fieldOf v.toNat 30 2, fieldOf v.toNat 16 10, fieldOf v.toNat 8 3, s.now, s.now⟩
  .next (
    if v.getLsbD 0 = false then s
    else if (fadeLen w.fade).isNone then s.put (Reg.FIR_STATUS_SSTS c) Sts.range.code
    else
      let s1 := if (s.capture c).swap.isSome then s.put (Reg.FIR_STATUS_REPLACED c) 1 else s
      let s2 := ((s1.setCapture c { s1.capture c with swap := some w, triggered := false }).put (Reg.FIR_STATUS_HELD c) 0).put
        (Reg.FIR_STATUS_SSTS c) Sts.ok.code
      if w.when_ = 0 then s2.swapTrigger c else s2)

/-- FADE_START (R225): the fade of a triggered swap starts, at the first output sample after the trigger's cycle and with no
fade in progress. -/
def execFadeStart (c : CapCh) (s : State) : Host.Outcome State Fault Refusal := .next (s.fadeBegin c)

/-- FADE_END (R225): a fade that has served its N samples ends. -/
def execFadeEnd (c : CapCh) (s : State) : Host.Outcome State Fault Refusal := .next (s.fadeFinish c)

end Sys2Proof.Machine
end

