-- ==== Sys2Proof/Machine/Monitors.lean ====
section
/-! DEFINITION. The event counters (R370, R371, R374). -/

namespace Sys2Proof.Machine

/-- The count of counter n. -/
def State.monCount (s : State) (n : Nat) : Nat := s.get64 (Reg.MON_COUNT_LO n) (Reg.MON_COUNT_HI n)

/-- s with the count of counter n replaced. -/
def State.setMonCount (s : State) (n v : Nat) : State := s.put64 (Reg.MON_COUNT_LO n) (Reg.MON_COUNT_HI n) (v % 2 ^ 48)

/-- s with a start of counter n (R371): of a running counter, or in the cycle of its stop, it does nothing. -/
def State.monStart (s : State) (n : Nat) : State :=
  if s.get (Reg.MON_CFG_RUN n) = 1 ∨ s.monEnded.contains n then s
  else
    let s1 := { s with monBegun := mins s.monBegun n (s.monCount n) }.put (Reg.MON_CFG_RUN n) 1
    if s1.active (Reg.MON_CFG_CLR n) = 1 then s1.setMonCount n 0 else s1

/-- s with a stop of counter n (R371): it wins over a start of the same cycle (R374). -/
def State.monStop (s : State) (n : Nat) : State :=
  let s1 := { s with monEnded := n :: s.monEnded.filter (fun m => decide (m ≠ n)) }.put (Reg.MON_CFG_RUN n) 0
  match mfind s1.monBegun n with
  | some c => { s1 with monBegun := mdel s1.monBegun n }.setMonCount n c
  | none => s1

/-- s with a snapshot of counter n (R371): the count of occurrences before this cycle, and system time. -/
def State.monSnap (s : State) (n : Nat) : State :=
  let c := (mfind s.monBegun n).getD (s.monCount n)
  (s.put64 (Reg.MON_SNAP_LO n) (Reg.MON_SNAP_HI n) c).put64 (Reg.MON_SNAP_TIME_LO n) (Reg.MON_SNAP_TIME_HI n)
    (s.sysTime s.now)

/-- MON_START (R371). -/
def execMonStart (n : MonNo) (s : State) : Host.Outcome State Fault Refusal := .next (s.monStart n)

/-- MON_STOP (R371). -/
def execMonStop (n : MonNo) (s : State) : Host.Outcome State Fault Refusal := .next (s.monStop n)

/-- MON_SNAPSHOT (R371). -/
def execMonSnapshot (n : MonNo) (s : State) : Host.Outcome State Fault Refusal := .next (s.monSnap n)

/-- Whether a selector takes its action at event x (SEL 0b01) or at a strobe of group x (SEL 0b10) (R371). -/
def monPicks (sel named kind x : Nat) : Bool :=
  decide (sel = kind) && (if kind = 1 then decide (named = x) else decide (named % 16 = x))

/-- s with the actions of every counter whose selectors name x: kind 1 a registration of event x, kind 2 a strobe of
group x. -/
def State.monSelect (s : State) (kind x : Nat) : State :=
  forUpto (fun s n =>
    let s1 := if monPicks (s.active (Reg.MON_CFG_SNAP_SEL n)) (s.active (Reg.MON_EVT_SNAP_EVT n)) kind x then s.monSnap n else s
    let s2 := if monPicks (s1.active (Reg.MON_CFG_START_SEL n)) (s1.active (Reg.MON_EVT_START_EVT n)) kind x then s1.monStart n
      else s1
    if monPicks (s2.active (Reg.MON_CFG_STOP_SEL n)) (s2.active (Reg.MON_EVT_STOP_EVT n)) kind x then s2.monStop n else s2)
    64 s

/-- s with this cycle's occurrences counted, and the record of the cycle cleared (R370): modulo 2^48, a wrap sets OVF. -/
def State.monTick (s : State) : State :=
  let s1 := forUpto (fun s n =>
    let src := s.active (Reg.MON_CFG_SRC n)
    if s.get (Reg.MON_CFG_RUN n) = 1 ∧ (src = 0x267 ∨ s.mon.contains src) then
      let s1 := s.setMonCount n (s.monCount n + 1)
      if s.monCount n + 1 = 2 ^ 48 then s1.put (Reg.MON_CFG_OVF n) 1 else s1
    else s) 64 s
  { s1 with mon := [], monBegun := [], monEnded := [] }

end Sys2Proof.Machine
end

