-- ==== Sys2Proof/Machine/SeqCmds.lean ====
section
/-! DEFINITION. The context commands, their effects, and writes to the context table (R85 to R92). -/

namespace Sys2Proof.Machine

/-- s with a context command of tile t reported (R87, R53). -/
def State.seqReport (s : State) (t tag : Nat) (sts : Sts) : State :=
  let s1 := (s.put (Reg.SEQ_CMD_STATUS_TAG t) tag).put (Reg.SEQ_CMD_STATUS_STS t) sts.code
  if s1.carries then s1.signalVec 3 else s1

/-- A context command of tile t: discarded after a tile reset of the same cycle (R92), or, with OVERRUN set, while another
runs; refused with STS_RANGE where its opcode does not take its MODE, and with STS_PRECOND where the context is bound to
another tile; otherwise f (R87). One that is accepted begins an exit from self-refresh (R247). -/
def State.seqCmd (s : State) (t tag c : Nat) (modeOk : Bool) (f : State → State) : State :=
  if (s.tile t).resetAt = some s.now then s
  else if (s.tile t).prep.isSome then s.put (Reg.SEQ_CMD_STATUS_OVERRUN t) 1
  else if !modeOk then s.seqReport t tag .range
  else if s.get (Reg.CTX_CFG_BIND c) ≠ t then s.seqReport t tag .precond
  else if ((f s).tile t).prep.isSome ∨ (f s).get (Reg.SEQ_CMD_STATUS_STS t) = Sts.ok.code then (f s).memWake
  else f s

/-- The address in the INIT fields of context c (R90). -/
def State.initPc (s : State) (c : Nat) : Nat × Nat :=
  (s.get (Reg.CTX_INIT_PC_HI_HANDLE c), s.get (Reg.CTX_INIT_PC_LO c) + 2 ^ 32 * s.get (Reg.CTX_INIT_PC_HI_OFFSET_HI c))

/-- s with context c loaded from its INIT fields (R85): stacks empty, counters 0, arm records, TSBANK and CTX_FAULT
cleared. -/
def State.loadCtx (s : State) (c : Nat) : State :=
  let p := s.initPc c
  let x := s.ctx c
  let s1 := s.setCtx c { Ctx.init with
    st := .loaded, pc := ⟨p.1, 0, p.2⟩, arms := mmap (fun _ a => { ArmRec.init with gen := a.gen + 1 }) x.arms }
  (s1.setCnt c 0 0).setCnt c 1 0

/-- SEQ_LOAD (R85, R87). -/
def execSeqLoad (t : Tile) (tag : BitVec 8) (c : CtxNo) (mode : BitVec 2) (s : State) :
    Host.Outcome State Fault Refusal :=
  .next (s.seqCmd t tag.toNat c (decide (mode = 0)) fun s =>
    match (s.ctx c).st with
    | .ready => s.seqReport t tag.toNat .state
    | .running => s.seqReport t tag.toNat .state
    | .paused => s.seqReport t tag.toNat .state
    | _ => (((s.loadCtx c).gcSlots t).refillSwitch t c).seqReport t tag.toNat .ok)

/-- Whether context c is resident (R83). -/
def Ctx.resident (x : Ctx) : Bool :=
  match x.st with
  | .free => false
  | .loaded => false
  | _ => true

/-- The contexts resident on tile t (R83). -/
def State.residents (s : State) (t : Nat) : List (Nat × Ctx) :=
  s.ctxs.filter (fun p => p.2.resident && decide (s.get (Reg.CTX_CFG_BIND p.1) = t))

/-- The lowest residency slot from i on that no context of a list holds. -/
def freeResid (l : List (Nat × Ctx)) : Nat → Nat → Nat
  | 0, i => i
  | n + 1, i => if l.any (fun p => decide (p.2.rslot = i)) then freeResid l n (i + 1) else i

/-- SEQ_PREP (R85): validates the initial PC and begins making the context resident. Of several checks that fail, the state's
comes first, then the room's, then the reference's (DESIGN CHOICE, log 38). -/
def execSeqPrep (t : Tile) (tag : BitVec 8) (c : CtxNo) (mode : BitVec 2) (s : State) :
    Host.Outcome State Fault Refusal :=
  .next (s.seqCmd t tag.toNat c (decide (mode = 0)) fun s =>
    if (s.ctx c).st ≠ .loaded then s.seqReport t tag.toNat .state
    else if 256 ≤ (s.residents t).length then s.seqReport t tag.toNat .nospace
    else match s.refProgram (s.ctx c).pc.h (s.ctx c).pc.off with
      | .error e => s.seqReport t tag.toNat e
      | .ok _ => (s.setTile t { s.tile t with prep := some (c, tag.toNat) }).put (Reg.SEQ_CMD_STATUS_BUSY t) 1)

/-- PREP_COMPLETE (R85): the context becomes Ready, its first program line in the instruction cache (R84), in the lowest free
residency slot (DESIGN CHOICE, log 36: the placement engine gives the slot). A refusal that the segment's state now gives is
reported in its place. -/
def execPrepComplete (t : Tile) (s : State) : Host.Outcome State Fault Refusal :=
  .next (match (s.tile t).prep with
    | none => s
    | some (c, tag) =>
      let s1 := (s.setTile t { s.tile t with prep := none }).put (Reg.SEQ_CMD_STATUS_BUSY t) 0
      match s1.refProgram (s1.ctx c).pc.h (s1.ctx c).pc.off with
      | .error e => s1.seqReport t tag e
      | .ok a =>
        let s2 := s1.setCtx c { s1.ctx c with
          st := .ready, pc := a, pos := .fresh, rslot := freeResid (s1.residents t) 256 0 }
        ((s2.cacheLine t a.sid a.off).refillSwitch t c).seqReport t tag .ok)

/-- Whether channel w counts toward the four of R18: a context Running or a start pending there, interpolation ×1 and not
NCO sine. -/
def State.countsFour (s : State) (w : Nat) : Bool :=
  ((s.tile w).running.isSome || (s.tile w).start.isSome) && decide (s.active (Reg.WAV_CFG_INTERP w) = 0) &&
  !s.ncoSine w

/-- Whether a START or RESUME on tile t would make a fifth channel count in Umber (R18). -/
def State.fifthChannel (s : State) (t : Nat) : Bool :=
  decide (s.get Reg.GLB_STATE_PROFILE = 2) && decide (t < 8) && decide (s.active (Reg.WAV_CFG_INTERP t) = 0) &&
  !s.ncoSine t && decide (4 ≤ countIf (fun w => decide (w ≠ t) && s.countsFour w) (upto 8))

/-- The system time in SEQ_ARG1:SEQ_ARG0 of tile t. -/
def State.seqTime (s : State) (t : Nat) : Nat := s.get (Reg.SEQ_ARG t 0) + 2 ^ 32 * s.get (Reg.SEQ_ARG t 1)

/-- A START or RESUME of context c accepted now, or refused (R18, R88, R147, R360): hold is a calibration procedure that
keeps the tile from starting. Of several checks that fail, the first in this order is reported (DESIGN CHOICE, log 38):
STATE, BUSY, the calibration's, BANDWIDTH, RANGE. -/
def State.startCmd (s : State) (t tag c mode : Nat) (resume : Bool) (hold : Option Sts) : State :=
  let x := s.tile t
  if (s.ctx c).st ≠ (if resume then CtxState.paused else CtxState.ready) then s.seqReport t tag .state
  else if x.running.isSome || x.start.isSome || x.reload.isSome then s.seqReport t tag .busy
  else match hold with
    | some e => s.seqReport t tag e
    | none =>
      if s.fifthChannel t then s.seqReport t tag .bandwidth
      else if mode = 1 ∧ s.seqTime t < s.sysTime s.now + Config.lead then s.seqReport t tag .range
      else
        let at_ := match mode with
          | 0 => some (s.now + Config.lead)
          | 1 => some (s.now + (s.seqTime t - s.sysTime s.now))
          | _ => none
        (s.setTile t { x with start := some ⟨c, resume, mode, at_, s.now + Config.lead⟩, ahead := none }).seqReport t tag .ok

/-- START_CYCLE (R88): the pending context, Ready or Paused, becomes Running at its start cycle, and the output leaves its
safe state (R175, R198). A start cycle that falls while the tiles are clock-gated (R23) is made up in the first cycle after it
(DESIGN CHOICE, log 115). -/
def execStartCycle (t : Tile) (s : State) : Host.Outcome State Fault Refusal :=
  .next (match (s.tile t).start with
    | some ⟨c, _, _, some n, _⟩ =>
      if s.now < n then s else
      let s1 := s.setTile t { (s.tile t).fresh with start := none, afterRun := none }
      if (s.ctx c).st ≠ .ready ∧ (s.ctx c).st ≠ .paused then (s1.setAhead t none).gcSlots t
      else (s1.enter t c (s.now * Config.fine)).closeOutput t
    | _ => s)

/-- s with a PAUSE of tile t accepted: it takes effect by itself, whatever others wait (R89). -/
def State.pauseReq (s : State) (t : Nat) (r : EndReq) : State := s.setTile t { s.tile t with pauses := (s.tile t).pauses ++ [r] }

/-- SEQ_PAUSE (R89): accepted at a boundary or at a word; it takes effect from acceptance + 48 cc. -/
def execSeqPause (t : Tile) (tag : BitVec 8) (c : CtxNo) (mode : BitVec 2) (s : State) :
    Host.Outcome State Fault Refusal :=
  .next (s.seqCmd t tag.toNat c (decide (mode.toNat < 2)) fun s =>
    if (s.ctx c).st ≠ .running then s.seqReport t tag.toNat .state
    else (s.pauseReq t ⟨c, s.now + Config.L, decide (mode = 1)⟩).seqReport t tag.toNat .ok)

/-- The cycle in which a PAUSE that tile t has accepted takes effect, once it has come (R89): for one at a word the cycle it
names; for one at a boundary the first effect cycle from there on between two timed items. A PAUSE of a context that no
longer runs falls due at its cycle. -/
def State.pauseCycle (s : State) (t : Nat) (r : EndReq) : Option Nat :=
  if s.now < r.at_ then none
  else if (s.tile t).running ≠ some r.c ∨ r.word then some r.at_
  else if (s.tile t).micro.upc.isSome then none
  else match s.itemEnd t with
    | some p => if r.at_ ≤ posCycle p ∧ posCycle p ≤ s.now then some (posCycle p) else none
    | none => none

/-- PAUSE_EFFECT (R89): the first PAUSE whose cycle has come takes effect, and with it every other of its context. A commit of
the same cycle is dropped with REASON 0x04. -/
def execPauseEffect (t : Tile) (s : State) : Host.Outcome State Fault Refusal :=
  .next (match (s.tile t).pauses.find? (fun r => (s.pauseCycle t r).isSome) with
    | none => s
    | some r =>
      match s.pauseCycle t r with
      | none => s
      | some e =>
        let s0 := s.setTile t { s.tile t with pauses := (s.tile t).pauses.filter (fun q => decide (q.c ≠ r.c)) }
        if (s.tile t).running ≠ some r.c then s0
        else
          let s1 := if r.word then s0 else match s.itemEnd t with
            | some p => s0.closeItem t p
            | none => s0
          (s1.pauseAt t r.c e false false).dropCatches t (fun k => decide (k.at_ = e)) 0x04)

/-- s with a pending START or RESUME of context c on tile t discarded (R88). -/
def State.dropStart (s : State) (t c : Nat) : State :=
  match (s.tile t).start with
  | some r => if r.c = c then (s.setTile t { s.tile t with start := none, ahead := none }).gcSlots t else s
  | none => s

/-- s with a pending START or RESUME on tile t discarded, whatever its context, and with it what was resolved for it (R88, R302). -/
def State.noStart (s : State) (t : Nat) : State :=
  match (s.tile t).start with
  | some r => s.dropStart t r.c
  | none => s

/-- SEQ_STOP (R87): accepted; it discards a pending start of the context and takes effect at acceptance + 48 cc. -/
def execSeqStop (t : Tile) (tag : BitVec 8) (c : CtxNo) (mode : BitVec 2) (s : State) :
    Host.Outcome State Fault Refusal :=
  .next (s.seqCmd t tag.toNat c (decide (mode = 0)) fun s =>
    if !(s.ctx c).holds then s.seqReport t tag.toNat .state
    else
      let s1 := s.dropStart t c
      (s1.setTile t { s1.tile t with stops := (s1.tile t).stops ++ [⟨c, s.now + Config.L, true⟩] }).seqReport t tag.toNat .ok)

/-- STOP_EFFECT (R88, R89): the context that was stopped first becomes Halted, and a start of it that has come to be pending
is discarded. A commit of the same cycle is dropped with REASON 0x04. -/
def execStopEffect (t : Tile) (s : State) : Host.Outcome State Fault Refusal :=
  .next (match (s.tile t).stops with
    | [] => s
    | r :: rs =>
      if s.now < r.at_ then s else
      let s0 := s.setTile t { s.tile t with stops := rs }
      if !(s0.ctx r.c).holds then s0
      else if (s0.tile t).running = some r.c then
        ((s0.interrupted t r.c r.at_ true).leave t r.c .halted).dropCatches t (fun k => decide (k.at_ = r.at_)) 0x04
      else
        let s1 := s0.dropStart t r.c
        (s1.setCtx r.c { s1.ctx r.c with st := .halted }).gcSlots t)

/-- SEQ_RELEASE (R85): a Loaded, Halted or Faulted context becomes Free. -/
def execSeqRelease (t : Tile) (tag : BitVec 8) (c : CtxNo) (mode : BitVec 2) (s : State) :
    Host.Outcome State Fault Refusal :=
  .next (s.seqCmd t tag.toNat c (decide (mode = 0)) fun s =>
    match (s.ctx c).st with
    | .loaded => (s.setCtx c { s.ctx c with st := .free }).seqReport t tag.toNat .ok
    | .halted => (s.setCtx c { s.ctx c with st := .free }).seqReport t tag.toNat .ok
    | .faulted => (s.setCtx c { s.ctx c with st := .free }).seqReport t tag.toNat .ok
    | _ => s.seqReport t tag.toNat .state)

/-- The RW fields of the context-table register at an offset of the entry, each with whether a Paused context's may be
written (R90); none where the offset holds no register. -/
def ctxFields (c off : Nat) : Option (List (Fld × Bool)) :=
  match off with
  | 0x00 => some [(Reg.CTX_CFG_UPOL c, true), (Reg.CTX_CFG_BR_MODE c, true), (Reg.CTX_CFG_BIND c, false)]
  | 0x04 => some [(Reg.CTX_BRIDGE c, true)]
  | 0x08 => some [(Reg.CTX_INIT_PC_LO c, false)]
  | 0x0C => some [(Reg.CTX_INIT_PC_HI_HANDLE c, false), (Reg.CTX_INIT_PC_HI_OFFSET_HI c, false)]
  | 0x10 => some []
  | 0x14 => some []
  | 0x18 => some [(Reg.CTX_CNT c 0, true)]
  | 0x1C => some [(Reg.CTX_CNT c 1, true)]
  | 0x20 => some []
  | 0x24 => some [(Reg.CTX_DIVERT_LO c, false)]
  | 0x28 => some [(Reg.CTX_DIVERT_HI_HANDLE c, false), (Reg.CTX_DIVERT_HI_OFFSET_HI c, false)]
  | 0x2C => some []
  | _ => if (0x40 ≤ off ∧ off < 0x1C0) ∧ off % 4 = 0 then some [] else none

/-- Whether a field may be written in a context's state (R90). -/
def ctxMay (st : CtxState) (pausedToo : Bool) : Bool :=
  match st with
  | .free => true
  | .loaded => true
  | .halted => true
  | .faulted => true
  | .paused => pausedToo
  | _ => false

/-- s with a software write v of a context-table register judged field by field (R90): a field that may not be written
and would change sets CTX_WRITE on the bound tile. -/
def State.ctxWrite (s : State) (c : Nat) (v : Word) : List (Fld × Bool) → State
  | [] => s
  | (f, p) :: fs =>
    let nv := fieldOf v.toNat f.lo f.n
    let s1 :=
      if ctxMay (s.ctx c).st p then s.put f nv
      else if s.get f = nv then s
      else s.put (Reg.SEQ_STATUS_CTX_WRITE (s.get (Reg.CTX_CFG_BIND c))) 1
    s1.ctxWrite c v fs

/-- CONTEXT_TABLE_WRITE (R90, R318). -/
def execContextTableWrite (c : CtxNo) (off : BitVec 9) (v : Word) (s : State) : Host.Outcome State Fault Refusal :=
  .next (match ctxFields c off.toNat with
    | some l => s.ctxWrite c v l
    | none => s.put Reg.GLB_ERR_UNMAPPED 1)

end Sys2Proof.Machine
end

