-- ==== Sys2Proof/Machine/SeqStart.lean ====
section
/-! DEFINITION. START and RESUME (R88, R360). -/

namespace Sys2Proof.Machine

/-- SEQ_START (R88). -/
def execSeqStart (t : Tile) (tag : BitVec 8) (c : CtxNo) (mode : BitVec 2) (s : State) :
    Host.Outcome State Fault Refusal :=
  .next (s.seqCmd t tag.toNat c true fun s => s.startCmd t tag.toNat c mode.toNat false (s.calHold t))

/-- SEQ_RESUME (R88). -/
def execSeqResume (t : Tile) (tag : BitVec 8) (c : CtxNo) (mode : BitVec 2) (s : State) :
    Host.Outcome State Fault Refusal :=
  .next (s.seqCmd t tag.toNat c true fun s => s.startCmd t tag.toNat c mode.toNat true (s.calHold t))

end Sys2Proof.Machine
end

