-- ==== Sys2Proof/Machine/WaveEngine.lean ====
section
/-! DEFINITION. The digital path of a waveform channel, one core cycle at a time (R155 to R174). -/

namespace Sys2Proof.Machine

/-- Fine steps of a DAC slot (R156). -/
def State.slotFine (s : State) : Nat := if s.ivory then 64 else 32

/-- Slots that an input sample of channel w occupies (R156). -/
def State.sampleSlots (s : State) (w : Nat) : Nat := s.interp w * s.holdCount w

/-- Whether a span is unipolar (R172). -/
def unipolar (range : Nat) : Bool := decide (6 ≤ range ∧ range ≤ 9)

/-- The rest code of channel w (R173). -/
def State.restSample (s : State) (w : Nat) : BitVec 16 := if unipolar (s.active (Reg.WAV_RANGE w)) then 0x8000 else 0

/-- The last sample that left tile w, or the rest code where none has since the last event of R159 (R173). -/
def State.lastSample (s : State) (w : Nat) : BitVec 16 := if (s.wave w).fresh then s.restSample w else (s.wave w).cur

/-- The bridge value of waveform tile w (R86, R90): the dead-time vector's sample with BR_MODE 1, the last sample with
BR_MODE 0. -/
def State.bridgeSample (s : State) (w : Nat) : BitVec 16 :=
  match s.bridgeCtx w with
  | none => s.lastSample w
  | some c =>
    if s.get (Reg.CTX_CFG_BR_MODE c) = 1 then BitVec.ofNat 16 (s.get (Reg.CTX_BRIDGE c)) else s.lastSample w

/-- An input sample in a slot: which one it is, its code, its marker bits, and whether it is a bridge sample or repeats the last one. -/
structure InSample where
  key : Nat
  code : BitVec 16
  mark : Nat
  bridge : Bool
  /-- It repeats the last sample. -/
  same : Bool

/-- Whether the bridge value of waveform tile w is the last sample (R90). -/
def State.bridgeHolds (s : State) (w : Nat) : Bool :=
  match s.bridgeCtx w with
  | none => true
  | some c => decide (s.get (Reg.CTX_CFG_BR_MODE c) ≠ 1)

/-- The bridge as an input sample. -/
def State.bridgeIn (s : State) (w : Nat) : InSample :=
  ⟨(match (s.tile w).item with
    | .dead u _ => 2 * (u + 1)
    | _ => 0), s.bridgeSample w, 0, true, s.bridgeHolds w⟩

/-- Sample j of word off of storage sid as an input sample; of a poisoned word, the bridge value with markers 0 (R28,
R251). -/
def State.wordIn (s : State) (w key sid off j : Nat) : InSample :=
  if s.poisoned sid off then ⟨key, s.bridgeSample w, 0, false, s.bridgeHolds w⟩
  else
    let x := (s.readWord sid off).toNat
    ⟨key, BitVec.ofNat 16 (fieldOf x (16 * j) 16), fieldOf x (64 + 2 * j) 2, false, false⟩

/-- The parts of a user routine at sample idx from their start: the storage and word and sample it lies in, or a bridge. -/
def State.partAt (s : State) (w : Nat) : List Part → Nat → Option (Nat × Nat × Nat)
  | [], _ => none
  | .words sid a n :: ps, idx =>
    if idx < 4 * n then some (sid, a + idx / 4, idx % 4)
    else if ps = [] ∧ 0 < n then some (sid, a + n - 1, 3) else s.partAt w ps (idx - 4 * n)
  | .hold cc :: ps, idx =>
    let m := cc * s.slots / s.sampleSlots w
    if idx < m then none else s.partAt w ps (idx - m)
  | .setr _ _ :: ps, idx => s.partAt w ps idx

/-- How many samples before its end the block before plays on channel w at position x, in the cycle in which the next one falls
due at pos (R122): blocks follow without a break where their words take no whole cycles. -/
def State.tailAt (s : State) (w sid e pos x : Nat) : Option Nat :=
  let k := ceilDiv (pos - x) (s.sampleSlots w * s.slotFine)
  match (s.tile w).running with
  | some c =>
    if pos / Config.fine = x / Config.fine ∧ k ≤ 4 * s.blockLen e ∧ ((s.ctx c).lastBlock sid).isSome = true then some k
    else none
  | none => none

/-- The word of storage sid that holds the sample k before the end of the block that channel w's context played last. -/
def State.tailWord (s : State) (w sid e k : Nat) : Nat :=
  match (s.tile w).running with
  | some c => (((s.ctx c).lastBlock sid).getD 0) % (s.store sid).len + (4 * s.blockLen e - k) / 4
  | none => 0

/-- The input sample of channel w in the slot at position x (R155, R156, R159). -/
def State.inputAt (s : State) (w x : Nat) : InSample :=
  let dur := s.sampleSlots w * s.slotFine
  if (s.tile w).gapAt.isSome then s.bridgeIn w
  else match (s.tile w).item with
  | .words _ sid len _ a reps pos =>
    if x < pos then s.bridgeIn w
    else
      let idx := (x - pos) / dur
      let total := (len - a) + reps * len
      let i := Nat.min (idx / 4) (total - 1)
      let off := if i < len - a then a + i else (i - (len - a)) % len
      s.wordIn w (2 * (pos + idx * dur) + 1) sid off (if idx / 4 < total then idx % 4 else 3)
  | .stream _ sid e _ _ b a pos ph =>
    let len := (s.store sid).len
    let B := s.blockLen e
    if x < pos then
      (match s.tailAt w sid e pos x with
       | some k => s.wordIn w (2 * (pos - k * dur) + 1) sid (s.tailWord w sid e k) ((4 * B - k) % 4)
       | none => s.bridgeIn w)
    else
      let idx := (x - pos) / dur
      let key := 2 * (pos + idx * dur) + 1
      (match ph with
       | .held true => s.bridgeIn w
       | .held false => ⟨key, s.lastSample w, 0, false, true⟩
       | .replaying b' => s.wordIn w key sid (b' % len + Nat.min (idx / 4) (B - 1)) (if idx / 4 < B then idx % 4 else 3)
       | .playing =>
         if a = 0 && !s.blockReady sid e b pos then ⟨key, s.lastSample w, 0, false, true⟩
         else if idx / 4 < B - a then s.wordIn w key sid (b % len + a + idx / 4) (idx % 4)
         else s.wordIn w key sid (b % len + B - 1) 3)
  | .user parts pos =>
    if x < pos then s.bridgeIn w
    else match s.partAt w parts ((x - pos) / dur) with
      | some (sid, off, j) => s.wordIn w (2 * (pos + (x - pos) / dur * dur) + 1) sid off j
      | none => s.bridgeIn w
  | _ => s.bridgeIn w

/-- The storage and the word that channel w's player takes from memory for the slot at position x: none where a bridge, a landing or
a repeated block plays. -/
def State.fetchAt (s : State) (w x : Nat) : Option (Nat × Nat) :=
  let dur := s.sampleSlots w * s.slotFine
  if (s.tile w).gapAt.isSome || (s.tile w).landing.isSome then none
  else match (s.tile w).item with
  | .words _ sid len _ a reps pos =>
    let i := Nat.min ((x - pos) / dur / 4) ((len - a) + reps * len - 1)
    if x < pos then none else some (sid, if i < len - a then a + i else (i - (len - a)) % len)
  | .stream _ sid e _ _ b a pos .playing =>
    if x < pos then (s.tailAt w sid e pos x).map (fun k => (sid, s.tailWord w sid e k))
    else if s.blockLen e ≤ a + (x - pos) / dur / 4 then none
    else some (sid, b % (s.store sid).len + a + (x - pos) / dur / 4)
  | .user parts pos => if x < pos then none else (s.partAt w parts ((x - pos) / dur)).map (fun p => (p.1, p.2.1))
  | _ => none

/-- s with the requests of this core cycle for the words that channel w plays (R241, R243). A request falls in the cycle of its word
(DESIGN CHOICE, log 117: how far the fetch runs ahead is not stated). -/
def State.fetchTick (s : State) (w : Nat) : State :=
  match s.fetchAt w (s.now * Config.fine), s.fetchAt w ((s.now + 1) * Config.fine - 1) with
  | some (a, i), some (b, j) => if a = b ∧ i ≤ j then s.wordsUse a i (j - i + 1) else (s.wordsUse a i 1).wordsUse b j 1
  | some (a, i), none => s.wordsUse a i 1
  | none, some (b, j) => s.wordsUse b j 1
  | none, none => s

/-! ## Sine (R166) -/

/-- π × 10^50, cut to an integer. -/
def piScaled : Int := 314159265358979323846264338327950288419716939937510

/-- 10^50, the scale of the sine table's arithmetic. -/
def tScale : Int := 10 ^ 50

/-- n terms of the Taylor series of the sine at x, the first being term a for exponent j. -/
def sinSum (x2 : Int) : Nat → Nat → Int → Int
  | 0, _, _ => 0
  | n + 1, j, a => a + sinSum x2 n (j + 2) (-(a * x2 / tScale) / (((j + 1) * (j + 2) : Nat) : Int))

/-- T[i] = round(131,071 × sin(π × i / 8,192)), and T[4,096] = 131,071. -/
def sineT (i : Nat) : Int :=
  if 4096 ≤ i then 131071
  else
    let x := piScaled * i / 8192
    (131071 * sinSum (x * x / tScale) 24 1 x * 2 + tScale) / (2 * tScale)

/-- The 16-bit clamp of R160, and whether it changed the value. -/
def sat16 (i : Int) : Int := clampSigned 16 i

/-- The magnitude of the sine at a phase (R166). -/
def sineMag (a : Nat) : Int :=
  let i := fieldOf a 16 13
  if 4096 ≤ i then sineT 4096 else sineT i + ((sineT (i + 1) - sineT i) * (a % 65536 : Nat) + 32768) / 65536

/-- The sine output for a phase and an amplitude (R166). -/
def sineOut (phase amp : Nat) : Int :=
  let q := fieldOf phase 46 2
  let a := fieldOf phase 18 28
  let v := sineMag (if q % 2 = 1 then 2 ^ 28 - a else a)
  sat16 (((if q < 2 then v else -v) * amp + 131072) / 262144)

/-! ## One slot -/

/-- A value clamped to 16 bits, with whether it saturated. -/
def satFlag (i : Int) : Int × Bool := (sat16 i, decide (sat16 i ≠ i))

/-- The combiner (R160). -/
def combine (mode : Nat) (x y : Int) : Int × Bool :=
  match mode with
  | 0 => (x, false)
  | 1 => (y, false)
  | 2 => satFlag ((x * y + 16384) / 32768)
  | _ => satFlag (x + y)

/-- The 14-bit clamp of R168. -/
def sat14 (i : Int) : Int := clampSigned 14 i

/-- Whether the major-transition hold of channel w is active (R170): f_slot / h is at most 3.000 GS/s at the actual
f_root. -/
def State.mthActive (s : State) (w : Nat) : Bool :=
  decide (s.active (Reg.WAV_CTRL_MTH_EN w) = 1 ∧
    s.fcwAct * (if s.ivory then 1 else 2) ≤ 30 * s.holdCount w * 2 ^ 32)

/-- The quantised rest code for the span in force (R169). -/
def State.restCode (s : State) (w : Nat) : Int := if unipolar (s.active (Reg.WAV_RANGE w)) then -8192 else 0

/-- s with the events of R159 and R169 applied to channel w: history at the rest code, shaper errors 0, the limiter's
last code at the rest code. -/
def State.waveClear (s : State) (w : Nat) : State :=
  s.setWave w { s.wave w with
    hist := List.replicate histLen (s.restSample w).toInt, key := 0, sub := 0, err1 := 0, err2 := 0, lim := s.restCode w,
    cur := s.restSample w, fresh := true }

/-- s with channel w as a tile reset or the ungating of the clocks leaves it: the limiter's slot counter restarts as well
(R169, R180). -/
def State.waveRestart (s : State) (w : Nat) : State :=
  (s.waveClear w).setWave w { (s.waveClear w).wave w with slot := 0 }

/-- Channel w's markers in a slot (R161, R174): MK0 in bit 0, MK1 in bit 1. -/
def State.markers (s : State) (w : Nat) (i : InSample) : Nat :=
  let f := fun (ov bitv : Nat) =>
    match ov with
    | 1 => 0
    | 2 => 1
    | _ => bitv
  if s.ncoSine w then f (s.tile w).mark0 0 + 2 * f (s.tile w).mark1 0
  else if i.bridge then 0
  else f (s.tile w).mark0 (i.mark % 2) + 2 * f (s.tile w).mark1 (i.mark / 2)

/-- The quantiser (R168): the code, and the shaper's error. r is the dither. -/
def State.quantise (s : State) (w : Nat) (z r : Int) : Int × Int :=
  if s.ivory then
    let x := s.wave w
    let u := z - 2 * x.err1 + x.err2
    let q := sat14 ((u + 2) / 4)
    let e := 4 * q - u
    (q, if e < -4 then -4 else if 3 < e then 3 else e)
  else if s.active (Reg.WAV_CTRL_LSB w) = 1 then (sat14 ((z + r) / 4), 0)
  else (sat14 ((z + 2) / 4), 0)

/-- The slew limiter (R169): the limited code in slot count n. -/
def State.limit (s : State) (w n : Nat) (q : Int) : Int :=
  let step := s.active (Reg.WAV_SLEW_STEP w)
  let o := (s.wave w).lim
  if step = 0 then q
  else if n % (s.active (Reg.WAV_SLEW_RATE w) + 1) = 0 then
    o + (if q - o < -(step : Int) then -(step : Int) else if (step : Int) < q - o then step else q - o)
  else o

/-- Segments between two DAC values (R170). -/
def segsCrossed (a b : Int) : Nat := (a / 256 - b / 256).natAbs

/-- What a slot of a channel comes to: the channel after it, and which of its flags it raises. -/
structure SlotEnd where
  wave : WavSt
  dither : Bool
  sat : Bool
  slew : Bool
  frozen : Bool
  deriving DecidableEq, Repr

/-! ## The group delay (R157, R158) -/

/-- G_k of R158. -/
def interpDelay (interp : Nat) : Nat :=
  match interp with
  | 1 => 31
  | 2 => 73
  | 3 => 153
  | 4 => 311
  | _ => 0

/-- G of channel w in slots (R158). -/
def State.gslots (s : State) (w : Nat) : Nat := interpDelay (s.active (Reg.WAV_CFG_INTERP w)) * s.holdCount w

/-- WAV_GDELAY of channel w: G in fine steps (R158). -/
def State.gdelay (s : State) (w : Nat) : Nat := s.gslots w * s.slotFine

/-- What channel w applies from this cycle on. -/
def State.lagNow (s : State) (w : Nat) : WavLag :=
  ⟨s.now, BitVec.ofNat 48 (s.phaseOf w s.now), s.ftw w, s.get (Reg.WAV_GAIN_ACT w), s.get (Reg.WAV_OFFSET_ACT w)⟩

/-- The phase that an entry gives slot i of cycle n: before its own cycle, as the clocks ungated, φ stood still. -/
def WavLag.at_ (x : WavLag) (slots n i : Nat) : Nat :=
  if n < x.cyc then x.phase.toNat else (x.phase.toNat + x.ftw * ((n - x.cyc) * slots + i)) % 2 ^ 48

/-- The entries of a list, newest first, down to the first from cycle n or before. -/
def lagKeep (n : Nat) : List WavLag → List WavLag
  | [] => []
  | x :: l => if x.cyc ≤ n then [x] else x :: lagKeep n l

/-- s with what channel w applies in this cycle noted, where it is not what the entry before leads to. -/
def State.noteLag (s : State) (w : Nat) : State :=
  let x := s.wave w
  let y := s.lagNow w
  let same := match x.lag with
    | z :: _ => decide (z.at_ s.slots s.now 0 = y.phase.toNat ∧ z.ftw = y.ftw ∧ z.gain = y.gain ∧ z.off = y.off)
    | [] => false
  if same then s
  else s.setWave w { x with
    lag := (if (x.lag.head?.map (fun z => z.cyc)) = some s.now then y :: x.lag.tail
            else y :: lagKeep (s.now - s.gslots w / s.slots - 1) x.lag) }

/-- The entry in force in cycle n: the oldest where none is as old. -/
def lagAt (n : Nat) (y : WavLag) : List WavLag → WavLag
  | [] => y
  | x :: l => if x.cyc ≤ n then x else lagAt n x l

/-- What applies to the sample that leaves the interpolator of channel w in slot i of this cycle: the phase, the gain and the
offset of G slots before, so that they meet at the connector the samples that began with them (R157, R165; DEDUCED, log 126). -/
def State.lagged (s : State) (w i : Nat) : Nat × Nat × Nat :=
  let m := s.now * s.slots + i - s.gslots w
  let x := lagAt (m / s.slots) (s.lagNow w) (s.wave w).lag
  (x.at_ s.slots (m / s.slots) (m % s.slots), x.gain, x.off)

/-- The cc from a slot of the tile's timeline to the connector, G apart (R157). -/
def wavePipe : Nat := 40

/-- The entries of a list by position, newest first, down to the first at x or before. -/
def posKeep {α : Type} (x : Nat) : List (Nat × α) → List (Nat × α)
  | [] => []
  | p :: l => if p.1 ≤ x then [p] else p :: posKeep x l

/-- The newest entry at position x or before. -/
def posAt {α : Type} (x : Nat) : List (Nat × α) → Option α
  | [] => none
  | p :: l => if p.1 ≤ x then some p.2 else posAt x l

/-- A list by position with a value from position p on noted, where it is a new one; what the connector has passed by
position x is dropped. -/
def posNote {α : Type} [DecidableEq α] (x p : Nat) (v : α) (l : List (Nat × α)) : List (Nat × α) :=
  if l.head?.map (fun q => q.2) = some v then l else (p, v) :: posKeep x l

/-- What slot i of this core cycle comes to on channel w (R155 to R170). -/
def State.slotEnd (s : State) (w i : Nat) : SlotEnd :=
  let inp := s.inputAt w (s.now * Config.fine + i * s.slotFine)
  let x := s.wave w
  let isNew := decide (inp.key ≠ x.key ∨ s.sampleSlots w ≤ x.sub + 1)
  let sub := if isNew then 0 else x.sub + 1
  let hist := if isNew then (inp.code.toInt :: x.hist).take histLen else x.hist
  let k := s.interp w
  let xi : Int := if k = 1 then inp.code.toInt else (Config.interp k (sub / s.holdCount w) hist).toInt
  let satI := decide (k ≠ 1) && Config.interpSat k (sub / s.holdCount w) hist
  let at_ := s.lagged w i
  let sine := sineOut at_.1 (s.active (Reg.NCO_AMP w))
  let y := combine (s.active (Reg.WAV_CFG_MODE w)) xi sine
  let z := satFlag ((y.1 * at_.2.1 + signedOf 28 at_.2.2 * 32768 + 67108864) /
    134217728)
  let dither := decide (s.active (Reg.WAV_CTRL_LSB w) = 1) && !s.ivory
  let r : Int := if dither then (Config.freeValue s.free).toNat % 4 else 0
  let q := s.quantise w z.1 r
  let o := s.limit w x.slot q.1
  let d := o + 8192
  let frozen := s.mthActive w && decide (s.active (Reg.WAV_MTH w) < segsCrossed d x.prev)
  let dac := if frozen then x.dac else d
  let passed := s.now * Config.fine - 4096
  let pos := (s.now + wavePipe) * Config.fine + i * s.slotFine
  let mko := s.markers w inp
  { wave := { x with
      hist := hist, key := inp.key, sub := sub, err1 := (if s.ivory then q.2 else 0),
      err2 := (if s.ivory then x.err1 else 0), lim := o, slot := x.slot + 1, dac := dac, prev := d,
      cur := inp.code, mko := mko, fresh := x.fresh && inp.same, codes := posNote passed pos dac x.codes,
      marks := posNote passed (pos + s.gdelay w) mko x.marks }
    dither := dither, sat := satI || y.2 || z.2, slew := decide (o ≠ q.1), frozen := frozen }

/-- s with a flag of a channel raised, where cond says so: its counter up by one and its status bit set. -/
def State.flagUp (s : State) (cond : Bool) (cnt st : Fld) : State := if cond then (s.bump cnt).put st 1 else s

/-- s after slot i of this core cycle on channel w (R155 to R170). -/
def State.waveSlot (s : State) (w i : Nat) : State :=
  let e := s.slotEnd w i
  let s1 := s.setWave w e.wave
  let s2 := if e.dither then { s1 with free := s1.free + 1 } else s1
  ((s2.flagUp e.sat (Reg.WAV_SAT_CNT w) (Reg.WAV_STATUS_SAT w)).flagUp e.slew (Reg.WAV_SLEW_CNT w)
    (Reg.WAV_STATUS_SLEW w)).flagUp e.frozen (Reg.WAV_MTH_CNT w) (Reg.WAV_STATUS_MTH w)

/-- The word of channel w's item that starts at position x, as storage and offset, if one does. -/
def State.wordStart (s : State) (w x : Nat) : Option (Nat × Nat) :=
  let step := 4 * s.sampleSlots w * s.slotFine
  match (s.tile w).item with
  | .words _ sid len _ a reps pos =>
    let i := (x - pos) / step
    if pos ≤ x ∧ (x - pos) % step = 0 ∧ i < (len - a) + reps * len then
      some (sid, if i < len - a then a + i else (i - (len - a)) % len)
    else none
  | .stream _ sid e _ _ b a pos ph =>
    let i := (x - pos) / step
    if pos ≤ x ∧ (x - pos) % step = 0 ∧ i < s.blockLen e - a then
      (match ph with
       | .playing => if a = 0 && !s.blockReady sid e b pos then none else some (sid, b % (s.store sid).len + a + i)
       | .replaying b' => some (sid, b' % (s.store sid).len + i)
       | .held _ => none)
    else none
  | .user parts pos =>
    (match s.partAt w parts ((x - pos) / (s.sampleSlots w * s.slotFine)) with
     | some (sid, off, 0) => if pos ≤ x ∧ (x - pos) % (s.sampleSlots w * s.slotFine) = 0 then some (sid, off) else none
     | _ => none)
  | _ => none

/-- s with a poisoned word that starts in slot i of this cycle counted (R251). -/
def State.poisonSlot (s : State) (w i : Nat) : State :=
  match s.wordStart w (s.now * Config.fine + i * s.slotFine) with
  | some (sid, off) => if s.poisoned sid off then s.poisonPlayed else s
  | none => s

/-- s after this core cycle on channel w: nothing while the converter clocks are gated (R16, R155). -/
def State.waveTick (s : State) (w : Nat) : State :=
  if s.get Reg.CLK_STATUS_GATED = 1 then s
  else
    forUpto (fun s i => (s.poisonSlot w i).waveSlot w i) s.slots (s.noteLag w)

end Sys2Proof.Machine
end

