-- ==== Sys2Proof/Machine/Clock.lean ====
section
/-! DEFINITION. The root loop, its references, gating and ramps (R16, R263 to R277). -/

namespace Sys2Proof.Machine

/-! ## Gating -/

/-- The code of CLK_STATUS.STATE (R271). -/
def State.loopSt (s : State) : Nat := s.get Reg.CLK_STATUS_STATE

/-- Whether the converter and pattern clocks are gated: by the loop (R16), in Ash (R23) and during a profile change (R22). -/
def State.mustGate (s : State) : Bool :=
  decide (s.loopSt ≠ 0) || decide (s.get Reg.GLB_STATE_PROFILE = 3) || s.pw.change.isSome

/-- s with the phase of channel w held where it stands (R167). -/
def State.holdPhase (s : State) (w : Nat) : State :=
  s.setWave w { s.wave w with phase := BitVec.ofNat 48 (s.phaseOf w s.now), phaseAt := s.now, phaseHeld := true }

/-- s with channel w's clocks running again: φ at NCO_RST_PH, and the events of R159 (R167). -/
def State.freePhase (s : State) (w : Nat) : State :=
  (s.waveRestart w).setWave w { (s.waveRestart w).wave w with
    lag := [], phase := BitVec.ofNat 48 (s.rstPhase w), phaseAt := s.now, phaseHeld := false }

/-- s with GATED as the loop and the profile require: at the gating the capture channels' hold begins; at the ungating
the phases restart and the capture channels take their synchronising resets (R167, R220, R233). -/
def State.regate (s : State) : State :=
  if s.mustGate then
    if s.get Reg.CLK_STATUS_GATED = 1 then s
    else (forUpto (fun s w => s.holdPhase w) 8 (s.put Reg.CLK_STATUS_GATED 1)).holdCaps
  else
    if s.get Reg.CLK_STATUS_GATED = 0 then s
    else (forUpto (fun s w => s.freePhase w) 8 (s.put Reg.CLK_STATUS_GATED 0)).freeCaps

/-- Whether the oven oscillator stands in for another source (R265). -/
def State.standIn (s : State) : Bool := decide (s.get Reg.CLK_STATUS_REF_ACT = 3 ∧ s.active Reg.CLK_CTRL_REF_SEL ≠ 3)

/-- s with INSTEP as the loop, the reference and a ramp leave it (R265, R272, R275). -/
def State.restep (s : State) : State :=
  s.put Reg.CLK_STATUS_INSTEP (bit (decide (s.loopSt = 0) && !s.clk.outOfStep && !s.standIn))

/-! ## Time at a new rate (R1, R273) -/

/-- A deadline, and a past cycle from which a time is counted, once the core clock's rate has gone from old to r: what is left, and
what has passed, is as long in ns as it was. -/
def laterAt (old r now n : Nat) : Nat := if n ≤ now then n else now + ceilDiv ((n - now) * r) old
def sinceAt (old r now n : Nat) : Nat := if n ≤ now then now - (now - n) * r / old else n

/-- s with the times in ns and µs that run counted at the core clock's rate as it is now, old being the rate before: the mutes, the
range settlings, what the memory controller counts, and the start list's wait. -/
def State.reclock (s : State) (old : Nat) : State :=
  let f := laterAt old s.rate s.now
  let g := sinceAt old s.rate s.now
  if old = s.rate ∨ old = 0 then s
  else { s with
    wav := mmap (fun _ x => { x with muteUntil := x.muteUntil.map f }) s.wav
    cap := mmap (fun _ x => { x with rngAt := x.rngAt.map f }) s.cap
    mc := { s.mc with
      hotAt := s.mc.hotAt.map g
      urgentTill := s.mc.urgentTill.map f
      busyAt := g s.mc.busyAt
      exitAt := s.mc.exitAt.map g
      retAt := mmap (fun _ n => g n) s.mc.retAt }
    pw := { s.pw with listWait := s.pw.listWait.map f } }

/-! ## The band search (R267) -/

/-- CLK_RAMP_DEV in force. -/
def State.rampDev (s : State) : Int := signedOf 40 (s.active64 Reg.CLK_RAMP_DEV_LO Reg.CLK_RAMP_DEV_HI)

/-- The base FCW in force. -/
def State.fcwBase (s : State) : Int := (s.get64 Reg.CLK_ROOT_FCW_ACT_LO Reg.CLK_ROOT_FCW_ACT_HI : Nat)

/-- s with a band search begun: it covers the base and the base plus CLK_RAMP_DEV as they stand. -/
def State.search (s : State) : State := { s with clk := { s.clk with span := (s.fcwBase, s.fcwBase + s.rampDev) } }

/-- s with the loop in a state (R271, R272, R273): the outputs are safe in every state but LOCKED, and
leaving LOCKED ends a calibration procedure (R364). ACQUIRING begins with a band search (R267); HOLDOVER alone holds a value that a
ramp had reached (R275). -/
def State.setLoop (s0 : State) (n : Nat) : State :=
  let s := if s0.loopSt = 0 ∧ n ≠ 0 then s0.endCal else s0
  let s1 := ((s.put Reg.CLK_STATUS_STATE n).put Reg.CLK_STATUS_FALLBACK (bit (decide (n = 2)))).restep
  let s2 := if n = 4 then { s1 with clk := { s1.clk with alignedAt := s1.now } } else s1
  let s3 := if n = 1 then s2 else { s2 with clk := { s2.clk with held := none } }
  let s4 := (if n = 2 then s3.search else s3).reclock s0.rate
  if n = 0 then s4.regate.unlatchAll (fun l => { l with gated := false })
  else s4.regate.latchAll (fun l => { l with gated := true })

/-! ## Commands' reports -/

/-- s with a clock command reported as completed. -/
def State.clkReport (s : State) (tag : Nat) (e : Sts) : State :=
  ((s.put Reg.CLK_CMD_STATUS_TAG tag).put Reg.CLK_CMD_STATUS_STS e.code).put Reg.CLK_CMD_STATUS_BUSY 0

/-- A clock command: discarded, with OVERRUN set, while another runs. -/
def State.clkCmd (s : State) (f : State → State) : State :=
  if s.get Reg.CLK_CMD_STATUS_BUSY = 1 then s.put Reg.CLK_CMD_STATUS_OVERRUN 1 else f s

/-- s with a ramp ended, and a RAMP_START that waits discarded with STS_STATE (R275, R277). The root stays where the ramp had taken
it until it is recovered. -/
def State.dropRamp (s : State) : State :=
  let s1 := { s with clk := { s.clk with
    ramp := none
    rampWait := none
    held := (match s.clk.ramp with
      | some r => some r.cur.toNat
      | none => s.clk.held) } }.put Reg.CLK_STATUS_RAMPING 0
  match s.clk.rampWait with
  | some tag => s1.clkReport tag .state
  | none => s1

/-! ## References -/

/-- s with source src the active reference. -/
def State.takeRef (s : State) (src : Nat) : State :=
  ({ s with clk := { s.clk with next := none } }.put Reg.CLK_STATUS_REF_ACT src).put Reg.CLK_STATUS_REF_OK 1

/-- Whether the new reference lies within CLK_SLEW of the held root (R266, R271): by how many hundredths of a ppm they lie apart is a
free value. -/
def State.slewable (s : State) : Bool := decide ((Config.freeValue s.free).toNat % 2 ^ 32 ≤ s.active Reg.CLK_SLEW)

/-- s with the return on source src (R266, R271): from HOLDOVER, SLEWING with RECOVER 1 and a frequency within CLK_SLEW of the held
root, otherwise ACQUIRING; in ACQUIRING the search and the lock restart on it. -/
def State.returnFrom (s : State) (src : Nat) : State :=
  if s.loopSt = 2 then (s.takeRef src).search
  else if s.active Reg.CLK_CTRL_RECOVER = 1 ∧ s.slewable then ({ s with free := s.free + 1 }.takeRef src).setLoop 3
  else ({ s with free := s.free + 1 }.takeRef src).setLoop 2

/-- s with the active reference changed to src (R266). -/
def State.changeRef (s : State) (src : Nat) : State :=
  if s.loopSt = 0 then { s.dropRamp.setLoop 1 with clk := { (s.dropRamp.setLoop 1).clk with next := some src } }
  else s.returnFrom src

/-- s with a loss detected: the status bit, the counter, the occurrence and the alarm, with CLK_STATUS[2:0] as its
detail (R303, R370). -/
def State.lossNote (s : State) (st cnt : Fld) (src : Nat) : State :=
  (((s.put st 1).bump cnt).monMark src).alarm 0x0006 s.loopSt

/-- s with the active reference lost (R264, R265, R271): HOLDOVER, and with FALLBACK_EN the oven oscillator in the next
cycle. -/
def State.loseRef (s : State) (next : Option Nat) : State :=
  let s1 := ((s.lossNote Reg.CLK_STATUS_LOR Reg.CLK_LOR_CNT 0x265).dropRamp).put Reg.CLK_STATUS_REF_OK 0
  let s2 := if s1.loopSt = 2 then s1 else s1.setLoop 1
  { s2 with clk := { s2.clk with next :=
    (match next with
     | some n => some n
     | none => if s2.active Reg.CLK_CTRL_FALLBACK_EN = 1 then some 3 else none) } }

/-- s with the frequency error of REF_IN measured, where source src is REF_IN: a free value (R276). -/
def State.measureRef (s : State) (src : Nat) : State :=
  if 2 ≤ src then s else s.drawFree.2.put Reg.CLK_REF_FERR s.drawFree.1.toNat

/-- REF_LOSS (R264): the active source fails, and is qualified no more. The oven oscillator itself never does. -/
def execRefLoss (s : State) : Host.Outcome State Fault Refusal :=
  let n := s.get Reg.CLK_STATUS_REF_ACT
  .next (if n = 3 ∨ s.get Reg.CLK_STATUS_REF_OK = 0 then s
    else ({ s with clk := { s.clk with qualified := s.clk.qualified.filter (fun q => decide (q ≠ n)) } }.measureRef n).loseRef none)

/-- s with the sources that have failed in this cycle while they were not active qualified no more (R264): whether a REF_IN
fails is a free input, log 56, and the upstream port's source is given up where the port goes down. -/
def State.refsFail (s : State) : State :=
  { s with clk := { s.clk with qualified := s.clk.qualified.filter (fun q =>
      decide (2 ≤ q ∨ (s.get Reg.CLK_STATUS_REF_ACT = q ∧ s.get Reg.CLK_STATUS_REF_OK = 1)) || !Config.refFails q s.now) } }

/-- REF_QUALIFIED (R264, R265): the requested source, qualified again, becomes the active reference. -/
def execRefQualified (src : BitVec 2) (s : State) : Host.Outcome State Fault Refusal :=
  let n := src.toNat
  let s1 := { s with clk := { s.clk with qualified := n :: s.clk.qualified.filter (fun q => decide (q ≠ n)) } }.measureRef n
  .next (if s.active Reg.CLK_CTRL_REF_SEL = n ∧ (s.get Reg.CLK_STATUS_REF_ACT ≠ n ∨ s.get Reg.CLK_STATUS_REF_OK = 0) then
      s1.changeRef n
    else s1)

/-- s after a transfer of REF_SEL (R265): a value different from the active one is a loss, then the return of the new
source once it is qualified. -/
def State.refSelected (s : State) : State :=
  let n := s.active Reg.CLK_CTRL_REF_SEL
  if n = s.get Reg.CLK_STATUS_REF_ACT then s.restep
  else s.loseRef (if s.clk.qualified.contains n ∨ n = 3 then some n else none)

/-! ## The loop -/

/-- ROOT_LOCK_LOSS (R271, R272). -/
def execRootLockLoss (s : State) : Host.Outcome State Fault Refusal :=
  .next (if s.loopSt = 2 then s
    else (s.lossNote Reg.CLK_STATUS_LOL Reg.CLK_LOL_CNT 0x266).dropRamp.setLoop 2)

/-- s with the RETUNE or RELOCK in progress completed, if there is one (R267). -/
def State.endClkCmd (s : State) : State :=
  match s.clk.cmd with
  | some tag => { s with clk := { s.clk with cmd := none } }.clkReport tag .ok
  | none => s

/-- LOCK_ACQUIRED (R267, R269, R271): ACQUIRING becomes ALIGNING, and a RETUNE or RELOCK completes. -/
def execLockAcquired (band : BitVec 6) (s : State) : Host.Outcome State Fault Refusal :=
  .next (if s.loopSt ≠ 2 ∨ s.get Reg.CLK_STATUS_REF_OK = 0 then s
    else ((s.put Reg.CLK_STATUS_BAND band.toNat).setLoop 4).endClkCmd)

/-- SLEW_COMPLETE (R271). -/
def execSlewComplete (s : State) : Host.Outcome State Fault Refusal :=
  .next (if s.loopSt = 3 then s.setLoop 4 else s)

/-- Whether any context runs, any start is pending, or anything records (R269). -/
def State.busyModule (s : State) : Bool :=
  (upto 16).any (fun t => (s.tile t).running.isSome || (s.tile t).start.isSome) ||
  (upto 16).any (fun b => match s.recOf b with
    | some r => !r.ended
    | none => false)

/-- Whether an FCW value lies within the limits of R267: 180 to 245.76. -/
def fcwLegal (f : Int) : Bool := decide (180 * 2 ^ 32 ≤ f ∧ f * 100 ≤ 24576 * 2 ^ 32)

/-- s with the loop acquiring afresh for a command: the band search covers the span as it now stands (R267). -/
def State.relock (s : State) (tag : Nat) : State :=
  ({ s with clk := { s.clk with cmd := some tag } }.put Reg.CLK_CMD_STATUS_BUSY 1).setLoop 2

/-- Whether a START or RESUME that waits in this cycle will be accepted: it is accepted before a RETUNE of the cycle (R277). -/
def State.startAhead (s : State) : Bool :=
  s.pending.any (fun i => match i with
    | .seqStart t tag c m => (match execSeqStart t tag c m s with
      | .next u => decide (u.get (Reg.SEQ_CMD_STATUS_STS t) = 0) && (u.tile t).start.isSome
      | _ => false)
    | .seqResume t tag c m => (match execSeqResume t tag c m s with
      | .next u => decide (u.get (Reg.SEQ_CMD_STATUS_STS t) = 0) && (u.tile t).start.isSome
      | _ => false)
    | _ => false)

/-- RETUNE (R269, R277). -/
def execRetune (tag : BitVec 8) (s : State) : Host.Outcome State Fault Refusal :=
  .next (s.clkCmd fun s =>
    let f := s.active64 Reg.CLK_ROOT_FCW_LO Reg.CLK_ROOT_FCW_HI
    if s.busyModule ∨ s.startAhead then s.clkReport tag.toNat .state
    else if !fcwLegal f then s.clkReport tag.toNat .range
    else if s.clk.ramp.isSome then s.clkReport tag.toNat .busy
    else ((s.put64 Reg.CLK_ROOT_FCW_ACT_LO Reg.CLK_ROOT_FCW_ACT_HI f).reclock s.rate).relock tag.toNat)

/-- RELOCK (R269). -/
def execRelock (tag : BitVec 8) (s : State) : Host.Outcome State Fault Refusal :=
  .next (s.clkCmd fun s =>
    if s.busyModule ∨ s.loopSt ≠ 0 then s.clkReport tag.toNat .state
    else if s.clk.ramp.isSome then s.clkReport tag.toNat .busy
    else s.relock tag.toNat)

/-! ## Ramps (R275) -/

/-- Whether the span of a ramp lies inside the band chosen at the last lock: what that search covered does; of what lies
outside it, the band's own edges decide. -/
def State.bandHolds (s : State) (f : Int) : Bool :=
  let lo := if s.clk.span.1 ≤ s.clk.span.2 then s.clk.span.1 else s.clk.span.2
  let hi := if s.clk.span.1 ≤ s.clk.span.2 then s.clk.span.2 else s.clk.span.1
  decide (lo ≤ f ∧ f ≤ hi) || Config.bandCovers (s.get Reg.CLK_STATUS_BAND) f

/-- The refusal of a RAMP_START, if there is one. -/
def State.rampCheck (s : State) : Option Sts :=
  let b := s.fcwBase
  let d := s.rampDev
  if s.loopSt ≠ 0 then some .state
  else if s.clk.ramp.isSome then some .busy
  else if !fcwLegal (b + d) ∨ b * 15000 < d.natAbs * 1000000 ∨ !s.bandHolds (b + d) then some .range
  else none

/-- s with a ramp started in this cycle: applied says that a strobe driven by a system apply time starts it, which keeps
INSTEP. -/
def State.rampBegin (s : State) (applied : Bool) : State :=
  let r : Ramp := ⟨decide (s.active Reg.CLK_RAMP_CFG = 1), s.fcwBase, s.rampDev, (s.active Reg.CLK_RAMP_STEP : Nat),
    s.fcwBase, false, false, 0⟩
  ({ s with clk := { s.clk with ramp := some r, outOfStep := s.clk.outOfStep || !applied } }.put
    Reg.CLK_STATUS_RAMPING 1).restep

/-- RAMP_START (R275). -/
def execRampStart (tag : BitVec 8) (mode : BitVec 2) (s : State) : Host.Outcome State Fault Refusal :=
  .next (s.clkCmd fun s =>
    if 1 < mode.toNat then s.clkReport tag.toNat .range
    else match s.rampCheck with
    | some e => s.clkReport tag.toNat e
    | none =>
      if mode = 0 then (s.rampBegin false).clkReport tag.toNat .ok
      else { s with clk := { s.clk with rampWait := some tag.toNat } }.put Reg.CLK_CMD_STATUS_BUSY 1)

/-- s with a RAMP_START that waits for a strobe begun at one (R275), or refused where what the strobe has put into force no longer
lets it begin. -/
def State.rampStrobe (s : State) (applied : Bool) : State :=
  match s.clk.rampWait with
  | some tag =>
    let s1 := { s with clk := { s.clk with rampWait := none } }
    (match s1.rampCheck with
     | some e => s1.clkReport tag e
     | none => (s1.rampBegin applied).clkReport tag .ok)
  | none => s

/-- s with the ramp ended at an FCW, which becomes the base. -/
def State.rampOver (s : State) (f : Int) : State :=
  ({ s with clk := { s.clk with ramp := none } }.put Reg.CLK_STATUS_RAMPING 0).put64
    Reg.CLK_ROOT_FCW_ACT_LO Reg.CLK_ROOT_FCW_ACT_HI f.toNat

/-- RAMP_STOP (R275): a single ramp ends at once; a triangle ends at its next return to the base. MODE is RAMP_START's alone
(R276). -/
def execRampStop (tag : BitVec 8) (_mode : BitVec 2) (s : State) : Host.Outcome State Fault Refusal :=
  .next (s.clkCmd fun s =>
    match s.clk.ramp with
    | none => s.clkReport tag.toNat .ok
    | some r =>
      (if r.triangle then { s with clk := { s.clk with ramp := some { r with stopping := true } } }
       else s.rampOver r.cur).clkReport tag.toNat .ok)

/-- CLK_RAMP_END (R275): a single ramp has reached base + DEV. -/
def execClkRampEnd (s : State) : Host.Outcome State Fault Refusal :=
  .next (match s.clk.ramp with
    | some r => if !r.triangle && decide (r.cur = r.base + r.dev) then s.rampOver r.cur else s
    | none => s)

/-- TRIANGLE_RETURN_TO_BASE (R275). -/
def execTriangleReturnToBase (s : State) : Host.Outcome State Fault Refusal :=
  .next (match s.clk.ramp with
    | some r => if r.triangle && r.stopping && decide (r.cur = r.base) then s.rampOver r.base else s
    | none => s)

/-- The value one step from a towards b, clamped to b. -/
def stepTo (a b n : Int) : Int := if a ≤ b then (if b < a + n then b else a + n) else (if a - n < b then b else a - n)

/-- A ramp after one reference cycle: a step that would pass a bound is clamped to it, and the next reverses. -/
def Ramp.refStep (r : Ramp) : Ramp :=
  let goal := if r.back then r.base else r.base + r.dev
  let c := stepTo r.cur goal r.step
  { r with cur := c, back := if r.triangle && decide (c = goal) then !r.back else r.back }

/-- s after this core cycle's part of a ramp: a reference cycle is FCW / 16 core cycles. -/
def State.rampTick (s : State) : State :=
  match s.clk.ramp with
  | none => s
  | some r =>
    let acc := r.acc + 16 * 2 ^ 32
    let r1 := if r.cur.toNat ≤ acc then { r.refStep with acc := acc - r.cur.toNat } else { r with acc := acc }
    { s with clk := { s.clk with ramp := some r1 } }

/-- s after this core cycle's part of the clocks: sources that fail, and a change of the active reference that falls in the next
cycle (R264, R265). -/
def State.clkTick (s : State) : State :=
  let s1 := s.rampTick.refsFail
  match s1.clk.next with
  | some src => s1.returnFrom src
  | none => s1

end Sys2Proof.Machine
end

