-- ==== Sys2Proof/Machine/TxlPorts.lean ====
section
/-! DEFINITION. The Terxa ports: their states, membership, and the loss of a port (R279 to R284, R288 to R293). -/

namespace Sys2Proof.Machine

/-- STATE of port p (R283). -/
def State.portSt (s : State) (p : Nat) : Nat := s.get (Reg.TXL_PSTATUS_STATE p)

/-- UP in force: the upstream port, or 4 for none (R281). -/
def State.upPort (s : State) : Nat := s.active Reg.TXL_CFG_UP

/-- Whether port p is enabled (R281). -/
def State.portOn (s : State) (p : Nat) : Bool := decide (fieldOf (s.active Reg.TXL_CFG_PORT_EN) p 1 = 1)

/-- s with transfer l of another module on handle h replaced, or ended (R36, R291). -/
def State.setGuest (s : State) (h : Nat) (l : Guest) (gone : Bool) : State :=
  match s.seg h with
  | none => s
  | some g =>
    let rest := g.guests.filter (fun x => decide (x.port ≠ l.port ∨ x.read ≠ l.read))
    s.setSeg h { g with guests := if gone then rest else l :: rest }

/-- s with every peer transfer through port p ended (R292). -/
def State.endPeers (s : State) (p : Nat) : State :=
  let open_ := s.segs.flatMap (fun q => (q.2.loads.filter (fun l => decide (l.src = p + 1))).map (fun l => (q.1, l)))
  let guests := s.segs.flatMap (fun q => (q.2.guests.filter (fun l => decide (l.port = p))).map (fun l => (q.1, l)))
  let s1 := forEach (fun s q => match s.seg q.1 with
    | some g => s.endLoad q.1 g q.2 .state false
    | none => s) open_ s
  forEach (fun s q => s.setGuest q.1 q.2 true) guests s1

/-- s with TXL_PMODS of every downstream port counted again (R289). -/
def State.countMods (s : State) : State :=
  forUpto (fun s p => s.put (Reg.TXL_PMODS p)
    (if p = s.upPort then 0 else countIf (fun m => decide (m.1 = p)) s.txl.members)) 4 s

/-- s with what came down the upstream port forgotten (R288). -/
def State.forgetUp (s : State) : State :=
  { s with
    clk := { s.clk with qualified := s.clk.qualified.filter (fun q => decide (q ≠ 2)) }
    txl := { s.txl with traceUp := false, ready := false, sync := none, heard := none, timeOk := false } }

/-- s out of the system (R288), since the upstream port is DOWN or its keep-alives carry TRACE 0: the reference counts as lost; a
member sends the alarm. -/
def State.leaveSystem (s : State) : State :=
  let s1 := s.forgetUp
  let s2 := if s1.get Reg.TXL_STATUS_JOINED = 1 then (s1.put Reg.TXL_STATUS_JOINED 0).alarm 0x0002 0 else s1
  let s3 := (s2.put Reg.TXL_STATUS_LOSS 1).put Reg.TXL_STATUS_SYSLOST 1
  if s3.get Reg.CLK_STATUS_REF_ACT = 2 ∧ s3.get Reg.CLK_STATUS_REF_OK = 1 then s3.loseRef none else s3

/-- s with the subtree behind downstream port p out of the system (R289). -/
def State.loseSubtree (s : State) (p : Nat) : State :=
  let s1 := { s with txl := { s.txl with
    members := s.txl.members.filter (fun m => decide (m.1 ≠ p))
    reports := s.txl.reports.filter (fun m => decide (m.1 ≠ p))
    joined := s.txl.joined.filter (fun q => decide (q ≠ p)) } }
  ((s1.put (Reg.TXL_PMODS p) 0).put Reg.TXL_STATUS_SUBLOST 1).alarm 0x0001 p

/-- s with port p in a state; a transition to DOWN counts. -/
def State.setPort (s : State) (p n : Nat) : State :=
  let s1 := s.put (Reg.TXL_PSTATUS_STATE p) n
  if n = 1 ∧ s.portSt p ≠ 1 then s1.bump (Reg.TXL_DOWN_CNT p) else s1

/-- s with port p taken out of whatever state it is in to DOWN or OFF (R283, R288, R289, R292): an UP port's partner is
lost; up says whether it had the upstream role. -/
def State.dropPort (s : State) (p n : Nat) (up : Bool) : State :=
  let was := s.portSt p
  let s1 := s.setPort p n
  let s2 := { s1 with txl := { s1.txl with unlocked := s1.txl.unlocked.filter (fun q => decide (q ≠ p)) } }
  if was = 4 then
    let s3 := (s2.endCalWhere (fun r => decide (r.op = 6 ∧ r.cur = p))).endPeers p
    let s4 := { s3 with cal := { s3.cal with plat := mdel s3.cal.plat p } }
    if up then s4.leaveSystem else s4.loseSubtree p
  else s2

/-- s with DOWN port p, with light at its lanes, in TRAINING; one whose far end has its own role stays DOWN (R281, R283). -/
def State.tryTrain (s : State) (p : Nat) : State :=
  if s.txl.facing.contains p = decide (s.upPort = p) then s.put (Reg.TXL_PSTATUS_STS p) Sts.precond.code else s.setPort p 2

/-- s after this cycle on the ports that are DOWN though they have light: they train (R283). -/
def State.portTick (s : State) : State :=
  forUpto (fun s p => if s.portSt p = 1 ∧ s.get (Reg.TXL_PSTATUS_LIGHT p) = 1 then s.tryTrain p else s) 4 s

/-- LIGHT_PRESENT (R281, R283): a DOWN port trains; one whose far end has its own role stays DOWN. A FAILED port whose light
went and came back is DOWN first. -/
def execLightPresent (p : PortNo) (partner : Bool) (s : State) : Host.Outcome State Fault Refusal :=
  let n := p.val
  let s0 : State := { s.put (Reg.TXL_PSTATUS_LIGHT n) 1 with txl := { s.txl with
    facing := (if partner then [n] else []) ++ s.txl.facing.filter (fun q => decide (q ≠ n)) } }
  let s1 : State := if s.portSt n = 5 ∧ s.get (Reg.TXL_PSTATUS_LIGHT n) = 0 then s0.setPort n 1 else s0
  .next (if s1.portSt n ≠ 1 then s1 else s1.tryTrain n)

/-- LANE_ALIGNED (R279, R283): a port in TRAINING calibrates; one that had lost block lock carries messages again. -/
def execLaneAligned (p : PortNo) (s : State) : Host.Outcome State Fault Refusal :=
  .next (
    let s1 := { s with txl := { s.txl with unlocked := s.txl.unlocked.filter (fun q => decide (q ≠ p.val)) } }
    if s.portSt p = 2 then s1.setPort p 3 else s1)

/-- TRAINING_TIMEOUT (R283). -/
def execTrainingTimeout (p : PortNo) (s : State) : Host.Outcome State Fault Refusal :=
  .next (if s.portSt p = 2 then (s.setPort p 5).put (Reg.TXL_PSTATUS_STS p) Sts.trainfail.code else s)

/-- PORT_CALIBRATION_DONE (R283, R284): the one-way delay in fine steps, and the residual in 0.1 ps. -/
def execPortCalibrationDone (p : PortNo) (rtt : BitVec 32) (turn : BitVec 32) (resid : BitVec 32) (s : State) :
    Host.Outcome State Fault Refusal :=
  let d : Int := ((rtt.toNat : Int) - turn.toNat) / 2 + signedOf 16 (s.active (Reg.TXL_ASYM p))
  .next (if s.portSt p ≠ 3 then s
    else (((s.put (Reg.TXL_PLAT p) (unsignedOf 32 d)).put (Reg.TXL_PRES p) (Nat.min resid.toNat 0xFFFF)).put
      (Reg.TXL_PSTATUS_STS p) Sts.ok.code).setPort p 4)

/-- LIGHT_LOSS (R283). -/
def execLightLoss (p : PortNo) (s : State) : Host.Outcome State Fault Refusal :=
  let s1 := s.put (Reg.TXL_PSTATUS_LIGHT p) 0
  .next (if 2 ≤ s.portSt p ∧ s.portSt p ≤ 4 then s1.dropPort p 1 (decide (s.upPort = p)) else s1)

/-- KEEPALIVE_TIMEOUT (R283): three of them in a row have been missed. -/
def execKeepaliveTimeout (p : PortNo) (s : State) : Host.Outcome State Fault Refusal :=
  .next (if s.portSt p = 4 then (s.bump (Reg.TXL_KA_MISS_CNT p) 3).dropPort p 1 (decide (s.upPort = p)) else s)

/-- KEEPALIVE_SEND (R280): what leaves is made of the module's state, which it does not change. -/
def execKeepaliveSend (_p : PortNo) (s : State) : Host.Outcome State Fault Refusal := .next s

/-- BLOCK_LOCK_LOSS (R279): 16 invalid sync headers; the port, or the Crossing, carries no message until it locks again. -/
def execBlockLockLoss (port : Option PortNo) (s : State) : Host.Outcome State Fault Refusal :=
  .next (match port with
    | some p => { s.bump (Reg.TXL_BLK_ERR_CNT p) 16 with txl := { s.txl with
        unlocked := p.val :: s.txl.unlocked.filter (fun q => decide (q ≠ p.val)) } }
    | none => { s with xng := { s.xng with up := false } })

/-- Whether port p carries messages (R279, R283). -/
def State.portTalks (s : State) (p : Nat) : Bool := decide (s.portSt p = 4) && !s.txl.unlocked.contains p

/-- Whether the root is locked to a reference traceable to a timekeeper (TRACE, R288, R290). -/
def State.trace (s : State) : Bool :=
  decide (s.loopSt = 0 ∨ s.loopSt = 3 ∨ s.loopSt = 4) &&
  (decide (s.upPort = 4) || (decide (s.get Reg.CLK_STATUS_REF_ACT = 2) && s.txl.traceUp && s.portTalks s.upPort))

/-- s with READY judged (R282, R290). -/
def State.judgeReady (s : State) : State :=
  let depth := s.txl.depthUp + 1
  let s1 := s.put Reg.TXL_STATUS_DEPTH depth
  if 8 < depth then (s1.put Reg.TXL_STATUS_JOIN_STS Sts.range.code)
  else if s.active Reg.CLK_CTRL_REF_SEL ≠ 2 then s1.put Reg.TXL_STATUS_JOIN_STS Sts.precond.code
  else if s.loopSt = 4 ∧ s.get Reg.CLK_STATUS_REF_ACT = 2 ∧ s.get Reg.CLK_STATUS_REF_OK = 1 ∧ s.txl.timeOk then
    { s1 with txl := { s1.txl with ready := true } }
  else s1

/-- KEEPALIVE_MESSAGE (R288, R290). From upstream: TRACE, the depth, and the system time, which two in a row confirm when
they differ by the interval counted here, within a fine step; from downstream: JOINED and the READY reports. -/
def execKeepaliveMessage (p : PortNo) (time : BitVec 64) (trace : Bool) (joined : Bool) (depth : BitVec 4)
    (ready : List (BitVec 9)) (s : State) : Host.Outcome State Fault Refusal :=
  .next (
    if !s.portTalks p then s
    else if s.upPort = p.val then
      let t := time.toNat + s.get (Reg.TXL_PLAT p) / Config.fine
      let s1 := { s with txl := { s.txl with traceUp := trace, depthUp := depth.toNat } }
      if !trace then s1.leaveSystem
      else
        let ok := match s1.txl.heard with
          | some (n, u) => decide (t = u + (s1.now - n))
          | none => false
        { s1 with txl := { s1.txl with heard := some (s1.now, t), timeOk := ok } }.judgeReady
    else
      let s1 := { s with txl := { s.txl with
        joined := (if joined then [p.val] else []) ++ s.txl.joined.filter (fun q => decide (q ≠ p.val))
        reports := ready.map (fun m => (p.val, m.toNat)) ++ s.txl.reports.filter (fun m => decide (m.1 ≠ p.val)) } }
      -- the far end lies too deep to join (R282)
      if !joined ∧ 8 < depth.toNat then s1.put (Reg.TXL_PSTATUS_STS p) Sts.range.code else s1)

/-! ## Commands and settings -/

/-- s with a port command reported. -/
def State.txlReport (s : State) (tag : Nat) (e : Sts) : State :=
  ((s.put Reg.TXL_CMD_STATUS_TAG tag).put Reg.TXL_CMD_STATUS_STS e.code).put Reg.TXL_CMD_STATUS_BUSY 0

/-- TXL_RETRAIN (R283, R293, R295). -/
def execTxlRetrain (tag : BitVec 8) (p : PortNo) (s : State) : Host.Outcome State Fault Refusal :=
  .next (if !s.portOn p then s.txlReport tag.toNat .state
    else (s.dropPort p 1 (decide (s.upPort = p))).txlReport tag.toNat .ok)

/-- TXL_DOWN (R283). -/
def execTxlDown (tag : BitVec 8) (p : PortNo) (s : State) : Host.Outcome State Fault Refusal :=
  .next ((s.dropPort p 0 (decide (s.upPort = p))).txlReport tag.toNat .ok)

/-- TXL_ID_WRITE (R293): ignored while any port is UP. -/
def execTxlIdWrite (v : Word) (s : State) : Host.Outcome State Fault Refusal :=
  .next (if (upto 4).any (fun p => decide (s.portSt p = 4)) then s.put Reg.TXL_STATUS_ID_IGNORED 1
    else s.put Reg.TXL_ID v.toNat)

/-- s with port p as a transfer of TXL_CFG leaves it (R281, R283, R295): was and up0 are its enable and the upstream port
before. -/
def State.portCfg (s : State) (up0 : Nat) (was : Bool) (p : Nat) : State :=
  let role := decide (s.upPort = p)
  let s1 := s.put (Reg.TXL_PSTATUS_ROLE p) (bit role)
  if !s1.portOn p then (if s1.portSt p = 0 then s1 else s1.dropPort p 0 (decide (up0 = p)))
  else if !was && decide (s1.portSt p = 0) then s1.setPort p 1
  else if role ≠ decide (up0 = p) ∧ 2 ≤ s1.portSt p then
    let s2 := s1.dropPort p 1 (decide (up0 = p))
    if s1.portSt p = 4 ∨ s1.portSt p = 5 then s2
    else if s2.txl.facing.contains p = role then s2.put (Reg.TXL_PSTATUS_STS p) Sts.precond.code
    else s2.setPort p 2
  else s1

/-- s after a transfer of TXL_CFG from an upstream port up0 and enables en0 (R281). -/
def State.txlConfigured (s : State) (up0 en0 : Nat) : State :=
  let s1 := forUpto (fun s p => s.portCfg up0 (decide (fieldOf en0 p 1 = 1)) p) 4 s
  let tk := decide (s1.upPort = 4)
  let s2 := s1.put Reg.TXL_STATUS_TK (bit tk)
  if tk = decide (up0 = 4) then s2
  else if tk then ((s2.put Reg.TXL_STATUS_JOINED 1).put Reg.TXL_STATUS_SYSLOST 0).put Reg.TXL_STATUS_DEPTH 0
  else (s2.put Reg.TXL_STATUS_JOINED 0).put Reg.TXL_STATUS_SYSLOST 1

/-! ## Syncs -/

/-- The worst path of the system as the timekeeper knows it (R286): 16 cc alone, from the two longest hops where no module
lies deeper than one hop; otherwise the delays of the hops beyond its ports decide: a free value. -/
def State.worstPath (s : State) : Nat :=
  let hops := (upto 4).map (fun p => if countIf (fun m => decide (m.1 = p)) s.txl.members = 0 then 0 else s.get (Reg.TXL_PLAT p))
  if (upto 4).all (fun p => decide (countIf (fun m => decide (m.1 = p)) s.txl.members ≤ 1)) then
    let a := hops.foldl Nat.max 0
    ceilDiv (a + (hops.erase a).foldl Nat.max 0) Config.fine + 16
  else (Config.freeValue s.free).toNat % 2 ^ 32

/-- The READY modules whose join the timekeeper grants (R282): IDs that no member, no other reporter and not it itself has. -/
def State.grantable (s : State) : List (Nat × Nat) :=
  s.txl.reports.filter (fun m => decide (m.2 ≠ s.get Reg.TXL_ID) &&
    !s.txl.members.any (fun q => decide (q.2 = m.2)) &&
    decide (countIf (fun q => decide (q.2 = m.2)) s.txl.reports = 1))

/-- s with the joins refused for a duplicate ID noted (R282). -/
def State.refuseDup (s : State) : State :=
  let ok := s.grantable
  forEach (fun s m => if ok.contains m then s
    else (s.put Reg.TXL_STATUS_DUP 1).put (Reg.TXL_PSTATUS_STS m.1) Sts.precond.code) s.txl.reports s

/-- TXL_SYNC_PER in force. -/
def State.syncPer (s : State) : Nat := s.active Reg.TXL_SYNC_PER_LO + 2 ^ 32 * s.active Reg.TXL_SYNC_PER_HI

/-- SYNC_ISSUE (R285, R286): a module with no upstream port issues the sync of the first multiple of TXL_SYNC_PER that lies
at least the worst path + 64 cc ahead; before the first pulse of all, system time 0 that far ahead. -/
def execSyncIssue (s : State) : Host.Outcome State Fault Refusal :=
  .next (
    if s.upPort ≠ 4 ∨ s.txl.sync.isSome then s
    else if !s.txl.started && decide (s.loopSt ≠ 4) then s
    else
      let s1 := s.refuseDup
      let w := s1.worstPath
      let free := if (upto 4).all (fun p => decide (countIf (fun m => decide (m.1 = p)) s1.txl.members ≤ 1)) then s1.free
        else s1.free + 1
      let soon := s1.now + w + 64
      let ts := if s1.txl.started then ceilDiv (s1.sysTime soon) s1.syncPer * s1.syncPer else 0
      let due := if s1.txl.started then soon + (ts - s1.sysTime soon) else soon
      let g := s1.grantable
      let all := s1.get Reg.TXL_ID :: (s1.txl.members ++ g).map (fun m => m.2)
      { s1 with
        free := free
        txl := { s1.txl with sync := some ⟨due, ts, w, g.map (fun m => m.2), all⟩ } })

/-- SYNC_MESSAGE (R285, R290): from upstream, for a joined module or one whose join it grants. -/
def execSyncMessage (p : PortNo) (ts : BitVec 64) (worst : BitVec 32) (grants : List (BitVec 9))
    (members : List (BitVec 9)) (s : State) : Host.Outcome State Fault Refusal :=
  let mine := s.txl.ready && (grants.map (fun m => m.toNat)).contains (s.get Reg.TXL_ID)
  let due := match s.txl.heard with
    | some (n, t) => if mine then n + (ts.toNat - t) else s.cycleOf ts.toNat
    | none => s.cycleOf ts.toNat
  .next (if s.upPort ≠ p.val ∨ !s.portTalks p ∨ (s.get Reg.TXL_STATUS_JOINED = 0 ∧ !mine) then s
    else
      let m : SyncMsg := ⟨due, ts.toNat, worst.toNat, grants.map (fun m => m.toNat), members.map (fun m => m.toNat)⟩
      { s with txl := { s.txl with sync := some m } })

/-- s with the membership of a sync in force (R285, R286, R294): a member not known behind a downstream port is reached
through the upstream port. -/
def State.syncMembers (s : State) (m : SyncMsg) : State :=
  let own := s.get Reg.TXL_ID
  let known := s.txl.members.filter (fun q => decide (q.1 ≠ s.upPort)) ++ s.txl.reports
  let via := (m.members.filter (fun i => decide (i ≠ own))).map (fun i =>
    match known.find? (fun q => decide (q.2 = i)) with
    | some q => (q.1, i)
    | none => (s.upPort, i))
  (({ s with txl := { s.txl with
      members := via
      reports := s.txl.reports.filter (fun q => !m.members.contains q.2)
      map := m.members
      sync := none
      started := true } }.put Reg.TXL_WORST m.worst).put Reg.TXL_MEMBERS m.members.length).countMods

/-! ## Peer data (R291) -/

/-- The open LOAD of a segment that a frame through port p serves. -/
def Seg.peerLoad (g : Seg) (p off : Nat) (read : Bool) : Option OpenLoad :=
  g.loads.find? (fun l => decide (l.src = p + 1 ∧ l.read = read ∧ l.off + l.done = off))

/-- The word of a storage at which word i of a frame lands: the ring's position from total wr on, or the words from off on. -/
def frameWord (ring : Bool) (wr off len i : Nat) : Nat := if ring then (wr + i) % len else off + i

/-- s with the lines of the words at some indices of a frame poisoned, of which n words were taken (R251). -/
def State.poisonWords (s : State) (sid n : Nat) (at_ : Nat → Nat) (bad : List Nat) : State :=
  forEach (fun s i => if i < n then s.poisonLine sid (at_ i / 7) else s) bad s

/-- s with a frame of a pull of this module, for the next words of LOAD l of handle h. -/
def State.pullFrame (s : State) (h : Nat) (g : Seg) (l : OpenLoad) (words : List Word72) (bad : List Nat) : State :=
  let st := s.store l.sid
  (s.loadWords h g l words).poisonWords l.sid (s.loadTakes l words).length
    (frameWord l.ring st.wr (l.off + l.done) st.len) bad

/-- The transfer of another module through port p that is open on a segment. -/
def Seg.guest (g : Seg) (p : Nat) (read : Bool) : Option Guest :=
  g.guests.find? (fun l => decide (l.port = p ∧ l.read = read))

/-- Whether a transfer of another module may begin on a segment (R36, R39, R291, R292): as if a LOAD here had named it. -/
def State.guestMay (s : State) (h : Nat) (g : Seg) (read ring : Bool) : Bool :=
  let kind := (s.store g.sid).kind
  decide (s.get Reg.GLB_STATE_PROFILE ≠ 3) && s.pw.change ≠ some 3 &&
  (if read then !g.loading && !(decide (kind = .capture) && s.isLive h)
   else decide (kind ≠ .capture) && (ring || !s.liveNow h))

/-- s with a push of another module open on handle h (R36, R38): the segment is LOADING, but for a ring. -/
def State.openGuest (s : State) (h : Nat) (g : Seg) (p : Nat) (read : Bool) (off : Nat) : Guest × State :=
  let ring := !read && decide ((s.store g.sid).kind = .slipway)
  let l : Guest := ⟨p, read, ring, g.sid, off, 0, []⟩
  let writes := !read && !ring
  (l, s.setSeg h { g with
    guests := l :: g.guests
    loading := g.loading || writes
    finalDone := if writes && !g.loading then false else g.finalDone })

/-- s with a frame of words of a push of another module, transfer l on handle h (R251, R291). -/
def State.pushFrame (s : State) (h : Nat) (l : Guest) (words : List Word72) (bad : List Nat) : State :=
  let st := s.store l.sid
  let ws := if l.ring then words.take (s.ringRoom l.sid) else words
  let s1 := if l.ring then s.ringWrite l.sid (st.wr - l.done) l.marred ws
    else s.fillWords l.sid l.off (l.off + l.done) l.marred ws
  let s2 := s1.setGuest h { l with
    done := l.done + ws.length
    marred := if l.ring then [] else l.marred } false
  s2.poisonWords l.sid ws.length (frameWord l.ring st.wr (l.off + l.done) st.len) bad

/-- s with transfer l of another module on handle h over (R36): after a push with FINAL, or with FINAL done before, the segment is
READY once no other transfer writes it. -/
def State.endGuest (s : State) (h : Nat) (l : Guest) (final : Bool) : State :=
  let s1 := s.setGuest h l true
  match s1.seg h with
  | none => s1
  | some g =>
    let fin := g.finalDone || (final && !l.read && !l.ring)
    let open_ := g.loads.any (fun x => x.writes) || g.guests.any (fun x => x.writes)
    s1.setSeg h { g with
      finalDone := fin
      loading := g.loading && (open_ || !fin) }

/-- s with a frame of another module's transfer on handle h: of a push, words from word off on; of a pull, a request for as many
words as the frame's. A frame without words ends the transfer, and so does one with FINAL. -/
def State.guestFrame (s : State) (p h : Nat) (g : Seg) (read final : Bool) (off : Nat) (words : List Word72)
    (bad : List Nat) : State :=
  let go := fun (l : Guest) (s : State) =>
    if read then
      if words.isEmpty then s.endGuest h l false
      else (s.wordsUse l.sid (l.off + l.done) words.length).setGuest h { l with done := l.done + words.length } false
    else
      let s1 := s.pushFrame h l words bad
      if final ∨ words.isEmpty then (match (s1.seg h).bind (fun g => g.guest p false) with
        | some l1 => s1.endGuest h l1 final
        | none => s1)
      else s1
  match g.guest p read with
  | some l => if (s.store l.sid).len < off + words.length ∨ (!l.ring ∧ l.off + l.done ≠ off) then s else go l s
  | none =>
    let d := s.openGuest h g p read off
    if (s.store g.sid).len < off + words.length ∨ !s.guestMay h g read d.1.ring ∨ (words.isEmpty ∧ !final) then s
    else go d.1 d.2

/-- The statuses with which the far end of a peer transfer refuses it or ends it (R39 to R41, R292). -/
def peerStatuses : List Sts := [.busy, .badhandle, .precond, .range, .state]

/-- s with the oldest LOAD of handle h that moves words through port p in a direction ended by the far end with the status of a
code (R292). -/
def State.peerEnds (s : State) (p h : Nat) (g : Seg) (read : Bool) (code : Nat) : State :=
  match peerStatuses.find? (fun e => decide (e.code = code)), g.loads.find? (fun l => decide (l.src = p + 1 ∧ l.read = read)) with
  | some e, some l => s.endLoad h g l e false
  | _, _ => s

/-- PEER_DATA_FRAME (R246, R291, R292). Kind 0: data of a pull of this module, for its next words. Kind 1: the peer has taken words
of a push of this module; with no such push, a peer's pull asks for as many words of a segment of this one. Kind 2: data of a
push of another module into a segment of this one; kind 3: the same, ending it with FINAL. The state rules apply to the segment
as if a LOAD here had named it. bad lists the words read from poisoned lines. A frame of kind 0 or 1 without words carries in
off the status with which the far end refuses the transfer of this module, or ends it; STS_OK ends a peer's pull (DESIGN CHOICE,
log 63: the spec gives frames no layout). A stack that is HOT takes none. -/
def execPeerDataFrame (p : PortNo) (kind : BitVec 2) (h : BitVec 24) (off : BitVec 34) (words : List Word72)
    (bad : List Nat) (s : State) : Host.Outcome State Fault Refusal :=
  let ends := words.isEmpty && decide (kind = 0 ∨ (kind = 1 ∧ off ≠ 0))
  .next (
    if !s.portTalks p then s
    else match s.seg h.toNat with
    | none => s
    | some g =>
      if s.tooHot g.sid then s
      else if ends then s.peerEnds p h.toNat g (decide (kind = 1)) off.toNat
      else if kind = 0 then
        (match g.peerLoad p off.toNat false with
         | some l => if l.count < l.done + words.length then s
           else s.pullFrame h.toNat g l words bad
         | none => s)
      else if kind = 1 then
        (match g.peerLoad p off.toNat true with
         | some l => if l.count < l.done + words.length then s
           else (s.wordsUse l.sid (l.off + l.done) words.length).setSeg h.toNat { g with loads := g.loads.map (fun x =>
             if x = l then { x with done := x.done + words.length } else x) }
         | none => s.guestFrame p h.toNat g true false off.toNat words bad)
      else s.guestFrame p h.toNat g false (decide (kind = 3)) off.toNat words bad)

end Sys2Proof.Machine
end

