-- ==== Sys2Proof/Machine/Strobe.lean ====
section
/-! DEFINITION. Update strobes: the transfer of shadows and every use of a strobe as a time (R321 to R323, R331), with the
timers (R97). -/

namespace Sys2Proof.Machine

/-! ## Timers (R97) -/

/-- PERIOD of timer n in force. -/
def State.tmrPeriod (s : State) (n : Nat) : Nat := s.active64 (Reg.EVT_TMR_PER_LO n) (Reg.EVT_TMR_PER_HI n)

/-- s with timer n stopped. -/
def State.tmrStop (s : State) (n : Nat) : State :=
  { s with evt := { s.evt with timers := mdel s.evt.timers n } }.put (Reg.EVT_TMR_CTRL_RUN n) 0

/-- s with timer n started in this cycle; with PERIOD 0 it stays stopped. -/
def State.tmrStart (s : State) (n : Nat) : State :=
  let p := s.tmrPeriod n
  if p = 0 then s.tmrStop n
  else
    let t : Timer := ⟨s.now + p, decide (s.active (Reg.EVT_TMR_CTRL_PERIODIC n) = 0)⟩
    { s with evt := { s.evt with timers := mins s.evt.timers n t } }.put (Reg.EVT_TMR_CTRL_RUN n) 1

/-- TIMER_START. -/
def execTimerStart (n : TimerNo) (s : State) : Host.Outcome State Fault Refusal := .next (s.tmrStart n)

/-- TIMER_STOP. -/
def execTimerStop (n : TimerNo) (s : State) : Host.Outcome State Fault Refusal := .next (s.tmrStop n)

/-- TIMER_EXPIRY (R97): the source occurs with the expiry cycle as its timestamp; a periodic timer expires next a PERIOD later. Where
PERIODIC transfers while a timer runs, a timer started as a one-shot stays one, and a periodic one stops at its next expiry after
PERIODIC becomes 0 (DESIGN CHOICE, log 123: R97 does not say). -/
def execTimerExpiry (n : TimerNo) (s : State) : Host.Outcome State Fault Refusal :=
  .next (match mfind s.evt.timers n with
    | none => s
    | some t =>
      if s.now < t.expiry then s
      else
        let s1 := s.occur (0x0A5 + n.val) t.expiry (s.tsAt t.expiry)
        if t.last ∨ s.active (Reg.EVT_TMR_CTRL_PERIODIC n) = 0 ∨ s.tmrPeriod n = 0 then s1.tmrStop n
        else { s1 with evt := { s1.evt with timers := mins s1.evt.timers n ⟨t.expiry + s.tmrPeriod n, false⟩ } })

/-! ## What a strobe transfers -/

/-- The shadow that a strobe in this cycle sees at address a: as it stood before a software write of this cycle (R331). -/
def State.shadow (s : State) (a : Nat) : Word := (mfind s.wrote a).getD (s.regWord a)

/-- A field of the shadows that a strobe sees. -/
def State.shadowOf (s : State) (f : Fld) : Nat := fieldOf (s.shadow f.addr).toNat f.lo f.n

/-- The UPD_GRP field that governs the register at address a of a block (R321). -/
def updFld (u : Upd) (a : Nat) : Option Fld :=
  match u with
  | .none => none
  | .plc => some Reg.PLC_CFG_UPD_GRP
  | .seq => some (Reg.SEQ_CTRL_UPD_GRP ((a - 0x080000) / 0x4000))
  | .evt => some Reg.EVT_CTRL_UPD_GRP
  | .wav => some (Reg.WAV_CTRL_UPD_GRP (if a < 0x0C0000 then (a - 0x080000) / 0x4000 else (a - 0x0E0000) / 0x800))
  | .grp => some (Reg.GRP_CTRL_UPD_GRP ((a - 0x0D0000) / 0x1000))
  | .cap => some (Reg.CAP_CTRL_UPD_GRP ((a - 0x0C0000) / 0x2000))
  | .mem => some Reg.MEM_CTRL_UPD_GRP
  | .clk => some Reg.CLK_CTRL_UPD_GRP
  | .txl => some Reg.TXL_CFG_UPD_GRP
  | .mon => some Reg.MON_CTRL

/-- Whether MON_CFG.SRC may hold a code (R370). -/
def monSource (v : Nat) : Bool := decide (v ≤ 0x114) || decide (0x120 ≤ v ∧ v ≤ 0x267)

/-- Whether a value of the field at bit lo of the register with base address b transfers (R323). -/
def fieldLegal (b lo v : Nat) : Bool :=
  match b, lo with
  | 0x038050, 8 => decide (v ≠ 0)
  | 0x030008, 0 => decide (16 ≤ v)
  | 0x03000C, 0 => decide (8 ≤ v ∧ v ≤ 16)
  | 0x030010, 0 => decide (v ≤ 4)
  | 0x030014, 0 => decide (1 ≤ v ∧ v ≤ 10)
  | 0x080400, 4 => decide (v ≤ 1)
  | 0x080404, 4 => decide (v ≤ 4)
  | 0x0E0000, 0 => decide (v ≤ 9 ∧ v ≠ 3)
  | 0x08041C, 0 => decide (1 ≤ v ∧ v ≤ 62)
  | 0x040040, 4 => decide (v ≠ 3)
  | 0x040080, 4 => decide (v ≠ 3)
  | 0x0401C0, 0 => decide (v ≤ 767)
  | 0x160000, 0 => decide (v ≤ 0x114)
  | 0x160450, 0 => decide (v ≤ 0x114)
  | 0x0C0000, 10 => decide (v ≠ 3)
  | 0x0C0008, 0 => decide (v ≤ 3)
  | 0x0C0010, 0 => decide (v = 1 ∨ (4 ≤ v ∧ v ≤ 4096))
  | 0x0C0014, 0 => decide (v ≤ 62)
  | 0x020000, 24 => decide (v ≠ 0)
  | 0x020020, 0 => decide (v ≤ 1)
  | 0x02002C, 0 => decide (v ≠ 0)
  | 0x020030, 0 => decide (v ≠ 0)
  | 0x020034, 0 => decide (8 ≤ v)
  | 0x050000, 4 => decide (v ≤ 4)
  | 0x060000, 0 => monSource v
  | 0x060000, 16 => decide (v ≠ 3)
  | 0x060000, 18 => decide (v ≠ 3)
  | 0x060000, 20 => decide (v ≠ 3)
  | _, _ => true

/-- Whether the pair TXL_SYNC_PER, judged whole on the shadows, is in range (R293, R323). -/
def State.syncPerLegal (s : State) : Bool :=
  let v := s.shadowOf Reg.TXL_SYNC_PER_LO + 2 ^ 32 * s.shadowOf Reg.TXL_SYNC_PER_HI
  decide (65536 ≤ v ∧ v < 2 ^ 40)

/-- Whether the field at bit lo of a register of a channel's block is of the deferred class of R178. -/
def deferredClass (b lo : Nat) : Bool :=
  decide (b = 0x080404 ∨ b = 0x080408 ∨ b = 0x08040C ∨ b = 0x080410 ∨ b = 0x080440 ∨ b = 0x080444 ∨ b = 0x080458 ∨
    (b = 0x080400 ∧ lo = 4))

/-- Whether a register is of the filter class of R236. -/
def filterClass (b : Nat) : Bool := decide (b = 0x0C0010 ∨ b = 0x0C0014 ∨ b = 0x0C0100 ∨ b = 0x0C0104)

/-- Whether a deferred-class transfer may take place on tile t: no context runs, or has run in this cycle, and no start was
pending before it (R177, R178). -/
def State.waveIdle (s : State) (t : Nat) : Bool :=
  (s.tile t).running.isNone && decide ((s.tile t).leftAt ≠ some s.now) &&
  (match (s.tile t).start with
   | some r => decide (r.earliest = s.now + Config.lead)
   | none => true)

/-- Whether register address a is one of the six levels of a pin, with the group and the pin. -/
def levelAt (a : Nat) : Option (Nat × Nat) :=
  let r := (a - 0x0D0000) % 0x1000
  if 0x0D0000 ≤ a ∧ a < 0x0D8000 ∧ 0x200 ≤ r ∧ r < 0x400 ∧ 4 ≤ r % 0x40 ∧ r % 0x40 ≤ 0x18 then
    some ((a - 0x0D0000) / 0x1000, (r - 0x200) / 0x40)
  else none

/-- Whether the levels that pin k of group g is to take make a fast pin's swing exceed 1,800 mV (R182). -/
def State.wideSwing (s : State) (g k : Nat) : Bool :=
  let hi := clampLevel g (signedOf 18 (s.shadowOf (Reg.PIN_DRV_HI g k)))
  let lo := clampLevel g (signedOf 18 (s.shadowOf (Reg.PIN_DRV_LO g k)))
  decide (g < 6) && decide (1800 < (hi - lo).natAbs)

/-- Whether the levels of pin k of group g may transfer (R182): a swing above 1,800 mV meets no short period. -/
def State.swingLegal (s : State) (g k : Nat) : Bool := !s.wideSwing g k || decide (1573 ≤ s.shortest g)

/-- One field that a strobe transfers: its register's base, its address, place, new value, and the active value before. -/
structure Xfr where
  base : Nat
  addr : Nat
  lo : Nat
  n : Nat
  v : Nat
  old : Nat
  deriving DecidableEq, Repr

/-- Whether a transfer changes the active value. -/
def Xfr.news (x : Xfr) : Bool := decide (x.v ≠ x.old)

/-- The RWS fields of register d at address a that a strobe has to transfer (R321): software has written the register, or the
shadow differs from the active value. -/
def State.changed (s : State) (d : RegD) (a : Nat) : List Xfr :=
  ((d.flds.filter (fun f => decide (f.acc = .rws))).map (fun f =>
    ⟨d.base, a, f.lo, f.n, fieldOf (s.shadow a).toNat f.lo f.n, fieldOf (s.actWord a).toNat f.lo f.n⟩)).filter
    (fun x => x.news || s.evt.written.contains a)

/-- Every field of the blocks of group g that a strobe has to transfer. -/
def State.pendingXfrs (s : State) (g : Nat) : List Xfr :=
  let stored := s.regs.map (fun p => p.1) ++ (s.act.filter (fun p => (mfind s.regs p.1).isNone)).map (fun p => p.1) ++
    (s.wrote.filter (fun p => (mfind s.regs p.1).isNone && (mfind s.act p.1).isNone)).map (fun p => p.1)
  let keys := stored ++ s.evt.written.filter (fun a => !stored.contains a)
  keys.flatMap (fun a => match regAt a with
    | some (d, _, _) =>
      (match updFld d.upd a with
       | some f => if s.shadowOf f = g then s.changed d a else []
       | none => [])
    | none => [])

/-- Whether a field transfers now: its value is legal, its class may transfer, and its pin's swing allows it. -/
def State.transfers (s : State) (x : Xfr) : Bool :=
  fieldLegal x.base x.lo x.v &&
  (if x.base = 0x05000C ∨ x.base = 0x050010 then s.syncPerLegal else true) &&
  (if deferredClass x.base x.lo then s.waveIdle ((x.addr - 0x080000) / 0x4000) else true) &&
  (if filterClass x.base then !s.recording ((x.addr - 0x0C0000) / 0x2000) else true) &&
  (match levelAt x.addr with
   | some (g, k) => s.swingLegal g k
   | none => true)

/-- s with one field transferred. -/
def State.transfer (s : State) (x : Xfr) : State := s.putActive ⟨x.addr, x.lo, x.n⟩ x.v

/-- Whether a list of transfers touches a register, or a field of it, and whether it changes the field. -/
def touches (l : List Xfr) (a : Nat) : Bool := l.any (fun x => decide (x.addr = a))
def touchesFld (l : List Xfr) (f : Fld) : Bool := l.any (fun x => decide (x.addr = f.addr ∧ x.lo = f.lo))
def alters (l : List Xfr) (f : Fld) : Bool := l.any (fun x => decide (x.addr = f.addr ∧ x.lo = f.lo) && x.news)

/-- s with the registers whose fields have all transferred no longer noted as written: all were to transfer, l did. -/
def State.unwritten (s : State) (l all : List Xfr) : State :=
  { s with evt := { s.evt with
    written := s.evt.written.filter (fun a => !(touches all a) || all.any (fun x => decide (x.addr = a) && !l.contains x)) } }

/-- s with the registers noted whose RWS fields software has written in this cycle, as it ends: the next strobe transfers them
(R321, R331); the next cycle begins with the registers as they stand. -/
def State.noteWrites (s : State) : State :=
  let news := (s.wrote.map (fun p => p.1)).filter (fun a => !s.evt.written.contains a && (match regAt a with
    | some (d, _, _) => d.flds.any (fun f => decide (f.acc = .rws))
    | none => false))
  { s with wrote := [], evt := { s.evt with written := s.evt.written ++ news, began := s.regs } }

/-! ## What a transfer causes -/

/-- s with the effects of a strobe of group g on channel w (R159, R162, R163, R176, R178): l were made, all were pending. -/
def State.wavXfr (s : State) (g : Nat) (l all : List Xfr) (w : Nat) : State :=
  let s1 := if touches l (Reg.WAV_CFG_MODE w).addr || touches l (Reg.WAV_HOLD w).addr then s.waveClear w else s
  let s2 := if touches l (Reg.WAV_GAIN w).addr then s1.put (Reg.WAV_GAIN_ACT w) (s1.active (Reg.WAV_GAIN w)) else s1
  let s3 := if touches l (Reg.WAV_OFFSET w).addr then s2.put (Reg.WAV_OFFSET_ACT w) (s2.active (Reg.WAV_OFFSET w)) else s2
  let s4 := if touches l (Reg.NCO_FTW_LO w).addr || touches l (Reg.NCO_FTW_HI w).addr then
      s3.setFtw w s3.now (s3.active64 (Reg.NCO_FTW_LO w) (Reg.NCO_FTW_HI w)) else s3
  let s5 := if alters l (Reg.WAV_RANGE w) then
      s4.setWave w { s4.wave w with muteUntil := some (s4.now + s4.microsec 2) } else s4
  let mine := fun (x : Xfr) => deferredClass x.base x.lo && decide ((x.addr - 0x080000) / 0x4000 = w)
  if s5.shadowOf (Reg.WAV_CTRL_UPD_GRP w) = g then
    s5.put (Reg.WAV_STATUS_DEFERRED w) (bit (all.any mine && !s5.waveIdle w))
  else s5

/-- s with the effects of a strobe of group g on capture channel c (R206, R220, R227, R236). -/
def State.capXfr (s : State) (g : Nat) (l all : List Xfr) (c : Nat) : State :=
  let mine := fun (x : Xfr) => filterClass x.base && decide ((x.addr - 0x0C0000) / 0x2000 = c)
  let s1 := if s.shadowOf (Reg.CAP_CTRL_UPD_GRP c) = g then
      s.put (Reg.CAP_STATUS_DEFERRED c) (bit (all.any mine && s.recording c)) else s
  let s2 := if all.any (fun x => mine x && !fieldLegal x.base x.lo x.v && decide (x.base = 0x0C0010)) && !s.recording c then
      s1.put (Reg.CAP_STATUS_CFG_REFUSED c) 1 else s1
  let s3 := if l.any mine then s2.syncReset c else s2
  let s4 := if alters l (Reg.CAP_RANGE c) then
      (s3.setCapture c { s3.capture c with rngAt := some (s3.now + s3.microsec 1) }).put (Reg.CAP_STATUS_RNG_SETTLE c) 1
    else s3
  forUpto (fun s i => if alters l (Reg.TH_CFG_EN c i) then
    s.setCapture c { s.capture c with thr := mdel (s.capture c).thr i } else s) 4 s4

/-- s with the effects of transfers on group g (R182, R195). -/
def State.grpXfr (s : State) (l all : List Xfr) (g : Nat) : State :=
  let s1 := forUpto (fun s m =>
    if alters l (Reg.MATCH_CFG_EN g m) && decide (s.active (Reg.MATCH_CFG_EN g m) = 1) then
      s.setGroup g { s.group g with mhist := mdel (s.group g).mhist m, mmatch := mdel (s.group g).mmatch m }
    else s) 8 s
  forEach (fun s (x : Xfr) => match levelAt x.addr with
    | some (h, k) =>
      if h ≠ g then s
      else if !l.contains x then s.put (Reg.PIN_STATUS_LVL_REFUSED g k) 1
      else
        let v := signedOf 18 x.v
        if outOfWindow g v then s.put (Reg.PIN_STATUS_CLAMPED g k) 1 else s
    | none => s) all s1

/-- s with TRIG input n's comparator taken from the input in this cycle (R96). -/
def State.trigRead (s : State) (n : Nat) : State :=
  let h := Config.trigHigh n (signedOf 12 (s.active (Reg.EVT_TRIG_CFG_LEVEL n))) s.now
  { s with evt := { s.evt with trig := s.evt.trig.set n h } }

/-- s with the effects of transfers on the event fabric (R96, R97). -/
def State.evtXfr (s : State) (l : List Xfr) : State :=
  let s1 := forUpto (fun s n =>
    if touchesFld l (Reg.EVT_TRIG_CFG_LEVEL n) || touchesFld l (Reg.EVT_TRIG_CFG_EDGE n) ||
        (alters l (Reg.EVT_TRIG_CFG_EN n) && decide (s.active (Reg.EVT_TRIG_CFG_EN n) = 1)) then s.trigRead n
    else s) 4 s
  forUpto (fun s n => match mfind s.evt.timers n with
    | some t => if s.tmrPeriod n = 0 then
        { s with evt := { s.evt with timers := mins s.evt.timers n { t with last := true } } } else s
    | none => s) 16 s1

/-- The pin whose levels wait for the commits of the cycle before they transfer (R202), if a transfer is of such levels. -/
def State.levelWaits (s : State) (x : Xfr) : Option (Nat × Nat) :=
  match levelAt x.addr with
  | some (g, k) => if s.wideSwing g k then some (g, k) else none
  | none => none

/-- s with the levels that have waited in this cycle transferred, or refused (R182, R202). -/
def State.levelTransfer (s : State) (q : Nat × Nat × Nat) : State :=
  let all := (s.pendingXfrs q.1).filter (fun x => decide (levelAt x.addr = some q.2))
  let l := all.filter s.transfers
  ((forEach State.transfer l s).unwritten l all).grpXfr l all q.2.1

/-- s with the levels that wait taken: every commit of the cycle has been made. -/
def State.levelsDue (s : State) : State :=
  forEach State.levelTransfer s.evt.levels { s with evt := { s.evt with levels := [] } }

/-- s with every legal shadow of the blocks of group g transferred, and what that causes (R321, R323): host commits first
(R202). -/
def State.transferGroup (s : State) (g : Nat) : State :=
  let s00 := forUpto (fun s p => if s.shadowOf (Reg.GRP_CTRL_UPD_GRP p) = g then s.hostCommit p else s) 8 s
  let whole := s00.pendingXfrs g
  let late := (whole.filterMap s00.levelWaits).dedup.map (fun q => (g, q))
  let s0 := { s00 with evt := { s00.evt with levels := s00.evt.levels ++ late } }
  let all := whole.filter (fun x => (s00.levelWaits x).isNone)
  let l := all.filter s0.transfers
  let up0 := s0.upPort
  let en0 := s0.active Reg.TXL_CFG_PORT_EN
  let s1 := (forEach State.transfer l s0).unwritten l all
  let s2 := forUpto (fun s w => s.wavXfr g l all w) 8 s1
  let s3 := forUpto (fun s c => s.capXfr g l all c) 8 s2
  let s4 := forUpto (fun s p => s.grpXfr l all p) 8 s3
  let s5 := s4.evtXfr l
  let s6 := if alters l Reg.CLK_CTRL_REF_SEL then s5.refSelected else s5
  let s7 := if touches l Reg.CLK_OUT_CFG_EN.addr then s6.judgeOut else s6
  if touches l Reg.TXL_CFG_UP.addr then s7.txlConfigured up0 en0 else s7

/-! ## Strobes as times (R322) -/

/-- s with what waits on tile t for a strobe of group g released at it (R73, R88). -/
def State.strobeTile (s : State) (g t : Nat) : State :=
  let x := s.tile t
  let s1 := match x.start with
    | some r => if r.mode = 3 ∧ r.at_ = none ∧ r.earliest ≤ s.now ∧ s.shadowOf (Reg.SEQ_CTRL_UPD_GRP t) = g then
        s.setTile t { x with start := some { r with at_ := some s.now } } else s
    | none => s
  match (s1.tile t).item with
  | .sync 3 arg since none => if arg = g ∧ since ≤ s1.now then
      s1.setTile t { s1.tile t with item := .sync 3 arg since (some s1.now) } else s1
  | _ => s1

/-- s with the redirections of mode 2 that wait for a strobe of group g given it as T_a (R47). -/
def State.strobeRedirects (s : State) (g : Nat) : State :=
  { s with segs := mmap (fun _ q => { q with redirect := q.redirect.map (fun r =>
      if r.mode = 2 ∧ r.at_ = none ∧ r.grp = g ∧ r.bound ≤ s.now then { r with at_ := some s.now } else r) }) s.segs }

/-- The group of buffer entry b's recorder. -/
def State.recGroup (s : State) (b : Nat) : Nat :=
  if b < 8 then s.shadowOf (Reg.CAP_CTRL_UPD_GRP b) else s.shadowOf (Reg.GRP_CTRL_UPD_GRP (b - 8))

/-- STOP_SRC, START_EVT and STOP_EVT of buffer entry b's recorder. -/
def State.stopSrc (s : State) (b : Nat) : Nat :=
  if b < 8 then s.get (Reg.CAP_REC_CTRL_STOP_SRC b) else s.get (Reg.PCAP_CTRL_STOP_SRC (b - 8))
def State.startEvt (s : State) (b : Nat) : Nat :=
  if b < 8 then s.get (Reg.CAP_REC_CTRL_START_EVT b) else s.get (Reg.PCAP_CTRL_START_EVT (b - 8))
def State.stopEvt (s : State) (b : Nat) : Nat :=
  if b < 8 then s.get (Reg.CAP_REC_CTRL_STOP_EVT b) else s.get (Reg.PCAP_CTRL_STOP_EVT (b - 8))

/-- s with the recorder of buffer entry b started, stopped and triggered as a happening selects (R194, R230, R231, R235): a
stop wins over a start and over a trigger. -/
def State.recAt (s : State) (b : Nat) (start stop trig : Bool) (ts : Ts) : State :=
  let s1 := if start && s.armedOf b then (if stop then s.setArmed b false else (s.setArmed b false).recGo b) else s
  if stop then s1.recHalt b
  else if trig then s1.recTrigger b ts
  else s1

/-- s with the recorders whose sources name a strobe of group g (R194, R230, R231). -/
def State.strobeRec (s : State) (g b : Nat) : State :=
  if s.recGroup b ≠ g then s
  else s.recAt b (s.startSrc b = 2) (s.stopSrc b = 2) (s.get (Reg.CBUF_CFG_TRIG_SRC b) = 3) (s.tsAt s.now)

/-- s with the pending swap of channel c triggered, if its trigger is still to come and is of a kind (R224). -/
def State.swapWhen (s : State) (c kind evt : Nat) : State :=
  match (s.capture c).swap with
  | some w => if w.when_ = kind ∧ (kind ≠ 3 ∨ w.evt = evt) ∧ (s.capture c).triggered = false then s.swapTrigger c else s
  | none => s

/-- s with a requested synchronising reset of channel c made, if its source is of a kind (R220). -/
def State.syncWhen (s : State) (c kind : Nat) : State :=
  if s.get (Reg.CAP_STATUS_SYNC_PEND c) = 1 ∧ s.active (Reg.CAP_CTRL_SYNC_SRC c) = kind ∧ kind ≠ 0 then
    (s.syncReset c).put (Reg.CAP_STATUS_SYNC_PEND c) 0
  else s

/-- s with a strobe of update group g in this cycle (R321, R322); applied says that a system apply time drives it. Several
sources of one group in one cycle make one strobe. -/
def State.strobe (s : State) (g : Nat) (applied : Bool) : State :=
  if mfind s.evt.strobes g = some s.now then s
  else
    let s0 := { s with evt := { s.evt with strobes := mins s.evt.strobes g s.now } }
    let s1 := s0.transferGroup g
    let s2 := forUpto (fun s t => s.strobeTile g t) 16 s1
    let s3 := s2.strobeRedirects g
    let s4 := forUpto (fun s c => if s.shadowOf (Reg.CAP_CTRL_UPD_GRP c) = g then
      (s.syncWhen c 2).swapWhen c 2 0 else s) 8 s3
    let s5 := forUpto (fun s b => s.strobeRec g b) 16 s4
    let s6 := forUpto (fun s n =>
      if s.active (Reg.EVT_TMR_CTRL_START_SRC n) = 2 ∧ s.active (Reg.EVT_TMR_CTRL_UPD_GRP n) = g then s.tmrStart n else s) 16 s5
    let s7 := if s6.shadowOf Reg.CLK_CTRL_UPD_GRP = g then s6.rampStrobe applied else s6
    s7.monSelect 2 g

/-- s with every group strobed that GLB_UPD_SRC drives from a source of a kind (R322): kind 2 the sync pulse, kind 1 the
registration of event n. -/
def State.strobeFrom (s : State) (kind n : Nat) : State :=
  forUpto (fun s g => if s.get (Reg.GLB_UPD_SRC_SRC g) = kind ∧ (kind = 2 ∨ s.get (Reg.GLB_UPD_SRC_EVT g) = n) then
    s.strobe g false else s) 16 s

/-- s with the strobes that apply times drive in this cycle (R322). -/
def State.strobeDueNow (s : State) : State :=
  let l := s.evt.strobeDue.filter (fun p => decide (p.1 ≤ s.now))
  let s1 := { s with evt := { s.evt with strobeDue := s.evt.strobeDue.filter (fun p => decide (s.now < p.1)) } }
  forEach (fun s p => s.strobe p.2 true) l s1

/-- GLB_UPDATE (R322): strobes the groups whose bits are written 1. -/
def execGlbUpdate (v : Word) (s : State) : Host.Outcome State Fault Refusal :=
  .next (forUpto (fun s g => if v.getLsbD g then s.strobe g false else s) 16 s)

end Sys2Proof.Machine
end

