-- ==== Sys2Proof/Machine/Events.lean ====
section
/-! DEFINITION. The event fabric: registrations and all they cause, system events, triggers, and the sync pulse (R94 to R99,
R107, R116, R117, R285). -/

namespace Sys2Proof.Machine

/-! ## A registration -/

/-- Records of a context that name event n and are in force. -/
def Ctx.naming (x : Ctx) (n : Nat) : List (Nat × ArmRec) := x.armList.filter (fun p => p.2.valid && decide (p.2.evt = n))

/-- s with a registration of event n at this cycle offered to the arms of the context that runs on tile t (R104, R107): the
lowest record that responds is caught; with none, the loss of an unlanded record is logged and counted once. -/
def State.catchOn (s : State) (n : Nat) (ts : Ts) (t : Nat) : State :=
  match (s.tile t).running with
  | none => s
  | some c =>
    let l := (s.ctx c).naming n
    match l.find? (fun p => s.responds t p.2) with
    | some (k, a) =>
      s.setTile t { s.tile t with catches := (s.tile t).catches ++ [⟨c, k, a.gen, n, s.now + Config.L, ts⟩] }
    | none =>
      if l.isEmpty then s
      else (s.logWrite ⟨ts, n, t, 1, false, c, 0x06⟩).bump (Reg.LND_UNLANDED_CNT t)

/-- s with every registration of this cycle offered to the arms, as the cycle leaves them: an arm that takes effect in it is
caught, and one cleared in it is not (R107, R129). -/
def State.offerAll (s : State) : State :=
  forEach (fun s q => forUpto (fun s t => s.catchOn q.1 q.2 t) 16 s) s.evt.offers { s with evt := { s.evt with offers := [] } }

/-- s with a WAIT of tile t for event n released: the next word leaves 64 cc after the registration (R72). -/
def State.waitRelease (s : State) (n t : Nat) : State :=
  match (s.tile t).item with
  | .wait e since none =>
    if e = n ∧ since ≤ s.now then s.putItem t (.wait e since (some (s.now + Config.L + Config.D))) else s
  | _ => s

/-- B of R116: the larger of EVT_SYS_BUDGET and the minimum budget. -/
def State.sysBudget (s : State) : Nat := Nat.max (s.active Reg.EVT_SYS_BUDGET) (s.get Reg.TXL_WORST + Config.L)

/-- s with local event n exported through EVT_SYSOUT entry i (R116): this module registers the system event at t_a − L. -/
def State.sysExport (s : State) (n : Nat) (ts : Ts) (i : Nat) : State :=
  if s.active (Reg.EVT_SYSOUT_EN i) = 1 ∧ s.active (Reg.EVT_SYSOUT_LOCAL i) = n then
    let ta := s.now + s.sysBudget
    { s with evt := { s.evt with sys := s.evt.sys ++ [⟨s.active (Reg.EVT_SYSOUT_SE i), ta - Config.L, ts, ta, false⟩] } }
  else s

/-- s with what a registration of event n does beside its catches: waits, timers, notifications, recordings, swaps, counters
and strobes (R72, R97, R194, R224, R231, R304, R322, R371). -/
def State.regUses (s : State) (n : Nat) (ts : Ts) : State :=
  let s1 := forUpto (fun s t => s.waitRelease n t) 16 s
  let s2 := forUpto (fun s m =>
    if s.active (Reg.EVT_TMR_CTRL_START_SRC m) = 1 ∧ s.active (Reg.EVT_TMR_CTRL_START_EVT m) = n then s.tmrStart m else s) 16 s1
  let s3 := if fieldOf (s2.get (Reg.XNG_NOTIFY (n / 32))) (n % 32) 1 = 1 then s2.notify ts n false else s2
  let s4 := forUpto (fun s b => s.recAt b
    (decide (s.startSrc b = 1 ∧ s.startEvt b = n)) (decide (s.stopSrc b = 1 ∧ s.stopEvt b = n))
    (decide (s.get (Reg.CBUF_CFG_TRIG_SRC b) = 2 ∧ s.get (Reg.CBUF_CFG_TRIG_EVT b) = n)) ts) 16 s3
  let s5 := forUpto (fun s c => s.swapWhen c 3 n) 8 s4
  (s5.monSelect 1 n).strobeFrom 1 n

/-- s with a registration of event n with a timestamp in this cycle (R96, R99): kind is the log entry's KIND. The arms meet it
at the cycle's end (R107). -/
def State.regEvent (s : State) (n : Nat) (ts : Ts) (logged : Bool) (kind : Nat) : State :=
  let r := s.lastReg n
  let s1 := { s with evt := { s.evt with
    lasts := mins s.evt.lasts n ⟨some s.now, ts, satAdd32 r.count 1⟩ } }
  let s2 := if logged then s1.logWrite ⟨ts, n, 0, kind, false, 0, 0⟩ else s1
  let s3 := { s2 with evt := { s2.evt with offers := s2.evt.offers ++ [(n, ts)] } }
  let s4 := if n < 768 then forUpto (fun s i => s.sysExport n ts i) 16 s3 else s3
  s4.regUses n ts

/-- Whether local number n registers an occurrence in this cycle (R96): enabled, mapped, and outside the holdoff. -/
def State.admits (s : State) (n : Nat) : Bool :=
  decide (s.active (Reg.EVT_MAP_EN n) = 1 ∧ s.active (Reg.EVT_MAP_SRC n) ≠ 0) &&
  (match (s.lastReg n).cyc with
   | some c => decide (c + s.active (Reg.EVT_MAP_HOLDOFF n) < s.now)
   | none => true)

/-- s with event n, which has registered in this cycle, carrying a source instant where that is the earlier one (R96). -/
def State.regEarlier (s : State) (n : Nat) (ts : Ts) : State :=
  let r := s.lastReg n
  if r.ts.toNat ≤ ts.toNat then s
  else { s with evt := { s.evt with
    lasts := mins s.evt.lasts n { r with ts := ts }
    offers := s.evt.offers.map (fun q => if q.1 = n then (n, ts) else q) } }

/-- s with an occurrence of local number n's source in its registration cycle (R96). -/
def State.regLocal (s : State) (n : Nat) (ts : Ts) : State :=
  if s.admits n then s.regEvent n ts (decide (s.active (Reg.EVT_MAP_LOG n) = 1)) 0
  else if (s.lastReg n).cyc = some s.now then s.regEarlier n ts
  else s

/-- s with SE registered (R116, R117): every system event is logged; the groups that its apply time drives strobe at t_a. -/
def State.regSystem (s : State) (r : SysReg) : State :=
  let due := (upto 16).filter (fun g => decide (s.get (Reg.GLB_UPD_SRC_SRC g) = 3 ∧ s.get (Reg.GLB_UPD_SRC_EVT g) % 256 = r.se))
  let s1 := { s with evt := { s.evt with strobeDue := s.evt.strobeDue ++ due.map (fun g => (r.apply, g)) } }
  let s2 := s1.monMark (0x120 + r.se)
  if (s2.lastReg (768 + r.se)).cyc = some s2.now then s2.regEarlier (768 + r.se) r.ts
  else s2.regEvent (768 + r.se) r.ts true (if r.late then 3 else 0)

/-- EVENT_REGISTRATION (R96): of a local number, its source occurs (R370). -/
def execEventRegistration (n : EvtNo) (ts : Ts) (s : State) : Host.Outcome State Fault Refusal :=
  .next (if n.val < 768 then
      (if s.active (Reg.EVT_MAP_SRC n) = 0 then s else s.monMark (s.active (Reg.EVT_MAP_SRC n))).regLocal n ts
    else s.regSystem ⟨n.val - 768, s.now, ts, s.now + Config.L, false⟩)

/-- The earliest timestamp of a list of occurrences. -/
def earliest : List Occ → Option Ts
  | [] => none
  | o :: l =>
    match earliest l with
    | some t => some (if o.ts.toNat ≤ t.toNat then o.ts else t)
    | none => some o.ts

/-- s with the occurrences whose registration cycle has come registered by every number mapped to their sources (R96): once a
number, with the earliest source instant. -/
def State.occDue (s : State) : State :=
  let l := s.evt.occ.filter (fun o => decide (o.cyc ≤ s.now))
  if l.isEmpty then s
  else
    let s1 := { s with evt := { s.evt with occ := s.evt.occ.filter (fun o => decide (s.now < o.cyc)) } }
    let s2 := forEach (fun s o => s.monMark o.src) l s1
    forUpto (fun s n =>
      match earliest (l.filter (fun o => decide (o.src = s.active (Reg.EVT_MAP_SRC n)))) with
      | some ts => s.regLocal n ts
      | none => s) 768 s2

/-- The earliest timestamp of the registrations of SE in a list, and ts. -/
def earliestSys (se : Nat) (ts : Ts) : List SysReg → Ts
  | [] => ts
  | r :: l => earliestSys se (if r.se = se ∧ r.ts.toNat < ts.toNat then r.ts else ts) l

/-- s with the system events whose registration cycle has come registered (R116): once a number, with the earliest source
instant (R96). -/
def State.sysDue (s : State) : State :=
  let l := s.evt.sys.filter (fun r => decide (r.cyc ≤ s.now))
  let s1 := { s with evt := { s.evt with sys := s.evt.sys.filter (fun r => decide (s.now < r.cyc)) } }
  forEach (fun s r => s.regSystem { r with ts := earliestSys r.se r.ts l }) l s1

/-- SYSTEM_EVENT_MESSAGE (R117, R287): registered at t_a − L, or late in its arrival cycle, to commit L later. -/
def execSystemEventMessage (se : BitVec 8) (_origin : BitVec 9) (ts : Ts) (apply : BitVec 64) (port : PortNo) (s : State) :
    Host.Outcome State Fault Refusal :=
  .next (
    if !s.portTalks port ∨ s.get Reg.TXL_STATUS_JOINED = 0 then s
    else
      let r := apply.toNat - Config.L
      if s.sysTime s.now ≤ r then
        let n := s.now + (r - s.sysTime s.now)
        { s with evt := { s.evt with sys := s.evt.sys ++ [⟨se.toNat, n, ts, n + Config.L, false⟩] } }
      else ((s.put Reg.EVT_STATUS_SYS_LATE 1).bump Reg.EVT_SYS_LATE_CNT).regSystem
        ⟨se.toNat, s.now, ts, s.now + Config.L, true⟩)

/-! ## Sources -/

/-- Whether an edge of TRIG input n is of the selected polarity (R96). -/
def State.trigSelects (s : State) (n : Nat) (rising : Bool) : Bool :=
  match s.active (Reg.EVT_TRIG_CFG_EDGE n) with
  | 0 => rising
  | 1 => !rising
  | _ => true

/-- s with an edge of TRIG input n at a fine step of this cycle: it registers 12 cc later (R96). -/
def State.trigEdge (s : State) (n : Nat) (rising : Bool) (fine : Nat) : State :=
  if s.active (Reg.EVT_TRIG_CFG_EN n) = 0 ∨ s.evt.trig.getD n false = rising then s
  else
    let s1 := { s with evt := { s.evt with trig := s.evt.trig.set n rising } }
    if s.trigSelects n rising then s1.occur (0x0A1 + n) (s.now + 12) (mkTs (s.sysTime s.now) fine) else s1

/-- TRIG_EDGE (R96). -/
def execTrigEdge (n : TrigNo) (rising : Bool) (fine : BitVec 10) (s : State) : Host.Outcome State Fault Refusal :=
  .next (s.trigEdge n rising fine.toNat)

/-- s after this cycle on the TRIG inputs. -/
def State.trigTick (s : State) : State :=
  forUpto (fun s n =>
    let lv := signedOf 12 (s.active (Reg.EVT_TRIG_CFG_LEVEL n))
    s.trigEdge n (Config.trigHigh n lv s.now) (Config.trigFine n lv s.now).toNat) 4 s

/-- THRESHOLD_CHANGE (R227, R228): the state of an enabled threshold changes after its dwell, outside settling. -/
def execThresholdChange (c : CapCh) (i : Fin 4) (q : Bool) (ts : Ts) (s : State) : Host.Outcome State Fault Refusal :=
  .next (if s.active (Reg.TH_CFG_EN c i) = 0 ∨ s.capHeld c ∨ s.settling c ∨ (s.thr c i).q = q then s
    else s.thrChange c i q ts)

/-- PIN_COMPARE_FAIL (R192): masked, it has no effect; otherwise it is counted, its source occurs, and its vector cycle, the
one that GRP_VCYC counts, fails: once, however many of its pins fail. -/
def execPinCompareFail (p : Pin) (ts : Ts) (tsel : BitVec 4) (s : State) : Host.Outcome State Fault Refusal :=
  let g := p.val / 8
  let k := p.val % 8
  .next (if s.get (Reg.PIN_CFG g k) = 1 then s
    else (s.pinFail g k (s.cycleOf (ts.toNat / 1024) + 14) ts).failCycle g
      ⟨ts, BitVec.ofNat 8 (2 ^ k), tsel.toNat, s.bankOf (8 + g), BitVec.ofNat 32 (s.vcyc g)⟩)

/-- MATCHER_MATCH (R195): an enabled matcher's shift of a bit, of a cycle whose code it takes. -/
def execMatcherMatch (g : Grp) (m : Fin 8) (bit : Bool) (code : BitVec 4) (ts : Ts) (s : State) :
    Host.Outcome State Fault Refusal :=
  .next (if s.matchTakes g m (s.active (Reg.MATCH_CFG_PIN g m)) code.toNat then
      s.matchShift g m bit (s.cycleOf (ts.toNat / 1024)) ts
    else s)

/-- EVT_HOST_RAISE (R98): each bit written 1 raises its host message event in this cycle. -/
def execEvtHostRaise (v : Word) (s : State) : Host.Outcome State Fault Refusal :=
  .next (forUpto (fun s n => if v.getLsbD n then s.occur (0x0F5 + n) s.now (s.tsAt s.now) else s) 32 s)

/-- HOST_EVENT_RAISE_MESSAGE (R98, R304): a raise that is on its way arrives. -/
def execHostEventRaiseMessage (n : Fin 32) (s : State) : Host.Outcome State Fault Refusal :=
  .next (if s.xng.up && s.xng.raises.contains n.val then
      { s with xng := { s.xng with raises := s.xng.raises.erase n.val } }.occur (0x0F5 + n.val) s.now (s.tsAt s.now)
    else s)

/-! ## The sync pulse (R271, R274, R285) -/

/-- The cycle in which system time is t, once it has been loaded as ts in this cycle: none where the load has skipped it. -/
def State.afterLoad (s : State) (ts t : Nat) : Option Nat := if ts ≤ t then some (s.now + (t - ts)) else none

/-- s with what waits on tile t for a system time moved with a load of system time ts (R274): a SYNC that is skipped is
released late, a start that is skipped takes effect in the next cycle. -/
def State.loadTile (s : State) (ts t : Nat) : State :=
  let x := s.tile t
  let s1 := match x.start with
    | some r =>
      (match r.mode, r.at_ with
       | 1, some n => s.setTile t { x with start := some { r with
           at_ := some ((s.afterLoad ts (s.sysTime n)).getD (s.now + 1)) } }
       | _, _ => s)
    | none => s
  match (s1.tile t).item with
  | .sync 1 arg since (some _) =>
    (match s1.afterLoad ts arg with
     | some n => s1.setTile t { s1.tile t with item := .sync 1 arg since (some n) }
     | none => s1.setTile t { s1.tile t with item := .sync 1 arg s1.now (some (s1.now - 1)) })
  | _ => s1

/-- s with system time loaded as ts in this cycle (R274). -/
def State.loadTime (s : State) (ts : Nat) : State :=
  let s1 := forUpto (fun s t => s.loadTile ts t) 16 s
  { s1 with
    segs := mmap (fun _ q => { q with redirect := q.redirect.map (fun r =>
      match r.mode, r.at_ with
      | 1, some n => { r with at_ := some ((s.afterLoad ts (s.sysTime n)).getD (s.now + 1)) }
      | _, _ => r) }) s1.segs
    timeOff := BitVec.ofNat 64 ts - BitVec.ofNat 64 s.now }

/-- s with what waits on tile t for a system time timed afresh: system time has just moved on to u by other than one
(R271). -/
def State.retimeTile (s : State) (u t : Nat) : State :=
  let x := s.tile t
  let s1 := match x.start with
    | some r =>
      (match r.mode, r.at_ with
       | 1, some n => s.setTile t { x with start := some { r with at_ := some ((s.afterLoad u (s.sysTime n)).getD s.now) } }
       | _, _ => s)
    | none => s
  match (s1.tile t).item with
  | .sync 1 arg since (some n) =>
    if n < since then s1
    else s1.setTile t { s1.tile t with item := .sync 1 arg since (some ((s1.afterLoad u arg).getD s1.now)) }
  | _ => s1

/-- s after this core cycle's part of system time in ACQUIRING (R271): the core runs at 1.0 GHz, and system time advances at
f_root / 16, so by FCW / 160 a core cycle. -/
def State.acqTick (s : State) : State :=
  if s.loopSt ≠ 2 then s
  else
    let a := s.clk.acq + s.fcwAct
    let d := a / (160 * 2 ^ 32)
    let u := s.sysTime s.now + d - 1
    let s1 := { s with clk := { s.clk with acq := a % (160 * 2 ^ 32) } }
    if d = 1 then s1
    else
      let s2 := forUpto (fun s t => s.retimeTile u t) 16 s1
      { s2 with
        txl := { s2.txl with sync := s2.txl.sync.map (fun m =>
          if s2.txl.started then { m with due := (s2.afterLoad u m.ts).getD s2.now } else m) }
        timeOff := BitVec.ofNat 64 u - BitVec.ofNat 64 s2.now }

/-- s with what waits on tile t for a sync pulse released (R73, R88). -/
def State.pulseTile (s : State) (t : Nat) : State :=
  let x := s.tile t
  let s1 := match x.start with
    | some r => if r.mode = 2 ∧ r.at_ = none ∧ r.earliest ≤ s.now then
        s.setTile t { x with start := some { r with at_ := some s.now } } else s
    | none => s
  match (s1.tile t).item with
  | .sync 0 arg since none => if since ≤ s1.now then
      s1.setTile t { s1.tile t with item := .sync 0 arg since (some s1.now) } else s1
  | _ => s1

/-- s LOCKED at a sync of system time ts that finds it ALIGNING (R274, R285, R290). -/
def State.joinAt (s : State) (m : SyncMsg) : State :=
  let joins := s.upPort = 4 ∨ s.get Reg.TXL_STATUS_JOINED = 1 ∨ m.grants.contains (s.get Reg.TXL_ID)
  if s.loopSt = 4 ∧ s.clk.alignedAt < s.now ∧ joins then
    let s1 := (s.loadTime m.ts).setLoop 0
    let s2 := ((s1.put Reg.TXL_STATUS_JOINED 1).put Reg.TXL_STATUS_SYSLOST 0).put Reg.TXL_STATUS_JOIN_STS Sts.ok.code
    { s2 with txl := { s2.txl with ready := false } }
  else s

/-- SYNC_PULSE (R285): at its cycle, the pulse ends ALIGNING, clears an out-of-step ramp, brings the membership into force,
and releases all that waits for it. -/
def execSyncPulse (s : State) : Host.Outcome State Fault Refusal :=
  .next (match s.txl.sync with
    | none => s
    | some m =>
      if s.now < m.due then s
      else
        let s1 := s.joinAt m
        let s2 := if s1.clk.ramp.isNone then
            { s1 with clk := { s1.clk with outOfStep := false } }.restep else s1
        let s3 := s2.syncMembers m
        let s4 := s3.put Reg.TXL_STATUS_TK (bit (decide (s3.upPort = 4)))
        let s5 := { s4 with evt := { s4.evt with strobes := mins s4.evt.strobes 16 s4.now } }
        let s6 := forUpto (fun s t => s.pulseTile t) 16 s5
        let s7 := forUpto (fun s c => (s.syncWhen c 1).swapWhen c 1 0) 8 s6
        s7.strobeFrom 2 0)

end Sys2Proof.Machine
end

