-- ==== Sys2Proof/Machine/PowerOps.lean ====
section
/-! DEFINITION. Resets and what they keep, entry into Ash, and the wait for an MRAM write (R23, R335, R347 to R351, R358). -/

namespace Sys2Proof.Machine

/-! ## What a field-side reset keeps -/

/-- Whether a field-side reset keeps the register at address a (R335): its domain is PERST_N or none. -/
def keptReg (a : Nat) : Bool :=
  match regAt a with
  | some (d, _, _) => decide (d.dom = .perst ∨ d.dom = .none)
  | none => false

/-- s with every field-side item at its reset value (R335, R358): what a field power-on reset, a field reset and a soft reset
have in common. ENROLLED stands for the fuses (R154). A rank whose migration the reset ends is recorded as RETIRED (R262). -/
def State.fieldClear (s : State) : State :=
  let s0 := s.endXfers (fun _ => true) .state
  let left := (upto 192).filter (fun r => s.rankLeaving r)
  let fuse := s.get Reg.NVS_UKEY_CTRL_ENROLLED
  { s0 with
    timeOff := 0 - BitVec.ofNat 64 s.now
    regs := mfilter keptReg s.regs
    act := []
    segs := []
    stores := []
    olds := []
    mem := []
    poison := []
    lows := []
    ctxs := []
    tiles := []
    evt := Events.init
    wav := []
    grp := []
    cap := []
    latch := []
    ustore := []
    mon := []
    wrote := []
    monBegun := []
    monEnded := []
    mc := MemSt.init
    clk := ClkSt.init
    txl := TxlSt.init
    cal := CalSt.init
    pw := { s.pw with
      retired := left.foldl (fun l r => recordWritten l (r, s.get (Reg.RANK_STATE_CAUSE r))) s.pw.retired
      prev := 0
      change := none
      wanted := none
      writing := []
      flush := false
      listAt := 0
      listWait := none }
    xng := { s0.xng with
      fAlarms := []
      fAlarmLost := 0
      fNotes := []
      fNoteLost := 0
      beatHost := none
      raises := []
      safeAt := none
      hbField := 0 } }.put Reg.NVS_UKEY_CTRL_ENROLLED fuse

/-- s with the cause of a field-side reset recorded (R347, R356): a power-up under R351 sets the count to 0. -/
def State.noteCause (s : State) (cause : Nat) : State :=
  let n := if cause = 0x01 ∨ cause = 0x08 then 0 else Nat.min (s.get Reg.NVS_RST_CAUSE_COUNT + 1) 0xFFFF
  (s.put Reg.NVS_RST_CAUSE_CAUSE cause).put Reg.NVS_RST_CAUSE_COUNT n

/-- s with the boot begun at a stage (R344, R347). -/
def State.bootAt (s : State) (stage : Nat) : State := s.put Reg.NVS_BOOT_STAGE stage

/-- s after a field power-on reset (R347, R351): the boot starts at stage 1, and the Crossing is down until that stage
ends. -/
def State.powerOnReset (s : State) (cause : Nat) : State :=
  let s1 := { s.fieldClear with
    pw := { s.fieldClear.pw with fieldOn := true, shut := false }
    xng := { s.fieldClear.xng with up := false } }
  ((s1.put Reg.XNG_HSTATUS_FIELD_PWR 1).noteCause cause).bootAt 1

/-- s after a field reset (R347): the boot starts at stage 2, with the Crossing down. -/
def State.fieldReset (s : State) (cause : Nat) : State :=
  let s1 := { s.fieldClear with xng := { s.fieldClear.xng with up := false } }
  (s1.noteCause cause).bootAt 2

/-- s after a soft reset (R347): the boot starts at stage 4 on the active bank, the Crossing stays up, and the stewards keep
running, with the retirement records they hold. -/
def State.softReset (s : State) : State :=
  let s1 := { s.fieldClear with mc := { s.fieldClear.mc with records := s.mc.records } }
  (((s1.put Reg.NVS_BOOT_BANK (s.get Reg.NVS_BOOT_BANK)).put Reg.CLK_STATUS_SVC_LOCK (s.get Reg.CLK_STATUS_SVC_LOCK)).noteCause
    0x04).bootAt 4

/-- s with field power removed (R351, R355): every field-side register is lost; what wants field power again is w. -/
def State.fieldOff (s : State) (w : Option Wanted) : State :=
  let s1 := s.fieldClear
  { s1 with
    pw := { s1.pw with fieldOn := false, wanted := w }
    xng := { s1.xng with up := false, beatField := none } }.put Reg.XNG_HSTATUS_FIELD_PWR 0 |>.put Reg.XNG_HSTATUS_FSTATE 0

/-! ## Waiting for an MRAM write (R349) -/

/-- Which of two requests proceeds: one that removes power before a reset, a field reset before a soft reset (R357). -/
def Wanted.rank : Wanted → Nat
  | .soft => 0
  | .field _ => 1
  | .powerOn _ => 2
  | .dormant => 3
  | .shutdown => 4

/-- s with a request acted on, no MRAM write being in progress. -/
def State.actOn (s : State) (w : Wanted) : State :=
  match w with
  | .powerOn c => s.powerOnReset c
  | .field c => s.fieldReset c
  | .soft => s.softReset
  | .shutdown =>
    let s1 := s.fieldOff none
    { s1 with pw := { s1.pw with shut := true } }
  | .dormant => s.fieldOff none

/-- s with a request for a reset or for power off (R349): the outputs go safe at once; the rest waits for an MRAM write in
progress to end. -/
def State.request (s : State) (w : Wanted) : State :=
  if s.pw.writing.isEmpty then s.actOn w
  else
    let s1 := s.latchAll (fun l => { l with reset := true })
    match s.pw.wanted with
    | some v => if v.rank ≤ w.rank then { s1 with pw := { s1.pw with wanted := some w } } else s1
    | none => { s1 with pw := { s1.pw with wanted := some w } }

/-! ## Ash and profile changes -/

/-- s with the outputs safe for Ash or for a profile change (R22, R23). -/
def State.powerSafe (s : State) : State := s.latchAll (fun l => { l with power := true })

/-- s with a change towards profile p in progress (R22 to R24): clocks gated, outputs safe. -/
def State.changeTo (s : State) (p : Nat) : State :=
  { s.powerSafe with pw := { s.powerSafe.pw with
      change := some p
      prev := if s.get Reg.GLB_STATE_PROFILE = 3 then s.pw.prev else s.get Reg.GLB_STATE_PROFILE } }.put
    Reg.GLB_STATE_BUSY 1 |>.regate

/-- s with the context that runs on tile t Paused at its current play point, and a pending start discarded (R23, R93). -/
def State.ashTile (s : State) (t : Nat) : State :=
  (match (s.tile t).running with
   | some c => s.pauseAt t c s.now false false
   | none => s).noStart t

/-- s with the fade of channel c completed, the new bank active (R237). -/
def State.ashFade (s : State) (c : Nat) : State := s.setCapture c { s.capture c with fade := none }

/-- s with entry into Ash begun (R23, R24), unless the module is in Ash or entering it. -/
def State.enterAsh (s : State) : State :=
  if s.pw.change = some 3 ∨ (s.get Reg.GLB_STATE_PROFILE = 3 ∧ s.pw.change = none) then s
  else
    let s0 := s.endCal
    let s1 := { s0 with mc := { s0.mc with retrain := none } }.put Reg.MEM_STATUS_TRAINING 0
    let s2 := forUpto (fun s t => s.ashTile t) 16 s1
    let s3 := forUpto (fun s b => s.recHold b) 16 s2
    let s4 := forUpto (fun s c => s.ashFade c) 8 s3
    let s5 := forUpto (fun s p => s.endPeers p) 4 s4.dropRamp
    s5.changeTo 3

/-! ## Tile reset (R350) -/

/-- The tile that holds the register at address a, or that serves its group. -/
def regTile (a : Nat) : Option Nat :=
  if 0x080000 ≤ a ∧ a < 0x0C0000 then some ((a - 0x080000) / 0x4000)
  else if 0x0D0000 ≤ a ∧ a < 0x0D8000 then some (8 + (a - 0x0D0000) / 0x1000)
  else none

/-- Whether a reset of tile t keeps the register at address a. -/
def tileKeeps (t a : Nat) : Bool :=
  match regAt a with
  | some (d, _, _) => !(decide (d.dom = .tile) && (regTile a == some t))
  | none => true

/-- s with the part of a tile reset on the contexts bound to t (R85, R93): the resident ones Loaded, every arm record
cleared. -/
def State.resetCtxs (s : State) (t : Nat) : State :=
  forEach (fun s p =>
    if s.get (Reg.CTX_CFG_BIND p.1) ≠ t then s
    else if p.2.resident then s.loadCtx p.1
    else s.setCtx p.1 { p.2 with arms := mmap (fun _ a => { ArmRec.init with gen := a.gen + 1 }) p.2.arms }) s.ctxs s

/-- s with the part of a tile reset on the datapath behind tile t (R159, R175, R180, R198, R203). -/
def State.resetPath (s : State) (t : Nat) : State :=
  if t < 8 then (s.waveRestart t).openOutput t
  else
    let g := t - 8
    let s1 := s.recHold t
    (s1.setGroup g { s1.group g with
      mstage := []
      mbad := false
      mAddr := 0
      vc := none
      mid := none
      flog := []
      failAt := none
      mhist := []
      mmatch := [] }).openOutput t

/-- s after a reset of tile t. -/
def State.tileReset (s : State) (t : Nat) : State :=
  let s1 := s.endCalWhere (fun r => r.tiles.contains t)
  let s2 := s1.resetCtxs t
  let x := s2.tile t
  let s3 := (s2.setTile t { TileSt.init with
    last := x.last, reload := x.reload, ran := x.ran, resetAt := some s.now,
    leftAt := (if x.running.isSome then some s.now else x.leftAt) }).resetPath t
  { s3 with
    regs := mfilter (tileKeeps t) s3.regs
    act := mfilter (tileKeeps t) s3.act
    segs := mmap (fun _ q => { q with redirect := q.redirect.map (fun r =>
      { r with slots := r.slots.filter (fun p => decide (p.1 ≠ t)) }) }) s3.segs }

/-! ## What the field side is doing -/

/-- Whether the field side runs: it has power, and FIELD_RST_N does not hold it in reset. -/
def State.fieldLive (s : State) : Bool := s.pw.fieldOn && !s.pw.rstN

/-- Whether the boot has stopped (R345). -/
def State.stopped (s : State) : Bool := decide (s.get Reg.NVS_BOOT_STOPPED = 1)

/-- Whether the boot is over. -/
def State.booted (s : State) : Bool := decide (s.get Reg.NVS_BOOT_STAGE = 10)

/-- The field state that a heartbeat carries (R314). -/
def State.fieldState (s : State) : Nat :=
  if s.stopped then 6
  else if !s.booted then 1
  else match s.get Reg.GLB_STATE_PROFILE with
    | 0 => 2
    | 1 => 3
    | 2 => 4
    | _ => 5

end Sys2Proof.Machine
end

