-- ==== Sys2Proof/Machine/MemCmds.lean ====
section
/-! DEFINITION. The memory controller: errors, retirement, refresh, temperature, self-refresh and retraining (R241 to R256). -/

namespace Sys2Proof.Machine

/-! ## The error log -/

/-- s with one entry written to the memory error log: with 256 entries held the oldest is overwritten and LOG_WRAP set
(R259). -/
def State.memLog (s : State) (e : MemEnt) : State :=
  let n := s.get Reg.MEM_LOG_WR_NEXT
  let fill := s.get Reg.MEM_LOG_WR_FILL
  let s1 := { s with mc := { s.mc with log := mins s.mc.log n e } }
  let s2 := if fill = 256 then s1.put Reg.MEM_STATUS_LOG_WRAP 1 else s1.put Reg.MEM_LOG_WR_FILL (fill + 1)
  s2.put Reg.MEM_LOG_WR_NEXT ((n + 1) % 256)

/-- s with an error of R250 on a rank counted and logged, the counter of its kind being cnt. -/
def State.memError (s : State) (cnt : Fld) (rank kind : Nat) (loc : BitVec 64) : State :=
  (((s.bump cnt).bump (Reg.RANK_UE_CNT rank)).put Reg.MEM_STATUS_UE 1).memLog ⟨s.tsAt s.now, rank, kind, 0, loc⟩

/-- s with the copies to rank r begun again to another target (R261). -/
def State.retarget (s : State) (r : Nat) : State :=
  let l := (s.mc.copies.filter (fun p => decide (p.2.2 = r))).map Prod.fst
  let s1 := { s with mc := { s.mc with copies := s.mc.copies.filter (fun p => decide (p.2.2 ≠ r)) } }
  forEach State.startCopy l (forEach (fun s _ => s.extLess r) l s1)

/-- s with rank r taken out of service in a state, with its cause, its alarm and the record that S0 owes the MRAM (R252,
R303). -/
def State.takeOut (s : State) (r state cause : Nat) : State :=
  let s1 := ((s.put (Reg.RANK_STATE_STATE r) state).put (Reg.RANK_STATE_CAUSE r) cause).alarm 0x0003 r
  { s1 with mc := { s1.mc with
      records := s1.mc.records.filter (fun (p : Nat × Nat) => decide (p.1 ≠ r)) ++ [(r, cause)]
      retAt := mins s1.mc.retAt r s1.now } }.retarget r

/-- s with rank r retired (R250, R252): nothing further on a rank that is RETIRING, DEGRADED or RETIRED. -/
def State.retire (s : State) (r cause : Nat) : State :=
  if s.rankLeaving r ∨ s.rankSt r = 3 then s else (s.takeOut r 2 cause).settleRanks

/-- s with an access to the line at a place in the log's form, of a rank: bank and row of it (R243, R259). -/
def State.locUse (s : State) (rank : Nat) (loc : BitVec 64) : State :=
  s.memWake.rowUse (64 * rank + fieldOf loc.toNat 26 6) (fieldOf loc.toNat 8 18)

/-- s with the line at a place known to hold a byte in error, or written back and so mended (R240). -/
def State.flaw (s : State) (rank : Nat) (loc : BitVec 64) (mended : Bool) : State :=
  let p := (rank, loc.toNat % 2 ^ 32)
  { s with mc := { s.mc with flaws := (if mended then [] else [p]) ++ s.mc.flaws.filter (fun q => decide (q ≠ p)) } }

/-! ## Errors -/

/-- CORRECTED_READ (R240, R249): n bytes of a line corrected, at most MEM_ECC.CORR_MAX. With 2 or more the corrected line is
written back; nothing is written to it before. -/
def execCorrectedRead (rank : RankNo) (n : BitVec 3) (loc : BitVec 64) (s : State) : Host.Outcome State Fault Refusal :=
  .next (if lineVerdict (s.active Reg.MEM_ECC) n.toNat ≠ .corrected then s
    else (((((s.locUse rank loc).bump Reg.MEM_CE_CNT).bump (Reg.RANK_CE_CNT rank)).put Reg.MEM_STATUS_CE 1).memLog
      ⟨s.tsAt s.now, rank, 0, n.toNat, loc⟩).monMark 0x260 |>.flaw rank loc (decide (2 ≤ n.toNat)))

/-- UNCORRECTABLE_READ (R250): the line of word off of handle h is poisoned, and the rank retired with cause 1. -/
def execUncorrectableRead (rank : RankNo) (h : BitVec 24) (off : BitVec 34) (loc : BitVec 64) (s : State) :
    Host.Outcome State Fault Refusal :=
  let s1 := ((s.locUse rank loc).memError Reg.MEM_UE_CNT rank 1 loc).monMark 0x261
  let s2 := match s1.seg h.toNat with
    | some g => s1.poisonLine g.sid (off.toNat / 7)
    | none => s1
  .next (s2.retire rank 1)

/-- CA_PARITY_ERROR (R250). -/
def execCaParityError (rank : RankNo) (loc : BitVec 64) (s : State) : Host.Outcome State Fault Refusal :=
  .next (((s.locUse rank loc).memError Reg.MEM_PAR_CNT rank 2 loc).retire rank 2)

/-- WRITE_PARITY_ERROR (R250): the rank is retired only when the retry fails too. -/
def execWriteParityError (rank : RankNo) (loc : BitVec 64) (retryFailed : Bool) (s : State) :
    Host.Outcome State Fault Refusal :=
  let s1 := (s.locUse rank loc).memError Reg.MEM_PAR_CNT rank 3 loc
  .next (if retryFailed then s1.retire rank 3 else s1)

/-- LATE_READ (R241). -/
def execLateRead (s : State) : Host.Outcome State Fault Refusal :=
  .next (((s.bump Reg.MEM_LATE_CNT).put Reg.MEM_STATUS_LATE 1).monMark 0x262)

/-! ## Refresh and temperature -/

/-- Refreshes that a bank owes (R244). -/
def State.owes (s : State) (rank bank : Nat) : Nat := mget (fun _ => 0) s.mc.owed (64 * rank + bank)

/-- s with the refreshes that a bank owes replaced. -/
def State.setOwes (s : State) (rank bank n : Nat) : State :=
  { s with mc := { s.mc with owed := mset (fun _ => 0) s.mc.owed (64 * rank + bank) n } }

/-- s with a bank refreshed, so that it owes n. -/
def State.refresh (s : State) (rank bank n : Nat) : State := (s.setOwes rank bank n).bankRefreshed (64 * rank + bank)

/-- PER_BANK_REFRESH (R243, R244): of an idle bank it is made, with what the bank owes; of a busy one it is postponed. -/
def execPerBankRefresh (rank : RankNo) (bank : Fin 64) (idle : Bool) (s : State) : Host.Outcome State Fault Refusal :=
  .next (if idle then s.refresh rank bank 0 else s.setOwes rank bank (s.owes rank bank + 1))

/-- A bank that owes a ninth refresh, or more (R244). -/
def State.urgentBank (s : State) : Option Nat := (s.mc.owed.find? (fun p => decide (9 ≤ p.2))).map (fun p => p.1)

/-- URGENT_REFRESH (R244): the refresh that would be a ninth postponed one is issued. -/
def execUrgentRefresh (rank : RankNo) (bank : Fin 64) (s : State) : Host.Outcome State Fault Refusal :=
  .next (if 9 ≤ s.owes rank bank then s.refresh rank bank (s.owes rank bank - 1) else s)

/-- The temperature of stack k as last read, and at its last training. -/
def State.stackTemp (s : State) (k : Nat) : Nat := fieldOf (s.get Reg.MEM_TEMP) (8 * k) 8
def State.stackRef (s : State) (k : Nat) : Nat := fieldOf (s.get Reg.MEM_TEMP_REF) (8 * k) 8

/-- Whether stack k has drifted more than 10 °C from its training (R255). -/
def State.drifted (s : State) (k : Nat) : Bool :=
  decide (s.stackRef k + 10 < s.stackTemp k ∨ s.stackTemp k + 10 < s.stackRef k)

/-- Whether a bank of channel ch of the module owes a refresh. -/
def State.chanOwes (s : State) (ch : Nat) : Bool := s.mc.owed.any (fun p => decide (p.1 / 64 / 3 = ch))

/-- s with stack k reporting the doubled rate from now on: what its banks owe is issued in urgent bursts, one a channel
(R245). -/
def State.startDouble (s : State) (k : Nat) : State :=
  if s.mc.double.contains k then s
  else
    let bursts := countIf (fun c => s.chanOwes (16 * k + c)) (upto 16)
    let s1 := { s with mc := { s.mc with
      double := k :: s.mc.double
      rows := mfilter (fun i => (mfind s.mc.owed i).isNone || decide (stackOf (i / 64) ≠ k)) s.mc.rows
      owed := mfilter (fun i => decide (stackOf (i / 64) ≠ k)) s.mc.owed } }
    if bursts = 0 then s1
    else (({ s1 with mc := { s1.mc with urgentTill := some (s1.now + s1.tenNs 450) } }.bump Reg.MEM_URGENT_CNT bursts).put
      Reg.MEM_STATUS_URGENT 1).monMark 0x263

/-- s with the doubled-rate rule applied to stack k. -/
def State.rateOf (s : State) (k : Nat) : State :=
  if 85 ≤ s.stackTemp k then s.startDouble k
  else { s with mc := { s.mc with double := s.mc.double.filter (fun q => decide (q ≠ k)) } }

/-- s with stack k at 95 °C or above, which it was not before (R246): its priority-5 traffic stops, and its millisecond begins. The
alarm marks HOT's being set. -/
def State.getsHot (s : State) (k : Nat) : State :=
  let s1 := { s.put Reg.MEM_STATUS_HOT 1 with mc := { s.mc with
    hotAt := s.mc.hotAt ++ [s.now]
    hotStks := k :: s.mc.hotStks.filter (fun q => decide (q ≠ k)) } }
  if s.get Reg.MEM_STATUS_HOT = 1 then s1 else s1.alarm 0x0005 k

/-- s with HOT as the stacks' temperatures make it (R246), old holding the temperatures read before. -/
def State.judgeHot (s old : State) : State :=
  let s1 := forUpto (fun s k => if 95 ≤ s.stackTemp k ∧ old.stackTemp k < 95 then s.getsHot k else s) 4 s
  if (upto 4).all (fun k => decide (s1.stackTemp k < 90)) then
    { s1.put Reg.MEM_STATUS_HOT 0 with mc := { s1.mc with
      hotAt := []
      hotStks := [] } }
  else s1

/-- Whether the memory has been trained since the reset (R344, stage 6). -/
def State.memTrained (s : State) : Bool := decide (7 ≤ s.get Reg.NVS_BOOT_STAGE)

/-- A figure of the memory that reads 0 from the reset until its training (R258, R254). -/
def State.onceTrained (s : State) (n : Nat) : Nat := if s.memTrained then n else 0

/-- HBM_TEMP_READ (R245, R246, R255). -/
def execHbmTempRead (t0 t1 t2 t3 : BitVec 8) (s : State) : Host.Outcome State Fault Refusal :=
  let s1 := s.put Reg.MEM_TEMP (t0.toNat + 256 * t1.toNat + 65536 * t2.toNat + 16777216 * t3.toNat)
  let s2 := forUpto State.rateOf 4 s1
  let s3 := (s2.put Reg.MEM_STATUS_DOUBLE (bit (!s2.mc.double.isEmpty))).judgeHot s
  .next (if s3.memTrained && (upto 4).any (fun k => s3.drifted k) then s3.put Reg.MEM_STATUS_RETRAIN_DUE 1 else s3)

/-- Whether a millisecond that began when a stack reached 95 °C is over (R246). -/
def State.hotOver (s : State) : Bool := s.mc.hotAt.any (fun n => decide (n + s.microsec 1000 ≤ s.now))

/-- HOT_ASH_TIMEOUT (R246): with a stack still at 95 °C or above 1 ms after one reached it, Ash. -/
def execHotAshTimeout (s : State) : Host.Outcome State Fault Refusal :=
  .next (if !s.hotOver then s
    else
      let s1 := { s with mc := { s.mc with hotAt := s.mc.hotAt.filter (fun n => decide (s.now < n + s.microsec 1000)) } }
      if (upto 4).any (fun k => decide (95 ≤ s.stackTemp k)) then s1.enterAsh else s1)

/-- s after this core cycle on the urgent bursts: they are over when their time is (R245). -/
def State.urgentTick (s : State) : State :=
  match s.mc.urgentTill with
  | some n => if n ≤ s.now then { s with mc := { s.mc with urgentTill := none } }.put Reg.MEM_STATUS_URGENT 0 else s
  | none => s

/-! ## Self-refresh (R247) -/

/-- Whether every condition of R247 holds in this cycle. -/
def State.memIdle (s : State) : Bool :=
  !s.busyModule && (upto 16).all (fun t => (s.tile t).fillQ.isEmpty) && (upto 16).all (fun b => !s.armedOf b) &&
  s.segs.all (fun p => p.2.loads.isEmpty) && decide (s.extLeft = 0)

/-- Whether self-refresh is due (R247): after an urgent burst (R261). -/
def State.selfDue (s : State) : Bool :=
  decide (s.active Reg.MEM_CTRL_SR_EN = 1) && s.memIdle &&
  decide (s.mc.busyAt + s.microsec (s.active Reg.MEM_SR_IDLE) ≤ s.now) && s.mc.urgentTill.isNone

/-- s with every stack in self-refresh, after an all-bank refresh (R247). -/
def State.selfRefresh (s : State) : State :=
  { s.put Reg.MEM_SR_ACTIVE 0xF with mc := { s.mc with
    owed := []
    rows := []
    exitAt := none } }

/-- SELF_REFRESH_ENTRY (R247). -/
def execSelfRefreshEntry (s : State) : Host.Outcome State Fault Refusal :=
  .next (if s.selfDue && decide (s.get Reg.MEM_SR_ACTIVE = 0) then s.selfRefresh else s)

/-- s out of self-refresh (R247). -/
def State.selfExit (s : State) : State :=
  { s.put Reg.MEM_SR_ACTIVE 0 with mc := { s.mc with
    busyAt := s.now
    exitAt := none } }

/-- SELF_REFRESH_EXIT (R23, R247): the exit that a request or a command has begun, or this one begins, completes; in Ash HBM stays
in self-refresh. -/
def execSelfRefreshExit (s : State) : Host.Outcome State Fault Refusal :=
  .next (if s.get Reg.MEM_SR_ACTIVE = 0 ∨ s.get Reg.GLB_STATE_PROFILE = 3 then s else s.selfExit)

/-! ## Retraining (R254 to R256) -/

/-- s with a retrain of stacks begun. -/
def State.startRetrain (s : State) (stks : List Nat) (auto : Bool) : State :=
  { s with mc := { s.mc with retrain := some ⟨stks, auto, false⟩ } }.put Reg.MEM_STATUS_TRAINING 1

/-- s with a due retrain begun: of the stacks that have drifted; with none drifted any more, nothing is due. -/
def State.dueRetrain (s : State) : State :=
  let l := (upto 4).filter (fun k => s.drifted k)
  if l.isEmpty then s.put Reg.MEM_STATUS_RETRAIN_DUE 0 else s.startRetrain l true

/-- Whether an automatic retrain is due (R255): at the first moment at which nothing runs, is about to start, or records. -/
def State.retrainNow (s : State) : Bool :=
  decide (s.active Reg.MEM_CTRL_AUTO_RETRAIN = 1 ∧ s.get Reg.MEM_STATUS_RETRAIN_DUE = 1 ∧ s.get Reg.GLB_STATE_PROFILE ≠ 3) &&
  !s.busyModule && s.mc.retrain.isNone && s.cal.run.isNone && s.pw.change.isNone

/-- AUTO_RETRAIN (R255). -/
def execAutoRetrain (s : State) : Host.Outcome State Fault Refusal := .next (if s.retrainNow then s.dueRetrain else s)

/-- s with the ranks of channel ch DEGRADED: it runs at 3.2 Gb/s (R256). -/
def State.degrade (s : State) (ch : Nat) : State :=
  forEach (fun s r => if s.rankSt r = 3 then s else s.takeOut r 5 4) (ranksOf ch) s

/-- s with a line of a storage lost: poisoned, and logged with KIND 4, where it stood being a free value. -/
def State.loseLine (s : State) (rank sid line : Nat) : State :=
  let d := s.drawFree
  (d.2.poisonLine sid line).memLog ⟨d.2.tsAt d.2.now, rank, 4, 0, BitVec.ofNat 64 d.1.toNat⟩

/-- s with the lines lost that lie on rank r (R256). -/
def State.loseRankLines (s : State) (r : Nat) : State :=
  forEach (fun s p => forEach (fun s i => s.loseLine r p.1 i) (p.2.linesIn (fun e => decide (s.extRank e = r))) s) s.stores s

/-- s with channel ch lost (R256): its lines poisoned, its ranks RETIRED with cause 4, their extents reassigned, or waiting for
targets (R253). -/
def State.loseChan (s : State) (ch : Nat) : State :=
  let s1 := forEach (fun s r => s.loseRankLines r) (ranksOf ch) s
  let s2 := forEach (fun s r => if s.rankSt r = 3 then s else (s.takeOut r 5 4).rankRetired r) (ranksOf ch) s1
  let s3 := { s2 with mc := { s2.mc with
    copies := s2.mc.copies.filter (fun p => decide (chanOf p.1 ≠ ch))
    lost := (ranksOf ch).filter (fun r => (s2.firstExt r).isSome) ++ s2.mc.lost.filter (fun r => decide (chanOf r ≠ ch)) } }
  (forEach (fun s p => s.extLess p.2.2) (s2.mc.copies.filter (fun p => decide (chanOf p.1 = ch))) s3).capacity

/-- s with stack k trained at a temperature (R254). -/
def State.trained (s : State) (k : Nat) (temp : BitVec 8) : State :=
  let s1 := s.put Reg.MEM_TEMP_REF (withField (s.get Reg.MEM_TEMP_REF) (8 * k) 8 temp.toNat)
  forUpto (fun s i => s.measureEye (48 * k + i)) 48 s1

/-- The least of a field over the ranks of stack k. -/
def State.worstEye (s : State) (f : Nat → Fld) (k : Nat) : Nat :=
  (upto 48).foldl (fun m i => Nat.min m (s.get (f (48 * k + i)))) 0xFFFF

/-- s with the context that a retrain paused on a tile resumed, as if by a RESUME of MODE 0b00 accepted now (R363). -/
def State.resumeAfter (s : State) (p : Nat × Nat) : State :=
  let x := s.tile p.1
  if (s.ctx p.2).st = .paused ∧ x.running.isNone ∧ x.start.isNone then
    s.setTile p.1 { x with
      start := some ⟨p.2, true, 0, some (s.now + Config.lead), s.now + Config.lead⟩
      ahead := none }
  else s

/-- s with a retrain over (R255, R363): what it paused resumes, and a command reports. -/
def State.retrainOver (s : State) (failed : Bool) : State :=
  let s1 := { s with mc := { s.mc with retrain := none } }.judgeTraining
  let s2 := if (upto 4).any (fun k => s1.drifted k) then s1 else s1.put Reg.MEM_STATUS_RETRAIN_DUE 0
  match s2.cal.run with
  | some r =>
    if r.op = 7 then
      let s3 := (s2.put Reg.CAL_QUAL_A r.a).put Reg.CAL_QUAL_B r.b
      forEach State.resumeAfter r.paused (s3.calOver r (if failed then .trainfail else .ok))
    else s2
  | none => s2

/-- s with the eyes of stack k taken into the figures of the command that retrains it. -/
def State.noteEyes (s : State) (k : Nat) : State :=
  match s.cal.run with
  | some r =>
    if r.op = 7 then
      let r1 := { r with
        a := Nat.min r.a (s.worstEye Reg.RANK_EYE_WIDTH k)
        b := Nat.min r.b (s.worstEye Reg.RANK_EYE_UI k) }
      { s with cal := { s.cal with run := some r1 } }
    else s
  | none => s

/-- RETRAIN_COMPLETE (R254, R256, R363): stack k has been trained at a temperature; fails are its channels with no working
setting that read without error at 3.2 Gb/s, lost the others. -/
def execRetrainComplete (k : StackNo) (temp : BitVec 8) (fails lost : List (Fin 16)) (s : State) :
    Host.Outcome State Fault Refusal :=
  .next (match s.mc.retrain with
    | none => s
    | some r =>
      if !r.stks.contains k.val then s
      else
        let ch := fun (c : Fin 16) => 16 * k.val + c.val
        let bad := !fails.isEmpty || !lost.isEmpty
        let s1 := (forEach (fun s c => s.loseChan (ch c)) lost (forEach (fun s c => s.degrade (ch c)) fails s)).settleRanks
        let s2 := ((if bad then s1.put Reg.MEM_STATUS_TRAIN_FAIL 1 else s1).trained k temp).noteEyes k
        let left := r.stks.filter (fun q => decide (q ≠ k.val))
        let r1 : Retrain := { r with
          stks := left
          failed := r.failed || bad }
        if left.isEmpty then s2.retrainOver r1.failed
        else { s2 with mc := { s2.mc with retrain := some r1 } })

end Sys2Proof.Machine
end

