-- ==== Sys2Proof/Machine/PowerCmds.lean ====
section
/-! DEFINITION. Power states, supply sag and field-side resets as commands (R12, R21 to R26, R270, R347 to R351, R353 to
R355). -/

namespace Sys2Proof.Machine

/-! ## Profiles -/

/-- Whether a profile's demand is within the ceiling and the limit of every channel, for what is already admitted (R21). -/
def State.profileFits (s : State) (p : Nat) : Bool :=
  decide (demandOf p + s.fillTotal ≤ Config.ceiling) &&
  s.withinLimit p 0 1 ((upto 64).filter (fun ch => s.chanServed ch))

/-- The refusal of R21 of a change to profile p, if there is one. -/
def State.changeCheck (s : State) (p : Nat) : Option Sts :=
  if (upto 16).any (fun t => (s.tile t).running.isSome) ∨ (upto 8).any (fun c => s.recording c) then some .state
  else if !s.profileFits p then some .bandwidth
  else none

/-- The refusal of a write of an active profile, if there is one (R21, R24, R25, R246, R360). Of several that hold at once, BUSY is
reported before SAG, SAG before a stack's temperature, and these before R21's (DESIGN CHOICE, log 72: the rules give no order). -/
def State.activeCheck (s : State) (p : Nat) : Option Sts :=
  if s.pw.change.isSome ∨ s.cal.run.isSome ∨ s.get Reg.CAL_CMD_STATUS_BUSY = 1 then some .busy
  else if s.get Reg.GLB_STATE_PROFILE = 3 ∧ s.get Reg.NVS_SUPPLY_ASH_SAG = 1 then some .sag
  else if (upto 4).any (fun k => decide (90 < s.stackTemp k)) then some .state
  else if p = s.demandProfile then none
  else s.changeCheck p

/-- s with PSTS reported (R26). -/
def State.psts (s : State) (e : Sts) : State := s.put Reg.GLB_STATE_PSTS e.code

/-- s with exit from Ash towards profile p begun: a retrain that is due runs first (R24, R255). -/
def State.leaveAsh (s : State) (p : Nat) : State :=
  let s1 := (s.changeTo p).selfExit
  if s1.get Reg.MEM_STATUS_RETRAIN_DUE = 1 then s1.dueRetrain else s1

/-- s with a GLB_PROFILE write of v (R17, R21 to R26). A reserved code written while an entry into Ash is in progress reports
STS_RANGE, not STS_BUSY (DESIGN CHOICE, log 72: R17 and R23 each give a status, and no order). -/
def State.profileWrite (s : State) (v : Word) : State :=
  s.guarded fun s =>
    let p := fieldOf v.toNat 0 4
    let s1 := s.put Reg.GLB_PROFILE p
    if 3 < p then s1.psts .range
    else if s1.pw.change = some 3 then s1.psts .busy
    else if p = 3 then s1.enterAsh.psts .ok
    else match s1.activeCheck p with
      | some e => s1.psts e
      | none =>
        if s1.get Reg.GLB_STATE_PROFILE = 3 then (s1.leaveAsh p).psts .ok
        else if p = s1.get Reg.GLB_STATE_PROFILE then s1.psts .ok
        else (s1.changeTo p).psts .ok

/-- PROFILE_CHANGE (R21, R22). -/
def execProfileChange (v : Word) (s : State) : Host.Outcome State Fault Refusal := .next (s.profileWrite v)

/-- ASH_ENTRY (R23). -/
def execAshEntry (v : Word) (s : State) : Host.Outcome State Fault Refusal := .next (s.profileWrite v)

/-- ASH_EXIT (R24). -/
def execAshExit (v : Word) (s : State) : Host.Outcome State Fault Refusal := .next (s.profileWrite v)

/-- s with the change in progress complete: profile p is in effect. -/
def State.profileNow (s : State) (p : Nat) : State :=
  (({ s with pw := { s.pw with change := none } }.put Reg.GLB_STATE_PROFILE p).put Reg.GLB_STATE_BUSY 0).regate

/-- s with active profile p in effect: the outputs are held safe for it no more. -/
def State.profileActive (s : State) (p : Nat) : State := (s.profileNow p).unlatchAll (fun l => { l with power := false })

/-- PROFILE_CHANGE_COMPLETE (R22). -/
def execProfileChangeComplete (s : State) : Host.Outcome State Fault Refusal :=
  .next (match s.pw.change with
    | some p => if p = 3 ∨ s.get Reg.GLB_STATE_PROFILE = 3 then s else s.profileActive p
    | none => s)

/-- ASH_ENTRY_COMPLETE (R23): HBM is in self-refresh, after an all-bank refresh. -/
def execAshEntryComplete (s : State) : Host.Outcome State Fault Refusal :=
  .next (if s.pw.change = some 3 then
      (s.profileNow 3).selfRefresh
    else s)

/-- ASH_EXIT_COMPLETE (R24): not before a retrain that runs on leaving. -/
def execAshExitComplete (s : State) : Host.Outcome State Fault Refusal :=
  .next (match s.pw.change with
    | some p => if p = 3 ∨ s.get Reg.GLB_STATE_PROFILE ≠ 3 ∨ s.mc.retrain.isSome then s else s.profileActive p
    | none => s)

/-! ## Resets -/

/-- FIELD_POWER_ON_RESET (R351): field power is applied, while the host side is powered and DORMANT is 0. -/
def execFieldPowerOnReset (s : State) : Host.Outcome State Fault Refusal :=
  .next (
    if s.pw.fieldOn ∨ !s.pw.hostOn ∨ s.get Reg.XNG_PWR_DORMANT = 1 then s
    else
      let cause := match s.pw.wanted with
        | some (.powerOn c) => c
        | _ => if s.pw.shut then 0x08 else 0x01
      { s.powerOnReset cause with xng := { (s.powerOnReset cause).xng with dormant := false } })

/-- FIELD_RST_N_ASSERT (R348): while the pin stays asserted the field side is held in reset, its outputs safe. -/
def execFieldRstNAssert (s : State) : Host.Outcome State Fault Refusal :=
  .next { s.latchAll (fun l => { l with reset := true }) with pw := { s.pw with rstN := true } }

/-- FIELD_RST_N_RELEASE (R348): the field reset starts at the release. -/
def execFieldRstNRelease (s : State) : Host.Outcome State Fault Refusal :=
  .next (
    if !s.pw.rstN then s
    else
      let s1 := { s with pw := { s.pw with rstN := false } }
      if s1.pw.fieldOn then s1.request (.field 0x02) else s1)

/-- FIELD_RESET_ACK_TIMEOUT (R348): the host side removes field power, to restore it. -/
def execFieldResetAckTimeout (s : State) : Host.Outcome State Fault Refusal :=
  .next (if s.pw.rstN ∧ s.pw.fieldOn then s.fieldOff (some (.powerOn 0x02)) else s)

/-- NVS_FIELD_RST (R347, R356): 0xA55A starts a field reset; other values are ignored. -/
def execNvsFieldRst (v : Word) (s : State) : Host.Outcome State Fault Refusal :=
  .next (if fieldOf v.toNat 0 16 = 0xA55A then s.request (.field 0x03) else s)

/-- SOFT_RESET (R326, R347). -/
def execSoftReset (v : Word) (s : State) : Host.Outcome State Fault Refusal :=
  .next (s.guarded fun s => if v.getLsbD 0 then s.request .soft else s)

/-- TILE_RESET (R350): bit t resets tile t. -/
def execTileReset (v : Word) (s : State) : Host.Outcome State Fault Refusal :=
  .next (forUpto (fun s t => if v.getLsbD t then s.tileReset t else s) 16 s)

/-- s with all outputs made safe by a steward, the capture channels held (R12, R233), and a field reset requested. -/
def State.stewardReset (s : State) (cause : Nat) : State :=
  (forUpto (fun s c => s.setCapture c { s.capture c with stewHeld := true }) 8 s.holdCaps).request (.field cause)

/-- STEWARD_STOP (R12): alarm 0x0007 is left in the record region, to be sent after the next boot (R303). -/
def execStewardStop (n : Fin 2) (s : State) : Host.Outcome State Fault Refusal :=
  .next ({ s with pw := { s.pw with pend7 := some n.val } }.stewardReset (0x05 + n.val))

/-- SERVICE_LOCK_LOSS (R270). -/
def execServiceLockLoss (s : State) : Host.Outcome State Fault Refusal :=
  .next ((s.put Reg.CLK_STATUS_SVC_LOCK 0).stewardReset 0x07)

/-! ## The 48 V input (R353 to R355) -/

/-- s with the input measured, in 0.1 V. -/
def State.vin (s : State) (v : BitVec 10) : State := s.put Reg.NVS_SUPPLY_VIN v.toNat

/-- s with a sag threshold crossed: its alarm's detail is the threshold in V (R303). -/
def State.sag (s : State) (volts : Nat) : State := (s.put Reg.NVS_SUPPLY_SAG 1).alarm 0x0004 volts

/-- SAG_BELOW_42V (R353). -/
def execSagBelow42V (vin : BitVec 10) (s : State) : Host.Outcome State Fault Refusal :=
  let s1 := s.vin vin
  .next (if vin.toNat < 420 ∧ s1.get Reg.NVS_SUPPLY_NV_BLOCK = 0 then
      { (s1.put Reg.NVS_SUPPLY_NV_BLOCK 1).sag 42 with pw := { s1.pw with flush := false } }
    else s1)

/-- SAG_BELOW_38V (R25, R353). -/
def execSagBelow38V (vin : BitVec 10) (s : State) : Host.Outcome State Fault Refusal :=
  let s1 := s.vin vin
  .next (if vin.toNat < 380 ∧ s1.get Reg.NVS_SUPPLY_ASH_SAG = 0 then
      ((s1.powerSafe.enterAsh).put Reg.NVS_SUPPLY_ASH_SAG 1).sag 38
    else s1)

/-- SAG_BELOW_36V (R353, R355). -/
def execSagBelow36V (vin : BitVec 10) (s : State) : Host.Outcome State Fault Refusal :=
  let s1 := s.vin vin
  .next (if vin.toNat < 360 ∧ s1.pw.fieldOn ∧ s1.pw.wanted ≠ some .shutdown then (s1.sag 36).request .shutdown else s1)

/-- SUPPLY_RECOVER_42V5 (R353, R354): the records held back are due. -/
def execSupplyRecover42V5 (vin : BitVec 10) (s : State) : Host.Outcome State Fault Refusal :=
  let s1 := s.vin vin
  .next (if 425 ≤ vin.toNat ∧ s1.get Reg.NVS_SUPPLY_NV_BLOCK = 1 then
      { s1.put Reg.NVS_SUPPLY_NV_BLOCK 0 with pw := { s1.pw with flush := true } }
    else s1)

/-- SUPPLY_RECOVER_40V (R25, R353). -/
def execSupplyRecover40V (vin : BitVec 10) (s : State) : Host.Outcome State Fault Refusal :=
  let s1 := s.vin vin
  .next (if 400 ≤ vin.toNat then s1.put Reg.NVS_SUPPLY_ASH_SAG 0 else s1)

/-- s after this core cycle on the retirement records that a sag has held back: written in the cycle after NV_BLOCK
cleared (R354, R357). -/
def State.flushTick (s : State) : State :=
  if s.pw.flush then
    { s with
      mc := { s.mc with records := [] }
      pw := { s.pw with
        flush := false
        retired := s.mc.records.foldl recordWritten s.pw.retired } }
  else s

/-! ## Dormant (R351) -/

/-- s with an accepted request for Dormant: outputs safe, an MRAM write in progress ended, power off. -/
def State.goDormant (s : State) : State :=
  ({ s with xng := { s.xng with dormant := true } }.put Reg.XNG_PWR_STS Sts.ok.code).request .dormant

/-- s with a write of XNG_PWR: a request for Dormant is accepted by a field side that the Crossing reaches, in any state. -/
def State.xngPwrWrite (s : State) (v : Word) : State :=
  let s1 := s.put Reg.XNG_PWR_DORMANT (bit (v.getLsbD 0))
  if v.getLsbD 0 && s1.pw.fieldOn && s1.xng.up then s1.goDormant else s1

/-- DORMANT_REQUEST (R351). -/
def execDormantRequest (v : Word) (s : State) : Host.Outcome State Fault Refusal := .next (s.xngPwrWrite v)

/-- FIELD_POWER_REQUEST (R351): with DORMANT 0, field power is restored under the power-up conditions. -/
def execFieldPowerRequest (v : Word) (s : State) : Host.Outcome State Fault Refusal := .next (s.xngPwrWrite v)

end Sys2Proof.Machine
end

