-- ==== Sys2Proof/Machine/Xng.lean ====
section
/-! DEFINITION. The Crossing and the host bridge: heartbeats, absence, alarms, notifications, ferries, PERST_N and the SMBus
(R299 to R313). -/

namespace Sys2Proof.Machine

/-! ## Host alerts -/

/-- s with an MSI-X vector signalled, unless PERST_N holds the bridge in reset (R310, R311). -/
def State.msix (s : State) (v : Nat) : State := if s.xng.perst then s else s.signalVec v

/-- s with a bit of XNG_HALERT set: vector 0 when it becomes 1 while enabled (R310). -/
def State.halert (s : State) (f en : Fld) : State :=
  let s1 := s.put f 1
  if s.get f = 0 ∧ s.get en = 1 then s1.msix 0 else s1

/-- Whether HOST_ALERT_N is pulled low (R312). -/
def State.alertLow (s : State) : Bool :=
  s.pw.hostOn && decide (s.get Reg.XNG_HALERT_WDOG = 1 ∧ s.get Reg.XNG_HALERT_EN_WDOG = 1 ∨
    s.get Reg.XNG_HALERT_ALARM = 1 ∧ s.get Reg.XNG_HALERT_EN_ALARM = 1 ∨
    s.get Reg.XNG_HALERT_FIELD_LOST = 1 ∧ s.get Reg.XNG_HALERT_EN_FIELD_LOST = 1)

/-! ## The watchdog (R300) -/

/-- ATTENDED as the host side sends it. -/
def State.attended (s : State) : Bool := !s.xng.perst && decide (s.get Reg.XNG_HSTATUS_WDOG_EXP = 0)

/-- s with XNG_HSTATUS.ATTENDED as it is sent. -/
def State.putAttended (s : State) : State := s.put Reg.XNG_HSTATUS_ATTENDED (bit s.attended)

/-- Whether the watchdog has been kicked in this cycle: the kick wins over an expiry (R315). -/
def State.kicked (s : State) : Bool := (mfind s.wrote Reg.XNG_KICK.addr).isSome

/-- WATCHDOG_EXPIRY (R300, R315). -/
def execWatchdogExpiry (s : State) : Host.Outcome State Fault Refusal :=
  .next (if s.get Reg.XNG_WDOG = 0 ∨ s.get Reg.XNG_HSTATUS_WDOG_EXP = 1 ∨ s.kicked then s
    else (((s.noted Reg.XNG_HALERT_WDOG.addr).put Reg.XNG_HSTATUS_WDOG_EXP 1).putAttended).halert Reg.XNG_HALERT_WDOG
      Reg.XNG_HALERT_EN_WDOG)

/-- s with the watchdog restarted, or disabled: it is not expired. -/
def State.wdogRestart (s : State) : State := (s.put Reg.XNG_HSTATUS_WDOG_EXP 0).putAttended

/-- s with a kick of the watchdog: an expiry of the same cycle has not been (R315). -/
def State.kick (s : State) : State :=
  let s1 := s.noted Reg.XNG_KICK.addr
  (if s.get Reg.XNG_HALERT_WDOG = 1 ∧ s.shadowOf Reg.XNG_HALERT_WDOG = 0 then s1.put Reg.XNG_HALERT_WDOG 0 else s1).wdogRestart

/-- XNG_KICK (R300): any write restarts the watchdog. -/
def execXngKick (_v : Word) (s : State) : Host.Outcome State Fault Refusal := .next s.kick

/-- XNG_WDOG (R300). -/
def execXngWdog (v : Word) (s : State) : Host.Outcome State Fault Refusal := .next ((s.put Reg.XNG_WDOG v.toNat).wdogRestart)

/-! ## Heartbeats -/

/-- Whether the field side's end of the Crossing can carry messages: it has power, and stage 1 of its boot has ended
(R347). -/
def State.fieldTalks (s : State) : Bool := s.pw.fieldOn && decide (2 ≤ s.get Reg.NVS_BOOT_STAGE)

/-- s with the Crossing carrying messages: a Dormant request that waits at the bridge is received (R351). -/
def State.crossUp (s : State) : State :=
  let s1 := { s with xng := { s.xng with up := true } }
  if !s.xng.up && decide (s.get Reg.XNG_PWR_DORMANT = 1) && !s.xng.dormant then s1.goDormant else s1

/-- HEARTBEAT_SEND (R300, R301): ATTENDED leaves the host side, or the field state the field side. -/
def execHeartbeatSend (host : Bool) (s : State) : Host.Outcome State Fault Refusal :=
  .next (
    if host then (if s.pw.hostOn then { s with xng := { s.xng with beatHost := some s.attended } } else s)
    else if s.fieldTalks then { s with xng := { s.xng with beatField := some s.fieldState } }
    else s)

/-- s with an attended heartbeat, or another, received by the field side (R302): one of the cycle in which the host is declared
absent counts for nothing (R315). -/
def State.hostBeat (s : State) (attended : Bool) : State :=
  if s.get Reg.XNG_FSTATUS_HOST_ABSENT = 0 ∨ s.shadowOf Reg.XNG_FSTATUS_HOST_ABSENT = 0 then s
  else
    let n := if attended then s.xng.hbField + 1 else 0
    if n = 2 then
      ({ s with xng := { s.xng with hbField := 0 } }.put Reg.XNG_FSTATUS_HOST_ABSENT 0).put Reg.XNG_FSTATUS_HOST_BACK 1
    else { s with xng := { s.xng with hbField := n } }

/-- s with a heartbeat of a field state received by the host side (R301, R314). -/
def State.fieldBeat (s : State) (st : Nat) : State :=
  let s1 := s.put Reg.XNG_HSTATUS_FSTATE st
  if s1.get Reg.XNG_HSTATUS_FIELD_ABSENT = 0 then s1
  else if s1.xng.hbHost + 1 = 2 then { s1 with xng := { s1.xng with hbHost := 0 } }.put Reg.XNG_HSTATUS_FIELD_ABSENT 0
  else { s1 with xng := { s1.xng with hbHost := s1.xng.hbHost + 1 } }

/-- HEARTBEAT_MESSAGE (R301, R302): the heartbeat on its way from one side arrives at the other. -/
def execHeartbeatMessage (host : Bool) (s : State) : Host.Outcome State Fault Refusal :=
  .next (
    if host then
      (match s.xng.beatHost with
       | some a =>
         let s1 := { s with xng := { s.xng with beatHost := none } }
         if s1.fieldTalks then (s1.hostBeat a).crossUp else s1
       | none => s)
    else
      (match s.xng.beatField with
       | some st =>
         let s1 := { s with xng := { s.xng with beatField := none } }
         if s1.pw.hostOn then (s1.fieldBeat st).crossUp else s1
       | none => s))

/-! ## Absence of the field side (R301) -/

/-- s with one access that waited at the bridge completed for an absent field side. -/
def State.absentAccess (s : State) (a : Access) : State :=
  if a.data.isSome then s.bump Reg.XNG_ABS_WR_CNT
  else { s with xng := { s.xng with readData := BitVec.allOnes 64 } }.bump Reg.XNG_ABS_RD_CNT

/-- FIELD_ABSENCE_TIMEOUT (R301). -/
def execFieldAbsenceTimeout (s : State) : Host.Outcome State Fault Refusal :=
  .next (
    if !s.pw.hostOn ∨ s.get Reg.XNG_HSTATUS_FIELD_ABSENT = 1 then s
    else
      let s1 := forEach State.absentAccess s.xng.waiting (s.put Reg.XNG_HSTATUS_FIELD_ABSENT 1)
      let s2 := { s1 with xng := { s1.xng with
        waiting := []
        hbHost := 0
        beatField := none } }
      if s2.xng.dormant then s2 else s2.halert Reg.XNG_HALERT_FIELD_LOST Reg.XNG_HALERT_EN_FIELD_LOST)

/-! ## Absence of the host (R302) -/

/-- s with what a policy that pauses or stops does on tile t: a PAUSE at a boundary or a STOP accepted now, a pending start
discarded. -/
def State.policyTile (s : State) (stop : Bool) (t : Nat) : State :=
  let s1 := s.noStart t
  let x := s1.tile t
  match x.running with
  | some c =>
    if stop then s1.setTile t { x with stops := x.stops ++ [⟨c, s.now + Config.L, true⟩] }
    else s1.pauseReq t ⟨c, s.now + Config.L, false⟩
  | none => s1

/-- s with the host-absent policy applied. -/
def State.applyPolicy (s : State) : State :=
  match s.get Reg.XNG_ABSENT_POLICY with
  | 1 => forUpto (fun s t => s.policyTile false t) 16 s
  | 2 =>
    let s1 := forUpto (fun s t => s.policyTile true t) 16 s
    { s1 with xng := { s1.xng with safeAt := some (s1.now + Config.L) } }
  | _ => s

/-- HOST_ABSENCE_TIMEOUT (R302). -/
def execHostAbsenceTimeout (s : State) : Host.Outcome State Fault Refusal :=
  .next (
    if !s.fieldLive ∨ s.get Reg.XNG_FSTATUS_HOST_ABSENT = 1 then s
    else
      let s0 := s.noted Reg.XNG_FSTATUS_HOST_ABSENT.addr
      let s1 := { s0.put Reg.XNG_FSTATUS_HOST_ABSENT 1 with xng := { s0.xng with hbField := 0 } }
      s1.applyPolicy.alarm 0x0008 (s1.get Reg.XNG_ABSENT_POLICY))

/-- s with every capture channel held, or held no more, for the STOP_SAFE policy. -/
def State.absHold (s : State) (on : Bool) : State :=
  forUpto (fun s c => s.setCapture c { s.capture c with absHeld := on }) 8 s

/-- s after this core cycle on the STOP_SAFE policy: from 48 cc after the declaration the outputs are safe and the channels
held (R302). -/
def State.safeTick (s : State) : State :=
  match s.xng.safeAt with
  | some n =>
    if s.now < n then s
    else
      let s1 := { s with xng := { s.xng with safeAt := none } }.latchAll (fun l => { l with absent := true })
      ((s1.absHold true).holdCaps).put Reg.XNG_FSTATUS_SAFE_LATCH 1
  | none => s

/-- s with a write of v to XNG_FSTATUS received: while the host is absent none is (R315). -/
def State.fstatusWrite (s : State) (v : Word) : State :=
  if s.get Reg.XNG_FSTATUS_HOST_ABSENT = 1 then s
  else
    let s1 := if v.getLsbD 1 then s.put Reg.XNG_FSTATUS_HOST_BACK 0 else s
    if v.getLsbD 2 && decide (s1.get Reg.XNG_FSTATUS_SAFE_LATCH = 1) then
      (((s1.put Reg.XNG_FSTATUS_SAFE_LATCH 0).absHold false).freeCaps).unlatchAll (fun l => { l with absent := false })
    else s1

/-- SAFE_LATCH_CLEAR (R302). -/
def execSafeLatchClear (v : Word) (s : State) : Host.Outcome State Fault Refusal := .next (s.fstatusWrite v)

/-! ## Raises, alarms and notifications (R303, R304) -/

/-- XNG_RAISE (R301, R304): the bits written 1 are sent as host event raises; while the field side is absent they are lost. -/
def execXngRaise (v : Word) (s : State) : Host.Outcome State Fault Refusal :=
  .next (
    if s.get Reg.XNG_HSTATUS_FIELD_ABSENT = 1 then s.bump Reg.XNG_ABS_WR_CNT
    else { s with xng := { s.xng with
      raises := s.xng.raises ++ (upto 32).filter (fun n => v.getLsbD n && !s.xng.raises.contains n) } })

/-- s with n more alarms dropped: LOST saturates. -/
def State.loseAlarms (s : State) (n : Nat) : State :=
  s.put Reg.XNG_ALARM_STAT_LOST (Nat.min (s.get Reg.XNG_ALARM_STAT_LOST + n) 0xFFFF)

/-- ALARM_MESSAGE (R303): the oldest alarm of the field side arrives, with the count of those dropped there. -/
def execAlarmMessage (s : State) : Host.Outcome State Fault Refusal :=
  .next (match s.xng.fAlarms with
    | [] => s
    | a :: rest =>
      if !s.carries ∨ !s.pw.hostOn then s
      else
        let s1 := { s with xng := { s.xng with
          fAlarms := rest
          fAlarmLost := 0 } }.loseAlarms s.xng.fAlarmLost
        if 64 ≤ s1.xng.hAlarms.length then s1.loseAlarms 1
        else
          let s2 := { s1 with xng := { s1.xng with hAlarms := s1.xng.hAlarms ++ [a] } }
          if s1.xng.hAlarms.isEmpty then s2.halert Reg.XNG_HALERT_ALARM Reg.XNG_HALERT_EN_ALARM else s2)

/-- NOTIFICATION_MESSAGE (R304, R310). -/
def execNotificationMessage (s : State) : Host.Outcome State Fault Refusal :=
  .next (match s.xng.fNotes with
    | [] => s
    | a :: rest =>
      if !s.carries ∨ !s.pw.hostOn then s
      else
        let s1 := { s with xng := { s.xng with
          fNotes := rest
          fNoteLost := 0 } }.bump Reg.XNG_NOTE_LOST_CNT s.xng.fNoteLost
        if 256 ≤ s1.xng.hNotes.length then s1.bump Reg.XNG_NOTE_LOST_CNT
        else
          let s2 := { s1 with xng := { s1.xng with hNotes := s1.xng.hNotes ++ [a] } }
          if s1.xng.hNotes.isEmpty then s2.msix 1 else s2)

/-- s with a write of v to XNG_POP (R314). -/
def State.popWrite (s : State) (v : Word) : State :=
  let s1 := if v.getLsbD 0 then { s with xng := { s.xng with hAlarms := s.xng.hAlarms.tail } } else s
  if v.getLsbD 1 then { s1 with xng := { s1.xng with hNotes := s1.xng.hNotes.tail } } else s1

/-- XNG_POP_ALARM (R314). -/
def execXngPopAlarm (v : Word) (s : State) : Host.Outcome State Fault Refusal := .next (s.popWrite v)

/-- XNG_POP_NOTE (R314). -/
def execXngPopNote (v : Word) (s : State) : Host.Outcome State Fault Refusal := .next (s.popWrite v)

/-! ## Ferries (R305 to R307) -/

/-- A descriptor as its 32 bytes spell it, little-endian (R305). -/
def Desc.ofBytes (b : BitVec 256) : Desc :=
  { addr := b.extractLsb' 0 64
    count := fieldOf b.toNat 64 32
    handle := fieldOf b.toNat 96 24
    toHost := b.getLsbD 120
    irq := b.getLsbD 121
    flagsRsv := fieldOf b.toNat 122 6
    done := fieldOf b.toNat 128 32
    sts := fieldOf b.toNat 160 8
    user := b.extractLsb' 192 64 }

/-- Descriptor i of ring r. -/
def State.desc (s : State) (r i : Nat) : Desc := mget (fun _ => Desc.init) s.xng.rings (256 * r + i)

/-- s with descriptor i of ring r replaced. -/
def State.setDesc (s : State) (r i : Nat) (d : Desc) : State :=
  { s with xng := { s.xng with rings := mset (fun _ => Desc.init) s.xng.rings (256 * r + i) d } }

/-- The descriptor at the head of ring r: none of its words has been transferred before the bridge takes it. -/
def State.headDesc (s : State) (r : Nat) : Desc :=
  let d := s.desc r (s.get (Reg.XNG_RING_HEAD r))
  if (mfind s.xng.xfers r).isSome then d else { d with done := 0 }

/-- s with descriptors written to ring r from slot i on. -/
def State.postDescs (s : State) (r i : Nat) : List (BitVec 256) → State
  | [] => s
  | b :: l => (s.setDesc r (i % 256) (Desc.ofBytes b)).postDescs r (i + 1) l

/-- XNG_RING_TAIL (R306): the host has posted descs from the old TAIL on, and makes them available. -/
def execXngRingTail (r : RingNo) (v : Word) (descs : List (BitVec 256)) (s : State) : Host.Outcome State Fault Refusal :=
  .next ((s.postDescs r (s.get (Reg.XNG_RING_TAIL r)) descs).put (Reg.XNG_RING_TAIL r) (fieldOf v.toNat 0 8))

/-- Whether ring r holds a descriptor and is enabled. -/
def State.ringOpen (s : State) (r : Nat) : Bool :=
  decide (s.get (Reg.XNG_RING_CTRL r) % 2 = 1 ∧ s.get (Reg.XNG_RING_HEAD r) ≠ s.get (Reg.XNG_RING_TAIL r)) && !s.xng.perst

/-- The open ferry LOAD that a descriptor of a handle meets: the oldest with words outstanding. -/
def Seg.ferryLoad (g : Seg) : Option OpenLoad := g.loads.find? (fun l => decide (l.src = 0 ∧ l.done < l.count))

/-- The LOAD that a descriptor is matched to, or the status that completes it (R307). -/
def State.ferryMatch (s : State) (d : Desc) : Except Sts (Seg × OpenLoad) :=
  match s.seg d.handle with
  | none => .error .precond
  | some g =>
    match g.ferryLoad with
    | none => .error .precond
    | some l =>
      if l.read ≠ d.toHost then .error .precond
      else if d.done = 0 ∧ (d.count = 0 ∨ 1048576 < d.count ∨ l.count - l.done < d.count) then .error .range
      else .ok (g, l)

/-- Words among n from offset off of storage sid that lie in poisoned lines (R251). -/
def State.poisonedIn (s : State) (sid off n : Nat) : Nat := countIf (fun i => s.poisoned sid (off + i)) (upto n)

/-- Word off of storage sid as a reading LOAD delivers it: of a poisoned line, nine zero bytes (R251). -/
def State.delivered (s : State) (sid off : Nat) : Word72 := if s.poisoned sid off then 0 else s.readWord sid off

/-- s with a frame of words carried for the descriptor d at the head of ring r and LOAD l of its handle. -/
def State.ferryMove (s : State) (r : Nat) (d : Desc) (g : Seg) (l : OpenLoad) (x : Xfer) (words : List Word72) : State :=
  let i := s.get (Reg.XNG_RING_HEAD r)
  if d.toHost then
    let p := s.poisonedIn g.sid (l.off + l.done) words.length
    let out := (upto words.length).map (fun i => s.delivered g.sid (l.off + l.done + i))
    let s := s.wordsUse g.sid (l.off + l.done) words.length
    let l1 := { l with
      done := l.done + words.length
      poisoned := l.poisoned + p }
    let s1 := (s.setSeg d.handle { g with loads := g.loads.map (fun y => if y = l then l1 else y) }).setDesc r i
      { d with done := d.done + words.length }
    { s1 with xng := { s1.xng with
        xfers := mins s1.xng.xfers r { x with poisoned := x.poisoned + p }
        ferried := out } }
  else
    let n := (s.loadTakes l words).length
    let s1 := (s.loadWords d.handle g l words).setDesc r i { d with done := d.done + n }
    { s1 with xng := { s1.xng with xfers := mins s1.xng.xfers r x } }

/-- FERRY_FRAME (R246, R298, R307): a frame of up to 455 words of the descriptor at the head of a ring; a stack that is HOT takes
none (DESIGN CHOICE, log 121: the frame that priority 5 holds back is the row's, to be sent again). -/
def execFerryFrame (r : RingNo) (words : List Word72) (s : State) : Host.Outcome State Fault Refusal :=
  .next (
    let d := s.headDesc r
    let x := (mfind s.xng.xfers r.val).getD ⟨none, 0⟩
    if !s.ringOpen r ∨ !s.xng.up ∨ !s.fieldLive ∨ x.sts.isSome ∨ 455 < words.length ∨ d.count < d.done + words.length then s
    else match s.ferryMatch d with
      | .error _ => s
      | .ok (g, l) => if l.count < l.done + words.length ∨ s.tooHot g.sid then s else s.ferryMove r d g l x words)

/-- s with the descriptor at the head of ring r completed: DONE and STS written back, HEAD advanced, the ring's vector
signalled (R307, R310). -/
def State.ferryEnd (s : State) (r : Nat) (e : Nat) : State :=
  let i := s.get (Reg.XNG_RING_HEAD r)
  let d := s.headDesc r
  let s1 := (s.setDesc r i { d with sts := e }).put (Reg.XNG_RING_HEAD r) ((i + 1) % 256)
  let s2 := { s1 with xng := { s1.xng with xfers := mdel s1.xng.xfers r } }
  if d.irq then s2.msix (4 + r) else s2

/-- FERRY_DESCRIPTOR_COMPLETE (R307): one whose LOAD a reset has cancelled is written back once the field side is absent or
answers again. -/
def execFerryDescriptorComplete (r : RingNo) (s : State) : Host.Outcome State Fault Refusal :=
  .next (
    let d := s.headDesc r
    if !s.ringOpen r then s
    else match mfind s.xng.xfers r.val with
      | some x =>
        (match x.sts with
         | some e => if s.xng.up ∨ s.get Reg.XNG_HSTATUS_FIELD_ABSENT = 1 then s.ferryEnd r e else s
         | none => if d.done = d.count then s.ferryEnd r (if 0 < x.poisoned then Sts.poison.code else Sts.ok.code) else s)
      | none =>
        if !s.xng.up ∨ !s.fieldLive then s
        else match s.ferryMatch d with
          | .error e => s.ferryEnd r e.code
          | .ok _ => s)

/-! ## PERST_N and the power of the host side (R311, R316, R335, R351) -/

/-- Whether the register at address a is of domain PERST_N. -/
def perstReg (a : Nat) : Bool :=
  match regAt a with
  | some (d, _, _) => decide (d.dom = .perst)
  | none => false

/-- s with the bridge and the host-side registers reset: rings and queues emptied. -/
def State.perstClear (s : State) : State :=
  { s with
    regs := mfilter (fun a => !perstReg a) s.regs
    xng := { s.xng with
      hAlarms := []
      hNotes := []
      rings := []
      xfers := []
      waiting := []
      irqs := []
      mbx := []
      pcie := Pcie.init
      hbHost := 0 } }

/-- PERST_N_ASSERT (R311): XNG_HSTATUS goes on reporting the field side. -/
def execPerstNAssert (s : State) : Host.Outcome State Fault Refusal :=
  let s1 := { s.perstClear with xng := { s.perstClear.xng with
    perst := true
    hbHost := s.xng.hbHost } }
  let s2 := (s1.put Reg.XNG_HSTATUS_FSTATE (s.get Reg.XNG_HSTATUS_FSTATE)).put Reg.XNG_HSTATUS_FIELD_PWR
    (s.get Reg.XNG_HSTATUS_FIELD_PWR)
  .next ((s2.put Reg.XNG_HSTATUS_FIELD_ABSENT (s.get Reg.XNG_HSTATUS_FIELD_ABSENT)).putAttended)

/-- PERST_N_RELEASE (R303, R311): ATTENDED is 1 again, and what the field side holds may be sent. -/
def execPerstNRelease (s : State) : Host.Outcome State Fault Refusal :=
  .next ({ s with xng := { s.xng with perst := false } }.putAttended)

/-- HOST_SIDE_POWER_UP (R335, R351). -/
def execHostSidePowerUp (s : State) : Host.Outcome State Fault Refusal :=
  .next (if s.pw.hostOn then s
    else { s.perstClear with pw := { s.pw with hostOn := true } }.putAttended)

/-- HOST_SIDE_POWER_LOSS (R335): the field side loses its power with it. -/
def execHostSidePowerLoss (s : State) : Host.Outcome State Fault Refusal :=
  .next (
    let s1 := if s.pw.fieldOn then s.fieldOff none else s
    { s1.perstClear with
      pw := { s1.pw with hostOn := false }
      xng := { s1.perstClear.xng with
        beatHost := none
        beatField := none
        raises := []
        dormant := false } })

end Sys2Proof.Machine
end

