-- ==== Sys2Proof/Machine/Ucode.lean ====
section
/-! DEFINITION. User microcode: the signed block, its checks, its reload at run time, and key enrolment (R146 to R151). -/

namespace Sys2Proof.Machine

/-! ## The user block (R147) -/

/-- Entry o of the dispatch entries of a block, for opcode 0x30 + o. -/
def blockEntry (l : List (BitVec 8)) (o : Nat) : Nat := leAt l (10 + 4 * o) 4

/-- Microword count, and microword i. -/
def blockCount (l : List (BitVec 8)) : Nat := leAt l 8 2
def blockWord (l : List (BitVec 8)) (i : Nat) : Nat := leAt l (74 + 3 * i) 3

/-- The bytes before the key, the key, and the signature. -/
def blockBody (l : List (BitVec 8)) : List (BitVec 8) := l.take (74 + 3 * blockCount l)
def blockKey (l : List (BitVec 8)) : List (BitVec 8) := (l.drop (74 + 3 * blockCount l)).take 97
def blockSig (l : List (BitVec 8)) : List (BitVec 8) := (l.drop (171 + 3 * blockCount l)).take 96

/-- The enrolled customer key hash (R151). -/
def State.keyHash (s : State) : List (BitVec 8) := (upto 12).flatMap (fun i => leBytes 4 (s.get (Reg.NVS_UKEY_HASH i)))

/-- Whether a customer key is enrolled. -/
def State.enrolled (s : State) : Bool := decide (s.get Reg.NVS_UKEY_CTRL_ENROLLED = 1)

/-- Whether a user block verifies (R148). -/
def State.blockVerifies (s : State) (l : List (BitVec 8)) : Bool :=
  s.enrolled && decide (Config.sha384 (blockKey l) = s.keyHash) &&
  Config.ecdsaVerifies (blockKey l) (Config.sha384 (blockBody l)) (blockSig l)

/-- The target of a BR, JMP or MCALL (R135). -/
def uopTarget (w : Nat) : Option Nat :=
  match fieldOf w 19 5 with
  | 0x04 => some (fieldOf w 0 12)
  | 0x05 => some (fieldOf w 0 12)
  | 0x06 => some (fieldOf w 0 12)
  | _ => none

/-- Whether a user microword is one that R149 forbids by its own bits. -/
def uwordBad (w : Nat) : Bool :=
  let u := fieldOf w 19 5
  match u with
  | 0x00 => decide (fieldOf w 13 2 = 3) || (decide (fieldOf w 13 2 = 2) && decide (71 < fieldOf w 6 7 + fieldOf w 0 6))
  | 0x04 => decide (6 ≤ fieldOf w 16 3)
  | 0x0A => decide (fieldOf w 12 2 = 3)
  | 0x0D => decide (4 < fieldOf w 12 3)
  | 0x0E => true
  | 0x0F => true
  | 0x10 =>
    let r := fieldOf w 7 8
    decide (0x0B ≤ r ∧ r ≤ 0x0F) || decide (0x13 ≤ r)
  | _ => decide (0x14 ≤ u)

/-- The structure check of R149 but for the tile kind; the magic, the build number and the reserved byte with it. -/
def blockSound (l : List (BitVec 8)) : Bool :=
  let n := blockCount l
  decide (leAt l 0 4 = 0x4B585543 ∧ leAt l 4 2 ≠ 0 ∧ leAt l 7 1 = 0 ∧ 1 ≤ n ∧ n ≤ 1024 ∧ 267 + 3 * n ≤ l.length) &&
  (upto 16).all (fun o =>
    let e := blockEntry l o
    decide (fieldOf e 15 1 = 0) || decide (0xC00 ≤ fieldOf e 0 12 ∧ fieldOf e 0 12 < 0xC00 + n)) &&
  (upto n).all (fun i => !uwordBad (blockWord l i) && (match uopTarget (blockWord l i) with
    | some a => decide (0xC00 ≤ a)
    | none => true))

/-- Whether a block serves the kind of tile t. -/
def blockServes (l : List (BitVec 8)) (t : Nat) : Bool := decide (fieldOf (leAt l 6 1) (if t < 8 then 0 else 1) 1 = 1)

/-- s with microword a of tile t's control store replaced. -/
def State.putUword (s : State) (t a : Nat) (w : BitVec 24) : State :=
  { s with ustore := mset (fun _ => 0) s.ustore (4096 * t + a) w }

/-- s with the user region and the user dispatch entries of tile t replaced by those of a block: the rest of the region is
empty. -/
def State.putBlock (s : State) (t : Nat) (l : List (BitVec 8)) : State :=
  let n := blockCount l
  let s1 := forUpto (fun s i => s.putUword t (0xC00 + i) (BitVec.ofNat 24 (if i < n then blockWord l i else 0))) 1024 s
  let s2 := forUpto (fun s o =>
    (s.put (Reg.MC_DISPATCH_VALID t (0x30 + o)) (fieldOf (blockEntry l o) 15 1)).put
      (Reg.MC_DISPATCH_START t (0x30 + o)) (fieldOf (blockEntry l o) 0 12)) 16 s1
  s2.put (Reg.MC_VERSION_USER t) (leAt l 4 2)

/-- The check of a block for tile t: its refusal, if there is one (R147). -/
def State.blockCheck (s : State) (t : Nat) (l : List (BitVec 8)) : Option Sts :=
  if !s.blockVerifies l then some .sig
  else if !blockServes l t || !blockSound l then some .precond
  else none

/-! ## Reload at run time (R147) -/

/-- The refusal of a reload of tile t at its acceptance, if there is one. -/
def State.reloadCheck (s : State) (t h : Nat) : Option Sts :=
  if (s.tile t).start.isSome || s.ctxs.any (fun p => decide (s.get (Reg.CTX_CFG_BIND p.1) = t) &&
      decide (p.2.st = .running ∨ p.2.st = .paused)) then some .state
  else if (s.tile t).reload.isSome then some .busy
  else match s.seg h with
    | none => some .badhandle
    | some g =>
      if g.loading then some .badhandle
      else if (s.store g.sid).kind ≠ .program then some .precond
      else none

/-- MC_ULOAD (R147): a guarded write of GO. -/
def execMcUload (t : Tile) (v : Word) (s : State) : Host.Outcome State Fault Refusal :=
  .next (s.guarded fun s =>
    let h := s.get (Reg.MC_ULOAD_SRC t)
    if v.getLsbD 0 = false then s
    else match s.reloadCheck t h with
      | some e => s.put (Reg.MC_STATUS_STS t) e.code
      | none =>
        match s.seg h with
        | some g => (s.setTile t { s.tile t with reload := some ⟨h, g.sid⟩ }).put (Reg.MC_STATUS_BUSY t) 1
        | none => s)

/-- USER_RELOAD_COMPLETE (R147): the block has been verified in full; refused, it leaves everything as it was. -/
def execUserReloadComplete (t : Tile) (s : State) : Host.Outcome State Fault Refusal :=
  .next (match (s.tile t).reload with
    | none => s
    | some r =>
      let l := s.segBytes r.sid
      let s1 := (s.setTile t { s.tile t with reload := none }).put (Reg.MC_STATUS_BUSY t) 0
      match s.blockCheck t l with
      | some e => s1.put (Reg.MC_STATUS_STS t) e.code
      | none => (s1.putBlock t l).put (Reg.MC_STATUS_STS t) Sts.ok.code)

/-! ## Key enrolment (R151) -/

/-- UKEY_OPEN (R151): refused while the input is below 42 V, ignored once a key is enrolled. -/
def execUkeyOpen (v : Word) (s : State) : Host.Outcome State Fault Refusal :=
  .next (s.guarded fun s =>
    if s.enrolled then s
    else if v.getLsbD 0 = false then s.put Reg.NVS_UKEY_CTRL_OPEN 0
    else if s.get Reg.NVS_SUPPLY_NV_BLOCK = 1 then s.put Reg.NVS_UKEY_CTRL_STS Sts.sag.code
    else (s.put Reg.NVS_UKEY_CTRL_OPEN 1).put Reg.NVS_UKEY_CTRL_STS Sts.ok.code)

/-- UKEY_HASH_WRITE (R151, R327): gated by OPEN; only the first write of a register stores; the twelfth starts the burn. -/
def execUkeyHashWrite (i : Fin 12) (v : Word) (s : State) : Host.Outcome State Fault Refusal :=
  .next (
    if s.get Reg.NVS_UKEY_CTRL_OPEN = 0 then s.put Reg.GLB_ERR_LOCKED_WRITE 1
    else if s.ukey.contains i.val then (s.put Reg.GLB_ERR_WO_REWRITE 1).bump Reg.GLB_WO_CNT
    else
      let s1 := { s with ukey := i.val :: s.ukey }.put (Reg.NVS_UKEY_HASH i) v.toNat
      if s1.ukey.length = 12 then s1.put Reg.NVS_UKEY_CTRL_BURNING 1 else s1)

/-- FUSE_BURN_COMPLETE (R151): enrolment ends. -/
def execFuseBurnComplete (s : State) : Host.Outcome State Fault Refusal :=
  .next (if s.ukey.length = 12 ∧ !s.enrolled then
      ((s.put Reg.NVS_UKEY_CTRL_ENROLLED 1).put Reg.NVS_UKEY_CTRL_BURNING 0).put Reg.NVS_UKEY_CTRL_OPEN 0
    else s)

end Sys2Proof.Machine
end

