-- ==== Sys2Proof/Machine/Image.lean ====
section
/-! DEFINITION. The image: commit records, the manifest, verification, and image writes (R338 to R343, R349, R352). -/

namespace Sys2Proof.Machine

/-! ## Commit records (R339) -/

/-- Bytes of an image bank, and where its commit record lies. -/
def bankBytes : Nat := 0xE00000

/-- The commit record of a bank, sequence number and length, when it is valid. -/
def State.bankRec (s : State) (b : Nat) : Option (Nat × Nat) :=
  let r := s.mramBytes b bankBytes 16
  if leAt r 0 4 = 0x4B584352 ∧ leAt r 12 4 = crc32 (r.take 12) then some (leAt r 4 4, leAt r 8 4) else none

/-- A commit record. -/
def commitRecord (sq len : Nat) : List (BitVec 8) :=
  let r := leBytes 4 0x4B584352 ++ leBytes 4 sq ++ leBytes 4 len
  r ++ leBytes 4 (crc32 r)

/-- The banks that a boot tries, in order: the valid ones, the higher sequence number first. -/
def State.bankOrder (s : State) : List Nat :=
  match s.bankRec 0, s.bankRec 1 with
  | some (a, _), some (b, _) => if a < b then [1, 0] else [0, 1]
  | some _, none => [0]
  | none, some _ => [1]
  | none, none => []

/-! ## The manifest (R340, R341) -/

/-- An entry of the section table. -/
structure Section where
  kind : Nat
  off : Nat
  len : Nat
  digest : List (BitVec 8)
  sound : Bool
  deriving DecidableEq, Repr

/-- n bytes of a bank from a on. -/
def State.imgBytes (s : State) (b a n : Nat) : List (BitVec 8) := s.mramBytes b a n

/-- A little-endian value of n bytes in a bank. -/
def State.imgVal (s : State) (b a n : Nat) : Nat := leNat (s.imgBytes b a n)

/-- Section count of a bank. -/
def State.imgCount (s : State) (b : Nat) : Nat := s.imgVal b 14 1

/-- Entry i of the section table of a bank. -/
def State.imgEntry (s : State) (b i : Nat) : Section :=
  let a := 16 + 64 * i
  { kind := s.imgVal b a 1
    off := s.imgVal b (a + 4) 4
    len := s.imgVal b (a + 8) 4
    digest := s.imgBytes b (a + 16) 48
    sound := decide (s.imgVal b (a + 1) 3 = 0 ∧ s.imgVal b (a + 12) 4 = 0) }

/-- The section table of a bank. -/
def State.sections (s : State) (b : Nat) : List Section := (upto (s.imgCount b)).map (fun i => s.imgEntry b i)

/-- Where the manifest of a bank ends. -/
def State.manifestEnd (s : State) (b : Nat) : Nat := 16 + 64 * s.imgCount b + 97 + 96

/-- The manifest's key, signature and signed bytes. -/
def State.imgKey (s : State) (b : Nat) : List (BitVec 8) := s.imgBytes b (16 + 64 * s.imgCount b) 97
def State.imgSig (s : State) (b : Nat) : List (BitVec 8) := s.imgBytes b (16 + 64 * s.imgCount b + 97) 96
def State.imgSigned (s : State) (b : Nat) : List (BitVec 8) := s.imgBytes b 0 (16 + 64 * s.imgCount b)

/-- Whether two sections share a byte. -/
def Section.meets (x y : Section) : Bool := decide (x.off < y.off + y.len ∧ y.off < x.off + x.len)

/-- Whether no two sections of a list share a byte. -/
def apart : List Section → Bool
  | [] => true
  | x :: l => l.all (fun y => !x.meets y) && apart l

/-- How many sections of a list have a type. -/
def countKind (l : List Section) (k : Nat) : Nat := countIf (fun x => decide (x.kind = k)) l

/-- Whether the manifest of a bank is well formed (R340, R341). -/
def State.manifestOk (s : State) (b : Nat) : Bool :=
  let l := s.sections b
  let len := s.imgVal b 8 4
  decide (s.imgVal b 0 4 = 0x4B58494D ∧ s.imgVal b 4 2 = 1 ∧ len ≤ bankBytes ∧ s.imgVal b 13 1 ≤ 16 ∧
    s.imgVal b 15 1 = 0) &&
  decide (fieldOf (s.imgVal b 12 1) 4 4 ≤ 3 ∧ fieldOf (s.imgVal b 12 1) 2 2 ≠ 3) &&
  decide (1 ≤ s.imgCount b ∧ s.imgCount b ≤ 32) && apart l &&
  l.all (fun x => x.sound && decide (1 ≤ x.kind ∧ x.kind ≤ 12 ∧ x.off % 16 = 0 ∧ s.manifestEnd b ≤ x.off ∧ x.off + x.len ≤ len)) &&
  [1, 2, 3, 5, 9, 12].all (fun k => decide (countKind l k = 1)) && [4, 10].all (fun k => decide (countKind l k ≤ 1))

/-- The bytes of a section. -/
def State.secBytes (s : State) (b : Nat) (x : Section) : List (BitVec 8) := s.imgBytes b x.off x.len

/-- The section of a type, if there is one. -/
def State.secOf (s : State) (b k : Nat) : Option Section := (s.sections b).find? (fun x => decide (x.kind = k))

/-- The bytes of the section of a type. -/
def State.secOfBytes (s : State) (b k : Nat) : List (BitVec 8) :=
  match s.secOf b k with
  | some x => s.secBytes b x
  | none => []

/-- The verification of a bank (R343): its status. -/
def State.verifyBank (s : State) (b : Nat) : Sts :=
  if !s.manifestOk b then .precond
  else if s.enrolled && decide (Config.sha384 (s.imgKey b) ≠ s.keyHash) then .sig
  else if !Config.ecdsaVerifies (s.imgKey b) (Config.sha384 (s.imgSigned b)) (s.imgSig b) then .sig
  else if !(s.sections b).all (fun x => decide (Config.sha384 (s.secBytes b x) = x.digest)) then .sig
  else if ! [1, 2, 3].all (fun k => Config.vendorVerifies (s.secOfBytes b k)) then .sig
  else .ok

/-! ## Writing the image (R352) -/

/-- The bank that is not active. -/
def State.inactive (s : State) : Nat := 1 - s.get Reg.NVS_BOOT_BANK

/-- NV_WRITE_ENABLE (R352). -/
def execNvWriteEnable (v : Word) (s : State) : Host.Outcome State Fault Refusal :=
  .next (s.guarded fun s => s.put Reg.NVS_NV_CTRL_WE (bit (v.getLsbD 0)))

/-- s with an image command reported. -/
def State.imgReport (s : State) (tag : Nat) (e : Sts) : State :=
  (s.put Reg.NVS_IMG_STATUS_TAG tag).put Reg.NVS_IMG_STATUS_STS e.code

/-- An image command: while another runs it is discarded, with OVERRUN set and STS_BUSY reported; otherwise refused, or
f. -/
def State.imgCmd (s : State) (tag : Nat) (inRange : Bool) (f : State → State) : State :=
  if s.get Reg.NVS_IMG_STATUS_BUSY = 1 then (s.imgReport tag .busy).put Reg.NVS_IMG_STATUS_OVERRUN 1
  else if s.get Reg.NVS_NV_CTRL_WE = 0 then s.imgReport tag .locked
  else if !inRange then s.imgReport tag .range
  else if s.get Reg.NVS_SUPPLY_NV_BLOCK = 1 then s.imgReport tag .sag
  else (f s).put Reg.NVS_IMG_STATUS_BUSY 1

/-- s with one more MRAM write in progress. -/
def State.startWrite (s : State) (w : NvWrite) : State := { s with pw := { s.pw with writing := s.pw.writing ++ [w] } }

/-- IMG_WRITE_BLOCK (R352): the inactive bank's commit record is invalid from the first block on. -/
def execImgWriteBlock (tag : BitVec 8) (s : State) : Host.Outcome State Fault Refusal :=
  .next (
    let a := s.get Reg.NVS_IMG_ADDR
    s.imgCmd tag.toNat (decide (a % 4096 = 0 ∧ a + 4096 ≤ bankBytes)) fun s =>
      let b := s.inactive
      let s1 := (s.putMram b bankBytes (List.replicate 16 0)).put Reg.NVS_NV_CTRL_INACT_VALID 0
      let s2 := s1.putMram b a ((upto 1024).flatMap (fun i => leBytes 4 (s.get (Reg.NVS_STAGE i))))
      s2.startWrite (.block tag.toNat))

/-- IMG_COMMIT (R352): accepted; S0 verifies the inactive bank. -/
def execImgCommit (tag : BitVec 8) (s : State) : Host.Outcome State Fault Refusal :=
  .next (
    let n := s.get Reg.NVS_IMG_ADDR
    s.imgCmd tag.toNat (decide (n ≤ bankBytes)) fun s => s.startWrite (.commit tag.toNat n))

/-- s with an image command over. -/
def State.imgDone (s : State) (tag : Nat) (e : Sts) : State := (s.imgReport tag e).put Reg.NVS_IMG_STATUS_BUSY 0

/-- The sequence number of a bank's commit record, 0 when it is invalid. -/
def State.bankSeq (s : State) (b : Nat) : Nat :=
  match s.bankRec b with
  | some (n, _) => n
  | none => 0

/-- s with a COMMIT of an image length over: the commit record is written where the inactive bank verifies. -/
def State.commitDone (s : State) (tag len : Nat) : State :=
  let b := s.inactive
  match s.verifyBank b with
  | .ok =>
    ((s.putMram b bankBytes (commitRecord (s.bankSeq (1 - b) + 1) len)).put Reg.NVS_NV_CTRL_INACT_VALID 1).imgDone tag .ok
  | e => s.imgDone tag e

end Sys2Proof.Machine
end

