-- ==== Sys2Proof/Machine/CalCmds.lean ====
section
/-! DEFINITION. Calibration procedures, the calibration store, and the end of MRAM writes (R349, R359 to R369, R372). -/

namespace Sys2Proof.Machine

/-! ## Targets -/

/-- How many targets a procedure has (R359). -/
def calCount (op : Nat) : Nat :=
  match op with
  | 1 => 8
  | 3 => 8
  | 4 => 8
  | 5 => 8
  | 6 => 4
  | 7 => 4
  | _ => 1

/-- Whether TARGET 0xF is permitted. -/
def calAll (op : Nat) : Bool := decide (op = 1 ∨ op = 3 ∨ op = 4 ∨ op = 5 ∨ op = 7)

/-- Whether a TARGET is in the column of R359. -/
def calTarget (op target : Nat) : Bool := decide (target < calCount op) || (calAll op && decide (target = 15))

/-- The targets that a command is to run on, in order. -/
def calTargets (op target : Nat) : List Nat := if target = 15 ∧ calAll op = true then upto (calCount op) else [target]

/-- The CAL_Q entry of a target (R372). -/
def calEntry (op cur : Nat) : Option Nat :=
  match op with
  | 1 => some cur
  | 2 => some 8
  | 3 => some (9 + cur)
  | 4 => some (17 + cur)
  | 5 => some (25 + cur)
  | _ => none

/-! ## Acceptance (R360) -/

/-- Whether a context runs on tile t or a start is pending there. -/
def State.tileBusy (s : State) (t : Nat) : Bool := (s.tile t).running.isSome || (s.tile t).start.isSome

/-- Whether any buffer entry records. -/
def State.anyRecording (s : State) : Bool := (upto 16).any (fun b => s.recording b)

/-- Whether R360 or R363 refuses a procedure at one target with STS_STATE. -/
def State.calBlocked (s : State) (op cur : Nat) : Bool :=
  match op with
  | 1 => decide (s.loopSt ≠ 0) || s.tileBusy cur
  | 2 => decide (s.loopSt ≠ 0) || (upto 8).any (fun t => s.tileBusy t)
  | 3 => decide (s.loopSt ≠ 0) || s.recording cur || s.armedOf cur
  | 4 => decide (s.loopSt ≠ 0) || s.tileBusy (8 + cur) || s.recording (8 + cur)
  | 5 => decide (s.loopSt ≠ 0) || s.tileBusy (8 + cur) || s.recording (8 + cur)
  | 6 => decide (s.portSt cur ≠ 4)
  | 7 => s.anyRecording || (upto 16).any (fun t => (s.tile t).start.isSome) || s.mc.retrain.isSome
  | _ => false

/-- Whether the module is in Ash, in a profile change or in a stopped boot (R360). -/
def State.calAway (s : State) : Bool := decide (s.get Reg.GLB_STATE_PROFILE = 3) || s.pw.change.isSome || s.stopped

/-- A calibration command: discarded, with OVERRUN set, while another runs (R360, R53); refused, or f. -/
def State.calCmd (s : State) (op tag target : Nat) (f : State → State) : State :=
  if s.get Reg.CAL_CMD_STATUS_BUSY = 1 ∨ s.cal.run.isSome then s.put Reg.CAL_CMD_STATUS_OVERRUN 1
  else if !calTarget op target then s.calReport tag .range
  else if s.calAway || (calTargets op target).any (fun c => s.calBlocked op c) then s.calReport tag .state
  else (f s).put Reg.CAL_CMD_STATUS_BUSY 1

/-- A procedure as it begins: the worst figures so far are the best there are. -/
def CalRun.start (op tag target : Nat) (opt boot : Bool) : CalRun where
  op := op
  tag := tag
  target := target
  cur := if target = 15 then 0 else target
  opt := opt
  paused := []
  a := if op = 3 ∨ op = 7 then 0xFFFF else 0
  b := if op = 7 then 0xFFFF else 0
  failed := false
  boot := boot

/-- s with a procedure begun at its first target (R360, R362). -/
def State.calStart (s : State) (r : CalRun) : State := { s with cal := { s.cal with run := some r } }.calTake r

/-- DAC_LINEARITY (R359). -/
def execDacLinearity (tag target : BitVec 8) (s : State) : Host.Outcome State Fault Refusal :=
  .next (s.calCmd 1 tag.toNat target.toNat fun s => s.calStart (CalRun.start 1 tag.toNat target.toNat false false))

/-- DAC_MARKER_TIMING (R359). -/
def execDacMarkerTiming (tag target : BitVec 8) (s : State) : Host.Outcome State Fault Refusal :=
  .next (s.calCmd 2 tag.toNat target.toNat fun s => s.calStart (CalRun.start 2 tag.toNat target.toNat false false))

/-- ADC_CALIBRATION (R359). -/
def execAdcCalibration (tag target : BitVec 8) (s : State) : Host.Outcome State Fault Refusal :=
  .next (s.calCmd 3 tag.toNat target.toNat fun s => s.calStart (CalRun.start 3 tag.toNat target.toNat false false))

/-- PIN_LEVELS (R359). -/
def execPinLevels (tag target : BitVec 8) (s : State) : Host.Outcome State Fault Refusal :=
  .next (s.calCmd 4 tag.toNat target.toNat fun s => s.calStart (CalRun.start 4 tag.toNat target.toNat false false))

/-- PIN_DESKEW (R359): OPT 0 into a fixture, 1 into open pins. -/
def execPinDeskew (tag target : BitVec 8) (opt : Bool) (s : State) : Host.Outcome State Fault Refusal :=
  .next (s.calCmd 5 tag.toNat target.toNat fun s => s.calStart (CalRun.start 5 tag.toNat target.toNat opt false))

/-- TERXA_SKEW (R359). -/
def execTerxaSkew (tag target : BitVec 8) (s : State) : Host.Outcome State Fault Refusal :=
  .next (s.calCmd 6 tag.toNat target.toNat fun s => s.calStart (CalRun.start 6 tag.toNat target.toNat false false))

/-- s with a PAUSE of MODE 0b01 accepted for the context that runs on each tile of a list (R363). -/
def State.pauseRunning (s : State) : List (Nat × Nat) → State
  | [] => s
  | (t, c) :: l => (s.pauseReq t ⟨c, s.now + Config.L, true⟩).pauseRunning l

/-- The contexts that run, each with its tile. -/
def State.runningCtxs (s : State) : List (Nat × Nat) :=
  (upto 16).flatMap (fun t => match (s.tile t).running with
    | some c => [(t, c)]
    | none => [])

/-- HBM_RETRAIN (R363). -/
def execHbmRetrain (tag target : BitVec 8) (s : State) : Host.Outcome State Fault Refusal :=
  .next (s.calCmd 7 tag.toNat target.toNat fun s =>
    let l := s.runningCtxs
    let r := { CalRun.start 7 tag.toNat target.toNat false false with paused := l }
    ((s.pauseRunning l).startRetrain (calTargets 7 target.toNat) false).calStart r)

/-! ## The calibration store (R367 to R369)

The payload is this model's own layout: for each of the 33 targets of R372 eight bytes of coefficients and its CAL_Q word,
then CLK_DLY0 to CLK_DLY23. -/

/-- Where a slot lies in its device. -/
def slotBase : Nat := 0xE01000

/-- Whether the slot of a device is valid: its magic and CRC check. -/
def State.slotValid (s : State) (d : Nat) : Bool :=
  let n := s.mramVal d (slotBase + 8) 4
  decide (s.mramVal d slotBase 4 = 0x4B58434C ∧ slotBase + 64 + n ≤ 0xF00000) &&
  decide (s.mramVal d (slotBase + 60) 4 = crc32 (s.mramBytes d slotBase 60 ++ s.mramBytes d (slotBase + 64) n))

/-- The sequence number of a slot, 0 when it is invalid. -/
def State.slotSeq (s : State) (d : Nat) : Nat := if s.slotValid d then s.mramVal d (slotBase + 4) 4 else 0

/-- The older slot (R368): an invalid one, A if both are, otherwise that of the lower sequence number. -/
def State.olderSlot (s : State) : Bool :=
  if !s.slotValid 0 then false
  else if !s.slotValid 1 then true
  else decide (s.slotSeq 1 < s.slotSeq 0)

/-- The payload of the coefficients in force. -/
def State.calPayload (s : State) : List (BitVec 8) :=
  (upto 33).flatMap (fun n => leBytes 8 (s.calCoef n).toNat ++ leBytes 2 (s.get (Reg.CAL_Q_A n)) ++
    leBytes 2 (s.get (Reg.CAL_Q_B n))) ++
  (upto 24).flatMap (fun i => leBytes 4 (s.get (Reg.CLK_DLY i)))

/-- A die temperature recorded for a channel. -/
def tempOf (m : SMap (BitVec 8)) (i : Nat) : BitVec 8 := (mfind m i).getD 0

/-- The first 60 bytes of a slot's header. -/
def State.slotHeader (s : State) (sq len : Nat) : List (BitVec 8) :=
  leBytes 4 0x4B58434C ++ leBytes 4 sq ++ leBytes 4 len ++ (upto 8).map (tempOf s.cal.dacRef) ++
  (upto 8).map (tempOf s.cal.adcRef) ++ List.replicate 32 0

/-- s with CAL_STORE and CAL_SEQ as the slots stand. -/
def State.putStore (s : State) : State :=
  (((s.put Reg.CAL_STORE_VALID_A (bit (s.slotValid 0))).put Reg.CAL_STORE_VALID_B (bit (s.slotValid 1))).put Reg.CAL_SEQ_A
    (s.slotSeq 0)).put Reg.CAL_SEQ_B (s.slotSeq 1)

/-- CAL_COMMIT (R360, R368): guarded; the payload is written, and the header with the command's completion. -/
def execCalCommit (tag target : BitVec 8) (s : State) : Host.Outcome State Fault Refusal :=
  .next (s.guarded fun s =>
    if s.get Reg.CAL_CMD_STATUS_BUSY = 0 ∧ target = 0 ∧ !s.calAway ∧ s.get Reg.NVS_SUPPLY_NV_BLOCK = 1 then
      s.calReport tag.toNat .sag
    else s.calCmd 8 tag.toNat target.toNat fun s =>
      let b := s.olderSlot
      ((s.putMram (bit b) (slotBase + 64) s.calPayload).startWrite (.cal tag.toNat b)).putStore)

/-- s with a calibration commit over: the header is written, one above the other slot's number, and the command reports. -/
def State.calCommitted (s : State) (tag : Nat) (b : Bool) : State :=
  let d := bit b
  let payload := s.mramBytes d (slotBase + 64) 492
  let h := s.slotHeader (s.slotSeq (1 - d) + 1) 492
  ((s.putMram d slotBase (h ++ leBytes 4 (crc32 (h ++ payload)))).putStore).calReport tag .ok

/-- s with the coefficients that slot d holds for target n of R372 in force. -/
def State.loadTarget (s : State) (d n : Nat) : State :=
  let a := slotBase + 64 + 12 * n
  let s1 := { s with cal := { s.cal with coef := mset (fun _ => 0) s.cal.coef n (BitVec.ofNat 64 (s.mramVal d a 8)) } }
  (s1.put (Reg.CAL_Q_A n) (s.mramVal d (a + 8) 2)).put (Reg.CAL_Q_B n) (s.mramVal d (a + 10) 2)

/-- s with the recorded die temperatures of slot d. -/
def State.loadTemps (s : State) (d i : Nat) : State :=
  { s with cal := { s.cal with
    dacRef := mins s.cal.dacRef i (s.mramAt d (slotBase + 12 + i))
    adcRef := mins s.cal.adcRef i (s.mramAt d (slotBase + 20 + i)) } }

/-- s with the calibration store loaded (R369): the valid slot with the higher sequence number, if there is one. -/
def State.loadStore (s : State) : State :=
  let s1 := s.putStore
  let load := fun (s : State) (d : Nat) =>
    let s1 := forUpto (fun s n => s.loadTarget d n) 33 s
    let s2 := forUpto (fun s i => s.put (Reg.CLK_DLY i) (s.mramVal d (slotBase + 64 + 396 + 4 * i) 4)) 24 s1
    (forUpto (fun s i => s.loadTemps d i) 8 s2).put Reg.CAL_STORE_LOADED (1 + d)
  if s1.slotValid 0 && (!s1.slotValid 1 || decide (s1.slotSeq 1 < s1.slotSeq 0)) then load s1 0
  else if s1.slotValid 1 then load s1 1
  else s1

/-! ## Completion (R361) -/

/-- s with a free value in CLK_DLY i. -/
def State.freeDly (s : State) (i : Nat) : State := s.drawFree.2.put (Reg.CLK_DLY i) s.drawFree.1.toNat

/-- s with the coefficients that a procedure finds for target n in force: a free value. -/
def State.freeCoef (s : State) (n : Nat) : State :=
  let d := s.drawFree
  { d.2 with cal := { d.2.cal with coef := mset (fun _ => 0) d.2.cal.coef n (BitVec.ofNat 64 d.1.toNat) } }

/-- s with what a procedure sets at its current target applied (R359, R366). -/
def State.calApply (s : State) (r : CalRun) (a : Nat) (lat : BitVec 32) : State :=
  let w := r.cur
  match r.op with
  | 1 =>
    let s1 := { s.freeCoef w with cal := { (s.freeCoef w).cal with
      dacRef := mins s.cal.dacRef w (tempOf s.cal.dacTemp w) } }
    s1.put Reg.CAL_DUE (withField (s1.get Reg.CAL_DUE) w 1 0)
  | 2 => forUpto (fun s i => s.freeDly i) 8 (s.freeCoef 8)
  | 3 =>
    let s1 := (s.freeCoef (9 + w)).freeDly (8 + w)
    let d := s1.drawFree
    { d.2 with cal := { d.2.cal with adcRef := mins d.2.cal.adcRef w (BitVec.ofNat 8 d.1.toNat) } }
  | 4 => s.freeCoef (17 + w)
  | 5 => (s.freeCoef (25 + w)).freeDly (16 + w)
  | 6 =>
    { s.put (Reg.TXL_PRES w) a with cal := { s.cal with plat := mins s.cal.plat w (lat.toNat, s.now + 1024) } }
  | _ => s

/-- The worst of two figures A, or B, of a procedure: of the SNR the least (R359, R372). -/
def worseA (op a b : Nat) : Nat := if op = 3 then Nat.min a b else Nat.max a b

/-- Figure B as the table of R359 gives it: 0 for the procedures that measure one figure. -/
def figureB (op b : Nat) : Nat := if op = 1 ∨ op = 3 then b else 0

/-- s with the failure of a procedure's precondition in the boot noted (R365). -/
def State.bootCalFail (s : State) (r : CalRun) : State :=
  match r.op with
  | 1 => s.put Reg.CAL_BOOT_DAC_LIN (withField (s.get Reg.CAL_BOOT_DAC_LIN) r.cur 1 1)
  | 2 => s.put Reg.CAL_BOOT_DAC_TIME 1
  | 3 => s.put Reg.CAL_BOOT_ADC (withField (s.get Reg.CAL_BOOT_ADC) r.cur 1 1)
  | _ => s.put Reg.CAL_BOOT_PIN_LVL (withField (s.get Reg.CAL_BOOT_PIN_LVL) r.cur 1 1)

/-- What the boot runs after a target (R365). -/
def CalRun.bootNext (r : CalRun) : Option CalRun :=
  match r.op with
  | 1 => if r.cur < 7 then some { r with cur := r.cur + 1 } else some (CalRun.start 2 0 0 false true)
  | 2 => some (CalRun.start 3 0 0 false true)
  | 3 => if r.cur < 7 then some { r with cur := r.cur + 1 } else some (CalRun.start 4 0 0 false true)
  | _ => if r.cur < 5 then some { r with cur := r.cur + 1 } else none

/-- The next target of a command of TARGET 0xF. -/
def CalRun.cmdNext (r : CalRun) : Option CalRun :=
  if r.target = 15 ∧ r.cur + 1 < calCount r.op then some { r with cur := r.cur + 1 } else none

/-- s with a procedure moved on from one target to the next, or over with STS_OK. -/
def State.calAdvance (s : State) (r : CalRun) (next : Option CalRun) : State :=
  match next with
  | some q => (s.calDrop r).calStart q
  | none => s.calOver r .ok

/-- s with the precondition of a procedure failed at its current target: nothing is applied (R361, R365). -/
def State.calFail (s : State) (r : CalRun) : State :=
  if r.boot then (s.bootCalFail r).calAdvance r r.bootNext
  else ((s.put Reg.CAL_QUAL_A 0xFFFF).put Reg.CAL_QUAL_B 0xFFFF).calOver r .precond

/-- s with a procedure complete at its current target with figures a and b: CAL_QUAL holds the worst over its targets. -/
def State.calPass (s : State) (r : CalRun) (a b : Nat) (lat : BitVec 32) : State :=
  let s1 := s.calApply r a lat
  let s2 := match calEntry r.op r.cur with
    | some n => (s1.put (Reg.CAL_Q_A n) a).put (Reg.CAL_Q_B n) b
    | none => s1
  let q := { r with
    a := worseA r.op r.a a
    b := Nat.max r.b b }
  let s3 := { s2 with cal := { s2.cal with run := some q } }
  if r.boot then s3.calAdvance q q.bootNext
  else
    let s4 := (s3.put Reg.CAL_QUAL_A q.a).put Reg.CAL_QUAL_B q.b
    s4.calAdvance q q.cmdNext

/-- Whether the module itself fails a precondition: the pin levels of G6 and G7 with the high-voltage rails down (R361). -/
def State.calHvDown (s : State) (r : CalRun) : Bool := decide (r.op = 4 ∧ 6 ≤ r.cur ∧ s.get Reg.GLB_HV_CTRL_UP = 0)

/-- CAL_PROCEDURE_COMPLETE (R361): ok says that the precondition measured at the current target holds, a and b are the
figures, lat the delay that a Terxa skew calibration measures. -/
def execCalProcedureComplete (ok : Bool) (a b : BitVec 16) (lat : BitVec 32) (s : State) : Host.Outcome State Fault Refusal :=
  .next (match s.cal.run with
    | none => s
    | some r =>
      if r.op = 7 then s
      else if !ok || s.calHvDown r then s.calFail r
      else s.calPass r a.toNat (figureB r.op b.toNat) lat)

/-- s with channel w's DAC die temperature judged (R366): with none recorded there is nothing to differ from. -/
def State.judgeDac (s : State) (w : Nat) : State :=
  match mfind s.cal.dacRef w with
  | some t =>
    let lim := if s.ivory then 2 else 5
    if lim < ((tempOf s.cal.dacTemp w).toInt - t.toInt).natAbs then
      s.put Reg.CAL_DUE (withField (s.get Reg.CAL_DUE) w 1 1) else s
  | none => s

/-- s with the other temperatures read that are read with the DAC dies' (R391): the cold plate's, the engine die's and the hottest
ADC die's, free values. -/
def State.readTemps (s : State) : State :=
  let d := s.drawFree
  let v := d.1.toNat
  ((d.2.put Reg.NVS_TEMP_COLD (fieldOf v 0 8)).put Reg.NVS_TEMP_ENGINE (fieldOf v 8 8)).put Reg.NVS_TEMP_ADC_MAX (fieldOf v 16 8)

/-- DAC_TEMP_READ (R366, R391). -/
def execDacTempRead (temps : List (BitVec 8)) (s : State) : Host.Outcome State Fault Refusal :=
  let m := (upto 8).foldl (fun m w => mins m w (temps.getD w 0)) s.cal.dacTemp
  let hot := temps.foldl (fun a t => Nat.max a t.toInt.toNat) 0
  .next (forUpto State.judgeDac 8 (({ s with cal := { s.cal with dacTemp := m } }.put Reg.NVS_TEMP_DAC_MAX hot).readTemps))

/-- s after this core cycle on the ports that step to a new delay: one fine step each 1,024 cc (R284). -/
def State.platTick (s : State) : State :=
  forEach (fun s p =>
    let v := s.get (Reg.TXL_PLAT p.1)
    if s.now < p.2.2 then s
    else if v = p.2.1 then { s with cal := { s.cal with plat := mdel s.cal.plat p.1 } }
    else { s.put (Reg.TXL_PLAT p.1) (if v < p.2.1 then v + 1 else v - 1) with cal := { s.cal with
      plat := mins s.cal.plat p.1 (p.2.1, p.2.2 + 1024) } }) s.cal.plat s

/-! ## The end of MRAM writes (R349) -/

/-- s with an MRAM write ended, and what it was for; then a reset or power-off that waits for it proceeds. -/
def State.endWrite (s : State) (w : NvWrite) : State :=
  let s0 := { s with pw := { s.pw with writing := s.pw.writing.erase w } }
  let s1 := match w with
    | .block tag => s0.imgDone tag .ok
    | .commit tag len => s0.commitDone tag len
    | .cal tag b => s0.calCommitted tag b
  match s1.pw.wanted with
  | some q => if s1.pw.writing.isEmpty && s1.pw.fieldOn then { s1 with pw := { s1.pw with wanted := none } }.actOn q else s1
  | none => s1

/-- Whether an MRAM write is of the image. -/
def NvWrite.image : NvWrite → Bool
  | .cal _ _ => false
  | _ => true

/-- MRAM_WRITE_COMPLETE (R349): the write that began first ends. -/
def execMramWriteComplete (s : State) : Host.Outcome State Fault Refusal :=
  .next (match s.pw.writing with
    | w :: _ => s.endWrite w
    | [] => s)

/-- IMG_COMMAND_COMPLETE (R352). -/
def execImgCommandComplete (s : State) : Host.Outcome State Fault Refusal :=
  .next (match s.pw.writing.find? (fun w => w.image) with
    | some w => s.endWrite w
    | none => s)

/-- CAL_COMMIT_COMPLETE (R368). -/
def execCalCommitComplete (s : State) : Host.Outcome State Fault Refusal :=
  .next (match s.pw.writing.find? (fun w => !w.image) with
    | some w => s.endWrite w
    | none => s)

end Sys2Proof.Machine
end

