-- ==== Sys2Proof/Machine/GlbCmds.lean ====
section
/-! DEFINITION. The GLB block's commands: the key, the flags, the mailbox, and the high-voltage rails (R14, R324, R325, R329,
R330, R380, R381). -/

namespace Sys2Proof.Machine

/-- GLB_KEY_WRITE (R325): 0x0000_6B1E unlocks, any other value re-locks. -/
def execGlbKeyWrite (v : Word) (s : State) : Host.Outcome State Fault Refusal :=
  .next (s.put Reg.GLB_STATE_UNLOCKED (bit (decide (v.toNat = Config.key))))

/-- Bit i of 15:0 of an RWM register holding old, after a write of v (R324). -/
def maskedBit (old v : Word) (i : Nat) : Bool := if v.getLsbD (16 + i) then v.getLsbD i else old.getLsbD i

/-- Bits n − 1 : 0 of an RWM register after a write (R324). -/
def maskedBits (old v : Word) : Nat → Nat
  | 0 => 0
  | n + 1 => maskedBits old v n + bit (maskedBit old v n) * 2 ^ n

/-- GLB_FLAGS_WRITE (R324). -/
def execGlbFlagsWrite (v : Word) (s : State) : Host.Outcome State Fault Refusal :=
  .next (s.put Reg.GLB_FLAGS_FLAGS (maskedBits (s.regWord Reg.GLB_FLAGS_FLAGS.addr) v 16))

/-! ## The mailbox -/

/-- Bits of a timestamp: 31:0, 63:32, 73:64. -/
def tsWord (t : Ts) (i : Nat) : Nat := fieldOf t.toNat (32 * i) (if i = 2 then 10 else 32)

/-- The bits of a Bool list from bit 0 on. -/
def bitsOf : List Bool → Nat
  | [] => 0
  | b :: l => bit b + 2 * bitsOf l

/-- DATA2 and DATA3 of an event log entry (R99, R393). -/
def LogEnt.words (e : LogEnt) : List Nat :=
  [tsWord e.ts 0, tsWord e.ts 1,
   tsWord e.ts 2 + e.num % 1024 * 2 ^ 10 + e.tile % 16 * 2 ^ 20 + e.kind % 8 * 2 ^ 24 + bit e.slw * 2 ^ 27,
   e.ctx % 1024 * 2 ^ 22 + e.reason % 256]

/-- A fail log entry (R192). -/
def FailEnt.words (e : FailEnt) : List Nat :=
  [tsWord e.ts 0, tsWord e.ts 1, tsWord e.ts 2 + e.pins.toNat * 2 ^ 10 + e.tsel % 16 * 2 ^ 18 + e.bank % 2 * 2 ^ 22, e.vcyc.toNat]

/-- A memory error log entry (R259): where it stood gives DATA3. -/
def MemEnt.words (e : MemEnt) : List Nat :=
  [tsWord e.ts 0, tsWord e.ts 1, tsWord e.ts 2 + e.rank % 256 * 2 ^ 10 + e.kind % 8 * 2 ^ 18 + e.bytes % 8 * 2 ^ 21,
   fieldOf e.loc.toNat 0 5 + fieldOf e.loc.toNat 8 24 * 2 ^ 8]

/-- The words of an entry, 0 where nothing has been written. -/
def entryWords {α : Type} (f : α → List Nat) (o : Option α) : List Nat :=
  match o with
  | some a => f a
  | none => [0, 0, 0, 0]

/-- The four words that a selector names (R330); none for an unassigned one. -/
def State.mailbox (s : State) (sel : Nat) : Option (List Nat) :=
  if sel = 0 then some [tsWord (s.tsAt s.now) 0, tsWord (s.tsAt s.now) 1, tsWord (s.tsAt s.now) 2, 0]
  else if 0x1000 ≤ sel ∧ sel < 0x1400 then
    let r := s.lastReg (sel - 0x1000)
    some [tsWord r.ts 0, tsWord r.ts 1, tsWord r.ts 2, r.count]
  else if 0x1400 ≤ sel ∧ sel < 0x1600 then some (entryWords LogEnt.words (mfind s.evt.log (sel - 0x1400)))
  else if 0x2000 ≤ sel ∧ sel < 0x4000 then
    some (entryWords FailEnt.words (mfind (s.group ((sel - 0x2000) / 0x400)).flog ((sel - 0x2000) % 0x400)))
  else if 0x4000 ≤ sel ∧ sel < 0x4100 then some (entryWords MemEnt.words (mfind s.mc.log (sel - 0x4000)))
  else if sel = 0x4100 ∨ sel = 0x4101 then
    some ((upto 4).map (fun j => bitsOf ((upto 32).map (fun i =>
      let r := 128 * (sel - 0x4100) + 32 * j + i
      decide (r < 192) && s.inService r))))
  else if 0x5000 ≤ sel ∧ sel < 0x5004 then
    some ((upto 4).map (fun j => bitsOf ((upto 32).map (fun i => s.txl.map.contains (128 * (sel - 0x5000) + 32 * j + i)))))
  else none

/-- MAILBOX_REQUEST (R329): REQ stored stands for a request that has not been sampled. -/
def execMailboxRequest (v : Word) (s : State) : Host.Outcome State Fault Refusal :=
  .next (if v.getLsbD 0 then
      ({ s with xng := { s.xng with mbx := [] } }.put Reg.GLB_MBX_VALID 0).put Reg.GLB_MBX_CTRL_REQ 1
    else s)

/-- s with the four mailbox words written. -/
def State.putMailbox (s : State) (l : List Nat) : State :=
  forUpto (fun s i => s.put (Reg.GLB_MBX_DATA i) (l.getD i 0)) 4 s

/-- MAILBOX_SAMPLE (R329). -/
def execMailboxSample (s : State) : Host.Outcome State Fault Refusal :=
  .next (
    if s.get Reg.GLB_MBX_CTRL_REQ = 0 then s
    else
      let r := s.mailbox (s.get Reg.GLB_MBX_SEL)
      let s1 := (s.put Reg.GLB_MBX_CTRL_REQ 0).putMailbox (r.getD [0, 0, 0, 0])
      (s1.put Reg.GLB_MBX_VALID 1).put Reg.GLB_MBX_CTRL_STS (if r.isSome then Sts.ok.code else Sts.range.code))

/-! ## The high-voltage rails -/

/-- Whether a rail fault has latched in this cycle (R392). -/
def State.hvFaulted (s : State) : Bool :=
  decide (s.get Reg.NVS_HV_STATUS_LATCHED = 1 ∧ s.shadowOf Reg.NVS_HV_STATUS_LATCHED = 0)

/-- s with a GLB_HV_CTRL write of v (R380, R381); EN 0 in the cycle in which a fault latches leaves LATCHED (R392). -/
def State.hvWrite (s : State) (v : Word) : State :=
  s.guarded fun s =>
    let s1 := s.noted Reg.GLB_HV_CTRL_EN.addr
    if v.getLsbD 0 then s1.put Reg.GLB_HV_CTRL_EN 1
    else
      let s2 := (s1.put Reg.GLB_HV_CTRL_EN 0).put Reg.GLB_HV_CTRL_UP 0
      if s.hvFaulted then s2
      else (s2.noted Reg.NVS_HV_STATUS_LATCHED.addr).put Reg.NVS_HV_STATUS_LATCHED 0

/-- HV_ENABLE (R380): EN 1 where it holds 1 restarts nothing. -/
def execHvEnable (v : Word) (s : State) : Host.Outcome State Fault Refusal := .next (s.hvWrite v)

/-- HV_DISABLE (R381). -/
def execHvDisable (v : Word) (s : State) : Host.Outcome State Fault Refusal := .next (s.hvWrite v)

/-- Whether the rails run or start: EN at 1 and nothing latched (R380, R381). -/
def State.hvOn (s : State) : Bool := decide (s.get Reg.GLB_HV_CTRL_EN = 1 ∧ s.get Reg.NVS_HV_STATUS_LATCHED = 0)

/-- s with the pins of wide group g off until the first vector cycle that starts from now on (R199). -/
def State.holdWide (s : State) (g : Nat) : State :=
  s.setGroup g { s.group g with hz := true, drive := GrpSt.init.drive }

/-- HV_RAILS_UP (R380): the pins of G6 and G7 wait for a vector cycle to start (R199). -/
def execHvRailsUp (s : State) : Host.Outcome State Fault Refusal :=
  .next (if s.hvOn ∧ s.get Reg.GLB_HV_CTRL_UP = 0 then ((s.holdWide 6).holdWide 7).put Reg.GLB_HV_CTRL_UP 1 else s)

/-- s with the fault bits of the rails that drew too much set. -/
def State.hvFault (s : State) (pos neg : Bool) : State :=
  let s1 := if pos then s.put Reg.NVS_HV_STATUS_FAULT_POS 1 else s
  if neg then s1.put Reg.NVS_HV_STATUS_FAULT_NEG 1 else s1

/-- Whether the rails ran or started as this cycle began, whatever has been written in it (R392). -/
def State.hvWasOn (s : State) : Bool :=
  decide (s.shadowOf Reg.GLB_HV_CTRL_EN = 1 ∧ s.shadowOf Reg.NVS_HV_STATUS_LATCHED = 0)

/-- HV_RAIL_FAULT (R381): it wins over a write of EN 0 of the same cycle (R392). -/
def execHvRailFault (pos neg : Bool) (s : State) : Host.Outcome State Fault Refusal :=
  .next (if (s.hvOn || s.hvWasOn) && (pos || neg) then
      (((s.noted Reg.NVS_HV_STATUS_LATCHED.addr).hvFault pos neg).put Reg.NVS_HV_STATUS_LATCHED 1).put
        Reg.GLB_HV_CTRL_UP 0
    else s)

end Sys2Proof.Machine
end

