-- ==== Sys2Proof/Machine/Micro.lean ====
section
/-! DEFINITION. The micro-machine: user opcodes (R131 to R142). Vendor opcodes have their own meanings. -/

namespace Sys2Proof.Machine

/-- Microword a of tile t (R144). -/
def State.microword (s : State) (t a : Nat) : Nat := (mget (fun _ => 0) s.ustore (4096 * t + a % 4096)).toNat

/-- The micro-machine of tile t replaced. -/
def State.setMicro (s : State) (t : Nat) (m : Micro) : State := s.setTile t { s.tile t with micro := m }

/-- Micro-register i. -/
def Micro.reg (m : Micro) (i : Nat) : Word72 := mget (fun _ => 0) m.m i

/-- m with micro-register i replaced. -/
def Micro.set (m : Micro) (i : Nat) (v : Word72) : Micro := { m with m := mset (fun _ => 0) m.m i v }

/-- An instruction address as a number, in the layout of R33. -/
def Addr.toNum (a : Addr) : Nat := a.h * 2 ^ 34 + a.off

/-- The instruction address that a number spells (R33). -/
def State.addrOf (s : State) (v : Nat) : Addr :=
  ⟨fieldOf v 34 24, (match s.seg (fieldOf v 34 24) with
    | some g => g.sid
    | none => 0), fieldOf v 0 34⟩

/-! ## Changes of visible state (R138) -/

/-- Resources that no routine may name (R138). -/
def resReserved (r : Nat) : Bool := decide ((0x0B ≤ r ∧ r ≤ 0x0F) ∨ (0x13 ≤ r ∧ r ≤ 0x7F))

/-- Whether a resource is of the other tile kind (R138). -/
def resWrongKind (t r : Nat) : Bool :=
  if t < 8 then decide (r = 0x06 ∨ r = 0x10 ∨ r = 0x11 ∨ r = 0x12) else decide (r ≤ 0x05)

/-- s with a microcode stage commit on tile t: refused, it faults the context with cause OPERAND (R187). -/
def State.stageCommit (s : State) (t c : Nat) : State :=
  let g := t - 8
  let x := s.group g
  if s.stageLegal g x.mstage x.mbad then
    (s.setGroup g { x with mbad := false }).commitSet g (x.mAddr % 32) x.mstage
  else s.faultCtx t c .operand .range

/-- s with resource r of tile t written with v at cycle e (R138). -/
def State.setRes (s : State) (t c e r v : Nat) : State :=
  match r with
  | 0x00 => s.setFtw t e (v % 2 ^ 48)
  | 0x01 => s.setPhase t e (v % 2 ^ 48)
  | 0x02 => s.setPhase t e (s.phaseLast t e + s.ftw t + v % 2 ^ 48)
  | 0x03 => s.put (Reg.WAV_GAIN_ACT t) (v % 2 ^ 28)
  | 0x04 => s.put (Reg.WAV_OFFSET_ACT t) (v % 2 ^ 28)
  | 0x05 =>
    if v % 4 = 3 ∨ v / 4 % 4 = 3 then s.faultCtx t c .operand .range
    else s.setTile t { s.tile t with mark0 := v % 4, mark1 := v / 4 % 4 }
  | 0x06 => s.setCtx c { s.ctx c with tsBank := v % 2 }
  | 0x07 => s.occur (0x0B5 + v % 64) e (s.tsAt e)
  | 0x08 => s.setCnt c 0 (v % 2 ^ 32)
  | 0x09 => s.setCnt c 1 (v % 2 ^ 32)
  | 0x0A =>
    (s.put (Reg.SEQ_MARK_TAG t) (v % 2 ^ 32)).put64 (Reg.SEQ_MARK_TS_LO t) (Reg.SEQ_MARK_TS_HI t) (s.sysTime e)
  | 0x10 => s.setGroup (t - 8) { s.group (t - 8) with mAddr := v % 2 ^ 13 }
  | 0x11 =>
    let x := s.group (t - 8)
    if x.mAddr / 32 ≤ 24 then
      s.setGroup (t - 8) { x with mstage := mset (fun _ => 0) x.mstage (x.mAddr / 32) (BitVec.ofNat 72 v) }
    else s.setGroup (t - 8) { x with mbad := true }
  | 0x12 => s.stageCommit t c
  | _ => s

/-- s with a change of visible state of context c on tile t applied at cycle e. -/
def State.applyDelayed (s : State) (t c e : Nat) : Delayed → State
  | .setr r v => s.setRes t c e r v
  | .stks l k => s.setCtx c { s.ctx c with loops := l, calls := k }
  | .arm ops l => s.armWrite t c (fieldOf ops 59 3) (BitVec.ofNat 66 ops) l
  | .clear k all => s.disarm t c k all

/-- s with the changes of tile t's routine that have fallen due applied in order (R139). -/
def State.microDue (s : State) (t : Nat) : State :=
  match (s.tile t).running with
  | none => s
  | some c =>
    let m := (s.tile t).micro
    let due := m.due.filter (fun p => decide (p.1 ≤ s.now))
    if due = [] then s
    else
      forEach (fun s p => if (s.tile t).running = some c then s.applyDelayed t c p.1 p.2 else s) due
        (s.setMicro t { m with due := m.due.filter (fun p => decide (s.now < p.1)) })

/-- The position of the first stage write among a user routine's parts (R187). -/
def State.stagePos (s : State) (t bank : Nat) : List Part → Nat → Option Nat
  | [], _ => none
  | .setr _ _ :: _, pos => some pos
  | .words sid w n :: ps, pos => s.stagePos t bank ps (s.playEnd t bank sid (w + n) w 0 pos)
  | .hold cc :: ps, pos => s.stagePos t bank ps (pos + cc * Config.fine)

/-- The position at which a stage write among the parts in play on tile t acts, once its cycle has come. -/
def State.stageDue (s : State) (t : Nat) : Option Nat :=
  match (s.tile t).item with
  | .user parts pos =>
    (match s.stagePos t (s.bankOf t) parts pos with
     | some p => if (s.tile t).gapAt.isNone ∧ posCycle p ≤ s.now then some p else none
     | none => none)
  | _ => none

/-- s with the stage write that is due among the parts of tile t made: the words before it have begun, those after it have not
(R187). -/
def State.stageStep (s : State) (t c : Nat) : State :=
  match s.stageDue t with
  | none => s
  | some p =>
    let s1 := s.catchUp t p
    match (s1.tile t).item with
    | .user (.setr r v :: ps) pos =>
      (s1.setTile t { s1.tile t with item := .user ps pos }).setRes t c (posCycle pos) r v
    | _ => s1

/-- Whether the routine of tile t has a change due now. -/
def State.changeDue (s : State) (t : Nat) : Bool :=
  (s.tile t).running.isSome && ((s.tile t).micro.due.any (fun p => decide (p.1 ≤ s.now)) || (s.stageDue t).isSome)

/-- s with what has fallen due of the routine of tile t made: changes at their checkpoints, and one stage write (R139, R187). -/
def State.routineChanges (s : State) (t : Nat) : State :=
  let s1 := s.microDue t
  match (s1.tile t).running with
  | none => s1
  | some c => s1.stageStep t c

/-- Whether a resource is one of the stage's (R138). -/
def resStage (r : Nat) : Bool := decide (r = 0x10 ∨ r = 0x11 ∨ r = 0x12)

/-- s with a change made by the routine of tile t at its current checkpoint: at once where the checkpoint's cycle has
come, else when it comes; a stage write after words that have been handed to the player acts after them (R187). -/
def State.microChange (s : State) (t c : Nat) (d : Delayed) : State :=
  let m := (s.tile t).micro
  match d, (s.tile t).item with
  | .setr r v, .user (p :: ps) pos =>
    if resStage r then s.setTile t { s.tile t with item := .user (p :: ps ++ [.setr r v]) pos }
    else if m.eff + m.ck ≤ s.now then s.applyDelayed t c s.now d
    else s.setMicro t { m with due := m.due ++ [(m.eff + m.ck, d)] }
  | _, _ =>
    if m.eff + m.ck ≤ s.now then s.applyDelayed t c s.now d
    else s.setMicro t { m with due := m.due ++ [(m.eff + m.ck, d)] }

/-- s with a fault of R137 awaiting its row on tile t. -/
def State.microRunaway (s : State) (t : Nat) : State := s.setTile t { s.tile t with item := .runaway }

/-! ## EMIT, FETCH -/

/-- n words taken from a queue of ranges: the parts, and what is left; words the queue does not hold are words of storage
0, of which nothing is known. -/
def takeWords : Nat → List (Nat × Nat × Nat) → List Part × List (Nat × Nat × Nat)
  | n, [] => (if n = 0 then [] else [.words 0 0 n], [])
  | n, (sid, w, k) :: q =>
    if n = 0 then ([], (sid, w, k) :: q)
    else if n < k then ([.words sid w n], (sid, w + n, k - n) :: q)
    else
      let r := takeWords (n - k) q
      (.words sid w k :: r.1, r.2)

/-- n words of the repeat cache, over and over. -/
def cacheParts (sid len : Nat) : Nat → Nat → List Part
  | 0, _ => []
  | f + 1, n => if n ≤ len then [.words sid 0 n] else .words sid 0 len :: cacheParts sid len f (n - len)

/-- The words of the landing slot that the last ARMR of tile t's routine has taken (R135). -/
def State.slotQueue (s : State) (t : Nat) : List (Nat × Nat × Nat) :=
  match (s.tile t).micro.lastArm with
  | some (_, .slot i) =>
    (match mfind (s.tile t).slots i with
     | some x => x.run.words
     | none => [])
  | _ => []

/-- The words among a user routine's parts. -/
def partWords : List Part → Nat
  | [] => 0
  | .words _ _ n :: ps => n + partWords ps
  | _ :: ps => partWords ps

/-- The instructions for which the routine in progress on a tile counts (R145). -/
def Micro.counts (m : Micro) : Nat := Nat.max 1 (ceilDiv m.words 8)

/-- s with parts handed to the player of tile t: the first are a timed item's beginning (R65, R145); resident says that they
are at the tile already. -/
def State.emitParts (s : State) (t : Nat) (ps : List Part) (resident : Bool) : State :=
  let x := s.tile t
  match x.item with
  | .user qs pos => s.setTile t { x with spin := 0, item := .user (qs ++ ps) pos }
  | _ =>
    let ok := resident || decide (partWords ps = 0 ∨ 64 ≤ partWords ps)
    s.setTile t ((if partWords ps = 0 then x else x.firstWord ok x.micro.counts).timed (.user ps x.nextPos) ok)

/-- EMIT of n words or cycles from a source (R135). -/
def State.emit (s : State) (t src n : Nat) : State :=
  let m := (s.tile t).micro
  match src with
  | 0 =>
    let r := takeWords n m.queue
    (s.setMicro t { m with queue := r.2 }).emitParts t r.1 false
  | 1 => s.emitParts t (takeWords n (s.slotQueue t)).1 true
  | 2 =>
    (match (s.tile t).rcache with
     | some (sid, len) => s.emitParts t (cacheParts sid len n n) true
     | none => s.emitParts t (takeWords n []).1 true)
  | _ => s.emitParts t [.hold n] true

/-- The check of a FETCH of n words from an address (R135, R40, R43, R67): the storage and the offset, or the refusal. A word
count beyond the segment is refused as an offset beyond it is (R40). -/
def State.fetchRef (s : State) (t v n : Nat) (instrs : Bool) : Except Sts (Nat × Nat) :=
  let h := fieldOf v 34 24
  let off := fieldOf v 0 34
  let r := if instrs then (s.refTarget t h off).map (fun a => (a.sid, s.store a.sid)) else s.refPlay t h off
  match r with
  | .error e => .error e
  | .ok (sid, st) => if st.len < off + n then .error .range else .ok (sid, off)

/-- s with n words of storage sid from off on requested: into the player queue, or, as instructions, into the instruction
cache of tile t a line at a time (R66, R135). -/
def State.fetchWords (s : State) (t sid off n : Nat) (instrs : Bool) : State :=
  if instrs then
    forUpto (fun s i => s.cacheLine t sid (off + 7 * i))
      (if n = 0 then 0 else Nat.min cacheLines ((off + n - 1) / 7 - off / 7 + 1)) s
  else
    let m := (s.tile t).micro
    s.setMicro t { m with queue := m.queue ++ [(sid, off, n)] }

/-! ## Microwords -/

/-- The second operand of ADD, SUB and CMP: a register or an immediate (R135). -/
def Micro.operand (m : Micro) (w : Nat) : Word72 :=
  if fieldOf w 10 1 = 1 then BitVec.ofNat 72 (fieldOf w 0 10) else m.reg (fieldOf w 6 4)

/-- Whether a condition of BR holds (R136): the last of them, fetch-ready, is what the spec leaves to the memory's
timing. -/
def State.microCond (s : State) (t cond : Nat) : Bool :=
  let m := (s.tile t).micro
  match cond with
  | 0 => m.z
  | 1 => m.cy
  | 2 => m.ld
  | 3 => !(s.tile t).catches.isEmpty
  | 4 =>
    (match m.lastArm with
     | some (_, .slot i) => (s.tile t).slotFilled i
     | some (_, .free) => true
     | _ => false)
  | _ => (Config.freeValue s.free).getLsbD 0

/-- s with stacks l and k of the routine in progress (R135). -/
def State.microStacks (s : State) (t c : Nat) (l : List LoopEnt) (k : List CallEnt) : State :=
  let m := (s.tile t).micro
  (s.setMicro t { m with loops := l, calls := k }).microChange t c (.stks l k)

/-- The loop entries below which the routine may not pop. -/
def Micro.floor (m : Micro) : Nat :=
  match m.calls with
  | [] => 0
  | e :: _ => e.depth

/-- PUSHL (R135). -/
def State.microPush (s : State) (t c w : Nat) : State :=
  let m := (s.tile t).micro
  let a := s.addrOf (m.reg (fieldOf w 14 4)).toNat
  let b := (m.reg (fieldOf w 10 4)).toNat
  if fieldOf w 18 1 = 1 then
    if 16 ≤ m.calls.length then s.faultCtx t c .callOvf .range
    else s.microStacks t c m.loops (⟨a, .fresh, m.loops.length⟩ :: m.calls)
  else if 8 ≤ m.loops.length then s.faultCtx t c .loopOvf .range
  else
    s.microStacks t c (⟨a, fieldOf b 0 32, decide (fieldOf b 0 32 = 0), decide (fieldOf b 32 1 = 1)⟩ :: m.loops) m.calls

/-- s with a popped address in micro-register i. -/
def State.microPopped (s : State) (t i : Nat) (a : Addr) : State :=
  s.setMicro t ((s.tile t).micro.set i (BitVec.ofNat 72 a.toNum))

/-- POPL (R135). -/
def State.microPop (s : State) (t c w : Nat) : State :=
  let m := (s.tile t).micro
  let i := fieldOf w 14 4
  match fieldOf w 18 1, fieldOf w 12 2 with
  | 0, 0 =>
    (match m.loops with
     | [] => s.faultCtx t c .loopUnf .range
     | l :: ls =>
       if m.loops.length ≤ m.floor then s.faultCtx t c .loopUnf .range
       else (s.microPopped t i l.start).microStacks t c ls m.calls)
  | 0, 1 =>
    (match m.loops with
     | [] => s.faultCtx t c .loopUnf .range
     | l :: ls =>
       if m.loops.length ≤ m.floor then s.faultCtx t c .loopUnf .range
       else
         let spills := !l.forever && decide (l.left ≤ 1)
         let s1 := s.microPopped t i l.start
         let s2 := s1.setMicro t { (s1.tile t).micro with ld := spills }
         if spills then s2.microStacks t c ls m.calls
         else if l.forever then s2
         else s2.microStacks t c ({ l with left := l.left - 1 } :: ls) m.calls)
  | _, md =>
    if md = 0 ∨ md = 2 then
      (match m.calls with
       | [] => s.faultCtx t c .callUnf .range
       | k :: ks =>
         (s.microPopped t i k.ret).microStacks t c (if md = 2 then cutTo k.depth m.loops else m.loops) ks)
    else s.microRunaway t

/-- Whether a microword faults by its own form (R137): a reserved UOP, FORM, COND, MODE or resource. -/
def microBad (w : Nat) : Bool :=
  match fieldOf w 19 5 with
  | 0x00 =>
    decide (fieldOf w 13 2 = 3 ∨ (fieldOf w 13 2 = 2 ∧ 71 < fieldOf w 6 7 + fieldOf w 0 6))
  | 0x04 => decide (6 ≤ fieldOf w 16 3)
  | 0x0A =>
    decide (fieldOf w 12 2 = 3 ∨ (fieldOf w 12 2 = 1 ∧ fieldOf w 18 1 = 1) ∨ (fieldOf w 12 2 = 2 ∧ fieldOf w 18 1 = 0))
  | 0x0D => decide (5 ≤ fieldOf w 12 3)
  | 0x10 => resReserved (fieldOf w 7 8) || decide (0x80 ≤ fieldOf w 7 8)
  | u => decide (0x14 ≤ u)

/-- What a microword does next: the routine goes on at an address, or it stops here. -/
inductive MicroNext where
  | go (a : Nat)
  /-- Goes on at an address, the 4,096 counted afresh (YIELD, EMIT). -/
  | fresh (a : Nat)
  | stop
  deriving DecidableEq, Repr

/-- The result of ADD, SUB and CMP (R135): into A unless none, with the flags. -/
def State.microAlu (s : State) (t : Nat) (dst : Option Nat) (r : Word72 × Bool × Bool) : State :=
  let m := (s.tile t).micro
  let m1 := match dst with
    | some i => m.set i r.1
    | none => m
  s.setMicro t { m1 with z := r.2.1, cy := r.2.2 }

/-- s with a routine of no duration counted on tile t: one instruction towards R59, and what R145 says towards R65. -/
def State.countRoutine (s : State) (t : Nat) : State :=
  let s1 := s.addSpin t
  s1.setTile t { s1.tile t with between := (s.tile t).between + (s.tile t).micro.counts }

/-- One microword w at address a of context c's routine on tile t (R133, R135). -/
def State.microExec (s : State) (t c a w : Nat) : State × MicroNext :=
  let m := (s.tile t).micro
  let next := MicroNext.go ((a + 1) % 4096)
  let A := fieldOf w 15 4
  if microBad w then (s.microRunaway t, .stop)
  else match fieldOf w 19 5 with
  | 0x00 =>
    let v : Word72 := match fieldOf w 13 2 with
      | 0 => m.reg (fieldOf w 9 4)
      | 1 => BitVec.ofNat 72 (fieldOf w 0 13)
      | _ => BitVec.ofNat 72 (fieldOf (m.reg 0).toNat (fieldOf w 6 7) (fieldOf w 0 6 + 1))
    (s.setMicro t (m.set A v), next)
  | 0x01 => (s.microAlu t (some A) (microAdd (m.reg (fieldOf w 11 4)) (m.operand w)), next)
  | 0x02 => (s.microAlu t (some A) (microSub (m.reg (fieldOf w 11 4)) (m.operand w)), next)
  | 0x03 => (s.microAlu t none (microSub (m.reg (fieldOf w 11 4)) (m.operand w)), next)
  | 0x04 =>
    let s1 := if fieldOf w 16 3 = 5 then { s with free := s.free + 1 } else s
    (s1, if bit (s.microCond t (fieldOf w 16 3)) = fieldOf w 15 1 then .go (fieldOf w 0 12) else next)
  | 0x05 => (s, .go (fieldOf w 0 12))
  | 0x06 =>
    if m.link.isSome then (s.microRunaway t, .stop)
    else (s.setMicro t { m with link := some ((a + 1) % 4096) }, .go (fieldOf w 0 12))
  | 0x07 =>
    (match m.link with
     | none => (s.microRunaway t, .stop)
     | some l => (s.setMicro t { m with link := none }, .go l))
  | 0x08 =>
    (match s.fetchRef t (m.reg A).toNat (m.reg (fieldOf w 11 4)).toNat (decide (fieldOf w 10 1 = 1)) with
     | .error e => (s.faultCtx t c .refused e, .stop)
     | .ok q => (s.fetchWords t q.1 q.2 (m.reg (fieldOf w 11 4)).toNat (decide (fieldOf w 10 1 = 1)), next))
  | 0x09 => (s.microPush t c w, next)
  | 0x0A => (s.microPop t c w, next)
  | 0x0B => (s.emit t (fieldOf w 13 2) (m.reg A).toNat, .fresh ((a + 1) % 4096))
  | 0x0C =>
    let v := (m.reg A).toNat % 2 ^ 66
    if fieldOf w 14 1 = 1 then (s.microChange t c (.clear (fieldOf v 59 3) (decide (fieldOf w 13 1 = 1))), next)
    else if resvArm (BitVec.ofNat 66 v) then (s.faultCtx t c .operand .range, .stop)
    else
      let q := s.landArm t (BitVec.ofNat 66 v)
      ((q.1.setMicro t { m with lastArm := some (fieldOf v 59 3, q.2) }).microChange t c (.arm v q.2), next)
  | 0x0D =>
    (s.setMicro t { m with wait := some (fieldOf w 12 3, (m.reg A).toNat), upc := some ((a + 1) % 4096) }, .stop)
  | 0x0E => ({ s.setMicro t (m.set A (Config.freeValue s.free)) with free := s.free + 1 }, next)
  | 0x0F => (s, next)
  | 0x10 =>
    if resWrongKind t (fieldOf w 7 8) then (s.faultCtx t c .tileKind .precond, .stop)
    else (s.microChange t c (.setr (fieldOf w 7 8) (m.reg A).toNat), next)
  | 0x11 => (s.setMicro t { m with ck := (m.reg A).toNat, cks := m.cks ++ [(m.reg A).toNat] }, next)
  | 0x12 => (s, .fresh ((a + 1) % 4096))
  | _ =>
    let s1 := s.setMicro t { m with upc := none }
    ((match (s.tile t).item with
      | .idle => s1.countRoutine t
      | _ => s1), .stop)

/-- Whether a microword ends the count of R145: EMIT, WAITE or NEXT. -/
def countEnds (w : Nat) : Bool := decide (fieldOf w 19 5 = 0x0B ∨ fieldOf w 19 5 = 0x0D ∨ fieldOf w 19 5 = 0x13)

/-- s with one more microword w counted on tile t: towards R137's fault, and towards R145's n, which stands from the first
EMIT, WAITE or NEXT on. -/
def State.microCount (s : State) (t w : Nat) : State :=
  let m := (s.tile t).micro
  s.setMicro t { m with
    left := m.left - 1, words := (if m.open_ then m.words + 1 else m.words), open_ := m.open_ && !countEnds w }

/-- Whether the routine of tile t pauses before microword w: a checkpoint, and the ledger is full (R139). -/
def State.ledgerFull (s : State) (t w : Nat) : Bool := decide (fieldOf w 19 5 = 0x11) && decide (1024 ≤ s.ledger t [])

/-- s with the routine of context c on tile t run from address a: n bounds the microwords of this run. -/
def State.microRun (s : State) (t c : Nat) : Nat → Nat → State
  | 0, a => s.setMicro t { (s.tile t).micro with upc := some a }
  | n + 1, a =>
    let w := s.microword t a
    if (s.tile t).micro.left = 0 then s.microRunaway t
    else if s.ledgerFull t w then s.setMicro t { (s.tile t).micro with upc := some a }
    else
      let r := (s.microCount t w).microExec t c a w
      if (r.1.tile t).running ≠ some c then r.1
      else match r.2 with
        | .go b => r.1.microRun t c n b
        | .fresh b => (r.1.setMicro t { (r.1.tile t).micro with left := 4096 }).microRun t c n b
        | .stop => r.1

/-- The microwords of one run. -/
def microBound : Nat := 65536

/-- s with a routine entered on tile t at effect cycle e (R132): M0, M1 and M2 hold their values; every other
micro-register and every flag is a free value. The micro-link register is empty at entry (DESIGN CHOICE, log 112: only MRET
is said to empty it). -/
def State.microEnter (s : State) (t c e op k : Nat) (pc : Addr) (word : Word72) : State :=
  let regs := (upto 13).foldl (fun m i => mset (fun _ => 0) m (3 + i) (Config.freeValue (s.free + i)))
    (mset (fun _ => 0) (mset (fun _ => 0) (mset (fun _ => 0) [] 0 word) 1 (BitVec.ofNat 72 pc.toNum)) 2
      (BitVec.ofNat 72 k))
  let f := Config.freeValue (s.free + 13)
  let m : Micro := { Micro.init with
    m := regs, z := f.getLsbD 0, cy := f.getLsbD 1, ld := f.getLsbD 2, upc := some 0, eff := e, k0 := k,
    loops := (s.ctx c).loops, calls := (s.ctx c).calls }
  -- the routine decides the path that run-ahead follows from here on
  { ((s.setMicro t m).setAhead t none).gcSlots t with free := s.free + 14 }.microRun t c microBound
    (s.get (Reg.MC_DISPATCH_START t op))

/-- s with the WAITE of tile t's routine begun, since what was handed to the player has played (R135, R72, R73). -/
def State.microWait (s : State) (t mode v : Nat) : State :=
  let e := (s.tile t).nextPos / Config.fine
  let s1 := s.setMicro t { (s.tile t).micro with wait := none }
  match mode with
  | 0 => s1.beginWait t (v % 1024) e
  | 1 => s1.beginSync t 1 (v % 2 ^ 62) e (s.syncTarget 1 (v % 2 ^ 62) e)
  | 2 => s1.beginSync t 2 (v % 2 ^ 42) e (s.syncTarget 2 (v % 2 ^ 42) e)
  | 3 => s1.beginSync t 3 (v % 16) e (s.syncTarget 3 (v % 16) e)
  | _ => s1.beginSync t 0 0 e (s.syncTarget 0 0 e)

/-- The position at which what tile t's routine has handed over, or its WAITE, ends; none where a WAITE holds. -/
def State.routineEnd (s : State) (t : Nat) : Option Nat :=
  match (s.tile t).item with
  | .idle => some (s.tile t).nextPos
  | .user parts pos => some (s.partsEnd t (s.bankOf t) parts pos)
  | .wait _ _ (some n) => some (n * Config.fine)
  | _ => none

/-- Whether that position has come. -/
def State.endsNow (s : State) (t : Nat) : Bool :=
  match s.routineEnd t with
  | some p => decide (posCycle p ≤ s.now)
  | none => false

/-- Whether the routine in progress on tile t goes on now (R135, R139): into its WAITE once the parts have played, past a
WAITE that has been released, or on from where it stopped. -/
def State.routineDue (s : State) (t : Nat) : Bool :=
  let x := s.tile t
  x.running.isSome && x.gapAt.isNone &&
  (match x.micro.upc with
   | none => false
   | some a =>
     match x.micro.wait, x.item with
     | none, .user _ _ => !s.ledgerFull t (s.microword t a)
     | some _, _ => s.endsNow t
     | none, _ => s.endsNow t && !s.ledgerFull t (s.microword t a))

/-- s with the routine in progress on tile t gone on. -/
def State.microGoOn (s : State) (t c : Nat) : State :=
  let x := s.tile t
  if !s.routineDue t then s
  else match x.micro.upc, x.micro.wait with
  | some _, some (mode, v) => (s.closeItem t ((s.routineEnd t).getD x.nextPos)).microWait t mode v
  | some a, none =>
    (match x.item with
     | .wait _ _ _ => (s.closeItem t ((s.routineEnd t).getD x.nextPos)).microRun t c microBound a
     | _ => s.microRun t c microBound a)
  | none, _ => s

/-- USER_OPCODE (R132, R143): the routine of a user opcode runs up to its first wait or its end; while a routine is in
progress, the row stands for its going on. -/
def execUserOpcode (t : Tile) (word : Word72) (s : State) : Host.Outcome State Fault Refusal :=
  let op := fieldOf word.toNat 66 6
  .next (
    if op < 0x16 then s
    else match (s.tile t).running, (s.tile t).micro.upc with
    | some c, some _ => s.microGoOn t c
    | _, _ =>
      s.instr t op (BitVec.ofNat 66 word.toNat) fun s c e _ =>
        let k := match (s.ctx c).pos with
          | .steps k => k
          | _ => 0
        (s.nextPc c).microEnter t c e op k (s.ctx c).pc word)

/-- MICRO_FAULT (R137): the fault takes effect at the effect cycle of the instruction that was being resolved. -/
def execMicroFault (t : Tile) (s : State) : Host.Outcome State Fault Refusal :=
  .next (match (s.tile t).running, (s.tile t).item with
    | some c, .runaway => s.faultCtx t c .micro .precond
    | _, _ => s)

end Sys2Proof.Machine
end

