-- ==== Sys2Proof/Machine/RegRead.lean ====
section
/-! DEFINITION. What a register read returns (R3, R7, R317 to R319, R328, R334): the stored fields, the fields that hardware
computes from its state, and the table windows. -/

namespace Sys2Proof.Machine

/-! ## Stored fields -/

/-- Whether reads see the stored value of a field (R319): not of a WO field, nor of the mask of an RWM register. -/
def FieldD.readable (f : FieldD) : Bool := decide (f.acc ≠ .wo) && !(decide (f.acc = .rwm) && decide (f.lo = 16))

/-- The readable fields of a register word. -/
def readable : List FieldD → Nat → Nat
  | [], _ => 0
  | f :: fs, w => (if f.readable then fieldOf w f.lo f.n * 2 ^ f.lo else 0) + readable fs w

/-- x with bit lo of it set where b holds; the stored bit there is 0. -/
def orBit (x lo : Nat) (b : Bool) : Nat := x + bit b * 2 ^ lo

/-- A quantity that the module measures and the spec leaves open: what the register at address a shows in this cycle.
Log entry 6. -/
def State.measured (s : State) (a : Nat) : Nat := (Config.figure a s.now).toNat

/-! ## The context table (R90, R106) -/

/-- An instruction address in the PC layout: the low and the high register. -/
def Addr.low (a : Addr) : Nat := a.off % 2 ^ 32
def Addr.high (a : Addr) : Nat := a.h % 2 ^ 24 * 2 ^ 8 + a.off / 2 ^ 32 % 4

/-- Word k of loop-stack entry i, 0 outermost: 0 at or above the depth. -/
def Ctx.loopWord (x : Ctx) (i k : Nat) : Nat :=
  match x.loops.reverse[i]? with
  | none => 0
  | some l =>
    match k with
    | 0 => l.start.low
    | 1 => l.start.high
    | 2 => l.left
    | _ => bit l.forever + 2 * bit l.rpt

/-- Word k of call-stack entry j: the high word holds the recorded loop depth in bits 7:4. -/
def Ctx.callWord (x : Ctx) (j k : Nat) : Nat :=
  match x.calls.reverse[j]? with
  | none => 0
  | some c => if k = 0 then c.ret.low else c.ret.high + c.depth % 16 * 2 ^ 4

/-- Whether a REDIRECT is refilling slot i of tile t (R49). -/
def State.relanding (s : State) (t i : Nat) : Bool :=
  s.segs.any (fun p => match p.2.redirect with
    | some r => r.slots.any (fun q => decide (q.1 = t ∧ q.2.1 = i))
    | none => false)

/-- ARM_CTL of a record of a context bound to tile t (R106). -/
def State.armCtl (s : State) (t : Nat) (a : ArmRec) : Nat :=
  let landed := match a.slot with
    | some i => (match mfind (s.tile t).slots i with
      | some y => y.filled.isSome
      | none => false)
    | none => false
  let reland := match a.slot with
    | some i => s.relanding t i
    | none => false
  bit a.valid * 2 ^ 31 + bit (a.valid && landed) * 2 ^ 30 + bit a.persist * 2 ^ 29 + bit a.rewind * 2 ^ 28 +
    a.act.code * 2 ^ 25 + bit reland * 2 ^ 24 + a.slot.getD 0 % 64 * 2 ^ 16 + a.evt % 1024

/-- Word k of arm record j of context c. -/
def State.armWord (s : State) (c j k : Nat) : Nat :=
  let a := (s.ctx c).arm j
  match k with
  | 0 => s.armCtl (s.get (Reg.CTX_CFG_BIND c)) a
  | 1 => a.h * 2 ^ 8
  | 2 => a.off % 2 ^ 22
  | _ => a.fired

/-- The word at an offset of the entry of context c; st is what its registers store. -/
def State.ctxWord (s : State) (c off st : Nat) : Nat :=
  let x := s.ctx c
  if off = 0x00 then st + x.st.code * 2 ^ 28 + x.rslot % 256 * 2 ^ 16
  else if off = 0x10 then x.pc.low
  else if off = 0x14 then x.pc.high
  else if off = 0x20 then x.tsBank % 2 * 2 ^ 16 + x.calls.length * 2 ^ 8 + x.loops.length
  else if off = 0x2C then x.cause * 2 ^ 8 + x.sts
  else if 0x40 ≤ off ∧ off < 0xC0 then x.loopWord ((off - 0x40) / 16) ((off - 0x40) / 4 % 4)
  else if 0xC0 ≤ off ∧ off < 0x140 then x.callWord ((off - 0xC0) / 8) ((off - 0xC0) / 4 % 2)
  else if 0x140 ≤ off ∧ off < 0x1C0 then s.armWord c ((off - 0x140) / 16) ((off - 0x140) / 4 % 4)
  else st

/-! ## Computed fields of the blocks -/

/-- The head of the alarm queue, word i (R314). -/
def State.alarmWord (s : State) (i : Nat) : Nat :=
  match s.xng.hAlarms with
  | [] => 0
  | a :: _ =>
    match i with
    | 0 => tsWord a.ts 0
    | 1 => tsWord a.ts 1
    | 2 => tsWord a.ts 2 + a.code % 65536 * 2 ^ 16
    | _ => a.detail % 2 ^ 32

/-- The head of the notification queue, word i (R314). -/
def State.noteWord (s : State) (i : Nat) : Nat :=
  match s.xng.hNotes with
  | [] => 0
  | a :: _ =>
    match i with
    | 0 => tsWord a.ts 0
    | 1 => tsWord a.ts 1
    | _ => tsWord a.ts 2 + a.num % 1024 * 2 ^ 16 + bit a.mark * 2 ^ 31

/-- SEQ_STATUS of tile t over its stored bits (R91). -/
def State.seqStatus (s : State) (t st : Nat) : Nat :=
  let run := match (s.tile t).running with
    | some c => 2 ^ 31 + c * 2 ^ 20
    | none => 0
  let pend := match (s.tile t).start with
    | some r => 2 ^ 30 + r.c * 2 ^ 10
    | none => 0
  st + run + pend

/-- LND_STATUS of tile t: fills requested and not complete, and free slots. -/
def State.lndStatus (s : State) (t : Nat) : Nat :=
  countIf (fun p => p.2.filled.isNone) (s.tile t).slots * 2 ^ 8 + (48 - (s.tile t).slots.length)

/-- WR or RD of the ring of slipway entry e (R120): 0 with no slipway behind it. -/
def State.ringTotal (s : State) (e : Nat) (rd : Bool) : Nat :=
  match s.seg (s.get (Reg.SLW_HANDLE_HANDLE e)) with
  | none => 0
  | some g =>
    if (s.store g.sid).kind = .slipway then (if rd then (s.store g.sid).rd else (s.store g.sid).wr) else 0

/-- Whether the driver of pin k of group g is on now (R181, R189, R198, R199): as its tile drove it a pin pipeline and the pin's
delay before; in the safe state, and with the rails off, it is off at once. -/
def State.driving (s : State) (g k : Nat) : Bool :=
  let x := s.group g
  x.enabled && !s.hvOff g &&
  decide (x.outs.getD (pinPipe g + s.active (Reg.PIN_DELAY g k) / Config.fine) 0 / 2 ^ k % 2 = 1)

/-- GRP_STATUS.FLOG_FULL of group g (R192, R201): an entry was not written, and the log is still full and stopped. -/
def State.flogFull (s : State) (g : Nat) : Bool :=
  decide (s.get (Reg.GRP_STATUS_FLOG_FULL g) = 1) && decide ((s.group g).flog.length = 1024) &&
  decide (s.active (Reg.GRP_CTRL_FLOG_STOP g) = 1)

/-- The bits of GRP_STATUS of group g below HV_OFF, st its stored ones (R201). -/
def State.grpStatus (s : State) (g st : Nat) : Nat :=
  fieldOf st 5 1 * 2 ^ 5 + bit (s.flogFull g) * 2 ^ 4 + fieldOf st 2 2 * 2 ^ 2 + bit (s.group g).enabled * 2 +
  bit (s.live (decide (4 ≤ g)))

/-- EVT_STATUS.BUDGET_LOW (R116). -/
def State.budgetLow (s : State) : Bool := decide (s.active Reg.EVT_SYS_BUDGET < s.get Reg.TXL_WORST + Config.L)

/-- What instance (i, j) of the register with base address b reads, with st its stored fields: the fields that hardware
computes are added. -/
def State.computed (s : State) (b i j st : Nat) : Nat :=
  match b with
  | 0x000000 => st + s.measured 0x000000 % 256 * 2 ^ 8
  | 0x000080 => s.sysTime s.now % 2 ^ 32
  | 0x000084 => s.sysTime s.now / 2 ^ 32
  | 0x010020 => s.alarmWord i
  | 0x010030 => s.noteWord i
  | 0x010040 => st + s.xng.hAlarms.length % 512
  | 0x010044 => s.xng.hNotes.length % 512
  | 0x03003C => s.onceTrained (countIf (fun r => s.inService r) (upto 192) * 2 ^ 16 + s.served)
  | 0x038004 => orBit st 2 (!s.mc.jobs.isEmpty || !s.mc.moving.isEmpty)
  | 0x038040 => s.onceTrained s.freeExt
  | 0x038044 => s.segs.length
  | 0x038048 => s.onceTrained s.admitted
  | 0x03804C => st + s.spares.length
  | 0x038054 => s.extLeft
  | 0x040004 => orBit st 4 s.budgetLow
  | 0x050008 => orBit st 0 s.trace
  | 0x07011C =>
    if s.hvOn then st + s.measured 0x07011C % 256 * 2 ^ 24 + s.measured 0x07011D % 256 * 2 ^ 16 else st
  | 0x080004 => s.seqStatus i st
  | 0x08001C => (s.residents i).length
  | 0x080100 => s.lndStatus i
  | 0x080420 =>
    orBit (orBit (orBit st 5 (s.wave i).muteUntil.isSome) 4 (s.switchClosed i)) 3 (s.mthActive i)
  | 0x080430 => s.gdelay i
  | 0x0C0004 => orBit (orBit (orBit st 5 (s.capHeld i)) 4 (s.settling i)) 0 (s.recording i)
  | 0x0C0018 => s.gdFine i
  | 0x0C001C => s.gdOut i
  | 0x0C0020 => s.gdCc i
  | 0x0C0024 => s.settleLen i
  | 0x0C0080 => fieldOf st 16 8 * 2 ^ 16 + bit (s.firSym i 0) * 2 ^ 15 + st % 2 ^ 7
  | 0x0C0084 => fieldOf st 16 8 * 2 ^ 16 + bit (s.firSym i 1) * 2 ^ 15 + st % 2 ^ 7
  | 0x0C008C => orBit (orBit st 2 (s.capture i).swap.isSome) 1 (s.capture i).fade.isSome
  | 0x0D0004 => s.grpStatus i st
  | 0x0D6004 => bit (s.hvOff (6 + i)) * 2 ^ 6 + s.grpStatus (6 + i) st
  | 0x0D0048 => orBit st 0 (s.recording (8 + i))
  | 0x0D0224 => orBit st 0 (s.driving i j)
  | 0x0D022C =>
    bit (s.pinStates i j (s.now * Config.fine)).2 * 2 + bit (s.pinStates i j (s.now * Config.fine)).1
  | 0x0E0004 => s.active (Reg.WAV_RANGE i)
  | 0x170010 => s.ringTotal i false % 2 ^ 32
  | 0x170014 => s.ringTotal i false / 2 ^ 32
  | 0x170018 => s.ringTotal i true % 2 ^ 32
  | 0x17001C => s.ringTotal i true / 2 ^ 32
  | _ => st

/-! ## Table windows that hold no stored register (R334) -/

/-- Whether an address lies in a window that holds no stored register. -/
def inWindow (a : Nat) : Bool :=
  decide ((0x100000 ≤ a ∧ a < 0x140000) ∨ (0x144000 ≤ a ∧ a < 0x15D000) ∨ (0x15E000 ≤ a ∧ a < 0x160000))

/-- Word k of row r of timing set n of group g (R201). -/
def State.rowWord (s : State) (g n r k : Nat) : Nat :=
  if k = 3 then 0 else fieldOf (s.setRow g n r).toNat (32 * k) (if k = 2 then 8 else 32)

/-- The word of a window at address a: control stores (R144), committed timing sets (R201), coefficient banks (R222). -/
def State.windowWord (s : State) (a : Nat) : Nat :=
  if a < 0x140000 then s.microword ((a - 0x100000) / 0x4000) ((a - 0x100000) % 0x4000 / 4)
  else if a < 0x15D000 then
    let r := (a - 0x144000) % 0x3200
    s.rowWord ((a - 0x144000) / 0x3200) (r / 0x190) (r % 0x190 / 16) (r % 16 / 4)
  else (mget (fun _ => 0) (s.capture ((a - 0x15E000) / 0x400)).taps ((a - 0x15E000) % 0x400 / 4)).toNat

/-! ## Reads -/

/-- Whether the register at address a is of the host part of the XNG (R333). -/
def hostSide (a : Nat) : Bool := decide (0x010000 ≤ a ∧ a < 0x010800)

/-- Whether a stopped boot leaves address a responding (R345): GLB, XNG field part, CAL and NVS. -/
def servedStopped (a : Nat) : Bool :=
  decide (a < 0x010000 ∨ (0x010800 ≤ a ∧ a < 0x011000) ∨ (0x070000 ≤ a ∧ a < 0x080000))

/-- The 32-bit word at a register address (R318, R319, R345): an unmapped address reads 0. -/
def State.readReg (s : State) (a : Nat) : Nat :=
  if s.stopped && !hostSide a && !servedStopped a then 0
  else if inWindow a then s.windowWord a
  else
    let st := match regAt a with
      | some (d, _, _) => readable d.flds (s.regWord a).toNat
      | none => 0
    if 0x180000 ≤ a ∧ a < 0x200000 then s.ctxWord ((a - 0x180000) / 0x200) ((a - 0x180000) % 0x200) st
    else match regAt a with
      | some (d, i, j) => s.computed d.base i j st
      | none => 0

/-- A read of 1, 2 or 4 bytes aligned to its own width, 8 bytes as two; any other returns 0 (R317). -/
def State.readBus (s : State) (a bytes : Nat) : Nat :=
  match bytes with
  | 1 => fieldOf (s.readReg (a / 4 * 4)) (8 * (a % 4)) 8
  | 2 => if a % 2 = 0 then fieldOf (s.readReg (a / 4 * 4)) (8 * (a % 4)) 16 else 0
  | 4 => if a % 4 = 0 then s.readReg a else 0
  | 8 => if a % 8 = 0 then s.readReg a + 2 ^ 32 * s.readReg (a + 4) else 0
  | _ => 0

end Sys2Proof.Machine
end

