-- ==== Sys2Proof/Machine/Run.lean ====
section
/-! DEFINITION. The instruction at the PC, the landed run after a commit, and underruns with their DIVERT commit (R112, R123,
R126, R129). -/

namespace Sys2Proof.Machine

/-- The state an outcome answers, or s itself. -/
def nextOr (s : State) : Host.Outcome State Fault Refusal → State
  | .next t => t
  | _ => s

/-- s with one instruction word taken on tile t, whatever its opcode. -/
def State.runWord (s : State) (t : Tile) (word : Word72) : State :=
  let ops := BitVec.ofNat 66 word.toNat
  nextOr s (match fieldOf word.toNat 66 6 with
    | 0x00 => execNop t ops s
    | 0x01 => execHalt t ops s
    | 0x02 => execPlay t ops s
    | 0x03 => execPlayn t ops s
    | 0x04 => execLoop t ops s
    | 0x05 => execEndloop t ops s
    | 0x06 => execCall t ops s
    | 0x07 => execRet t ops s
    | 0x08 => execJump t ops s
    | 0x09 => execArm t ops s
    | 0x0A => execDisarm t ops s
    | 0x0B => execWait t ops s
    | 0x0C => execSync t ops s
    | 0x0D => execSetts t ops s
    | 0x0E => execSetf t ops s
    | 0x0F => execSetph t ops s
    | 0x10 => execRamp t ops s
    | 0x11 => execMark t ops s
    | 0x12 => execStream t ops s
    | 0x13 => execSwitch t ops s
    | 0x14 => execSignal t ops s
    | 0x15 => execCount t ops s
    | _ => execUserOpcode t word s)

/-- The command that stands for one instruction word of tile t. -/
def wordInstr (t : Tile) (word : Word72) : Instr :=
  let ops := BitVec.ofNat 66 word.toNat
  match fieldOf word.toNat 66 6 with
  | 0x00 => .nop t ops
  | 0x01 => .halt t ops
  | 0x02 => .play t ops
  | 0x03 => .playn t ops
  | 0x04 => .loop t ops
  | 0x05 => .endloop t ops
  | 0x06 => .call t ops
  | 0x07 => .ret t ops
  | 0x08 => .jump t ops
  | 0x09 => .arm t ops
  | 0x0A => .disarm t ops
  | 0x0B => .wait t ops
  | 0x0C => .sync t ops
  | 0x0D => .setts t ops
  | 0x0E => .setf t ops
  | 0x0F => .setph t ops
  | 0x10 => .ramp t ops
  | 0x11 => .mark t ops
  | 0x12 => .stream t ops
  | 0x13 => .switch t ops
  | 0x14 => .signal t ops
  | 0x15 => .count t ops
  | _ => .userOpcode t word

/-- The word at the PC of the context that runs on tile t; while a user routine is in progress, the word before it. -/
def State.wordAtPc (s : State) (t : Nat) : Option Word72 :=
  match (s.tile t).running with
  | none => none
  | some c =>
    let pc := (s.ctx c).pc
    some (if (s.tile t).micro.upc.isSome then s.readWord pc.sid pc.prev.off else s.readWord pc.sid pc.off)

/-- Whether the next instruction of tile t takes effect by now (R57). -/
def State.instrDue (s : State) (t : Nat) : Bool :=
  (s.tile t).running.isSome && (s.tile t).diverting.isNone &&
  (match s.itemEnd t with
   | some p => decide (posCycle p ≤ s.now)
   | none => false)

/-- LANDED_RUN_START (R112): at c + D the landed run begins, at the target or at the resume point of the context that now
runs. -/
def execLandedRunStart (t : Tile) (s : State) : Host.Outcome State Fault Refusal :=
  .next (match (s.tile t).running, (s.tile t).item with
    | some c, .dead u _ => if s.now < u then s else s.enter t c (u * Config.fine)
    | _, _ => s)

/-- Whether slot i of tile t was filled by cycle n. -/
def State.filledBy (s : State) (t i n : Nat) : Bool :=
  match mfind (s.tile t).slots i with
  | some y => (match y.filled with
    | some f => decide (f ≤ n)
    | none => false)
  | none => false

/-- s with the instructions that share the effect cycle of the next one taken, up to n of them: a look ahead. -/
def State.lookAhead (s : State) (t : Tile) : Nat → State
  | 0 => s
  | n + 1 =>
    if s.instrDue t && (s.tile t).micro.upc.isNone then
      match s.wordAtPc t with
      | some w =>
        -- a SWITCH or a timed item ends the look ahead, and a HALT that takes effect leaves no context running
        let op := fieldOf w.toNat 66 6
        if op = 0x12 then s.runWord t w
        else if timedOp op || decide (op = 0x13) then s
        else (s.runWord t w).lookAhead t n
      | none => s
    else s

/-- The DIVERT underrun that the first block of the STREAM next on tile t is about to make at its due cycle, with the slot
that its handler took when the STREAM was resolved; none where there is none, or where it is handled otherwise (R126). -/
def State.firstDivert (s : State) (t : Tile) : Option Divert :=
  match (s.tile t).running with
  | none => none
  | some c =>
    if s.upol c ≠ 2 || !s.instrDue t then none
    else
      let a := s.lookAhead t 4096
      match a.underrunAt t, (a.tile t).divert, (a.tile t).running with
      | some (e, pos, _), some i, some c' =>
        let due := posCycle pos
        if c' = c ∧ (s.tile t).heldDue ≠ some due ∧ s.filledBy t i (due - Config.L) = true then some ⟨e, due, i⟩ else none
      | _, _, _ => none

/-- UNDERRUN (R123 to R126): the block due was not complete at its decision cycle. HOLD and REPEAT act from the due cycle;
DIVERT waits for its commit, and acts as HOLD where the handler's slot was not landed at due − L. -/
def execUnderrun (t : Tile) (s : State) : Host.Outcome State Fault Refusal :=
  .next (match (s.tile t).running, s.underrunAt t with
    | some c, some (e, pos, sid) =>
      let due := posCycle pos
      if s.now < due ∨ (s.tile t).diverting.isSome then s
      else if s.upol c ≠ 2 then s.underrunPlain t c e sid pos (s.upol c)
      else if (s.tile t).heldDue = some due then
        -- counted and logged already, in the commit's row
        (s.setTile t { s.tile t with heldDue := none }).holdBlock t false
      else match (s.tile t).divert with
        | some i =>
          if s.filledBy t i (due - Config.L) then s.setTile t { s.tile t with diverting := some ⟨e, due, i⟩ }
          else s.underrunPlain t c e sid pos 0
        | none => s.underrunPlain t c e sid pos 0
    | some _, none =>
      (match s.firstDivert t with
       | some d =>
         if d.due ≤ s.now ∧ (s.tile t).diverting.isNone then s.setTile t { s.tile t with diverting := some d } else s
       | none => s)
    | none, _ => s)

/-- The action of the event that commits on tile t at cycle n, if one does (R108, R126). -/
def State.eventAt (s : State) (t n : Nat) : Option ArmAct :=
  match s.winner t ((s.tile t).catches.filter (fun k => decide (k.at_ = n))) with
  | some k => some ((s.ctx k.c).arm k.k).act
  | none => none

/-- s with a DIVERT underrun made: counted and logged, and committed as a CALL to CTX_DIVERT with RESUME 0 (R126); with a
full call stack the context faults, and both entries are written (R393). -/
def State.divertNow (s : State) (t c : Nat) (d : Divert) : State :=
  let s0 := (s.underrunLog t c d.e d.due 0x13).monMark (0x220 + 4 * t)
  let s1 := s0.setTile t { s0.tile t with heldDue := some d.due }
  if 16 ≤ (s1.ctx c).calls.length then
    (s1.logWrite ⟨s1.tsAt d.due, d.e, t, 1, true, c, 0x07⟩).faultCtx t c .callOvf .range
  else s1.commitCallTo t c d.due false (s1.divertTo c).1 (s1.divertTo c).2 (some d.slot)

/-- DIVERT_COMMIT (R126, R129): at the due cycle the underrun commits, unless an event commits in that cycle: then it is
counted and logged, and where the event abandons nothing the block is handled as under HOLD. -/
def execDivertCommit (t : Tile) (s : State) : Host.Outcome State Fault Refusal :=
  .next (match (s.tile t).running, (s.tile t).diverting with
    | some c, some d =>
      if s.now < d.due then s
      else
        let s0 := s.setTile t { s.tile t with diverting := none }
        match s.eventAt t d.due with
        | none => s0.divertNow t c d
        | some .count =>
          let s1 := s0.underrunLog t c d.e d.due 0x11
          (match s1.underrunAt t with
           | some _ => s1.holdBlock t false
           | none => s1.setTile t { s1.tile t with heldDue := some d.due })
        | some _ =>
          let s1 := s0.underrunLog t c d.e d.due 0x11
          s1.setTile t { s1.tile t with heldDue := some d.due }
    | _, _ => s)

end Sys2Proof.Machine
end

