-- ==== Sys2Proof/Machine/Bus.lean ====
section
/-! DEFINITION. Software's writes and reads of the register space: what each command register starts, and the accesses that
cross from the host (R299, R301, R317 to R320, R325, R331). -/

namespace Sys2Proof.Machine

/-! ## Errors -/

/-- s with a write to an unmapped address recorded (R318). -/
def State.unmapped (s : State) : State := s.put Reg.GLB_ERR_UNMAPPED 1

/-- s with an error that GLB_ERR, on the field side, records of a write to the host part: it takes a field side that answers. -/
def State.hostErr (s : State) (f : State → State) : State := if s.xng.up && s.fieldLive then f s else s

/-- s with a narrow or unaligned write recorded (R317). -/
def State.accSize (s : State) : State := s.put Reg.GLB_ERR_ACC_SIZE 1

/-! ## Command registers

The opcode stands in bits 3:0, GO in bit 7, the tag in bits 31:24. -/

/-- The tag of a command word. -/
def tagOf (v : Word) : BitVec 8 := BitVec.ofNat 8 (v.toNat / 2 ^ 24)

/-- s with a write of PLC_CMD (R53, R54): of a MIGRATE so issued, the engine copies no extent (DESIGN CHOICE, log 40: R51 leaves it
to the engine which extents migrate, and the register has no field that says). -/
def State.plcWrite (s : State) (v : Word) : State :=
  if v.getLsbD 7 = false then s
  else match fieldOf v.toNat 0 4 with
    | 1 => nextOr s (execAlloc (tagOf v) s)
    | 2 => nextOr s (execFree (tagOf v) s)
    | 3 => nextOr s (execLoad (tagOf v) s)
    | 4 => nextOr s (execRedirect (tagOf v) s)
    | 5 => nextOr s (execQuery (tagOf v) s)
    | 6 => nextOr s (execMigrate (tagOf v) 0 s)
    | 7 => nextOr s (execReadmit (tagOf v) s)
    | _ => s.plcCmd (tagOf v).toNat [32, 32, 32, 32, 32, 32] fun s => s.plcReport (tagOf v).toNat .range false

/-- s with a write of SEQ_CMD of tile t (R87). -/
def State.seqWrite (s : State) (t : Tile) (v : Word) : State :=
  let c : CtxNo := Fin.ofNat 1024 (fieldOf v.toNat 14 10)
  let m : BitVec 2 := BitVec.ofNat 2 (fieldOf v.toNat 8 2)
  if v.getLsbD 7 = false then s
  else match fieldOf v.toNat 0 4 with
    | 1 => nextOr s (execSeqLoad t (tagOf v) c m s)
    | 2 => nextOr s (execSeqPrep t (tagOf v) c m s)
    | 3 => nextOr s (execSeqStart t (tagOf v) c m s)
    | 4 => nextOr s (execSeqPause t (tagOf v) c m s)
    | 5 => nextOr s (execSeqResume t (tagOf v) c m s)
    | 6 => nextOr s (execSeqStop t (tagOf v) c m s)
    | 7 => nextOr s (execSeqRelease t (tagOf v) c m s)
    | _ => s.seqCmd t (tagOf v).toNat c false id

/-- s with a write of CLK_CMD (R276). -/
def State.clkWrite (s : State) (v : Word) : State :=
  let m : BitVec 2 := BitVec.ofNat 2 (fieldOf v.toNat 8 2)
  if v.getLsbD 7 = false then s
  else match fieldOf v.toNat 0 4 with
    | 1 => nextOr s (execRetune (tagOf v) s)
    | 2 => nextOr s (execRelock (tagOf v) s)
    | 3 => nextOr s (execRampStart (tagOf v) m s)
    | 4 => nextOr s (execRampStop (tagOf v) m s)
    | _ => s.clkCmd fun s => s.clkReport (tagOf v).toNat .range

/-- s with a write of TXL_CMD (R293). -/
def State.txlWrite (s : State) (v : Word) : State :=
  let p : PortNo := Fin.ofNat 4 (fieldOf v.toNat 8 2)
  if v.getLsbD 7 = false then s
  else match fieldOf v.toNat 0 4 with
    | 1 => nextOr s (execTxlRetrain (tagOf v) p s)
    | 2 => nextOr s (execTxlDown (tagOf v) p s)
    | _ => s.txlReport (tagOf v).toNat .range

/-- s with a write of CAL_CMD (R359, R360). -/
def State.calWrite (s : State) (v : Word) : State :=
  let n : BitVec 8 := BitVec.ofNat 8 (fieldOf v.toNat 8 4)
  if v.getLsbD 7 = false then s
  else match fieldOf v.toNat 0 4 with
    | 1 => nextOr s (execDacLinearity (tagOf v) n s)
    | 2 => nextOr s (execDacMarkerTiming (tagOf v) n s)
    | 3 => nextOr s (execAdcCalibration (tagOf v) n s)
    | 4 => nextOr s (execPinLevels (tagOf v) n s)
    | 5 => nextOr s (execPinDeskew (tagOf v) n (v.getLsbD 16) s)
    | 6 => nextOr s (execTerxaSkew (tagOf v) n s)
    | 7 => nextOr s (execHbmRetrain (tagOf v) n s)
    | 8 => nextOr s (execCalCommit (tagOf v) n s)
    | _ => if s.get Reg.CAL_CMD_STATUS_BUSY = 1 then s.put Reg.CAL_CMD_STATUS_OVERRUN 1 else s.calReport (tagOf v).toNat .range

/-- s with a write of NVS_IMG_CMD (R352). -/
def State.imgWrite (s : State) (v : Word) : State :=
  if v.getLsbD 7 = false then s
  else match fieldOf v.toNat 0 4 with
    | 1 => nextOr s (execImgWriteBlock (tagOf v) s)
    | 2 => nextOr s (execImgCommit (tagOf v) s)
    | _ => s.imgCmd (tagOf v).toNat false id

/-- s with a write of EVT_TMR_CMD: a start and a stop of one timer in one write start it. -/
def State.tmrWrite (s : State) (v : Word) : State :=
  forUpto (fun s n => if v.getLsbD n then s.tmrStart n else if v.getLsbD (16 + n) then s.tmrStop n else s) 16 s

/-- s with f applied to each event counter whose bit of a command register is 1; from is the register's first counter
(R371). -/
def State.monWrite (s : State) (f : State → Nat → State) (first : Nat) (v : Word) : State :=
  forUpto (fun s n => if v.getLsbD n then f s (first + n) else s) 32 s

/-- s with a write of TS_HSTAGE_ADDR of group g: a ROW that hardware advances in the same cycle is discarded (R331). -/
def State.hstageAddrWrite (s : State) (g : Nat) (v : Word) : State :=
  let a := (Reg.TS_HSTAGE_ADDR_ROW g).addr
  let s1 := s.plainWrite a v.toNat
  if (mfind s.wrote (Reg.TS_HSTAGE_D2 g).addr).isSome then s1.collide a else s1

/-- s with a write of XNG_ABSENT_POLICY: the reserved value is not transferred (R302). -/
def State.policyWrite (s : State) (v : Word) : State :=
  if fieldOf v.toNat 0 2 = 3 then s else s.plainWrite Reg.XNG_ABSENT_POLICY.addr v.toNat

/-! ## Writes by register -/

/-- s with a write to instance (i, j) of the GLB register at base address b. -/
def State.glbRegWrite (s : State) (b a : Nat) (v : Word) : State :=
  match b with
  | 0x00000C => s.profileWrite v
  | 0x000010 => nextOr s (execGlbKeyWrite v s)
  | 0x000014 => nextOr s (execGlbUpdate v s)
  | 0x000028 => nextOr s (execMailboxRequest v s)
  | 0x000088 => nextOr s (execGlbFlagsWrite v s)
  | 0x00008C => nextOr s (execSoftReset v s)
  | 0x000090 => s.hvWrite v
  | _ => s.plainWrite a v.toNat

/-- s with a write to a register of the CAL and NVS block. -/
def State.nvsRegWrite (s : State) (b i a : Nat) (v : Word) : State :=
  match b with
  | 0x070000 => s.calWrite v
  | 0x070108 => nextOr s (execNvsFieldRst v s)
  | 0x07010C => nextOr s (execTileReset v s)
  | 0x070200 => nextOr s (execUkeyHashWrite (Fin.ofNat 12 i) v s)
  | 0x070230 => nextOr s (execUkeyOpen v s)
  | 0x070300 => nextOr s (execNvWriteEnable v s)
  | 0x070304 => s.imgWrite v
  | _ => s.plainWrite a v.toNat

/-- s with a write to a register of the blocks from CLK to MON. -/
def State.coreRegWrite (s : State) (b a : Nat) (v : Word) : State :=
  match b with
  | 0x020018 => s.clkWrite v
  | 0x038000 => s.plcWrite v
  | 0x040010 => nextOr s (execEvtHostRaise v s)
  | 0x040180 => s.tmrWrite v
  | 0x050004 => nextOr s (execTxlIdWrite v s)
  | 0x05001C => s.txlWrite v
  | 0x060804 => s.monWrite State.monStart 0 v
  | 0x060808 => s.monWrite State.monStart 32 v
  | 0x06080C => s.monWrite State.monStop 0 v
  | 0x060810 => s.monWrite State.monStop 32 v
  | 0x060814 => s.monWrite State.monSnap 0 v
  | 0x060818 => s.monWrite State.monSnap 32 v
  | _ => s.plainWrite a v.toNat

/-- s with a write to a register of a tile, a capture channel, a pin group or an analog path. -/
def State.pathRegWrite (s : State) (b i a : Nat) (v : Word) : State :=
  match b with
  | 0x080008 => s.seqWrite (Fin.ofNat 16 i) v
  | 0x08020C => nextOr s (execMcUload (Fin.ofNat 16 i) v s)
  | 0x080400 => s.safeWrite i v
  | 0x0C0000 => s.capCtrlWrite i v
  | 0x0C002C => s.recCtrlWrite i v
  | 0x0C0080 => nextOr s (execFirBankWrite (Fin.ofNat 8 i) false none v s)
  | 0x0C0084 => nextOr s (execFirBankWrite (Fin.ofNat 8 i) true none v s)
  | 0x0C0088 => nextOr s (execFirSwap (Fin.ofNat 8 i) v s)
  | 0x0D0000 => s.safeWrite (8 + (a - 0x0D0000) / 0x1000) v
  | 0x0D1000 => s.safeWrite (8 + (a - 0x0D0000) / 0x1000) v
  | 0x0D0020 => s.hstageAddrWrite i v
  | 0x0D002C => nextOr s (execTsHstageD2Write (Fin.ofNat 8 i) v s)
  | 0x0D0030 => nextOr s (execTsHcommit (Fin.ofNat 8 i) v s)
  | 0x0D0040 => s.recCtrlWrite (8 + i) v
  | _ => s.plainWrite a v.toNat

/-- s with a write to a table window: read-only windows ignore it. -/
def State.tableWrite (s : State) (a : Nat) (v : Word) : State :=
  if 0x180000 ≤ a then
    nextOr s (execContextTableWrite (Fin.ofNat 1024 ((a - 0x180000) / 0x200)) (BitVec.ofNat 9 a) v s)
  else if 0x170000 ≤ a ∧ a < 0x174000 then
    nextOr s (execSlipwayTableWrite (Fin.ofNat 256 ((a - 0x170000) / 0x40)) (BitVec.ofNat 6 a) v s)
  else if 0x161000 ≤ a ∧ a < 0x161400 ∧ a % 0x40 = 0 then
    nextOr s (execCbufTrig (Fin.ofNat 16 ((a - 0x161000) / 0x40)) v s)
  else if 0x15E000 ≤ a ∧ a < 0x160000 then
    let r := (a - 0x15E000) % 0x400
    nextOr s (execFirBankWrite (Fin.ofNat 8 ((a - 0x15E000) / 0x400)) (decide (0x200 ≤ r)) (some (Fin.ofNat 128 (r / 4))) v s)
  else if inWindow a then s
  else s.plainWrite a v.toNat

/-- s with an aligned 32-bit software write applied by the field side (R319, R320): the command registers act, the others
store. -/
def State.fieldWrite32 (s : State) (a : Nat) (v : Word) : State :=
  if s.stopped && !servedStopped a then s
  else if 0x100000 ≤ a then (if a < 0x200000 then s.tableWrite a v else s.unmapped)
  else match regAt a with
    | none => s.unmapped
    | some (d, i, _) =>
      if a < 0x010000 then s.glbRegWrite d.base a v
      else if a = Reg.XNG_ABSENT_POLICY.addr then s.policyWrite v
      else if a = Reg.XNG_FSTATUS_SAFE_LATCH.addr then s.fstatusWrite v
      else if 0x070000 ≤ a ∧ a < 0x080000 then s.nvsRegWrite d.base i a v
      else if a < 0x080000 then s.coreRegWrite d.base a v
      else s.pathRegWrite d.base i a v

/-- s with a write to a register of the host part of the XNG. -/
def State.hostWrite32 (s : State) (a : Nat) (v : Word) : State :=
  match regAt a with
  | none => s.hostErr State.unmapped
  | some (d, i, _) =>
    match d.base with
    | 0x01000C => nextOr s (execXngWdog v s)
    | 0x010010 => nextOr s (execXngKick v s)
    | 0x010014 => nextOr s (execXngRaise v s)
    | 0x010018 => s.xngPwrWrite v
    | 0x01003C => s.popWrite v
    | 0x010108 => nextOr s (execXngRingTail (Fin.ofNat 8 i) v [] s)
    | _ => s.plainWrite a v.toNat

/-! ## Accesses of the host -/

/-- s with a write of a number of bytes applied by w (R317): 32 bits aligned, or 64 bits as two; bad records any other. -/
def State.applyWrite (s : State) (w : State → Nat → Word → State) (bad : State → State) (a bytes : Nat) (v : BitVec 64) : State :=
  if a % 4 ≠ 0 then bad s
  else if bytes = 4 then w s a (v.extractLsb' 0 32)
  else if bytes = 8 then w (w s a (v.extractLsb' 0 32)) (a + 4) (v.extractLsb' 32 32)
  else bad s

/-- s with an access of the host applied by the side that holds its address. -/
def State.doAccess (s : State) (x : Access) : State :=
  match x.data with
  | some v =>
    if hostSide x.addr then s.applyWrite State.hostWrite32 (fun s => s.hostErr State.accSize) x.addr x.bytes v
    else s.applyWrite State.fieldWrite32 State.accSize x.addr x.bytes v
  | none =>
    let s1 := { s with xng := { s.xng with readData := BitVec.ofNat 64 (s.readBus x.addr x.bytes) } }
    -- with VALID read as 1 the bridge holds the sample (R299)
    if (x.addr = 0x2C ∨ (x.addr = 0x28 ∧ x.bytes = 8)) ∧ s.get Reg.GLB_MBX_VALID = 1 then
      { s1 with xng := { s1.xng with mbx := (upto 4).map (fun i => s.get (Reg.GLB_MBX_DATA i)) } }
    else s1

/-- The value with which the bridge itself serves a read of the mailbox data, when it holds the sample (R299). -/
def State.bridgeRead (s : State) (x : Access) : Option Nat :=
  let w := fun i => s.xng.mbx.getD i 0
  let i := (x.addr - 0x30) / 4
  if s.xng.mbx = [] ∨ x.data.isSome ∨ x.addr < 0x30 ∨ 0x40 ≤ x.addr then none
  else match x.bytes with
    | 1 => some (fieldOf (w i) (8 * (x.addr % 4)) 8)
    | 2 => some (if x.addr % 2 = 0 then fieldOf (w i) (8 * (x.addr % 4)) 16 else 0)
    | 4 => some (if x.addr % 4 = 0 then w i else 0)
    | 8 => some (if x.addr % 8 = 0 then w i + 2 ^ 32 * w (i + 1) else 0)
    | _ => some 0

/-- Whether the field side answers accesses: the Crossing carries them and the field side runs. -/
def State.answers (s : State) : Bool := s.xng.up && s.fieldLive

/-- s with an access of the host (R299, R301, R320): of a host-side register at once; of a field-side one when the field side
answers and nothing waits before it; otherwise it waits, or completes for an absent field side. -/
def State.hostAccess (s : State) (x : Access) : State :=
  if !s.pw.hostOn ∨ s.xng.perst then s
  else if hostSide x.addr then s.doAccess x
  else match s.bridgeRead x with
    | some v => { s with xng := { s.xng with readData := BitVec.ofNat 64 v } }
    | none =>
      if s.get Reg.XNG_HSTATUS_FIELD_ABSENT = 1 then s.absentAccess x
      else if s.answers && s.xng.waiting.isEmpty then s.doAccess x
      else { s with xng := { s.xng with waiting := s.xng.waiting ++ [x] } }

/-- s after this core cycle on the accesses that wait at the bridge: the field side applies one a cycle, in order (R320). -/
def State.accessTick (s : State) : State :=
  match s.xng.waiting with
  | [] => s
  | x :: rest => if s.answers then { s with xng := { s.xng with waiting := rest } }.doAccess x else s

/-- REGISTER_WRITE (R319): v at addr, as many bytes as the write carries. -/
def execRegisterWrite (addr : BitVec 24) (bytes : Nat) (v : BitVec 64) (s : State) : Host.Outcome State Fault Refusal :=
  .next (s.hostAccess ⟨addr.toNat, bytes, some v⟩)

/-- REGISTER_READ_MESSAGE (R299): no read has a side effect beyond the data it completes with (R317). -/
def execRegisterReadMessage (addr : BitVec 24) (bytes : Nat) (s : State) : Host.Outcome State Fault Refusal :=
  .next (s.hostAccess ⟨addr.toNat, bytes, none⟩)

end Sys2Proof.Machine
end

