-- ==== Sys2Proof/Machine/Boot.lean ====
section
/-! DEFINITION. The boot, stage by stage, and the start list (R146, R254, R339, R342 to R346, R365, R369). -/

namespace Sys2Proof.Machine

/-- s with the boot stopped in its stage (R345), the section type being applied and a status. -/
def State.bootStop (s : State) (kind : Nat) (e : Nat) : State :=
  ((s.put Reg.NVS_BOOT_STOPPED 1).put Reg.NVS_BOOT_SECTION kind).put Reg.NVS_BOOT_STS e

/-- The active bank. -/
def State.bank (s : State) : Nat := s.get Reg.NVS_BOOT_BANK

/-- s with f applied while the boot has not stopped. -/
def State.unlessStopped (s : State) (f : State → State) : State := if s.stopped then s else f s

/-- A bit, or a field, of byte 12 of the manifest (R340). -/
def State.imgOpt (s : State) (lo n : Nat) : Nat := fieldOf (s.imgVal s.bank 12 1) lo n

/-! ## S0's writes (R320) -/

/-- s with f applied as a step of S0's own, with the key written and consumed in it: an unlock that the host holds is
neither used nor disturbed. -/
def State.keyed (s : State) (f : State → State) : State :=
  (f (s.put Reg.GLB_STATE_UNLOCKED 1)).put Reg.GLB_STATE_UNLOCKED (s.get Reg.GLB_STATE_UNLOCKED)

/-- s with a write of S0: the registers of the host part are not on its side. -/
def State.s0Write (s : State) (a : Nat) (v : Word) : State :=
  if hostSide a then s.unmapped else s.keyed (fun s => s.fieldWrite32 a v)

/-- The status field and the busy condition of the command that a write of v to address a starts, if it starts one. -/
def State.cmdState (s : State) (a : Nat) (v : Word) : Option (Bool × Nat) :=
  let go := v.getLsbD 7
  match regAt a with
  | none =>
    if 0x15E000 ≤ a ∧ a < 0x160000 then some (false, s.get (Reg.FIR_STATUS_WSTS ((a - 0x15E000) / 0x400))) else none
  | some (d, i, _) =>
    match d.base with
    | 0x00000C => some (decide (s.get Reg.GLB_STATE_BUSY = 1), s.get Reg.GLB_STATE_PSTS)
    | 0x000028 => if v.getLsbD 0 then some (decide (s.get Reg.GLB_MBX_VALID = 0), s.get Reg.GLB_MBX_CTRL_STS) else none
    | 0x020018 => if go then some (decide (s.get Reg.CLK_CMD_STATUS_BUSY = 1), s.get Reg.CLK_CMD_STATUS_STS) else none
    | 0x038000 => if go then some (decide (s.get Reg.PLC_STATUS_BUSY = 1), s.get Reg.PLC_STATUS_STS) else none
    | 0x05001C => if go then some (decide (s.get Reg.TXL_CMD_STATUS_BUSY = 1), s.get Reg.TXL_CMD_STATUS_STS) else none
    | 0x070000 => if go then some (decide (s.get Reg.CAL_CMD_STATUS_BUSY = 1), s.get Reg.CAL_CMD_STATUS_STS) else none
    | 0x070304 => if go then some (decide (s.get Reg.NVS_IMG_STATUS_BUSY = 1), s.get Reg.NVS_IMG_STATUS_STS) else none
    | 0x080008 => if go then some ((s.tile i).prep.isSome, s.get (Reg.SEQ_CMD_STATUS_STS i)) else none
    | 0x08020C => if v.getLsbD 0 then some (decide (s.get (Reg.MC_STATUS_BUSY i) = 1), s.get (Reg.MC_STATUS_STS i)) else none
    | 0x0C0080 => some (false, s.get (Reg.FIR_STATUS_WSTS i))
    | 0x0C0084 => some (false, s.get (Reg.FIR_STATUS_WSTS i))
    | 0x0C0088 => if v.getLsbD 0 then some (false, s.get (Reg.FIR_STATUS_SSTS i)) else none
    | 0x0C002C => if v.getLsbD 0 && !s.armedOf i then some (false, s.get (Reg.CBUF_STATUS_STS i)) else none
    | 0x0D0030 => if v.getLsbD 0 then some (decide (s.get (Reg.TS_HCOMMIT_PEND i) = 1), s.get (Reg.TS_HCOMMIT_STS i)) else none
    | 0x0D0040 => if v.getLsbD 0 && !s.armedOf (8 + i) then some (false, s.get (Reg.PCAP_STATUS_STS i)) else none
    | _ => none

/-- Whether a command register takes no command now (R53): one that runs would discard it. -/
def State.cmdBusy (s : State) (a : Nat) (v : Word) : Bool :=
  match s.cmdState a v with
  | some (b, _) => b && decide (a ≠ Reg.GLB_PROFILE.addr)
  | none => false

/-- The status with which a write that has just been made is refused, if it is: of a command that runs, none yet. -/
def State.refused (s : State) (a : Nat) (v : Word) : Option Nat :=
  match s.cmdState a v with
  | some (b, e) => if e = 0 ∨ (b ∧ a ≠ Reg.GLB_PROFILE.addr) then none else some e
  | none => none

/-- s with a write of S0 and the status that refuses it, if one does. -/
def State.s0Try (s : State) (a : Nat) (v : Word) : State × Option Nat :=
  if s.cmdBusy a v then (s.s0Write a v, some Sts.busy.code)
  else ((s.s0Write a v), (s.s0Write a v).refused a v)

/-! ## Stages 1 to 4 -/

/-- s with the outcome of verification (R339, R343): a bank that verifies is the active bank; with none the boot stops. -/
def State.chooseBank (s : State) : State :=
  let order := s.bankOrder
  let s1 := s.put Reg.NVS_BOOT_BANK (order.headD 0)
  let s2 := match order.find? (fun b => decide (s.verifyBank b = .ok)) with
    | some b => (s1.put Reg.NVS_BOOT_BANK b).bootAt 4
    | none => s1.bootStop 0 Sts.sig.code
  s2.put Reg.NVS_NV_CTRL_INACT_VALID (bit (s2.bankRec s2.inactive).isSome)

/-- s with the vendor region and the vendor dispatch entries of tile t loaded (R131, R142, R146). -/
def State.loadVendor (s : State) (t : Nat) : State :=
  let kind := decide (t < 8)
  let s1 := forUpto (fun s a => s.putUword t a (Config.vendorWord kind a)) 0xC00 s
  let s2 := forUpto (fun s o =>
    (s.put (Reg.MC_DISPATCH_VALID t o) 1).put (Reg.MC_DISPATCH_START t o) (Config.vendorStart kind o).toNat) 0x16 s1
  s2.put (Reg.MC_VERSION_VENDOR t) (Config.vendorBuild (s.secOfBytes s.bank (if kind then 2 else 3))).toNat

/-- s with the user section loaded into tile t, or refused for it (R146, R148, R149). -/
def State.loadUser (s : State) (l : List (BitVec 8)) (t : Nat) : State :=
  match s.blockCheck t l with
  | some e => s.put (Reg.MC_STATUS_STS t) e.code
  | none => (s.putBlock t l).put (Reg.MC_STATUS_STS t) Sts.ok.code

/-- The refusal of a user section for every tile, if there is one. -/
def State.userRefused (s : State) (l : List (BitVec 8)) : Option Sts :=
  if !s.blockVerifies l then some .sig else if !blockSound l then some .precond else none

/-- s with the user section l of the image loaded into every tile. -/
def State.loadUserAll (s : State) (l : List (BitVec 8)) : State := forUpto (fun s t => s.loadUser l t) 16 s

/-- s with the user section of the image loaded, where it has one; one that is required and refused stops the boot. -/
def State.loadUserSection (s : State) : State :=
  match s.secOf s.bank 4 with
  | none => s
  | some x =>
    match s.userRefused (s.secBytes s.bank x) with
    | some e => if s.imgOpt 0 1 = 1 then s.bootStop 4 e.code else s.loadUserAll (s.secBytes s.bank x)
    | none => s.loadUserAll (s.secBytes s.bank x)

/-- s with the microcode of the image loaded (R146). -/
def State.loadMicrocode (s : State) : State := (forUpto (fun s t => s.loadVendor t) 16 s).loadUserSection

/-- s with what the manifest sets (R302, R340). -/
def State.loadManifest (s : State) : State :=
  (((s.put Reg.GLB_VERSION_FW (Config.vendorBuild (s.secOfBytes s.bank 1)).toNat).put Reg.GLB_VERSION_IMAGE
    (s.imgVal s.bank 6 2)).put Reg.XNG_ABSENT_POLICY (s.imgOpt 2 2)).put Reg.PLC_SPARE_TARGET (s.imgVal s.bank 13 1)

/-! ## Register-write sections -/

/-- s with the entries of a register-write section applied in order: a refused one stops the boot (R341, R345). -/
def State.applyWrites (s : State) (kind : Nat) (l : List (BitVec 8)) : Nat → Nat → State
  | 0, _ => s
  | n + 1, i =>
    match s.s0Try (leAt l (8 * i) 3) (BitVec.ofNat 32 (leAt l (8 * i + 4) 4)) with
    | (s1, some e) => s1.bootStop kind e
    | (s1, none) => s1.applyWrites kind l n (i + 1)

/-- s with f applied to the bytes of each section of a type, in the table's order, while the boot has not stopped. -/
def State.eachSection (s : State) (kind : Nat) (f : State → List (BitVec 8) → State) : State :=
  forEach (fun s x => if x.kind = kind then s.unlessStopped (fun s => f s (s.secBytes s.bank x)) else s) (s.sections s.bank) s

/-- s with a register-write section applied. -/
def State.writeSection (s : State) (kind : Nat) (l : List (BitVec 8)) : State := s.applyWrites kind l (l.length / 8) 0

/-- s with every legal shadow of the module in force: what the image has set becomes active. -/
def State.transferAll (s : State) : State := forUpto (fun s g => s.transferGroup g) 16 s

/-! ## Stages 5 to 7 -/

/-- s with the clock plan applied (R344): its values come into force, the base FCW with them. -/
def State.clockPlan (s : State) : State :=
  let s1 := s.eachSection 5 (fun s l => s.writeSection 5 l)
  let s2 := { s1 with wrote := [] }.transferGroup (s1.get Reg.CLK_CTRL_UPD_GRP)
  let f : Nat := s2.active64 Reg.CLK_ROOT_FCW_LO Reg.CLK_ROOT_FCW_HI
  if fcwLegal f then (s2.put64 Reg.CLK_ROOT_FCW_ACT_LO Reg.CLK_ROOT_FCW_ACT_HI f).search else s2

/-- s at the end of stage 5: where the requested reference is not qualified, FALLBACK_EN is set and the oven oscillator is
the reference (R344). -/
def State.clockReady (s : State) : State :=
  if s.get Reg.CLK_STATUS_REF_OK = 1 ∧ s.get Reg.CLK_STATUS_REF_ACT = s.active Reg.CLK_CTRL_REF_SEL then s
  else
    let s1 := (s.put Reg.CLK_CTRL_FALLBACK_EN 1).putActive Reg.CLK_CTRL_FALLBACK_EN 1
    if s1.get Reg.CLK_STATUS_REF_OK = 1 ∧ s1.get Reg.CLK_STATUS_REF_ACT = 3 then s1 else s1.changeRef 3

/-- s with rank r RETIRED with a cause, at boot. -/
def State.bootRetire (s : State) (r cause : Nat) : State :=
  (s.rankRetired r).put (Reg.RANK_STATE_CAUSE r) cause

/-- s with a channel that no setting serves: its three ranks are RETIRED with cause 5, and recorded (R252, R254, R256). -/
def State.bootLoseChan (s : State) (ch : Nat) : State :=
  forEach (fun s r =>
    let s1 := s.bootRetire r 5
    { s1 with mc := { s1.mc with records := s1.mc.records.filter (fun p => decide (p.1 ≠ r)) ++ [(r, 5)] } }) (ranksOf ch)
    (s.put Reg.MEM_STATUS_TRAIN_FAIL 1)

/-- s with all stacks trained at their temperatures, fails being the channels with no working setting (R254, R344). -/
def State.bootTrain (s : State) (temps : BitVec 32) (fails : List Nat) : State :=
  let s1 := forUpto (fun s k => s.trained k (BitVec.ofNat 8 (temps.toNat / 2 ^ (8 * k)))) 4 s
  let s2 := forEach State.bootLoseChan fails s1
  let s3 := forEach (fun s p => s.bootRetire p.1 p.2) s2.pw.retired s2
  let s4 := s3.put Reg.MEM_STATUS_TRAINING 0
  if s4.served < 40 then s4.bootStop 0 Sts.trainfail.code else s4.bootAt 7

/-- s with stage 7 begun: with CAL_AT_BOOT set the procedures run in turn (R365). -/
def State.bootCal (s : State) : State :=
  if s.imgOpt 1 1 = 1 then s.calStart (CalRun.start 1 0 0 false true) else s

/-! ## Stage 8: the data sections (R342) -/

/-- Whether n bytes of a record from a on are 0. -/
def zeroAt (l : List (BitVec 8)) (a n : Nat) : Bool := ((l.drop a).take n).all (fun b => decide (b = 0))

/-- The records of a section of a size: none when its length is not a whole number of them, or it holds none. -/
def recordsOf (size : Nat) (l : List (BitVec 8)) : Option (List (List (BitVec 8))) :=
  if l.length = 0 ∨ l.length % size ≠ 0 then none
  else some ((upto (l.length / size)).map (fun i => (l.drop (size * i)).take size))

/-- s with the records of a section applied in order by f, or the boot stopped where one is not sound (R342). -/
def State.eachRecord (s : State) (kind size : Nat) (sound : List (BitVec 8) → Bool) (f : State → List (BitVec 8) → State)
    (l : List (BitVec 8)) : State :=
  match recordsOf size l with
  | none => s.bootStop kind Sts.precond.code
  | some rs =>
    if !rs.all sound then s.bootStop kind Sts.precond.code
    else forEach (fun s r => s.unlessStopped (fun s => f s r)) rs s

/-- Whether a timing-bank record is sound. -/
def timingSound (r : List (BitVec 8)) : Bool :=
  decide (leAt r 0 1 < 8 ∧ leAt r 1 1 < 32) && zeroAt r 2 6 && zeroAt r 233 7

/-- s with a timing set of the image committed as a host commit is (R186). -/
def State.loadTiming (s : State) (r : List (BitVec 8)) : State :=
  let g := leAt r 0 1
  let rows : SMap Word72 := (upto 25).foldl (fun m i => mset (fun _ => 0) m i (BitVec.ofNat 72 (leAt r (8 + 9 * i) 9))) []
  if s.stageLegal g rows false then s.commitSet g (leAt r 1 1) rows else s.bootStop 7 Sts.range.code

/-- Whether a coefficient-bank record is sound. -/
def coefSound (r : List (BitVec 8)) : Bool :=
  decide (leAt r 0 1 < 8 ∧ leAt r 1 1 < 2 ∧ leAt r 2 1 < 128 ∧ leAt r 3 1 ≤ 254) && zeroAt r 4 4 &&
  (upto 128).all (fun i =>
    decide (leAt r (8 + 4 * i) 4 < 2 ^ 18) && (decide (i ≤ leAt r 2 1) || decide (leAt r (8 + 4 * i) 4 = 0)))

/-- s with a coefficient bank of the image loaded (R222). -/
def State.loadCoef (s : State) (r : List (BitVec 8)) : State :=
  let c := leAt r 0 1
  let b := leAt r 1 1
  let taps := (upto 128).foldl (fun m i => mset (fun _ => 0) m (128 * b + i) (BitVec.ofNat 18 (leAt r (8 + 4 * i) 4)))
    (s.capture c).taps
  let s1 := s.setCapture c { s.capture c with taps := taps }
  if b = 0 then (s1.put (Reg.FIR_BANK_A_TAPS c) (leAt r 2 1)).put (Reg.FIR_BANK_A_GD c) (leAt r 3 1)
  else (s1.put (Reg.FIR_BANK_B_TAPS c) (leAt r 2 1)).put (Reg.FIR_BANK_B_GD c) (leAt r 3 1)

/-- Entry i of the row table of stack k in a stack address map with n rows a bank. -/
def mapEntry (l : List (BitVec 8)) (n k i : Nat) : Nat := leAt l (16 + 4 * (k * n + i)) 4

/-- Whether a stack address map is sound: its physical rows exist, and no table names one twice. -/
def mapSound (l : List (BitVec 8)) : Bool :=
  let n := leAt l 4 4
  decide (leAt l 0 4 = 0x4B58414D ∧ 1 ≤ n ∧ n ≤ 1048576 ∧ l.length = 16 + 16 * n) && zeroAt l 8 8 &&
  (upto 4).all (fun k =>
    let rows := ((upto n).map (mapEntry l n k)).filter (fun x => decide (x ≠ 0xFFFFFFFF))
    rows.all (fun x => decide (x < n)) && decide rows.Nodup)

/-- s with the stack address map of the image in use (R248). -/
def State.loadMap (s : State) (l : List (BitVec 8)) : State :=
  if mapSound l then
    let n := leAt l 4 4
    { s with mc := { s.mc with
      mapRows := n
      map := (upto (4 * n)).map (fun i => leAt l (16 + 4 * i) 4) } }
  else s.bootStop 9 Sts.precond.code

/-- Whether a placement hint is sound. -/
def hintSound (r : List (BitVec 8)) : Bool :=
  match leAt r 3 1 with
  | 1 => zeroAt r 7 1
  | 2 => zeroAt r 4 3 && decide (leAt r 7 1 < 4)
  | _ => false

/-- s with a placement hint of the image noted (R51). -/
def State.loadHint (s : State) (r : List (BitVec 8)) : State :=
  let b := if leAt r 3 1 = 1 then leAt r 4 3 else leAt r 7 1
  { s with mc := { s.mc with hints := s.mc.hints ++ [(leAt r 0 3, leAt r 3 1, b)] } }

/-- The ranks that serve as spares, first to last: the last rank of each stack in turn, from stack 3 down, then those before
them. -/
def spareOrder : List Nat := (upto 48).flatMap (fun i => [191 - i, 143 - i, 95 - i, 47 - i])

/-- s with n ranks in service made the spare reserve, from a list. -/
def State.makeSpares (s : State) : Nat → List Nat → State
  | 0, _ => s
  | _, [] => s
  | n + 1, r :: l =>
    if s.inService r then (s.put (Reg.RANK_STATE_STATE r) 1).makeSpares n l else s.makeSpares (n + 1) l

/-- Whether a segment section is sound but for its words. -/
def segSound (l : List (BitVec 8)) : Bool :=
  let n := leAt l 4 8
  let w := (l.length - 16) / 9
  decide (16 ≤ l.length ∧ (l.length - 16) % 9 = 0 ∧ 1 ≤ leAt l 0 3 ∧ fieldOf (leAt l 3 1) 5 3 = 0) &&
  decide (fieldOf (leAt l 3 1) 0 3 ≤ 4 ∧ fieldOf (leAt l 3 1) 3 2 ≤ 2 ∧ 1 ≤ n ∧ n < 2 ^ 34 ∧ w ≤ n) &&
  (match fieldOf (leAt l 3 1) 0 3 with
   | 3 => decide (w = 0 ∧ leAt l 12 4 = 0)
   | 4 => true
   | _ => decide (1 ≤ w ∧ leAt l 12 4 = 0))

/-- s with a segment of the image allocated and its words written: by one LOAD with FINAL set, or into the ring (R342). -/
def State.loadSegment (s : State) (l : List (BitVec 8)) : State :=
  if !segSound l then s.bootStop 11 Sts.precond.code
  else
    let k := leAt l 3 1
    match s.allocate (leAt l 0 3) (fieldOf k 0 3) (fieldOf k 3 2) (leAt l 4 8) (leAt l 12 4) with
    | .error e => s.bootStop 11 e.code
    | .ok (h, s1) =>
      match s1.seg h with
      | none => s1
      | some g =>
        let ws := bytesWords ((l.length - 16) / 9) (l.drop 16)
        match (s1.store g.sid).kind with
        | .capture => s1
        | .slipway => s1.ringWrite g.sid 0 [] ws
        | _ => (s1.writeWords g.sid 0 ws).setSeg h { g with
            loading := false
            finalDone := true }

/-- s with the boot profile of the image in effect (R17, R340): of Ash, the demand is that of Cobalt. -/
def State.bootProfile (s : State) (p : Nat) : State := (s.put Reg.GLB_STATE_PROFILE p).put Reg.GLB_PROFILE p

/-- s with the boot profile Ash entered: HBM in self-refresh, outputs safe (R23). -/
def State.bootAsh (s : State) : State := (s.bootProfile 3).selfRefresh.powerSafe.regate

/-- Whether a sag during the boot has taken the module into Ash, or is taking it there: it leaves Ash only by a write of an active
profile (R25). -/
def State.ashForced (s : State) : Bool := s.pw.change == some 3 || decide (s.get Reg.GLB_STATE_PROFILE = 3)

/-- s with the sections of stage 8 applied in their order (R342, R344): of a module in Ash since a sag, an active profile of the
image is the one whose demand is reserved (R24, R25). -/
def State.bootSetup (s : State) : State :=
  let p := s.imgOpt 4 4
  let s0 := if p < 3 then (if s.ashForced then { s with pw := { s.pw with prev := p } } else s.bootProfile p) else s
  let s1 := s0.eachSection 6 (fun s l => s.writeSection 6 l)
  let s2 := s1.unlessStopped (fun s => { s with wrote := [] }.transferAll)
  let s3 := s2.eachSection 7 (fun s l => s.eachRecord 7 240 timingSound State.loadTiming l)
  let s4 := s3.eachSection 8 (fun s l => s.eachRecord 8 520 coefSound State.loadCoef l)
  let s5 := s4.eachSection 9 State.loadMap
  let s6 := s5.eachSection 10 (fun s l => s.eachRecord 10 8 hintSound State.loadHint l)
  let s7 := s6.unlessStopped (fun s => s.makeSpares (s.get Reg.PLC_SPARE_TARGET) spareOrder)
  let s8 := s7.eachSection 11 State.loadSegment
  s8.unlessStopped (fun s => (if p = 3 ∧ !s.ashForced then s.bootAsh else s).bootAt 9)

/-! ## The start list (R346) -/

/-- The bytes of the start list. -/
def State.listBytes (s : State) : List (BitVec 8) := s.secOfBytes s.bank 12

/-- s with the boot complete (R344); ok says that the list has run to its end. Alarm 0x0007 of a steward that forced the
reset follows (R303). -/
def State.bootDone (s : State) (ok : Bool) : State :=
  let s1 := (if ok then s.put Reg.GLB_STATE_LISTED 1 else s).bootAt 10
  match s1.pw.pend7 with
  | some n => { s1 with pw := { s1.pw with pend7 := none } }.alarm 0x0007 n
  | none => s1

/-- s with entry i failed with a status; stop says that the list ends at it. -/
def State.listFail (s : State) (i e : Nat) (stop : Bool) : State :=
  let s1 := if s.get Reg.NVS_LIST_FAILS = 0 then (s.put Reg.NVS_LIST_ENTRY i).put Reg.NVS_LIST_STS e else s
  let s2 := s1.put Reg.NVS_LIST_FAILS (Nat.min (s1.get Reg.NVS_LIST_FAILS + 1) 0xFF)
  let s3 := { s2 with pw := { s2.pw with
    listAt := i + 1
    listWait := none } }
  if stop then s3.bootDone false else s3

/-- s with entry i over: the next is due. -/
def State.listNext (s : State) (i : Nat) : State :=
  { s with pw := { s.pw with
    listAt := i + 1
    listWait := none } }

/-- s with entry i over, or failed with a status. -/
def State.listEnd (s : State) (i : Nat) (e : Option Nat) (stop : Bool) : State :=
  match e with
  | some n => s.listFail i n stop
  | none => s.listNext i

/-- s with entry i begun. -/
def State.listBegin (s : State) (i a : Nat) (v : Word) (type : Nat) (stop : Bool) : State :=
  match type with
  | 0 => (s.s0Try a v).1.listEnd i (s.s0Try a v).2 stop
  | 1 =>
    match s.s0Try a v with
    | (s1, some e) => s1.listFail i e stop
    | (s1, none) => { s1 with pw := { s1.pw with listWait := some s1.now } }
  | 2 => { s with pw := { s.pw with listWait := some (s.now + s.microsec v.toNat) } }
  | 3 => s.bootDone true
  | _ => s.listFail i Sts.precond.code stop

/-- s with entry i, begun already, waited for: a command that runs on, or a time that has not come, changes nothing. -/
def State.listAwait (s : State) (i a : Nat) (v : Word) (type n : Nat) (stop : Bool) : State :=
  if type = 1 then
    match s.cmdState a v with
    | some (true, _) => s
    | some (false, e) => s.listEnd i (if e = 0 then none else some e) stop
    | none => s.listNext i
  else if s.now < n then s else s.listNext i

/-- s after one step of the start list in stage 9: S0 applies an entry, or waits on. -/
def State.listStep (s : State) : State :=
  if s.get Reg.NVS_BOOT_STAGE ≠ 9 ∨ s.stopped then s
  else
    let l := s.listBytes
    let i := s.pw.listAt
    if l.length < 16 * (i + 1) then s.bootDone true
    else
      let a := leAt l (16 * i) 3
      let v : Word := BitVec.ofNat 32 (leAt l (16 * i + 4) 4)
      let type := leAt l (16 * i + 8) 1
      let stop := decide (leAt l (16 * i + 9) 1 % 2 = 1)
      match s.pw.listWait with
      | none => s.listBegin i a v type stop
      | some n => s.listAwait i a v type n stop

/-- s with the start list run on as far as it goes now. -/
def State.listRun (s : State) : Nat → State
  | 0 => s
  | n + 1 => s.listStep.listRun n

/-! ## The end of a stage -/

/-- s with stage 4 over: firmware and microcode loaded, the calibration store in force (R146, R369), and the clock plan
applied as stage 5 begins. -/
def State.endStage4 (s : State) : State :=
  (s.loadManifest.loadMicrocode).unlessStopped (fun s => ((s.loadStore).bootAt 5).clockPlan)

/-- BOOT_STAGE_COMPLETE (R344): the stage in progress is over; temps and fails are what HBM training found. -/
def execBootStageComplete (temps : BitVec 32) (fails : List (Fin 64)) (s : State) : Host.Outcome State Fault Refusal :=
  .next (
    if !s.fieldLive ∨ s.stopped then s
    else match s.get Reg.NVS_BOOT_STAGE with
      | 1 => ((s.put Reg.CLK_STATUS_SVC_LOCK 1).bootAt 2).crossUp
      | 2 => (((s.put Reg.CLK_STATUS_SVC_LOCK 1).put Reg.NVS_BOOT_BANK (s.bankOrder.headD 0)).bootAt 3).crossUp
      | 3 => s.chooseBank
      | 4 => s.endStage4
      | 5 => ((s.clockReady).bootAt 6).put Reg.MEM_STATUS_TRAINING 1
      | 6 => (s.bootTrain temps (fails.map (fun c => c.val))).unlessStopped State.bootCal
      | 7 => if s.cal.run.isSome then s else s.bootAt 8
      | 8 => s.bootSetup
      | 9 => s.listRun (2 * (s.listBytes.length / 16) + 2)
      | _ => s)

end Sys2Proof.Machine
end

