-- ==== Sys2Proof/Machine/Smbus.lean ====
section
/-! DEFINITION. The SMBus port (R313). -/

namespace Sys2Proof.Machine

/-- Byte a of the module-information EEPROM before its CRC. -/
def eepromBody (a : Nat) : BitVec 8 :=
  if a < 4 then (leBytes 4 0x4B584945).getD a 0
  else if 44 ≤ a then 0xFF
  else Config.eepromByte a

/-- Byte a of the module-information EEPROM. -/
def eeprom (a : Nat) : BitVec 8 :=
  if a < 2044 then eepromBody a else (leBytes 4 (crc32 ((upto 2044).map eepromBody))).getD (a - 2044) 0

/-- SMBUS_EEPROM_READ (R313): n bytes read in sequence from an address; the address wraps at 2 KiB. -/
def execSmbusEepromRead (addr : BitVec 11) (n : Nat) (s : State) : Host.Outcome State Fault Refusal :=
  .next { s with xng := { s.xng with smbus := (upto n).map (fun i => eeprom ((addr.toNat + i) % 2048)) } }

/-- The status byte of address 0x5A, command 0x00. -/
def State.smbusStatus (s : State) : Nat :=
  bit s.pw.fieldOn + 2 * bit (decide (s.get Reg.XNG_HSTATUS_FIELD_ABSENT = 0)) + 4 * s.get Reg.GLB_STATE_LISTED +
  8 * bit s.alertLow

/-- SMBUS_STATUS_READ (R313). -/
def execSmbusStatusRead (s : State) : Host.Outcome State Fault Refusal :=
  .next { s with xng := { s.xng with smbus := [BitVec.ofNat 8 s.smbusStatus] } }

/-! ## The PCI Express endpoint (R308, R309) -/

/-- Double word off / 4 of the configuration header: one function, two 64-bit memory BARs that are not prefetchable, of 16 MiB and of
128 KiB, no I/O BAR, no expansion ROM, no INTx. -/
def State.cfgWord (s : State) (off : Nat) : Nat :=
  let p := s.xng.pcie
  match off / 4 with
  | 0 => 0x9072 * 2 ^ 16 + Config.pciVendor.toNat
  | 1 => p.command % 2 ^ 16 + 0x0010 * 2 ^ 16
  | 2 => 0x118000 * 2 ^ 8 + Config.pciRevision.toNat
  | 4 => p.bar0 % 2 ^ 32 / 2 ^ 24 * 2 ^ 24 + 4
  | 5 => p.bar0 / 2 ^ 32 % 2 ^ 32
  | 6 => p.bar2 % 2 ^ 32 / 2 ^ 17 * 2 ^ 17 + 4
  | 7 => p.bar2 / 2 ^ 32 % 2 ^ 32
  | 11 => leNat ((upto 4).map (fun i => eeprom (40 + i)))
  | 15 => p.intLine % 2 ^ 8
  | _ => 0

/-- The largest payload of a packet, in bytes: 128, 256 or 512 (R308). -/
def Pcie.maxPayload (p : Pcie) : Nat := 128 * 2 ^ Nat.min p.payload 2

/-- The largest read request, in bytes: up to 4,096. -/
def Pcie.maxRead (p : Pcie) : Nat := 128 * 2 ^ Nat.min p.readReq 5

end Sys2Proof.Machine
end

