-- ==== Sys2Proof/Machine/Agenda.lean ====
section
/-! DEFINITION. What the block does of itself: the first happening that the state says is due, as the command that stands for
it where a row does, and one core cycle once nothing is due. -/

namespace Sys2Proof.Machine

/-- A happening that is due: one that a command stands for, or one that no row of the table names. -/
inductive Due where
  | row (i : Instr)
  /-- The landed run in play on a tile has ended (R105). -/
  | landEnd (t : Nat)
  /-- The block that has left a tile makes way for what follows it (R122). -/
  | nextBlock (t : Nat)
  /-- Catches of a tile yield to a COUNT catch of their cycle (R64, R108). -/
  | yields (t : Nat)
  /-- A routine's changes of visible state fall due on a tile (R139). -/
  | changes (t : Nat)
  /-- The low watermarks meet the levels that the cycle leaves (R121). -/
  | lows
  /-- Levels that have waited for the commits of the cycle transfer (R202). -/
  | levels
  /-- This cycle's registrations meet the arms (R107, R129). -/
  | offers
  deriving DecidableEq, Repr

/-- The happening of a command, where b holds. -/
def rowIf (b : Bool) (i : Instr) : Option Due := if b then some (.row i) else none

/-- A happening, where b holds. -/
def dueIf (b : Bool) (d : Due) : Option Due := if b then some d else none

/-- The first of a list of what may be due. -/
def firstDue : List (Option Due) → Option Due
  | [] => none
  | some i :: _ => some i
  | none :: l => firstDue l

/-- Whether an optional cycle has come. -/
def State.come (s : State) (n : Option Nat) : Bool :=
  match n with
  | some n => decide (n ≤ s.now)
  | none => false

/-! ## One tile -/

/-- The row of a commit. -/
def commitRow (t : Tile) : ArmAct → Instr
  | .goto => .commitGoto t
  | .call => .commitCall t
  | .switch => .commitSwitch t
  | .stop => .commitStop t
  | .count => .commitCount t

/-- The commit of tile t that is due and abandons something, or drops every catch of its cycle, or makes the others yield to a
COUNT (R108, R109). -/
def State.commitDue (s : State) (t : Tile) : Option Due :=
  match s.catchesNow t with
  | none => none
  | some (n, here) =>
    if s.now < n then none
    else match s.winner t here with
      | none => some (.row (.commitGoto t))
      | some k =>
        let a := ((s.ctx k.c).arm k.k).act
        if a = .count then dueIf (decide (1 < here.length)) (.yields t) else some (.row (commitRow t a))

/-- The COUNT commit of tile t that is due: it comes after the instructions of its cycle (R64). -/
def State.countDue (s : State) (t : Tile) : Option Due :=
  match s.catchesNow t with
  | some (n, _) => rowIf (decide (n ≤ s.now)) (.commitCount t)
  | none => none

/-- Whether a PAUSE of tile t takes effect now (R89). -/
def State.pauseDue (s : State) (t : Tile) : Bool := (s.tile t).pauses.any (fun r => (s.pauseCycle t r).isSome)

/-- Whether the landed run in play on tile t has ended (R105). -/
def State.landOver (s : State) (t : Nat) : Bool :=
  match (s.tile t).landing with
  | some (_, 0) => decide (posCycle (s.tile t).landUntil ≤ s.now)
  | _ => false

/-- Whether the last word of the block in play on tile t leaves it by now (R120). -/
def State.blockDue (s : State) (t : Tile) : Bool :=
  (s.tile t).gapAt.isNone && !(s.tile t).blockDone && s.come (s.leftCycle t)

/-- Whether an underrun of tile t is to be dealt with now (R123, R126). -/
def State.underrunDue (s : State) (t : Tile) : Bool :=
  (s.tile t).diverting.isNone && (s.tile t).gapAt.isNone &&
  (match s.underrunAt t with
   | some (_, pos, _) => decide (posCycle pos ≤ s.now)
   | none => s.come ((s.firstDivert t).map (fun d => d.due)))

/-- What the item in play on tile t has due. -/
def State.itemDue (s : State) (t : Tile) : Option Due :=
  match (s.tile t).item with
  | .dead u _ => rowIf (decide (u ≤ s.now)) (.landedRunStart t)
  | .sync _ _ _ (some n) => rowIf (decide (n ≤ s.now)) (.syncRelease t)
  | .ramp _ steps _ _ k next => rowIf (decide (k < steps ∧ next ≤ s.now)) (.rampStep t)
  | .runaway => some (.row (.microFault t))
  | .stream _ _ _ _ _ _ _ _ (.held _) => rowIf (s.come (s.holdUntil t)) (.holdRestart t)
  | _ => none

/-- The instruction at the PC of tile t, when it is due (R57). -/
def State.wordDue (s : State) (t : Tile) : Option Due :=
  if (s.tile t).micro.upc.isSome then
    -- any user opcode stands for the going on of the routine in progress
    rowIf (s.routineDue t) (.userOpcode t (BitVec.ofNat 72 (0x16 * 2 ^ 66)))
  else if s.instrDue t then (s.wordAtPc t).map (fun w => .row (wordInstr t w))
  else none

/-- What the run on tile t has due, in the order of R129: blocks and underruns, then commits that abandon, then the rest. -/
def State.runDue (s : State) (t : Tile) : Option Due :=
  firstDue [
    rowIf (s.blockDue t) (.blockPlayed t),
    dueIf (s.blockOver t) (.nextBlock t),
    rowIf (s.underrunDue t) (.underrun t),
    rowIf (s.come ((s.tile t).diverting.map (fun d => d.due))) (.divertCommit t),
    s.commitDue t,
    s.itemDue t,
    dueIf (s.changeDue t) (.changes t),
    s.wordDue t,
    s.countDue t]

/-- Whether the tiles are clock-gated (R23): in Ash, and on the way into it. -/
def State.tilesGated (s : State) : Bool := decide (s.get Reg.GLB_STATE_PROFILE = 3) || decide (s.pw.change = some 3)

/-- The first happening due on tile t. -/
def State.tileDue (s : State) (t : Tile) : Option Due :=
  let x := s.tile t
  firstDue [
    rowIf (s.come ((s.fillOpen t).map (fun f => f.2.2))) (.landingFillComplete t),
    rowIf (s.come ((s.fillNext t).map (fun f => f.2.2))) (.landingFillStart t),
    dueIf (s.landOver t) (.landEnd t),
    rowIf (s.come (x.stops.head?.map (fun r => r.at_))) (.stopEffect t),
    rowIf (s.pauseDue t) (.pauseEffect t),
    (if x.running.isSome then s.runDue t else s.commitDue t),
    rowIf (s.come (x.start.bind (fun r => r.at_))) (.startCycle t)]

/-- The first happening due on the tiles of a list: none while they are clock-gated. -/
def State.tilesDue (s : State) : List Tile → Option Due
  | [] => none
  | t :: l =>
    match s.tileDue t with
    | some i => some i
    | none => s.tilesDue l

/-! ## The rest of the module -/

/-- What is due on the timers (R97). -/
def State.timerDue (s : State) : Option Due :=
  (s.evt.timers.find? (fun p => decide (p.2.expiry ≤ s.now))).map (fun p => .row (.timerExpiry (Fin.ofNat 16 p.1)))

/-- What is due on the segments: a redirection to apply (R47), an old storage to release (R50). -/
def State.segDue (s : State) : Option Due :=
  match s.segs.find? (fun p => match p.2.redirect with
    | some r => s.redirectDue r
    | none => false) with
  | some p => some (.row (.redirectApply (BitVec.ofNat 24 p.1)))
  | none =>
    (s.olds.find? (fun o => decide (s.refCount o.h o.sid = 0))).map
      (fun o => .row (.redirectOldRelease (BitVec.ofNat 24 o.h)))

/-- What is due on capture channel c (R206, R220). -/
def State.capDue (s : State) (c : CapCh) : Option Due :=
  firstDue [rowIf (s.come (s.capture c).sync) (.synchronisingReset c), rowIf (s.come (s.capture c).rngAt) (.rangeSettleReset c)]

/-- Whether the recording of buffer entry b has reached its end (R231). -/
def State.recDue (s : State) (b : BufNo) : Bool :=
  match s.recOf b with
  | some r => !r.ended && s.recFull b r
  | none => false

/-- What is due of the clocks and the sync (R275, R285). -/
def State.clockDue (s : State) : Option Due :=
  firstDue [
    rowIf (s.come (s.txl.sync.map (fun m => m.due))) .syncPulse,
    rowIf (decide (s.upPort = 4) && s.txl.sync.isNone && (s.txl.started || decide (s.loopSt = 4))) .syncIssue,
    (match s.clk.ramp with
     | some r =>
       if r.triangle then rowIf (r.stopping && decide (r.cur = r.base)) .triangleReturnToBase
       else rowIf (decide (r.cur = r.base + r.dev)) .clkRampEnd
     | none => none)]

/-- The rank whose migration must start now (R252): within 10 µs of its being retired. -/
def State.retireDue (s : State) : Option Nat :=
  (upto 192).find? (fun r => s.rankLeaving r && !s.mc.moving.contains r &&
    s.come ((mfind s.mc.retAt r).map (fun n => n + s.microsec 10)))

/-- What is due of the memory (R244, R246, R247, R252, R255). -/
def State.memDue (s : State) : Option Due :=
  firstDue [
    (s.urgentBank.map (fun b => .row (.urgentRefresh (Fin.ofNat 192 (b / 64)) (Fin.ofNat 64 b)))),
    rowIf s.hotOver .hotAshTimeout,
    (s.retireDue.map (fun r => .row (.migrationStart (some (Fin.ofNat 192 r)) 0))),
    rowIf s.retrainNow .autoRetrain,
    rowIf (s.come (s.mc.exitAt.map (fun n => n + s.tenNs 40)) && decide (s.get Reg.GLB_STATE_PROFILE ≠ 3)) .selfRefreshExit,
    rowIf (s.selfDue && decide (s.get Reg.MEM_SR_ACTIVE = 0)) .selfRefreshEntry]

/-- The first happening that the state says is due now. The levels and the registrations of the cycle come last: they meet the
slipways and the arms as the cycle leaves them. -/
def State.agenda (s : State) : Option Due :=
  firstDue [
    s.clockDue,
    s.segDue,
    s.timerDue,
    firstDue ((List.finRange 8).map s.capDue),
    (if s.tilesGated then none else s.tilesDue (List.finRange 16)),
    firstDue ((List.finRange 16).map (fun b => rowIf (s.recDue b) (.recordingEnd b))),
    firstDue ((List.finRange 8).map (fun w : Wave => rowIf (s.come (s.wave w).muteUntil) (.rangeMuteEnd w))),
    s.memDue,
    dueIf (!s.evt.levels.isEmpty) .levels,
    dueIf ((upto 256).any (fun e => (s.lowOpen e).isSome)) .lows,
    dueIf (!s.evt.offers.isEmpty) .offers]

/-- s with a happening made that no row of the table names; a command is exec's. -/
def State.happen (s : State) (d : Due) : State :=
  match d with
  | .row _ => s
  | .landEnd t => (s.setTile t { s.tile t with landing := none }).gcSlots t
  | .nextBlock t => s.nextBlock t
  | .yields t => s.yieldCatches t
  | .changes t => s.routineChanges t
  | .levels => s.levelsDue
  | .lows => forUpto State.lowTest 256 s
  | .offers => s.offerAll

/-! ## Registrations and strobes that wait for their cycle -/

/-- Whether a registration or a strobe is due now. -/
def State.settleDue (s : State) : Bool :=
  s.evt.occ.any (fun o => decide (o.cyc ≤ s.now)) || s.evt.sys.any (fun r => decide (r.cyc ≤ s.now)) ||
  s.evt.strobeDue.any (fun p => decide (p.1 ≤ s.now))

/-- s with the strobes and the registrations due now made (R96, R116, R322). -/
def State.settleOwed (s : State) : State := s.strobeDueNow.occDue.sysDue

/-! ## One core cycle -/

/-- s with this core cycle run on the pattern groups: every vector cycle that has begun in it is evaluated (R183 to R193), and
the driving pins are noted. -/
def State.patTick (s : State) : State :=
  forUpto (fun s g => (s.catchUp (8 + g) ((s.now + 1) * Config.fine)).outNote g) 8 s

/-- s with the outputs of the tiles that run out of their safe state again where nothing holds them in it (R175, R198). -/
def State.outTick (s : State) : State :=
  forUpto (fun s t => if (s.tile t).running.isSome then s.closeOutput t else s) 16 s

/-- s with the cycle noted in which a condition of R247 does not hold. -/
def State.idleTick (s : State) : State := if s.memIdle then s else s.memWake

/-- s with this cycle's resolution made on every tile (R59): none while they are clock-gated. -/
def State.resolveTick (s : State) : State := if s.tilesGated then s else forUpto State.aheadTick 16 s

/-- s with this core cycle's work done: the outputs, the capture channels, the trigger inputs, the clocks, what waits for a
cycle, the boot's start list, and one access of the bridge. -/
def State.cycleWork (s : State) : State :=
  let s1 := (forUpto (fun s w => (s.waveTick w).fetchTick w) 8 s.outTick).patTick
  let s2 := (forUpto State.capTick 8 s1).trigTick
  let s3 := s2.resolveTick
  let s4 := s3.clkTick.acqTick.platTick.portTick.safeTick.urgentTick.flushTick.idleTick
  s4.listStep.accessTick.monTick

/-- s one core cycle later: with the field side without power or held in reset, only time passes. -/
def State.tick (s : State) : State :=
  { (if s.fieldLive then s.cycleWork else s).noteWrites with now := s.now + 1 }

end Sys2Proof.Machine
end

