-- ==== Sys2Proof/Machine/Dispatch.lean ====
section
/-! DEFINITION. One arm a command. -/

namespace Sys2Proof.Machine

/-- The effect of a command on everything but the queue. -/
def exec (i : Instr) (s : State) : Host.Outcome State Fault Refusal :=
  match i with
  | .fieldPowerOnReset => Sys2Proof.Machine.execFieldPowerOnReset s
  | .fieldRstNAssert => Sys2Proof.Machine.execFieldRstNAssert s
  | .fieldRstNRelease => Sys2Proof.Machine.execFieldRstNRelease s
  | .fieldResetAckTimeout => Sys2Proof.Machine.execFieldResetAckTimeout s
  | .nvsFieldRst v => Sys2Proof.Machine.execNvsFieldRst v s
  | .softReset v => Sys2Proof.Machine.execSoftReset v s
  | .tileReset v => Sys2Proof.Machine.execTileReset v s
  | .mramWriteComplete => Sys2Proof.Machine.execMramWriteComplete s
  | .stewardStop n => Sys2Proof.Machine.execStewardStop n s
  | .serviceLockLoss => Sys2Proof.Machine.execServiceLockLoss s
  | .sagBelow42V vin => Sys2Proof.Machine.execSagBelow42V vin s
  | .sagBelow38V vin => Sys2Proof.Machine.execSagBelow38V vin s
  | .sagBelow36V vin => Sys2Proof.Machine.execSagBelow36V vin s
  | .supplyRecover42V5 vin => Sys2Proof.Machine.execSupplyRecover42V5 vin s
  | .supplyRecover40V vin => Sys2Proof.Machine.execSupplyRecover40V vin s
  | .dormantRequest v => Sys2Proof.Machine.execDormantRequest v s
  | .fieldPowerRequest v => Sys2Proof.Machine.execFieldPowerRequest v s
  | .profileChange v => Sys2Proof.Machine.execProfileChange v s
  | .profileChangeComplete => Sys2Proof.Machine.execProfileChangeComplete s
  | .ashEntry v => Sys2Proof.Machine.execAshEntry v s
  | .ashEntryComplete => Sys2Proof.Machine.execAshEntryComplete s
  | .ashExit v => Sys2Proof.Machine.execAshExit v s
  | .ashExitComplete => Sys2Proof.Machine.execAshExitComplete s
  | .glbKeyWrite v => Sys2Proof.Machine.execGlbKeyWrite v s
  | .glbUpdate v => Sys2Proof.Machine.execGlbUpdate v s
  | .glbFlagsWrite v => Sys2Proof.Machine.execGlbFlagsWrite v s
  | .mailboxRequest v => Sys2Proof.Machine.execMailboxRequest v s
  | .mailboxSample => Sys2Proof.Machine.execMailboxSample s
  | .hvEnable v => Sys2Proof.Machine.execHvEnable v s
  | .hvDisable v => Sys2Proof.Machine.execHvDisable v s
  | .hvRailsUp => Sys2Proof.Machine.execHvRailsUp s
  | .hvRailFault pos neg => Sys2Proof.Machine.execHvRailFault pos neg s
  | .registerWrite addr bytes v => Sys2Proof.Machine.execRegisterWrite addr bytes v s
  | .registerReadMessage addr bytes => Sys2Proof.Machine.execRegisterReadMessage addr bytes s
  | .alloc tag => Sys2Proof.Machine.execAlloc tag s
  | .free tag => Sys2Proof.Machine.execFree tag s
  | .load tag => Sys2Proof.Machine.execLoad tag s
  | .loadEnd h => Sys2Proof.Machine.execLoadEnd h s
  | .redirect tag => Sys2Proof.Machine.execRedirect tag s
  | .redirectApply h => Sys2Proof.Machine.execRedirectApply h s
  | .redirectOldRelease h => Sys2Proof.Machine.execRedirectOldRelease h s
  | .query tag => Sys2Proof.Machine.execQuery tag s
  | .migrate tag extents => Sys2Proof.Machine.execMigrate tag extents s
  | .readmit tag => Sys2Proof.Machine.execReadmit tag s
  | .readmitTestEnd rank found passed => Sys2Proof.Machine.execReadmitTestEnd rank found passed s
  | .migrationStart rank extents => Sys2Proof.Machine.execMigrationStart rank extents s
  | .migrationExtentDone rank => Sys2Proof.Machine.execMigrationExtentDone rank s
  | .retirementRecordWrite rank => Sys2Proof.Machine.execRetirementRecordWrite rank s
  | .nop t ops => Sys2Proof.Machine.execNop t ops s
  | .halt t ops => Sys2Proof.Machine.execHalt t ops s
  | .play t ops => Sys2Proof.Machine.execPlay t ops s
  | .playn t ops => Sys2Proof.Machine.execPlayn t ops s
  | .loop t ops => Sys2Proof.Machine.execLoop t ops s
  | .endloop t ops => Sys2Proof.Machine.execEndloop t ops s
  | .call t ops => Sys2Proof.Machine.execCall t ops s
  | .ret t ops => Sys2Proof.Machine.execRet t ops s
  | .jump t ops => Sys2Proof.Machine.execJump t ops s
  | .arm t ops => Sys2Proof.Machine.execArm t ops s
  | .disarm t ops => Sys2Proof.Machine.execDisarm t ops s
  | .wait t ops => Sys2Proof.Machine.execWait t ops s
  | .sync t ops => Sys2Proof.Machine.execSync t ops s
  | .syncRelease t => Sys2Proof.Machine.execSyncRelease t s
  | .setts t ops => Sys2Proof.Machine.execSetts t ops s
  | .setf t ops => Sys2Proof.Machine.execSetf t ops s
  | .setph t ops => Sys2Proof.Machine.execSetph t ops s
  | .ramp t ops => Sys2Proof.Machine.execRamp t ops s
  | .rampStep t => Sys2Proof.Machine.execRampStep t s
  | .mark t ops => Sys2Proof.Machine.execMark t ops s
  | .stream t ops => Sys2Proof.Machine.execStream t ops s
  | .switch t ops => Sys2Proof.Machine.execSwitch t ops s
  | .signal t ops => Sys2Proof.Machine.execSignal t ops s
  | .count t ops => Sys2Proof.Machine.execCount t ops s
  | .userOpcode t word => Sys2Proof.Machine.execUserOpcode t word s
  | .spinFault t => Sys2Proof.Machine.execSpinFault t s
  | .microFault t => Sys2Proof.Machine.execMicroFault t s
  | .gap t => Sys2Proof.Machine.execGap t s
  | .gapEnd t => Sys2Proof.Machine.execGapEnd t s
  | .seqLoad t tag c mode => Sys2Proof.Machine.execSeqLoad t tag c mode s
  | .seqPrep t tag c mode => Sys2Proof.Machine.execSeqPrep t tag c mode s
  | .prepComplete t => Sys2Proof.Machine.execPrepComplete t s
  | .seqStart t tag c mode => Sys2Proof.Machine.execSeqStart t tag c mode s
  | .seqResume t tag c mode => Sys2Proof.Machine.execSeqResume t tag c mode s
  | .startCycle t => Sys2Proof.Machine.execStartCycle t s
  | .seqPause t tag c mode => Sys2Proof.Machine.execSeqPause t tag c mode s
  | .pauseEffect t => Sys2Proof.Machine.execPauseEffect t s
  | .seqStop t tag c mode => Sys2Proof.Machine.execSeqStop t tag c mode s
  | .stopEffect t => Sys2Proof.Machine.execStopEffect t s
  | .seqRelease t tag c mode => Sys2Proof.Machine.execSeqRelease t tag c mode s
  | .contextTableWrite c off v => Sys2Proof.Machine.execContextTableWrite c off v s
  | .trigEdge n rising fine => Sys2Proof.Machine.execTrigEdge n rising fine s
  | .thresholdChange c k q ts => Sys2Proof.Machine.execThresholdChange c k q ts s
  | .pinCompareFail p ts tsel => Sys2Proof.Machine.execPinCompareFail p ts tsel s
  | .matcherMatch g m bit code ts => Sys2Proof.Machine.execMatcherMatch g m bit code ts s
  | .eventRegistration n ts => Sys2Proof.Machine.execEventRegistration n ts s
  | .commitGoto t => Sys2Proof.Machine.execCommitGoto t s
  | .commitCall t => Sys2Proof.Machine.execCommitCall t s
  | .commitSwitch t => Sys2Proof.Machine.execCommitSwitch t s
  | .commitStop t => Sys2Proof.Machine.execCommitStop t s
  | .commitCount t => Sys2Proof.Machine.execCommitCount t s
  | .landedRunStart t => Sys2Proof.Machine.execLandedRunStart t s
  | .landingFillStart t => Sys2Proof.Machine.execLandingFillStart t s
  | .landingFillComplete t => Sys2Proof.Machine.execLandingFillComplete t s
  | .timerStart n => Sys2Proof.Machine.execTimerStart n s
  | .timerStop n => Sys2Proof.Machine.execTimerStop n s
  | .timerExpiry n => Sys2Proof.Machine.execTimerExpiry n s
  | .evtHostRaise v => Sys2Proof.Machine.execEvtHostRaise v s
  | .hostEventRaiseMessage n => Sys2Proof.Machine.execHostEventRaiseMessage n s
  | .systemEventMessage se origin ts apply port => Sys2Proof.Machine.execSystemEventMessage se origin ts apply port s
  | .blockPlayed t => Sys2Proof.Machine.execBlockPlayed t s
  | .ringFillResume h => Sys2Proof.Machine.execRingFillResume h s
  | .underrun t => Sys2Proof.Machine.execUnderrun t s
  | .holdRestart t => Sys2Proof.Machine.execHoldRestart t s
  | .divertCommit t => Sys2Proof.Machine.execDivertCommit t s
  | .slipwayTableWrite e off v => Sys2Proof.Machine.execSlipwayTableWrite e off v s
  | .mcUload t v => Sys2Proof.Machine.execMcUload t v s
  | .userReloadComplete t => Sys2Proof.Machine.execUserReloadComplete t s
  | .ukeyOpen v => Sys2Proof.Machine.execUkeyOpen v s
  | .ukeyHashWrite k v => Sys2Proof.Machine.execUkeyHashWrite k v s
  | .fuseBurnComplete => Sys2Proof.Machine.execFuseBurnComplete s
  | .wavForceSafeSet w v => Sys2Proof.Machine.execWavForceSafeSet w v s
  | .wavForceSafeClear w v => Sys2Proof.Machine.execWavForceSafeClear w v s
  | .rangeMuteEnd w => Sys2Proof.Machine.execRangeMuteEnd w s
  | .tsHstageD2Write g v => Sys2Proof.Machine.execTsHstageD2Write g v s
  | .tsHcommit g v => Sys2Proof.Machine.execTsHcommit g v s
  | .grpForceSafeSet g v => Sys2Proof.Machine.execGrpForceSafeSet g v s
  | .grpForceSafeClear g v => Sys2Proof.Machine.execGrpForceSafeClear g v s
  | .liveHold second v => Sys2Proof.Machine.execLiveHold second v s
  | .pcapStart g v => Sys2Proof.Machine.execPcapStart g v s
  | .pcapStop g v => Sys2Proof.Machine.execPcapStop g v s
  | .captureChannelReset c v => Sys2Proof.Machine.execCaptureChannelReset c v s
  | .capSyncRequest c v => Sys2Proof.Machine.execCapSyncRequest c v s
  | .synchronisingReset c => Sys2Proof.Machine.execSynchronisingReset c s
  | .rangeSettleReset c => Sys2Proof.Machine.execRangeSettleReset c s
  | .settlingEnd c => Sys2Proof.Machine.execSettlingEnd c s
  | .firBankWrite c second tap v => Sys2Proof.Machine.execFirBankWrite c second tap v s
  | .firSwap c v => Sys2Proof.Machine.execFirSwap c v s
  | .fadeStart c => Sys2Proof.Machine.execFadeStart c s
  | .fadeEnd c => Sys2Proof.Machine.execFadeEnd c s
  | .capRecordStart c v => Sys2Proof.Machine.execCapRecordStart c v s
  | .capRecordStop c v => Sys2Proof.Machine.execCapRecordStop c v s
  | .cbufTrig b v => Sys2Proof.Machine.execCbufTrig b v s
  | .recordingEnd b => Sys2Proof.Machine.execRecordingEnd b s
  | .recordingDrainComplete b => Sys2Proof.Machine.execRecordingDrainComplete b s
  | .correctedRead rank n loc => Sys2Proof.Machine.execCorrectedRead rank n loc s
  | .uncorrectableRead rank h off loc => Sys2Proof.Machine.execUncorrectableRead rank h off loc s
  | .caParityError rank loc => Sys2Proof.Machine.execCaParityError rank loc s
  | .writeParityError rank loc retryFailed => Sys2Proof.Machine.execWriteParityError rank loc retryFailed s
  | .lateRead => Sys2Proof.Machine.execLateRead s
  | .perBankRefresh rank bank idle => Sys2Proof.Machine.execPerBankRefresh rank bank idle s
  | .urgentRefresh rank bank => Sys2Proof.Machine.execUrgentRefresh rank bank s
  | .hbmTempRead t0 t1 t2 t3 => Sys2Proof.Machine.execHbmTempRead t0 t1 t2 t3 s
  | .hotAshTimeout => Sys2Proof.Machine.execHotAshTimeout s
  | .selfRefreshEntry => Sys2Proof.Machine.execSelfRefreshEntry s
  | .selfRefreshExit => Sys2Proof.Machine.execSelfRefreshExit s
  | .autoRetrain => Sys2Proof.Machine.execAutoRetrain s
  | .retrainComplete k temp fails lost => Sys2Proof.Machine.execRetrainComplete k temp fails lost s
  | .refLoss => Sys2Proof.Machine.execRefLoss s
  | .refQualified src => Sys2Proof.Machine.execRefQualified src s
  | .rootLockLoss => Sys2Proof.Machine.execRootLockLoss s
  | .lockAcquired band => Sys2Proof.Machine.execLockAcquired band s
  | .slewComplete => Sys2Proof.Machine.execSlewComplete s
  | .retune tag => Sys2Proof.Machine.execRetune tag s
  | .relock tag => Sys2Proof.Machine.execRelock tag s
  | .rampStart tag mode => Sys2Proof.Machine.execRampStart tag mode s
  | .rampStop tag mode => Sys2Proof.Machine.execRampStop tag mode s
  | .clkRampEnd => Sys2Proof.Machine.execClkRampEnd s
  | .lightPresent p partner => Sys2Proof.Machine.execLightPresent p partner s
  | .laneAligned p => Sys2Proof.Machine.execLaneAligned p s
  | .trainingTimeout p => Sys2Proof.Machine.execTrainingTimeout p s
  | .portCalibrationDone p rtt turn resid => Sys2Proof.Machine.execPortCalibrationDone p rtt turn resid s
  | .lightLoss p => Sys2Proof.Machine.execLightLoss p s
  | .keepaliveTimeout p => Sys2Proof.Machine.execKeepaliveTimeout p s
  | .keepaliveSend p => Sys2Proof.Machine.execKeepaliveSend p s
  | .keepaliveMessage p time trace joined depth ready => Sys2Proof.Machine.execKeepaliveMessage p time trace joined depth ready s
  | .syncIssue => Sys2Proof.Machine.execSyncIssue s
  | .syncMessage p ts worst grants members => Sys2Proof.Machine.execSyncMessage p ts worst grants members s
  | .syncPulse => Sys2Proof.Machine.execSyncPulse s
  | .peerDataFrame p kind h off words bad => Sys2Proof.Machine.execPeerDataFrame p kind h off words bad s
  | .txlRetrain tag p => Sys2Proof.Machine.execTxlRetrain tag p s
  | .txlDown tag p => Sys2Proof.Machine.execTxlDown tag p s
  | .txlIdWrite v => Sys2Proof.Machine.execTxlIdWrite v s
  | .heartbeatSend host => Sys2Proof.Machine.execHeartbeatSend host s
  | .heartbeatMessage host => Sys2Proof.Machine.execHeartbeatMessage host s
  | .fieldAbsenceTimeout => Sys2Proof.Machine.execFieldAbsenceTimeout s
  | .hostAbsenceTimeout => Sys2Proof.Machine.execHostAbsenceTimeout s
  | .watchdogExpiry => Sys2Proof.Machine.execWatchdogExpiry s
  | .xngKick v => Sys2Proof.Machine.execXngKick v s
  | .xngWdog v => Sys2Proof.Machine.execXngWdog v s
  | .xngRaise v => Sys2Proof.Machine.execXngRaise v s
  | .alarmMessage => Sys2Proof.Machine.execAlarmMessage s
  | .notificationMessage => Sys2Proof.Machine.execNotificationMessage s
  | .xngPopAlarm v => Sys2Proof.Machine.execXngPopAlarm v s
  | .xngPopNote v => Sys2Proof.Machine.execXngPopNote v s
  | .safeLatchClear v => Sys2Proof.Machine.execSafeLatchClear v s
  | .xngRingTail r v descs => Sys2Proof.Machine.execXngRingTail r v descs s
  | .ferryFrame r words => Sys2Proof.Machine.execFerryFrame r words s
  | .ferryDescriptorComplete r => Sys2Proof.Machine.execFerryDescriptorComplete r s
  | .perstNAssert => Sys2Proof.Machine.execPerstNAssert s
  | .perstNRelease => Sys2Proof.Machine.execPerstNRelease s
  | .smbusEepromRead addr n => Sys2Proof.Machine.execSmbusEepromRead addr n s
  | .smbusStatusRead => Sys2Proof.Machine.execSmbusStatusRead s
  | .nvWriteEnable v => Sys2Proof.Machine.execNvWriteEnable v s
  | .imgWriteBlock tag => Sys2Proof.Machine.execImgWriteBlock tag s
  | .imgCommit tag => Sys2Proof.Machine.execImgCommit tag s
  | .imgCommandComplete => Sys2Proof.Machine.execImgCommandComplete s
  | .dacLinearity tag target => Sys2Proof.Machine.execDacLinearity tag target s
  | .dacMarkerTiming tag target => Sys2Proof.Machine.execDacMarkerTiming tag target s
  | .adcCalibration tag target => Sys2Proof.Machine.execAdcCalibration tag target s
  | .pinLevels tag target => Sys2Proof.Machine.execPinLevels tag target s
  | .pinDeskew tag target opt => Sys2Proof.Machine.execPinDeskew tag target opt s
  | .terxaSkew tag target => Sys2Proof.Machine.execTerxaSkew tag target s
  | .hbmRetrain tag target => Sys2Proof.Machine.execHbmRetrain tag target s
  | .calCommit tag target => Sys2Proof.Machine.execCalCommit tag target s
  | .calProcedureComplete ok a b lat => Sys2Proof.Machine.execCalProcedureComplete ok a b lat s
  | .calCommitComplete => Sys2Proof.Machine.execCalCommitComplete s
  | .dacTempRead temps => Sys2Proof.Machine.execDacTempRead temps s
  | .monStart n => Sys2Proof.Machine.execMonStart n s
  | .monStop n => Sys2Proof.Machine.execMonStop n s
  | .monSnapshot n => Sys2Proof.Machine.execMonSnapshot n s
  | .bootStageComplete temps fails => Sys2Proof.Machine.execBootStageComplete temps fails s
  | .blockLockLoss port => Sys2Proof.Machine.execBlockLockLoss port s
  | .triangleReturnToBase => Sys2Proof.Machine.execTriangleReturnToBase s
  | .hostSidePowerUp => Sys2Proof.Machine.execHostSidePowerUp s
  | .hostSidePowerLoss => Sys2Proof.Machine.execHostSidePowerLoss s

end Sys2Proof.Machine
end

