-- ==== Sys2Proof/Machine/Step.lean ====
section
/-! DEFINITION. One step: the command at the front of the queue; on an empty queue what the block does of itself. -/

namespace Sys2Proof.Machine

/-- The block with no command waiting: what is due now happens, one thing a step; with nothing due, one core cycle passes. A
happening that would change nothing does not hold time up. -/
def idle (s : State) : Host.Outcome State Fault Refusal :=
  if !s.fieldLive then .next s.tick
  else if s.settleDue then .next s.settleOwed
  else match s.agenda with
    | none => .next s.tick
    | some (.row c) =>
      (match exec c s with
       | .next t => .next (if t = s then s.tick else t)
       | o => o)
    | some d => .next (if s.happen d = s then s.tick else s.happen d)

/-- One step of the module. -/
def step (s : State) : Host.Outcome State Fault Refusal :=
  match s.pending with
  | c :: cs => exec c { s with pending := cs }
  | [] => idle s

/-- s with the command that a word spells at the front of its queue; s itself where the word spells none. -/
def State.withFetchWord (s : State) (nbits w : Nat) : State :=
  match decodeTableWord nbits w with
  | some c => { s with pending := c :: s.pending }
  | none => s

end Sys2Proof.Machine
end

