-- ==== Sys2Proof/WellFormed.lean ====
section
/-! DEFINITION. Which commands keep the bounds that the spec states for them: the aligned widths of accesses, the sizes of
frames and of readings. exec answers for the others too: a narrow or unaligned access, which a sender can send, is discarded
or reads 0 as R317 says. -/

namespace Sys2Proof

/-- A write of 4 bytes, or of 8, aligned to its width (R317). -/
def accessOk (addr : BitVec 24) (bytes : Nat) : Bool :=
  decide ((bytes = 4 ∧ addr.toNat % 4 = 0) ∨ (bytes = 8 ∧ addr.toNat % 8 = 0))

/-- A read of 1, 2, 4 or 8 bytes, aligned to its width (R317). -/
def readOk (addr : BitVec 24) (bytes : Nat) : Bool :=
  accessOk addr bytes || decide (bytes = 1 ∨ (bytes = 2 ∧ addr.toNat % 2 = 0))

/-- Whether a command keeps its bounds (R317 for accesses, R61 for user opcodes, R353 for supply readings, R307 for
frames). -/
def Instr.wf (i : Instr) : Bool :=
  match i with
  | .fieldPowerOnReset => true
  | .fieldRstNAssert => true
  | .fieldRstNRelease => true
  | .fieldResetAckTimeout => true
  | .nvsFieldRst _ => true
  | .softReset _ => true
  | .tileReset _ => true
  | .mramWriteComplete => true
  | .stewardStop _ => true
  | .serviceLockLoss => true
  | .sagBelow42V vin => decide (vin.toNat < 420)
  | .sagBelow38V vin => decide (vin.toNat < 380)
  | .sagBelow36V vin => decide (vin.toNat < 360)
  | .supplyRecover42V5 vin => decide (425 ≤ vin.toNat)
  | .supplyRecover40V vin => decide (400 ≤ vin.toNat)
  | .dormantRequest _ => true
  | .fieldPowerRequest _ => true
  | .profileChange _ => true
  | .profileChangeComplete => true
  | .ashEntry _ => true
  | .ashEntryComplete => true
  | .ashExit _ => true
  | .ashExitComplete => true
  | .glbKeyWrite _ => true
  | .glbUpdate _ => true
  | .glbFlagsWrite _ => true
  | .mailboxRequest _ => true
  | .mailboxSample => true
  | .hvEnable _ => true
  | .hvDisable _ => true
  | .hvRailsUp => true
  | .hvRailFault pos neg => pos || neg
  | .registerWrite addr bytes _ => accessOk addr bytes
  | .registerReadMessage addr bytes => readOk addr bytes
  | .alloc _ => true
  | .free _ => true
  | .load _ => true
  | .loadEnd _ => true
  | .redirect _ => true
  | .redirectApply _ => true
  | .redirectOldRelease _ => true
  | .query _ => true
  | .migrate _ _ => true
  | .readmit _ => true
  | .readmitTestEnd _ _ _ => true
  | .migrationStart _ _ => true
  | .migrationExtentDone _ => true
  | .retirementRecordWrite _ => true
  | .nop _ _ => true
  | .halt _ _ => true
  | .play _ _ => true
  | .playn _ _ => true
  | .loop _ _ => true
  | .endloop _ _ => true
  | .call _ _ => true
  | .ret _ _ => true
  | .jump _ _ => true
  | .arm _ _ => true
  | .disarm _ _ => true
  | .wait _ _ => true
  | .sync _ _ => true
  | .syncRelease _ => true
  | .setts _ _ => true
  | .setf _ _ => true
  | .setph _ _ => true
  | .ramp _ _ => true
  | .rampStep _ => true
  | .mark _ _ => true
  | .stream _ _ => true
  | .switch _ _ => true
  | .signal _ _ => true
  | .count _ _ => true
  | .userOpcode _ word => decide (0x16 ≤ fieldOf word.toNat 66 6)
  | .spinFault _ => true
  | .microFault _ => true
  | .gap _ => true
  | .gapEnd _ => true
  | .seqLoad _ _ _ _ => true
  | .seqPrep _ _ _ _ => true
  | .prepComplete _ => true
  | .seqStart _ _ _ _ => true
  | .seqResume _ _ _ _ => true
  | .startCycle _ => true
  | .seqPause _ _ _ _ => true
  | .pauseEffect _ => true
  | .seqStop _ _ _ _ => true
  | .stopEffect _ => true
  | .seqRelease _ _ _ _ => true
  | .contextTableWrite _ _ _ => true
  | .trigEdge _ _ _ => true
  | .thresholdChange _ _ _ _ => true
  | .pinCompareFail _ _ _ => true
  | .matcherMatch _ _ _ _ _ => true
  | .eventRegistration _ _ => true
  | .commitGoto _ => true
  | .commitCall _ => true
  | .commitSwitch _ => true
  | .commitStop _ => true
  | .commitCount _ => true
  | .landedRunStart _ => true
  | .landingFillStart _ => true
  | .landingFillComplete _ => true
  | .timerStart _ => true
  | .timerStop _ => true
  | .timerExpiry _ => true
  | .evtHostRaise _ => true
  | .hostEventRaiseMessage _ => true
  | .systemEventMessage _ _ _ _ _ => true
  | .blockPlayed _ => true
  | .ringFillResume _ => true
  | .underrun _ => true
  | .holdRestart _ => true
  | .divertCommit _ => true
  | .slipwayTableWrite _ _ _ => true
  | .mcUload _ _ => true
  | .userReloadComplete _ => true
  | .ukeyOpen _ => true
  | .ukeyHashWrite _ _ => true
  | .fuseBurnComplete => true
  | .wavForceSafeSet _ _ => true
  | .wavForceSafeClear _ _ => true
  | .rangeMuteEnd _ => true
  | .tsHstageD2Write _ _ => true
  | .tsHcommit _ _ => true
  | .grpForceSafeSet _ _ => true
  | .grpForceSafeClear _ _ => true
  | .liveHold _ _ => true
  | .pcapStart _ _ => true
  | .pcapStop _ _ => true
  | .captureChannelReset _ _ => true
  | .capSyncRequest _ _ => true
  | .synchronisingReset _ => true
  | .rangeSettleReset _ => true
  | .settlingEnd _ => true
  | .firBankWrite _ _ _ _ => true
  | .firSwap _ _ => true
  | .fadeStart _ => true
  | .fadeEnd _ => true
  | .capRecordStart _ _ => true
  | .capRecordStop _ _ => true
  | .cbufTrig _ _ => true
  | .recordingEnd _ => true
  | .recordingDrainComplete _ => true
  | .correctedRead _ _ _ => true
  | .uncorrectableRead _ _ _ _ => true
  | .caParityError _ _ => true
  | .writeParityError _ _ _ => true
  | .lateRead => true
  | .perBankRefresh _ _ _ => true
  | .urgentRefresh _ _ => true
  | .hbmTempRead _ _ _ _ => true
  | .hotAshTimeout => true
  | .selfRefreshEntry => true
  | .selfRefreshExit => true
  | .autoRetrain => true
  | .retrainComplete _ _ _ _ => true
  | .refLoss => true
  | .refQualified _ => true
  | .rootLockLoss => true
  | .lockAcquired _ => true
  | .slewComplete => true
  | .retune _ => true
  | .relock _ => true
  | .rampStart _ _ => true
  | .rampStop _ _ => true
  | .clkRampEnd => true
  | .lightPresent _ _ => true
  | .laneAligned _ => true
  | .trainingTimeout _ => true
  | .portCalibrationDone _ _ _ _ => true
  | .lightLoss _ => true
  | .keepaliveTimeout _ => true
  | .keepaliveSend _ => true
  | .keepaliveMessage _ _ _ _ _ _ => true
  | .syncIssue => true
  | .syncMessage _ _ _ _ _ => true
  | .syncPulse => true
  | .peerDataFrame _ _ _ _ words bad => bad.all (fun i => decide (i < words.length))
  | .txlRetrain _ _ => true
  | .txlDown _ _ => true
  | .txlIdWrite _ => true
  | .heartbeatSend _ => true
  | .heartbeatMessage _ => true
  | .fieldAbsenceTimeout => true
  | .hostAbsenceTimeout => true
  | .watchdogExpiry => true
  | .xngKick _ => true
  | .xngWdog _ => true
  | .xngRaise _ => true
  | .alarmMessage => true
  | .notificationMessage => true
  | .xngPopAlarm _ => true
  | .xngPopNote _ => true
  | .safeLatchClear _ => true
  | .xngRingTail _ _ descs => decide (descs.length < 256)
  | .ferryFrame _ words => decide (words.length ≤ 455)
  | .ferryDescriptorComplete _ => true
  | .perstNAssert => true
  | .perstNRelease => true
  | .smbusEepromRead _ n => decide (n ≤ 2048)
  | .smbusStatusRead => true
  | .nvWriteEnable _ => true
  | .imgWriteBlock _ => true
  | .imgCommit _ => true
  | .imgCommandComplete => true
  | .dacLinearity _ _ => true
  | .dacMarkerTiming _ _ => true
  | .adcCalibration _ _ => true
  | .pinLevels _ _ => true
  | .pinDeskew _ _ _ => true
  | .terxaSkew _ _ => true
  | .hbmRetrain _ _ => true
  | .calCommit _ _ => true
  | .calProcedureComplete _ _ _ _ => true
  | .calCommitComplete => true
  | .dacTempRead temps => decide (temps.length = 8)
  | .monStart _ => true
  | .monStop _ => true
  | .monSnapshot _ => true
  | .bootStageComplete _ _ => true
  | .blockLockLoss _ => true
  | .triangleReturnToBase => true
  | .hostSidePowerUp => true
  | .hostSidePowerLoss => true

end Sys2Proof
end

