-- ==== Sys2Proof/Safety.lean ====
section
/-! DEFINITION. What counts as a safe run, and the words in which claims are made: what a command answers, which fields of
the registers a next state has changed, and which parts of the state. -/

namespace Sys2Proof.Machine

/-- Both addressed memories, the segments' and the MRAM, are in canonical form (R27, R338). -/
abbrev State.memoriesWf (s : State) : Prop := Memory.wf s.mem = true ∧ Memory.wf s.mram = true

/-- A step that neither stops with a fault nor is refused. -/
def State.runs (s : State) : Prop := ∃ t, step s = .next t

/-- n steps, one after another, while each answers a next state. -/
def stepMany : Nat → State → Host.Outcome State Fault Refusal
  | 0, s => .next s
  | n + 1, s =>
    match step s with
    | .next t => stepMany n t
    | o => o

/-- The commands that wait are ones a sender can send. -/
def State.queueWf (s : State) : Bool := s.pending.all Instr.wf

/-- Command c, executed in s, answers a next state, of which P holds. -/
def Answers (c : Instr) (s : State) (P : State → Prop) : Prop := ∃ t, exec c s = .next t ∧ P t

/-- Fields that share no bit. -/
abbrev Fld.apart (f g : Fld) : Prop := f.addr ≠ g.addr ∨ f.lo + f.n ≤ g.lo ∨ g.lo + g.n ≤ f.lo

/-- Every bit of every register outside the fields L reads in t as in s. -/
def State.keepsFields (s t : State) (L : List Fld) : Prop := ∀ f : Fld, (∀ g ∈ L, f.apart g) → t.get f = s.get f

/-- The fields L of the registers read in t as given there, and every other bit of every register as in s. -/
def State.setsFields (s t : State) (L : List (Fld × Nat)) : Prop :=
  (∀ p ∈ L, t.get p.1 = p.2) ∧ s.keepsFields t (L.map (fun p => p.1))

/-- The parts of the state, by the names of State's fields. -/
inductive Piece where
  | pending | now | timeOff | free | regs | act | segs | stores | olds | mem | poison
  | nextSid | lows | ctxs | tiles | evt | wav | grp | cap | latch | xng | ustore
  | mon | wrote | monBegun | monEnded | mc | pw | clk | txl | cal | mram | ukey
  deriving DecidableEq, Repr

/-- A part reads in t as in s. -/
def State.same (p : Piece) (s t : State) : Prop :=
  match p with
  | .pending => t.pending = s.pending
  | .now => t.now = s.now
  | .timeOff => t.timeOff = s.timeOff
  | .free => t.free = s.free
  | .regs => t.regs = s.regs
  | .act => t.act = s.act
  | .segs => t.segs = s.segs
  | .stores => t.stores = s.stores
  | .olds => t.olds = s.olds
  | .mem => t.mem = s.mem
  | .poison => t.poison = s.poison
  | .nextSid => t.nextSid = s.nextSid
  | .lows => t.lows = s.lows
  | .ctxs => t.ctxs = s.ctxs
  | .tiles => t.tiles = s.tiles
  | .evt => t.evt = s.evt
  | .wav => t.wav = s.wav
  | .grp => t.grp = s.grp
  | .cap => t.cap = s.cap
  | .latch => t.latch = s.latch
  | .xng => t.xng = s.xng
  | .ustore => t.ustore = s.ustore
  | .mon => t.mon = s.mon
  | .wrote => t.wrote = s.wrote
  | .monBegun => t.monBegun = s.monBegun
  | .monEnded => t.monEnded = s.monEnded
  | .mc => t.mc = s.mc
  | .pw => t.pw = s.pw
  | .clk => t.clk = s.clk
  | .txl => t.txl = s.txl
  | .cal => t.cal = s.cal
  | .mram => t.mram = s.mram
  | .ukey => t.ukey = s.ukey

/-- Every part of the state outside W is in t as in s. -/
def State.writes (s t : State) (W : List Piece) : Prop := ∀ p, p ∉ W → State.same p s t

/-- Every part of the state outside W is in t as in s, and the memories keep their canonical form. -/
def State.moves (s t : State) (W : List Piece) : Prop := s.writes t W ∧ (s.memoriesWf → t.memoriesWf)

/-- Every output of t in its safe state (R15), CLK_OUT among them, its latching conditions changed from s by f, and nothing else
of the output paths changed. -/
def State.madeSafe (s t : State) (f : Latches → Latches) : Prop :=
  (∀ k, k < 16 → t.latches k = f (s.latches k)) ∧
  (∀ w, w < 8 → t.wave w = { s.wave w with closed := false }) ∧
  (∀ g, g < 8 → t.group g = { s.group g with enabled := false, drive := GrpSt.init.drive }) ∧
  t.clk = { s.clk with out := none, outNext := none, outSafe := f s.clk.outSafe }

/-- The parts that a field-side reset puts back as the spec gives them after reset. -/
def fieldParts : List Piece :=
  [.act, .segs, .stores, .olds, .mem, .poison, .lows, .ctxs, .tiles, .evt, .wav, .grp, .cap, .latch, .ustore, .mon, .wrote,
   .monBegun, .monEnded, .clk, .txl, .cal]

/-- t is s after a field-side reset (R335, R347, R356): the boot at a stage, the cause and count recorded, the parts and
registers of the field side as after reset, the kept registers and the rest of the module as in s. What a given reset does
with the fields L is stated beside this. -/
def State.restarted (s t : State) (stage cause count : Nat) (L : List Fld) : Prop :=
  (∀ p ∈ fieldParts, State.same p State.reset t) ∧
  (∀ p ∈ [Piece.pending, .now, .free, .nextSid, .mram, .ukey], State.same p s t) ∧
  t.get Reg.NVS_BOOT_STAGE = stage ∧ t.get Reg.NVS_RST_CAUSE_CAUSE = cause ∧ t.get Reg.NVS_RST_CAUSE_COUNT = count ∧
  t.get Reg.NVS_UKEY_CTRL_ENROLLED = s.get Reg.NVS_UKEY_CTRL_ENROLLED ∧
  (∀ f : Fld, (∀ g ∈ [Reg.NVS_BOOT_STAGE, Reg.NVS_RST_CAUSE_CAUSE, Reg.NVS_RST_CAUSE_COUNT, Reg.NVS_UKEY_CTRL_ENROLLED] ++ L,
    f.apart g) → t.get f = if keptReg f.addr then s.get f else State.reset.get f) ∧
  t.pw.writing = [] ∧ t.pw.wanted = none ∧ t.pw.change = none ∧ t.mc = { MemSt.init with records := t.mc.records } ∧
  t.xng.safeAt = none

/-- A PLC command, or a LOAD that ends, is reported (R53): its tag, status and LOAD_END stand in PLC_STATUS, the fields L at
the values given, every other field as before, and vector 2 signals where the Crossing carries it. -/
def State.plcTells (s t : State) (tag sts loadEnd : Nat) (L : List (Fld × Nat)) : Prop :=
  s.setsFields t (L ++ [(Reg.PLC_STATUS_TAG, tag), (Reg.PLC_STATUS_STS, sts), (Reg.PLC_STATUS_LOAD_END, loadEnd)]) ∧
  t.xng = (if s.carries then s.signalVec 2 else s).xng

/-- A context command of tile t is reported (R87): its tag and status stand in SEQ_CMD_STATUS, the fields L at the values given,
every other field as before, and vector 3 signals where the Crossing carries it. -/
def State.seqTells (s u : State) (t : Tile) (tag sts : Nat) (L : List (Fld × Nat)) : Prop :=
  s.setsFields u (L ++ [(Reg.SEQ_CMD_STATUS_TAG t, tag), (Reg.SEQ_CMD_STATUS_STS t, sts)]) ∧
  u.xng = (if s.carries then s.signalVec 3 else s).xng

/-- A context command of tile t is looked at: none is in progress there, the tile has not been reset in this cycle (R92), and
context c is bound to it (R87). -/
def State.seqTakes (s : State) (t : Tile) (c : CtxNo) : Prop :=
  (s.tile t).resetAt ≠ some s.now ∧ (s.tile t).prep = none ∧ s.get (Reg.CTX_CFG_BIND c) = t.val

/-- PLC commands are taken: none is in progress, and the arguments hold no bit that the opcode does not list (R53). -/
def State.plcTakes (s : State) (masks : List Nat) : Prop := s.get Reg.PLC_STATUS_BUSY = 0 ∧ s.plcArgsOk masks = true

/-- The registers below the table windows behind which a command stands, by base address: a write to any other of the field
side's stores and does nothing else. -/
def commandBases : List Nat :=
  [0x00000C, 0x000010, 0x000014, 0x000028, 0x000088, 0x00008C, 0x000090,
   Reg.XNG_ABSENT_POLICY.addr, Reg.XNG_FSTATUS_SAFE_LATCH.addr,
   0x020018, 0x038000, 0x040010, 0x040180, 0x050004, 0x05001C, 0x060804, 0x060808, 0x06080C, 0x060810, 0x060814, 0x060818,
   0x070000, 0x070108, 0x07010C, 0x070200, 0x070230, 0x070300, 0x070304,
   0x080008, 0x08020C, 0x080400, 0x0C0000, 0x0C002C, 0x0C0080, 0x0C0084, 0x0C0088,
   0x0D0000, 0x0D1000, 0x0D0020, 0x0D002C, 0x0D0030, 0x0D0040]

/-- Instruction op of context c is resolved on tile t now: the item before it ends at p, its effect cycle has come, and it
faults for nothing that R82 names (R57, R59). -/
def State.runsInstr (s : State) (t : Tile) (op : Nat) (ops : BitVec 66) (c p : Nat) : Prop :=
  (s.tile t).running = some c ∧ s.itemEnd t = some p ∧ (s.tile t).micro.upc = none ∧ posCycle p ≤ s.now ∧
  (s.closeItem t p).instrFault t c op ops = none

/-- The state in which instruction op of context c takes effect on tile t: the item before it closed at p, the instruction taken
from what run-ahead has resolved, and counted if it has no duration. -/
def State.due (s : State) (t : Tile) (c op p : Nat) : State :=
  let s1 := (s.closeItem t p).popAhead t c
  if timedOp op then s1 else s1.addSpin t

/-- Context c of u is x, and the other contexts are as in s. -/
def State.ctxBecomes (s u : State) (c : Nat) (x : Ctx) : Prop := u.ctx c = x ∧ ∀ d, d ≠ c → u.ctx d = s.ctx d

/-- Tile t of u is x, and the other tiles are as in s. -/
def State.tileBecomes (s u : State) (t : Nat) (x : TileSt) : Prop := u.tile t = x ∧ ∀ k, k ≠ t → u.tile k = s.tile k

/-- A context past the instruction it stands at. -/
def Ctx.stepped (x : Ctx) : Ctx := { x with pc := x.pc.next, pos := .fresh }

/-- In u, context c of tile t has faulted with a cause and status (R82): it plays no more, and its record says why. -/
def State.faulted (u : State) (t : Tile) (c : Nat) (cause : Cause) (sts : Sts) : Prop :=
  (u.ctx c).st = .faulted ∧ (u.ctx c).cause = cause.code ∧ (u.ctx c).sts = sts.code ∧
  (u.tile t).running = none ∧ (u.tile t).last = some c ∧ (u.tile t).item = .idle

/-- The fault registers of tile t in u (R82). -/
def State.faultRegs (u : State) (t : Tile) (c : Nat) (cause : Cause) (sts : Sts) : Prop :=
  u.get (Reg.SEQ_FAULT_CTX t) = c % 2 ^ 10 ∧ u.get (Reg.SEQ_FAULT_CAUSE t) = cause.code ∧
  u.get (Reg.SEQ_FAULT_STS t) = sts.code ∧ u.get (Reg.SEQ_STATUS_FAULT t) = 1

/-- t is s with the fields L of the registers at the values given there, and nothing else changed. -/
def State.setsOnly (s t : State) (L : List (Fld × Nat)) : Prop := s.writes t [.regs] ∧ s.setsFields t L

end Sys2Proof.Machine
end

