-- ==== Sys2Proof/Certificates/Slice0/Obligations.lean ====
section
/-! DEFINITION. The statements about the module, for the provers. -/

open Sys2Proof Sys2Proof.Machine

/-! ## Steps and the queue -/

/-- A step takes the command at the front of the queue: it is that command's exec, on the state with the queue's rest (the
block's form is the model's choice, log entry 1). -/
def Obligations.AStepRunsTheFront : Prop :=
  ∀ (c : Instr) (q : List Instr) (s : State), step { s with pending := c :: q } = exec c { s with pending := q }

/-- Right after reset no command waits, nothing is stored, no segment, landing or loaded context exists, the boot is in
stage 1, the field side is absent for the host side, and the outputs are in their safe state. -/
def Obligations.ResetIsAsTheSpecSays : Prop :=
  let s := State.reset
  s.pending = [] ∧ s.memoriesWf ∧ s.queueWf = true ∧ s.mem = [] ∧ s.segs = [] ∧ s.txl = TxlSt.init ∧
  s.get Reg.NVS_BOOT_STAGE = 1 ∧ s.get Reg.XNG_HSTATUS_FIELD_ABSENT = 1 ∧ s.get Reg.GLB_STATE_UNLOCKED = 0 ∧
  s.get Reg.EVT_SYS_BUDGET = 0x1000 ∧ s.active Reg.EVT_CTRL_LOG_EN = 1 ∧ s.get Reg.NVS_HV_STATUS_LATCHED = 0 ∧
  (∀ t, (s.tile t).running = none ∧ (s.tile t).catches = [] ∧ (s.tile t).slots = []) ∧
  (∀ c, (s.ctx c).st = .free) ∧ (∀ w, s.switchClosed w = false) ∧ (∀ g, (s.group g).enabled = false)

/-- Whatever step the module takes, from whatever state whose memories are in canonical form, they are after it. -/
def Obligations.EveryStepKeepsTheMemories : Prop := ∀ s u : State, s.memoriesWf → step s = .next u → u.memoriesWf

/-- Every command answers a next state, in every state, and changes neither the queue nor the cycle count; so does a step
on an empty queue but for the cycle count, by which at most one cycle passes (the model's choice, log entries 1 and 3:
time passes only where no command waits). -/
def Obligations.NoStepStops : Prop :=
  (∀ (c : Instr) (s : State), Answers c s fun u => u.pending = s.pending ∧ u.now = s.now) ∧
  (∀ s : State, s.pending = [] → ∃ u, step s = .next u ∧ u.pending = [] ∧ (u.now = s.now ∨ u.now = s.now + 1) ∧
    (s.fieldLive = false → s.writes u [.now, .wrote, .evt] ∧ u.now = s.now + 1))

/-- A queue drains: after as many steps as commands wait, each of which answers a next state, none waits, in the same core
cycle; and commands that could be sent are what waits until then. That no time passes while a command waits is the model's
choice (log entries 1 and 3). -/
def Obligations.TheQueueDrains : Prop :=
  ∀ s : State, ∃ u, stepMany s.pending.length s = .next u ∧ u.pending = [] ∧ u.now = s.now ∧
    ∀ n, n ≤ s.pending.length → ∃ v, stepMany n s = .next v ∧ v.pending = s.pending.drop n ∧
      (s.queueWf = true → v.queueWf = true)

/-! ## Keys, flags, mailbox and high voltage -/

/-- GLB_KEY_WRITE: the unlock value 0x0000_6B1E sets UNLOCKED, every other value clears it; nothing else changes. A write
that reaches a register with an RWK field while UNLOCKED is 0, for each command that is one: the field stays, the attempt
is recorded, and nothing else changes. -/
def Obligations.TheKeyGuardsLockedWrites : Prop :=
  (∀ (s : State) (v : Word), Answers (.glbKeyWrite v) s fun t =>
    s.setsOnly t [(Reg.GLB_STATE_UNLOCKED, if v = 0x00006B1E#32 then 1 else 0)]) ∧
  (∀ (s : State) (c : Instr), s.get Reg.GLB_STATE_UNLOCKED = 0 →
    ((∃ v, c = .softReset v) ∨ (∃ v, c = .profileChange v) ∨ (∃ v, c = .ashEntry v) ∨ (∃ v, c = .ashExit v) ∨
      (∃ v, c = .hvEnable v) ∨ (∃ v, c = .hvDisable v) ∨ (∃ tag, c = .readmit tag) ∨ (∃ t v, c = .mcUload t v) ∨
      (∃ v, c = .ukeyOpen v) ∨ (∃ v, c = .nvWriteEnable v) ∨ (∃ tag target, c = .calCommit tag target)) →
    Answers c s fun t => s.setsOnly t
      [(Reg.GLB_ERR_LOCKED_WRITE, 1), (Reg.GLB_LOCKED_CNT, min (s.get Reg.GLB_LOCKED_CNT + 1) 0xFFFFFFFF)])

/-- GLB_FLAGS_WRITE: of FLAGS, the bits whose mask bit is 1 take the value written, and the others stay; nothing else
changes. -/
def Obligations.FlagsWriteIsMasked : Prop :=
  ∀ (s : State) (v : Word), Answers (.glbFlagsWrite v) s fun t =>
    (∀ i, i < 16 → (t.get Reg.GLB_FLAGS_FLAGS).testBit i =
      if v.getLsbD (16 + i) then v.getLsbD i else (s.get Reg.GLB_FLAGS_FLAGS).testBit i) ∧
    s.writes t [.regs] ∧ s.keepsFields t [Reg.GLB_FLAGS_FLAGS]

/-- MAILBOX_REQUEST and MAILBOX_SAMPLE: a request clears VALID and ends the bridge's own copy, and REQ 0 asks nothing; the
sample of a request gives the four words that its selector names, or zeros with STS_RANGE. That the bridge's own copy ends
is the model's reading, log entry 99. -/
def Obligations.MailboxGivesWhatTheSelectorNames : Prop :=
  (∀ (s : State) (v : Word), Answers (.mailboxRequest v) s fun t =>
    if v.getLsbD 0 then
      s.writes t [.regs, .xng] ∧ t.xng = { s.xng with mbx := [] } ∧
      s.setsFields t [(Reg.GLB_MBX_VALID, 0), (Reg.GLB_MBX_CTRL_REQ, 1)]
    else t = s) ∧
  (∀ s : State, s.get Reg.GLB_MBX_CTRL_REQ = 1 → Answers .mailboxSample s fun t =>
    let w := fun i : Nat => t.get (Reg.GLB_MBX_DATA i)
    let e := t.get Reg.GLB_MBX_CTRL_STS
    s.setsOnly t
      [(Reg.GLB_MBX_CTRL_REQ, 0), (Reg.GLB_MBX_DATA 0, w 0), (Reg.GLB_MBX_DATA 1, w 1), (Reg.GLB_MBX_DATA 2, w 2),
       (Reg.GLB_MBX_DATA 3, w 3), (Reg.GLB_MBX_VALID, 1), (Reg.GLB_MBX_CTRL_STS, e)] ∧
    (s.get Reg.GLB_MBX_SEL = 0 →
      w 0 + 2 ^ 32 * w 1 + 2 ^ 64 * w 2 = (s.tsAt s.now).toNat ∧ w 3 = 0 ∧ e = 0) ∧
    (∀ n, n < 1024 → s.get Reg.GLB_MBX_SEL = 0x1000 + n →
      w 0 + 2 ^ 32 * w 1 + 2 ^ 64 * w 2 = (s.lastReg n).ts.toNat ∧ w 3 = (s.lastReg n).count % 2 ^ 32 ∧ e = 0) ∧
    (s.get Reg.GLB_MBX_SEL = 0x5004 → w 0 = 0 ∧ w 1 = 0 ∧ w 2 = 0 ∧ w 3 = 0 ∧ e = 0x0B))

/-- HV_ENABLE, HV_DISABLE, HV_RAILS_UP and HV_RAIL_FAULT: unlocked, EN is written and the unlock consumed; EN 0 also ends
UP and a latched fault, but one that latched in this cycle; the rails report UP while EN is 1 with no fault latched; a
fault latches, shows its rail, and ends UP, also where EN 0 has been written in its cycle. As the rails come up, the pins of G6
and G7 wait, off, for a vector cycle to start. -/
def Obligations.HighVoltageRailsFollowTheEnable : Prop :=
  let fresh := fun s : State => mfind s.wrote Reg.GLB_HV_CTRL_EN.addr = none ∧
    mfind s.wrote Reg.NVS_HV_STATUS_LATCHED.addr = none
  let faults := fun (s t : State) (pos neg : Bool) => s.writes t [.regs, .wrote] ∧
    s.setsFields t ((if pos then [(Reg.NVS_HV_STATUS_FAULT_POS, 1)] else []) ++
      (if neg then [(Reg.NVS_HV_STATUS_FAULT_NEG, 1)] else []) ++
      [(Reg.NVS_HV_STATUS_LATCHED, 1), (Reg.GLB_HV_CTRL_UP, 0)])
  (∀ (s : State) (v : Word), s.get Reg.GLB_STATE_UNLOCKED = 1 → v.getLsbD 0 = true →
    Answers (.hvEnable v) s fun t => s.writes t [.regs, .wrote] ∧
      s.setsFields t [(Reg.GLB_STATE_UNLOCKED, 0), (Reg.GLB_HV_CTRL_EN, 1)]) ∧
  (∀ (s : State) (v : Word), s.get Reg.GLB_STATE_UNLOCKED = 1 → v.getLsbD 0 = false →
    Answers (.hvDisable v) s fun t => s.writes t [.regs, .wrote] ∧
      (s.hvFaulted = true → s.setsFields t [(Reg.GLB_STATE_UNLOCKED, 0), (Reg.GLB_HV_CTRL_EN, 0), (Reg.GLB_HV_CTRL_UP, 0)]) ∧
      (s.hvFaulted = false → s.setsFields t [(Reg.GLB_STATE_UNLOCKED, 0), (Reg.GLB_HV_CTRL_EN, 0), (Reg.GLB_HV_CTRL_UP, 0),
        (Reg.NVS_HV_STATUS_LATCHED, 0)]) ∧
      (∀ pos neg, fresh s → s.get Reg.GLB_HV_CTRL_EN = 1 → s.get Reg.NVS_HV_STATUS_LATCHED = 0 → (pos || neg) = true →
        Answers (.hvRailFault pos neg) t fun u => faults t u pos neg)) ∧
  (∀ s : State, s.get Reg.GLB_HV_CTRL_EN = 1 → s.get Reg.NVS_HV_STATUS_LATCHED = 0 →
    (s.get Reg.GLB_HV_CTRL_UP = 0 → Answers .hvRailsUp s fun t =>
      s.writes t [.regs, .grp] ∧ s.setsFields t [(Reg.GLB_HV_CTRL_UP, 1)] ∧
      (∀ g, t.group g = if g = 6 ∨ g = 7 then { s.group g with hz := true, drive := GrpSt.init.drive } else s.group g)) ∧
    (s.get Reg.GLB_HV_CTRL_UP = 1 → Answers .hvRailsUp s fun t => t = s) ∧
    (∀ pos neg, (pos || neg) = true → Answers (.hvRailFault pos neg) s fun t =>
      faults s t pos neg ∧ (fresh s → t.hvFaulted = true)))

/-! ## Resets and power -/

/-- With no MRAM write in progress, each reset starts the boot at its stage and records its cause and the count; the field
side is as after reset, the registers that no field-side reset touches stay, and the rest of the module stays. -/
def Obligations.ResetsRestartTheFieldSide : Prop :=
  ∀ s : State, s.pw.writing = [] →
    (s.pw.fieldOn = false → s.pw.hostOn = true → s.get Reg.XNG_PWR_DORMANT = 0 → s.pw.wanted = none →
      Answers .fieldPowerOnReset s fun t =>
        s.restarted t 1 (if s.pw.shut then 0x08 else 0x01) 0 [Reg.XNG_HSTATUS_FIELD_PWR] ∧
        t.get Reg.XNG_HSTATUS_FIELD_PWR = 1 ∧ t.pw.fieldOn = true ∧ t.pw.shut = false ∧ t.xng.up = false) ∧
    (s.pw.rstN = true → s.pw.fieldOn = true →
      Answers .fieldRstNRelease s fun t =>
        s.restarted t 2 0x02 (min (s.get Reg.NVS_RST_CAUSE_COUNT + 1) 0xFFFF) [] ∧ t.pw.rstN = false ∧ t.xng.up = false) ∧
    (∀ v : Word, fieldOf v.toNat 0 16 = 0xA55A →
      Answers (.nvsFieldRst v) s fun t =>
        s.restarted t 2 0x03 (min (s.get Reg.NVS_RST_CAUSE_COUNT + 1) 0xFFFF) [] ∧ t.xng.up = false) ∧
    (∀ v : Word, s.get Reg.GLB_STATE_UNLOCKED = 1 → v.getLsbD 0 = true →
      Answers (.softReset v) s fun t =>
        s.restarted t 4 0x04 (min (s.get Reg.NVS_RST_CAUSE_COUNT + 1) 0xFFFF) [Reg.NVS_BOOT_BANK, Reg.CLK_STATUS_SVC_LOCK] ∧
        t.get Reg.NVS_BOOT_BANK = s.get Reg.NVS_BOOT_BANK ∧
        t.get Reg.CLK_STATUS_SVC_LOCK = s.get Reg.CLK_STATUS_SVC_LOCK ∧
        t.mc.records = s.mc.records ∧ t.xng.up = s.xng.up) ∧
    (∀ n : Fin 2,
      Answers (.stewardStop n) s fun t =>
        s.restarted t 2 (0x05 + n.val) (min (s.get Reg.NVS_RST_CAUSE_COUNT + 1) 0xFFFF) [] ∧
        t.pw.pend7 = some n.val ∧ t.xng.up = false) ∧
    (Answers .serviceLockLoss s fun t =>
      s.restarted t 2 0x07 (min (s.get Reg.NVS_RST_CAUSE_COUNT + 1) 0xFFFF) [] ∧ t.xng.up = false)

/-- While an MRAM write is in progress, a reset asked for makes every output safe at once and waits: nothing else of the
module changes but the request noted, and UNLOCKED consumed. A reset that waits proceeds when the one MRAM write in
progress ends, whichever of its commands says so: the field side restarts, and the write's bank or calibration data has
what the write put there. FIELD_RST_N held low: the assertion makes every output safe and holds the field side; an
acknowledgement that does not come ends field power, to be restored with cause 0x02. TILE_RESET: each bit that is 1 puts
its tile's state and registers back as after reset, keeping the tile's record of its last context and of a reload of user
microcode, and noting the cycle; a tile whose bit is 0 keeps its state. -/
def Obligations.ResetsWaitAndTilesReset : Prop :=
  (∀ s : State, s.pw.writing ≠ [] → s.pw.wanted = none →
    (∀ v : Word, fieldOf v.toNat 0 16 = 0xA55A →
      Answers (.nvsFieldRst v) s fun t =>
        s.writes t [.wav, .grp, .latch, .clk, .pw] ∧ s.madeSafe t (fun l => { l with reset := true }) ∧
        t.pw = { s.pw with wanted := some (.field 0x03) }) ∧
    (∀ v : Word, s.get Reg.GLB_STATE_UNLOCKED = 1 → v.getLsbD 0 = true →
      Answers (.softReset v) s fun t =>
        s.writes t [.regs, .wav, .grp, .latch, .clk, .pw] ∧ s.madeSafe t (fun l => { l with reset := true }) ∧
        t.pw = { s.pw with wanted := some .soft } ∧ s.setsFields t [(Reg.GLB_STATE_UNLOCKED, 0)]) ∧
    (s.pw.rstN = true → s.pw.fieldOn = true →
      Answers .fieldRstNRelease s fun t =>
        s.writes t [.wav, .grp, .latch, .clk, .pw] ∧ s.madeSafe t (fun l => { l with reset := true }) ∧
        t.pw = { s.pw with rstN := false, wanted := some (.field 0x02) })) ∧
  (∀ (s : State) (w : NvWrite) (cause : Nat), s.pw.writing = [w] → s.pw.wanted = some (.field cause) → s.pw.fieldOn = true →
    cause ≠ 0x01 → cause ≠ 0x08 → cause < 256 →
    ∀ c, (c = .mramWriteComplete ∨ (c = .imgCommandComplete ∧ w.image = true) ∨ (c = .calCommitComplete ∧ w.image = false)) →
      Answers c s fun t =>
        (∀ p ∈ fieldParts, State.same p State.reset t) ∧ t.get Reg.NVS_BOOT_STAGE = 2 ∧
        t.get Reg.NVS_RST_CAUSE_CAUSE = cause ∧
        t.get Reg.NVS_RST_CAUSE_COUNT = min (s.get Reg.NVS_RST_CAUSE_COUNT + 1) 0xFFFF ∧
        t.pw.writing = [] ∧ t.pw.wanted = none) ∧
  (∀ s : State,
    (Answers .fieldRstNAssert s fun t =>
      s.writes t [.wav, .grp, .latch, .clk, .pw] ∧ s.madeSafe t (fun l => { l with reset := true }) ∧
      t.pw = { s.pw with rstN := true }) ∧
    (s.pw.rstN = true → s.pw.fieldOn = true → Answers .fieldResetAckTimeout s fun t =>
      (∀ p ∈ fieldParts, State.same p State.reset t) ∧ t.pw.fieldOn = false ∧ t.pw.wanted = some (.powerOn 0x02) ∧
      t.xng.up = false ∧ t.get Reg.XNG_HSTATUS_FIELD_PWR = 0 ∧ t.get Reg.XNG_HSTATUS_FSTATE = 0 ∧
      s.writes t (fieldParts ++ [.timeOff, .regs, .xng, .mc, .pw]))) ∧
  (∀ (s : State) (v : Word), Answers (.tileReset v) s fun t =>
    s.writes t [.regs, .act, .segs, .stores, .mem, .ctxs, .tiles, .wav, .grp, .cap, .latch, .mc, .cal] ∧
    (∀ k, k < 16 → t.tile k = if v.getLsbD k then
      { TileSt.init with
        last := (s.tile k).last, reload := (s.tile k).reload, ran := (s.tile k).ran, resetAt := some s.now
        leftAt := if (s.tile k).running.isSome then some s.now else (s.tile k).leftAt }
      else s.tile k) ∧
    (∀ k f, k < 16 → v.getLsbD k = true → tileKeeps k f.addr = false → t.get f = State.reset.get f))

/-- A reading of the 48 V input below 42 V blocks MRAM writes with an alarm, and a recovery ends what the sag began:
SAG_BELOW_42V, SUPPLY_RECOVER_42V5 and SUPPLY_RECOVER_40V, whose VIN is the reading. What takes field power away with no
MRAM write in progress: the input below 36 V, and a request for Dormant that the Crossing carries. The field side is lost;
with DORMANT written 0 the register changes and nothing else. -/
def Obligations.FieldPowerFollowsTheSupply : Prop :=
  (∀ (s : State) (vin : BitVec 10),
    (vin.toNat < 420 → s.get Reg.NVS_SUPPLY_NV_BLOCK = 0 → Answers (.sagBelow42V vin) s fun t =>
      s.writes t [.regs, .xng, .pw] ∧
      s.setsFields t [(Reg.NVS_SUPPLY_VIN, vin.toNat), (Reg.NVS_SUPPLY_NV_BLOCK, 1), (Reg.NVS_SUPPLY_SAG, 1)] ∧
      t.pw = { s.pw with flush := false } ∧ t.xng = (s.alarm 0x0004 42).xng) ∧
    (vin.toNat < 420 → s.get Reg.NVS_SUPPLY_NV_BLOCK = 1 → Answers (.sagBelow42V vin) s fun t =>
      s.setsOnly t [(Reg.NVS_SUPPLY_VIN, vin.toNat)]) ∧
    (425 ≤ vin.toNat → s.get Reg.NVS_SUPPLY_NV_BLOCK = 1 → Answers (.supplyRecover42V5 vin) s fun t =>
      s.writes t [.regs, .pw] ∧ t.pw = { s.pw with flush := true } ∧
      s.setsFields t [(Reg.NVS_SUPPLY_VIN, vin.toNat), (Reg.NVS_SUPPLY_NV_BLOCK, 0)]) ∧
    (400 ≤ vin.toNat → Answers (.supplyRecover40V vin) s fun t =>
      s.setsOnly t [(Reg.NVS_SUPPLY_VIN, vin.toNat), (Reg.NVS_SUPPLY_ASH_SAG, 0)])) ∧
  (∀ s : State, s.pw.writing = [] → s.pw.wanted = none →
    (∀ vin : BitVec 10, vin.toNat < 360 → s.pw.fieldOn = true → Answers (.sagBelow36V vin) s fun t =>
      (∀ p ∈ fieldParts, State.same p State.reset t) ∧ t.pw.fieldOn = false ∧ t.pw.shut = true ∧ t.pw.wanted = none ∧
      t.xng.up = false ∧ t.get Reg.XNG_HSTATUS_FIELD_PWR = 0 ∧ t.get Reg.XNG_HSTATUS_FSTATE = 0 ∧
      s.writes t (fieldParts ++ [.timeOff, .regs, .xng, .mc, .pw])) ∧
    (∀ v : Word, v.getLsbD 0 = true → s.pw.fieldOn = true → s.xng.up = true → Answers (.dormantRequest v) s fun t =>
      (∀ p ∈ fieldParts, State.same p State.reset t) ∧ t.pw.fieldOn = false ∧ t.pw.shut = s.pw.shut ∧
      t.xng.up = false ∧ t.xng.dormant = true ∧ t.get Reg.XNG_PWR_DORMANT = 1 ∧ t.get Reg.XNG_PWR_STS = 0 ∧
      t.get Reg.XNG_HSTATUS_FIELD_PWR = 0 ∧ t.get Reg.XNG_HSTATUS_FSTATE = 0 ∧
      s.writes t (fieldParts ++ [.timeOff, .regs, .xng, .mc, .pw])) ∧
    (∀ v : Word, v.getLsbD 0 = false → Answers (.fieldPowerRequest v) s fun t =>
      s.setsOnly t [(Reg.XNG_PWR_DORMANT, 0)]))

/-- A write of GLB_PROFILE, unlocked and not refused, begins its change: clocks gated, outputs safe, BUSY set, and PSTS
reports that it was accepted. Towards another active profile, and out of Ash. The ends of profile changes: the profile is
in effect and BUSY clears; in an active profile the outputs are held safe for the change no more, and the output of a tile
that runs a context, and that nothing else holds, closes. In Ash the HBM is in self-refresh. -/
def Obligations.ProfileChangesBeginAndComplete : Prop :=
  (∀ (s : State) (v : Word), s.get Reg.GLB_STATE_UNLOCKED = 1 → fieldOf v.toNat 0 4 < 3 →
    ((s.put Reg.GLB_STATE_UNLOCKED 0).put Reg.GLB_PROFILE (fieldOf v.toNat 0 4)).activeCheck (fieldOf v.toNat 0 4) = none →
    (s.get Reg.GLB_STATE_PROFILE ≠ 3 → s.get Reg.GLB_STATE_PROFILE ≠ fieldOf v.toNat 0 4 →
      Answers (.profileChange v) s fun t =>
        t.pw = { s.pw with change := some (fieldOf v.toNat 0 4), prev := s.get Reg.GLB_STATE_PROFILE } ∧
        t.get Reg.GLB_STATE_BUSY = 1 ∧ t.get Reg.GLB_STATE_PSTS = 0 ∧ t.get Reg.GLB_PROFILE = fieldOf v.toNat 0 4 ∧
        t.get Reg.GLB_STATE_PROFILE = s.get Reg.GLB_STATE_PROFILE ∧ t.get Reg.GLB_STATE_UNLOCKED = 0 ∧
        t.get Reg.CLK_STATUS_GATED = 1 ∧ (∀ k, k < 16 → (t.latches k).power = true) ∧
        (∀ w, w < 8 → (t.wave w).closed = false) ∧ (∀ g, g < 8 → (t.group g).enabled = false) ∧
        s.writes t [.regs, .stores, .mem, .wav, .grp, .cap, .latch, .mc, .pw, .clk]) ∧
    (s.get Reg.GLB_STATE_PROFILE = 3 → s.get Reg.MEM_STATUS_RETRAIN_DUE = 0 →
      Answers (.ashExit v) s fun t =>
        t.pw = { s.pw with change := some (fieldOf v.toNat 0 4) } ∧
        t.get Reg.GLB_STATE_BUSY = 1 ∧ t.get Reg.GLB_STATE_PSTS = 0 ∧ t.get Reg.GLB_PROFILE = fieldOf v.toNat 0 4 ∧
        t.get Reg.GLB_STATE_PROFILE = 3 ∧ t.get Reg.GLB_STATE_UNLOCKED = 0 ∧ t.get Reg.MEM_SR_ACTIVE = 0 ∧
        t.get Reg.CLK_STATUS_GATED = 1 ∧ (∀ k, k < 16 → (t.latches k).power = true) ∧
        (∀ w, w < 8 → (t.wave w).closed = false) ∧ (∀ g, g < 8 → (t.group g).enabled = false) ∧
        s.writes t [.regs, .stores, .mem, .wav, .grp, .cap, .latch, .mc, .pw, .clk])) ∧
  (∀ (s : State) (p : Nat), s.pw.change = some p → p < 4 →
    (∀ c, (c = .profileChangeComplete ∧ s.get Reg.GLB_STATE_PROFILE ≠ 3 ∨
        c = .ashExitComplete ∧ s.get Reg.GLB_STATE_PROFILE = 3 ∧ s.mc.retrain = none) → p ≠ 3 →
      Answers c s fun t =>
        s.writes t [.regs, .stores, .mem, .wav, .grp, .cap, .latch, .mc, .pw, .clk] ∧ t.pw = { s.pw with change := none } ∧
        t.get Reg.GLB_STATE_PROFILE = p ∧ t.get Reg.GLB_STATE_BUSY = 0 ∧
        (∀ k, k < 16 → t.latches k = { s.latches k with power := false }) ∧
        (∀ w, w < 8 → (s.tile w).running.isSome = true → t.heldSafe w = false → (t.wave w).closed = true) ∧
        (∀ g, g < 8 → (s.tile (8 + g)).running.isSome = true → t.heldSafe (8 + g) = false → (t.group g).enabled = true)) ∧
    (p = 3 → Answers .ashEntryComplete s fun t =>
      s.writes t [.regs, .stores, .mem, .wav, .grp, .cap, .mc, .pw] ∧ t.pw = { s.pw with change := none } ∧
      t.get Reg.GLB_STATE_PROFILE = 3 ∧ t.get Reg.GLB_STATE_BUSY = 0 ∧ t.get Reg.MEM_SR_ACTIVE = 0xF ∧
      t.mc.owed = [] ∧ t.mc.rows = [] ∧ t.mc.exitAt = none ∧ t.get Reg.CLK_STATUS_GATED = 1))

/-- Entry into Ash, by a write of GLB_PROFILE and by the input below 38 V, completes for every state outside Ash with no change in
progress: the change to Ash is in progress, BUSY and GATED are set, no tile runs a context or has a start pending, every output
is in its safe state, and the parts of the state that no entry touches are as before. The write reports STS_OK; the sag sets
ASH_SAG and SAG. -/
def Obligations.AshEntryMakesTheModuleQuiet : Prop :=
  let quiet := fun s t : State =>
    t.pw = { s.pw with change := some 3, prev := t.pw.prev } ∧
    t.get Reg.GLB_STATE_BUSY = 1 ∧ t.get Reg.CLK_STATUS_GATED = 1 ∧
    (∀ k, k < 16 → (t.tile k).running = none ∧ (t.tile k).start = none ∧ (t.latches k).power = true) ∧
    (∀ w, w < 8 → (t.wave w).closed = false) ∧ (∀ g, g < 8 → (t.group g).enabled = false) ∧
    s.writes t [.regs, .segs, .stores, .mem, .ctxs, .tiles, .evt, .wav, .grp, .cap, .latch, .xng, .mon, .mc, .pw, .clk, .cal]
  ∀ s : State, s.pw.change = none → s.get Reg.GLB_STATE_PROFILE < 3 →
    (∀ v : Word, s.get Reg.GLB_STATE_UNLOCKED = 1 → fieldOf v.toNat 0 4 = 3 → Answers (.ashEntry v) s fun t =>
      quiet s t ∧ t.get Reg.GLB_STATE_PSTS = 0) ∧
    (∀ vin : BitVec 10, vin.toNat < 380 → s.get Reg.NVS_SUPPLY_ASH_SAG = 0 → Answers (.sagBelow38V vin) s fun t =>
      quiet s t ∧ t.get Reg.NVS_SUPPLY_ASH_SAG = 1 ∧ t.get Reg.NVS_SUPPLY_SAG = 1)

/-! ## Register accesses -/

/-- What a write leaves in one field of a register's word, by its kind, and that the other bits of the word stay: an RW or
RWS field takes the value, with what hardware has added in the cycle where the field counts up; a W1C field loses the bits
written 1, but for those that hardware has set in the cycle; any other field keeps its value. REGISTER_WRITE that the
field side applies at once. To a register that no command stands behind: its word is the written one, field by field, and
every other word stays. To an unmapped address, and of a wrong size or alignment: only the error flag is set. -/
def Obligations.RegisterWritesStoreByFieldKind : Prop :=
  (∀ (b : Nat) (f : FieldD) (was old v : Nat), f.lo + f.n ≤ 32 → old < 2 ^ 32 →
    (∀ i, i < f.n → (fieldWrite b f was old v).testBit (f.lo + i) =
      if f.acc = .rws ∨ (f.acc = .rw ∧ countsUp b f.lo = false) then v.testBit (f.lo + i)
      else if f.acc = .rw then
        (min (fieldOf v f.lo f.n + (fieldOf old f.lo f.n - fieldOf was f.lo f.n)) (2 ^ f.n - 1)).testBit i
      else if f.acc = .w1c then old.testBit (f.lo + i) && !(v.testBit (f.lo + i) && was.testBit (f.lo + i))
      else old.testBit (f.lo + i)) ∧
    (∀ i, (i < f.lo ∨ f.lo + f.n ≤ i) → (fieldWrite b f was old v).testBit i = old.testBit i)) ∧
  (∀ (s : State) (addr : BitVec 24), s.pw.hostOn = true → s.xng.perst = false → hostSide addr.toNat = false →
    s.get Reg.XNG_HSTATUS_FIELD_ABSENT = 0 → s.answers = true → s.xng.waiting = [] → s.stopped = false →
    (addr.toNat % 4 = 0 → addr.toNat < 0x100000 →
      ∀ d i j, regAt addr.toNat = some (d, i, j) → d.base ∉ commandBases → ∀ v : BitVec 64,
      Answers (.registerWrite addr 4 v) s fun t =>
        s.writes t [.regs, .wrote, .evt] ∧ t.evt = { s.evt with began := t.evt.began } ∧
        t.regWord addr.toNat =
          BitVec.ofNat 32 (wordWrite d.base (mget resetWord s.evt.began addr.toNat).toNat d.flds
            (s.regWord addr.toNat).toNat (v.toNat % 2 ^ 32)) ∧
        (∀ b, b ≠ addr.toNat → t.regWord b = s.regWord b)) ∧
    (∀ v : BitVec 64, addr.toNat % 4 = 0 → addr.toNat < 0x100000 → regAt addr.toNat = none →
      Answers (.registerWrite addr 4 v) s fun t => s.setsOnly t [(Reg.GLB_ERR_UNMAPPED, 1)]) ∧
    (∀ (v : BitVec 64) (n : Nat), addr.toNat % 4 ≠ 0 ∨ (n ≠ 4 ∧ n ≠ 8) →
      Answers (.registerWrite addr n v) s fun t => s.setsOnly t [(Reg.GLB_ERR_ACC_SIZE, 1)]))

/-- REGISTER_READ_MESSAGE that the field side answers at once: the data of the word read, narrow reads its bytes, a wrong
alignment 0, and no side effect. An access of a field-side register that the field side cannot answer: it waits behind the
others, or, with the field side absent, completes at the bridge, counted, a read with all ones; with the host side in
reset nothing happens. -/
def Obligations.RegisterAccessesAreAnswered : Prop :=
  (∀ (s : State) (addr : BitVec 24), s.pw.hostOn = true → s.xng.perst = false → hostSide addr.toNat = false →
    s.get Reg.XNG_HSTATUS_FIELD_ABSENT = 0 → s.answers = true → s.xng.waiting = [] → s.xng.mbx = [] →
    s.get Reg.GLB_MBX_VALID = 0 →
    (addr.toNat % 4 = 0 → Answers (.registerReadMessage addr 4) s fun t =>
      s.writes t [.xng] ∧ t.xng = { s.xng with readData := BitVec.ofNat 64 (s.readReg addr.toNat) }) ∧
    (addr.toNat % 4 ≠ 0 → Answers (.registerReadMessage addr 4) s fun t =>
      s.writes t [.xng] ∧ t.xng = { s.xng with readData := 0 }) ∧
    (addr.toNat % 8 = 0 → Answers (.registerReadMessage addr 8) s fun t =>
      s.writes t [.xng] ∧ t.xng = { s.xng with
        readData := BitVec.ofNat 64 (s.readReg addr.toNat + 2 ^ 32 * s.readReg (addr.toNat + 4)) }) ∧
    (Answers (.registerReadMessage addr 1) s fun t =>
      s.writes t [.xng] ∧ t.xng = { s.xng with
        readData := BitVec.ofNat 64 (s.readReg (addr.toNat / 4 * 4) / 2 ^ (8 * (addr.toNat % 4)) % 256) })) ∧
  (∀ (s : State) (addr : BitVec 24) (n : Nat) (v : BitVec 64), hostSide addr.toNat = false →
    (s.pw.hostOn = true → s.xng.perst = false → s.get Reg.XNG_HSTATUS_FIELD_ABSENT = 0 → s.answers = false →
      s.xng.mbx = [] →
      (Answers (.registerWrite addr n v) s fun t => s.writes t [.xng] ∧
        t.xng = { s.xng with waiting := s.xng.waiting ++ [⟨addr.toNat, n, some v⟩] }) ∧
      (Answers (.registerReadMessage addr n) s fun t => s.writes t [.xng] ∧
        t.xng = { s.xng with waiting := s.xng.waiting ++ [⟨addr.toNat, n, none⟩] })) ∧
    (s.pw.hostOn = true → s.xng.perst = false → s.get Reg.XNG_HSTATUS_FIELD_ABSENT = 1 → s.xng.mbx = [] →
      (Answers (.registerWrite addr n v) s fun t =>
        s.setsOnly t [(Reg.XNG_ABS_WR_CNT, min (s.get Reg.XNG_ABS_WR_CNT + 1) 0xFFFFFFFF)]) ∧
      (Answers (.registerReadMessage addr n) s fun t => s.writes t [.regs, .xng] ∧
        s.setsFields t [(Reg.XNG_ABS_RD_CNT, min (s.get Reg.XNG_ABS_RD_CNT + 1) 0xFFFFFFFF)] ∧
        t.xng = { s.xng with readData := BitVec.allOnes 64 })) ∧
    (s.pw.hostOn = false ∨ s.xng.perst = true →
      (Answers (.registerWrite addr n v) s fun t => t = s) ∧ (Answers (.registerReadMessage addr n) s fun t => t = s)))

/-! ## The placement engine -/

/-- ALLOC, accepted: the handle becomes live over a new storage of the kind, class and length asked for, which nothing has
loaded; RES0 holds the handle. The other handles, storages and all of memory stay. FREE of a live handle that nothing
refers to, now or from this cycle on, and that no LOAD is open on: the handle is free, its storage and its words are gone, and the words of every
other storage stay. REDIRECT, accepted while no landing slot holds words of the old storage: the second handle becomes
free, the first has the change pending, and RES2 and RES3 give its time. REDIRECT_APPLY at that time makes the handle
reach the new storage, and keeps the old one; REDIRECT_OLD_RELEASE drops it, with its words, once nothing refers to it. -/
def Obligations.HandlesAreAllocatedFreedAndRedirected : Prop :=
  (∀ (s : State) (tag : BitVec 8) (kd : SegKind) (k : RateClass), s.plcTakes [24, 5, 32, 32, 32, 0] →
    kindClass (fieldOf (s.plcArg 1) 0 3) (fieldOf (s.plcArg 1) 3 2) = some (kd, k) →
    let len := s.plcArg 2 + 2 ^ 32 * s.plcArg 3
    let fill := s.plcArg 4
    let h := if s.plcArg 0 = 0 then freeHandle s.segs 1048576 1 else s.plcArg 0
    len ≠ 0 → len < 2 ^ 34 → (if kd = .slipway then fill ≠ 0 ∧ fill ≤ k.rate else fill = 0) →
    s.seg (s.plcArg 0) = none → s.segs.length < 1048576 → s.admitted + fill ≤ Config.ceiling →
    ∀ chans, s.place k len fill h = .ok chans →
    Answers (.alloc tag) s fun t =>
      s.writes t [.regs, .segs, .stores, .nextSid, .xng, .mc] ∧
      t.seg h = some ⟨s.nextSid, decide (kd = .program ∨ kd = .waveform ∨ kd = .pattern), false, [], none, []⟩ ∧
      (∀ g, g ≠ h → t.seg g = s.seg g) ∧
      t.store s.nextSid = ⟨kd, k, len, fill, chans, (s.takeStripes k (linesPer k len) 0 chans).2, 0, 0, 0, []⟩ ∧ t.nextSid = s.nextSid + 1 ∧
      (∀ i, i ≠ s.nextSid → t.store i = s.store i) ∧
      t.get Reg.PLC_STATUS_TAG = tag.toNat ∧ t.get Reg.PLC_STATUS_STS = 0 ∧ t.get Reg.PLC_STATUS_LOAD_END = 0 ∧
      t.get (Reg.PLC_RES 0) = h % 2 ^ 32) ∧
  (∀ (s : State) (tag : BitVec 8) (g : Seg), s.plcTakes [24, 0, 0, 0, 0, 0] → s.seg (s.plcArg 0) = some g →
    s.liveNow (s.plcArg 0) = false → g.redirect = none → g.loads = [] →
    Answers (.free tag) s fun t =>
      s.writes t [.regs, .segs, .stores, .mem, .poison, .xng, .mc] ∧
      t.seg (s.plcArg 0) = none ∧ (∀ h, h ≠ s.plcArg 0 → t.seg h = s.seg h) ∧
      mfind t.stores g.sid = none ∧ (∀ i, i ≠ g.sid → mfind t.stores i = mfind s.stores i) ∧
      (∀ a, t.readByte a = if a / 9 / 2 ^ 34 = g.sid then none else s.readByte a) ∧
      t.get Reg.PLC_STATUS_TAG = tag.toNat ∧ t.get Reg.PLC_STATUS_STS = 0 ∧ t.get Reg.PLC_STATUS_LOAD_END = 0) ∧
  ((∀ (s : State) (tag : BitVec 8) (a b : Seg), s.plcTakes [24, 26, 0, 0, 0, 0] → fieldOf (s.plcArg 1) 24 2 = 0 →
    let h := s.plcArg 0
    let n := fieldOf (s.plcArg 1) 0 24
    s.redirectCheck h n = .ok (a, b) → s.slotsHolding a.sid = [] →
    Answers (.redirect tag) s fun t =>
      s.writes t [.regs, .segs, .xng, .mc] ∧ t.mc = s.memWake.mc ∧
      s.plcTells t tag.toNat 0 0 [(Reg.PLC_RES 0, h), (Reg.PLC_RES 2, s.sysTime (s.now + 2048) % 2 ^ 32),
        (Reg.PLC_RES 3, s.sysTime (s.now + 2048) / 2 ^ 32)] ∧
      t.seg n = none ∧ t.seg h = some { a with
        redirect := some ⟨b.sid, 0, none, s.now + 2048, s.get Reg.PLC_CFG_UPD_GRP, []⟩ } ∧
      (∀ k, k ≠ n → k ≠ h → t.seg k = s.seg k)) ∧
  (∀ (s : State) (h : BitVec 24) (g : Seg) (r : Redirect), s.seg h.toNat = some g → g.redirect = some r →
    s.redirectDue r = true →
    Answers (.redirectApply h) s fun t =>
      s.writes t [.segs, .olds, .ctxs, .tiles] ∧ t.seg h.toNat = some { g with sid := r.sid, redirect := none } ∧
      t.olds = s.olds ++ [⟨h.toNat, g.sid⟩] ∧ (∀ k, k ≠ h.toNat → t.seg k = s.seg k)) ∧
  (∀ (s : State) (h : BitVec 24) (o : OldStore),
    s.olds.find? (fun o => decide (o.h = h.toNat) && decide (s.refCount o.h o.sid = 0)) = some o →
    Answers (.redirectOldRelease h) s fun t =>
      s.writes t [.regs, .stores, .olds, .mem, .poison, .mc] ∧ t.olds = s.olds.filter (fun p => decide (p ≠ o)) ∧
      mfind t.stores o.sid = none ∧ (∀ i, i ≠ o.sid → mfind t.stores i = mfind s.stores i) ∧
      (∀ a, t.readByte a = if a / 9 / 2 ^ 34 = o.sid then none else s.readByte a)))

/-- LOAD, accepted, opens a transfer on its handle, LOADING where it writes other than a ring; LOAD_END reports the oldest
transfer whose last word has come, and closes it. -/
def Obligations.LoadsOpenAndEnd : Prop :=
  (∀ (s : State) (tag : BitVec 8) (g : Seg), s.plcTakes [24, 6, 32, 32, 32, 32] → s.seg (s.plcArg 0) = some g →
    let a := s.plcArg 1
    let read := decide (fieldOf a 0 1 = 1)
    let ring := decide (fieldOf a 2 1 = 1)
    let off := s.plcArg 2 + 2 ^ 32 * s.plcArg 3
    let count := s.plcArg 4 + 2 ^ 32 * s.plcArg 5
    s.loadCheck (s.plcArg 0) g read ring (fieldOf a 3 3) off count = .ok () →
    Answers (.load tag) s fun t =>
      s.writes t [.regs, .segs, .xng, .mc] ∧
      s.plcTells t tag.toNat 0 0 [(Reg.PLC_RES 0, s.plcArg 0)] ∧ t.mc = s.memWake.mc ∧
      (∀ h, h ≠ s.plcArg 0 → t.seg h = s.seg h) ∧
      ∃ g', t.seg (s.plcArg 0) = some g' ∧ g'.sid = g.sid ∧ g'.redirect = g.redirect ∧ g'.guests = g.guests ∧
        g'.loading = (g.loading || !read && !ring) ∧ g'.loads = g.loads ++ [⟨tag.toNat, read, decide (fieldOf a 1 1 = 1), ring,
          fieldOf a 3 3, off, count, 0, 0, s.get Reg.TXL_PEER_MOD, s.get Reg.TXL_PEER_HANDLE,
          s.get Reg.TXL_PEER_OFF_LO + 2 ^ 32 * s.get Reg.TXL_PEER_OFF_HI, false, g.sid, []⟩]) ∧
  (∀ (s : State) (h : BitVec 24) (g : Seg) (l : OpenLoad), s.seg h.toNat = some g →
    g.loads.find? (fun l => decide (l.done = l.count)) = some l → l.src = 0 →
    Answers (.loadEnd h) s fun t =>
      s.writes t [.regs, .segs, .xng] ∧
      s.plcTells t (l.tag % 2 ^ 8) (if 0 < l.poisoned then 0x0E else 0x00) 1
        [(Reg.PLC_RES 0, h.toNat), (Reg.PLC_RES 1, min l.poisoned 0xFFFFFFFF)] ∧
      (∀ k, k ≠ h.toNat → t.seg k = s.seg k) ∧
      ∃ g', t.seg h.toNat = some g' ∧ g'.sid = g.sid ∧ g'.loads = g.loads.erase l ∧ g'.guests = g.guests ∧
        (g'.loading = true ↔ g.loading = true ∧ ((∃ x ∈ g.loads.erase l, x.read = false ∧ x.ring = false) ∨
          (∃ x ∈ g.guests, x.read = false ∧ x.ring = false) ∨
          g.finalDone = false ∧ ¬ (l.read = false ∧ l.ring = false ∧ l.final = true))))

/-- QUERY, MIGRATE and READMIT: what a handle is; a migration of the engine's own extents; a RETIRED rank under test. The
end of a READMIT's test, by what it found: no setting, or a pattern in error, and the rank is RETIRED again with the time and
the reason; else, with no other migration in hand, it joins the spare reserve and its retirement is forgotten. Migration: a
leaving rank's extents start to move, the first of them to the target that takes it, or, with none, NOSPARE is set; an extent
copied lies on its target's rank; extents of the engine's own choosing are counted up and down; and the record of a retirement
goes to the MRAM unless a sag blocks it. -/
def Obligations.RanksAndExtentsMove : Prop :=
  ((∀ (s : State) (tag : BitVec 8) (g : Seg), s.plcTakes [24, 1, 0, 0, 0, 0] → s.seg (s.plcArg 0) = some g →
    let h := s.plcArg 0
    let st := s.store g.sid
    let r0 := 2 ^ 31 * (if g.redirect.isSome then 1 else 0) + 2 ^ 29 * s.segState h + 2 ^ 27 * st.cls.code +
      2 ^ 24 * st.kind.code + h
    let left := match g.loads.find? (fun l => decide (l.src = 0) && decide (l.done < l.count)) with
      | some l => l.count - l.done
      | none => 0
    Answers (.query tag) s fun t =>
      s.writes t [.regs, .xng, .mc] ∧ t.mc = s.memWake.mc ∧
      s.plcTells t tag.toNat 0 0 (if s.plcArg 1 = 0 then
        [(Reg.PLC_RES 0, r0),
         (Reg.PLC_RES 1, 65536 * min (s.poisonCount g.sid) 65535 + min (s.refCount h g.sid) 65535),
         (Reg.PLC_RES 2, st.len % 2 ^ 32), (Reg.PLC_RES 3, st.len / 2 ^ 32 % 2 ^ 32)]
      else
        [(Reg.PLC_RES 0, r0), (Reg.PLC_RES 1, g.loads.length % 2 ^ 32),
         (Reg.PLC_RES 2, left % 2 ^ 32), (Reg.PLC_RES 3, left / 2 ^ 32 % 2 ^ 32)])) ∧
  (∀ (s : State) (tag : BitVec 8) (e : BitVec 20) (i : Nat), s.plcTakes [24, 0, 0, 0, 0, 0] →
    (s.plcArg 0 = 0 ∧ i = 0 ∨ s.plcArg 0 ≠ 0 ∧ ∃ g, s.seg (s.plcArg 0) = some g ∧ g.sid = i) →
    Answers (.migrate tag e) s fun t =>
      s.writes t [.regs, .xng, .mc] ∧ s.plcTells t tag.toNat 0 0 [] ∧
      t.mc = { s.memWake.mc with
        jobs := if e = 0 then s.mc.jobs else mins s.mc.jobs i (mget (fun _ => 0) s.mc.jobs i + e.toNat) }) ∧
  (∀ (s : State) (tag : BitVec 8), s.get Reg.GLB_STATE_UNLOCKED = 1 → s.plcTakes [32, 0, 0, 0, 0, 0] →
    s.plcArg 0 < 192 → s.rankSt (s.plcArg 0) = 3 →
    Answers (.readmit tag) s fun t =>
      s.writes t [.regs, .xng, .mc] ∧ t.mc = s.memWake.mc ∧
      s.plcTells t tag.toNat 0 0 [(Reg.GLB_STATE_UNLOCKED, 0), (Reg.RANK_STATE_STATE (s.plcArg 0), 4),
        (Reg.MEM_STATUS_TRAINING, 1)])) ∧
  (∀ (s : State) (rank : RankNo) (passed : Bool), s.rankSt rank.val = 4 →
    let r := rank.val
    let n := s.sysTime s.now
    let training := bit (s.mc.retrain.isSome || (upto 192).any (fun q => decide (q ≠ r ∧ s.rankSt q = 4)))
    let retired := [(Reg.RANK_STATE_STATE r, 3), (Reg.RANK_RET_TIME_LO r, n % 2 ^ 32), (Reg.RANK_RET_TIME_HI r, n / 2 ^ 32),
      (Reg.MEM_STATUS_TRAINING, training)]
    let mc := { s.mc with moving := s.mc.moving.filter (fun q => decide (q ≠ r)), retAt := mdel s.mc.retAt r }
    (Answers (.readmitTestEnd rank false passed) s fun t =>
      s.writes t [.regs, .mc] ∧ t.mc = mc ∧ s.setsFields t (retired ++ [(Reg.RANK_STATE_STS r, 0x0D)])) ∧
    (Answers (.readmitTestEnd rank true false) s fun t =>
      s.writes t [.free, .regs, .mc] ∧ t.mc = mc ∧
      s.setsFields t (retired ++ [(Reg.RANK_STATE_STS r, 0x06), (Reg.RANK_EYE_WIDTH r, t.get (Reg.RANK_EYE_WIDTH r)),
        (Reg.RANK_EYE_UI r, t.get (Reg.RANK_EYE_UI r))])) ∧
    (s.get Reg.NVS_SUPPLY_NV_BLOCK = 0 → s.mc.moving = [] → s.mc.lost = [] → (∀ q, q < 192 → s.rankLeaving q = false) →
      Answers (.readmitTestEnd rank true true) s fun t =>
      s.writes t [.free, .regs, .mc, .pw] ∧
      s.setsFields t [(Reg.RANK_STATE_STATE r, 1), (Reg.RANK_STATE_STS r, 0), (Reg.RANK_STATE_CAUSE r, 0),
        (Reg.RANK_EYE_WIDTH r, t.get (Reg.RANK_EYE_WIDTH r)), (Reg.RANK_EYE_UI r, t.get (Reg.RANK_EYE_UI r)),
        (Reg.MEM_STATUS_RETIRING, 0), (Reg.MEM_STATUS_DEGRADED, 0), (Reg.MEM_STATUS_NOSPARE, 0),
        (Reg.MEM_STATUS_TRAINING, training)] ∧
      t.mc = { s.mc with records := s.mc.records.filter (fun p => decide (p.1 ≠ rank.val)) } ∧
      t.pw = { s.pw with retired := s.pw.retired.filter (fun p => decide (p.1 ≠ rank.val)) })) ∧
  ((∀ (s : State) (r : RankNo) (e : BitVec 20), s.rankLeaving r = true → r.val ∉ s.mc.moving →
    mfind s.mc.copies r.val = none →
    (∀ q, q < r.val → s.rankLeaving q = true → q ∈ s.mc.moving ∨ mfind s.mc.retAt q ≠ mfind s.mc.retAt r.val) →
    let v := { s with mc := { s.mc with moving := s.mc.moving ++ [r.val] } }
    (v.firstExt r.val = none → Answers (.migrationStart (some r) e) s fun t => s.writes t [.regs, .mc] ∧ t.mc = v.mc) ∧
    (∀ i x, v.firstExt r.val = some (i, x) → v.target i r.val = none → Answers (.migrationStart (some r) e) s fun t =>
      s.writes t [.regs, .mc] ∧ t.mc = v.mc ∧ t.get Reg.MEM_STATUS_NOSPARE = 1) ∧
    (∀ i x q, v.firstExt r.val = some (i, x) → v.target i r.val = some q → q < 192 →
      s.get (Reg.RANK_STATE_EXT_USED q) < 4095 → Answers (.migrationStart (some r) e) s fun t =>
      s.writes t [.regs, .mc] ∧ t.mc = { v.mc with copies := mins s.mc.copies r.val (i, q) } ∧
      t.get (Reg.RANK_STATE_EXT_USED q) = s.get (Reg.RANK_STATE_EXT_USED q) + 1 ∧
      (∀ p, p < 192 → p ≠ q → t.get (Reg.RANK_STATE_EXT_USED p) = s.get (Reg.RANK_STATE_EXT_USED p)))) ∧
  (∀ (s : State) (e : BitVec 20), s.active Reg.PLC_CFG_DEFRAG_EN = 1 →
    Answers (.migrationStart none e) s fun t =>
      s.writes t [.mc] ∧ t.mc = { s.mc with
        jobs := if e = 0 then s.mc.jobs else mins s.mc.jobs 0 (mget (fun _ => 0) s.mc.jobs 0 + e.toNat) }) ∧
  (∀ s : State, s.get Reg.MEM_SR_ACTIVE = 0 →
    (s.get Reg.MEM_STATUS_HOT = 0 → ∀ i n l, s.mc.jobs = (i, n) :: l → Answers (.migrationExtentDone none) s fun t =>
      s.writes t [.mc] ∧
      t.mc = { s.mc with jobs := if n ≤ 1 then mdel s.mc.jobs i else mins s.mc.jobs i (n - 1) }) ∧
    (∀ (r : RankNo) i q x, mfind s.mc.copies r.val = some (i, q) → s.ext i = some x →
      s.rankHot r.val = false → s.rankHot q = false → Answers (.migrationExtentDone (some r)) s fun t =>
        s.writes t [.regs, .mc] ∧ t.ext i = some { x with rank := q } ∧ (∀ j, j ≠ i → t.ext j = s.ext j))) ∧
  (∀ (s : State) (r : RankNo) (p : Nat × Nat), s.get Reg.NVS_SUPPLY_NV_BLOCK = 0 →
    s.mc.records.find? (fun p => decide (p.1 = r.val)) = some p →
    Answers (.retirementRecordWrite r) s fun t =>
      s.writes t [.mc, .pw] ∧
      t.mc = { s.mc with records := s.mc.records.filter (fun q => decide (q.1 ≠ r.val)) } ∧
      t.pw = { s.pw with
        retired := s.pw.retired.filter (fun q => decide (q.1 ≠ p.1)) ++ (if p.2 = 0 then [] else [p]) }) ∧
  (∀ (s : State) (r : RankNo), s.get Reg.NVS_SUPPLY_NV_BLOCK = 1 → Answers (.retirementRecordWrite r) s fun t => t = s))

/-- What PLC commands refuse: all while another is in progress; arguments with a bit that the opcode does not list; a
handle that is not live; a rank that is not RETIRED. Nothing but the report changes. What context commands refuse: all
while another is in progress on the tile; a context bound to another tile; a context in a state that the command does not
take. Only the report changes. In the cycle of a tile reset they are discarded. -/
def Obligations.CommandsAreRefusedWithAReport : Prop :=
  (∀ (s : State) (tag : BitVec 8),
    (s.get Reg.PLC_STATUS_BUSY = 1 → ∀ c ∈ [Instr.alloc tag, .free tag, .load tag, .redirect tag, .query tag],
      Answers c s fun t => s.setsOnly t [(Reg.PLC_STATUS_OVERRUN, 1)]) ∧
    (s.get Reg.PLC_STATUS_BUSY = 0 →
      ∀ c m, (c, m) ∈ [(Instr.alloc tag, [24, 5, 32, 32, 32, 0]), (.free tag, [24, 0, 0, 0, 0, 0]),
          (.load tag, [24, 6, 32, 32, 32, 32]), (.query tag, [24, 1, 0, 0, 0, 0])] → s.plcArgsOk m = false →
      Answers c s fun t => s.writes t [.regs, .xng] ∧ s.plcTells t tag.toNat 0x0B 0 []) ∧
    (∀ c m, (c, m) ∈ [(Instr.free tag, [24, 0, 0, 0, 0, 0]), (.load tag, [24, 6, 32, 32, 32, 32])] → s.plcTakes m →
      s.seg (s.plcArg 0) = none →
      Answers c s fun t => s.writes t [.regs, .xng] ∧ s.plcTells t tag.toNat 0x05 0 []) ∧
    (s.get Reg.GLB_STATE_UNLOCKED = 1 → s.plcTakes [32, 0, 0, 0, 0, 0] → s.plcArg 0 < 192 → s.rankSt (s.plcArg 0) ≠ 3 →
      Answers (.readmit tag) s fun t => s.writes t [.regs, .xng] ∧
        s.plcTells t tag.toNat 0x0C 0 [(Reg.GLB_STATE_UNLOCKED, 0)])) ∧
  (∀ (s : State) (t : Tile) (tag : BitVec 8) (c : CtxNo),
    let all := [Instr.seqLoad t tag c 0, .seqPrep t tag c 0, .seqStart t tag c 0, .seqResume t tag c 0, .seqPause t tag c 0,
      .seqStop t tag c 0, .seqRelease t tag c 0]
    ((s.tile t).resetAt = some s.now → ∀ i ∈ all, Answers i s fun u => u = s) ∧
    ((s.tile t).resetAt ≠ some s.now → (s.tile t).prep ≠ none →
      ∀ i ∈ all, Answers i s fun u => s.setsOnly u [(Reg.SEQ_CMD_STATUS_OVERRUN t, 1)]) ∧
    ((s.tile t).resetAt ≠ some s.now → (s.tile t).prep = none → s.get (Reg.CTX_CFG_BIND c) ≠ t.val →
      ∀ i ∈ all, Answers i s fun u => s.writes u [.regs, .xng] ∧ s.seqTells u t tag.toNat 0x06 []) ∧
    (s.seqTakes t c →
      ∀ i st, (i, st) ∈ [(Instr.seqLoad t tag c 0, CtxState.running), (.seqLoad t tag c 0, .ready),
        (.seqLoad t tag c 0, .paused), (.seqPrep t tag c 0, .free), (.seqPrep t tag c 0, .ready),
        (.seqStart t tag c 0, .loaded), (.seqStart t tag c 0, .paused), (.seqResume t tag c 0, .ready),
        (.seqPause t tag c 0, .paused), (.seqPause t tag c 0, .ready), (.seqRelease t tag c 0, .running),
        (.seqRelease t tag c 0, .free)] → (s.ctx c).st = st →
      Answers i s fun u => s.writes u [.regs, .xng] ∧ s.seqTells u t tag.toNat 0x0C []))

/-! ## Sequence instructions -/

/-- What comes before every instruction's own effect on a waveform tile: the item before it is closed at the instruction's
position, the instruction is taken from what the tile has resolved, and, where it has no duration, one more is counted; nothing
else changes. HALT, CALL, RET, JUMP and SIGNAL whose condition does not hold are NOP: only the PC moves. -/
def Obligations.AnInstructionTakesItsTurn : Prop :=
  (∀ (s : State) (t : Tile) (c op p : Nat), t.val < 8 →
    let x := s.tile t
    let y := (s.due t c op p).tile t
    let one := if timedOp op then 0 else 1
    s.writes (s.due t c op p) [.tiles] ∧
    s.tileBecomes (s.due t c op p) t { x with
      item := .idle, nextPos := p
      spin := (if x.item = .idle then x.spin else 0) + one
      between := (if x.item = .idle then x.between else 0) + one
      lastCc := y.lastCc, lastOk := y.lastOk, rcFrom := y.rcFrom, blockDone := y.blockDone, ahead := y.ahead }) ∧
  (∀ (s : State) (t : Tile) (ops : BitVec 66) (c p : Nat) (op : Nat) (i : Instr),
    (op, i) ∈ [(0x01, Instr.halt t ops), (0x06, .call t ops), (0x07, .ret t ops), (0x08, .jump t ops),
      (0x14, .signal t ops)] →
    s.runsInstr t op ops c p → (s.due t c op p).holds c (opCond ops) = false →
    Answers i s fun u => (s.due t c op p).writes u [.ctxs] ∧ (s.due t c op p).ctxBecomes u c ((s.due t c op p).ctx c).stepped)

/-- NOP, LOOP, ENDLOOP, SETTS and COUNT: the PC moves to the next word, or, for an ENDLOOP that repeats, to the loop's
start; loops are pushed, counted and popped; the bank and the counter are written. -/
def Obligations.LoopsBanksAndCounters : Prop :=
  ∀ (s : State) (t : Tile) (ops : BitVec 66) (c p : Nat),
    (s.runsInstr t 0x00 ops c p → Answers (.nop t ops) s fun u =>
      let v := s.due t c 0x00 p
      v.writes u [.ctxs] ∧ v.ctxBecomes u c (v.ctx c).stepped) ∧
    (s.runsInstr t 0x04 ops c p → ((s.due t c 0x04 p).ctx c).loops.length < 8 → Answers (.loop t ops) s fun u =>
      let v := s.due t c 0x04 p
      let n := opBits ops 0 32
      v.writes u [.ctxs] ∧ v.ctxBecomes u c { (v.ctx c).stepped with
        loops := ⟨(v.ctx c).pc.next, n, decide (n = 0), decide (opBits ops 62 1 = 1)⟩ :: (v.ctx c).loops }) ∧
    (s.runsInstr t 0x05 ops c p → ∀ l ls, ((s.due t c 0x05 p).ctx c).loops = l :: ls →
      ((s.due t c 0x05 p).ctx c).loopFloor < ls.length + 1 → Answers (.endloop t ops) s fun u =>
      let v := s.due t c 0x05 p
      v.writes u [.ctxs] ∧ v.ctxBecomes u c
        (if l.forever = true then { v.ctx c with pc := l.start, pos := .fresh }
         else if 1 < l.left then { v.ctx c with pc := l.start, pos := .fresh, loops := { l with left := l.left - 1 } :: ls }
         else { (v.ctx c).stepped with loops := ls })) ∧
    (s.runsInstr t 0x0D ops c p → Answers (.setts t ops) s fun u =>
      let v := s.due t c 0x0D p
      v.writes u [.ctxs] ∧ v.ctxBecomes u c { (v.ctx c).stepped with tsBank := opBits ops 0 1 }) ∧
    (s.runsInstr t 0x15 ops c p → Answers (.count t ops) s fun u =>
      let v := s.due t c 0x15 p
      let i := opBits ops 32 1
      v.writes u [.regs, .ctxs] ∧ v.ctxBecomes u c (v.ctx c).stepped ∧
      v.setsFields u [(Reg.CTX_CNT c i,
        if opBits ops 64 2 = 1 then opBits ops 0 32 else (v.get (Reg.CTX_CNT c i) + opBits ops 0 32) % 2 ^ 32)])

/-- CALL, RET, JUMP and HALT, where their condition holds: stacks pushed, popped and cut, the PC at the target, or the
context Halted past the instruction and the tile free. -/
def Obligations.CallsReturnsJumpsAndHalts : Prop :=
  ∀ (s : State) (t : Tile) (ops : BitVec 66) (c p : Nat),
    (s.runsInstr t 0x06 ops c p → (s.due t c 0x06 p).holds c (opCond ops) = true →
      ((s.due t c 0x06 p).ctx c).calls.length < 16 →
      ∀ a, (s.due t c 0x06 p).refTarget t (opHandle ops) (opOffset ops) = .ok a → Answers (.call t ops) s fun u =>
        let v := s.due t c 0x06 p
        v.writes u [.ctxs] ∧ v.ctxBecomes u c { v.ctx c with
          pc := a, pos := .fresh
          calls := ⟨(v.ctx c).pc.next, .fresh, (v.ctx c).loops.length⟩ :: (v.ctx c).calls }) ∧
    (s.runsInstr t 0x07 ops c p → (s.due t c 0x07 p).holds c (opCond ops) = true →
      ∀ k ks, ((s.due t c 0x07 p).ctx c).calls = k :: ks → ((s.due t c 0x07 p).store k.ret.sid).kind = .program →
      (k.pos = .fresh ∨ (∃ n, k.pos = .steps n) ∨ (∃ n since, k.pos = .sync n since) → Answers (.ret t ops) s fun u =>
        let v := s.due t c 0x07 p
        v.writes u [.ctxs, .tiles] ∧ (∀ j, u.tile j = v.tile j) ∧ v.ctxBecomes u c { v.ctx c with
          pc := k.ret, pos := k.pos, calls := ks, loops := cutTo k.depth (v.ctx c).loops }) ∧
      (∀ h sid e n b w m, k.pos = .block h sid e n b w m → Answers (.ret t ops) s fun u =>
        let v := s.due t c 0x07 p
        v.writes u [.ctxs, .tiles] ∧ (u.tile t).item = .stream h sid e n m b w p .playing ∧ (u.tile t).running = some c ∧
        (∀ j, j ≠ t.val → u.tile j = v.tile j) ∧ (∀ d, d ≠ c → u.ctx d = v.ctx d) ∧ (u.ctx c).pc = k.ret ∧
        (u.ctx c).calls = ks ∧ (u.ctx c).loops = cutTo k.depth (v.ctx c).loops) ∧
      (∀ h sid len f w reps, k.pos = .words h sid len f w reps → Answers (.ret t ops) s fun u =>
        let v := s.due t c 0x07 p
        v.writes u [.ctxs, .tiles] ∧ (u.tile t).item = .words h sid len f w reps p ∧ (u.tile t).running = some c ∧
        (∀ j, j ≠ t.val → u.tile j = v.tile j) ∧ (∀ d, d ≠ c → u.ctx d = v.ctx d) ∧ (u.ctx c).pc = k.ret ∧
        (u.ctx c).calls = ks ∧ (u.ctx c).loops = cutTo k.depth (v.ctx c).loops)) ∧
    (s.runsInstr t 0x08 ops c p → (s.due t c 0x08 p).holds c (opCond ops) = true → opBits ops 58 4 ≤ 8 →
      opBits ops 58 4 ≤ ((s.due t c 0x08 p).ctx c).loops.length - ((s.due t c 0x08 p).ctx c).loopFloor →
      ∀ a, (s.due t c 0x08 p).refTarget t (opHandle ops) (opOffset ops) = .ok a → Answers (.jump t ops) s fun u =>
        let v := s.due t c 0x08 p
        v.writes u [.ctxs] ∧ v.ctxBecomes u c { v.ctx c with
          pc := a, pos := .fresh, loops := (v.ctx c).loops.drop (opBits ops 58 4) }) ∧
    (s.runsInstr t 0x01 ops c p → (s.due t c 0x01 p).holds c (opCond ops) = true → t.val < 8 →
      Answers (.halt t ops) s fun u =>
        let v := s.due t c 0x01 p
        v.writes u [.ctxs, .tiles] ∧ (u.ctx c).st = .halted ∧ (u.ctx c).pc = (v.ctx c).pc.next ∧
        (u.tile t).running = none ∧ (u.tile t).last = some c ∧ (u.tile t).item = .idle ∧
        (u.tile t).mark0 = 0 ∧ (u.tile t).mark1 = 0 ∧ (∀ j, j ≠ t.val → u.tile j = v.tile j))

/-- PLAY, PLAYN, WAIT, SYNC, RAMP and STREAM begin their item where the one before it ended, and the PC moves on. A WAIT and a
SYNC put the bridge on the pins of a pattern tile's group. A STREAM under DIVERT holds the slot that resolving it has found. -/
def Obligations.TimedItemsBegin : Prop :=
  let begun := fun (v u : State) (t : Tile) (p : Nat) => (u.tile t).spin = 0 ∧ (u.tile t).itemAt = p ∧
    (u.tile t).nextPos = p ∧ (u.tile t).running = (v.tile t).running ∧ ∀ k, k ≠ t.val → u.tile k = v.tile k
  let bridged := fun (v u : State) (t : Tile) => v.writes u [.ctxs, .tiles, .grp] ∧
    (∀ g, t.val < 8 ∨ g ≠ t.val - 8 → u.group g = v.group g) ∧
    (8 ≤ t.val → u.group (t.val - 8) = { v.group (t.val - 8) with drive := (v.bridgePins t).group (t.val - 8) |>.drive })
  ∀ (s : State) (t : Tile) (ops : BitVec 66) (c p : Nat),
    let found := fun (t : Tile) (c p : Nat) => ((s.closeItem t p).resolvedAt t c).bind (fun r => r.land)
    (s.runsInstr t 0x02 ops c p → ∀ r, (s.due t c 0x02 p).refPlay t (opHandle ops) (opOffset ops) = .ok r →
      Answers (.play t ops) s fun u =>
        let v := s.due t c 0x02 p
        v.writes u [.ctxs, .tiles] ∧ v.ctxBecomes u c (v.ctx c).stepped ∧ begun v u t p ∧
        (u.tile t).item = .words (opHandle ops) r.1 r.2.len (opOffset ops) (opOffset ops) 0 p ∧
        (u.tile t).rcache = (v.tile t).rcache) ∧
    (s.runsInstr t 0x03 ops c p → ∀ r, (s.due t c 0x03 p).refPlay t (opHandle ops) 0 = .ok r →
      Answers (.playn t ops) s fun u =>
        let v := s.due t c 0x03 p
        let n := opBits ops 0 32 - 1
        v.writes u [.ctxs, .tiles] ∧ v.ctxBecomes u c (v.ctx c).stepped ∧ begun v u t p ∧
        (u.tile t).item = .words (opHandle ops) r.1 r.2.len 0 0 n p ∧
        (u.tile t).rcache = (if 0 < n ∧ r.2.len < 64 then some (r.1, r.2.len) else (v.tile t).rcache)) ∧
    (s.runsInstr t 0x0B ops c p → Answers (.wait t ops) s fun u =>
      let v := s.due t c 0x0B p
      let n := opBits ops 0 10
      bridged v u t ∧ v.ctxBecomes u c (v.ctx c).stepped ∧ begun v u t p ∧
      (u.tile t).item = .wait n (posCycle p) (v.waitEnds n (posCycle p))) ∧
    (s.runsInstr t 0x0C ops c p → ((s.due t c 0x0C p).ctx c).pos = .fresh → Answers (.sync t ops) s fun u =>
      let v := s.due t c 0x0C p
      let e := posCycle p
      bridged v u t ∧ v.ctxBecomes u c (v.ctx c).stepped ∧ begun v u t p ∧
      (u.tile t).item = .sync (opBits ops 62 2) (syncArg ops) e (v.syncTarget (opBits ops 62 2) (syncArg ops) e)) ∧
    (s.runsInstr t 0x10 ops c p → ((s.due t c 0x10 p).ctx c).pos = .fresh → Answers (.ramp t ops) s fun u =>
      let v := s.due t c 0x10 p
      v.writes u [.ctxs, .tiles] ∧ v.ctxBecomes u c (v.ctx c).stepped ∧ begun v u t p ∧
      (u.tile t).item = .ramp (opBits ops 60 2) (opBits ops 44 16) (opBits ops 28 16) (opBits ops 0 28) 0 (posCycle p)) ∧
    (s.runsInstr t 0x12 ops c p → ∀ i : Option Nat,
      (found t c p = some (match i with
        | some j => .slot j
        | none => .free) ∨ (found t c p = none ∧ i = none ∧ (s.due t c 0x12 p).upol c ≠ 2)) →
      ∀ r, (s.due t c 0x12 p).refStream t c (opHandle ops) = .ok r → Answers (.stream t ops) s fun u =>
        let v := s.due t c 0x12 p
        v.writes u [.ctxs, .tiles] ∧ v.ctxBecomes u c (v.ctx c).stepped ∧ begun v u t p ∧
        (u.tile t).item = .stream (opHandle ops) r.1 r.2 (opBits ops 0 32) 0 (v.store r.1).rd 0 p .playing ∧
        (u.tile t).divert = (if i.isSome then i else (v.tile t).divert))

/-- SETF, SETPH, MARK, SIGNAL and RAMP_STEP: the NCO's frequency word and the phase of slot 0 of the effect cycle, the
mark with its time and the override, the occurrence, and one step of a ramp of the gain or the offset, limited to its
range. -/
def Obligations.PhasesMarksSignalsAndSteps : Prop :=
  ∀ (s : State) (t : Tile),
    (∀ ops c p, s.runsInstr t 0x0E ops c p → Answers (.setf t ops) s fun u =>
      let v := s.due t c 0x0E p
      let e := posCycle p
      let f := opBits ops 0 48
      v.writes u [.regs, .ctxs, .wav] ∧ v.ctxBecomes u c (v.ctx c).stepped ∧
      v.setsFields u [(Reg.NCO_FTW_ACT_LO t, f % 2 ^ 32), (Reg.NCO_FTW_ACT_HI t, f / 2 ^ 32)] ∧
      u.wave t = { v.wave t with
        phase := BitVec.ofNat 48 (if opBits ops 65 1 = 1 then v.rstPhase t else v.phaseLast t e + f), phaseAt := e } ∧
      (∀ w, w ≠ t.val → u.wave w = v.wave w)) ∧
    (∀ ops c p, s.runsInstr t 0x0F ops c p → Answers (.setph t ops) s fun u =>
      let v := s.due t c 0x0F p
      let e := posCycle p
      v.writes u [.ctxs, .wav] ∧ v.ctxBecomes u c (v.ctx c).stepped ∧
      u.wave t = { v.wave t with
        phase := BitVec.ofNat 48
          (if opBits ops 65 1 = 1 then opBits ops 0 48 else v.phaseLast t e + v.ftw t + opBits ops 0 48)
        phaseAt := e } ∧
      (∀ w, w ≠ t.val → u.wave w = v.wave w)) ∧
    (∀ ops c p, s.runsInstr t 0x11 ops c p → Answers (.mark t ops) s fun u =>
      let v := s.due t c 0x11 p
      let n := v.sysTime (posCycle p)
      v.writes u [.regs, .ctxs, .tiles] ∧ v.ctxBecomes u c (v.ctx c).stepped ∧
      v.setsFields u [(Reg.SEQ_MARK_TAG t, opBits ops 0 32), (Reg.SEQ_MARK_TS_LO t, n % 2 ^ 32),
        (Reg.SEQ_MARK_TS_HI t, n / 2 ^ 32)] ∧
      v.tileBecomes u t (if t.val < 8 then { v.tile t with mark0 := opBits ops 32 2, mark1 := opBits ops 34 2 }
        else v.tile t)) ∧
    (∀ ops c p, s.runsInstr t 0x14 ops c p → (s.due t c 0x14 p).holds c (opCond ops) = true →
      Answers (.signal t ops) s fun u =>
        let v := s.due t c 0x14 p
        let e := posCycle p
        v.writes u [.ctxs, .evt] ∧ v.ctxBecomes u c (v.ctx c).stepped ∧
        u.evt = { v.evt with occ := v.evt.occ ++ [⟨0x0B5 + opBits ops 0 6, e, v.tsAt e⟩] }) ∧
    (∀ target steps dwell delta k next, (s.tile t).item = .ramp target steps dwell delta k next → k < steps →
      next ≤ s.now → Answers (.rampStep t) s fun u =>
        s.tileBecomes u t { s.tile t with item := .ramp target steps dwell delta (k + 1) (next + dwell) } ∧
        (target = 0 → s.writes u [.regs, .tiles, .wav] ∧
          let f := unsignedOf 48 ((s.ftw t : Int) + signedOf 28 delta * 2 ^ 20)
          s.setsFields u [(Reg.NCO_FTW_ACT_LO t, f % 2 ^ 32), (Reg.NCO_FTW_ACT_HI t, f / 2 ^ 32)] ∧
          (∀ w, w ≠ t.val → u.wave w = s.wave w)) ∧
        (target = 1 → s.writes u [.regs, .tiles] ∧
          s.setsFields u [(Reg.WAV_GAIN_ACT t, (max 0 (min ((s.get (Reg.WAV_GAIN_ACT t) : Int) + signedOf 28 delta)
            0xFFFFFFF)).toNat)]) ∧
        (target = 2 → s.writes u [.regs, .tiles] ∧
          s.setsFields u [(Reg.WAV_OFFSET_ACT t,
            unsignedOf 28 (clampSigned 28 (signedOf 28 (s.get (Reg.WAV_OFFSET_ACT t)) + signedOf 28 delta)))]))

/-- ARM and DISARM: the record written, with the landing slot that resolving the ARM has found for it, or cleared; a SWITCH
arm's slot may follow its target. SWITCH hands a tile to a READY or Paused context bound to it, at the point where the item
before it ended; the context that ran is Paused, or Halted, past the SWITCH. -/
def Obligations.ArmsAndSwitches : Prop :=
  (∀ (s : State) (t : Tile) (ops : BitVec 66) (c p : Nat),
    (s.runsInstr t 0x09 ops c p → ((s.due t c 0x09 p).ctx c).st = .running →
      let v := s.due t c 0x09 p
      let k := opBits ops 59 3
      let act := armAct (opBits ops 56 3)
      let h := if act = .goto ∨ act = .call then opBits ops 22 24 else 0
      let off := opBits ops 0 22
      let record := fun slot : Option Nat => (⟨true, opBits ops 46 10, act, h, off, decide (opBits ops 65 1 = 1),
        decide (opBits ops 64 1 = 1), slot, 0, ((v.ctx c).arm k).gen + 1⟩ : ArmRec)
      let landing := match ((s.closeItem t p).resolvedAt t c).bind (fun r => r.land) with
        | some l => l
        | none => (v.landArm t ops).2
      ∀ slot : Option Nat, (landing = match slot with
          | some i => .slot i
          | none => .free) → Answers (.arm t ops) s fun u =>
        (act ≠ .switch → (u.ctx c).arm k = record slot) ∧ (∃ i, (u.ctx c).arm k = record i) ∧
        (u.ctx c).pc = (v.ctx c).pc.next ∧ (u.ctx c).st = .running ∧ v.writes u [.ctxs, .tiles]) ∧
    (s.runsInstr t 0x0A ops c p → Answers (.disarm t ops) s fun u =>
      let v := s.due t c 0x0A p
      v.writes u [.ctxs, .tiles] ∧ (u.ctx c).pc = (v.ctx c).pc.next ∧ (u.ctx c).pos = .fresh ∧
      ((u.ctx c).arm (opBits ops 59 3)).valid = false ∧
      (opBits ops 65 1 = 1 → ∀ k, ((u.ctx c).arm k).valid = false))) ∧
  (∀ (s : State) (t : Tile) (ops : BitVec 66) (c p : Nat), s.runsInstr t 0x13 ops c p →
    let v := s.due t c 0x13 p
    let d := opBits ops 0 10
    d ≠ c → v.get (Reg.CTX_CFG_BIND d) = t.val → (v.ctx d).st = .ready ∨ (v.ctx d).st = .paused →
    Answers (.switch t ops) s fun u =>
      v.writes u [.ctxs, .tiles] ∧ (u.tile t).running = some d ∧ (u.tile t).nextPos = p ∧ (u.tile t).last = some c ∧
      (u.ctx d).st = .running ∧ (u.ctx c).st = (if opBits ops 65 1 = 1 then .halted else .paused) ∧
      (u.ctx c).pc = (v.ctx c).pc.next ∧ (∀ j, j ≠ t.val → u.tile j = v.tile j))

/-- What faults a context: an instruction that R82 refuses, whichever it is, on a pattern tile whether or not the vector cycle in
progress is cut; the 4,096th of no duration in a row, which has no effect; a routine that runs away. The context is Faulted with
its cause and status, and the tile plays it no more. -/
def Obligations.FaultsStopTheContext : Prop :=
  ∀ (s : State) (t : Tile) (c : Nat), (s.tile t).running = some c →
    (∀ (ops : BitVec 66) (op : Nat) (i : Instr),
      (op, i) ∈ [(0x00, Instr.nop t ops), (0x01, .halt t ops), (0x02, .play t ops), (0x03, .playn t ops),
        (0x04, .loop t ops), (0x05, .endloop t ops), (0x06, .call t ops), (0x07, .ret t ops), (0x08, .jump t ops),
        (0x09, .arm t ops), (0x0A, .disarm t ops), (0x0B, .wait t ops), (0x0C, .sync t ops), (0x0D, .setts t ops),
        (0x0E, .setf t ops), (0x0F, .setph t ops), (0x10, .ramp t ops), (0x11, .mark t ops), (0x12, .stream t ops),
        (0x13, .switch t ops), (0x14, .signal t ops), (0x15, .count t ops)] →
      (s.tile t).micro.upc = none → ∀ p, s.itemEnd t = some p → posCycle p ≤ s.now →
      ∀ k e, (s.closeItem t p).instrFault t c op ops = some (k, e) →
      (8 ≤ t.val →
        let v := s.stopVec t (posCycle p * Config.fine)
        (v.setTile t ((v.tile t).closed p)).instrFault t c op ops = some (k, e)) →
      Answers i s fun u => u.faulted t c k e ∧ (t.val < 8 → u.faultRegs t c k e)) ∧
    (4095 ≤ (s.tile t).spin → Answers (.spinFault t) s fun u =>
      u.faulted t c .spin .range ∧ (t.val < 8 → s.underrunAt t = none → u.faultRegs t c .spin .range)) ∧
    ((s.tile t).item = .runaway → Answers (.microFault t) s fun u =>
      u.faulted t c .micro .precond ∧ (t.val < 8 → u.faultRegs t c .micro .precond))

/-- SYNC_RELEASE, of every SYNC whose target is known and has come: the SYNC ends at its target cycle, or, where it came late, at
its own cycle, counted; LATE_FAULT faults the context instead. GAP, with a word due that may be late: the gap is counted and
noted with the word it waits for, or GAP_FAULT faults the context; with no such word nothing happens. GAP_END, of every gap: it
is over, and where a word waits, the word leaves now and what follows it moves back. -/
def Obligations.ReleasesAndGaps : Prop :=
  ∀ (s : State) (t : Tile) (c : Nat), (s.tile t).running = some c →
    let ended := fun (u : State) (pos : Nat) => (u.tile t).item = .idle ∧ (u.tile t).nextPos = pos ∧ (u.tile t).spin = 0 ∧
      (t.val < 8 → (u.tile t).running = some c ∧ ∀ k, k ≠ t.val → u.tile k = s.tile k)
    (∀ m a since n, (s.tile t).item = .sync m a since (some n) → n ≤ s.now →
      (since ≤ n → Answers (.syncRelease t) s fun u =>
        ended u (n * Config.fine) ∧ (t.val < 8 → s.writes u [.tiles])) ∧
      (n < since → s.active (Reg.SEQ_CTRL_LATE_FAULT t) = 0 → Answers (.syncRelease t) s fun u =>
        ended u (since * Config.fine) ∧ (t.val < 8 → s.writes u [.regs, .tiles] ∧
          s.setsFields u [(Reg.SEQ_STATUS_LATE t, 1),
            (Reg.SEQ_LATE_CNT t, min (s.get (Reg.SEQ_LATE_CNT t) + 1) 0xFFFFFFFF)])) ∧
      (n < since → s.active (Reg.SEQ_CTRL_LATE_FAULT t) = 1 → Answers (.syncRelease t) s fun u =>
        u.faulted t c .late .range ∧ (t.val < 8 → u.faultRegs t c .late .range))) ∧
    ((s.tile t).gapAt = none →
      (s.lateWord t = none → Answers (.gap t) s fun u => u = s) ∧
      (∀ it p, s.lateWord t = some (it, p) →
        (s.active (Reg.SEQ_CTRL_GAP_FAULT t) = 0 → Answers (.gap t) s fun u =>
          (u.tile t).gapAt = some s.now ∧ (u.tile t).item = it ∧
          (t.val < 8 → s.writes u [.regs, .tiles, .mon] ∧
            s.tileBecomes u t { s.tile t with gapAt := some s.now, item := it } ∧
            s.setsFields u [(Reg.SEQ_GAP_CNT t, min (s.get (Reg.SEQ_GAP_CNT t) + 1) 0xFFFFFFFF),
              (Reg.SEQ_STATUS_GAP t, 1)])) ∧
        (s.active (Reg.SEQ_CTRL_GAP_FAULT t) = 1 → Answers (.gap t) s fun u =>
          u.faulted t c .gap .state ∧ (t.val < 8 → s.underrunAt t = none → u.faultRegs t c .gap .state)))) ∧
    (∀ d, (s.tile t).gapAt = some d → Answers (.gapEnd t) s fun u =>
      s.writes u [.tiles] ∧ (∀ k, k ≠ t.val → u.tile k = s.tile k) ∧
      (s.itemAtWord t 0 = none → u.tile t = { s.tile t with gapAt := none }) ∧
      (∀ it p, s.itemAtWord t 0 = some (it, p) →
        let x := s.tile t
        let pos := s.now * Config.fine
        u.tile t = { x with
          gapAt := none, item := x.item.moved pos, itemAt := x.itemAt + (pos - p)
          rcFrom := x.rcFrom.map (fun q => q + (pos - p)), micro := x.micro.later (s.now - d) }))

/-! ## The micro-machine and user microcode -/

/-- ADD, SUB, CMP and MOV of an immediate: the result modulo 2^72 into A, the zero flag and the carry or borrow, the other
micro-registers as before, and the next microword follows. CMP writes the flags only, MOV no flag. USER_OPCODE enters the
routine of its opcode, with the word, its address and the ledger count in M0 to M2; a routine whose first microword is
NEXT ends at once: the PC has moved, and the tile runs the context on from where it stood. -/
def Obligations.TheMicroMachineRuns : Prop :=
  (∀ (s : State) (t : Tile) (c a w : Nat),
    let m := (s.tile t).micro
    let A := fieldOf w 15 4
    let x := m.reg (fieldOf w 11 4)
    let y := if fieldOf w 10 1 = 1 then BitVec.ofNat 72 (fieldOf w 0 10) else m.reg (fieldOf w 6 4)
    let r := s.microExec t c a w
    let m' := (r.1.tile t).micro
    (fieldOf w 19 5 = 0x01 → s.writes r.1 [.tiles] ∧ r.2 = .go ((a + 1) % 4096) ∧ m'.reg A = x + y ∧
      m'.z = decide (x + y = 0) ∧ m'.cy = decide (2 ^ 72 ≤ x.toNat + y.toNat) ∧ (∀ j, j ≠ A → m'.reg j = m.reg j)) ∧
    (fieldOf w 19 5 = 0x02 → s.writes r.1 [.tiles] ∧ r.2 = .go ((a + 1) % 4096) ∧ m'.reg A = x - y ∧
      m'.z = decide (x = y) ∧ m'.cy = decide (x.toNat < y.toNat) ∧ (∀ j, j ≠ A → m'.reg j = m.reg j)) ∧
    (fieldOf w 19 5 = 0x03 → s.writes r.1 [.tiles] ∧ r.2 = .go ((a + 1) % 4096) ∧
      m'.z = decide (x = y) ∧ m'.cy = decide (x.toNat < y.toNat) ∧ (∀ j, m'.reg j = m.reg j)) ∧
    (fieldOf w 19 5 = 0x00 → fieldOf w 13 2 = 1 → s.writes r.1 [.tiles] ∧ r.2 = .go ((a + 1) % 4096) ∧
      m'.reg A = BitVec.ofNat 72 (fieldOf w 0 13) ∧ m'.z = m.z ∧ m'.cy = m.cy ∧ (∀ j, j ≠ A → m'.reg j = m.reg j))) ∧
  (∀ (s : State) (t : Tile) (word : Word72) (c p : Nat), 0x16 ≤ fieldOf word.toNat 66 6 →
    let op := fieldOf word.toNat 66 6
    let v := s.due t c op p
    s.runsInstr t op (BitVec.ofNat 66 word.toNat) c p → (v.ctx c).pos = .fresh →
    fieldOf (v.microword t (v.get (Reg.MC_DISPATCH_START t op))) 19 5 = 0x13 →
    Answers (.userOpcode t word) s fun u =>
      v.writes u [.free, .ctxs, .tiles] ∧ (u.ctx c).pc = (v.ctx c).pc.next ∧ (u.ctx c).pos = .fresh ∧
      (∀ d, (u.ctx d).st = (v.ctx d).st) ∧ (u.tile t).micro.reg 0 = word ∧ (u.tile t).micro.reg 1 = BitVec.ofNat 72 (v.ctx c).pc.toNum ∧
      (u.tile t).micro.reg 2 = 0 ∧ (u.tile t).micro.upc = none ∧ (u.tile t).running = some c ∧
      (u.tile t).nextPos = p ∧ (∀ k, k ≠ t.val → u.tile k = v.tile k))

/-- A reload of user microcode: accepted with GO while nothing of the tile runs, and completed: the block's words and
entries are in force where it verifies and serves the tile, and else nothing but the status changes. Enrolment of a
customer key: unlocked and opened, each of the twelve words is taken once, a second write of a word is counted, the
twelfth starts the burn, and its end enrols the key. -/
def Obligations.UserMicrocodeAndKeys : Prop :=
  (∀ (s : State) (t : Tile),
    (∀ (v : Word) (g : Seg), s.get Reg.GLB_STATE_UNLOCKED = 1 → v.getLsbD 0 = true →
      (s.put Reg.GLB_STATE_UNLOCKED 0).reloadCheck t (s.get (Reg.MC_ULOAD_SRC t)) = none →
      s.seg (s.get (Reg.MC_ULOAD_SRC t)) = some g →
      Answers (.mcUload t v) s fun u =>
        s.writes u [.regs, .tiles] ∧ s.setsFields u [(Reg.GLB_STATE_UNLOCKED, 0), (Reg.MC_STATUS_BUSY t, 1)] ∧
        s.tileBecomes u t { s.tile t with reload := some ⟨s.get (Reg.MC_ULOAD_SRC t), g.sid⟩ }) ∧
    (∀ v : Word, s.get Reg.GLB_STATE_UNLOCKED = 1 → v.getLsbD 0 = true →
      ∀ e, (s.put Reg.GLB_STATE_UNLOCKED 0).reloadCheck t (s.get (Reg.MC_ULOAD_SRC t)) = some e →
      Answers (.mcUload t v) s fun u =>
        s.setsOnly u [(Reg.GLB_STATE_UNLOCKED, 0), (Reg.MC_STATUS_STS t, e.code)]) ∧
    (∀ r : Reload, (s.tile t).reload = some r →
      (∀ e, s.blockCheck t (s.segBytes r.sid) = some e → Answers (.userReloadComplete t) s fun u =>
        s.writes u [.regs, .tiles] ∧ s.setsFields u [(Reg.MC_STATUS_BUSY t, 0), (Reg.MC_STATUS_STS t, e.code)] ∧
        s.tileBecomes u t { s.tile t with reload := none }) ∧
      (s.blockCheck t (s.segBytes r.sid) = none → Answers (.userReloadComplete t) s fun u =>
        let l := s.segBytes r.sid
        s.writes u [.regs, .tiles, .ustore] ∧ s.tileBecomes u t { s.tile t with reload := none } ∧
        u.get (Reg.MC_STATUS_BUSY t) = 0 ∧ u.get (Reg.MC_STATUS_STS t) = 0 ∧
        u.get (Reg.MC_VERSION_USER t) = leAt l 4 2 % 2 ^ 16 ∧
        (∀ i, i < 1024 → u.microword t (0xC00 + i) = (if i < blockCount l then blockWord l i else 0) % 2 ^ 24) ∧
        (∀ a, a < 0xC00 → u.microword t a = s.microword t a) ∧
        (∀ (k : Tile) a, k ≠ t → u.microword k a = s.microword k a) ∧
        (∀ o, o < 16 → u.get (Reg.MC_DISPATCH_VALID t (0x30 + o)) = fieldOf (blockEntry l o) 15 1 ∧
          u.get (Reg.MC_DISPATCH_START t (0x30 + o)) = fieldOf (blockEntry l o) 0 12)))) ∧
  (∀ s : State,
    (∀ v : Word, s.get Reg.GLB_STATE_UNLOCKED = 1 → v.getLsbD 0 = true → s.get Reg.NVS_UKEY_CTRL_ENROLLED = 0 →
      s.get Reg.NVS_SUPPLY_NV_BLOCK = 0 → Answers (.ukeyOpen v) s fun u =>
        s.setsOnly u [(Reg.GLB_STATE_UNLOCKED, 0), (Reg.NVS_UKEY_CTRL_OPEN, 1), (Reg.NVS_UKEY_CTRL_STS, 0)]) ∧
    (∀ (i : Fin 12) (v : Word), s.get Reg.NVS_UKEY_CTRL_OPEN = 0 → Answers (.ukeyHashWrite i v) s fun u =>
      s.setsOnly u [(Reg.GLB_ERR_LOCKED_WRITE, 1)]) ∧
    (∀ (i : Fin 12) (v : Word), s.get Reg.NVS_UKEY_CTRL_OPEN = 1 → i.val ∈ s.ukey →
      Answers (.ukeyHashWrite i v) s fun u =>
        s.setsOnly u [(Reg.GLB_ERR_WO_REWRITE, 1), (Reg.GLB_WO_CNT, min (s.get Reg.GLB_WO_CNT + 1) 0xFFFFFFFF)]) ∧
    (∀ (i : Fin 12) (v : Word), s.get Reg.NVS_UKEY_CTRL_OPEN = 1 → i.val ∉ s.ukey →
      Answers (.ukeyHashWrite i v) s fun u =>
        s.writes u [.regs, .ukey] ∧ u.ukey = i.val :: s.ukey ∧
        s.setsFields u ((Reg.NVS_UKEY_HASH i, v.toNat) ::
          (if s.ukey.length = 11 then [(Reg.NVS_UKEY_CTRL_BURNING, 1)] else []))) ∧
    (s.ukey.length = 12 → s.get Reg.NVS_UKEY_CTRL_ENROLLED = 0 → Answers .fuseBurnComplete s fun u =>
      s.setsOnly u [(Reg.NVS_UKEY_CTRL_ENROLLED, 1), (Reg.NVS_UKEY_CTRL_BURNING, 0), (Reg.NVS_UKEY_CTRL_OPEN, 0)]))

/-! ## Contexts -/

/-- LOAD and RELEASE: a context at its initial PC, empty and Loaded; a context Free. The command's tag and STS_OK are
reported. -/
def Obligations.ContextsAreLoadedAndReleased : Prop :=
  ∀ (s : State) (t : Tile) (tag : BitVec 8) (c : CtxNo), s.seqTakes t c →
    ((s.ctx c).st = .free ∨ (s.ctx c).st = .loaded ∨ (s.ctx c).st = .halted ∨ (s.ctx c).st = .faulted →
      Answers (.seqLoad t tag c 0) s fun u =>
        s.writes u [.regs, .ctxs, .tiles, .xng, .mc] ∧ u.mc = s.memWake.mc ∧
        (u.ctx c).st = .loaded ∧ (u.ctx c).pos = .fresh ∧ (u.ctx c).loops = [] ∧ (u.ctx c).calls = [] ∧
        (u.ctx c).tsBank = 0 ∧ (u.ctx c).cause = 0 ∧ (u.ctx c).sts = 0 ∧ (∀ k, ((u.ctx c).arm k).valid = false) ∧
        (u.ctx c).pc = ⟨s.get (Reg.CTX_INIT_PC_HI_HANDLE c), 0,
          s.get (Reg.CTX_INIT_PC_LO c) + 2 ^ 32 * s.get (Reg.CTX_INIT_PC_HI_OFFSET_HI c)⟩ ∧
        s.seqTells u t tag.toNat 0 [(Reg.CTX_CNT c 0, 0), (Reg.CTX_CNT c 1, 0)]) ∧
    ((s.ctx c).st = .loaded ∨ (s.ctx c).st = .halted ∨ (s.ctx c).st = .faulted →
      Answers (.seqRelease t tag c 0) s fun u =>
        s.writes u [.regs, .ctxs, .xng, .mc] ∧ u.mc = s.memWake.mc ∧ s.ctxBecomes u c { s.ctx c with st := .free } ∧
        s.seqTells u t tag.toNat 0 [])

/-- PREP begins to make a Loaded context resident, and PREP_COMPLETE makes it Ready in the lowest free residency slot, if
its PC still lies in a program. START of a Ready context and RESUME of a Paused one, accepted: the start is pending, at
the lead from now, at a time given or at a pulse to come. START_CYCLE, from its cycle on, makes a Ready or Paused context
Running and lets the output leave its safe state. -/
def Obligations.ContextsArePreparedAndStarted : Prop :=
  (∀ (s : State) (t : Tile),
    (∀ (tag : BitVec 8) (c : CtxNo), s.seqTakes t c →
      (s.ctx c).st = .loaded → (s.residents t).length < 256 → ∀ a, s.refProgram (s.ctx c).pc.h (s.ctx c).pc.off = .ok a →
      Answers (.seqPrep t tag c 0) s fun u =>
        s.writes u [.regs, .tiles, .mc] ∧ u.mc = s.memWake.mc ∧ s.setsFields u [(Reg.SEQ_CMD_STATUS_BUSY t, 1)] ∧
        s.tileBecomes u t { s.tile t with prep := some (c.val, tag.toNat) }) ∧
    (∀ c tag, (s.tile t).prep = some (c, tag) → tag < 256 →
      ∀ a, s.refProgram (s.ctx c).pc.h (s.ctx c).pc.off = .ok a → Answers (.prepComplete t) s fun u =>
        s.writes u [.regs, .ctxs, .tiles, .xng, .mc] ∧
        (u.ctx c).st = .ready ∧ (u.ctx c).pc = a ∧ (u.ctx c).pos = .fresh ∧
        (u.ctx c).rslot = freeResid (s.residents t) 256 0 ∧ (∀ d, d ≠ c → (u.ctx d).st = (s.ctx d).st) ∧
        (u.tile t).prep = none ∧ (∀ k, k ≠ t.val → u.tile k = s.tile k) ∧
        s.seqTells u t tag 0 [(Reg.SEQ_CMD_STATUS_BUSY t, 0)])) ∧
  (∀ (s : State) (t : Tile),
    (∀ (tag : BitVec 8) (c : CtxNo) (mode : BitVec 2) (resume : Bool), s.seqTakes t c →
      (s.ctx c).st = (if resume then .paused else .ready) →
      (s.tile t).running = none → (s.tile t).start = none → (s.tile t).reload = none → s.calHold t = none →
      s.fifthChannel t = false → (mode = 1 → s.sysTime s.now + Config.lead ≤ s.seqTime t) →
      Answers (if resume then .seqResume t tag c mode else .seqStart t tag c mode) s fun u =>
        s.writes u [.regs, .tiles, .xng, .mc] ∧ u.mc = s.memWake.mc ∧ s.seqTells u t tag.toNat 0 [] ∧
        s.tileBecomes u t { s.tile t with
          ahead := none
          start := some ⟨c.val, resume, mode.toNat,
            if mode = 0 then some (s.now + Config.lead)
            else if mode = 1 then some (s.now + (s.seqTime t - s.sysTime s.now)) else none, s.now + Config.lead⟩ }) ∧
    (∀ (c : Nat) (res : Bool) (m n e : Nat), (s.tile t).start = some ⟨c, res, m, some n, e⟩ → n ≤ s.now →
      (s.ctx c).st = .ready ∨ (s.ctx c).st = .paused →
      Answers (.startCycle t) s fun u =>
        s.writes u [.ctxs, .tiles, .wav, .grp] ∧ (u.ctx c).st = .running ∧ (u.ctx c).pc = (s.ctx c).pc ∧
        (∀ d, d ≠ c → u.ctx d = s.ctx d) ∧ (u.tile t).running = some c ∧ (u.tile t).start = none ∧
        (u.tile t).nextPos = s.now * Config.fine ∧ (∀ k, k ≠ t.val → u.tile k = s.tile k) ∧
        (s.heldSafe t = false → t.val < 8 → (u.wave t).closed = true) ∧
        (s.heldSafe t = false → 8 ≤ t.val → (u.group (t.val - 8)).enabled = true) ∧
        (s.heldSafe t = true → u.wav = s.wav ∧ u.grp = s.grp)))

/-- PAUSE and STOP, accepted, take effect the latency later; a STOP discards a pending start of its context. PAUSE_EFFECT leaves
the running context Paused, at a word from its cycle on, at a boundary once the item in play has ended after it, and ends its
other PAUSEs; STOP_EFFECT leaves the stopped context Halted, running or not. -/
def Obligations.PausesAndStops : Prop :=
  ∀ (s : State) (t : Tile),
    (∀ (tag : BitVec 8) (c : CtxNo) (mode : BitVec 2), s.seqTakes t c →
      (s.ctx c).st = .running → mode.toNat < 2 → Answers (.seqPause t tag c mode) s fun u =>
        s.writes u [.regs, .tiles, .xng, .mc] ∧ u.mc = s.memWake.mc ∧ s.seqTells u t tag.toNat 0 [] ∧
        s.tileBecomes u t { s.tile t with
          pauses := (s.tile t).pauses ++ [⟨c.val, s.now + Config.L, decide (mode = 1)⟩] }) ∧
    (∀ (r : EndReq) (rs : List EndReq), (s.tile t).pauses = r :: rs → r.at_ ≤ s.now → (s.tile t).running = some r.c →
      t.val < 8 →
      (r.word = true ∨ (s.tile t).micro.upc = none ∧ ∃ p, s.itemEnd t = some p ∧ r.at_ ≤ posCycle p ∧ posCycle p ≤ s.now) →
      Answers (.pauseEffect t) s fun u =>
        (u.ctx r.c).st = .paused ∧ (u.tile t).running = none ∧ (u.tile t).last = some r.c ∧
        (u.tile t).pauses = rs.filter (fun q => decide (q.c ≠ r.c)) ∧
        (∀ k, k ≠ t.val → u.tile k = s.tile k) ∧
        s.writes u [.regs, .stores, .mem, .ctxs, .tiles, .evt, .grp, .cap, .mon, .mc]) ∧
    (∀ (tag : BitVec 8) (c : CtxNo), s.seqTakes t c → (s.ctx c).holds = true →
      ((∀ r, (s.tile t).start = some r → r.c ≠ c.val) → Answers (.seqStop t tag c 0) s fun u =>
        s.writes u [.regs, .tiles, .xng, .mc] ∧ u.mc = s.memWake.mc ∧ s.seqTells u t tag.toNat 0 [] ∧
        s.tileBecomes u t { s.tile t with stops := (s.tile t).stops ++ [⟨c.val, s.now + Config.L, true⟩] }) ∧
      (∀ r, (s.tile t).start = some r → r.c = c.val → Answers (.seqStop t tag c 0) s fun u =>
        s.writes u [.regs, .ctxs, .tiles, .xng, .mc] ∧ s.seqTells u t tag.toNat 0 [] ∧ (u.tile t).start = none ∧
        (u.tile t).stops = (s.tile t).stops ++ [⟨c.val, s.now + Config.L, true⟩] ∧
        (∀ k, k ≠ t.val → u.tile k = s.tile k))) ∧
    (∀ (r : EndReq) (rs : List EndReq), (s.tile t).stops = r :: rs → r.at_ ≤ s.now → (s.ctx r.c).holds = true → t.val < 8 →
      Answers (.stopEffect t) s fun u =>
        (u.ctx r.c).st = .halted ∧ (u.tile t).stops = rs ∧
        ((s.tile t).running = some r.c → (u.tile t).running = none) ∧
        ((s.tile t).running ≠ some r.c → (u.tile t).running = (s.tile t).running) ∧
        s.writes u [.regs, .stores, .mem, .ctxs, .tiles, .evt, .grp, .cap, .mon, .mc])

/-- CONTEXT_TABLE_WRITE: a context that is not resident, or is over, takes the write; one that runs, or is Ready, does
not, and a write that would have changed it is noted on its tile; an offset with no register is an unmapped write.
SLIPWAY_TABLE_WRITE: HANDLE, EN and BLOCK only while the slipway is not LIVE; the watermarks, the signal and the underrun
count at any time; what is measured, not at all. -/
def Obligations.TheTablesAreGuarded : Prop :=
  (∀ (s : State) (c : CtxNo) (v : Word),
    ((s.ctx c).st = .free ∨ (s.ctx c).st = .loaded ∨ (s.ctx c).st = .halted ∨ (s.ctx c).st = .faulted →
      (Answers (.contextTableWrite c 0x04 v) s fun u => s.setsOnly u [(Reg.CTX_BRIDGE c, v.toNat)]) ∧
      (Answers (.contextTableWrite c 0x08 v) s fun u => s.setsOnly u [(Reg.CTX_INIT_PC_LO c, v.toNat)]) ∧
      (Answers (.contextTableWrite c 0x00 v) s fun u => s.setsOnly u
        [(Reg.CTX_CFG_UPOL c, fieldOf v.toNat 8 2), (Reg.CTX_CFG_BR_MODE c, fieldOf v.toNat 4 1),
         (Reg.CTX_CFG_BIND c, fieldOf v.toNat 0 4)])) ∧
    ((s.ctx c).st = .paused →
      (Answers (.contextTableWrite c 0x18 v) s fun u => s.setsOnly u [(Reg.CTX_CNT c 0, v.toNat)])) ∧
    ((s.ctx c).st = .paused ∨ (s.ctx c).st = .running ∨ (s.ctx c).st = .ready →
      (Answers (.contextTableWrite c 0x08 v) s fun u =>
        s.setsOnly u (if s.get (Reg.CTX_INIT_PC_LO c) = v.toNat then []
          else [(Reg.SEQ_STATUS_CTX_WRITE (s.get (Reg.CTX_CFG_BIND c)), 1)]))) ∧
    (Answers (.contextTableWrite c 0x30 v) s fun u => s.setsOnly u [(Reg.GLB_ERR_UNMAPPED, 1)])) ∧
  (∀ (s : State) (e : Fin 256) (v : Word),
    (s.slipLive e = true → ∀ off : BitVec 6, off = 0x00#6 ∨ off = 0x04#6 →
      Answers (.slipwayTableWrite e off v) s fun u => u = s) ∧
    (∀ off : BitVec 6, off.toNat ∈ [0x10, 0x14, 0x18, 0x1C, 0x24, 0x28] →
      Answers (.slipwayTableWrite e off v) s fun u => u = s) ∧
    (s.slipLive e = false → Answers (.slipwayTableWrite e 0x00 v) s fun u => s.writes u [.regs, .lows] ∧
      s.setsFields u [(Reg.SLW_HANDLE_HANDLE e, v.toNat / 256), (Reg.SLW_HANDLE_EN e, v.toNat % 2)] ∧
      (∀ k, k ∈ u.lows ↔ k ∈ s.lows ∧ k ≠ e.val)) ∧
    (s.slipLive e = false → Answers (.slipwayTableWrite e 0x04 v) s fun u =>
      s.setsOnly u [(Reg.SLW_BLOCK e, v.toNat % 2 ^ 17)]) ∧
    (Answers (.slipwayTableWrite e 0x08 v) s fun u => s.writes u [.regs, .lows] ∧
      s.setsFields u [(Reg.SLW_WMARK_RESTART e, v.toNat / 2 ^ 16), (Reg.SLW_WMARK_LOW e, v.toNat % 2 ^ 16)]) ∧
    (Answers (.slipwayTableWrite e 0x0C v) s fun u => s.setsOnly u
      [(Reg.SLW_SIG_NOTIFY e, bit (v.getLsbD 8)), (Reg.SLW_SIG_SIG_EN e, bit (v.getLsbD 7)),
       (Reg.SLW_SIG_SIG e, v.toNat % 64)]) ∧
    (Answers (.slipwayTableWrite e 0x20 v) s fun u => s.setsOnly u [(Reg.SLW_UR_CNT e, v.toNat)]))

/-! ## Commits, landing slots and events -/

/-- COMMIT_GOTO, COMMIT_CALL, COMMIT_SWITCH, COMMIT_STOP and COMMIT_COUNT of the one catch of a waveform tile whose cycle
has come: the arm's action taken, the firing counted, and the record cleared unless it persists; after the dead time D the
tile plays on. With 16 call entries a CALL faults its context instead. -/
def Obligations.CommitsTakeTheirAction : Prop :=
  ∀ (s : State) (t : Tile) (k : Catch), t.val < 8 → (s.tile t).catches = [k] → k.at_ ≤ s.now → s.dropReason t k = none →
    let x := s.ctx k.c
    let a := x.arm k.k
    let fired := fun u : State => ((u.ctx k.c).arm k.k).fired = satAdd32 a.fired 1 ∧
      ((u.ctx k.c).arm k.k).valid = a.persist
    let bridges := fun (u : State) (c : Nat) => (u.tile t).catches = [] ∧ (u.tile t).running = some c ∧
      (u.tile t).item = .dead (k.at_ + Config.D) k.c ∧ (u.tile t).nextPos = (k.at_ + Config.D) * Config.fine
    (a.act = .goto → ∀ g, s.seg a.h = some g → Answers (.commitGoto t) s fun u =>
      bridges u k.c ∧ fired u ∧ (u.ctx k.c).pc = ⟨a.h, g.sid, a.off⟩ ∧ (u.ctx k.c).pos = .fresh ∧
      (u.ctx k.c).calls = x.calls ∧ (u.ctx k.c).loops = x.loops) ∧
    (a.act = .call → x.calls.length < 16 → ∀ g, s.seg a.h = some g → Answers (.commitCall t) s fun u =>
      bridges u k.c ∧ fired u ∧ (u.ctx k.c).pc = ⟨a.h, g.sid, a.off⟩ ∧ (u.ctx k.c).pos = .fresh ∧
      (u.ctx k.c).loops = x.loops ∧ (∃ e : CallEnt, (u.ctx k.c).calls = e :: x.calls ∧ e.depth = x.loops.length ∧
        ((s.tile t).item = .idle → (s.tile t).micro.upc = none → e.ret = x.pc ∧ e.pos = x.pos) ∧
        (∀ n since rel, (s.tile t).item = .wait n since rel → (s.tile t).micro.upc = none → e.ret = x.pc.prev ∧ e.pos = .fresh))) ∧
    (a.act = .call → 16 ≤ x.calls.length → Answers (.commitCall t) s fun u =>
      u.faulted t k.c .callOvf .range ∧ (s.underrunAt t = none → u.faultRegs t k.c .callOvf .range)) ∧
    (a.act = .switch → a.off ≠ k.c → Answers (.commitSwitch t) s fun u =>
      bridges u a.off ∧ fired u ∧ (u.tile t).last = some k.c ∧ (u.ctx a.off).st = .running ∧
      (u.ctx k.c).st = .paused) ∧
    (a.act = .stop → Answers (.commitStop t) s fun u =>
      fired u ∧ (u.tile t).catches = [] ∧ (u.tile t).running = none ∧ (u.tile t).item = .idle ∧
      (u.ctx k.c).st = .halted) ∧
    (a.act = .count → Answers (.commitCount t) s fun u =>
      fired u ∧ s.writes u [.regs, .ctxs, .tiles, .mon] ∧ (u.tile t).catches = [] ∧ (u.tile t).item = (s.tile t).item ∧
      (u.tile t).nextPos = (s.tile t).nextPos ∧ (u.tile t).running = some k.c ∧ (∀ j, j ≠ t.val → u.tile j = s.tile j) ∧
      ((s.tile t).ahead = none → u.tile t = { s.tile t with catches := [] }) ∧
      s.setsFields u [(Reg.CTX_CNT k.c (a.off % 2), (s.cnt k.c (a.off % 2) + 1) % 2 ^ 32)])

/-- A catch whose record has been cleared or written afresh does not commit: whichever commit takes it, the loss is
counted and the tile plays on. LANDING_FILL_START, LANDING_FILL_COMPLETE and LANDED_RUN_START: the fill requested first
starts, when its arm has been resolved and 1,024 cc after the one before it, and completes at the latest 2,048 cc later; c
+ D on, the context that runs goes on. -/
def Obligations.CatchesAreLostOrLand : Prop :=
  (∀ (s : State) (t : Tile) (k : Catch) (r : Nat) (i : Instr),
    i ∈ [Instr.commitGoto t, .commitCall t, .commitSwitch t, .commitStop t, .commitCount t] →
    (s.tile t).catches = [k] → k.at_ ≤ s.now → s.dropReason t k = some r →
    Answers i s fun u =>
      s.writes u [.regs, .tiles, .evt, .mon] ∧ s.tileBecomes u t { s.tile t with catches := [] } ∧
      u.get (Reg.LND_LOST_CNT t) = min (s.get (Reg.LND_LOST_CNT t) + 1) 0xFFFFFFFF ∧ u.get Reg.EVT_STATUS_LOST = 1) ∧
  (∀ (s : State) (t : Tile),
    (∀ i q, (s.tile t).fillQ = i :: q → ∀ y, mfind (s.tile t).slots i = some y → y.started = none → y.since ≤ s.now →
      (∀ n, (s.tile t).lastFill = some n → n + 1024 ≤ s.now) → Answers (.landingFillStart t) s fun u =>
        s.writes u [.tiles] ∧ s.tileBecomes u t { s.tile t with
          slots := mins (s.tile t).slots i { y with started := some s.now }, lastFill := some s.now }) ∧
    (∀ i q, (s.tile t).fillQ = i :: q → ∀ y, mfind (s.tile t).slots i = some y → ∀ n, y.started = some n → y.filled = none →
      Answers (.landingFillComplete t) s fun u =>
        s.writes u [.tiles, .mc] ∧ s.tileBecomes u t { s.tile t with
          slots := mins (s.tile t).slots i { y with filled := some (min s.now (n + 2048)) }
          fillQ := q.filter (fun j => decide (j ≠ i)) }) ∧
    (∀ c n d, (s.tile t).running = some c → (s.tile t).item = .dead n d → n ≤ s.now → (s.ctx c).pos = .fresh →
      (s.ctx c).st = .running → Answers (.landedRunStart t) s fun u =>
        s.writes u [.ctxs, .tiles] ∧ s.ctxBecomes u c (s.ctx c) ∧
        s.tileBecomes u t { s.tile t with item := .idle, nextPos := n * Config.fine, ran := true }))

/-- TIMER_START, TIMER_STOP and TIMER_EXPIRY: a start sets RUN and the first expiry a PERIOD later, and with PERIOD 0 the
timer stays stopped; an expiry raises the timer's source, and a periodic timer expires next a PERIOD later. -/
def Obligations.TimersRunAndExpire : Prop :=
  ∀ (s : State) (n : TimerNo),
    (s.tmrPeriod n ≠ 0 → Answers (.timerStart n) s fun u =>
      s.writes u [.regs, .evt] ∧ s.setsFields u [(Reg.EVT_TMR_CTRL_RUN n, 1)] ∧
      u.evt = { s.evt with timers := u.evt.timers } ∧
      (∀ m, mfind u.evt.timers m = if m = n.val then
        some ⟨s.now + s.tmrPeriod n, decide (s.active (Reg.EVT_TMR_CTRL_PERIODIC n) = 0)⟩ else mfind s.evt.timers m)) ∧
    (∀ i, i = Instr.timerStop n ∨ (s.tmrPeriod n = 0 ∧ i = .timerStart n) → Answers i s fun u =>
      s.writes u [.regs, .evt] ∧ s.setsFields u [(Reg.EVT_TMR_CTRL_RUN n, 0)] ∧
      u.evt = { s.evt with timers := u.evt.timers } ∧
      (∀ m, mfind u.evt.timers m = if m = n.val then none else mfind s.evt.timers m)) ∧
    (∀ tm, mfind s.evt.timers n = some tm → tm.expiry ≤ s.now → Answers (.timerExpiry n) s fun u =>
      u.evt = { s.evt with timers := u.evt.timers
                           occ := s.evt.occ ++ [⟨0x0A5 + n.val, tm.expiry, s.tsAt tm.expiry⟩] } ∧
      (tm.last = false ∧ s.active (Reg.EVT_TMR_CTRL_PERIODIC n) = 1 ∧ s.tmrPeriod n ≠ 0 →
        s.writes u [.evt] ∧ mfind u.evt.timers n = some ⟨tm.expiry + s.tmrPeriod n, false⟩) ∧
      (tm.last = true → s.writes u [.regs, .evt] ∧ s.setsFields u [(Reg.EVT_TMR_CTRL_RUN n, 0)] ∧
        mfind u.evt.timers n = none))

/-- What raises a source, with the cycle of the registration and the timestamp that follow it: EVT_HOST_RAISE, one source
for each bit written 1, and HOST_EVENT_RAISE_MESSAGE, of a raise on its way, at once; TRIG_EDGE, a change of level on an
enabled input, after 12 cc; THRESHOLD_CHANGE, a change of an enabled threshold that neither the hold nor settling covers,
after 20 cc and the chain's delay; PIN_COMPARE_FAIL of a pin that is not masked after 14 cc, counted, its vector cycle counted
and, while the log has room, logged where it had not failed already; MATCHER_MATCH of a code that the matcher takes after
16 cc. Otherwise each changes nothing. -/
def Obligations.SourcesOccur : Prop :=
  ∀ s : State,
    (∀ v : Word, Answers (.evtHostRaise v) s fun u => s.writes u [.evt] ∧
      u.evt = { s.evt with occ := s.evt.occ ++
        ((upto 32).filter (fun n => v.getLsbD n)).map (fun n => ⟨0x0F5 + n, s.now, s.tsAt s.now⟩) }) ∧
    (∀ n : Fin 32, Answers (.hostEventRaiseMessage n) s fun u =>
      if s.xng.up = true ∧ n.val ∈ s.xng.raises then
        s.writes u [.evt, .xng] ∧ u.xng = { s.xng with raises := s.xng.raises.erase n.val } ∧
        u.evt = { s.evt with occ := s.evt.occ ++ [⟨0x0F5 + n.val, s.now, s.tsAt s.now⟩] }
      else u = s) ∧
    (∀ (n : TrigNo) (rising : Bool) (fine : BitVec 10), Answers (.trigEdge n rising fine) s fun u =>
      if s.active (Reg.EVT_TRIG_CFG_EN n) ≠ 0 ∧ s.evt.trig.getD n false ≠ rising then
        s.writes u [.evt] ∧ u.evt = { s.evt with
          trig := s.evt.trig.set n rising
          occ := s.evt.occ ++ (if s.trigSelects n rising then
            [⟨0x0A1 + n.val, s.now + 12, mkTs (s.sysTime s.now) fine.toNat⟩] else []) }
      else u = s) ∧
    (∀ (c : CapCh) (i : Fin 4) (q : Bool) (ts : Ts), (s.active (Reg.TH_CFG_EN c i) = 0 ∨ s.capHeld c = true ∨
      s.settling c = true ∨ (s.thr c i).q = q) → Answers (.thresholdChange c i q ts) s fun u => u = s) ∧
    (∀ (c : CapCh) (i : Fin 4) (q : Bool) (ts : Ts), s.active (Reg.TH_CFG_EN c i) ≠ 0 → s.capHeld c = false →
      s.settling c = false → (s.thr c i).q ≠ q → Answers (.thresholdChange c i q ts) s fun u =>
        u.thr c i = ⟨q, 0, false⟩ ∧
        (if s.active (Reg.TH_CFG_MODE c i) ≥ 2 ∨ (s.active (Reg.TH_CFG_MODE c i) = 0 ∧ q = true) ∨
            (s.active (Reg.TH_CFG_MODE c i) = 1 ∧ q = false) then
          s.writes u [.regs, .evt, .cap] ∧
          s.setsFields u [(Reg.TH_CNT c i, min (s.get (Reg.TH_CNT c i) + 1) 0xFFFFFFFF)] ∧
          u.evt = { s.evt with occ := s.evt.occ ++
            [⟨0x001 + (4 * c.val + i.val), s.cycleOf (ts.toNat / 1024) + 20 + s.gdCc c, ts⟩] }
        else s.writes u [.cap])) ∧
    (∀ (g : Grp) (k : Fin 8) (p : Pin) (ts : Ts) (tsel : BitVec 4), p.val = 8 * g.val + k.val →
      Answers (.pinCompareFail p ts tsel) s fun u =>
        if s.get (Reg.PIN_CFG g k) = 1 then u = s
        else
          s.writes u [.regs, .evt, .grp] ∧
          u.get (Reg.PIN_FAIL_CNT g k) = min (s.get (Reg.PIN_FAIL_CNT g k) + 1) 0xFFFFFFFF ∧
          u.evt = { s.evt with occ := s.evt.occ ++
            [⟨0x061 + (8 * g.val + k.val), s.cycleOf (ts.toNat / 1024) + 14, ts⟩] } ∧
          ((s.group g).failAt = some (s.vcyc g) → u.get (Reg.GRP_FAIL_CNT g) = s.get (Reg.GRP_FAIL_CNT g)) ∧
          ((s.group g).failAt ≠ some (s.vcyc g) →
            u.get (Reg.GRP_FAIL_CNT g) = min (s.get (Reg.GRP_FAIL_CNT g) + 1) 0xFFFFFFFF ∧
            u.get (Reg.GRP_STATUS_FAIL g) = 1 ∧ (u.group g).failAt = some (s.vcyc g) ∧
            (s.get (Reg.GRP_FLOG_WR_FILL g) < 1024 →
              u.get (Reg.GRP_FLOG_WR_FILL g) = s.get (Reg.GRP_FLOG_WR_FILL g) + 1 ∧
              mfind (u.group g).flog (s.get (Reg.GRP_FLOG_WR_NEXT g)) = some ⟨ts, BitVec.ofNat 8 (2 ^ k.val), tsel.toNat,
                s.bankOf (8 + g), BitVec.ofNat 32 (s.vcyc g)⟩))) ∧
    (∀ (g : Grp) (m : Fin 8) (b : Bool) (code : BitVec 4) (ts : Ts),
      s.matchTakes g m (s.active (Reg.MATCH_CFG_PIN g m)) code.toNat = false →
      Answers (.matcherMatch g m b code ts) s fun u => u = s) ∧
    (∀ (g : Grp) (m : Fin 8) (b : Bool) (code : BitVec 4) (ts : Ts),
      s.matchTakes g m (s.active (Reg.MATCH_CFG_PIN g m)) code.toNat = true →
      Answers (.matcherMatch g m b code ts) s fun u =>
        let h := mget (fun _ => 0) (s.group g).mhist m <<< 1 ||| BitVec.ofNat 64 (bit b)
        let val := BitVec.ofNat 64 (s.active64 (Reg.MATCH_VAL_LO g m) (Reg.MATCH_VAL_HI g m))
        let mask := BitVec.ofNat 64 (s.active64 (Reg.MATCH_MASK_LO g m) (Reg.MATCH_MASK_HI g m))
        let hit := decide ((h ^^^ val) &&& mask = 0)
        s.writes u [.evt, .grp] ∧ mget (fun _ => 0) (u.group g).mhist m = h ∧
        mget (fun _ => false) (u.group g).mmatch m = hit ∧
        u.evt.occ = s.evt.occ ++
          (if hit = true ∧ (mget (fun _ => false) (s.group g).mmatch m = false ∨ s.active (Reg.MATCH_CFG_EDGE g m) = 1) then
            [⟨0x021 + (8 * g.val + m.val), s.cycleOf (ts.toNat / 1024) + 16, ts⟩] else []))

/-- EVENT_REGISTRATION and SYSTEM_EVENT_MESSAGE: an admitted registration is noted with its timestamp and counted; a
system event is registered at the apply time less L, or, where that has passed, at once and counted late. -/
def Obligations.RegistrationsAreNoted : Prop :=
  ∀ s : State,
    (∀ (n : EvtNo) (ts : Ts), n.val < 768 → s.admits n = true → Answers (.eventRegistration n ts) s fun u =>
      u.lastReg n = ⟨some s.now, ts, min ((s.lastReg n).count + 1) 0xFFFFFFFF⟩) ∧
    (∀ (n : EvtNo) (ts : Ts), 768 ≤ n.val → (s.lastReg n).cyc ≠ some s.now → Answers (.eventRegistration n ts) s fun u =>
      u.lastReg n = ⟨some s.now, ts, min ((s.lastReg n).count + 1) 0xFFFFFFFF⟩) ∧
    (∀ (se : BitVec 8) (origin : BitVec 9) (ts : Ts) (apply : BitVec 64) (port : PortNo),
      s.portTalks port = true → s.get Reg.TXL_STATUS_JOINED = 1 → s.sysTime s.now + Config.L ≤ apply.toNat →
      Answers (.systemEventMessage se origin ts apply port) s fun u =>
        s.writes u [.evt] ∧ ∃ n, s.sysTime s.now + (n - s.now) + Config.L = apply.toNat ∧ s.now ≤ n ∧
          u.evt = { s.evt with sys := s.evt.sys ++ [⟨se.toNat, n, ts, n + Config.L, false⟩] }) ∧
    (∀ (se : BitVec 8) (origin : BitVec 9) (ts : Ts) (apply : BitVec 64) (port : PortNo),
      s.portTalks port = true → s.get Reg.TXL_STATUS_JOINED = 1 → apply.toNat < s.sysTime s.now + Config.L →
      Config.L ≤ apply.toNat → (s.lastReg (768 + se.toNat)).cyc ≠ some s.now →
      Answers (.systemEventMessage se origin ts apply port) s fun u =>
        u.lastReg (768 + se.toNat) =
          ⟨some s.now, ts, min ((s.lastReg (768 + se.toNat)).count + 1) 0xFFFFFFFF⟩ ∧
        u.get Reg.EVT_SYS_LATE_CNT = min (s.get Reg.EVT_SYS_LATE_CNT + 1) 0xFFFFFFFF ∧
        u.get Reg.EVT_STATUS_SYS_LATE = 1)

/-- GLB_UPDATE strobes the groups whose bits are 1, and a strobe makes active what the shadows of its group's registers
held before this cycle: shown on one register of the event, memory and clock blocks each, and on the event block's LOG_EN. -/
def Obligations.StrobesTransferShadows : Prop :=
  ∀ (s : State) (v : Word) (g : Nat), g < 16 → v.getLsbD g = true → mfind s.evt.strobes g ≠ some s.now →
    Answers (.glbUpdate v) s fun u =>
      mfind u.evt.strobes g = some s.now ∧
      ∀ F G, (F, G) ∈ [(Reg.EVT_SYS_BUDGET, Reg.EVT_CTRL_UPD_GRP), (Reg.EVT_CTRL_LOG_EN, Reg.EVT_CTRL_UPD_GRP),
          (Reg.MEM_CTRL_SR_EN, Reg.MEM_CTRL_UPD_GRP), (Reg.CLK_CTRL_RECOVER, Reg.CLK_CTRL_UPD_GRP)] →
        s.shadowOf G = g → u.active F = s.shadowOf F

/-- BLOCK_PLAYED, HOLD_RESTART and RING_FILL_RESUME: a block of the ring whose last word has left the tile counts and RD
moves past it, a block that REPEAT plays again counts where the loop around it says so, and on a waveform tile the next block
follows at its end, or the STREAM is over; a held STREAM plays on once enough is complete; a fill that waited goes on.
UNDERRUN and DIVERT_COMMIT on a waveform tile: HOLD holds the output and REPEAT plays the context's last block of the ring
again, counted and timed; under DIVERT a landed handler's commit waits for the due cycle, and calls the handler, and one that
has not landed in time is handled as HOLD. -/
def Obligations.StreamsPlayBlocksOrUnderrun : Prop :=
  (∀ (s : State) (t : Tile),
    (∀ c, (s.tile t).running = some c → (s.tile t).blockDone = false → (s.tile t).gapAt = none →
      ∀ h sid e n counted b w pos ph, (s.tile t).item = .stream h sid e n counted b w pos ph →
      ∀ p, s.blockEnd t = some p → (if t.val < 8 then ceilDiv p Config.fine - 1 else posCycle p) ≤ s.now →
        (ph = .playing → Answers (.blockPlayed t) s fun u =>
          s.writes u [.stores, .ctxs, .tiles] ∧
          u.store sid = { s.store sid with rd := max (s.store sid).rd (b + s.blockLen e) } ∧
          (u.ctx c).played = (sid, b) :: (s.ctx c).played.filter (fun q => decide (q.1 ≠ sid)) ∧
          s.tileBecomes u t { s.tile t with item := .stream h sid e n (counted + 1) b w pos ph, blockDone := true }) ∧
        (∀ b', ph = .replaying b' → Answers (.blockPlayed t) s fun u =>
          s.writes u [.tiles] ∧ s.tileBecomes u t { s.tile t with
            item := .stream h sid e n (if s.repeatCounts c then counted + 1 else counted) b w pos ph, blockDone := true })) ∧
    (t.val < 8 → ∀ h sid e n counted b w pos, (s.tile t).item = .stream h sid e n counted b w pos .playing →
      ∀ p, s.blockEnd t = some p →
        (n = 0 ∨ counted < n → s.writes (s.nextBlock t) [.tiles] ∧ s.tileBecomes (s.nextBlock t) t { s.tile t with
          item := .stream h sid e n counted (b + s.blockLen e) 0 p .playing, blockDone := false }) ∧
        (n ≠ 0 → n ≤ counted → ((s.nextBlock t).tile t).item = .idle ∧
          ((s.nextBlock t).tile t).nextPos = ceilDiv p Config.fine * Config.fine)) ∧
    (∀ h sid e n counted b w pos br, (s.tile t).item = .stream h sid e n counted b w pos (.held br) →
      ∀ r, s.holdUntil t = some r → r ≤ s.now → Answers (.holdRestart t) s fun u =>
        s.writes u [.tiles] ∧ s.tileBecomes u t { s.tile t with
          item := .stream h sid e n counted b 0 (max pos (r * Config.fine)) .playing }) ∧
    (∀ (h : BitVec 24) g, s.seg h.toNat = some g → s.ringRoom g.sid ≠ 0 → Answers (.ringFillResume h) s fun u =>
      s.writes u [.segs] ∧ u.seg h.toNat = some { g with loads := g.loads.map (fun l => { l with waiting := false }) } ∧
      (∀ k, k ≠ h.toNat → u.seg k = s.seg k))) ∧
  (∀ (s : State) (t : Tile) (c : Nat), t.val < 8 → (s.tile t).running = some c →
    (∀ h sid e n counted b w pos, (s.tile t).item = .stream h sid e n counted b w pos .playing →
      s.underrunAt t = some (e, pos, sid) → e < 256 → posCycle pos ≤ s.now → (s.tile t).diverting = none →
      let due := posCycle pos
      let late := ∀ i, (s.tile t).divert = some i → s.filledBy t i (due - Config.L) = false
      (s.upol c ≠ 2 ∨ ((s.tile t).heldDue ≠ some due ∧ late) → Answers (.underrun t) s fun u =>
        s.writes u [.regs, .tiles, .evt, .mon] ∧
        u.get (Reg.SLW_UR_CNT e) = min (s.get (Reg.SLW_UR_CNT e) + 1) 0xFFFFFFFF ∧ u.get Reg.EVT_STATUS_UNDERRUN = 1 ∧
        u.get (Reg.SLW_UR_TIME_LO e) + 2 ^ 32 * u.get (Reg.SLW_UR_TIME_HI e) = s.sysTime due ∧
        (s.upol c ≠ 1 → s.tileBecomes u t { s.tile t with item := .stream h sid e n counted b 0 pos (.held false) }) ∧
        (s.upol c = 1 → (s.ctx c).lastBlock sid = none → s.tileBecomes u t { s.tile t with
          item := .stream h sid e n counted b 0 pos (.held true) }) ∧
        (∀ b', s.upol c = 1 → (s.ctx c).lastBlock sid = some b' → s.tileBecomes u t { s.tile t with
          item := .stream h sid e n counted b 0 pos (.replaying b') })) ∧
      (s.upol c = 2 → (s.tile t).heldDue = some due → Answers (.underrun t) s fun u => s.writes u [.tiles] ∧
        s.tileBecomes u t { s.tile t with heldDue := none, item := .stream h sid e n counted b 0 pos (.held false) }) ∧
      (∀ i, s.upol c = 2 → (s.tile t).heldDue ≠ some due → (s.tile t).divert = some i →
        s.filledBy t i (due - Config.L) = true →
        Answers (.underrun t) s fun u => s.writes u [.tiles] ∧
          s.tileBecomes u t { s.tile t with diverting := some ⟨e, due, i⟩ })) ∧
    (∀ d, (s.tile t).diverting = some d → d.due ≤ s.now → d.e < 256 → (s.tile t).catches = [] →
      (s.ctx c).calls.length < 16 → ∀ g, s.seg (s.divertTo c).1 = some g → Answers (.divertCommit t) s fun u =>
        u.get (Reg.SLW_UR_CNT d.e) = min (s.get (Reg.SLW_UR_CNT d.e) + 1) 0xFFFFFFFF ∧
        (u.tile t).running = some c ∧ (u.tile t).diverting = none ∧ (u.tile t).item = .dead (d.due + Config.D) c ∧
        (u.ctx c).pc = ⟨(s.divertTo c).1, g.sid, (s.divertTo c).2⟩ ∧ (u.ctx c).pos = .fresh ∧
        ∃ e : CallEnt, (u.ctx c).calls = e :: (s.ctx c).calls ∧ e.depth = (s.ctx c).loops.length))

/-! ## Outputs and capture -/

/-- R160: MODE selects y from the held sample x and the sine s, with sat16 written out; and so in a slot of a Cobalt
channel that plays at one sample a slot with LSB, the slew limiter and the major-transition hold off, whose DAC code
follows from y by gain, offset and the quantiser; phase, gain and offset are those that `State.lagged` gives, of the group
delay before, and where nothing has been noted since, gain and offset are the registers'. -/
def Obligations.TheCombinerFollowsTheMode : Prop :=
  let sat := fun i : Int => max (-32768) (min 32767 i)
  (∀ x y : Int, (combine 0 x y).1 = x ∧ (combine 1 x y).1 = y ∧ (combine 2 x y).1 = sat ((x * y + 2 ^ 14) / 2 ^ 15) ∧
    (combine 3 x y).1 = sat (x + y)) ∧
  (∀ (s : State) (w i : Nat), w < 8 → s.ivory = false → s.active (Reg.WAV_CTRL_LSB w) = 0 →
    s.active (Reg.WAV_SLEW_STEP w) = 0 → s.mthActive w = false → s.interp w = 1 →
    let x := (s.inputAt w (s.now * Config.fine + i * s.slotFine)).code.toInt
    let lag := s.lagged w i
    let n := sineOut lag.1 (s.active (Reg.NCO_AMP w))
    let y := match s.active (Reg.WAV_CFG_MODE w) with
      | 0 => x
      | 1 => n
      | 2 => sat ((x * n + 2 ^ 14) / 2 ^ 15)
      | _ => sat (x + n)
    let z := sat ((y * lag.2.1 + signedOf 28 lag.2.2 * 2 ^ 15 + 2 ^ 26) / 2 ^ 27)
    ((s.slotEnd w i).wave.dac : Int) = max (-8192) (min 8191 ((z + 2) / 4)) + 8192 ∧
    ((s.wave w).lag = [] → lag.2 = (s.get (Reg.WAV_GAIN_ACT w), s.get (Reg.WAV_OFFSET_ACT w))))

/-- WAV_FORCE_SAFE_SET and _CLEAR, GRP_FORCE_SAFE_SET and _CLEAR, LIVE_HOLD and RANGE_MUTE_END: FORCE_SAFE 1 puts the
output into its safe state with the write; 0 only lets it leave; LIVE_HOLD 1 ends the connector's live signal; the mute
ends at its time. TS_HSTAGE_D2_WRITE and TS_HCOMMIT: the row staged from D0, D1 and the value written, and ROW moved on; a
row above 24 makes the buffer one that cannot be committed; GO makes a commit wait for the strobe. -/
def Obligations.OutputsAndStagingFollowTheRegisters : Prop :=
  (∀ (s : State) (v : Word),
    (∀ (w : Wave) (i : Instr), i = .wavForceSafeSet w v ∨ i = .wavForceSafeClear w v → Answers i s fun u =>
      s.writes u [.regs, .wav, .wrote] ∧ u.get (Reg.WAV_CTRL_FORCE_SAFE w) = bit (v.getLsbD 9) ∧
      u.wave w = { s.wave w with closed := (s.wave w).closed && !v.getLsbD 9 } ∧
      (∀ k, k ≠ w.val → u.wave k = s.wave k) ∧ (v.getLsbD 9 = true → u.switchClosed w = false)) ∧
    (∀ (g : Grp) (i : Instr), i = .grpForceSafeSet g v ∨ i = .grpForceSafeClear g v ∨
        (g.val = 0 ∧ i = .liveHold false v) ∨ (g.val = 4 ∧ i = .liveHold true v) → Answers i s fun u =>
      s.writes u [.regs, .grp, .wrote] ∧ u.get (Reg.GRP_CTRL_FORCE_SAFE g) = bit (v.getLsbD 9) ∧
      u.group g = (if v.getLsbD 9 then { s.group g with enabled := false, drive := GrpSt.init.drive } else s.group g) ∧
      (∀ k, k ≠ g.val → u.group k = s.group k)) ∧
    (∀ b : Bool, v.getLsbD 11 = true → Answers (.liveHold b v) s fun u => u.live b = false) ∧
    (∀ (w : Wave) n, (s.wave w).muteUntil = some n → n ≤ s.now → Answers (.rangeMuteEnd w) s fun u =>
      s.writes u [.wav] ∧ u.wave w = { s.wave w with muteUntil := none } ∧ (∀ k, k ≠ w.val → u.wave k = s.wave k))) ∧
  (∀ (s : State) (g : Grp) (v : Word),
    (mfind s.wrote (Reg.TS_HSTAGE_ADDR_ROW g).addr = none → Answers (.tsHstageD2Write g v) s fun u =>
      let row := s.get (Reg.TS_HSTAGE_ADDR_ROW g)
      s.writes u [.regs, .grp, .wrote] ∧ u.get (Reg.TS_HSTAGE_ADDR_ROW g) = (row + 1) % 256 ∧
      u.get (Reg.TS_HSTAGE_D2 g) = v.toNat % 256 ∧
      (row ≤ 24 → mget (fun _ => 0) (u.group g).hstage row = BitVec.ofNat 72
        (s.get (Reg.TS_HSTAGE_D0 g) + 2 ^ 32 * s.get (Reg.TS_HSTAGE_D1 g) + 2 ^ 64 * (v.toNat % 256)) ∧
        ∀ j, j ≠ row → mget (fun _ => 0) (u.group g).hstage j = mget (fun _ => 0) (s.group g).hstage j) ∧
      (24 < row → (u.group g).hbad = true ∧ (u.group g).hstage = (s.group g).hstage)) ∧
    (v.toNat % 2 = 1 → Answers (.tsHcommit g v) s fun u => s.setsOnly u [(Reg.TS_HCOMMIT_PEND g, 1)]) ∧
    (v.toNat % 2 = 0 → Answers (.tsHcommit g v) s fun u => u = s))

/-- PCAP_START, PCAP_STOP, CAP_RECORD_START, CAP_RECORD_STOP, CBUF_TRIG, RECORDING_END and RECORDING_DRAIN_COMPLETE: a
start begins a recording where its checks pass, the one before it going on to drain, or reports, or arms the start source, and
does nothing in a cycle in which the recording has been stopped; a stop or the recording's own end reports the words recorded,
a stop in the cycle of the start leaves no recording, and on a pin group it lets the vector cycle in progress be recorded
first; a trigger is taken, or is early; a drain is over, and with the last of them the buffer done. -/
def Obligations.RecordingsStartAndEnd : Prop :=
  ∀ (s : State) (b : BufNo) (v : Word),
    let ends := fun (s1 u : State) (r : Recd) =>
      u.recOf b = some { r with ended := true, sts := Sts.ok.code, endAt := s1.now } ∧
      u.get (Reg.CBUF_STATUS_STS b) = Sts.ok.code ∧
      (u.store r.sid).recLen = min ((r.units + 3) / 4) (s1.store r.sid).len
    (∀ i : Instr, (∃ c : CapCh, b.val = c.val ∧ i = .capRecordStart c v) ∨
        (∃ g : Grp, b.val = 8 + g.val ∧ i = .pcapStart g v) → v.getLsbD 0 = true → v.getLsbD 1 = false →
      let s1 := s.plainWrite (recCtrl b).addr v.toNat
      (fieldOf v.toNat 8 2 ≠ 0 → Answers i s fun u => s1.writes u [.grp, .cap] ∧ u.armedOf b = true) ∧
      (fieldOf v.toNat 8 2 = 0 → s.stoppedNow b = true → Answers i s fun u => u = s1) ∧
      (∀ sid, fieldOf v.toNat 8 2 = 0 → s.stoppedNow b = false → s1.recCheck b = .ok sid → Answers i s fun u =>
        s1.writes u [.regs, .grp, .cap, .mc] ∧ u.mc = s1.memWake.mc ∧
        u.recOf b = some ⟨s.recHandle b, sid, 0, 0, none, none, none, false, 0, [], s.now,
          (s1.get (Reg.CBUF_STATUS_STS b), s1.get (Reg.CBUF_STATUS_STATE b)), 0⟩ ∧
        u.drainsOf b = s.drainsOf b ++ (s.recOf b).toList ∧
        u.get (Reg.CBUF_STATUS_STS b) = Sts.ok.code ∧ u.get (Reg.CBUF_STATUS_STATE b) = s1.recState b 0) ∧
      (∀ e, fieldOf v.toNat 8 2 = 0 → s.stoppedNow b = false → s1.recCheck b = .error e → Answers i s fun u =>
        s1.writes u [.regs] ∧ u.get (Reg.CBUF_STATUS_STS b) = e.code)) ∧
    (∀ i : Instr, (∃ c : CapCh, b.val = c.val ∧ i = .capRecordStop c v) ∨ (∃ g : Grp, b.val = 8 + g.val ∧ i = .pcapStop g v) →
      v.getLsbD 1 = true → ∀ r, s.recOf b = some r → r.ended = false →
      (r.from_ = s.now → Answers i s fun u => u.armedOf b = false ∧ u.recOf b = none ∧ u.stoppedNow b = true) ∧
      (r.from_ ≠ s.now → (8 ≤ b.val → ∀ c, (s.group (b.val - 8)).vc = some c → c.taken = false) → Answers i s fun u =>
        u.armedOf b = false ∧ ends s u r) ∧
      (∀ c, r.from_ ≠ s.now → 8 ≤ b.val → (s.group (b.val - 8)).vc = some c → c.taken = true → Answers i s fun u =>
        u.armedOf b = false ∧ u.recOf b = some { r with stopAt := some s.now })) ∧
    (∀ r, s.recOf b = some r → r.ended = false → s.recFull b r = true → Answers (.recordingEnd b) s fun u => ends s u r) ∧
    (∀ r, s.drainsOf b = [] → s.recOf b = some r → r.ended = true → Answers (.recordingDrainComplete b) s fun u =>
      s.writes u [.regs, .grp, .cap] ∧ s.setsFields u [(Reg.CBUF_STATUS_STATE b, 4)] ∧ u.recOf b = none) ∧
    (∀ r l, s.drainsOf b = r :: l → Answers (.recordingDrainComplete b) s fun u =>
      s.writes u [.grp, .cap] ∧ u.drainsOf b = l ∧ u.recOf b = s.recOf b) ∧
    (v.getLsbD 8 = true → fieldOf v.toNat 4 2 = 1 → ∀ r, s.recOf b = some r → r.ended = false → r.trigTs = none →
      r.stopAt = none →
      let s1 := s.plainWrite (Reg.CBUF_CFG_TRIG b).addr v.toNat
      Answers (.cbufTrig b v) s fun u =>
        if s1.trigOpen b (r.units / 4) then
          s1.writes u [.regs, .grp, .cap] ∧ s1.setsFields u [(Reg.CBUF_STATUS_STATE b, 3)] ∧
          u.recOf b = some { r with trigTs := some (s.tsAt s.now), trig := unitFrom (s.tsAt s.now) r.insts }
        else s1.setsOnly u [(Reg.CBUF_STATUS_EARLY b, 1)])

/-- CAPTURE_CHANNEL_RESET, CAP_SYNC_REQUEST, SYNCHRONISING_RESET, RANGE_SETTLE_RESET and SETTLING_END: the chain starts
from zero with its settling count, what was requested and its cycle, and, for a channel reset, the fade, the counters, the
sticky bits and a swap that no request of this cycle brought are gone too. -/
def Obligations.CaptureChainsRestart : Prop :=
  ∀ (s : State) (c : CapCh),
    (∀ v : Word, v.getLsbD 9 = true → Answers (.captureChannelReset c v) s fun u =>
      (u.capture c).chain = Chain.init ∧ (u.capture c).epoch = s.now ∧ (u.capture c).thr = [] ∧
      (u.capture c).swap = (s.capture c).swap.filter (fun w => decide (w.acc = s.now)) ∧
      (u.capture c).fade = none ∧ (u.capture c).rngAt = none ∧ u.get (Reg.CAP_STATUS_DEFERRED c) = 0 ∧
      u.get (Reg.CAP_SAT_CNT c) = 0 ∧ u.get (Reg.CAP_CLIP_CNT c) = 0 ∧ u.get (Reg.CAP_STATUS_SAT c) = 0 ∧
      u.get (Reg.CAP_STATUS_CLIP c) = 0 ∧ (∀ i, i < 4 → u.get (Reg.TH_CNT c i) = 0)) ∧
    (∀ v : Word, v.getLsbD 8 = true → v.getLsbD 9 = false → Answers (.capSyncRequest c v) s fun u =>
      s.writes u [.regs, .cap, .wrote] ∧ u.get (Reg.CAP_STATUS_SYNC_PEND c) = 1 ∧
      u.capture c = { s.capture c with
        sync := if s.active (Reg.CAP_CTRL_SYNC_SRC c) = 0 then some (s.now + 1) else none }) ∧
    (∀ n, (s.capture c).sync = some n → n ≤ s.now → Answers (.synchronisingReset c) s fun u =>
      s.writes u [.regs, .cap] ∧ s.setsFields u [(Reg.CAP_STATUS_SYNC_PEND c, 0)] ∧
      u.capture c = { s.capture c with
        sync := none, chain := Chain.init, epoch := s.now, settle := s.settleLen c, thr := [] }) ∧
    (∀ n, (s.capture c).rngAt = some n → n ≤ s.now → Answers (.rangeSettleReset c) s fun u =>
      s.writes u [.regs, .cap] ∧ s.setsFields u [(Reg.CAP_STATUS_RNG_SETTLE c, 0)] ∧
      u.capture c = { s.capture c with
        rngAt := none, chain := Chain.init, epoch := s.now, settle := s.settleLen c, thr := [] }) ∧
    ((s.capture c).settle ≤ (s.capture c).chain.out → Answers (.settlingEnd c) s fun u =>
      s.writes u [.cap] ∧ u.capture c = { s.capture c with settle := 0 } ∧
      ((s.capture c).rngAt = none → u.settling c = false))

/-- FIR_SWAP, FADE_START and FADE_END: a swap is requested, replacing one that waits, and a reserved fade is refused; at
its trigger the other bank becomes active, and a fade runs its length. -/
def Obligations.FilterBanksSwap : Prop :=
  ∀ (s : State) (c : CapCh),
    (∀ v : Word, v.getLsbD 0 = true → fieldOf v.toNat 8 3 ≤ 4 → fieldOf v.toNat 30 2 ≠ 0 →
      Answers (.firSwap c v) s fun u =>
        s.writes u [.regs, .cap] ∧
        s.setsFields u ((if (s.capture c).swap.isSome then [(Reg.FIR_STATUS_REPLACED c, 1)] else []) ++
          [(Reg.FIR_STATUS_HELD c, 0), (Reg.FIR_STATUS_SSTS c, Sts.ok.code)]) ∧
        u.capture c = { s.capture c with
          swap := some ⟨fieldOf v.toNat 30 2, fieldOf v.toNat 16 10, fieldOf v.toNat 8 3, s.now, s.now⟩
          triggered := false }) ∧
    (∀ v : Word, v.getLsbD 0 = true → 4 < fieldOf v.toNat 8 3 → Answers (.firSwap c v) s fun u =>
      s.setsOnly u [(Reg.FIR_STATUS_SSTS c, Sts.range.code)]) ∧
    (∀ w n, (s.capture c).swap = some w → (s.capture c).triggered = true → w.after < s.now → (s.capture c).fade = none →
      fadeLen w.fade = some n → Answers (.fadeStart c) s fun u =>
        s.writes u [.regs, .cap] ∧
        s.setsFields u [(Reg.FIR_STATUS_ACTIVE c, 1 - s.get (Reg.FIR_STATUS_ACTIVE c)), (Reg.FIR_STATUS_HELD c, 0)] ∧
        u.capture c = { s.capture c with
          swap := none, triggered := false, fade := if n = 0 then none else some ⟨n, 0⟩ }) ∧
    (∀ f, (s.capture c).fade = some f → f.n ≤ f.done → Answers (.fadeEnd c) s fun u =>
      s.writes u [.cap] ∧ u.capture c = { s.capture c with fade := none })

/-- R223: FIR_BANK_WRITE, to a tap or to FIR_BANK_x, is refused and changes nothing stored while a fade is in progress, in
the cycle of a fade's first sample, and where it names the active bank while FIR_EN is 1; WSTS says STS_BANKBUSY then, and STS_OK after an accepted write,
which writes its tap. -/
def Obligations.BanksInUseAreNotWritten : Prop :=
  ∀ (s : State) (c : CapCh) (b : Bool) (v : Word),
    (∀ i : Option (Fin 128), (s.capture c).fade ≠ none ∨ s.fadeStarts c = true ∨
      (s.get (Reg.FIR_STATUS_ACTIVE c) = bit b ∧ s.active (Reg.FLT_CFG_FIR_EN c) = 1) →
      Answers (.firBankWrite c b i v) s fun u => s.setsOnly u [(Reg.FIR_STATUS_WSTS c, Sts.bankbusy.code)]) ∧
    ((s.capture c).fade = none → s.fadeStarts c = false →
      (s.get (Reg.FIR_STATUS_ACTIVE c) ≠ bit b ∨ s.active (Reg.FLT_CFG_FIR_EN c) = 0) →
      (∀ i : Option (Fin 128), Answers (.firBankWrite c b i v) s fun u =>
        u.get (Reg.FIR_STATUS_WSTS c) = Sts.ok.code) ∧
      (∀ i : Fin 128, Answers (.firBankWrite c b (some i) v) s fun u =>
        s.writes u [.regs, .cap] ∧ s.setsFields u [(Reg.FIR_STATUS_WSTS c, Sts.ok.code)] ∧
        u.firTap c (bit b) i = (BitVec.ofNat 18 v.toNat).toInt ∧
        (∀ d j, d < 2 → j < 128 → (d ≠ bit b ∨ j ≠ i.val) → u.firTap c d j = s.firTap c d j)))

/-! ## Memory and clock -/

/-- CORRECTED_READ, UNCORRECTABLE_READ, CA_PARITY_ERROR, WRITE_PARITY_ERROR and LATE_READ: each error counted for the
module and its rank, and logged; a corrected line is noted as one to mend, or, with 2 or more bytes, written back; beyond the
code's reach there is no correction; an uncorrectable line is poisoned; and a rank in service is taken out, RETIRED at once where
it holds no extent but the targets of copies, which go elsewhere. -/
def Obligations.MemoryErrorsAreCounted : Prop :=
  ∀ (s : State) (r : RankNo) (loc : BitVec 64),
    let up := fun (u : State) (f : Fld) => u.get f = min (s.get f + 1) 0xFFFFFFFF
    let logged := fun (u : State) (kind bytes : Nat) =>
      mfind u.mc.log (s.get Reg.MEM_LOG_WR_NEXT) = some ⟨s.tsAt s.now, r.val, kind, bytes, loc⟩ ∧
      u.get Reg.MEM_LOG_WR_NEXT = (s.get Reg.MEM_LOG_WR_NEXT + 1) % 256
    let leaves := fun (u : State) (cause : Nat) => s.rankSt r = 0 →
      u.rankSt r = (if s.get (Reg.RANK_STATE_EXT_USED r) ≤ (s.mc.copies.filter (fun p => decide (p.2.2 = r.val))).length then 3
        else 2) ∧ u.get (Reg.RANK_STATE_CAUSE r) = cause ∧
      (r.val, cause) ∈ u.mc.records
    (∀ n : BitVec 3, n ≠ 0 → n.toNat ≤ s.active Reg.MEM_ECC → Answers (.correctedRead r n loc) s fun u =>
      s.writes u [.regs, .mon, .mc] ∧ up u Reg.MEM_CE_CNT ∧ up u (Reg.RANK_CE_CNT r) ∧
      u.get Reg.MEM_STATUS_CE = 1 ∧ logged u 0 n.toNat ∧
      ((r.val, loc.toNat % 2 ^ 32) ∈ u.mc.flaws ↔ n.toNat < 2)) ∧
    (∀ n : BitVec 3, n = 0 ∨ s.active Reg.MEM_ECC < n.toNat → Answers (.correctedRead r n loc) s fun u => u = s) ∧
    (∀ (h : BitVec 24) (off : BitVec 34) g, s.seg h.toNat = some g → Answers (.uncorrectableRead r h off loc) s fun u =>
      up u Reg.MEM_UE_CNT ∧ up u (Reg.RANK_UE_CNT r) ∧ u.get Reg.MEM_STATUS_UE = 1 ∧ logged u 1 0 ∧
      (g.sid, off.toNat / 7) ∈ u.poison ∧ leaves u 1) ∧
    (Answers (.caParityError r loc) s fun u =>
      up u Reg.MEM_PAR_CNT ∧ up u (Reg.RANK_UE_CNT r) ∧ u.get Reg.MEM_STATUS_UE = 1 ∧ logged u 2 0 ∧ leaves u 2) ∧
    (∀ failed, Answers (.writeParityError r loc failed) s fun u =>
      up u Reg.MEM_PAR_CNT ∧ up u (Reg.RANK_UE_CNT r) ∧ u.get Reg.MEM_STATUS_UE = 1 ∧ logged u 3 0 ∧
      (if failed then leaves u 3 else s.writes u [.regs, .mc])) ∧
    (Answers .lateRead s fun u => s.writes u [.regs, .mon] ∧ s.setsFields u
      [(Reg.MEM_LATE_CNT, min (s.get Reg.MEM_LATE_CNT + 1) 0xFFFFFFFF), (Reg.MEM_STATUS_LATE, 1)])

/-- PER_BANK_REFRESH, URGENT_REFRESH, SELF_REFRESH_ENTRY and SELF_REFRESH_EXIT: a refresh of an idle bank closes its row, one
of a busy bank is postponed, and the ninth is issued; an idle memory enters self-refresh, where nothing is owed and no row is
open, and leaves it, but not in Ash. HBM_TEMP_READ, HOT_ASH_TIMEOUT, AUTO_RETRAIN and RETRAIN_COMPLETE: the temperatures with
the doubled rate from 85 °C and HOT as a stack reaches 95 °C, which 1 ms later brings Ash; a due retrain of the stacks that have
drifted, and its end. -/
def Obligations.TheStacksAreKept : Prop :=
  (∀ s : State,
    (∀ (r : RankNo) (b : Fin 64) (idle : Bool), Answers (.perBankRefresh r b idle) s fun u =>
      s.writes u [.mc] ∧ u.owes r b = (if idle then 0 else s.owes r b + 1) ∧
      (idle = true → mfind u.mc.rows (64 * r.val + b.val) = none) ∧
      (∀ q c, c < 64 → (q ≠ r.val ∨ c ≠ b.val) → u.owes q c = s.owes q c)) ∧
    (∀ (r : RankNo) (b : Fin 64), 9 ≤ s.owes r b → Answers (.urgentRefresh r b) s fun u =>
      s.writes u [.mc] ∧ u.owes r b = s.owes r b - 1 ∧ mfind u.mc.rows (64 * r.val + b.val) = none ∧
      (∀ q c, c < 64 → (q ≠ r.val ∨ c ≠ b.val) → u.owes q c = s.owes q c)) ∧
    (∀ (r : RankNo) (b : Fin 64), s.owes r b < 9 → Answers (.urgentRefresh r b) s fun u => u = s) ∧
    (s.active Reg.MEM_CTRL_SR_EN = 1 → s.memIdle = true → s.mc.busyAt + s.microsec (s.active Reg.MEM_SR_IDLE) ≤ s.now →
      s.mc.urgentTill = none → s.get Reg.MEM_SR_ACTIVE = 0 → Answers .selfRefreshEntry s fun u =>
        s.writes u [.regs, .mc] ∧ s.setsFields u [(Reg.MEM_SR_ACTIVE, 0xF)] ∧
        u.mc = { s.mc with owed := [], rows := [], exitAt := none }) ∧
    (s.get Reg.MEM_SR_ACTIVE ≠ 0 → s.get Reg.GLB_STATE_PROFILE ≠ 3 → Answers .selfRefreshExit s fun u =>
      s.writes u [.regs, .mc] ∧ s.setsFields u [(Reg.MEM_SR_ACTIVE, 0)] ∧
      u.mc = { s.mc with busyAt := s.now, exitAt := none }) ∧
    (s.get Reg.GLB_STATE_PROFILE = 3 → Answers .selfRefreshExit s fun u => u = s)) ∧
  (∀ s : State,
    (∀ t0 t1 t2 t3 : BitVec 8, Answers (.hbmTempRead t0 t1 t2 t3) s fun u =>
      let temps := [t0.toNat, t1.toNat, t2.toNat, t3.toNat]
      u.get Reg.MEM_TEMP = t0.toNat + 256 * t1.toNat + 65536 * t2.toNat + 16777216 * t3.toNat ∧
      ((∃ x ∈ temps, 85 ≤ x) → u.get Reg.MEM_STATUS_DOUBLE = 1) ∧
      ((∀ x ∈ temps, x < 85) → (∀ k ∈ s.mc.double, k < 4) → u.get Reg.MEM_STATUS_DOUBLE = 0) ∧
      (∀ k, k < 4 → 95 ≤ u.stackTemp k → s.stackTemp k < 95 →
        u.get Reg.MEM_STATUS_HOT = 1 ∧ s.now ∈ u.mc.hotAt ∧ k ∈ u.mc.hotStks) ∧
      ((∀ x ∈ temps, x < 90) → u.get Reg.MEM_STATUS_HOT = 0 ∧ u.mc.hotAt = [] ∧ u.mc.hotStks = [])) ∧
    (∀ n k, n ∈ s.mc.hotAt → n + s.microsec 1000 ≤ s.now → k < 4 → 95 ≤ s.stackTemp k → s.pw.change = none →
      s.get Reg.GLB_STATE_PROFILE < 3 → Answers .hotAshTimeout s fun u =>
        u.pw = { s.pw with change := some 3, prev := u.pw.prev } ∧ u.get Reg.GLB_STATE_BUSY = 1 ∧
        ∀ j, j < 16 → (u.tile j).running = none ∧ (u.latches j).power = true) ∧
    (s.active Reg.MEM_CTRL_AUTO_RETRAIN = 1 → s.get Reg.MEM_STATUS_RETRAIN_DUE = 1 → s.busyModule = false →
      s.mc.retrain = none → s.cal.run = none → s.pw.change = none → s.get Reg.GLB_STATE_PROFILE ≠ 3 →
      Answers .autoRetrain s fun u =>
        let l := (upto 4).filter (fun k => s.drifted k)
        if l = [] then s.setsOnly u [(Reg.MEM_STATUS_RETRAIN_DUE, 0)]
        else s.writes u [.regs, .mc] ∧ s.setsFields u [(Reg.MEM_STATUS_TRAINING, 1)] ∧
          u.mc = { s.mc with retrain := some ⟨l, true, false⟩ }) ∧
    (∀ (k : StackNo) (temp : BitVec 8) r, s.mc.retrain = some r → k.val ∈ r.stks → s.cal.run = none →
      Answers (.retrainComplete k temp [] []) s fun u =>
        u.stackRef k = temp.toNat ∧
        (let l := r.stks.filter (fun q => decide (q ≠ k.val))
         if l = [] then u.mc.retrain = none ∧ ((∀ q, q < 192 → s.rankSt q ≠ 4) → u.get Reg.MEM_STATUS_TRAINING = 0)
         else u.mc.retrain = some { r with stks := l })))

/-- REF_LOSS, REF_QUALIFIED, ROOT_LOCK_LOSS, LOCK_ACQUIRED and SLEW_COMPLETE: which sources are qualified, the state of the
root loop, what is counted and reported, and, where the loop leaves LOCKED, every output safe. In a core cycle a REF_IN that fails
while it is not active is qualified no more; the oven oscillator never fails. -/
def Obligations.TheRootLoopFollowsItsReference : Prop :=
  ∀ s : State,
    let gated := fun u : State => ∀ k, k < 16 → (u.latches k).gated = true
    let measured := fun src : BitVec 2 => if src.toNat < 2 then [(Reg.CLK_REF_FERR, s.drawFree.1.toNat % 2 ^ 32)] else []
    (s.get Reg.CLK_STATUS_REF_ACT = 3 ∨ s.get Reg.CLK_STATUS_REF_OK = 0 → Answers .refLoss s fun u => u = s) ∧
    (s.get Reg.CLK_STATUS_REF_ACT ≠ 3 → s.get Reg.CLK_STATUS_REF_OK = 1 → Answers .refLoss s fun u =>
      u.get Reg.CLK_STATUS_REF_OK = 0 ∧ u.get Reg.CLK_STATUS_LOR = 1 ∧
      u.get Reg.CLK_LOR_CNT = min (s.get Reg.CLK_LOR_CNT + 1) 0xFFFFFFFF ∧
      u.loopSt = (if s.loopSt = 2 then 2 else 1) ∧ (s.loopSt ≠ 2 → gated u) ∧ u.clk.ramp = none ∧
      u.clk.next = (if s.active Reg.CLK_CTRL_FALLBACK_EN = 1 then some 3 else none) ∧
      s.get Reg.CLK_STATUS_REF_ACT ∉ u.clk.qualified) ∧
    (∀ q, q ∈ s.refsFail.clk.qualified ↔ q ∈ s.clk.qualified ∧ (2 ≤ q ∨
      (s.get Reg.CLK_STATUS_REF_ACT = q ∧ s.get Reg.CLK_STATUS_REF_OK = 1) ∨ Config.refFails q s.now = false)) ∧
    (∀ src : BitVec 2, s.active Reg.CLK_CTRL_REF_SEL ≠ src.toNat ∨
        (s.get Reg.CLK_STATUS_REF_ACT = src.toNat ∧ s.get Reg.CLK_STATUS_REF_OK = 1) →
      Answers (.refQualified src) s fun u => s.writes u [.regs, .free, .clk] ∧ s.setsFields u (measured src) ∧
        u.clk = { s.clk with qualified := src.toNat :: s.clk.qualified.filter (fun q => decide (q ≠ src.toNat)) }) ∧
    (∀ src : BitVec 2, s.active Reg.CLK_CTRL_REF_SEL = src.toNat →
        (s.get Reg.CLK_STATUS_REF_ACT ≠ src.toNat ∨ s.get Reg.CLK_STATUS_REF_OK = 0) →
      Answers (.refQualified src) s fun u => src.toNat ∈ u.clk.qualified ∧
        (s.loopSt = 0 → u.loopSt = 1 ∧ gated u ∧ u.clk.next = some src.toNat) ∧
        (s.loopSt ≠ 0 → u.get Reg.CLK_STATUS_REF_ACT = src.toNat ∧ u.get Reg.CLK_STATUS_REF_OK = 1 ∧
          u.clk.next = none) ∧
        (s.loopSt = 2 → u.loopSt = 2 ∧ u.clk.span = (s.fcwBase, s.fcwBase + s.rampDev)) ∧
        (s.loopSt = 1 → (u.loopSt = 2 ∨ u.loopSt = 3) ∧ (s.active Reg.CLK_CTRL_RECOVER = 0 → u.loopSt = 2))) ∧
    (s.loopSt ≠ 2 → Answers .rootLockLoss s fun u =>
      u.loopSt = 2 ∧ gated u ∧ u.get Reg.CLK_STATUS_LOL = 1 ∧ u.clk.ramp = none ∧
      u.get Reg.CLK_LOL_CNT = min (s.get Reg.CLK_LOL_CNT + 1) 0xFFFFFFFF) ∧
    (∀ band : BitVec 6, s.loopSt = 2 → s.get Reg.CLK_STATUS_REF_OK = 1 → Answers (.lockAcquired band) s fun u =>
      u.loopSt = 4 ∧ u.get Reg.CLK_STATUS_BAND = band.toNat ∧ u.clk.alignedAt = s.now ∧ u.clk.cmd = none ∧
      (∀ tag, tag < 256 → s.clk.cmd = some tag → u.get Reg.CLK_CMD_STATUS_TAG = tag ∧
        u.get Reg.CLK_CMD_STATUS_STS = Sts.ok.code ∧ u.get Reg.CLK_CMD_STATUS_BUSY = 0)) ∧
    (s.loopSt = 3 → Answers .slewComplete s fun u => u.loopSt = 4 ∧ u.clk.alignedAt = s.now)

/-- RETUNE, RELOCK, RAMP_START, RAMP_STOP, CLK_RAMP_END and TRIANGLE_RETURN_TO_BASE: the loop acquires at the new or the
same frequency; a ramp begins at once or waits for its strobe, and ends where it stands, at its end, or at its base. -/
def Obligations.ClockCommandsRetuneAndRamp : Prop :=
  ∀ (s : State) (tag : BitVec 8),
    let fcwAct := fun u : State => u.get64 Reg.CLK_ROOT_FCW_ACT_LO Reg.CLK_ROOT_FCW_ACT_HI
    let reported := fun (u : State) => u.get Reg.CLK_CMD_STATUS_TAG = tag.toNat ∧
      u.get Reg.CLK_CMD_STATUS_STS = Sts.ok.code ∧ u.get Reg.CLK_CMD_STATUS_BUSY = 0
    let ends := fun (u : State) (r : Ramp) => u.clk.ramp = none ∧ u.get Reg.CLK_STATUS_RAMPING = 0 ∧
      (0 ≤ r.cur → r.cur < 2 ^ 40 → (fcwAct u : Int) = r.cur)
    (s.get Reg.CLK_CMD_STATUS_BUSY = 0 → s.busyModule = false → s.clk.ramp = none →
      (s.startAhead = false → fcwLegal (s.active64 Reg.CLK_ROOT_FCW_LO Reg.CLK_ROOT_FCW_HI : Nat) = true → Answers (.retune tag) s fun u =>
        fcwAct u = s.active64 Reg.CLK_ROOT_FCW_LO Reg.CLK_ROOT_FCW_HI ∧ u.loopSt = 2 ∧
        u.get Reg.CLK_CMD_STATUS_BUSY = 1 ∧ u.clk.cmd = some tag.toNat) ∧
      (s.loopSt = 0 → Answers (.relock tag) s fun u =>
        fcwAct u = fcwAct s ∧ u.loopSt = 2 ∧ u.get Reg.CLK_CMD_STATUS_BUSY = 1 ∧ u.clk.cmd = some tag.toNat)) ∧
    (s.get Reg.CLK_CMD_STATUS_BUSY = 0 → s.rampCheck = none →
      (Answers (.rampStart tag 0) s fun u =>
        s.writes u [.regs, .clk] ∧ reported u ∧ u.get Reg.CLK_STATUS_RAMPING = 1 ∧ u.get Reg.CLK_STATUS_INSTEP = 0 ∧
        u.clk.ramp = some ⟨decide (s.active Reg.CLK_RAMP_CFG = 1), s.fcwBase, s.rampDev,
          (s.active Reg.CLK_RAMP_STEP : Nat), s.fcwBase, false, false, 0⟩) ∧
      (Answers (.rampStart tag 1) s fun u =>
        s.writes u [.regs, .clk] ∧ s.setsFields u [(Reg.CLK_CMD_STATUS_BUSY, 1)] ∧
        u.clk = { s.clk with rampWait := some tag.toNat })) ∧
    (s.get Reg.CLK_CMD_STATUS_BUSY = 0 → s.clk.ramp = none → ∀ mode : BitVec 2, Answers (.rampStop tag mode) s fun u =>
      s.writes u [.regs] ∧ reported u) ∧
    (s.get Reg.CLK_CMD_STATUS_BUSY = 0 → ∀ r (mode : BitVec 2), s.clk.ramp = some r → Answers (.rampStop tag mode) s fun u =>
      s.writes u [.regs, .clk] ∧ reported u ∧
      (if r.triangle then u.clk = { s.clk with ramp := some { r with stopping := true } } else ends u r)) ∧
    (∀ r, s.clk.ramp = some r → r.triangle = false → r.cur = r.base + r.dev → Answers .clkRampEnd s fun u =>
      s.writes u [.regs, .clk] ∧ ends u r) ∧
    (∀ r, s.clk.ramp = some r → r.triangle = true → r.stopping = true → r.cur = r.base →
      Answers .triangleReturnToBase s fun u => s.writes u [.regs, .clk] ∧ ends u r)

/-! ## Links and the Crossing -/

/-- LIGHT_PRESENT, LANE_ALIGNED, TRAINING_TIMEOUT, PORT_CALIBRATION_DONE, LIGHT_LOSS, KEEPALIVE_TIMEOUT and
BLOCK_LOCK_LOSS: the states a port goes through, the delay it measures, what is counted, and the system and its reference lost
with the upstream port. TXL_RETRAIN, TXL_DOWN, TXL_ID_WRITE, KEEPALIVE_SEND and KEEPALIVE_MESSAGE: a port taken down, or refused,
and reported; the ID, only while no port is UP; and what a keepalive brings from the partner. -/
def Obligations.PortsTrainFallAndReport : Prop :=
  (∀ (s : State) (p : PortNo),
    let st := Reg.TXL_PSTATUS_STATE p
    (∀ partner : Bool, s.portSt p = 1 → partner ≠ decide (s.upPort = p.val) → Answers (.lightPresent p partner) s fun u =>
      s.writes u [.regs, .txl] ∧ s.setsFields u [(Reg.TXL_PSTATUS_LIGHT p, 1), (st, 2)] ∧
      (p.val ∈ u.txl.facing ↔ partner = true)) ∧
    (∀ partner : Bool, s.portSt p = 1 → partner = decide (s.upPort = p.val) → Answers (.lightPresent p partner) s fun u =>
      s.writes u [.regs, .txl] ∧
      s.setsFields u [(Reg.TXL_PSTATUS_LIGHT p, 1), (Reg.TXL_PSTATUS_STS p, Sts.precond.code)]) ∧
    (Answers (.laneAligned p) s fun u => s.writes u [.regs, .txl] ∧
      u.txl = { s.txl with unlocked := s.txl.unlocked.filter (fun q => decide (q ≠ p.val)) } ∧
      s.setsFields u (if s.portSt p = 2 then [(st, 3)] else [])) ∧
    (s.portSt p = 2 →
      (Answers (.trainingTimeout p) s fun u =>
        s.setsOnly u [(st, 5), (Reg.TXL_PSTATUS_STS p, Sts.trainfail.code)])) ∧
    (∀ rtt turn resid : BitVec 32, s.portSt p = 3 → Answers (.portCalibrationDone p rtt turn resid) s fun u =>
      s.setsOnly u [(Reg.TXL_PLAT p, unsignedOf 32 (((rtt.toNat : Int) - turn.toNat) / 2 +
          signedOf 16 (s.active (Reg.TXL_ASYM p)))),
        (Reg.TXL_PRES p, min resid.toNat 0xFFFF), (Reg.TXL_PSTATUS_STS p, Sts.ok.code), (st, 4)]) ∧
    (s.portSt p = 2 ∨ s.portSt p = 3 → Answers (.lightLoss p) s fun u =>
      s.writes u [.regs, .txl] ∧ s.setsFields u [(Reg.TXL_PSTATUS_LIGHT p, 0), (st, 1),
        (Reg.TXL_DOWN_CNT p, min (s.get (Reg.TXL_DOWN_CNT p) + 1) 0xFFFFFFFF)]) ∧
    (∀ i, s.portSt p = 4 → i = Instr.lightLoss p ∨ i = .keepaliveTimeout p → Answers i s fun u =>
      u.portSt p = 1 ∧ u.get (Reg.TXL_DOWN_CNT p) = min (s.get (Reg.TXL_DOWN_CNT p) + 1) 0xFFFFFFFF ∧
      p.val ∉ u.txl.unlocked ∧
      (i = .keepaliveTimeout p → u.get (Reg.TXL_KA_MISS_CNT p) = min (s.get (Reg.TXL_KA_MISS_CNT p) + 3) 0xFFFFFFFF) ∧
      (s.upPort = p.val → u.get Reg.TXL_STATUS_SYSLOST = 1 ∧ u.txl.sync = none ∧ u.txl.ready = false ∧
        u.get Reg.TXL_STATUS_JOINED = 0 ∧ u.get Reg.TXL_STATUS_LOSS = 1 ∧ 2 ∉ u.clk.qualified) ∧
      (s.upPort ≠ p.val → u.get Reg.TXL_STATUS_SUBLOST = 1 ∧ u.get (Reg.TXL_PMODS p) = 0 ∧
        ∀ m ∈ u.txl.members, m.1 ≠ p.val)) ∧
    (Answers (.blockLockLoss (some p)) s fun u => s.writes u [.regs, .txl] ∧
      s.setsFields u [(Reg.TXL_BLK_ERR_CNT p, min (s.get (Reg.TXL_BLK_ERR_CNT p) + 16) 0xFFFFFFFF)] ∧
      p.val ∈ u.txl.unlocked ∧ u.portTalks p = false) ∧
    (Answers (.blockLockLoss none) s fun u => s.writes u [.xng] ∧ u.xng = { s.xng with up := false })) ∧
  (∀ (s : State) (p : PortNo),
    let reports := fun (u : State) (tag : BitVec 8) (e : Sts) => u.get Reg.TXL_CMD_STATUS_TAG = tag.toNat ∧
      u.get Reg.TXL_CMD_STATUS_STS = e.code ∧ u.get Reg.TXL_CMD_STATUS_BUSY = 0
    (∀ tag, s.portOn p = true → Answers (.txlRetrain tag p) s fun u => u.portSt p = 1 ∧ reports u tag .ok) ∧
    (∀ tag, s.portOn p = false → Answers (.txlRetrain tag p) s fun u =>
      s.writes u [.regs] ∧ u.portSt p = s.portSt p ∧ reports u tag .state) ∧
    (∀ tag, Answers (.txlDown tag p) s fun u => u.portSt p = 0 ∧ reports u tag .ok) ∧
    (∀ v : Word, ((∀ q, q < 4 → s.portSt q ≠ 4) → Answers (.txlIdWrite v) s fun u =>
        s.setsOnly u [(Reg.TXL_ID, v.toNat % 2 ^ 9)]) ∧
      (s.portSt p = 4 → Answers (.txlIdWrite v) s fun u => s.setsOnly u [(Reg.TXL_STATUS_ID_IGNORED, 1)])) ∧
    (Answers (.keepaliveSend p) s fun u => u = s) ∧
    (∀ time trace joined depth ready, s.portTalks p = true → s.upPort ≠ p.val →
      Answers (.keepaliveMessage p time trace joined depth ready) s fun u =>
        s.writes u [.regs, .txl] ∧ (p.val ∈ u.txl.joined ↔ joined = true) ∧
        s.setsFields u (if joined = false ∧ 8 < depth.toNat then [(Reg.TXL_PSTATUS_STS p, Sts.range.code)] else []) ∧
        (∀ n, (p.val, n) ∈ u.txl.reports ↔ ∃ m ∈ ready, m.toNat = n) ∧
        (∀ q n, q ≠ p.val → ((q, n) ∈ u.txl.reports ↔ (q, n) ∈ s.txl.reports))) ∧
    (∀ time joined depth ready, s.portTalks p = true → s.upPort = p.val →
      (Answers (.keepaliveMessage p time true joined depth ready) s fun u =>
        s.writes u [.regs, .txl] ∧ u.txl.traceUp = true ∧ u.txl.depthUp = depth.toNat ∧
        u.txl.heard = some (s.now, time.toNat + s.get (Reg.TXL_PLAT p) / Config.fine) ∧
        u.get Reg.TXL_STATUS_DEPTH = (depth.toNat + 1) % 2 ^ 4) ∧
      (Answers (.keepaliveMessage p time false joined depth ready) s fun u =>
        u.txl.traceUp = false ∧ u.get Reg.TXL_STATUS_SYSLOST = 1 ∧ u.get Reg.TXL_STATUS_JOINED = 0 ∧
        u.get Reg.TXL_STATUS_LOSS = 1 ∧ 2 ∉ u.clk.qualified)))

/-- SYNC_ISSUE, SYNC_MESSAGE and SYNC_PULSE: the timekeeper's sync lies at least the worst path and 64 cc ahead, at a
multiple of the sync period once the system runs; a joined module takes the sync it hears; at the pulse the membership is
in force. -/
def Obligations.SyncsAreIssuedAndTaken : Prop :=
  ∀ s : State,
    (s.upPort = 4 → s.txl.sync = none → (s.txl.started = true ∨ s.loopSt = 4) → Answers .syncIssue s fun u =>
      ∃ m, u.txl.sync = some m ∧ u.txl = { s.txl with sync := some m } ∧ s.now + m.worst + 64 ≤ m.due ∧
        (s.txl.started = false → m.ts = 0 ∧ m.due = s.now + m.worst + 64) ∧
        (s.txl.started = true → 0 < s.syncPer → s.syncPer ∣ m.ts ∧
          s.sysTime (s.now + m.worst + 64) + (m.due - (s.now + m.worst + 64)) = m.ts) ∧
        s.get Reg.TXL_ID ∈ m.members) ∧
    (∀ (p : PortNo) ts worst grants members, s.upPort = p.val → s.portTalks p = true →
      s.get Reg.TXL_STATUS_JOINED = 1 → s.txl.ready = false →
      Answers (.syncMessage p ts worst grants members) s fun u => s.writes u [.txl] ∧
        u.txl = { s.txl with sync := some ⟨s.cycleOf ts.toNat, ts.toNat, worst.toNat, grants.map (fun m => m.toNat),
          members.map (fun m => m.toNat)⟩ }) ∧
    (∀ m, s.txl.sync = some m → m.due ≤ s.now → s.upPort = 4 → (∀ g, g < 16 → s.get (Reg.GLB_UPD_SRC_SRC g) ≠ 2) →
      Answers .syncPulse s fun u =>
        u.txl.sync = none ∧ u.txl.started = true ∧ u.get Reg.TXL_WORST = m.worst % 2 ^ 32 ∧
        mfind u.evt.strobes 16 = some s.now ∧
        (s.loopSt = 4 → s.clk.alignedAt < s.now → u.loopSt = 0 ∧ u.get Reg.TXL_STATUS_JOINED = 1 ∧
          u.sysTime s.now = m.ts % 2 ^ 64))

/-- WATCHDOG_EXPIRY, XNG_KICK, XNG_WDOG, HEARTBEAT_SEND, HEARTBEAT_MESSAGE, FIELD_ABSENCE_TIMEOUT and
HOST_ABSENCE_TIMEOUT: the watchdog, which a kick of the cycle keeps from expiring, and what ATTENDED says, the heartbeats
that each side sends and takes, and what either side does when the other is absent. -/
def Obligations.HeartbeatsAndAbsence : Prop :=
  ∀ s : State,
    (s.get Reg.XNG_WDOG = 0 ∨ s.get Reg.XNG_HSTATUS_WDOG_EXP = 1 ∨ s.kicked = true → Answers .watchdogExpiry s fun u => u = s) ∧
    (s.get Reg.XNG_WDOG ≠ 0 → s.get Reg.XNG_HSTATUS_WDOG_EXP = 0 → s.kicked = false → Answers .watchdogExpiry s fun u =>
      s.writes u [.regs, .xng, .wrote] ∧ s.setsFields u [(Reg.XNG_HSTATUS_WDOG_EXP, 1), (Reg.XNG_HSTATUS_ATTENDED, 0),
        (Reg.XNG_HALERT_WDOG, 1)]) ∧
    (∀ v : Word, Answers (.xngKick v) s fun u => s.writes u [.regs, .wrote] ∧ u.kicked = true ∧ s.setsFields u
      ([(Reg.XNG_HSTATUS_WDOG_EXP, 0), (Reg.XNG_HSTATUS_ATTENDED, bit (!s.xng.perst))] ++
        (if s.get Reg.XNG_HALERT_WDOG = 1 ∧ s.shadowOf Reg.XNG_HALERT_WDOG = 0 then [(Reg.XNG_HALERT_WDOG, 0)] else []))) ∧
    (∀ v : Word, Answers (.xngWdog v) s fun u => s.setsOnly u [(Reg.XNG_WDOG, v.toNat),
      (Reg.XNG_HSTATUS_WDOG_EXP, 0), (Reg.XNG_HSTATUS_ATTENDED, bit (!s.xng.perst))]) ∧
    (s.pw.hostOn = true → Answers (.heartbeatSend true) s fun u => s.writes u [.xng] ∧
      u.xng = { s.xng with beatHost := some (!s.xng.perst && decide (s.get Reg.XNG_HSTATUS_WDOG_EXP = 0)) }) ∧
    (s.pw.fieldOn = true → 2 ≤ s.get Reg.NVS_BOOT_STAGE → Answers (.heartbeatSend false) s fun u =>
      s.writes u [.xng] ∧ u.xng = { s.xng with beatField := some s.fieldState }) ∧
    (∀ a, s.xng.beatHost = some a → s.pw.fieldOn = true → 2 ≤ s.get Reg.NVS_BOOT_STAGE → s.xng.up = true →
      Answers (.heartbeatMessage true) s fun u =>
        (s.get Reg.XNG_FSTATUS_HOST_ABSENT = 0 ∨ s.shadowOf Reg.XNG_FSTATUS_HOST_ABSENT = 0 →
          s.writes u [.xng] ∧ u.xng = { s.xng with beatHost := none }) ∧
        (s.get Reg.XNG_FSTATUS_HOST_ABSENT = 1 → s.shadowOf Reg.XNG_FSTATUS_HOST_ABSENT ≠ 0 → a = true → s.xng.hbField = 1 →
          s.writes u [.regs, .xng] ∧
          s.setsFields u [(Reg.XNG_FSTATUS_HOST_ABSENT, 0), (Reg.XNG_FSTATUS_HOST_BACK, 1)] ∧
          u.xng = { s.xng with beatHost := none, hbField := 0 }) ∧
        (s.get Reg.XNG_FSTATUS_HOST_ABSENT = 1 → s.shadowOf Reg.XNG_FSTATUS_HOST_ABSENT ≠ 0 → a = false → s.writes u [.xng] ∧
          u.xng = { s.xng with beatHost := none, hbField := 0 })) ∧
    (∀ st, st < 8 → s.xng.beatField = some st → s.pw.hostOn = true → s.xng.up = true →
      Answers (.heartbeatMessage false) s fun u =>
        s.writes u [.regs, .xng] ∧
        (s.get Reg.XNG_HSTATUS_FIELD_ABSENT = 1 → s.xng.hbHost = 1 →
          s.setsFields u [(Reg.XNG_HSTATUS_FSTATE, st), (Reg.XNG_HSTATUS_FIELD_ABSENT, 0)]) ∧
        (s.get Reg.XNG_HSTATUS_FIELD_ABSENT = 0 → s.setsFields u [(Reg.XNG_HSTATUS_FSTATE, st)])) ∧
    (s.pw.hostOn = true → s.get Reg.XNG_HSTATUS_FIELD_ABSENT = 0 → Answers .fieldAbsenceTimeout s fun u =>
      s.writes u [.regs, .xng] ∧ u.get Reg.XNG_HSTATUS_FIELD_ABSENT = 1 ∧ u.xng.waiting = [] ∧ u.xng.hbHost = 0 ∧
      (s.xng.dormant = false → u.get Reg.XNG_HALERT_FIELD_LOST = 1)) ∧
    (s.fieldLive = true → s.get Reg.XNG_FSTATUS_HOST_ABSENT = 0 → Answers .hostAbsenceTimeout s fun u =>
      s.writes u [.regs, .tiles, .xng, .wrote] ∧ s.setsFields u [(Reg.XNG_FSTATUS_HOST_ABSENT, 1)] ∧
      (s.get Reg.XNG_ABSENT_POLICY = 0 → ∀ t, u.tile t = s.tile t) ∧
      (s.get Reg.XNG_ABSENT_POLICY = 1 → ∀ t c, t < 16 → (s.tile t).running = some c →
        u.tile t = { s.tile t with start := none, pauses := (s.tile t).pauses ++ [⟨c, s.now + Config.L, false⟩] }) ∧
      (s.get Reg.XNG_ABSENT_POLICY = 2 → u.xng.safeAt = some (s.now + Config.L) ∧
        ∀ t c, t < 16 → (s.tile t).running = some c →
        u.tile t = { s.tile t with start := none, stops := (s.tile t).stops ++ [⟨c, s.now + Config.L, true⟩] }))

/-- XNG_RAISE, ALARM_MESSAGE, NOTIFICATION_MESSAGE, XNG_POP_ALARM, XNG_POP_NOTE and SAFE_LATCH_CLEAR: raises on their way,
the oldest alarm or notification taken by the host side or counted as lost, the entries popped, and the safe latch ended.
PERST_N_ASSERT, PERST_N_RELEASE, HOST_SIDE_POWER_UP and HOST_SIDE_POWER_LOSS: the bridge's rings and queues emptied and
its registers as after reset, but for what goes on reporting the field side; ATTENDED follows. -/
def Obligations.MessagesCrossAndTheHostSideResets : Prop :=
  (∀ s : State,
    (∀ v : Word, s.get Reg.XNG_HSTATUS_FIELD_ABSENT = 0 → Answers (.xngRaise v) s fun u => s.writes u [.xng] ∧
      (∀ n, n ∈ u.xng.raises ↔ n ∈ s.xng.raises ∨ n < 32 ∧ v.getLsbD n = true) ∧
      u.xng = { s.xng with raises := u.xng.raises }) ∧
    (∀ a rest, s.xng.fAlarms = a :: rest → s.xng.up = true → s.xng.perst = false → s.pw.hostOn = true →
      Answers .alarmMessage s fun u => s.writes u [.regs, .xng] ∧ u.xng.fAlarms = rest ∧ u.xng.fAlarmLost = 0 ∧
        (s.xng.hAlarms.length < 64 → u.xng.hAlarms = s.xng.hAlarms ++ [a] ∧
          u.get Reg.XNG_ALARM_STAT_LOST = min (s.get Reg.XNG_ALARM_STAT_LOST + s.xng.fAlarmLost) 0xFFFF ∧
          (s.xng.hAlarms = [] → u.get Reg.XNG_HALERT_ALARM = 1)) ∧
        (64 ≤ s.xng.hAlarms.length → u.xng.hAlarms = s.xng.hAlarms ∧
          u.get Reg.XNG_ALARM_STAT_LOST = min (s.get Reg.XNG_ALARM_STAT_LOST + s.xng.fAlarmLost + 1) 0xFFFF)) ∧
    (∀ a rest, s.xng.fNotes = a :: rest → s.xng.up = true → s.xng.perst = false → s.pw.hostOn = true →
      Answers .notificationMessage s fun u => s.writes u [.regs, .xng] ∧ u.xng.fNotes = rest ∧ u.xng.fNoteLost = 0 ∧
        (s.xng.hNotes.length < 256 → u.xng.hNotes = s.xng.hNotes ++ [a] ∧
          u.get Reg.XNG_NOTE_LOST_CNT = min (s.get Reg.XNG_NOTE_LOST_CNT + s.xng.fNoteLost) 0xFFFFFFFF) ∧
        (256 ≤ s.xng.hNotes.length → u.xng.hNotes = s.xng.hNotes ∧
          u.get Reg.XNG_NOTE_LOST_CNT = min (s.get Reg.XNG_NOTE_LOST_CNT + s.xng.fNoteLost + 1) 0xFFFFFFFF)) ∧
    (∀ (v : Word) (i : Instr), i = .xngPopAlarm v ∨ i = .xngPopNote v → Answers i s fun u => s.writes u [.xng] ∧
      u.xng = { s.xng with
        hAlarms := if v.getLsbD 0 then s.xng.hAlarms.tail else s.xng.hAlarms
        hNotes := if v.getLsbD 1 then s.xng.hNotes.tail else s.xng.hNotes }) ∧
    (∀ v : Word, s.get Reg.XNG_FSTATUS_HOST_ABSENT = 0 → v.getLsbD 2 = true → s.get Reg.XNG_FSTATUS_SAFE_LATCH = 1 →
      Answers (.safeLatchClear v) s fun u =>
        s.setsFields u ((if v.getLsbD 1 then [(Reg.XNG_FSTATUS_HOST_BACK, 0)] else []) ++
          [(Reg.XNG_FSTATUS_SAFE_LATCH, 0)]) ∧
        (∀ k, k < 16 → u.latches k = { s.latches k with absent := false }) ∧
        (∀ c, c < 8 → (u.capture c).absHeld = false)) ∧
    (∀ v : Word, s.get Reg.XNG_FSTATUS_HOST_ABSENT = 1 → Answers (.safeLatchClear v) s fun u => u = s)) ∧
  (∀ s : State,
    let cleared := fun u : State => u.xng.hAlarms = [] ∧ u.xng.hNotes = [] ∧ u.xng.rings = [] ∧ u.xng.waiting = [] ∧
      u.xng.irqs = [] ∧ u.xng.mbx = [] ∧ u.xng.pcie = Pcie.init
    (Answers .perstNAssert s fun u =>
      s.writes u [.regs, .xng] ∧ cleared u ∧ u.xng.perst = true ∧ u.get Reg.XNG_HSTATUS_ATTENDED = 0 ∧
      (∀ f ∈ [Reg.XNG_HSTATUS_FSTATE, Reg.XNG_HSTATUS_FIELD_PWR, Reg.XNG_HSTATUS_FIELD_ABSENT], u.get f = s.get f) ∧
      (∀ a, perstReg a = true → a ≠ Reg.XNG_HSTATUS_ATTENDED.addr → u.regWord a = State.reset.regWord a) ∧
      (∀ a, perstReg a = false → u.regWord a = s.regWord a)) ∧
    (Answers .perstNRelease s fun u =>
      s.writes u [.regs, .xng] ∧ u.xng = { s.xng with perst := false } ∧
      s.setsFields u [(Reg.XNG_HSTATUS_ATTENDED, bit (decide (s.get Reg.XNG_HSTATUS_WDOG_EXP = 0)))]) ∧
    (s.pw.hostOn = false → Answers .hostSidePowerUp s fun u =>
      s.writes u [.regs, .xng, .pw] ∧ u.pw = { s.pw with hostOn := true } ∧ cleared u ∧
      (∀ a, perstReg a = false → u.regWord a = s.regWord a)) ∧
    (Answers .hostSidePowerLoss s fun u =>
      u.pw.hostOn = false ∧ u.pw.fieldOn = false ∧ cleared u ∧ u.xng.beatHost = none ∧ u.xng.beatField = none ∧
      u.xng.raises = [] ∧ u.xng.dormant = false))

/-- XNG_RING_TAIL, FERRY_FRAME and FERRY_DESCRIPTOR_COMPLETE: descriptors are posted; a frame of the descriptor at the
head of an open ring counts for it and its LOAD, and one to the host carries the words that the LOAD delivers; a finished or
refused descriptor is written back and the head moves on. PEER_DATA_FRAME: the peer takes words of a push; a push of another
module with FINAL is stored, and the segment READY unless a LOAD writes it. -/
def Obligations.FerriesAndPeersMoveWords : Prop :=
  (∀ (s : State) (r : RingNo),
    (∀ (v : Word) (d : BitVec 256), Answers (.xngRingTail r v [d]) s fun u =>
      s.writes u [.regs, .xng] ∧ s.setsFields u [(Reg.XNG_RING_TAIL r, v.toNat % 256)] ∧
      u.desc r (s.get (Reg.XNG_RING_TAIL r)) = Desc.ofBytes d ∧
      (∀ q i, i < 256 → (q ≠ r.val ∨ i ≠ s.get (Reg.XNG_RING_TAIL r)) → u.desc q i = s.desc q i)) ∧
    (∀ (words : List Word72) g l, let i := s.get (Reg.XNG_RING_HEAD r)
      let d := s.headDesc r
      s.ringOpen r = true → s.xng.up = true → s.fieldLive = true → (∀ x, mfind s.xng.xfers r.val = some x → x.sts = none) →
      words.length ≤ 455 → d.done + words.length ≤ d.count → s.ferryMatch d = .ok (g, l) → s.tooHot g.sid = false →
      l.done + words.length ≤ l.count →
      (d.toHost = true → g.loads = [l] → Answers (.ferryFrame r words) s fun u =>
        s.writes u [.segs, .xng, .mc] ∧ u.desc r i = { d with done := d.done + words.length } ∧
        u.xng.ferried = (upto words.length).map (fun j => s.delivered g.sid (l.off + l.done + j)) ∧
        u.seg d.handle = some { g with loads := [{ l with
          done := l.done + words.length
          poisoned := l.poisoned + s.poisonedIn g.sid (l.off + l.done) words.length }] }) ∧
      (d.toHost = false → Answers (.ferryFrame r words) s fun u =>
        u.desc r i = { d with done := d.done + (s.loadTakes l words).length })) ∧
    (∀ words : List Word72, s.ringOpen r = false ∨ 455 < words.length → Answers (.ferryFrame r words) s fun u => u = s) ∧
    (let i := s.get (Reg.XNG_RING_HEAD r)
      let d := s.headDesc r
      s.ringOpen r = true → s.xng.up = true → s.fieldLive = true →
      (∀ x, mfind s.xng.xfers r.val = some x → x.sts = none → d.done = d.count →
        Answers (.ferryDescriptorComplete r) s fun u =>
          s.writes u [.regs, .xng] ∧ s.setsFields u [(Reg.XNG_RING_HEAD r, (i + 1) % 256)] ∧
          u.desc r i = { d with sts := if 0 < x.poisoned then Sts.poison.code else Sts.ok.code } ∧
          mfind u.xng.xfers r.val = none) ∧
      (∀ e, mfind s.xng.xfers r.val = none → s.ferryMatch d = .error e →
        Answers (.ferryDescriptorComplete r) s fun u =>
          s.writes u [.regs, .xng] ∧ s.setsFields u [(Reg.XNG_RING_HEAD r, (i + 1) % 256)] ∧
          u.desc r i = { d with sts := e.code }))) ∧
  (∀ (s : State) (p : PortNo) (h : BitVec 24) (off : BitVec 34) (words : List Word72) (g : Seg),
    s.portTalks p = true → s.seg h.toNat = some g → s.tooHot g.sid = false →
    (∀ l : OpenLoad, g.loads = [l] → l.src = p.val + 1 → l.read = true → l.off + l.done = off.toNat → words ≠ [] →
      l.done + words.length ≤ l.count → Answers (.peerDataFrame p 1 h off words []) s fun u =>
        s.writes u [.segs, .mc] ∧ u.seg h.toNat = some { g with loads := [{ l with done := l.done + words.length }] }) ∧
    ((s.store g.sid).kind ≠ .capture → (s.store g.sid).kind ≠ .slipway → off.toNat + words.length ≤ (s.store g.sid).len →
      s.liveNow h.toNat = false → g.guests = [] → s.get Reg.GLB_STATE_PROFILE ≠ 3 → s.pw.change ≠ some 3 →
      Answers (.peerDataFrame p 3 h off words []) s fun u =>
        (∀ i (hi : i < words.length), u.readWord g.sid (off.toNat + i) = words[i]) ∧
        u.seg h.toNat = some { g with finalDone := true, loading := g.loads.any (fun l => l.writes) }))

/-! ## Image, calibration and counters -/

/-- NV_WRITE_ENABLE, IMG_WRITE_BLOCK, IMG_COMMIT, IMG_COMMAND_COMPLETE and MRAM_WRITE_COMPLETE: WE guarded; a block
invalidates the inactive bank's commit record and stores the staging window; a commit makes the bank valid where it
verifies. BOOT_STAGE_COMPLETE: the stages that only pass on to the next, with what they leave. -/
def Obligations.TheImageIsWrittenAndBooted : Prop :=
  (∀ (s : State) (tag : BitVec 8),
    let b := s.inactive
    let a := s.get Reg.NVS_IMG_ADDR
    let done := fun (u : State) (n : Nat) (e : Sts) => u.get Reg.NVS_IMG_STATUS_TAG = n % 256 ∧
      u.get Reg.NVS_IMG_STATUS_STS = e.code ∧ u.get Reg.NVS_IMG_STATUS_BUSY = 0
    (∀ v : Word, s.get Reg.GLB_STATE_UNLOCKED = 1 → Answers (.nvWriteEnable v) s fun u =>
      s.setsOnly u [(Reg.GLB_STATE_UNLOCKED, 0), (Reg.NVS_NV_CTRL_WE, bit (v.getLsbD 0))]) ∧
    (s.get Reg.NVS_IMG_STATUS_BUSY = 0 → s.get Reg.NVS_NV_CTRL_WE = 1 → s.get Reg.NVS_SUPPLY_NV_BLOCK = 0 →
      (a % 4096 = 0 → a + 4096 ≤ bankBytes → Answers (.imgWriteBlock tag) s fun u =>
        s.writes u [.regs, .pw, .mram] ∧
        s.setsFields u [(Reg.NVS_NV_CTRL_INACT_VALID, 0), (Reg.NVS_IMG_STATUS_BUSY, 1)] ∧
        u.pw = { s.pw with writing := s.pw.writing ++ [.block tag.toNat] } ∧
        (∀ i, i < 16 → u.mramAt b (bankBytes + i) = 0) ∧
        (∀ i j, i < 1024 → j < 4 →
          u.mramAt b (a + 4 * i + j) = BitVec.ofNat 8 (s.get (Reg.NVS_STAGE i) / 256 ^ j)) ∧
        (∀ i, i < bankBytes → (i < a ∨ a + 4096 ≤ i) → u.mramAt b i = s.mramAt b i)) ∧
      (a ≤ bankBytes → Answers (.imgCommit tag) s fun u =>
        s.writes u [.regs, .pw] ∧ s.setsFields u [(Reg.NVS_IMG_STATUS_BUSY, 1)] ∧
        u.pw = { s.pw with writing := s.pw.writing ++ [.commit tag.toNat a] })) ∧
    (∀ w, s.pw.writing = [w] → s.pw.wanted = none →
      ∀ i, i = Instr.mramWriteComplete ∨ i = .imgCommandComplete → Answers i s fun u =>
        (∀ n, w = .block n → u.pw = { s.pw with writing := [] } ∧ done u n .ok) ∧
        (∀ n len, w = .commit n len → u.pw = { s.pw with writing := [] } ∧ done u n (s.verifyBank b) ∧
          (s.verifyBank b = .ok → u.get Reg.NVS_NV_CTRL_INACT_VALID = 1)))) ∧
  (∀ (s : State) (temps : BitVec 32) (fails : List (Fin 64)), s.fieldLive = true → s.stopped = false →
    (s.get Reg.NVS_BOOT_STAGE = 1 → s.get Reg.XNG_PWR_DORMANT = 0 → Answers (.bootStageComplete temps fails) s fun u =>
      s.writes u [.regs, .xng] ∧ u.xng = { s.xng with up := true } ∧
      s.setsFields u [(Reg.CLK_STATUS_SVC_LOCK, 1), (Reg.NVS_BOOT_STAGE, 2)]) ∧
    (s.get Reg.NVS_BOOT_STAGE = 2 → s.get Reg.XNG_PWR_DORMANT = 0 → Answers (.bootStageComplete temps fails) s fun u =>
      s.writes u [.regs, .xng] ∧ s.setsFields u [(Reg.CLK_STATUS_SVC_LOCK, 1), (Reg.NVS_BOOT_STAGE, 3),
        (Reg.NVS_BOOT_BANK, s.bankOrder.headD 0 % 2)]) ∧
    (s.get Reg.NVS_BOOT_STAGE = 5 → s.get Reg.CLK_STATUS_REF_OK = 1 →
      s.get Reg.CLK_STATUS_REF_ACT = s.active Reg.CLK_CTRL_REF_SEL → Answers (.bootStageComplete temps fails) s fun u =>
        s.setsOnly u [(Reg.NVS_BOOT_STAGE, 6), (Reg.MEM_STATUS_TRAINING, 1)]) ∧
    (s.get Reg.NVS_BOOT_STAGE = 7 → s.cal.run = none → Answers (.bootStageComplete temps fails) s fun u =>
      s.setsOnly u [(Reg.NVS_BOOT_STAGE, 8)]))

/-- DAC_LINEARITY, DAC_MARKER_TIMING, ADC_CALIBRATION, PIN_LEVELS, PIN_DESKEW, TERXA_SKEW and HBM_RETRAIN: an accepted
procedure holds its target's outputs safe, or its channel; a retrain pauses what runs. CAL_PROCEDURE_COMPLETE, CAL_COMMIT,
CAL_COMMIT_COMPLETE and DAC_TEMP_READ: a procedure's last target ends the command with its worst figures, or a failed
precondition with 0xFFFF; a commit writes the store and reports; a die that has moved from its calibration is due. -/
def Obligations.CalibrationsBeginAndEnd : Prop :=
  (∀ (s : State) (tag target : BitVec 8), s.get Reg.CAL_CMD_STATUS_BUSY = 0 → s.cal.run = none → s.calAway = false →
    (∀ op i, (op, i) ∈ [(1, Instr.dacLinearity tag target), (2, .dacMarkerTiming tag target),
        (3, .adcCalibration tag target), (4, .pinLevels tag target), (5, .pinDeskew tag target false),
        (6, .terxaSkew tag target)] →
      calTarget op target.toNat = true → (∀ c ∈ calTargets op target.toNat, s.calBlocked op c = false) →
      Answers i s fun u =>
        let r := CalRun.start op tag.toNat target.toNat false false
        u.cal = { s.cal with run := some r } ∧ u.get Reg.CAL_CMD_STATUS_BUSY = 1 ∧
        (∀ k ∈ r.safes, (u.latches k).cal = true) ∧ (op = 3 → (u.capture r.cur).calHeld = true)) ∧
    (calTarget 7 target.toNat = true → (∀ c ∈ calTargets 7 target.toNat, s.calBlocked 7 c = false) →
      Answers (.hbmRetrain tag target) s fun u =>
        s.writes u [.regs, .tiles, .mc, .cal] ∧
        s.setsFields u [(Reg.MEM_STATUS_TRAINING, 1), (Reg.CAL_CMD_STATUS_BUSY, 1)] ∧
        u.mc = { s.mc with retrain := some ⟨calTargets 7 target.toNat, false, false⟩ } ∧
        (∀ t c, t < 16 → (s.tile t).running = some c →
          u.tile t = { s.tile t with pauses := (s.tile t).pauses ++ [⟨c, s.now + Config.L, true⟩] }))) ∧
  (∀ s : State,
    let ends := fun (u : State) (n : Nat) (e : Sts) => u.get Reg.CAL_CMD_STATUS_TAG = n ∧
      u.get Reg.CAL_CMD_STATUS_STS = e.code ∧ u.get Reg.CAL_CMD_STATUS_BUSY = 0
    (∀ r, s.cal.run = some r → 1 ≤ r.op → r.op ≤ 6 → r.boot = false → r.target ≠ 15 → r.tag < 256 → r.a < 65536 →
      r.b < 65536 → s.calHvDown r = false → ∀ (a b : BitVec 16) (lat : BitVec 32),
      (Answers (.calProcedureComplete true a b lat) s fun u =>
        u.cal.run = none ∧ ends u r.tag .ok ∧ u.get Reg.CAL_QUAL_A = worseA r.op r.a a.toNat ∧
        u.get Reg.CAL_QUAL_B = max r.b (figureB r.op b.toNat) ∧
        (∀ n, calEntry r.op r.cur = some n → u.get (Reg.CAL_Q_A n) = a.toNat ∧
          u.get (Reg.CAL_Q_B n) = figureB r.op b.toNat)) ∧
      (Answers (.calProcedureComplete false a b lat) s fun u =>
        u.cal.run = none ∧ ends u r.tag .precond ∧ u.get Reg.CAL_QUAL_A = 0xFFFF ∧ u.get Reg.CAL_QUAL_B = 0xFFFF)) ∧
    (∀ tag : BitVec 8, s.get Reg.GLB_STATE_UNLOCKED = 1 → s.get Reg.CAL_CMD_STATUS_BUSY = 0 → s.cal.run = none →
      s.calAway = false → s.get Reg.NVS_SUPPLY_NV_BLOCK = 0 → Answers (.calCommit tag 0) s fun u =>
        u.get Reg.GLB_STATE_UNLOCKED = 0 ∧ u.get Reg.CAL_CMD_STATUS_BUSY = 1 ∧
        u.pw = { s.pw with writing := s.pw.writing ++ [.cal tag.toNat s.olderSlot] } ∧
        s.writes u [.regs, .pw, .mram]) ∧
    (∀ n b, n < 256 → s.pw.writing = [.cal n b] → s.pw.wanted = none → Answers .calCommitComplete s fun u =>
      u.pw = { s.pw with writing := [] } ∧ ends u n .ok ∧ s.writes u [.regs, .pw, .mram]) ∧
    (∀ temps : List (BitVec 8), temps.length = 8 → Answers (.dacTempRead temps) s fun u =>
      s.writes u [.regs, .free, .cal] ∧ (∀ w, w < 8 → mfind u.cal.dacTemp w = temps[w]?) ∧
      (∀ w t, w < 8 → mfind s.cal.dacRef w = some t →
        (if s.ivory then 2 else 5) < (((temps.getD w 0).toInt - t.toInt).natAbs) →
        (u.get Reg.CAL_DUE).testBit w = true)))

/-- SMBUS_EEPROM_READ, SMBUS_STATUS_READ, MON_START, MON_STOP and MON_SNAPSHOT: what the SMBus port answers, and the
counters started, stopped and copied with the time. -/
def Obligations.SmbusAnswersAndCountersCount : Prop :=
  ∀ s : State,
    (∀ (addr : BitVec 11) (n : Nat), Answers (.smbusEepromRead addr n) s fun u => s.writes u [.xng] ∧
      u.xng = { s.xng with smbus := u.xng.smbus } ∧ u.xng.smbus.length = n ∧
      (∀ i, i < n → u.xng.smbus[i]? = some (eeprom ((addr.toNat + i) % 2048)))) ∧
    (Answers .smbusStatusRead s fun u => s.writes u [.xng] ∧ ∃ b : BitVec 8, u.xng = { s.xng with smbus := [b] } ∧
      b.getLsbD 0 = s.pw.fieldOn ∧ b.getLsbD 1 = decide (s.get Reg.XNG_HSTATUS_FIELD_ABSENT = 0) ∧
      b.getLsbD 2 = decide (s.get Reg.GLB_STATE_LISTED = 1) ∧ b.getLsbD 3 = s.alertLow ∧ b.toNat < 16) ∧
    (∀ n : MonNo,
      (s.get (Reg.MON_CFG_RUN n) = 0 → n.val ∉ s.monEnded → Answers (.monStart n) s fun u =>
        s.writes u [.regs, .monBegun] ∧ u.get (Reg.MON_CFG_RUN n) = 1 ∧
        u.monCount n = (if s.active (Reg.MON_CFG_CLR n) = 1 then 0 else s.monCount n)) ∧
      (mfind s.monBegun n = none → Answers (.monStop n) s fun u =>
        s.writes u [.regs, .monEnded] ∧ s.setsFields u [(Reg.MON_CFG_RUN n, 0)] ∧ n.val ∈ u.monEnded) ∧
      (mfind s.monBegun n = none → Answers (.monSnapshot n) s fun u =>
        s.writes u [.regs] ∧ u.get64 (Reg.MON_SNAP_LO n) (Reg.MON_SNAP_HI n) = s.monCount n ∧
        u.get64 (Reg.MON_SNAP_TIME_LO n) (Reg.MON_SNAP_TIME_HI n) = s.sysTime s.now ∧ u.monCount n = s.monCount n))
end

