-- ==== Sys2Proof/Laws/Maps.lean ====
section
/-! SUPPORT. What the map operations do: what a key reads as after each, and that each keeps the keys rising. -/

namespace Sys2Proof.Machine

variable {α : Type}

theorem mget_mins_same (d : Nat → α) (m : SMap α) (k : Nat) (a : α) : mget d (mins m k a) k = a := by
  induction m with
  | nil => simp [mins, mget]
  | cons p m ih =>
    obtain ⟨i, b⟩ := p
    unfold mins
    split
    · simp [mget]
    · split
      · simp [mget]
      · rename_i h1 h2; simp [mget, h2, ih]

theorem mget_mins_other (d : Nat → α) (m : SMap α) {k j : Nat} (a : α) (h : j ≠ k) :
    mget d (mins m k a) j = mget d m j := by
  induction m with
  | nil => simp [mins, mget, h]
  | cons p m ih =>
    obtain ⟨i, b⟩ := p
    unfold mins
    split
    · simp [mget, h]
    · split
      · rename_i h2; subst h2; simp [mget, h]
      · simp [mget, ih]

theorem mget_mdel_same (d : Nat → α) (m : SMap α) (k : Nat) : mget d (mdel m k) k = d k := by
  induction m with
  | nil => simp [mdel, mget]
  | cons p m ih =>
    obtain ⟨i, b⟩ := p
    unfold mdel
    split
    · exact ih
    · rename_i h; simp [mget, h, ih]

theorem mget_mdel_other (d : Nat → α) (m : SMap α) {k j : Nat} (h : j ≠ k) : mget d (mdel m k) j = mget d m j := by
  induction m with
  | nil => simp [mdel]
  | cons p m ih =>
    obtain ⟨i, b⟩ := p
    unfold mdel
    split
    · rename_i h2; subst h2; simp [mget, h, ih]
    · simp [mget, ih]

/-- Reading the key that was set. -/
@[simp] theorem mget_mset_same [DecidableEq α] (d : Nat → α) (m : SMap α) (k : Nat) (a : α) :
    mget d (mset d m k a) k = a := by
  unfold mset; split
  · rename_i h; rw [mget_mdel_same, h]
  · exact mget_mins_same d m k a

/-- Reading another key. -/
theorem mget_mset_other [DecidableEq α] (d : Nat → α) (m : SMap α) {k j : Nat} (a : α) (h : j ≠ k) :
    mget d (mset d m k a) j = mget d m j := by
  unfold mset; split
  · exact mget_mdel_other d m h
  · exact mget_mins_other d m a h

@[simp] theorem mfind_mins_same (m : SMap α) (k : Nat) (a : α) : mfind (mins m k a) k = some a := by
  induction m with
  | nil => simp [mins, mfind]
  | cons p m ih =>
    obtain ⟨i, b⟩ := p
    unfold mins
    split
    · simp [mfind]
    · split
      · simp [mfind]
      · rename_i h1 h2; simp [mfind, h2, ih]

theorem mfind_mins_other (m : SMap α) {k j : Nat} (a : α) (h : j ≠ k) : mfind (mins m k a) j = mfind m j := by
  induction m with
  | nil => simp [mins, mfind, h]
  | cons p m ih =>
    obtain ⟨i, b⟩ := p
    unfold mins
    split
    · simp [mfind, h]
    · split
      · rename_i h2; subst h2; simp [mfind, h]
      · simp [mfind, ih]

@[simp] theorem mfind_mdel_same (m : SMap α) (k : Nat) : mfind (mdel m k) k = none := by
  induction m with
  | nil => simp [mdel, mfind]
  | cons p m ih =>
    obtain ⟨i, b⟩ := p
    unfold mdel
    split
    · exact ih
    · rename_i h; simp [mfind, h, ih]

theorem mfind_mdel_other (m : SMap α) {k j : Nat} (h : j ≠ k) : mfind (mdel m k) j = mfind m j := by
  induction m with
  | nil => simp [mdel]
  | cons p m ih =>
    obtain ⟨i, b⟩ := p
    unfold mdel
    split
    · rename_i h2; subst h2; simp [mfind, h, ih]
    · simp [mfind, ih]

/-! ## Rising keys -/

theorem msorted_mono {b c : Nat} {m : SMap α} (h : msorted c m = true) (hb : b ≤ c) : msorted b m = true := by
  cases m with
  | nil => rfl
  | cons p m =>
    obtain ⟨i, a⟩ := p
    simp only [msorted, Bool.and_eq_true, decide_eq_true_eq] at h ⊢
    exact ⟨Nat.le_trans hb h.1, h.2⟩

theorem msorted_mins {b k : Nat} {m : SMap α} (a : α) (h : msorted b m = true) (hk : b ≤ k) :
    msorted b (mins m k a) = true := by
  induction m generalizing b with
  | nil => simp [mins, msorted, hk]
  | cons p m ih =>
    obtain ⟨i, c⟩ := p
    simp only [msorted, Bool.and_eq_true, decide_eq_true_eq] at h
    unfold mins
    split
    · rename_i hi
      simp only [msorted, Bool.and_eq_true, decide_eq_true_eq]
      exact ⟨hk, hi, h.2⟩
    · split
      · rename_i hi; subst hi
        simp only [msorted, Bool.and_eq_true, decide_eq_true_eq]
        exact ⟨hk, h.2⟩
      · rename_i h1 h2
        simp only [msorted, Bool.and_eq_true, decide_eq_true_eq]
        exact ⟨h.1, ih h.2 (by omega)⟩

theorem msorted_mdel {b k : Nat} {m : SMap α} (h : msorted b m = true) : msorted b (mdel m k) = true := by
  induction m generalizing b with
  | nil => simp [mdel, msorted]
  | cons p m ih =>
    obtain ⟨i, c⟩ := p
    simp only [msorted, Bool.and_eq_true, decide_eq_true_eq] at h
    unfold mdel
    split
    · exact msorted_mono (ih h.2) (by omega)
    · simp only [msorted, Bool.and_eq_true, decide_eq_true_eq]
      exact ⟨h.1, ih h.2⟩

theorem msorted_mset [DecidableEq α] {b k : Nat} (d : Nat → α) {m : SMap α} (a : α) (h : msorted b m = true) (hk : b ≤ k) :
    msorted b (mset d m k a) = true := by
  unfold mset; split
  · exact msorted_mdel h
  · exact msorted_mins a h hk

theorem msorted_mfilter {b : Nat} {m : SMap α} (p : Nat → Bool) (h : msorted b m = true) :
    msorted b (mfilter p m) = true := by
  induction m generalizing b with
  | nil => simp [mfilter, msorted]
  | cons q m ih =>
    obtain ⟨i, c⟩ := q
    simp only [msorted, Bool.and_eq_true, decide_eq_true_eq] at h
    unfold mfilter
    split
    · simp only [msorted, Bool.and_eq_true, decide_eq_true_eq]
      exact ⟨h.1, ih h.2⟩
    · exact msorted_mono (ih h.2) (by omega)

end Sys2Proof.Machine
end

