-- ==== Sys2Proof/Laws/Ops.lean ====
section
/-! SUPPORT. What the named operations of Machine/Ops.lean do: fields of registers, parts of the state, and bytes of memory
after each update. -/

namespace Sys2Proof

/-- A number with a field replaced, cut at the field's bounds. -/
theorem withField_eq (x lo n v : Nat) :
    withField x lo n v = x % 2 ^ lo + v % 2 ^ n * 2 ^ lo + x / 2 ^ (lo + n) * 2 ^ (lo + n) := by
  unfold withField fieldOf
  have h1 := Nat.div_add_mod x (2 ^ lo)
  have h2 := Nat.div_add_mod (x / 2 ^ lo) (2 ^ n)
  have h3 : x / 2 ^ lo / 2 ^ n = x / 2 ^ (lo + n) := by rw [Nat.div_div_eq_div_mul, Nat.pow_add]
  rw [h3] at h2
  have h4 : x = x % 2 ^ lo + (x / 2 ^ lo % 2 ^ n) * 2 ^ lo + x / 2 ^ (lo + n) * 2 ^ (lo + n) := by
    calc x = 2 ^ lo * (x / 2 ^ lo) + x % 2 ^ lo := h1.symm
      _ = 2 ^ lo * (2 ^ n * (x / 2 ^ (lo + n)) + x / 2 ^ lo % 2 ^ n) + x % 2 ^ lo := by rw [h2]
      _ = x % 2 ^ lo + (x / 2 ^ lo % 2 ^ n) * 2 ^ lo + x / 2 ^ (lo + n) * 2 ^ (lo + n) := by rw [Nat.pow_add]; ring
  omega

theorem withField_lt {x lo n w : Nat} (v : Nat) (hx : x < 2 ^ w) (h : lo + n ≤ w) : withField x lo n v < 2 ^ w := by
  rw [withField_eq]
  have h1 : x % 2 ^ lo < 2 ^ lo := Nat.mod_lt _ (Nat.two_pow_pos lo)
  have h2 : v % 2 ^ n < 2 ^ n := Nat.mod_lt _ (Nat.two_pow_pos n)
  have h3 : x / 2 ^ (lo + n) < 2 ^ (w - (lo + n)) := by
    rw [Nat.div_lt_iff_lt_mul (Nat.two_pow_pos _), ← Nat.pow_add]
    rwa [Nat.sub_add_cancel h]
  have h4 : v % 2 ^ n * 2 ^ lo + 2 ^ lo ≤ 2 ^ (lo + n) := by
    rw [Nat.pow_add]
    calc v % 2 ^ n * 2 ^ lo + 2 ^ lo = (v % 2 ^ n + 1) * 2 ^ lo := by ring
      _ ≤ 2 ^ n * 2 ^ lo := Nat.mul_le_mul_right _ h2
      _ = 2 ^ lo * 2 ^ n := Nat.mul_comm _ _
  have h5 : x / 2 ^ (lo + n) * 2 ^ (lo + n) + 2 ^ (lo + n) ≤ 2 ^ w := by
    calc x / 2 ^ (lo + n) * 2 ^ (lo + n) + 2 ^ (lo + n) = (x / 2 ^ (lo + n) + 1) * 2 ^ (lo + n) := by ring
      _ ≤ 2 ^ (w - (lo + n)) * 2 ^ (lo + n) := Nat.mul_le_mul_right _ h3
      _ = 2 ^ w := by rw [← Nat.pow_add, Nat.sub_add_cancel h]
  omega

/-- The field that was replaced. -/
theorem fieldOf_withField_same (x lo n v : Nat) : fieldOf (withField x lo n v) lo n = v % 2 ^ n := by
  rw [withField_eq]; unfold fieldOf
  have e : x % 2 ^ lo + v % 2 ^ n * 2 ^ lo + x / 2 ^ (lo + n) * 2 ^ (lo + n) =
      x % 2 ^ lo + 2 ^ lo * (v % 2 ^ n + 2 ^ n * (x / 2 ^ (lo + n))) := by rw [Nat.pow_add]; ring
  rw [e, Nat.add_mul_div_left _ _ (Nat.two_pow_pos lo), Nat.div_eq_of_lt (Nat.mod_lt _ (Nat.two_pow_pos lo)), Nat.zero_add,
    Nat.add_mul_mod_self_left, Nat.mod_mod]

/-- The bits of a number with a field replaced. -/
theorem testBit_withField (x lo n v i : Nat) :
    (withField x lo n v).testBit i = if lo ≤ i ∧ i < lo + n then v.testBit (i - lo) else x.testBit i := by
  have e : withField x lo n v = 2 ^ lo * (2 ^ n * (x / 2 ^ (lo + n)) + v % 2 ^ n) + x % 2 ^ lo := by
    rw [withField_eq, Nat.pow_add]; ring
  rw [e, Nat.testBit_two_pow_mul_add _ (Nat.mod_lt _ (Nat.two_pow_pos lo)),
    Nat.testBit_two_pow_mul_add _ (Nat.mod_lt _ (Nat.two_pow_pos n)), Nat.testBit_mod_two_pow, Nat.testBit_mod_two_pow,
    Nat.testBit_div_two_pow]
  by_cases h1 : i < lo
  · simp [h1, Nat.not_le.mpr h1]
  · by_cases h2 : i - lo < n
    · simp [h1, h2, Nat.le_of_not_lt h1, show i < lo + n by omega]
    · have h3 : i - lo - n + (lo + n) = i := by omega
      simp [h1, h2, show ¬ i < lo + n by omega, h3]

/-- A field apart from the one that was replaced. -/
theorem fieldOf_withField_apart {lo n lo' n' : Nat} (x v : Nat) (h : lo' + n' ≤ lo ∨ lo + n ≤ lo') :
    fieldOf (withField x lo n v) lo' n' = fieldOf x lo' n' := by
  unfold fieldOf
  apply Nat.eq_of_testBit_eq
  intro i
  rw [Nat.testBit_mod_two_pow, Nat.testBit_mod_two_pow, Nat.testBit_div_two_pow, Nat.testBit_div_two_pow, testBit_withField]
  by_cases hi : i < n'
  · have : ¬ (lo ≤ i + lo' ∧ i + lo' < lo + n) := by omega
    simp [hi, this]
  · simp [hi]

theorem fieldOf_lt (x lo n : Nat) : fieldOf x lo n < 2 ^ n := Nat.mod_lt _ (Nat.two_pow_pos n)

namespace Machine

variable (s : State)

/-! ## Registers -/

@[simp] theorem State.regWord_setRegWord (a : Nat) (w : Word) : (s.setRegWord a w).regWord a = w :=
  mget_mset_same _ _ _ _

theorem State.regWord_setRegWord_other {a b : Nat} (w : Word) (h : b ≠ a) : (s.setRegWord a w).regWord b = s.regWord b :=
  mget_mset_other _ _ _ h

@[simp] theorem State.actWord_setActWord (a : Nat) (w : Word) : (s.setActWord a w).actWord a = w :=
  mget_mset_same _ _ _ _

theorem State.actWord_setActWord_other {a b : Nat} (w : Word) (h : b ≠ a) : (s.setActWord a w).actWord b = s.actWord b :=
  mget_mset_other _ _ _ h

/-- The stored word after a field's update. -/
theorem State.regWord_put (f : Fld) (v : Nat) (hf : f.lo + f.n ≤ 32) :
    ((s.put f v).regWord f.addr).toNat = withField (s.regWord f.addr).toNat f.lo f.n v := by
  unfold State.put
  rw [State.regWord_setRegWord, BitVec.toNat_ofNat]
  exact Nat.mod_eq_of_lt (withField_lt v (s.regWord f.addr).isLt hf)

/-- A field reads as what was put there. -/
theorem State.get_put (f : Fld) (v : Nat) (hf : f.lo + f.n ≤ 32) : (s.put f v).get f = v % 2 ^ f.n := by
  unfold State.get
  rw [State.regWord_put s f v hf, fieldOf_withField_same]

/-- A field of another register reads as before. -/
theorem State.get_put_other {f g : Fld} (v : Nat) (h : g.addr ≠ f.addr) : (s.put f v).get g = s.get g := by
  unfold State.get State.put
  rw [State.regWord_setRegWord_other _ _ h]

/-- Another field of the same register reads as before. -/
theorem State.get_put_apart {f g : Fld} (v : Nat) (ha : g.addr = f.addr) (hf : f.lo + f.n ≤ 32)
    (h : g.lo + g.n ≤ f.lo ∨ f.lo + f.n ≤ g.lo) : (s.put f v).get g = s.get g := by
  unfold State.get
  rw [ha, State.regWord_put s f v hf, fieldOf_withField_apart _ _ h]

/-- Active values do not see a put. -/
@[simp] theorem State.active_put (f g : Fld) (v : Nat) : (s.put f v).active g = s.active g := rfl

/-- Stored values do not see a change of active values. -/
@[simp] theorem State.get_putActive (f g : Fld) (v : Nat) : (s.putActive f v).get g = s.get g := rfl

/-- An active field reads as what was put there. -/
theorem State.active_putActive (f : Fld) (v : Nat) (hf : f.lo + f.n ≤ 32) :
    (s.putActive f v).active f = v % 2 ^ f.n := by
  unfold State.active State.putActive
  rw [State.actWord_setActWord, BitVec.toNat_ofNat,
    Nat.mod_eq_of_lt (withField_lt v (s.actWord f.addr).isLt hf), fieldOf_withField_same]

/-! ## Parts of the state -/

@[simp] theorem State.ctx_setCtx (c : Nat) (x : Ctx) : (s.setCtx c x).ctx c = x := mget_mset_same _ _ _ _
theorem State.ctx_setCtx_other {c d : Nat} (x : Ctx) (h : d ≠ c) : (s.setCtx c x).ctx d = s.ctx d := mget_mset_other _ _ _ h
@[simp] theorem State.tile_setTile (t : Nat) (x : TileSt) : (s.setTile t x).tile t = x := mget_mset_same _ _ _ _
theorem State.tile_setTile_other {t u : Nat} (x : TileSt) (h : u ≠ t) : (s.setTile t x).tile u = s.tile u :=
  mget_mset_other _ _ _ h
@[simp] theorem State.wave_setWave (w : Nat) (x : WavSt) : (s.setWave w x).wave w = x := mget_mset_same _ _ _ _
theorem State.wave_setWave_other {w v : Nat} (x : WavSt) (h : v ≠ w) : (s.setWave w x).wave v = s.wave v :=
  mget_mset_other _ _ _ h
@[simp] theorem State.group_setGroup (g : Nat) (x : GrpSt) : (s.setGroup g x).group g = x := mget_mset_same _ _ _ _
theorem State.group_setGroup_other {g k : Nat} (x : GrpSt) (h : k ≠ g) : (s.setGroup g x).group k = s.group k :=
  mget_mset_other _ _ _ h
@[simp] theorem State.capture_setCapture (c : Nat) (x : CapSt) : (s.setCapture c x).capture c = x := mget_mset_same _ _ _ _
theorem State.capture_setCapture_other {c d : Nat} (x : CapSt) (h : d ≠ c) : (s.setCapture c x).capture d = s.capture d :=
  mget_mset_other _ _ _ h
@[simp] theorem State.latches_setLatches (t : Nat) (x : Latches) : (s.setLatches t x).latches t = x := mget_mset_same _ _ _ _
theorem State.latches_setLatches_other {t u : Nat} (x : Latches) (h : u ≠ t) : (s.setLatches t x).latches u = s.latches u :=
  mget_mset_other _ _ _ h
@[simp] theorem State.store_setStore (i : Nat) (x : Storage) : (s.setStore i x).store i = x := mget_mset_same _ _ _ _
theorem State.store_setStore_other {i j : Nat} (x : Storage) (h : j ≠ i) : (s.setStore i x).store j = s.store j :=
  mget_mset_other _ _ _ h
@[simp] theorem State.seg_setSeg (h : Nat) (x : Seg) : (s.setSeg h x).seg h = some x := mfind_mins_same _ _ _
theorem State.seg_setSeg_other {h k : Nat} (x : Seg) (e : k ≠ h) : (s.setSeg h x).seg k = s.seg k := mfind_mins_other _ _ e

/-! ## Iteration -/

/-- A property that f keeps is kept by f applied to each of 0 to n − 1. -/
theorem forUpto_keeps {P : State → Prop} {f : State → Nat → State} (hf : ∀ s k, P s → P (f s k)) (n : Nat) {s : State}
    (h : P s) : P (forUpto f n s) := by
  induction n with
  | zero => exact h
  | succ n ih => exact hf _ _ ih

/-- A property that f keeps is kept by f applied to each element of a list. -/
theorem forEach_keeps {α : Type} {P : State → Prop} {f : State → α → State} (hf : ∀ s a, P s → P (f s a)) (l : List α)
    {s : State} (h : P s) : P (forEach f l s) := by
  induction l generalizing s with
  | nil => exact h
  | cons a l ih => exact ih (hf _ _ h)

/-! ## Memory -/

@[simp] theorem State.readByte_writeByte (a : Nat) (b : BitVec 8) : (s.writeByte a b).readByte a = some b :=
  mfind_mins_same _ _ _

theorem State.readByte_writeByte_other {a c : Nat} (b : BitVec 8) (h : c ≠ a) :
    (s.writeByte a b).readByte c = s.readByte c := mfind_mins_other _ _ h

/-- A byte outside the last n bytes of a word reads as before their write. -/
theorem State.readByte_writeBytes_other {sid off c : Nat} (v : Nat) (n : Nat)
    (h : ∀ k, k < 9 → c ≠ byteAddr sid off k) : (s.writeBytes sid off v n).readByte c = s.readByte c := by
  induction n generalizing s v with
  | zero => rfl
  | succ n ih =>
    unfold State.writeBytes
    rw [ih, State.readByte_writeByte_other _ _ (h _ (by omega))]

/-- A byte outside a written word reads as before. -/
theorem State.readByte_writeWord_other {sid off c : Nat} (w : Word72) (h : ∀ k, k < 9 → c ≠ byteAddr sid off k) :
    (s.writeWord sid off w).readByte c = s.readByte c := State.readByte_writeBytes_other s _ 9 h

/-- Bytes before the last n of a word read as before their write. -/
theorem State.readByte_writeBytes_before (sid off v n k : Nat) (hn : n ≤ 9) (hk : k + n < 9 ∨ k + n = 8) :
    (s.writeBytes sid off v n).readByte (byteAddr sid off k) = s.readByte (byteAddr sid off k) := by
  induction n generalizing s v with
  | zero => rfl
  | succ n ih =>
    unfold State.writeBytes
    rw [ih _ _ (by omega) (by omega), State.readByte_writeByte_other]
    unfold byteAddr; omega

/-- The last n bytes of a word read as they were written. -/
theorem State.readBytes_writeBytes (sid off v n : Nat) (hn : n ≤ 9) :
    (s.writeBytes sid off v n).readBytes sid off n = some (v % 256 ^ n) := by
  induction n generalizing s v with
  | zero => simp [State.readBytes, Nat.mod_one]
  | succ n ih =>
    unfold State.readBytes State.writeBytes
    rw [ih _ _ (by omega), State.readByte_writeBytes_before _ _ _ _ _ _ (by omega) (by omega), State.readByte_writeByte]
    have h1 : v % 256 + 256 * (v / 256 % 256 ^ n) = v % 256 ^ (n + 1) := by
      rw [Nat.pow_succ', Nat.mod_mul]
    simp [← h1]

/-- A word reads as it was written. -/
theorem State.readWord_writeWord (sid off : Nat) (w : Word72) : (s.writeWord sid off w).readWord sid off = w := by
  unfold State.readWord State.writeWord
  rw [State.readBytes_writeBytes _ _ _ _ _ (Nat.le_refl 9)]
  have h : w.toNat % 256 ^ 9 = w.toNat := Nat.mod_eq_of_lt w.isLt
  rw [h]
  simp

/-- The bytes of another word read as before. -/
theorem State.readBytes_writeWord_other {sid off sid' off' : Nat} (w : Word72) (n : Nat)
    (h : sid' * 2 ^ 34 + off' ≠ sid * 2 ^ 34 + off) (hn : n ≤ 9) :
    (s.writeWord sid off w).readBytes sid' off' n = s.readBytes sid' off' n := by
  induction n with
  | zero => simp only [State.readBytes]
  | succ n ih =>
    have hb : ((s.writeWord sid off w).readByte (byteAddr sid' off' (8 - n))) = s.readByte (byteAddr sid' off' (8 - n)) :=
      State.readByte_writeWord_other _ _ (fun k hk => by unfold byteAddr; omega)
    simp only [State.readBytes, hb, ih (by omega)]

/-- Another word reads as before. -/
theorem State.readWord_writeWord_other {sid off sid' off' : Nat} (w : Word72)
    (h : sid' * 2 ^ 34 + off' ≠ sid * 2 ^ 34 + off) : (s.writeWord sid off w).readWord sid' off' = s.readWord sid' off' := by
  unfold State.readWord
  rw [State.readBytes_writeWord_other _ _ _ h (Nat.le_refl 9)]

/-- A write of a byte keeps the canonical form. -/
theorem State.writeByte_wf {s : State} (a : Nat) (b : BitVec 8) (h : Memory.wf s.mem = true) :
    Memory.wf (s.writeByte a b).mem = true := msorted_mins b h (Nat.zero_le a)

theorem State.writeBytes_wf {s : State} (sid off v n : Nat) (h : Memory.wf s.mem = true) :
    Memory.wf (s.writeBytes sid off v n).mem = true := by
  induction n generalizing s v with
  | zero => exact h
  | succ n ih => exact ih _ (State.writeByte_wf _ _ h)

/-- A write of a word keeps the canonical form. -/
theorem State.writeWord_wf {s : State} (sid off : Nat) (w : Word72) (h : Memory.wf s.mem = true) :
    Memory.wf (s.writeWord sid off w).mem = true := State.writeBytes_wf _ _ _ 9 h

end Machine

end Sys2Proof
end

