-- ==== Sys2Proof/Laws/Parts.lean ====
section
/-! SUPPORT. How claims about which parts of the state an operation writes are built up. -/

namespace Sys2Proof.Machine

theorem State.writes_refl {s : State} {W : List Piece} : s.writes s W := fun p _ => by cases p <;> rfl

theorem State.same_trans {p : Piece} {s t u : State} (h : State.same p s t) (k : State.same p t u) : State.same p s u := by
  cases p <;> exact Eq.trans k h

/-- An operation that writes parts of W, after others that do. -/
theorem State.writes_of {s t u : State} {V W : List Piece} (h : t.writes u V) (hV : ∀ p ∈ V, p ∈ W) (k : s.writes t W) :
    s.writes u W := fun p hp => State.same_trans (k p hp) (h p (fun q => hp (hV p q)))

theorem State.writes_mono {s t : State} {V W : List Piece} (h : s.writes t V) (hV : ∀ p ∈ V, p ∈ W) : s.writes t W :=
  fun p hp => h p (fun q => hp (hV p q))

theorem State.moves_refl {s : State} {W : List Piece} : s.moves s W := ⟨State.writes_refl, id⟩

/-- An operation that moves parts of W, after others that do. -/
theorem State.moves_of {s t u : State} {V W : List Piece} (h : t.moves u V) (hV : ∀ p ∈ V, p ∈ W) (k : s.moves t W) :
    s.moves u W := ⟨State.writes_of h.1 hV k.1, fun w => h.2 (k.2 w)⟩

theorem State.moves_mono {s t : State} {V W : List Piece} (h : s.moves t V) (hV : ∀ p ∈ V, p ∈ W) : s.moves t W :=
  ⟨State.writes_mono h.1 hV, h.2⟩

theorem State.moves_ite {s t u : State} {W : List Piece} {c : Prop} [Decidable c] (ht : s.moves t W) (hu : s.moves u W) :
    s.moves (if c then t else u) W := by
  split
  · exact ht
  · exact hu

/-- An update of several fields of State at once. -/
theorem State.moves_mk {s u : State} {W : List Piece} (h : s.moves u W)
    {a_now : Nat} {a_timeOff : BitVec 64} {a_free : Nat} {a_regs : SMap Word} {a_act : SMap Word} {a_segs : SMap Seg}
    {a_stores : SMap Storage} {a_olds : List OldStore} {a_mem : List Host.Cell} {a_poison : List (Nat × Nat)}
    {a_nextSid : Nat} {a_lows : List Nat} {a_ctxs : SMap Ctx} {a_tiles : SMap TileSt} {a_evt : Events}
    {a_wav : SMap WavSt} {a_grp : SMap GrpSt} {a_cap : SMap CapSt} {a_latch : SMap Latches} {a_xng : Crossing}
    {a_ustore : SMap (BitVec 24)} {a_mon : List Nat} {a_wrote : SMap Word} {a_monBegun : SMap Nat}
    {a_monEnded : List Nat} {a_mc : MemSt} {a_pw : Power} {a_clk : ClkSt} {a_txl : TxlSt} {a_cal : CalSt}
    {a_mram : List Host.Cell} {a_ukey : List Nat}
    (e : ∀ p, p ∉ W → State.same p u
      ⟨u.pending, a_now, a_timeOff, a_free, a_regs, a_act, a_segs, a_stores, a_olds, a_mem, a_poison, a_nextSid,
      a_lows, a_ctxs, a_tiles, a_evt, a_wav, a_grp, a_cap, a_latch, a_xng, a_ustore, a_mon, a_wrote, a_monBegun,
      a_monEnded, a_mc, a_pw, a_clk, a_txl, a_cal, a_mram, a_ukey⟩)
    (m : u.memoriesWf → State.memoriesWf
      ⟨u.pending, a_now, a_timeOff, a_free, a_regs, a_act, a_segs, a_stores, a_olds, a_mem, a_poison, a_nextSid,
      a_lows, a_ctxs, a_tiles, a_evt, a_wav, a_grp, a_cap, a_latch, a_xng, a_ustore, a_mon, a_wrote, a_monBegun,
      a_monEnded, a_mc, a_pw, a_clk, a_txl, a_cal, a_mram, a_ukey⟩) :
    s.moves
      ⟨u.pending, a_now, a_timeOff, a_free, a_regs, a_act, a_segs, a_stores, a_olds, a_mem, a_poison, a_nextSid,
      a_lows, a_ctxs, a_tiles, a_evt, a_wav, a_grp, a_cap, a_latch, a_xng, a_ustore, a_mon, a_wrote, a_monBegun,
      a_monEnded, a_mc, a_pw, a_clk, a_txl, a_cal, a_mram, a_ukey⟩ W :=
  ⟨fun p hp => State.same_trans (h.1 p hp) (e p hp), fun w => m (h.2 w)⟩

theorem moves_forUpto {s u : State} {W : List Piece} {f : State → Nat → State} {n : Nat} (hf : ∀ (u : State) k, u.moves (f u k) W)
    (h : s.moves u W) : s.moves (forUpto f n u) W := by
  induction n with
  | zero => exact h
  | succ n ih => exact State.moves_of (hf _ _) (fun _ q => q) ih

theorem moves_forEach {α : Type} {s u : State} {W : List Piece} {f : State → α → State} {l : List α}
    (hf : ∀ (u : State) a, u.moves (f u a) W) (h : s.moves u W) : s.moves (forEach f l u) W := by
  induction l generalizing u with
  | nil => exact h
  | cons a l ih => exact ih (State.moves_of (hf _ _) (fun _ q => q) h)

theorem State.put_writes {s : State} {f : Fld} {v : Nat} : s.writes (s.put f v) [.regs] := fun p hp => by
  cases p <;> first | rfl | exact absurd (by decide) hp

theorem State.put_moves {s : State} {f : Fld} {v : Nat} : s.moves (s.put f v) [.regs] := ⟨State.put_writes, id⟩

end Sys2Proof.Machine
end

