-- ==== Sys2Proof/Laws/Fields.lean ====
section
/-! SUPPORT. How claims about fields of registers are built up, one update at a time. -/

namespace Sys2Proof.Machine

/-- A field apart from the one that was put reads as before. -/
theorem State.get_put_of_apart (s : State) {F g : Fld} (v : Nat) (hF : F.lo + F.n ≤ 32) (h : g.apart F) :
    (s.put F v).get g = s.get g := by
  by_cases e : g.addr = F.addr
  · exact State.get_put_apart s v e hF (by rcases h with h | h | h <;> [exact absurd e h; exact Or.inl h; exact Or.inr h])
  · exact State.get_put_other s v e

theorem State.keepsFields_refl (s : State) (L : List Fld) : s.keepsFields s L := fun _ _ => rfl

/-- The register file alone decides what the fields read. -/
theorem State.get_congr {s t : State} (h : s.regs = t.regs) (f : Fld) : s.get f = t.get f := by
  unfold State.get State.regWord; rw [h]

theorem State.keepsFields_of_regs {s t : State} (h : t.regs = s.regs) (L : List Fld) : s.keepsFields t L :=
  fun f _ => State.get_congr h f

theorem State.keepsFields.trans {s t u : State} {L M N : List Fld} (h : s.keepsFields t L) (k : t.keepsFields u M)
    (hL : L ⊆ N) (hM : M ⊆ N) : s.keepsFields u N := fun f hf =>
  (k f (fun g hg => hf g (hM hg))).trans (h f (fun g hg => hf g (hL hg)))

theorem State.keepsFields.put {s t : State} {L : List Fld} (h : s.keepsFields t L) (F : Fld) (v : Nat) (hF : F.lo + F.n ≤ 32)
    (hm : F ∈ L) : s.keepsFields (t.put F v) L := fun f hf =>
  (State.get_put_of_apart t v hF (hf F hm)).trans (h f hf)

theorem State.setsFields_refl (s : State) : s.setsFields s [] := ⟨by simp, fun _ _ => rfl⟩

/-- One more field set, apart from those set before. -/
theorem State.setsFields.put {s t : State} {L : List (Fld × Nat)} (h : s.setsFields t L) (F : Fld) (v : Nat)
    (hF : F.lo + F.n ≤ 32) (hv : v < 2 ^ F.n) (hL : ∀ p ∈ L, p.1.apart F) : s.setsFields (t.put F v) (L ++ [(F, v)]) := by
  refine ⟨fun p hp => ?_, fun f hf => ?_⟩
  · rcases List.mem_append.mp hp with hp | hp
    · rw [State.get_put_of_apart t v hF (hL p hp)]; exact h.1 p hp
    · rw [List.mem_singleton.mp hp]
      show (t.put F v).get F = v
      rw [State.get_put t F v hF, Nat.mod_eq_of_lt hv]
  · rw [State.get_put_of_apart t v hF (hf F (by simp))]
    exact h.2 f (fun g hg => hf g (by rw [List.map_append]; exact List.mem_append_left _ hg))

theorem State.setsOnly_refl (s : State) : s.setsOnly s [] := ⟨State.writes_refl, s.setsFields_refl⟩

/-- One more field set, apart from those set before, and nothing else changed. -/
theorem State.setsOnly.put {s t : State} {L : List (Fld × Nat)} (h : s.setsOnly t L) (F : Fld) (v : Nat)
    (hF : F.lo + F.n ≤ 32) (hv : v < 2 ^ F.n) (hL : ∀ p ∈ L, p.1.apart F) : s.setsOnly (t.put F v) (L ++ [(F, v)]) :=
  ⟨State.writes_of State.put_writes (by decide) h.1, h.2.put F v hF hv hL⟩

end Sys2Proof.Machine
end

