-- ==== Sys2Proof/Laws/MovesSequencer.lean ====
section
/-! SUPPORT. What each operation can change of the state (X_moves: the parts it may write; every other part is as before, and
the memories keep their canonical form): the shared operations, references, landing runs, the
run-ahead, recordings, the pattern engine, the sequence instructions and the commits. -/

namespace Sys2Proof.Machine

/-- The next state of an outcome that is one. -/
theorem nextOr_next (s t : State) : nextOr s (.next t) = t := rfl

theorem State.setRegWord_moves {s : State} {x1 : ℕ} {x2 : Word} :
    s.moves (State.setRegWord s x1 x2) [.regs] := by
  unfold State.setRegWord
  with_reducible apply State.moves_mk
  on_goal 2 => exact fun p hp => by cases p <;> first | rfl | exact absurd (by decide) hp
  on_goal 2 => exact id
  exact State.moves_refl

theorem State.setActWord_moves {s : State} {x1 : ℕ} {x2 : Word} :
    s.moves (State.setActWord s x1 x2) [.act] := by
  unfold State.setActWord
  with_reducible apply State.moves_mk
  on_goal 2 => exact fun p hp => by cases p <;> first | rfl | exact absurd (by decide) hp
  on_goal 2 => exact id
  exact State.moves_refl

theorem State.putActive_moves {s : State} {x1 : Fld} {x2 : ℕ} :
    s.moves (State.putActive s x1 x2) [.act] := by
  unfold State.putActive
  exact State.moves_of State.setActWord_moves (by decide) State.moves_refl

theorem State.bump_moves {s : State} {x1 : Fld} {x2 : optParam ℕ 1} :
    s.moves (State.bump s x1 x2) [.regs] := by
  unfold State.bump
  exact State.moves_of State.put_moves (by decide) State.moves_refl

theorem State.put64_moves {s : State} {x1 : Fld} {x2 : Fld} {x3 : ℕ} :
    s.moves (State.put64 s x1 x2 x3) [.regs] := by
  unfold State.put64
  refine State.moves_of State.put_moves (by decide) ?_
  exact State.moves_of State.put_moves (by decide) State.moves_refl

theorem State.setCtx_moves {s : State} {x1 : ℕ} {x2 : Ctx} :
    s.moves (State.setCtx s x1 x2) [.ctxs] := by
  unfold State.setCtx
  with_reducible apply State.moves_mk
  on_goal 2 => exact fun p hp => by cases p <;> first | rfl | exact absurd (by decide) hp
  on_goal 2 => exact id
  exact State.moves_refl

theorem State.setTile_moves {s : State} {x1 : ℕ} {x2 : TileSt} :
    s.moves (State.setTile s x1 x2) [.tiles] := by
  unfold State.setTile
  with_reducible apply State.moves_mk
  on_goal 2 => exact fun p hp => by cases p <;> first | rfl | exact absurd (by decide) hp
  on_goal 2 => exact id
  exact State.moves_refl

theorem State.setWave_moves {s : State} {x1 : ℕ} {x2 : WavSt} :
    s.moves (State.setWave s x1 x2) [.wav] := by
  unfold State.setWave
  with_reducible apply State.moves_mk
  on_goal 2 => exact fun p hp => by cases p <;> first | rfl | exact absurd (by decide) hp
  on_goal 2 => exact id
  exact State.moves_refl

theorem State.setGroup_moves {s : State} {x1 : ℕ} {x2 : GrpSt} :
    s.moves (State.setGroup s x1 x2) [.grp] := by
  unfold State.setGroup
  with_reducible apply State.moves_mk
  on_goal 2 => exact fun p hp => by cases p <;> first | rfl | exact absurd (by decide) hp
  on_goal 2 => exact id
  exact State.moves_refl

theorem State.setCapture_moves {s : State} {x1 : ℕ} {x2 : CapSt} :
    s.moves (State.setCapture s x1 x2) [.cap] := by
  unfold State.setCapture
  with_reducible apply State.moves_mk
  on_goal 2 => exact fun p hp => by cases p <;> first | rfl | exact absurd (by decide) hp
  on_goal 2 => exact id
  exact State.moves_refl

theorem State.setLatches_moves {s : State} {x1 : ℕ} {x2 : Latches} :
    s.moves (State.setLatches s x1 x2) [.latch] := by
  unfold State.setLatches
  with_reducible apply State.moves_mk
  on_goal 2 => exact fun p hp => by cases p <;> first | rfl | exact absurd (by decide) hp
  on_goal 2 => exact id
  exact State.moves_refl

theorem State.setStore_moves {s : State} {x1 : ℕ} {x2 : Storage} :
    s.moves (State.setStore s x1 x2) [.stores] := by
  unfold State.setStore
  with_reducible apply State.moves_mk
  on_goal 2 => exact fun p hp => by cases p <;> first | rfl | exact absurd (by decide) hp
  on_goal 2 => exact id
  exact State.moves_refl

theorem State.setSeg_moves {s : State} {x1 : ℕ} {x2 : Seg} :
    s.moves (State.setSeg s x1 x2) [.segs] := by
  unfold State.setSeg
  with_reducible apply State.moves_mk
  on_goal 2 => exact fun p hp => by cases p <;> first | rfl | exact absurd (by decide) hp
  on_goal 2 => exact id
  exact State.moves_refl

theorem State.monMark_moves {s : State} {x1 : ℕ} :
    s.moves (State.monMark s x1) [.mon] := by
  unfold State.monMark
  apply State.moves_ite ?_ ?_
  exact State.moves_refl
  with_reducible apply State.moves_mk
  on_goal 2 => exact fun p hp => by cases p <;> first | rfl | exact absurd (by decide) hp
  on_goal 2 => exact id
  exact State.moves_refl

theorem State.drawFree_moves2 {s : State} :
    s.moves (State.drawFree s).2 [.free] := by
  unfold State.drawFree
  exact State.moves_mk State.moves_refl (fun p hp => by cases p <;> first | rfl | exact absurd (by decide) hp) id

theorem State.drawFree_moves {s : State} {u : State} {y : Word72} (h : State.drawFree s = (y, u)) :
    s.moves u [.free] := by
  have e : (State.drawFree s).2 = u := by rw [h]
  rw [← e]; exact State.drawFree_moves2

theorem State.writeByte_moves {s : State} {x1 : ℕ} {x2 : BitVec 8} :
    s.moves (State.writeByte s x1 x2) [.mem] := by
  unfold State.writeByte
  with_reducible apply State.moves_mk
  on_goal 2 => exact fun p hp => by cases p <;> first | rfl | exact absurd (by decide) hp
  on_goal 2 => exact fun w => ⟨msorted_mins _ w.1 (Nat.zero_le _), w.2⟩
  exact State.moves_refl

theorem State.writeBytes_moves {s : State} {x1 : ℕ} {x2 : ℕ} {x3 : ℕ} {x4 : ℕ} :
    s.moves (State.writeBytes s x1 x2 x3 x4) [.mem] := by
  fun_induction State.writeBytes s x1 x2 x3 x4
  exact State.moves_refl
  refine State.moves_of (V := [.mem]) (by assumption) (fun _ h => h) ?_
  exact State.moves_of State.writeByte_moves (by decide) State.moves_refl

theorem State.writeWord_moves {s : State} {x1 : ℕ} {x2 : ℕ} {x3 : Word72} :
    s.moves (State.writeWord s x1 x2 x3) [.mem] := by
  unfold State.writeWord
  exact State.moves_of State.writeBytes_moves (by decide) State.moves_refl

theorem State.markBegun_moves {s : State} {x1} {x2} :
    s.moves (State.markBegun s x1 x2) [.evt] := by
  unfold State.markBegun
  with_reducible apply State.moves_mk
  on_goal 2 => exact fun p hp => by cases p <;> first | rfl | exact absurd (by decide) hp
  on_goal 2 => exact id
  exact State.moves_refl

theorem State.noted_moves {s : State} {x1 : ℕ} : s.moves (State.noted s x1) [.wrote] := by
  unfold State.noted
  apply State.moves_ite ?_ ?_
  exact State.moves_refl
  with_reducible apply State.moves_mk
  on_goal 2 => exact fun p hp => by cases p <;> first | rfl | exact absurd (by decide) hp
  on_goal 2 => exact id
  exact State.moves_refl

theorem State.plainWrite_moves {s : State} {x1} {x2} :
    s.moves (State.plainWrite s x1 x2) [.regs, .evt, .wrote] := by
  unfold State.plainWrite
  split
  extract_lets +onlyGivenNames x
  clear_value x
  refine State.moves_of State.markBegun_moves (by decide) ?_
  refine State.moves_of State.setRegWord_moves (by decide) ?_
  exact State.moves_of State.noted_moves (by decide) State.moves_refl
  exact State.moves_of State.put_moves (by decide) State.moves_refl

theorem State.collide_moves {s : State} {x1 : ℕ} :
    s.moves (State.collide s x1) [.regs] := by
  unfold State.collide
  refine State.moves_of State.put_moves (by decide) ?_
  exact State.moves_of State.put_moves (by decide) State.moves_refl

theorem State.lockedWrite_moves {s : State} :
    s.moves (State.lockedWrite s) [.regs] := by
  unfold State.lockedWrite
  refine State.moves_of State.bump_moves (by decide) ?_
  exact State.moves_of State.put_moves (by decide) State.moves_refl

theorem State.guarded_moves {s : State} {x1 : State → State} {W : List Piece} (hV : ∀ p ∈ ([.regs] : List Piece), p ∈
    W) (hf : ∀ (u : State), u.moves (x1 u) W) :
    s.moves (State.guarded s x1) W := by
  unfold State.guarded
  apply State.moves_ite ?_ ?_
  apply State.moves_of (hf _) (fun _ h => h) ?_
  apply State.moves_of State.put_moves ?_ ?_
  assumption
  exact State.moves_refl
  apply State.moves_of State.lockedWrite_moves ?_ ?_
  assumption
  exact State.moves_refl

theorem State.activate_moves {s : State} {x1} {x2} :
    s.moves (State.activate s x1 x2) [.mc] := by
  unfold State.activate
  extract_lets +onlyGivenNames x
  clear_value x
  extract_lets +onlyGivenNames x
  clear_value x
  extract_lets +onlyGivenNames x
  clear_value x
  with_reducible apply State.moves_mk
  on_goal 2 => exact fun p hp => by cases p <;> first | rfl | exact absurd (by decide) hp
  on_goal 2 => exact id
  exact State.moves_refl

theorem State.rowUse_moves {s : State} {x1} {x2} :
    s.moves (State.rowUse s x1 x2) [.mc] := by
  unfold State.rowUse
  apply State.moves_ite ?_ ?_
  exact State.moves_refl
  exact State.moves_of State.activate_moves (by decide) State.moves_refl

theorem State.bankRefreshed_moves {s : State} {x1} :
    s.moves (State.bankRefreshed s x1) [.mc] := by
  unfold State.bankRefreshed
  with_reducible apply State.moves_mk
  on_goal 2 => exact fun p hp => by cases p <;> first | rfl | exact absurd (by decide) hp
  on_goal 2 => exact id
  exact State.moves_refl

theorem State.ranksRefreshed_moves {s : State} {x1} :
    s.moves (State.ranksRefreshed s x1) [.mc] := by
  unfold State.ranksRefreshed
  with_reducible apply State.moves_mk
  on_goal 2 => exact fun p hp => by cases p <;> first | rfl | exact absurd (by decide) hp
  on_goal 2 => exact id
  exact State.moves_refl

theorem State.memWake_moves {s : State} :
    s.moves (State.memWake s) [.mc] := by
  unfold State.memWake
  with_reducible apply State.moves_mk
  on_goal 2 => exact fun p hp => by cases p <;> first | rfl | exact absurd (by decide) hp
  on_goal 2 => exact id
  exact State.moves_refl

theorem State.lineUse_moves {s : State} {x1} {x2} :
    s.moves (State.lineUse s x1 x2) [.mc] := by
  unfold State.lineUse
  split
  exact State.moves_refl
  extract_lets +onlyGivenNames x
  clear_value x
  refine State.moves_of State.rowUse_moves (by decide) ?_
  exact State.moves_of State.memWake_moves (by decide) State.moves_refl

theorem State.wordsUse_moves {s : State} {x1} {x2} {x3} :
    s.moves (State.wordsUse s x1 x2 x3) [.mc] := by
  unfold State.wordsUse
  apply State.moves_ite ?_ ?_
  exact State.moves_refl
  refine moves_forUpto (fun u _ => ?_) ?_
  exact State.moves_of State.lineUse_moves (by decide) State.moves_refl
  exact State.moves_refl

theorem State.storeWord_moves {s : State} {x1} {x2} {x3} :
    s.moves (State.storeWord s x1 x2 x3) [.mem, .mc] := by
  unfold State.storeWord
  refine State.moves_of State.lineUse_moves (by decide) ?_
  exact State.moves_of State.writeWord_moves (by decide) State.moves_refl

theorem State.setCnt_moves {s : State} {x1 : ℕ} {x2 : ℕ} {x3 : ℕ} :
    s.moves (State.setCnt s x1 x2 x3) [.regs] := by
  unfold State.setCnt
  exact State.moves_of State.put_moves (by decide) State.moves_refl

theorem State.occur_moves {s : State} {x1 : ℕ} {x2 : ℕ} {x3 : Ts} :
    s.moves (State.occur s x1 x2 x3) [.evt] := by
  unfold State.occur
  extract_lets +onlyGivenNames x
  clear_value x
  with_reducible apply State.moves_mk
  on_goal 2 => exact fun p hp => by cases p <;> first | rfl | exact absurd (by decide) hp
  on_goal 2 => exact id
  exact State.moves_refl

theorem State.logWrite_moves {s : State} {x1 : LogEnt} :
    s.moves (State.logWrite s x1) [.regs, .evt] := by
  unfold State.logWrite
  apply State.moves_ite ?_ ?_
  refine State.moves_of State.put_moves (by decide) ?_
  extract_lets +onlyGivenNames x
  clear_value x
  split
  with_reducible apply State.moves_mk
  on_goal 2 => exact fun p hp => by cases p <;> first | rfl | exact absurd (by decide) hp
  on_goal 2 => exact id
  exact State.moves_of State.put_moves (by decide) State.moves_refl
  with_reducible apply State.moves_mk
  on_goal 2 => exact fun p hp => by cases p <;> first | rfl | exact absurd (by decide) hp
  on_goal 2 => exact id
  exact State.moves_refl
  exact State.moves_refl

theorem State.alarm_moves {s : State} {x1 : ℕ} {x2 : ℕ} :
    s.moves (State.alarm s x1 x2) [.xng] := by
  unfold State.alarm
  apply State.moves_ite ?_ ?_
  extract_lets +onlyGivenNames x
  clear_value x
  with_reducible apply State.moves_mk
  on_goal 2 => exact fun p hp => by cases p <;> first | rfl | exact absurd (by decide) hp
  on_goal 2 => exact id
  exact State.moves_refl
  extract_lets +onlyGivenNames x
  clear_value x
  with_reducible apply State.moves_mk
  on_goal 2 => exact fun p hp => by cases p <;> first | rfl | exact absurd (by decide) hp
  on_goal 2 => exact id
  exact State.moves_refl

theorem State.notify_moves {s : State} {x1 : Ts} {x2 : ℕ} {x3 : Bool} :
    s.moves (State.notify s x1 x2 x3) [.xng] := by
  unfold State.notify
  apply State.moves_ite ?_ ?_
  extract_lets +onlyGivenNames x
  clear_value x
  with_reducible apply State.moves_mk
  on_goal 2 => exact fun p hp => by cases p <;> first | rfl | exact absurd (by decide) hp
  on_goal 2 => exact id
  exact State.moves_refl
  extract_lets +onlyGivenNames x
  clear_value x
  with_reducible apply State.moves_mk
  on_goal 2 => exact fun p hp => by cases p <;> first | rfl | exact absurd (by decide) hp
  on_goal 2 => exact id
  exact State.moves_refl

theorem State.signalVec_moves {s : State} {x1 : ℕ} :
    s.moves (State.signalVec s x1) [.xng] := by
  unfold State.signalVec
  extract_lets +onlyGivenNames x
  clear_value x
  with_reducible apply State.moves_mk
  on_goal 2 => exact fun p hp => by cases p <;> first | rfl | exact absurd (by decide) hp
  on_goal 2 => exact id
  exact State.moves_refl

theorem State.takeSlot_moves {s : State} {x1} {x2} {u : State} {y0} (h : State.takeSlot s x1 x2 = some (y0, u)) :
    s.moves u [.tiles] := by
  unfold State.takeSlot at h
  revert h
  extract_lets +onlyGivenNames x
  clear_value x
  split
  intro h; cases h
  exact State.moves_refl
  split
  intro h; cases h
  intro h; cases h
  exact State.moves_of State.setTile_moves (by decide) State.moves_refl

theorem State.releaseSlots_moves {s : State} {x1 : ℕ} :
    s.moves (State.releaseSlots s x1) [.tiles] := by
  unfold State.releaseSlots
  exact State.moves_of State.setTile_moves (by decide) State.moves_refl

theorem State.refillSlot_moves {s : State} {x1} {x2} {x3} :
    s.moves (State.refillSlot s x1 x2 x3) [.tiles] := by
  unfold State.refillSlot
  extract_lets +onlyGivenNames x
  clear_value x
  exact State.moves_of State.setTile_moves (by decide) State.moves_refl

theorem State.setSlot_moves {s : State} {x1} {x2} {x3} :
    s.moves (State.setSlot s x1 x2 x3) [.ctxs] := by
  unfold State.setSlot
  exact State.moves_of State.setCtx_moves (by decide) State.moves_refl

theorem State.relandSwitch_moves {s : State} {x1} {x2} {x3} :
    s.moves (State.relandSwitch s x1 x2 x3) [.ctxs, .tiles] := by
  unfold State.relandSwitch
  extract_lets +onlyGivenNames x
  clear_value x
  split
  exact State.moves_of State.setSlot_moves (by decide) State.moves_refl
  extract_lets +onlyGivenNames x
  clear_value x
  split
  apply State.moves_ite ?_ ?_
  exact State.moves_refl
  apply State.moves_ite ?_ ?_
  exact State.moves_of State.refillSlot_moves (by decide) State.moves_refl
  split
  exact State.moves_of State.setSlot_moves (by decide) State.moves_refl
  refine State.moves_of State.setSlot_moves (by decide) ?_
  exact State.moves_of (State.takeSlot_moves ‹_›) (by decide) State.moves_refl
  split
  exact State.moves_of State.setSlot_moves (by decide) State.moves_refl
  refine State.moves_of State.setSlot_moves (by decide) ?_
  exact State.moves_of (State.takeSlot_moves ‹_›) (by decide) State.moves_refl

theorem State.relandArms_moves {s : State} {x1} {x2} :
    s.moves (State.relandArms s x1 x2) [.ctxs, .tiles] := by
  unfold State.relandArms
  refine moves_forEach (fun u _ => ?_) ?_
  apply State.moves_ite ?_ ?_
  refine moves_forEach (fun u _ => ?_) ?_
  apply State.moves_ite ?_ ?_
  exact State.moves_of State.relandSwitch_moves (by decide) State.moves_refl
  exact State.moves_refl
  exact State.moves_refl
  exact State.moves_refl
  exact State.moves_refl

theorem State.retrySwitch_moves {s : State} {x1 : ℕ} :
    s.moves (State.retrySwitch s x1) [.ctxs, .tiles] := by
  unfold State.retrySwitch
  refine moves_forEach (fun _ _ => ?_) ?_
  apply State.moves_ite ?_ ?_
  refine moves_forEach (fun _ _ => ?_) ?_
  apply State.moves_ite ?_ ?_
  exact State.moves_of State.relandSwitch_moves (by decide) State.moves_refl
  exact State.moves_refl
  exact State.moves_refl
  exact State.moves_refl
  exact State.moves_refl

theorem State.gcSlots_moves {s : State} {x1 : ℕ} :
    s.moves (State.gcSlots s x1) [.ctxs, .tiles] := by
  unfold State.gcSlots
  apply State.moves_ite ?_ ?_
  refine State.moves_of State.retrySwitch_moves (by decide) ?_
  exact State.moves_of State.releaseSlots_moves (by decide) State.moves_refl
  exact State.moves_of State.releaseSlots_moves (by decide) State.moves_refl

theorem State.refillSwitch_moves {s : State} {x1} {x2} :
    s.moves (State.refillSwitch s x1 x2) [.ctxs, .tiles] := by
  unfold State.refillSwitch
  refine State.moves_of State.gcSlots_moves (by decide) ?_
  exact State.moves_of State.relandArms_moves (by decide) State.moves_refl

theorem State.land_moves1 {s : State} {x1} {x2} :
    s.moves (State.land s x1 x2).1 [.tiles] := by
  unfold State.land
  split
  dsimp -zeta only
  exact State.moves_refl
  dsimp -zeta only
  exact State.moves_refl
  split
  dsimp -zeta only
  exact State.moves_refl
  dsimp -zeta only
  exact State.moves_of (State.takeSlot_moves ‹_›) (by decide) State.moves_refl

theorem State.land_moves {s : State} {x1} {x2} {u : State} {y0} (h : State.land s x1 x2 = (u, y0)) :
    s.moves u [.tiles] := by
  have e : (State.land s x1 x2).1 = u := by rw [h]
  rw [← e]; exact State.land_moves1

theorem State.landArm_moves1 {s : State} {x1} {x2} :
    s.moves (State.landArm s x1 x2).1 [.tiles] := by
  unfold State.landArm
  exact State.moves_of State.land_moves1 (by decide) State.moves_refl

theorem State.landArm_moves {s : State} {x1} {x2} {u : State} {y0} (h : State.landArm s x1 x2 = (u, y0)) :
    s.moves u [.tiles] := by
  have e : (State.landArm s x1 x2).1 = u := by rw [h]
  rw [← e]; exact State.landArm_moves1

theorem State.landHandler_moves1 {s : State} {x1} {x2} :
    s.moves (State.landHandler s x1 x2).1 [.tiles] := by
  unfold State.landHandler
  split
  dsimp -zeta only
  exact State.moves_refl
  exact State.moves_of State.land_moves1 (by decide) State.moves_refl

theorem State.landHandler_moves {s : State} {x1} {x2} {u : State} {y0} (h : State.landHandler s x1 x2 = (u, y0)) :
    s.moves u [.tiles] := by
  have e : (State.landHandler s x1 x2).1 = u := by rw [h]
  rw [← e]; exact State.landHandler_moves1

theorem State.setAhead_moves {s : State} {x1} {x2} :
    s.moves (State.setAhead s x1 x2) [.tiles] := by
  unfold State.setAhead
  exact State.moves_of State.setTile_moves (by decide) State.moves_refl

theorem State.popAhead_moves {s : State} {x1} {x2} :
    s.moves (State.popAhead s x1 x2) [.tiles] := by
  unfold State.popAhead
  split
  exact State.moves_of State.setAhead_moves (by decide) State.moves_refl
  exact State.moves_of State.setAhead_moves (by decide) State.moves_refl

theorem State.cacheLine_moves {s : State} {x1} {x2} {x3} :
    s.moves (State.cacheLine s x1 x2 x3) [.tiles, .mc] := by
  unfold State.cacheLine
  extract_lets +onlyGivenNames x
  clear_value x
  extract_lets +onlyGivenNames x
  clear_value x
  refine State.moves_of State.setTile_moves (by decide) ?_
  apply State.moves_ite ?_ ?_
  exact State.moves_refl
  exact State.moves_of State.lineUse_moves (by decide) State.moves_refl

theorem State.resolved_moves {s : State} {x1} {x2} {x3} {x4} {x5} {x6} {x7} :
    s.moves (State.resolved s x1 x2 x3 x4 x5 x6 x7) [.tiles] := by
  unfold State.resolved
  extract_lets +onlyGivenNames x
  clear_value x
  exact State.moves_of State.setAhead_moves (by decide) State.moves_refl

theorem State.aheadStep_moves {s : State} {x1} {x2} :
    s.moves (State.aheadStep s x1 x2) [.tiles, .mc] := by
  unfold State.aheadStep
  extract_lets +onlyGivenNames x
  clear_value x
  extract_lets +onlyGivenNames x
  clear_value x
  extract_lets +onlyGivenNames x
  clear_value x
  apply State.moves_ite ?_ ?_
  exact State.moves_of State.setAhead_moves (by decide) State.moves_refl
  extract_lets +onlyGivenNames x
  refine (fun (hx : s.moves x [.tiles, .mc]) => ?_) ?_
  on_goal 2 => unfold x
  clear_value x
  split
  extract_lets +onlyGivenNames x
  clear_value x
  exact State.moves_of State.resolved_moves (by decide) (by assumption)
  extract_lets +onlyGivenNames x
  clear_value x
  exact State.moves_of State.resolved_moves (by decide) (by assumption)
  extract_lets +onlyGivenNames x
  refine (fun (hx : s.moves x.1 [.tiles, .mc]) => ?_) ?_
  on_goal 2 => unfold x
  clear_value x
  exact State.moves_of State.resolved_moves (by decide) (by assumption)
  exact State.moves_of State.landArm_moves1 (by decide) (by assumption)
  extract_lets +onlyGivenNames x
  clear_value x
  apply State.moves_ite ?_ ?_
  exact State.moves_of State.resolved_moves (by decide) (by assumption)
  extract_lets +onlyGivenNames x
  refine (fun (hx : s.moves x.1 [.tiles, .mc]) => ?_) ?_
  on_goal 2 => unfold x
  clear_value x
  exact State.moves_of State.resolved_moves (by decide) (by assumption)
  exact State.moves_of State.landHandler_moves1 (by decide) (by assumption)
  exact State.moves_of State.resolved_moves (by decide) (by assumption)
  exact State.moves_of State.cacheLine_moves (by decide) State.moves_refl

theorem State.aheadTick_moves {s : State} {x1} :
    s.moves (State.aheadTick s x1) [.tiles, .mc] := by
  unfold State.aheadTick
  extract_lets +onlyGivenNames x
  clear_value x
  split
  exact State.moves_refl
  apply State.moves_ite ?_ ?_
  exact State.moves_refl
  extract_lets +onlyGivenNames x
  clear_value x
  apply State.moves_ite ?_ ?_
  exact State.moves_refl
  exact State.moves_of State.aheadStep_moves (by decide) State.moves_refl

theorem State.setRec_moves {s : State} {x1 : ℕ} {x2 : Option Recd} :
    s.moves (State.setRec s x1 x2) [.grp, .cap] := by
  unfold State.setRec
  apply State.moves_ite ?_ ?_
  exact State.moves_of State.setCapture_moves (by decide) State.moves_refl
  exact State.moves_of State.setGroup_moves (by decide) State.moves_refl

theorem State.recStatus_moves {s : State} {x1 : ℕ} {x2 : Sts} :
    s.moves (State.recStatus s x1 x2) [.regs] := by
  unfold State.recStatus
  apply State.moves_ite ?_ ?_
  exact State.moves_of State.put_moves (by decide) State.moves_refl
  refine State.moves_of State.put_moves (by decide) ?_
  exact State.moves_of State.put_moves (by decide) State.moves_refl

theorem State.setDrains_moves {s : State} {x1} {x2} :
    s.moves (State.setDrains s x1 x2) [.grp, .cap] := by
  unfold State.setDrains
  apply State.moves_ite ?_ ?_
  exact State.moves_of State.setCapture_moves (by decide) State.moves_refl
  exact State.moves_of State.setGroup_moves (by decide) State.moves_refl

theorem State.recStart_moves {s : State} {x1} :
    s.moves (State.recStart s x1) [.regs, .grp, .cap, .mc] := by
  unfold State.recStart
  split
  exact State.moves_of State.recStatus_moves (by decide) State.moves_refl
  extract_lets +onlyGivenNames x
  refine (fun (hx : s.moves x [.regs, .grp, .cap, .mc]) => ?_) ?_
  on_goal 2 => unfold x
  clear_value x
  extract_lets +onlyGivenNames x
  clear_value x
  refine State.moves_of State.memWake_moves (by decide) ?_
  refine State.moves_of State.put_moves (by decide) ?_
  refine State.moves_of State.recStatus_moves (by decide) ?_
  exact State.moves_of State.setRec_moves (by decide) (by assumption)
  exact State.moves_of State.setDrains_moves (by decide) State.moves_refl

theorem State.recUnit_moves {s : State} {x1} {x2} {x3} {x4} :
    s.moves (State.recUnit s x1 x2 x3 x4) [.regs, .mem, .grp, .cap, .mc] := by
  unfold State.recUnit
  split
  exact State.moves_refl
  apply State.moves_ite ?_ ?_
  exact State.moves_refl
  extract_lets +onlyGivenNames x
  clear_value x
  extract_lets +onlyGivenNames x
  clear_value x
  extract_lets +onlyGivenNames x
  clear_value x
  extract_lets +onlyGivenNames x
  refine (fun (hx : s.moves x [.regs, .mem, .grp, .cap, .mc]) => ?_) ?_
  on_goal 2 => unfold x
  clear_value x
  extract_lets +onlyGivenNames x
  refine (fun (hx : s.moves x [.regs, .mem, .grp, .cap, .mc]) => ?_) ?_
  on_goal 2 => unfold x
  clear_value x
  apply State.moves_ite ?_ ?_
  assumption
  exact State.moves_of State.put_moves (by decide) (by assumption)
  exact State.moves_of State.setRec_moves (by decide) (by assumption)
  apply State.moves_ite ?_ ?_
  exact State.moves_of State.storeWord_moves (by decide) State.moves_refl
  exact State.moves_refl

theorem State.recTrigger_moves {s : State} {x1 : ℕ} {x2 : Ts} :
    s.moves (State.recTrigger s x1 x2) [.regs, .grp, .cap] := by
  unfold State.recTrigger
  split
  exact State.moves_refl
  apply State.moves_ite ?_ ?_
  exact State.moves_refl
  apply State.moves_ite ?_ ?_
  refine State.moves_of State.put_moves (by decide) ?_
  exact State.moves_of State.setRec_moves (by decide) State.moves_refl
  exact State.moves_of State.put_moves (by decide) State.moves_refl

theorem State.recEnd_moves {s : State} {x1} {x2} :
    s.moves (State.recEnd s x1 x2) [.regs, .stores, .mem, .grp, .cap, .mc] := by
  unfold State.recEnd
  split
  exact State.moves_refl
  apply State.moves_ite ?_ ?_
  exact State.moves_refl
  extract_lets +onlyGivenNames x
  clear_value x
  extract_lets +onlyGivenNames x
  clear_value x
  extract_lets +onlyGivenNames x
  refine (fun (hx : s.moves x [.regs, .stores, .mem, .grp, .cap, .mc]) => ?_) ?_
  on_goal 2 => unfold x
  clear_value x
  extract_lets +onlyGivenNames x
  clear_value x
  extract_lets +onlyGivenNames x
  refine (fun (hx : s.moves x [.regs, .stores, .mem, .grp, .cap, .mc]) => ?_) ?_
  on_goal 2 => unfold x
  clear_value x
  extract_lets +onlyGivenNames x
  refine (fun (hx : s.moves x [.regs, .stores, .mem, .grp, .cap, .mc]) => ?_) ?_
  on_goal 2 => unfold x
  clear_value x
  extract_lets +onlyGivenNames x
  refine (fun (hx : s.moves x [.regs, .stores, .mem, .grp, .cap, .mc]) => ?_) ?_
  on_goal 2 => unfold x
  clear_value x
  extract_lets +onlyGivenNames x
  clear_value x
  extract_lets +onlyGivenNames x
  refine (fun (hx : s.moves x [.regs, .stores, .mem, .grp, .cap, .mc]) => ?_) ?_
  on_goal 2 => unfold x
  clear_value x
  refine State.moves_of State.recStatus_moves (by decide) ?_
  exact State.moves_of State.setRec_moves (by decide) (by assumption)
  exact State.moves_of State.setStore_moves (by decide) (by assumption)
  split
  assumption
  refine State.moves_of State.put_moves (by decide) ?_
  exact State.moves_of State.put64_moves (by decide) (by assumption)
  exact State.moves_of State.put64_moves (by decide) (by assumption)
  exact State.moves_of State.put64_moves (by decide) (by assumption)
  apply State.moves_ite ?_ ?_
  exact State.moves_refl
  exact State.moves_of State.storeWord_moves (by decide) State.moves_refl

theorem State.markStop_moves {s : State} {x1} :
    s.moves (State.markStop s x1) [.grp, .cap] := by
  unfold State.markStop
  apply State.moves_ite ?_ ?_
  exact State.moves_of State.setCapture_moves (by decide) State.moves_refl
  exact State.moves_of State.setGroup_moves (by decide) State.moves_refl

theorem State.recStop_moves {s : State} {x1} :
    s.moves (State.recStop s x1) [.regs, .stores, .mem, .grp, .cap, .mc] := by
  unfold State.recStop
  split
  exact State.moves_refl
  apply State.moves_ite ?_ ?_
  exact State.moves_refl
  apply State.moves_ite ?_ ?_
  exact State.moves_of State.recEnd_moves (by decide) State.moves_refl
  split
  apply State.moves_ite ?_ ?_
  exact State.moves_of State.setRec_moves (by decide) State.moves_refl
  exact State.moves_of State.recEnd_moves (by decide) State.moves_refl
  exact State.moves_of State.recEnd_moves (by decide) State.moves_refl

theorem State.recHalt_moves {s : State} {x1} :
    s.moves (State.recHalt s x1) [.regs, .stores, .mem, .grp, .cap, .mc] := by
  unfold State.recHalt
  extract_lets +onlyGivenNames x
  refine (fun (hx : s.moves x [.regs, .stores, .mem, .grp, .cap, .mc]) => ?_) ?_
  on_goal 2 => unfold x
  clear_value x
  split
  apply State.moves_ite ?_ ?_
  extract_lets +onlyGivenNames x
  refine (fun (hx : s.moves x [.regs, .stores, .mem, .grp, .cap, .mc]) => ?_) ?_
  on_goal 2 => unfold x
  clear_value x
  extract_lets +onlyGivenNames x
  refine (fun (hx : s.moves x [.regs, .stores, .mem, .grp, .cap, .mc]) => ?_) ?_
  on_goal 2 => unfold x
  clear_value x
  apply State.moves_ite ?_ ?_
  assumption
  exact State.moves_of State.put_moves (by decide) (by assumption)
  exact State.moves_of State.put_moves (by decide) (by assumption)
  refine State.moves_of State.put_moves (by decide) ?_
  exact State.moves_of State.setRec_moves (by decide) (by assumption)
  exact State.moves_of State.recStop_moves (by decide) (by assumption)
  assumption
  exact State.moves_of State.markStop_moves (by decide) State.moves_refl

theorem State.recGo_moves {s : State} {x1} :
    s.moves (State.recGo s x1) [.regs, .grp, .cap, .mc] := by
  unfold State.recGo
  apply State.moves_ite ?_ ?_
  exact State.moves_refl
  exact State.moves_of State.recStart_moves (by decide) State.moves_refl

theorem State.recHold_moves {s : State} {x1} :
    s.moves (State.recHold s x1) [.regs, .stores, .mem, .grp, .cap, .mc] := by
  unfold State.recHold
  split
  apply State.moves_ite ?_ ?_
  refine State.moves_of State.recStatus_moves (by decide) ?_
  exact State.moves_of State.setRec_moves (by decide) State.moves_refl
  exact State.moves_of State.recEnd_moves (by decide) State.moves_refl
  exact State.moves_refl

theorem State.pinFail_moves {s : State} {x1 : ℕ} {x2 : ℕ} {x3 : ℕ} {x4 : Ts} :
    s.moves (State.pinFail s x1 x2 x3 x4) [.regs, .evt] := by
  unfold State.pinFail
  apply State.moves_ite ?_ ?_
  exact State.moves_refl
  refine State.moves_of State.occur_moves (by decide) ?_
  exact State.moves_of State.bump_moves (by decide) State.moves_refl

theorem State.groupFail_moves {s : State} {x1} {x2} :
    s.moves (State.groupFail s x1 x2) [.regs, .grp] := by
  unfold State.groupFail
  extract_lets +onlyGivenNames x
  clear_value x
  extract_lets +onlyGivenNames x
  refine (fun (hx : s.moves x [.regs, .grp]) => ?_) ?_
  on_goal 2 => unfold x
  clear_value x
  extract_lets +onlyGivenNames x
  refine (fun (hx : s.moves x [.regs, .grp]) => ?_) ?_
  on_goal 2 => unfold x
  clear_value x
  extract_lets +onlyGivenNames x
  clear_value x
  apply State.moves_ite ?_ ?_
  exact State.moves_of State.put_moves (by decide) (by assumption)
  extract_lets +onlyGivenNames x
  clear_value x
  extract_lets +onlyGivenNames x
  refine (fun (hx : s.moves x [.regs, .grp]) => ?_) ?_
  on_goal 2 => unfold x
  clear_value x
  refine State.moves_of State.put_moves (by decide) ?_
  exact State.moves_of State.setGroup_moves (by decide) (by assumption)
  apply State.moves_ite ?_ ?_
  exact State.moves_of State.put_moves (by decide) (by assumption)
  exact State.moves_of State.put_moves (by decide) (by assumption)
  refine State.moves_of State.put_moves (by decide) ?_
  exact State.moves_of State.bump_moves (by decide) (by assumption)
  exact State.moves_of State.setGroup_moves (by decide) State.moves_refl

theorem State.failCycle_moves {s : State} {x1} {x2} :
    s.moves (State.failCycle s x1 x2) [.regs, .grp] := by
  unfold State.failCycle
  apply State.moves_ite ?_ ?_
  extract_lets +onlyGivenNames x
  clear_value x
  split
  apply State.moves_ite ?_ ?_
  exact State.moves_of State.setGroup_moves (by decide) State.moves_refl
  exact State.moves_refl
  exact State.moves_refl
  exact State.moves_of State.groupFail_moves (by decide) State.moves_refl

theorem State.matchShift_moves {s : State} {x1 : ℕ} {x2 : ℕ} {x3 : Bool} {x4 : ℕ} {x5 : Ts} :
    s.moves (State.matchShift s x1 x2 x3 x4 x5) [.evt, .grp] := by
  unfold State.matchShift
  apply State.moves_ite ?_ ?_
  refine State.moves_of State.occur_moves (by decide) ?_
  exact State.moves_of State.setGroup_moves (by decide) State.moves_refl
  exact State.moves_of State.setGroup_moves (by decide) State.moves_refl

theorem State.matchPin_moves {s : State} {x1 : ℕ} {x2 : ℕ} {x3 : ℕ} {x4 : Bool × Bool} {x5 : ℕ} :
    s.moves (State.matchPin s x1 x2 x3 x4 x5) [.evt, .grp] := by
  unfold State.matchPin
  refine moves_forUpto (fun _ _ => ?_) ?_
  apply State.moves_ite ?_ ?_
  exact State.moves_of State.matchShift_moves (by decide) State.moves_refl
  exact State.moves_refl
  exact State.moves_refl

theorem State.evalPin_moves1 {s : State} {x1 : ℕ} {x2 : VCyc} {x3 : ℕ} {x4 : ℕ} {x5 : ℕ} :
    s.moves (State.evalPin s x1 x2 x3 x4 x5).1 [.regs, .evt, .grp] := by
  unfold State.evalPin
  extract_lets +onlyGivenNames x
  clear_value x
  extract_lets +onlyGivenNames x
  clear_value x
  extract_lets +onlyGivenNames x
  clear_value x
  extract_lets +onlyGivenNames x
  clear_value x
  extract_lets +onlyGivenNames x
  clear_value x
  extract_lets +onlyGivenNames x
  clear_value x
  extract_lets +onlyGivenNames x
  clear_value x
  extract_lets +onlyGivenNames x
  refine (fun (hx : s.moves x [.regs, .evt, .grp]) => ?_) ?_
  on_goal 2 => unfold x
  clear_value x
  extract_lets +onlyGivenNames x
  refine (fun (hx : s.moves x [.regs, .evt, .grp]) => ?_) ?_
  on_goal 2 => unfold x
  clear_value x
  extract_lets +onlyGivenNames x
  clear_value x
  split
  exact State.moves_refl
  split
  exact State.moves_refl
  split
  assumption
  split
  assumption
  split
  assumption
  assumption
  refine State.moves_of State.pinFail_moves (by decide) ?_
  assumption
  apply State.moves_ite ?_ ?_
  exact State.moves_of State.matchPin_moves (by decide) State.moves_refl
  exact State.moves_refl

theorem State.evalPin_moves {s : State} {x1 : ℕ} {x2 : VCyc} {x3 : ℕ} {x4 : ℕ} {x5 : ℕ} {u : State} {y : VCyc} (h :
    State.evalPin s x1 x2 x3 x4 x5 = (u, y)) :
    s.moves u [.regs, .evt, .grp] := by
  have e : (State.evalPin s x1 x2 x3 x4 x5).1 = u := by rw [h]
  rw [← e]; exact State.evalPin_moves1

theorem State.evalPins_moves1 {s : State} {x1 : ℕ} {x2 : VCyc} {x3 : ℕ} {x4 : ℕ} {x5 : List ℕ} :
    s.moves (State.evalPins s x1 x2 x3 x4 x5).1 [.regs, .evt, .grp] := by
  fun_induction State.evalPins s x1 x2 x3 x4 x5
  exact State.moves_refl
  refine State.moves_of (V := [.regs, .evt, .grp]) (by assumption) (fun _ h => h) ?_
  exact State.moves_of State.evalPin_moves1 (by decide) State.moves_refl

theorem State.evalPins_moves {s : State} {x1 : ℕ} {x2 : VCyc} {x3 : ℕ} {x4 : ℕ} {x5 : List ℕ} {u : State} {y : VCyc}
    (h : State.evalPins s x1 x2 x3 x4 x5 = (u, y)) :
    s.moves u [.regs, .evt, .grp] := by
  have e : (State.evalPins s x1 x2 x3 x4 x5).1 = u := by rw [h]
  rw [← e]; exact State.evalPins_moves1

theorem State.evalVec_moves {s : State} {x1 : ℕ} {x2 : ℕ} :
    s.moves (State.evalVec s x1 x2) [.regs, .evt, .grp] := by
  unfold State.evalVec
  split
  exact State.moves_refl
  apply State.moves_ite ?_ ?_
  exact State.moves_refl
  refine State.moves_of State.setGroup_moves (by decide) ?_
  exact State.moves_of State.evalPins_moves1 (by decide) State.moves_refl

theorem State.endVec_moves {s : State} {x1} {x2} :
    s.moves (State.endVec s x1 x2) [.regs, .stores, .mem, .evt, .grp, .cap, .mc] := by
  unfold State.endVec
  extract_lets +onlyGivenNames x
  refine (fun (hx : s.moves x [.regs, .stores, .mem, .evt, .grp, .cap, .mc]) => ?_) ?_
  on_goal 2 => unfold x
  clear_value x
  split
  assumption
  extract_lets +onlyGivenNames x
  clear_value x
  extract_lets +onlyGivenNames x
  refine (fun (hx : s.moves x [.regs, .stores, .mem, .evt, .grp, .cap, .mc]) => ?_) ?_
  on_goal 2 => unfold x
  clear_value x
  extract_lets +onlyGivenNames x
  refine (fun (hx : s.moves x [.regs, .stores, .mem, .evt, .grp, .cap, .mc]) => ?_) ?_
  on_goal 2 => unfold x
  clear_value x
  apply State.moves_ite ?_ ?_
  extract_lets +onlyGivenNames x
  refine (fun (hx : s.moves x [.regs, .stores, .mem, .evt, .grp, .cap, .mc]) => ?_) ?_
  on_goal 2 => unfold x
  clear_value x
  split
  apply State.moves_ite ?_ ?_
  exact State.moves_of State.recEnd_moves (by decide) (by assumption)
  assumption
  assumption
  exact State.moves_of State.recUnit_moves (by decide) (by assumption)
  assumption
  split
  assumption
  exact State.moves_of State.failCycle_moves (by decide) (by assumption)
  exact State.moves_of State.setGroup_moves (by decide) (by assumption)
  exact State.moves_of State.evalVec_moves (by decide) State.moves_refl

theorem State.startVec_moves {s : State} {x1 : ℕ} {x2 : ℕ} {x3 : ℕ} {x4 : ℕ} {x5 : Word72} {x6 : Bool} :
    s.moves (State.startVec s x1 x2 x3 x4 x5 x6) [.regs, .grp] := by
  unfold State.startVec
  apply State.moves_ite ?_ ?_
  refine State.moves_of State.put_moves (by decide) ?_
  refine State.moves_of State.setGroup_moves (by decide) ?_
  exact State.moves_of State.put64_moves (by decide) State.moves_refl
  refine State.moves_of State.setGroup_moves (by decide) ?_
  exact State.moves_of State.put64_moves (by decide) State.moves_refl

theorem State.poisonPlayed_moves {s : State} :
    s.moves (State.poisonPlayed s) [.regs, .mon] := by
  unfold State.poisonPlayed
  refine State.moves_of State.monMark_moves (by decide) ?_
  refine State.moves_of State.put_moves (by decide) ?_
  exact State.moves_of State.bump_moves (by decide) State.moves_refl

theorem State.fetchWord_moves {s : State} {x1} {x2} {x3} :
    s.moves (State.fetchWord s x1 x2 x3) [.mc] := by
  unfold State.fetchWord
  apply State.moves_ite ?_ ?_
  exact State.moves_refl
  exact State.moves_of State.lineUse_moves (by decide) State.moves_refl

theorem State.playVec_moves1 {s : State} {x1} {x2} {x3} {x4} {x5} {x6} :
    s.moves (State.playVec s x1 x2 x3 x4 x5 x6).1 [.regs, .stores, .mem, .evt, .grp, .cap, .mon, .mc] := by
  unfold State.playVec
  extract_lets +onlyGivenNames x
  clear_value x
  extract_lets +onlyGivenNames x
  clear_value x
  extract_lets +onlyGivenNames x
  clear_value x
  extract_lets +onlyGivenNames x
  refine (fun (hx : s.moves x [.regs, .stores, .mem, .evt, .grp, .cap, .mon, .mc]) => ?_) ?_
  on_goal 2 => unfold x
  clear_value x
  extract_lets +onlyGivenNames x
  refine (fun (hx : s.moves x [.regs, .stores, .mem, .evt, .grp, .cap, .mon, .mc]) => ?_) ?_
  on_goal 2 => unfold x
  clear_value x
  extract_lets +onlyGivenNames x
  clear_value x
  extract_lets +onlyGivenNames x
  refine (fun (hx : s.moves x [.regs, .stores, .mem, .evt, .grp, .cap, .mon, .mc]) => ?_) ?_
  on_goal 2 => unfold x
  clear_value x
  split
  dsimp -zeta only
  assumption
  split
  dsimp -zeta only
  assumption
  extract_lets +onlyGivenNames x
  refine (fun (hx : s.moves x [.regs, .stores, .mem, .evt, .grp, .cap, .mon, .mc]) => ?_) ?_
  on_goal 2 => unfold x
  clear_value x
  dsimp -zeta only
  exact State.moves_of State.setGroup_moves (by decide) (by assumption)
  refine State.moves_of State.startVec_moves (by decide) ?_
  exact State.moves_of State.endVec_moves (by decide) (by assumption)
  split
  exact State.moves_refl
  apply State.moves_ite ?_ ?_
  exact State.moves_refl
  exact State.moves_of State.setGroup_moves (by decide) (by assumption)
  apply State.moves_ite ?_ ?_
  exact State.moves_of State.poisonPlayed_moves (by decide) (by assumption)
  assumption
  refine State.moves_of State.startVec_moves (by decide) ?_
  refine State.moves_of State.endVec_moves (by decide) ?_
  exact State.moves_of State.fetchWord_moves (by decide) State.moves_refl

theorem State.playVec_moves {s : State} {x1} {x2} {x3} {x4} {x5} {x6} {u : State} {y0} (h : State.playVec s x1 x2 x3 x4 x5 x6
  = (u, y0)) :
    s.moves u [.regs, .stores, .mem, .evt, .grp, .cap, .mon, .mc] := by
  have e : (State.playVec s x1 x2 x3 x4 x5 x6).1 = u := by rw [h]
  rw [← e]; exact State.playVec_moves1

theorem State.bridgePins_moves {s : State} {x1} :
    s.moves (State.bridgePins s x1) [.grp] := by
  unfold State.bridgePins
  apply State.moves_ite ?_ ?_
  exact State.moves_refl
  exact State.moves_of State.setGroup_moves (by decide) State.moves_refl

theorem State.patAdvance_moves {s : State} {x1} {x2} {x3} :
    s.moves (State.patAdvance s x1 x2 x3) [.regs, .stores, .mem, .tiles, .evt, .grp, .cap, .mon, .mc] := by
  fun_induction State.patAdvance s x1 x2 x3
  exact State.moves_refl
  exact State.moves_refl
  exact State.moves_refl
  refine State.moves_of (V := [.regs, .stores, .mem, .tiles, .evt, .grp, .cap, .mon, .mc]) (by assumption) (fun _ h => h) ?_
  refine State.moves_of State.setTile_moves (by decide) ?_
  dsimp +zetaDelta -zeta only
  refine State.moves_of State.bridgePins_moves (by decide) ?_
  exact State.moves_of State.endVec_moves (by decide) State.moves_refl
  dsimp +zetaDelta -zeta only
  refine State.moves_of State.bridgePins_moves (by decide) ?_
  exact State.moves_of State.endVec_moves (by decide) State.moves_refl
  exact State.moves_refl
  exact State.moves_of (State.playVec_moves ‹_›) (by decide) State.moves_refl
  refine State.moves_of (V := [.regs, .stores, .mem, .tiles, .evt, .grp, .cap, .mon, .mc]) (by assumption) (fun _ h => h) ?_
  refine State.moves_of State.setTile_moves (by decide) ?_
  exact State.moves_of (State.playVec_moves ‹_›) (by decide) State.moves_refl

theorem State.catchUp_moves {s : State} {x1} {x2} :
    s.moves (State.catchUp s x1 x2) [.regs, .stores, .mem, .tiles, .evt, .grp, .cap, .mon, .mc] := by
  unfold State.catchUp
  apply State.moves_ite ?_ ?_
  exact State.moves_refl
  extract_lets +onlyGivenNames x
  refine (fun (hx : s.moves x [.regs, .stores, .mem, .tiles, .evt, .grp, .cap, .mon, .mc]) => ?_) ?_
  on_goal 2 => unfold x
  clear_value x
  exact State.moves_of State.evalVec_moves (by decide) (by assumption)
  exact State.moves_of State.patAdvance_moves (by decide) State.moves_refl

theorem State.stopVec_moves {s : State} {x1} {x2} :
    s.moves (State.stopVec s x1 x2) [.regs, .stores, .mem, .tiles, .evt, .grp, .cap, .mon, .mc] := by
  unfold State.stopVec
  apply State.moves_ite ?_ ?_
  exact State.moves_refl
  extract_lets +onlyGivenNames x
  refine (fun (hx : s.moves x [.regs, .stores, .mem, .tiles, .evt, .grp, .cap, .mon, .mc]) => ?_) ?_
  on_goal 2 => unfold x
  clear_value x
  exact State.moves_of State.setGroup_moves (by decide) (by assumption)
  refine State.moves_of State.endVec_moves (by decide) ?_
  exact State.moves_of State.catchUp_moves (by decide) State.moves_refl

theorem State.cutVec_moves {s : State} {x1} {x2} :
    s.moves (State.cutVec s x1 x2) [.regs, .stores, .mem, .tiles, .evt, .grp, .cap, .mon, .mc] := by
  unfold State.cutVec
  refine State.moves_of State.bridgePins_moves (by decide) ?_
  exact State.moves_of State.stopVec_moves (by decide) State.moves_refl

theorem State.closeVec_moves {s : State} {x1} {x2} :
    s.moves (State.closeVec s x1 x2) [.regs, .stores, .mem, .tiles, .evt, .grp, .cap, .mon, .mc] := by
  unfold State.closeVec
  apply State.moves_ite ?_ ?_
  exact State.moves_refl
  extract_lets +onlyGivenNames x
  refine (fun (hx : s.moves x [.regs, .stores, .mem, .tiles, .evt, .grp, .cap, .mon, .mc]) => ?_) ?_
  on_goal 2 => unfold x
  clear_value x
  split
  assumption
  apply State.moves_ite ?_ ?_
  exact State.moves_of State.endVec_moves (by decide) (by assumption)
  assumption
  exact State.moves_of State.catchUp_moves (by decide) State.moves_refl

theorem State.outNote_moves {s : State} {x1} :
    s.moves (State.outNote s x1) [.grp] := by
  unfold State.outNote
  exact State.moves_of State.setGroup_moves (by decide) State.moves_refl

theorem State.underrunLog_moves {s : State} {x1 : ℕ} {x2 : ℕ} {x3 : ℕ} {x4 : ℕ} {x5 : ℕ} :
    s.moves (State.underrunLog s x1 x2 x3 x4 x5) [.regs, .evt, .mon] := by
  unfold State.underrunLog
  refine State.moves_of State.logWrite_moves (by decide) ?_
  refine State.moves_of State.monMark_moves (by decide) ?_
  refine State.moves_of State.put_moves (by decide) ?_
  refine State.moves_of State.put64_moves (by decide) ?_
  exact State.moves_of State.bump_moves (by decide) State.moves_refl

theorem State.underrunSeen_moves {s : State} {x1} {x2} :
    s.moves (State.underrunSeen s x1 x2) [.regs, .evt, .mon] := by
  unfold State.underrunSeen
  split
  apply State.moves_ite ?_ ?_
  exact State.moves_of State.underrunLog_moves (by decide) State.moves_refl
  exact State.moves_refl
  exact State.moves_refl

theorem State.endRun_moves {s : State} {x1} {x2} {x3} :
    s.moves (State.endRun s x1 x2 x3) [.ctxs, .tiles] := by
  unfold State.endRun
  extract_lets +onlyGivenNames x
  clear_value x
  extract_lets +onlyGivenNames x
  refine (fun (hx : s.moves x [.ctxs, .tiles]) => ?_) ?_
  on_goal 2 => unfold x
  clear_value x
  exact State.moves_of State.setTile_moves (by decide) (by assumption)
  exact State.moves_of State.setCtx_moves (by decide) State.moves_refl

theorem State.leave_moves {s : State} {x1} {x2} {x3} :
    s.moves (State.leave s x1 x2 x3) [.regs, .stores, .mem, .ctxs, .tiles, .evt, .grp, .cap, .mon, .mc] := by
  unfold State.leave
  extract_lets +onlyGivenNames x
  refine (fun (hx : s.moves x [.regs, .stores, .mem, .ctxs, .tiles, .evt, .grp, .cap, .mon, .mc]) => ?_) ?_
  on_goal 2 => unfold x
  clear_value x
  refine State.moves_of State.gcSlots_moves (by decide) ?_
  exact State.moves_of State.setTile_moves (by decide) (by assumption)
  refine State.moves_of State.endRun_moves (by decide) ?_
  refine State.moves_of State.cutVec_moves (by decide) ?_
  exact State.moves_of State.underrunSeen_moves (by decide) State.moves_refl

theorem State.faultCtx_moves {s : State} {x1} {x2} {x3} {x4} :
    s.moves (State.faultCtx s x1 x2 x3 x4) [.regs, .stores, .mem, .ctxs, .tiles, .evt, .grp, .cap, .mon, .mc] := by
  unfold State.faultCtx
  extract_lets +onlyGivenNames x
  refine (fun (hx : s.moves x [.regs, .stores, .mem, .ctxs, .tiles, .evt, .grp, .cap, .mon, .mc]) => ?_) ?_
  on_goal 2 => unfold x
  clear_value x
  extract_lets +onlyGivenNames x
  clear_value x
  extract_lets +onlyGivenNames x
  refine (fun (hx : s.moves x [.regs, .stores, .mem, .ctxs, .tiles, .evt, .grp, .cap, .mon, .mc]) => ?_) ?_
  on_goal 2 => unfold x
  clear_value x
  extract_lets +onlyGivenNames x
  refine (fun (hx : s.moves x [.regs, .stores, .mem, .ctxs, .tiles, .evt, .grp, .cap, .mon, .mc]) => ?_) ?_
  on_goal 2 => unfold x
  clear_value x
  refine State.moves_of State.leave_moves (by decide) ?_
  exact State.moves_of State.put_moves (by decide) (by assumption)
  refine State.moves_of State.put_moves (by decide) ?_
  refine State.moves_of State.put_moves (by decide) ?_
  exact State.moves_of State.put_moves (by decide) (by assumption)
  exact State.moves_of State.setCtx_moves (by decide) (by assumption)
  apply State.moves_ite ?_ ?_
  exact State.moves_of State.put_moves (by decide) State.moves_refl
  exact State.moves_refl

theorem State.closeItem_moves {s : State} {x1} {x2} :
    s.moves (State.closeItem s x1 x2) [.regs, .stores, .mem, .tiles, .evt, .grp, .cap, .mon, .mc] := by
  unfold State.closeItem
  extract_lets +onlyGivenNames x
  refine (fun (hx : s.moves x [.regs, .stores, .mem, .tiles, .evt, .grp, .cap, .mon, .mc]) => ?_) ?_
  on_goal 2 => unfold x
  clear_value x
  exact State.moves_of State.setTile_moves (by decide) (by assumption)
  exact State.moves_of State.closeVec_moves (by decide) State.moves_refl

theorem State.setItem_moves {s : State} {x1 : ℕ} {x2 : Item} :
    s.moves (State.setItem s x1 x2) [.tiles] := by
  unfold State.setItem
  exact State.moves_of State.setTile_moves (by decide) State.moves_refl

theorem State.playWords_moves {s : State} {x1} {x2} {x3} {x4} {x5} {x6} {x7} :
    s.moves (State.playWords s x1 x2 x3 x4 x5 x6 x7) [.tiles] := by
  unfold State.playWords
  extract_lets +onlyGivenNames x
  clear_value x
  extract_lets +onlyGivenNames x
  clear_value x
  extract_lets +onlyGivenNames x
  clear_value x
  extract_lets +onlyGivenNames x
  clear_value x
  extract_lets +onlyGivenNames x
  clear_value x
  extract_lets +onlyGivenNames x
  clear_value x
  extract_lets +onlyGivenNames x
  clear_value x
  extract_lets +onlyGivenNames x
  clear_value x
  exact State.moves_of State.setTile_moves (by decide) State.moves_refl

theorem State.playBlocks_moves {s : State} {x1} {x2} :
    s.moves (State.playBlocks s x1 x2) [.tiles] := by
  unfold State.playBlocks
  extract_lets +onlyGivenNames x
  clear_value x
  exact State.moves_of State.setTile_moves (by decide) State.moves_refl

theorem State.addSpin_moves {s : State} {x1 : ℕ} :
    s.moves (State.addSpin s x1) [.tiles] := by
  unfold State.addSpin
  exact State.moves_of State.setTile_moves (by decide) State.moves_refl

theorem State.setPc_moves {s : State} {x1 : ℕ} {x2 : Addr} :
    s.moves (State.setPc s x1 x2) [.ctxs] := by
  unfold State.setPc
  exact State.moves_of State.setCtx_moves (by decide) State.moves_refl

theorem State.nextPc_moves {s : State} {x1 : ℕ} :
    s.moves (State.nextPc s x1) [.ctxs] := by
  unfold State.nextPc
  exact State.moves_of State.setPc_moves (by decide) State.moves_refl

theorem State.takeInstr_moves {s : State} {x1} {x2} {x3} {x4} {x5} {x6} {W : List Piece} (hV : ∀ p ∈ ([.regs, .stores, .mem,
  .ctxs, .tiles, .evt, .grp, .cap, .mon, .mc] : List Piece), p ∈ W) (hf : ∀ (u : State) a1 a2 a3, u.moves (x6 u a1 a2 a3) W)
  :
    s.moves (State.takeInstr s x1 x2 x3 x4 x5 x6) W := by
  unfold State.takeInstr
  split
  exact State.moves_of State.faultCtx_moves (fun p hp => hV p ((by decide : ∀ p ∈ _, p ∈ ([.regs, .stores, .mem, .ctxs,
    .tiles, .evt, .grp, .cap, .mon, .mc] : List Piece)) p hp)) State.moves_refl
  extract_lets +onlyGivenNames x
  refine (fun (hx : s.moves x W) => ?_) ?_
  on_goal 2 => unfold x
  clear_value x
  apply State.moves_of (hf _ _ _ _) (fun _ h => h) ?_
  apply State.moves_ite ?_ ?_
  assumption
  exact State.moves_of State.addSpin_moves (fun p hp => hV p ((by decide : ∀ p ∈ _, p ∈ ([.regs, .stores, .mem, .ctxs,
    .tiles, .evt, .grp, .cap, .mon, .mc] : List Piece)) p hp)) (by assumption)
  exact State.moves_of State.popAhead_moves (fun p hp => hV p ((by decide : ∀ p ∈ _, p ∈ ([.regs, .stores, .mem, .ctxs,
    .tiles, .evt, .grp, .cap, .mon, .mc] : List Piece)) p hp)) State.moves_refl

theorem State.instr_moves {s : State} {x1} {x2} {x3} {x4} {W : List Piece} (hV : ∀ p ∈ ([.regs, .stores, .mem, .ctxs, .tiles,
  .evt, .grp, .cap, .mon, .mc] : List Piece), p ∈ W) (hf : ∀ (u : State) a1 a2 a3, u.moves (x4 u a1 a2 a3) W) :
    s.moves (State.instr s x1 x2 x3 x4) W := by
  unfold State.instr
  split
  apply State.moves_ite ?_ ?_
  exact State.moves_refl
  extract_lets +onlyGivenNames x
  clear_value x
  apply State.moves_ite ?_ ?_
  exact State.moves_refl
  extract_lets +onlyGivenNames x
  refine (fun (hx : s.moves x W) => ?_) ?_
  on_goal 2 => unfold x
  clear_value x
  apply State.moves_ite ?_ ?_
  extract_lets +onlyGivenNames x
  refine (fun (hx : s.moves x W) => ?_) ?_
  on_goal 2 => unfold x
  clear_value x
  apply State.moves_of (State.takeInstr_moves ?_ (fun u _ _ _ => ?_)) (fun _ h => h) ?_
  exact (fun p hp => hV p ((by decide : ∀ p ∈ _, p ∈ ([.regs, .stores, .mem, .ctxs, .tiles, .evt, .grp, .cap, .mon, .mc] :
    List Piece)) p hp))
  exact State.moves_of State.setTile_moves (fun p hp => hV p ((by decide : ∀ p ∈ _, p ∈ ([.regs, .stores, .mem, .ctxs,
    .tiles, .evt, .grp, .cap, .mon, .mc] : List Piece)) p hp)) (by assumption)
  apply State.moves_of (hf _ _ _ _) (fun _ h => h) ?_
  exact State.moves_refl
  exact State.moves_of State.stopVec_moves (fun p hp => hV p ((by decide : ∀ p ∈ _, p ∈ ([.regs, .stores, .mem, .ctxs,
    .tiles, .evt, .grp, .cap, .mon, .mc] : List Piece)) p hp)) State.moves_refl
  assumption
  apply State.moves_of (State.takeInstr_moves ?_ (fun u _ _ _ => ?_)) (fun _ h => h) ?_
  exact (fun p hp => hV p ((by decide : ∀ p ∈ _, p ∈ ([.regs, .stores, .mem, .ctxs, .tiles, .evt, .grp, .cap, .mon, .mc] :
    List Piece)) p hp))
  exact State.moves_of State.closeItem_moves (fun p hp => hV p ((by decide : ∀ p ∈ _, p ∈ ([.regs, .stores, .mem, .ctxs,
    .tiles, .evt, .grp, .cap, .mon, .mc] : List Piece)) p hp)) State.moves_refl
  apply State.moves_of (hf _ _ _ _) (fun _ h => h) ?_
  exact State.moves_refl
  exact State.moves_refl

theorem State.ifCond_moves {s : State} {x1 : ℕ} {x2 : BitVec 66} {x3 : State → State} {W : List Piece} (hV : ∀ p ∈
    ([.ctxs] : List Piece), p ∈ W) (hf : ∀ (u : State), u.moves (x3 u) W) :
    s.moves (State.ifCond s x1 x2 x3) W := by
  unfold State.ifCond
  apply State.moves_ite ?_ ?_
  apply State.moves_of (hf _) (fun _ h => h) ?_
  exact State.moves_refl
  apply State.moves_of State.nextPc_moves ?_ ?_
  assumption
  exact State.moves_refl

theorem State.orRefuse_moves {α : Type} {s u : State} {x1} {x2} {x3 : Except Sts α} {x4 : α → State} {W : List Piece}
    (hV : ∀ p ∈ ([.regs, .stores, .mem, .ctxs, .tiles, .evt, .grp, .cap, .mon, .mc] : List Piece), p ∈ W) (hu : s.moves u W)
    (hf : ∀ a, x3 = .ok a → s.moves (x4 a) W) : s.moves (State.orRefuse u x1 x2 x3 x4) W := by
  unfold State.orRefuse
  split
  exact State.moves_of State.faultCtx_moves hV hu
  exact hf _ rfl

theorem State.retakeHandler_moves {s : State} {x1} {x2} :
    s.moves (State.retakeHandler s x1 x2) [.tiles] := by
  unfold State.retakeHandler
  extract_lets +onlyGivenNames x
  refine (fun (hx : s.moves x.1 [.tiles]) => ?_) ?_
  on_goal 2 => unfold x
  clear_value x
  split
  exact State.moves_of State.setTile_moves (by decide) (by assumption)
  exact State.moves_refl
  exact State.moves_of State.landHandler_moves1 (by decide) State.moves_refl

theorem State.enter_moves {s : State} {x1} {x2} {x3} :
    s.moves (State.enter s x1 x2 x3) [.ctxs, .tiles] := by
  unfold State.enter
  extract_lets +onlyGivenNames x
  clear_value x
  extract_lets +onlyGivenNames x
  refine (fun (hx : s.moves x [.ctxs, .tiles]) => ?_) ?_
  on_goal 2 => unfold x
  clear_value x
  extract_lets +onlyGivenNames x
  clear_value x
  extract_lets +onlyGivenNames x
  refine (fun (hx : s.moves x [.ctxs, .tiles]) => ?_) ?_
  on_goal 2 => unfold x
  clear_value x
  split
  exact State.moves_of State.playWords_moves (by decide) (by assumption)
  refine State.moves_of State.retakeHandler_moves (by decide) ?_
  exact State.moves_of State.playBlocks_moves (by decide) (by assumption)
  assumption
  exact State.moves_of State.setTile_moves (by decide) (by assumption)
  exact State.moves_of State.setCtx_moves (by decide) State.moves_refl

theorem execNop_moves {s : State} {x0} {x1} :
    s.moves (nextOr s (execNop x0 x1 s)) [.regs, .stores, .mem, .ctxs, .tiles, .evt, .grp, .cap, .mon, .mc] := by
  unfold execNop
  rw [nextOr_next]
  apply State.moves_of (State.instr_moves ?_ (fun u _ _ _ => ?_)) (fun _ h => h) ?_
  decide
  exact State.moves_refl
  exact State.moves_of State.nextPc_moves (by decide) State.moves_refl

theorem execHalt_moves {s : State} {x0} {x1} :
    s.moves (nextOr s (execHalt x0 x1 s)) [.regs, .stores, .mem, .ctxs, .tiles, .evt, .grp, .cap, .mon, .mc] := by
  unfold execHalt
  rw [nextOr_next]
  apply State.moves_of (State.instr_moves ?_ (fun u _ _ _ => ?_)) (fun _ h => h) ?_
  decide
  exact State.moves_refl
  apply State.moves_of (State.ifCond_moves ?_ (fun u => ?_)) (fun _ h => h) ?_
  decide
  exact State.moves_refl
  refine State.moves_of State.leave_moves (by decide) ?_
  exact State.moves_of State.nextPc_moves (by decide) State.moves_refl

theorem execPlay_moves {s : State} {x0} {x1} :
    s.moves (nextOr s (execPlay x0 x1 s)) [.regs, .stores, .mem, .ctxs, .tiles, .evt, .grp, .cap, .mon, .mc] := by
  unfold execPlay
  rw [nextOr_next]
  apply State.moves_of (State.instr_moves ?_ (fun u _ _ _ => ?_)) (fun _ h => h) ?_
  decide
  exact State.moves_refl
  refine State.orRefuse_moves (by decide) ?_ (fun _ _ => ?_)
  exact State.moves_refl
  refine State.moves_of State.playWords_moves (by decide) ?_
  exact State.moves_of State.nextPc_moves (by decide) State.moves_refl

theorem execPlayn_moves {s : State} {x0} {x1} :
    s.moves (nextOr s (execPlayn x0 x1 s)) [.regs, .stores, .mem, .ctxs, .tiles, .evt, .grp, .cap, .mon, .mc] := by
  unfold execPlayn
  rw [nextOr_next]
  apply State.moves_of (State.instr_moves ?_ (fun u _ _ _ => ?_)) (fun _ h => h) ?_
  decide
  exact State.moves_refl
  refine State.orRefuse_moves (by decide) ?_ (fun _ _ => ?_)
  exact State.moves_refl
  refine State.moves_of State.playWords_moves (by decide) ?_
  exact State.moves_of State.nextPc_moves (by decide) State.moves_refl

theorem execLoop_moves {s : State} {x0} {x1} :
    s.moves (nextOr s (execLoop x0 x1 s)) [.regs, .stores, .mem, .ctxs, .tiles, .evt, .grp, .cap, .mon, .mc] := by
  unfold execLoop
  rw [nextOr_next]
  apply State.moves_of (State.instr_moves ?_ (fun u _ _ _ => ?_)) (fun _ h => h) ?_
  decide
  exact State.moves_refl
  extract_lets +onlyGivenNames x
  clear_value x
  apply State.moves_ite ?_ ?_
  exact State.moves_of State.faultCtx_moves (by decide) State.moves_refl
  refine State.moves_of State.nextPc_moves (by decide) ?_
  exact State.moves_of State.setCtx_moves (by decide) State.moves_refl

theorem execEndloop_moves {s : State} {x0} {x1} :
    s.moves (nextOr s (execEndloop x0 x1 s)) [.regs, .stores, .mem, .ctxs, .tiles, .evt, .grp, .cap, .mon, .mc] := by
  unfold execEndloop
  rw [nextOr_next]
  apply State.moves_of (State.instr_moves ?_ (fun u _ _ _ => ?_)) (fun _ h => h) ?_
  decide
  exact State.moves_refl
  extract_lets +onlyGivenNames x
  clear_value x
  split
  exact State.moves_of State.faultCtx_moves (by decide) State.moves_refl
  apply State.moves_ite ?_ ?_
  exact State.moves_of State.faultCtx_moves (by decide) State.moves_refl
  apply State.moves_ite ?_ ?_
  exact State.moves_of State.setPc_moves (by decide) State.moves_refl
  apply State.moves_ite ?_ ?_
  refine State.moves_of State.setPc_moves (by decide) ?_
  exact State.moves_of State.setCtx_moves (by decide) State.moves_refl
  refine State.moves_of State.nextPc_moves (by decide) ?_
  exact State.moves_of State.setCtx_moves (by decide) State.moves_refl

theorem execCall_moves {s : State} {x0} {x1} :
    s.moves (nextOr s (execCall x0 x1 s)) [.regs, .stores, .mem, .ctxs, .tiles, .evt, .grp, .cap, .mon, .mc] := by
  unfold execCall
  rw [nextOr_next]
  apply State.moves_of (State.instr_moves ?_ (fun u _ _ _ => ?_)) (fun _ h => h) ?_
  decide
  exact State.moves_refl
  apply State.moves_of (State.ifCond_moves ?_ (fun u => ?_)) (fun _ h => h) ?_
  decide
  exact State.moves_refl
  extract_lets +onlyGivenNames x
  clear_value x
  apply State.moves_ite ?_ ?_
  exact State.moves_of State.faultCtx_moves (by decide) State.moves_refl
  refine State.orRefuse_moves (by decide) ?_ (fun _ _ => ?_)
  exact State.moves_refl
  refine State.moves_of State.setPc_moves (by decide) ?_
  exact State.moves_of State.setCtx_moves (by decide) State.moves_refl

theorem execRet_moves {s : State} {x0} {x1} :
    s.moves (nextOr s (execRet x0 x1 s)) [.regs, .stores, .mem, .ctxs, .tiles, .evt, .grp, .cap, .mon, .mc] := by
  unfold execRet
  rw [nextOr_next]
  apply State.moves_of (State.instr_moves ?_ (fun u _ _ _ => ?_)) (fun _ h => h) ?_
  decide
  exact State.moves_refl
  apply State.moves_of (State.ifCond_moves ?_ (fun u => ?_)) (fun _ h => h) ?_
  decide
  exact State.moves_refl
  extract_lets +onlyGivenNames x
  clear_value x
  split
  exact State.moves_of State.faultCtx_moves (by decide) State.moves_refl
  apply State.moves_ite ?_ ?_
  exact State.moves_of State.faultCtx_moves (by decide) State.moves_refl
  extract_lets +onlyGivenNames x
  refine (fun (hx : u.moves x [.regs, .stores, .mem, .ctxs, .tiles, .evt, .grp, .cap, .mon, .mc]) => ?_) ?_
  on_goal 2 => unfold x
  clear_value x
  split
  exact State.moves_of State.enter_moves (by decide) (by assumption)
  exact State.moves_of State.enter_moves (by decide) (by assumption)
  exact State.moves_of State.setTile_moves (by decide) (by assumption)
  exact State.moves_of State.setCtx_moves (by decide) State.moves_refl

theorem execJump_moves {s : State} {x0} {x1} :
    s.moves (nextOr s (execJump x0 x1 s)) [.regs, .stores, .mem, .ctxs, .tiles, .evt, .grp, .cap, .mon, .mc] := by
  unfold execJump
  rw [nextOr_next]
  apply State.moves_of (State.instr_moves ?_ (fun u _ _ _ => ?_)) (fun _ h => h) ?_
  decide
  exact State.moves_refl
  apply State.moves_of (State.ifCond_moves ?_ (fun u => ?_)) (fun _ h => h) ?_
  decide
  exact State.moves_refl
  extract_lets +onlyGivenNames x
  clear_value x
  extract_lets +onlyGivenNames x
  clear_value x
  apply State.moves_ite ?_ ?_
  exact State.moves_of State.faultCtx_moves (by decide) State.moves_refl
  refine State.orRefuse_moves (by decide) ?_ (fun _ _ => ?_)
  exact State.moves_refl
  refine State.moves_of State.setPc_moves (by decide) ?_
  exact State.moves_of State.setCtx_moves (by decide) State.moves_refl

theorem State.putArm_moves {s : State} {x1} {x2} {x3} {x4} :
    s.moves (State.putArm s x1 x2 x3 x4) [.ctxs, .tiles] := by
  unfold State.putArm
  extract_lets +onlyGivenNames x
  refine (fun (hx : s.moves x [.ctxs, .tiles]) => ?_) ?_
  on_goal 2 => unfold x
  clear_value x
  refine State.moves_of State.gcSlots_moves (by decide) ?_
  apply State.moves_ite ?_ ?_
  exact State.moves_of State.relandSwitch_moves (by decide) (by assumption)
  assumption
  exact State.moves_of State.setCtx_moves (by decide) State.moves_refl

theorem State.armWrite_moves {s : State} {x1} {x2} {x3} {x4} {x5} :
    s.moves (State.armWrite s x1 x2 x3 x4 x5) [.regs, .stores, .mem, .ctxs, .tiles, .evt, .grp, .cap, .mon, .mc] := by
  unfold State.armWrite
  extract_lets +onlyGivenNames x
  clear_value x
  split
  exact State.moves_of State.faultCtx_moves (by decide) State.moves_refl
  exact State.moves_of State.putArm_moves (by decide) State.moves_refl
  exact State.moves_of State.putArm_moves (by decide) State.moves_refl

theorem execArm_moves {s : State} {x0} {x1} :
    s.moves (nextOr s (execArm x0 x1 s)) [.regs, .stores, .mem, .ctxs, .tiles, .evt, .grp, .cap, .mon, .mc] := by
  unfold execArm
  rw [nextOr_next]
  apply State.moves_of (State.instr_moves ?_ (fun u _ _ _ => ?_)) (fun _ h => h) ?_
  decide
  exact State.moves_refl
  extract_lets +onlyGivenNames x
  refine (fun (hx : u.moves x.1 [.regs, .stores, .mem, .ctxs, .tiles, .evt, .grp, .cap, .mon, .mc]) => ?_) ?_
  on_goal 2 => unfold x
  extract_lets +onlyGivenNames x
  refine (fun (hx : u.moves x [.regs, .stores, .mem, .ctxs, .tiles, .evt, .grp, .cap, .mon, .mc]) => ?_) ?_
  on_goal 2 => unfold x
  apply State.moves_ite ?_ ?_
  exact State.moves_of State.nextPc_moves (by decide) (by assumption)
  assumption
  exact State.moves_of State.armWrite_moves (by decide) (by assumption)
  split
  dsimp -zeta only
  exact State.moves_refl
  exact State.moves_of State.landArm_moves1 (by decide) State.moves_refl

theorem State.disarm_moves {s : State} {x1 : ℕ} {x2 : ℕ} {x3 : ℕ} {x4 : Bool} :
    s.moves (State.disarm s x1 x2 x3 x4) [.ctxs, .tiles] := by
  unfold State.disarm
  refine State.moves_of State.gcSlots_moves (by decide) ?_
  exact State.moves_of State.setCtx_moves (by decide) State.moves_refl

theorem execDisarm_moves {s : State} {x0} {x1} :
    s.moves (nextOr s (execDisarm x0 x1 s)) [.regs, .stores, .mem, .ctxs, .tiles, .evt, .grp, .cap, .mon, .mc] := by
  unfold execDisarm
  rw [nextOr_next]
  apply State.moves_of (State.instr_moves ?_ (fun u _ _ _ => ?_)) (fun _ h => h) ?_
  decide
  exact State.moves_refl
  refine State.moves_of State.nextPc_moves (by decide) ?_
  exact State.moves_of State.disarm_moves (by decide) State.moves_refl

theorem State.beginWait_moves {s : State} {x1} {x2} {x3} :
    s.moves (State.beginWait s x1 x2 x3) [.tiles, .grp] := by
  unfold State.beginWait
  refine State.moves_of State.setItem_moves (by decide) ?_
  exact State.moves_of State.bridgePins_moves (by decide) State.moves_refl

theorem execWait_moves {s : State} {x0} {x1} :
    s.moves (nextOr s (execWait x0 x1 s)) [.regs, .stores, .mem, .ctxs, .tiles, .evt, .grp, .cap, .mon, .mc] := by
  unfold execWait
  rw [nextOr_next]
  apply State.moves_of (State.instr_moves ?_ (fun u _ _ _ => ?_)) (fun _ h => h) ?_
  decide
  exact State.moves_refl
  refine State.moves_of State.beginWait_moves (by decide) ?_
  exact State.moves_of State.nextPc_moves (by decide) State.moves_refl

theorem State.beginSync_moves {s : State} {x1} {x2} {x3} {x4} {x5} :
    s.moves (State.beginSync s x1 x2 x3 x4 x5) [.tiles, .grp] := by
  unfold State.beginSync
  refine State.moves_of State.setItem_moves (by decide) ?_
  exact State.moves_of State.bridgePins_moves (by decide) State.moves_refl

theorem execSync_moves {s : State} {x0} {x1} :
    s.moves (nextOr s (execSync x0 x1 s)) [.regs, .stores, .mem, .ctxs, .tiles, .evt, .grp, .cap, .mon, .mc] := by
  unfold execSync
  rw [nextOr_next]
  apply State.moves_of (State.instr_moves ?_ (fun u _ _ _ => ?_)) (fun _ h => h) ?_
  decide
  exact State.moves_refl
  extract_lets +onlyGivenNames x
  clear_value x
  extract_lets +onlyGivenNames x
  clear_value x
  refine State.moves_of State.beginSync_moves (by decide) ?_
  exact State.moves_of State.nextPc_moves (by decide) State.moves_refl

theorem State.lateSync_moves {s : State} {x1 : ℕ} :
    s.moves (State.lateSync s x1) [.regs] := by
  unfold State.lateSync
  refine State.moves_of State.bump_moves (by decide) ?_
  exact State.moves_of State.put_moves (by decide) State.moves_refl

theorem execSyncRelease_moves {s : State} {x0} :
    s.moves (nextOr s (execSyncRelease x0 s)) [.regs, .stores, .mem, .ctxs, .tiles, .evt, .grp, .cap, .mon, .mc] := by
  unfold execSyncRelease
  rw [nextOr_next]
  split
  apply State.moves_ite ?_ ?_
  exact State.moves_refl
  apply State.moves_ite ?_ ?_
  exact State.moves_of State.closeItem_moves (by decide) State.moves_refl
  extract_lets +onlyGivenNames x
  refine (fun (hx : s.moves x [.regs, .stores, .mem, .ctxs, .tiles, .evt, .grp, .cap, .mon, .mc]) => ?_) ?_
  on_goal 2 => unfold x
  clear_value x
  apply State.moves_ite ?_ ?_
  refine State.moves_of State.faultCtx_moves (by decide) ?_
  exact State.moves_of State.setPc_moves (by decide) (by assumption)
  exact State.moves_of State.closeItem_moves (by decide) (by assumption)
  exact State.moves_of State.lateSync_moves (by decide) State.moves_refl
  exact State.moves_refl

theorem execSetts_moves {s : State} {x0} {x1} :
    s.moves (nextOr s (execSetts x0 x1 s)) [.regs, .stores, .mem, .ctxs, .tiles, .evt, .grp, .cap, .mon, .mc] := by
  unfold execSetts
  rw [nextOr_next]
  apply State.moves_of (State.instr_moves ?_ (fun u _ _ _ => ?_)) (fun _ h => h) ?_
  decide
  exact State.moves_refl
  refine State.moves_of State.nextPc_moves (by decide) ?_
  exact State.moves_of State.setCtx_moves (by decide) State.moves_refl

theorem State.setPhase_moves {s : State} {x1 : ℕ} {x2 : ℕ} {x3 : ℕ} :
    s.moves (State.setPhase s x1 x2 x3) [.wav] := by
  unfold State.setPhase
  exact State.moves_of State.setWave_moves (by decide) State.moves_refl

theorem State.setFtw_moves {s : State} {x1 : ℕ} {x2 : ℕ} {x3 : ℕ} :
    s.moves (State.setFtw s x1 x2 x3) [.regs, .wav] := by
  unfold State.setFtw
  refine State.moves_of State.put64_moves (by decide) ?_
  exact State.moves_of State.setPhase_moves (by decide) State.moves_refl

theorem execSetf_moves {s : State} {x0} {x1} :
    s.moves (nextOr s (execSetf x0 x1 s)) [.regs, .stores, .mem, .ctxs, .tiles, .evt, .wav, .grp, .cap, .mon, .mc] := by
  unfold execSetf
  rw [nextOr_next]
  apply State.moves_of (State.instr_moves ?_ (fun u _ _ _ => ?_)) (fun _ h => h) ?_
  decide
  exact State.moves_refl
  extract_lets +onlyGivenNames x
  refine (fun (hx : u.moves x [.regs, .stores, .mem, .ctxs, .tiles, .evt, .wav, .grp, .cap, .mon, .mc]) => ?_) ?_
  on_goal 2 => unfold x
  clear_value x
  refine State.moves_of State.nextPc_moves (by decide) ?_
  apply State.moves_ite ?_ ?_
  exact State.moves_of State.setPhase_moves (by decide) (by assumption)
  assumption
  exact State.moves_of State.setFtw_moves (by decide) State.moves_refl

theorem execSetph_moves {s : State} {x0} {x1} :
    s.moves (nextOr s (execSetph x0 x1 s)) [.regs, .stores, .mem, .ctxs, .tiles, .evt, .wav, .grp, .cap, .mon, .mc] := by
  unfold execSetph
  rw [nextOr_next]
  apply State.moves_of (State.instr_moves ?_ (fun u _ _ _ => ?_)) (fun _ h => h) ?_
  decide
  exact State.moves_refl
  refine State.moves_of State.nextPc_moves (by decide) ?_
  apply State.moves_ite ?_ ?_
  exact State.moves_of State.setPhase_moves (by decide) State.moves_refl
  exact State.moves_of State.setPhase_moves (by decide) State.moves_refl

theorem execRamp_moves {s : State} {x0} {x1} :
    s.moves (nextOr s (execRamp x0 x1 s)) [.regs, .stores, .mem, .ctxs, .tiles, .evt, .grp, .cap, .mon, .mc] := by
  unfold execRamp
  rw [nextOr_next]
  apply State.moves_of (State.instr_moves ?_ (fun u _ _ _ => ?_)) (fun _ h => h) ?_
  decide
  exact State.moves_refl
  extract_lets +onlyGivenNames x
  clear_value x
  refine State.moves_of State.setItem_moves (by decide) ?_
  exact State.moves_of State.nextPc_moves (by decide) State.moves_refl

theorem State.rampApply_moves {s : State} {x1 : ℕ} {x2 : ℕ} {x3 : ℕ} {x4 : ℕ} :
    s.moves (State.rampApply s x1 x2 x3 x4) [.regs, .wav] := by
  unfold State.rampApply
  extract_lets +onlyGivenNames x
  clear_value x
  split
  exact State.moves_of State.setFtw_moves (by decide) State.moves_refl
  exact State.moves_of State.put_moves (by decide) State.moves_refl
  exact State.moves_of State.put_moves (by decide) State.moves_refl

theorem execRampStep_moves {x0 : Tile} {s : State} :
    s.moves (nextOr s (execRampStep x0 s)) [.regs, .tiles, .wav] := by
  unfold execRampStep
  extract_lets +onlyGivenNames x
  clear_value x
  split
  split
  rw [nextOr_next]
  refine State.moves_of State.setTile_moves (by decide) ?_
  exact State.moves_of State.rampApply_moves (by decide) State.moves_refl
  rw [nextOr_next]
  exact State.moves_refl
  rw [nextOr_next]
  exact State.moves_refl

theorem execMark_moves {s : State} {x0} {x1} :
    s.moves (nextOr s (execMark x0 x1 s)) [.regs, .stores, .mem, .ctxs, .tiles, .evt, .grp, .cap, .mon, .mc] := by
  unfold execMark
  rw [nextOr_next]
  apply State.moves_of (State.instr_moves ?_ (fun u _ _ _ => ?_)) (fun _ h => h) ?_
  decide
  exact State.moves_refl
  extract_lets +onlyGivenNames x
  refine (fun (hx : u.moves x [.regs, .stores, .mem, .ctxs, .tiles, .evt, .grp, .cap, .mon, .mc]) => ?_) ?_
  on_goal 2 => unfold x
  clear_value x
  refine State.moves_of State.nextPc_moves (by decide) ?_
  apply State.moves_ite ?_ ?_
  exact State.moves_of State.setTile_moves (by decide) (by assumption)
  assumption
  refine State.moves_of State.put64_moves (by decide) ?_
  exact State.moves_of State.put_moves (by decide) State.moves_refl

theorem execSwitch_moves {s : State} {x0} {x1} :
    s.moves (nextOr s (execSwitch x0 x1 s)) [.regs, .stores, .mem, .ctxs, .tiles, .evt, .grp, .cap, .mon, .mc] := by
  unfold execSwitch
  rw [nextOr_next]
  apply State.moves_of (State.instr_moves ?_ (fun u _ _ _ => ?_)) (fun _ h => h) ?_
  decide
  exact State.moves_refl
  extract_lets +onlyGivenNames x
  clear_value x
  apply State.moves_ite ?_ ?_
  exact State.moves_of State.faultCtx_moves (by decide) State.moves_refl
  apply State.moves_ite ?_ ?_
  exact State.moves_of State.faultCtx_moves (by decide) State.moves_refl
  extract_lets +onlyGivenNames x
  clear_value x
  extract_lets +onlyGivenNames x
  refine (fun (hx : u.moves x [.regs, .stores, .mem, .ctxs, .tiles, .evt, .grp, .cap, .mon, .mc]) => ?_) ?_
  on_goal 2 => unfold x
  clear_value x
  refine State.moves_of State.refillSwitch_moves (by decide) ?_
  exact State.moves_of State.enter_moves (by decide) (by assumption)
  refine State.moves_of State.endRun_moves (by decide) ?_
  exact State.moves_of State.nextPc_moves (by decide) State.moves_refl

theorem execSignal_moves {s : State} {x0} {x1} :
    s.moves (nextOr s (execSignal x0 x1 s)) [.regs, .stores, .mem, .ctxs, .tiles, .evt, .grp, .cap, .mon, .mc] := by
  unfold execSignal
  rw [nextOr_next]
  apply State.moves_of (State.instr_moves ?_ (fun u _ _ _ => ?_)) (fun _ h => h) ?_
  decide
  exact State.moves_refl
  apply State.moves_of (State.ifCond_moves ?_ (fun u => ?_)) (fun _ h => h) ?_
  decide
  exact State.moves_refl
  refine State.moves_of State.nextPc_moves (by decide) ?_
  exact State.moves_of State.occur_moves (by decide) State.moves_refl

theorem execCount_moves {s : State} {x0} {x1} :
    s.moves (nextOr s (execCount x0 x1 s)) [.regs, .stores, .mem, .ctxs, .tiles, .evt, .grp, .cap, .mon, .mc] := by
  unfold execCount
  rw [nextOr_next]
  apply State.moves_of (State.instr_moves ?_ (fun u _ _ _ => ?_)) (fun _ h => h) ?_
  decide
  exact State.moves_refl
  extract_lets +onlyGivenNames x
  clear_value x
  refine State.moves_of State.nextPc_moves (by decide) ?_
  exact State.moves_of State.setCnt_moves (by decide) State.moves_refl

theorem execSpinFault_moves {s : State} {x0} :
    s.moves (nextOr s (execSpinFault x0 s)) [.regs, .stores, .mem, .ctxs, .tiles, .evt, .grp, .cap, .mon, .mc] := by
  unfold execSpinFault
  rw [nextOr_next]
  split
  apply State.moves_ite ?_ ?_
  exact State.moves_of State.faultCtx_moves (by decide) State.moves_refl
  exact State.moves_refl
  exact State.moves_refl

theorem State.countGap_moves {s : State} {x1} :
    s.moves (State.countGap s x1) [.regs, .mon] := by
  unfold State.countGap
  refine State.moves_of State.monMark_moves (by decide) ?_
  refine State.moves_of State.put_moves (by decide) ?_
  exact State.moves_of State.bump_moves (by decide) State.moves_refl

theorem execGap_moves {s : State} {x0} :
    s.moves (nextOr s (execGap x0 s)) [.regs, .stores, .mem, .ctxs, .tiles, .evt, .grp, .cap, .mon, .mc] := by
  unfold execGap
  rw [nextOr_next]
  split
  extract_lets +onlyGivenNames x
  refine (fun (hx : s.moves x [.regs, .stores, .mem, .ctxs, .tiles, .evt, .grp, .cap, .mon, .mc]) => ?_) ?_
  on_goal 2 => unfold x
  clear_value x
  apply State.moves_ite ?_ ?_
  exact State.moves_of State.faultCtx_moves (by decide) (by assumption)
  extract_lets +onlyGivenNames x
  refine (fun (hx : s.moves x [.regs, .stores, .mem, .ctxs, .tiles, .evt, .grp, .cap, .mon, .mc]) => ?_) ?_
  on_goal 2 => unfold x
  clear_value x
  exact State.moves_of State.setTile_moves (by decide) (by assumption)
  refine State.moves_of State.bridgePins_moves (by decide) ?_
  exact State.moves_of State.stopVec_moves (by decide) (by assumption)
  exact State.moves_of State.countGap_moves (by decide) State.moves_refl
  exact State.moves_refl

theorem execGapEnd_moves {s : State} {x0} :
    s.moves (nextOr s (execGapEnd x0 s)) [.tiles] := by
  unfold execGapEnd
  rw [nextOr_next]
  split
  extract_lets +onlyGivenNames x
  clear_value x
  extract_lets +onlyGivenNames x
  clear_value x
  exact State.moves_of State.setTile_moves (by decide) State.moves_refl
  exact State.moves_of State.setTile_moves (by decide) State.moves_refl
  exact State.moves_refl

theorem State.logLoss_moves {s : State} {x1 : ℕ} {x2 : Catch} {x3 : ℕ} :
    s.moves (State.logLoss s x1 x2 x3) [.regs, .evt] := by
  unfold State.logLoss
  exact State.moves_of State.logWrite_moves (by decide) State.moves_refl

theorem State.dropCatch_moves {s : State} {x1 : ℕ} {x2 : Catch} {x3 : ℕ} :
    s.moves (State.dropCatch s x1 x2 x3) [.regs, .evt, .mon] := by
  unfold State.dropCatch
  refine State.moves_of State.monMark_moves (by decide) ?_
  refine State.moves_of State.put_moves (by decide) ?_
  refine State.moves_of State.bump_moves (by decide) ?_
  exact State.moves_of State.logLoss_moves (by decide) State.moves_refl

theorem State.dropCatches_moves {s : State} {x1 : ℕ} {x2 : Catch → Bool} {x3 : ℕ} :
    s.moves (State.dropCatches s x1 x2 x3) [.regs, .tiles, .evt, .mon] := by
  unfold State.dropCatches
  refine moves_forEach (fun _ _ => ?_) ?_
  apply State.moves_ite ?_ ?_
  exact State.moves_of State.dropCatch_moves (by decide) State.moves_refl
  exact State.moves_refl
  exact State.moves_of State.setTile_moves (by decide) State.moves_refl

theorem State.dropStale_moves {s : State} {x1} {x2} :
    s.moves (State.dropStale s x1 x2) [.regs, .tiles, .evt, .mon] := by
  unfold State.dropStale
  refine moves_forEach (fun u _ => ?_) ?_
  split
  exact State.moves_of State.dropCatches_moves (by decide) State.moves_refl
  exact State.moves_refl
  exact State.moves_refl

theorem State.settle_moves1 {s : State} {x1 : ℕ} {x2 : ArmAct} :
    s.moves (State.settle s x1 x2).1 [.regs, .tiles, .evt, .mon] := by
  unfold State.settle
  dsimp only
  split
  exact State.moves_refl
  split
  exact State.moves_refl
  split
  refine moves_forEach (fun _ _ => ?_) ?_
  split
  exact State.moves_of State.dropCatches_moves (by decide) State.moves_refl
  exact State.moves_refl
  exact State.moves_refl
  split
  refine State.moves_of State.monMark_moves (by decide) ?_
  refine State.moves_of State.dropCatches_moves (by decide) ?_
  refine State.moves_of State.setTile_moves (by decide) ?_
  refine moves_forEach (fun _ _ => ?_) ?_
  split
  exact State.moves_of State.dropCatches_moves (by decide) State.moves_refl
  exact State.moves_refl
  exact State.moves_refl
  exact State.moves_refl

theorem State.settle_moves {s : State} {x1 : ℕ} {x2 : ArmAct} {u : State} {y : Option Catch} (h : State.settle s x1
    x2 = (u, y)) :
    s.moves u [.regs, .tiles, .evt, .mon] := by
  have e : (State.settle s x1 x2).1 = u := by rw [h]
  rw [← e]; exact State.settle_moves1

theorem State.yieldCatches_moves {s : State} {x1} :
    s.moves (State.yieldCatches s x1) [.regs, .tiles, .evt, .mon] := by
  unfold State.yieldCatches
  split
  exact State.moves_refl
  split
  exact State.moves_refl
  refine State.moves_of State.dropCatches_moves (by decide) ?_
  exact State.moves_of State.dropStale_moves (by decide) State.moves_refl

theorem State.interrupted_moves {s : State} {x1 : ℕ} {x2 : ℕ} {x3 : ℕ} {x4 : Bool} :
    s.moves (State.interrupted s x1 x2 x3 x4) [.regs] := by
  unfold State.interrupted
  split
  exact State.moves_refl
  apply State.moves_ite ?_ ?_
  refine State.moves_of State.put_moves (by decide) ?_
  refine State.moves_of State.put_moves (by decide) ?_
  refine State.moves_of State.put_moves (by decide) ?_
  exact State.moves_of State.put_moves (by decide) State.moves_refl
  refine State.moves_of State.put_moves (by decide) ?_
  refine State.moves_of State.put_moves (by decide) ?_
  exact State.moves_of State.put_moves (by decide) State.moves_refl

theorem State.consumeBlock_moves {s : State} {x1} {x2} :
    s.moves (State.consumeBlock s x1 x2) [.stores] := by
  unfold State.consumeBlock
  split
  apply State.moves_ite ?_ ?_
  exact State.moves_refl
  exact State.moves_of State.setStore_moves (by decide) State.moves_refl
  exact State.moves_refl

theorem State.fire_moves {s : State} {x1 : Catch} :
    s.moves (State.fire s x1) [.ctxs] := by
  unfold State.fire
  exact State.moves_of State.setCtx_moves (by decide) State.moves_refl

theorem State.startDead_moves {s : State} {x1} {x2} {x3} {x4} :
    s.moves (State.startDead s x1 x2 x3 x4) [.regs, .stores, .mem, .tiles, .evt, .grp, .cap, .mon, .mc] := by
  unfold State.startDead
  extract_lets +onlyGivenNames x
  refine (fun (hx : s.moves x [.regs, .stores, .mem, .tiles, .evt, .grp, .cap, .mon, .mc]) => ?_) ?_
  on_goal 2 => unfold x
  clear_value x
  extract_lets +onlyGivenNames x
  clear_value x
  extract_lets +onlyGivenNames x
  clear_value x
  exact State.moves_of State.setTile_moves (by decide) (by assumption)
  exact State.moves_of State.cutVec_moves (by decide) State.moves_refl

theorem execCommitGoto_moves {s : State} {x0} :
    s.moves (nextOr s (execCommitGoto x0 s)) [.regs, .stores, .mem, .ctxs, .tiles, .evt, .grp, .cap, .mon, .mc] := by
  unfold execCommitGoto
  rw [nextOr_next]
  split
  exact State.moves_of (State.settle_moves ‹_›) (by decide) State.moves_refl
  extract_lets +onlyGivenNames x
  clear_value x
  extract_lets +onlyGivenNames x
  refine (fun (hx : s.moves x [.regs, .stores, .mem, .ctxs, .tiles, .evt, .grp, .cap, .mon, .mc]) => ?_) ?_
  on_goal 2 => unfold x
  clear_value x
  extract_lets +onlyGivenNames x
  clear_value x
  refine State.moves_of State.gcSlots_moves (by decide) ?_
  exact State.moves_of State.setPc_moves (by decide) (by assumption)
  refine State.moves_of State.startDead_moves (by decide) ?_
  refine State.moves_of State.fire_moves (by decide) ?_
  refine State.moves_of State.consumeBlock_moves (by decide) ?_
  refine State.moves_of State.interrupted_moves (by decide) ?_
  exact State.moves_of (State.settle_moves ‹_›) (by decide) State.moves_refl

theorem State.commitCallTo_moves {s : State} {x1} {x2} {x3} {x4} {x5} {x6} {x7} :
    s.moves (State.commitCallTo s x1 x2 x3 x4 x5 x6 x7) [.regs, .stores, .mem, .ctxs, .tiles, .evt, .grp, .cap, .mon, .mc] :=
      by
  unfold State.commitCallTo
  extract_lets +onlyGivenNames x
  clear_value x
  extract_lets +onlyGivenNames x
  clear_value x
  extract_lets +onlyGivenNames x
  refine (fun (hx : s.moves x [.regs, .stores, .mem, .ctxs, .tiles, .evt, .grp, .cap, .mon, .mc]) => ?_) ?_
  on_goal 2 => unfold x
  clear_value x
  extract_lets +onlyGivenNames x
  refine (fun (hx : s.moves x [.regs, .stores, .mem, .ctxs, .tiles, .evt, .grp, .cap, .mon, .mc]) => ?_) ?_
  on_goal 2 => unfold x
  clear_value x
  extract_lets +onlyGivenNames x
  clear_value x
  refine State.moves_of State.gcSlots_moves (by decide) ?_
  refine State.moves_of State.setPc_moves (by decide) ?_
  exact State.moves_of State.startDead_moves (by decide) (by assumption)
  exact State.moves_of State.setCtx_moves (by decide) (by assumption)
  exact State.moves_of State.interrupted_moves (by decide) State.moves_refl

theorem execCommitCall_moves {s : State} {x0} :
    s.moves (nextOr s (execCommitCall x0 s)) [.regs, .stores, .mem, .ctxs, .tiles, .evt, .grp, .cap, .mon, .mc] := by
  unfold execCommitCall
  rw [nextOr_next]
  split
  exact State.moves_of (State.settle_moves ‹_›) (by decide) State.moves_refl
  extract_lets +onlyGivenNames x
  clear_value x
  apply State.moves_ite ?_ ?_
  refine State.moves_of State.faultCtx_moves (by decide) ?_
  refine State.moves_of State.logLoss_moves (by decide) ?_
  refine State.moves_of State.fire_moves (by decide) ?_
  exact State.moves_of (State.settle_moves ‹_›) (by decide) State.moves_refl
  refine State.moves_of State.commitCallTo_moves (by decide) ?_
  refine State.moves_of State.fire_moves (by decide) ?_
  exact State.moves_of (State.settle_moves ‹_›) (by decide) State.moves_refl

theorem State.pauseAt_moves {s : State} {x1} {x2} {x3} {x4} {x5} :
    s.moves (State.pauseAt s x1 x2 x3 x4 x5) [.regs, .stores, .mem, .ctxs, .tiles, .evt, .grp, .cap, .mon, .mc] := by
  unfold State.pauseAt
  extract_lets +onlyGivenNames x
  clear_value x
  extract_lets +onlyGivenNames x
  clear_value x
  extract_lets +onlyGivenNames x
  refine (fun (hx : s.moves x [.regs, .stores, .mem, .ctxs, .tiles, .evt, .grp, .cap, .mon, .mc]) => ?_) ?_
  on_goal 2 => unfold x
  clear_value x
  extract_lets +onlyGivenNames x
  clear_value x
  extract_lets +onlyGivenNames x
  refine (fun (hx : s.moves x [.regs, .stores, .mem, .ctxs, .tiles, .evt, .grp, .cap, .mon, .mc]) => ?_) ?_
  on_goal 2 => unfold x
  clear_value x
  refine State.moves_of State.refillSwitch_moves (by decide) ?_
  refine State.moves_of State.leave_moves (by decide) ?_
  exact State.moves_of State.cutVec_moves (by decide) (by assumption)
  exact State.moves_of State.setCtx_moves (by decide) (by assumption)
  exact State.moves_of State.interrupted_moves (by decide) State.moves_refl

theorem execCommitSwitch_moves {s : State} {x0} :
    s.moves (nextOr s (execCommitSwitch x0 s)) [.regs, .stores, .mem, .ctxs, .tiles, .evt, .grp, .cap, .mon, .mc] := by
  unfold execCommitSwitch
  rw [nextOr_next]
  split
  exact State.moves_of (State.settle_moves ‹_›) (by decide) State.moves_refl
  extract_lets +onlyGivenNames x
  clear_value x
  extract_lets +onlyGivenNames x
  refine (fun (hx : s.moves x [.regs, .stores, .mem, .ctxs, .tiles, .evt, .grp, .cap, .mon, .mc]) => ?_) ?_
  on_goal 2 => unfold x
  clear_value x
  extract_lets +onlyGivenNames x
  refine (fun (hx : s.moves x [.regs, .stores, .mem, .ctxs, .tiles, .evt, .grp, .cap, .mon, .mc]) => ?_) ?_
  on_goal 2 => unfold x
  clear_value x
  extract_lets +onlyGivenNames x
  clear_value x
  extract_lets +onlyGivenNames x
  refine (fun (hx : s.moves x [.regs, .stores, .mem, .ctxs, .tiles, .evt, .grp, .cap, .mon, .mc]) => ?_) ?_
  on_goal 2 => unfold x
  clear_value x
  refine State.moves_of State.gcSlots_moves (by decide) ?_
  refine State.moves_of State.fire_moves (by decide) ?_
  exact State.moves_of State.setTile_moves (by decide) (by assumption)
  exact State.moves_of State.setCtx_moves (by decide) (by assumption)
  exact State.moves_of State.startDead_moves (by decide) (by assumption)
  refine State.moves_of State.pauseAt_moves (by decide) ?_
  exact State.moves_of (State.settle_moves ‹_›) (by decide) State.moves_refl

theorem execCommitStop_moves {s : State} {x0} :
    s.moves (nextOr s (execCommitStop x0 s)) [.regs, .stores, .mem, .ctxs, .tiles, .evt, .grp, .cap, .mon, .mc] := by
  unfold execCommitStop
  rw [nextOr_next]
  split
  exact State.moves_of (State.settle_moves ‹_›) (by decide) State.moves_refl
  refine State.moves_of State.leave_moves (by decide) ?_
  refine State.moves_of State.fire_moves (by decide) ?_
  refine State.moves_of State.consumeBlock_moves (by decide) ?_
  refine State.moves_of State.interrupted_moves (by decide) ?_
  exact State.moves_of (State.settle_moves ‹_›) (by decide) State.moves_refl

theorem State.reresolve_moves {s : State} {x1} {x2} :
    s.moves (State.reresolve s x1 x2) [.ctxs, .tiles] := by
  unfold State.reresolve
  split
  exact State.moves_refl
  extract_lets +onlyGivenNames x
  clear_value x
  apply State.moves_ite ?_ ?_
  exact State.moves_of State.setAhead_moves (by decide) State.moves_refl
  refine State.moves_of State.gcSlots_moves (by decide) ?_
  exact State.moves_of State.setTile_moves (by decide) State.moves_refl

theorem execCommitCount_moves {s : State} {x0} :
    s.moves (nextOr s (execCommitCount x0 s)) [.regs, .ctxs, .tiles, .evt, .mon] := by
  unfold execCommitCount
  rw [nextOr_next]
  split
  exact State.moves_of (State.settle_moves ‹_›) (by decide) State.moves_refl
  extract_lets +onlyGivenNames x
  clear_value x
  extract_lets +onlyGivenNames x
  clear_value x
  refine State.moves_of State.reresolve_moves (by decide) ?_
  refine State.moves_of State.setCnt_moves (by decide) ?_
  refine State.moves_of State.fire_moves (by decide) ?_
  exact State.moves_of (State.settle_moves ‹_›) (by decide) State.moves_refl

theorem execLandingFillStart_moves {x0 : Tile} {s : State} :
    s.moves (nextOr s (execLandingFillStart x0 s)) [.tiles] := by
  unfold execLandingFillStart
  extract_lets +onlyGivenNames x
  clear_value x
  split
  rw [nextOr_next]
  exact State.moves_refl
  split
  rw [nextOr_next]
  exact State.moves_refl
  rw [nextOr_next]
  exact State.moves_of State.setTile_moves (by decide) State.moves_refl

theorem State.runUse_moves {s : State} {x1} :
    s.moves (State.runUse s x1) [.mc] := by
  unfold State.runUse
  refine moves_forEach (fun u _ => ?_) ?_
  exact State.moves_of State.lineUse_moves (by decide) State.moves_refl
  refine moves_forEach (fun u _ => ?_) ?_
  exact State.moves_of State.wordsUse_moves (by decide) State.moves_refl
  exact State.moves_refl

theorem execLandingFillComplete_moves {s : State} {x0} :
    s.moves (nextOr s (execLandingFillComplete x0 s)) [.tiles, .mc] := by
  unfold execLandingFillComplete
  rw [nextOr_next]
  split
  exact State.moves_refl
  refine State.moves_of State.setTile_moves (by decide) ?_
  exact State.moves_of State.runUse_moves (by decide) State.moves_refl

end Sys2Proof.Machine
end

