-- ==== Sys2Proof/Laws/MovesEngines.lean ====
section
/-! SUPPORT. What each operation can change of the state (X_moves: the parts it may write; every other part is as before, and
the memories keep their canonical form): the outputs, the SEQ commands, the engines of the
pattern, waveform, capture and calibration parts, the clock, streams and placement. -/

namespace Sys2Proof.Machine

theorem State.openOutput_moves {s : State} {x1 : ℕ} :
    s.moves (State.openOutput s x1) [.wav, .grp] := by
  unfold State.openOutput
  apply State.moves_ite ?_ ?_
  exact State.moves_of State.setWave_moves (by decide) State.moves_refl
  exact State.moves_of State.setGroup_moves (by decide) State.moves_refl

theorem State.closeOutput_moves {s : State} {x1 : ℕ} :
    s.moves (State.closeOutput s x1) [.wav, .grp] := by
  unfold State.closeOutput
  apply State.moves_ite ?_ ?_
  exact State.moves_refl
  apply State.moves_ite ?_ ?_
  exact State.moves_of State.setWave_moves (by decide) State.moves_refl
  exact State.moves_of State.setGroup_moves (by decide) State.moves_refl

theorem State.latchOn_moves {s : State} {x1 : ℕ} {x2 : Latches → Latches} :
    s.moves (State.latchOn s x1 x2) [.wav, .grp, .latch] := by
  unfold State.latchOn
  refine State.moves_of State.openOutput_moves (by decide) ?_
  exact State.moves_of State.setLatches_moves (by decide) State.moves_refl

theorem State.latchOff_moves {s : State} {x1 : ℕ} {x2 : Latches → Latches} :
    s.moves (State.latchOff s x1 x2) [.wav, .grp, .latch] := by
  unfold State.latchOff
  refine State.moves_of State.closeOutput_moves (by decide) ?_
  exact State.moves_of State.setLatches_moves (by decide) State.moves_refl

theorem State.judgeOut_moves {s : State} :
    s.moves (State.judgeOut s) [.clk] := by
  unfold State.judgeOut
  extract_lets +onlyGivenNames x
  clear_value x
  extract_lets +onlyGivenNames x
  clear_value x
  extract_lets +onlyGivenNames x
  clear_value x
  apply State.moves_ite ?_ ?_
  with_reducible apply State.moves_mk
  on_goal 2 => exact fun p hp => by cases p <;> first | rfl | exact absurd (by decide) hp
  on_goal 2 => exact id
  exact State.moves_refl
  split
  with_reducible apply State.moves_mk
  on_goal 2 => exact fun p hp => by cases p <;> first | rfl | exact absurd (by decide) hp
  on_goal 2 => exact id
  exact State.moves_refl
  with_reducible apply State.moves_mk
  on_goal 2 => exact fun p hp => by cases p <;> first | rfl | exact absurd (by decide) hp
  on_goal 2 => exact id
  exact State.moves_refl

theorem State.latchOut_moves {s : State} {x1} :
    s.moves (State.latchOut s x1) [.clk] := by
  unfold State.latchOut
  refine State.moves_of State.judgeOut_moves (by decide) ?_
  with_reducible apply State.moves_mk
  on_goal 2 => exact fun p hp => by cases p <;> first | rfl | exact absurd (by decide) hp
  on_goal 2 => exact id
  exact State.moves_refl

theorem State.latchAll_moves {s : State} {x1} :
    s.moves (State.latchAll s x1) [.wav, .grp, .latch, .clk] := by
  unfold State.latchAll
  refine State.moves_of State.latchOut_moves (by decide) ?_
  refine moves_forUpto (fun u _ => ?_) ?_
  exact State.moves_of State.latchOn_moves (by decide) State.moves_refl
  exact State.moves_refl

theorem State.unlatchAll_moves {s : State} {x1} :
    s.moves (State.unlatchAll s x1) [.wav, .grp, .latch, .clk] := by
  unfold State.unlatchAll
  refine State.moves_of State.latchOut_moves (by decide) ?_
  refine moves_forUpto (fun u _ => ?_) ?_
  exact State.moves_of State.latchOff_moves (by decide) State.moves_refl
  exact State.moves_refl

theorem State.allSafe_moves {s : State} :
    s.moves (State.allSafe s) [.wav, .grp] := by
  unfold State.allSafe
  refine moves_forUpto (fun _ _ => ?_) ?_
  exact State.moves_of State.openOutput_moves (by decide) State.moves_refl
  exact State.moves_refl

theorem State.seqReport_moves {s : State} {x1} {x2} {x3} :
    s.moves (State.seqReport s x1 x2 x3) [.regs, .xng] := by
  unfold State.seqReport
  extract_lets +onlyGivenNames x
  refine (fun (hx : s.moves x [.regs, .xng]) => ?_) ?_
  on_goal 2 => unfold x
  clear_value x
  apply State.moves_ite ?_ ?_
  exact State.moves_of State.signalVec_moves (by decide) (by assumption)
  assumption
  refine State.moves_of State.put_moves (by decide) ?_
  exact State.moves_of State.put_moves (by decide) State.moves_refl

theorem State.seqCmd_moves {s : State} {x1} {x2} {x3} {x4} {x5} {W : List Piece} (hV : ∀ p ∈ ([.regs, .xng, .mc] : List
  Piece), p ∈ W) (hf : ∀ (u : State), u.moves (x5 u) W) :
    s.moves (State.seqCmd s x1 x2 x3 x4 x5) W := by
  unfold State.seqCmd
  apply State.moves_ite ?_ ?_
  exact State.moves_refl
  apply State.moves_ite ?_ ?_
  exact State.moves_of State.put_moves (fun p hp => hV p ((by decide : ∀ p ∈ _, p ∈ ([.regs, .xng, .mc] : List Piece)) p hp))
    State.moves_refl
  apply State.moves_ite ?_ ?_
  exact State.moves_of State.seqReport_moves (fun p hp => hV p ((by decide : ∀ p ∈ _, p ∈ ([.regs, .xng, .mc] : List Piece))
    p hp)) State.moves_refl
  apply State.moves_ite ?_ ?_
  exact State.moves_of State.seqReport_moves (fun p hp => hV p ((by decide : ∀ p ∈ _, p ∈ ([.regs, .xng, .mc] : List Piece))
    p hp)) State.moves_refl
  apply State.moves_ite ?_ ?_
  refine State.moves_of State.memWake_moves (fun p hp => hV p ((by decide : ∀ p ∈ _, p ∈ ([.regs, .xng, .mc] : List Piece)) p
    hp)) ?_
  apply State.moves_of (hf _) (fun _ h => h) ?_
  exact State.moves_refl
  apply State.moves_of (hf _) (fun _ h => h) ?_
  exact State.moves_refl

theorem State.loadCtx_moves {s : State} {x1 : ℕ} :
    s.moves (State.loadCtx s x1) [.regs, .ctxs] := by
  unfold State.loadCtx
  refine State.moves_of State.setCnt_moves (by decide) ?_
  refine State.moves_of State.setCnt_moves (by decide) ?_
  exact State.moves_of State.setCtx_moves (by decide) State.moves_refl

theorem execSeqLoad_moves {s : State} {x0} {x1} {x2} {x3} :
    s.moves (nextOr s (execSeqLoad x0 x1 x2 x3 s)) [.regs, .ctxs, .tiles, .xng, .mc] := by
  unfold execSeqLoad
  rw [nextOr_next]
  apply State.moves_of (State.seqCmd_moves ?_ (fun u => ?_)) (fun _ h => h) ?_
  decide
  exact State.moves_refl
  split
  exact State.moves_of State.seqReport_moves (by decide) State.moves_refl
  exact State.moves_of State.seqReport_moves (by decide) State.moves_refl
  exact State.moves_of State.seqReport_moves (by decide) State.moves_refl
  refine State.moves_of State.seqReport_moves (by decide) ?_
  refine State.moves_of State.refillSwitch_moves (by decide) ?_
  refine State.moves_of State.gcSlots_moves (by decide) ?_
  exact State.moves_of State.loadCtx_moves (by decide) State.moves_refl

theorem execSeqPrep_moves {s : State} {x0} {x1} {x2} {x3} :
    s.moves (nextOr s (execSeqPrep x0 x1 x2 x3 s)) [.regs, .tiles, .xng, .mc] := by
  unfold execSeqPrep
  rw [nextOr_next]
  apply State.moves_of (State.seqCmd_moves ?_ (fun u => ?_)) (fun _ h => h) ?_
  decide
  exact State.moves_refl
  apply State.moves_ite ?_ ?_
  exact State.moves_of State.seqReport_moves (by decide) State.moves_refl
  apply State.moves_ite ?_ ?_
  exact State.moves_of State.seqReport_moves (by decide) State.moves_refl
  split
  exact State.moves_of State.seqReport_moves (by decide) State.moves_refl
  refine State.moves_of State.put_moves (by decide) ?_
  exact State.moves_of State.setTile_moves (by decide) State.moves_refl

theorem execPrepComplete_moves {s : State} {x0} :
    s.moves (nextOr s (execPrepComplete x0 s)) [.regs, .ctxs, .tiles, .xng, .mc] := by
  unfold execPrepComplete
  rw [nextOr_next]
  split
  exact State.moves_refl
  extract_lets +onlyGivenNames x
  clear_value x
  extract_lets +onlyGivenNames x
  refine (fun (hx : s.moves x [.regs, .ctxs, .tiles, .xng, .mc]) => ?_) ?_
  on_goal 2 => unfold x
  clear_value x
  split
  exact State.moves_of State.seqReport_moves (by decide) (by assumption)
  extract_lets +onlyGivenNames x
  clear_value x
  extract_lets +onlyGivenNames x
  refine (fun (hx : s.moves x [.regs, .ctxs, .tiles, .xng, .mc]) => ?_) ?_
  on_goal 2 => unfold x
  clear_value x
  refine State.moves_of State.seqReport_moves (by decide) ?_
  refine State.moves_of State.refillSwitch_moves (by decide) ?_
  exact State.moves_of State.cacheLine_moves (by decide) (by assumption)
  exact State.moves_of State.setCtx_moves (by decide) (by assumption)
  refine State.moves_of State.put_moves (by decide) ?_
  exact State.moves_of State.setTile_moves (by decide) State.moves_refl

theorem State.startCmd_moves {s : State} {x1} {x2} {x3} {x4} {x5} {x6} :
    s.moves (State.startCmd s x1 x2 x3 x4 x5 x6) [.regs, .tiles, .xng] := by
  unfold State.startCmd
  extract_lets +onlyGivenNames x
  clear_value x
  apply State.moves_ite ?_ ?_
  exact State.moves_of State.seqReport_moves (by decide) State.moves_refl
  apply State.moves_ite ?_ ?_
  exact State.moves_of State.seqReport_moves (by decide) State.moves_refl
  split
  exact State.moves_of State.seqReport_moves (by decide) State.moves_refl
  apply State.moves_ite ?_ ?_
  exact State.moves_of State.seqReport_moves (by decide) State.moves_refl
  apply State.moves_ite ?_ ?_
  exact State.moves_of State.seqReport_moves (by decide) State.moves_refl
  extract_lets +onlyGivenNames x
  clear_value x
  refine State.moves_of State.seqReport_moves (by decide) ?_
  exact State.moves_of State.setTile_moves (by decide) State.moves_refl

theorem execStartCycle_moves {s : State} {x0} :
    s.moves (nextOr s (execStartCycle x0 s)) [.ctxs, .tiles, .wav, .grp] := by
  unfold execStartCycle
  rw [nextOr_next]
  split
  apply State.moves_ite ?_ ?_
  exact State.moves_refl
  extract_lets +onlyGivenNames x
  clear_value x
  extract_lets +onlyGivenNames x
  refine (fun (hx : s.moves x [.ctxs, .tiles, .wav, .grp]) => ?_) ?_
  on_goal 2 => unfold x
  clear_value x
  apply State.moves_ite ?_ ?_
  refine State.moves_of State.gcSlots_moves (by decide) ?_
  exact State.moves_of State.setAhead_moves (by decide) (by assumption)
  refine State.moves_of State.closeOutput_moves (by decide) ?_
  exact State.moves_of State.enter_moves (by decide) (by assumption)
  exact State.moves_of State.setTile_moves (by decide) State.moves_refl
  exact State.moves_refl

theorem State.pauseReq_moves {s : State} {x1} {x2} :
    s.moves (State.pauseReq s x1 x2) [.tiles] := by
  unfold State.pauseReq
  exact State.moves_of State.setTile_moves (by decide) State.moves_refl

theorem execSeqPause_moves {s : State} {x0} {x1} {x2} {x3} :
    s.moves (nextOr s (execSeqPause x0 x1 x2 x3 s)) [.regs, .tiles, .xng, .mc] := by
  unfold execSeqPause
  rw [nextOr_next]
  apply State.moves_of (State.seqCmd_moves ?_ (fun u => ?_)) (fun _ h => h) ?_
  decide
  exact State.moves_refl
  apply State.moves_ite ?_ ?_
  exact State.moves_of State.seqReport_moves (by decide) State.moves_refl
  refine State.moves_of State.seqReport_moves (by decide) ?_
  exact State.moves_of State.pauseReq_moves (by decide) State.moves_refl

theorem execPauseEffect_moves {s : State} {x0} :
    s.moves (nextOr s (execPauseEffect x0 s)) [.regs, .stores, .mem, .ctxs, .tiles, .evt, .grp, .cap, .mon, .mc] := by
  unfold execPauseEffect
  rw [nextOr_next]
  split
  exact State.moves_refl
  split
  exact State.moves_refl
  extract_lets +onlyGivenNames x
  clear_value x
  extract_lets +onlyGivenNames x
  refine (fun (hx : s.moves x [.regs, .stores, .mem, .ctxs, .tiles, .evt, .grp, .cap, .mon, .mc]) => ?_) ?_
  on_goal 2 => unfold x
  clear_value x
  apply State.moves_ite ?_ ?_
  assumption
  extract_lets +onlyGivenNames x
  refine (fun (hx : s.moves x [.regs, .stores, .mem, .ctxs, .tiles, .evt, .grp, .cap, .mon, .mc]) => ?_) ?_
  on_goal 2 => unfold x
  clear_value x
  refine State.moves_of State.dropCatches_moves (by decide) ?_
  exact State.moves_of State.pauseAt_moves (by decide) (by assumption)
  apply State.moves_ite ?_ ?_
  assumption
  split
  exact State.moves_of State.closeItem_moves (by decide) (by assumption)
  assumption
  exact State.moves_of State.setTile_moves (by decide) State.moves_refl

theorem State.dropStart_moves {s : State} {x1} {x2} :
    s.moves (State.dropStart s x1 x2) [.ctxs, .tiles] := by
  unfold State.dropStart
  split
  apply State.moves_ite ?_ ?_
  refine State.moves_of State.gcSlots_moves (by decide) ?_
  exact State.moves_of State.setTile_moves (by decide) State.moves_refl
  exact State.moves_refl
  exact State.moves_refl

theorem State.noStart_moves {s : State} {x1} :
    s.moves (State.noStart s x1) [.ctxs, .tiles] := by
  unfold State.noStart
  split
  exact State.moves_of State.dropStart_moves (by decide) State.moves_refl
  exact State.moves_refl

theorem execSeqStop_moves {s : State} {x0} {x1} {x2} {x3} :
    s.moves (nextOr s (execSeqStop x0 x1 x2 x3 s)) [.regs, .ctxs, .tiles, .xng, .mc] := by
  unfold execSeqStop
  rw [nextOr_next]
  apply State.moves_of (State.seqCmd_moves ?_ (fun u => ?_)) (fun _ h => h) ?_
  decide
  exact State.moves_refl
  apply State.moves_ite ?_ ?_
  exact State.moves_of State.seqReport_moves (by decide) State.moves_refl
  extract_lets +onlyGivenNames x
  refine (fun (hx : u.moves x [.regs, .ctxs, .tiles, .xng, .mc]) => ?_) ?_
  on_goal 2 => unfold x
  clear_value x
  refine State.moves_of State.seqReport_moves (by decide) ?_
  exact State.moves_of State.setTile_moves (by decide) (by assumption)
  exact State.moves_of State.dropStart_moves (by decide) State.moves_refl

theorem execStopEffect_moves {s : State} {x0} :
    s.moves (nextOr s (execStopEffect x0 s)) [.regs, .stores, .mem, .ctxs, .tiles, .evt, .grp, .cap, .mon, .mc] := by
  unfold execStopEffect
  rw [nextOr_next]
  split
  exact State.moves_refl
  apply State.moves_ite ?_ ?_
  exact State.moves_refl
  extract_lets +onlyGivenNames x
  clear_value x
  extract_lets +onlyGivenNames x
  refine (fun (hx : s.moves x [.regs, .stores, .mem, .ctxs, .tiles, .evt, .grp, .cap, .mon, .mc]) => ?_) ?_
  on_goal 2 => unfold x
  clear_value x
  apply State.moves_ite ?_ ?_
  assumption
  apply State.moves_ite ?_ ?_
  refine State.moves_of State.dropCatches_moves (by decide) ?_
  refine State.moves_of State.leave_moves (by decide) ?_
  exact State.moves_of State.interrupted_moves (by decide) (by assumption)
  extract_lets +onlyGivenNames x
  refine (fun (hx : s.moves x [.regs, .stores, .mem, .ctxs, .tiles, .evt, .grp, .cap, .mon, .mc]) => ?_) ?_
  on_goal 2 => unfold x
  clear_value x
  refine State.moves_of State.gcSlots_moves (by decide) ?_
  exact State.moves_of State.setCtx_moves (by decide) (by assumption)
  exact State.moves_of State.dropStart_moves (by decide) (by assumption)
  exact State.moves_of State.setTile_moves (by decide) State.moves_refl

theorem execSeqRelease_moves {s : State} {x0} {x1} {x2} {x3} :
    s.moves (nextOr s (execSeqRelease x0 x1 x2 x3 s)) [.regs, .ctxs, .xng, .mc] := by
  unfold execSeqRelease
  rw [nextOr_next]
  apply State.moves_of (State.seqCmd_moves ?_ (fun u => ?_)) (fun _ h => h) ?_
  decide
  exact State.moves_refl
  split
  refine State.moves_of State.seqReport_moves (by decide) ?_
  exact State.moves_of State.setCtx_moves (by decide) State.moves_refl
  refine State.moves_of State.seqReport_moves (by decide) ?_
  exact State.moves_of State.setCtx_moves (by decide) State.moves_refl
  refine State.moves_of State.seqReport_moves (by decide) ?_
  exact State.moves_of State.setCtx_moves (by decide) State.moves_refl
  exact State.moves_of State.seqReport_moves (by decide) State.moves_refl

theorem State.ctxWrite_moves {s : State} {x1 : ℕ} {x2 : Word} {x3 : List (Fld × Bool)} :
    s.moves (State.ctxWrite s x1 x2 x3) [.regs] := by
  fun_induction State.ctxWrite s x1 x2 x3
  exact State.moves_refl
  refine State.moves_of (V := [.regs]) (by assumption) (fun _ h => h) ?_
  apply State.moves_ite ?_ ?_
  exact State.moves_of State.put_moves (by decide) State.moves_refl
  apply State.moves_ite ?_ ?_
  exact State.moves_refl
  exact State.moves_of State.put_moves (by decide) State.moves_refl

theorem execContextTableWrite_moves {x0 : CtxNo} {x1 : BitVec 9} {x2 : Word} {s : State} :
    s.moves (nextOr s (execContextTableWrite x0 x1 x2 s)) [.regs] := by
  unfold execContextTableWrite
  split
  rw [nextOr_next]
  exact State.moves_of State.ctxWrite_moves (by decide) State.moves_refl
  rw [nextOr_next]
  exact State.moves_of State.put_moves (by decide) State.moves_refl

theorem State.commitSet_moves {s : State} {x1 : ℕ} {x2 : ℕ} {x3 : SMap Word72} :
    s.moves (State.commitSet s x1 x2 x3) [.regs, .grp] := by
  unfold State.commitSet
  refine State.moves_of State.put_moves (by decide) ?_
  exact State.moves_of State.setGroup_moves (by decide) State.moves_refl

theorem State.rowAdvance_moves {s : State} {x1 : ℕ} :
    s.moves (State.rowAdvance s x1) [.regs] := by
  unfold State.rowAdvance
  apply State.moves_ite ?_ ?_
  exact State.moves_of State.collide_moves (by decide) State.moves_refl
  exact State.moves_of State.put_moves (by decide) State.moves_refl

theorem execTsHstageD2Write_moves {s : State} {x0} {x1} :
    s.moves (nextOr s (execTsHstageD2Write x0 x1 s)) [.regs, .evt, .grp, .wrote] := by
  unfold execTsHstageD2Write
  extract_lets +onlyGivenNames x
  refine (fun (hx : s.moves x [.regs, .evt, .grp, .wrote]) => ?_) ?_
  on_goal 2 => unfold x
  clear_value x
  extract_lets +onlyGivenNames x
  clear_value x
  extract_lets +onlyGivenNames x
  clear_value x
  extract_lets +onlyGivenNames x
  clear_value x
  extract_lets +onlyGivenNames x
  refine (fun (hx : s.moves x [.regs, .evt, .grp, .wrote]) => ?_) ?_
  on_goal 2 => unfold x
  clear_value x
  rw [nextOr_next]
  exact State.moves_of State.rowAdvance_moves (by decide) (by assumption)
  apply State.moves_ite ?_ ?_
  exact State.moves_of State.setGroup_moves (by decide) (by assumption)
  exact State.moves_of State.setGroup_moves (by decide) (by assumption)
  exact State.moves_of State.plainWrite_moves (by decide) State.moves_refl

theorem execTsHcommit_moves {x0 : Grp} {x1 : Word} {s : State} :
    s.moves (nextOr s (execTsHcommit x0 x1 s)) [.regs] := by
  unfold execTsHcommit
  split
  rw [nextOr_next]
  exact State.moves_of State.put_moves (by decide) State.moves_refl
  rw [nextOr_next]
  exact State.moves_refl

theorem State.hostCommit_moves {s : State} {x1 : ℕ} :
    s.moves (State.hostCommit s x1) [.regs, .grp] := by
  unfold State.hostCommit
  apply State.moves_ite ?_ ?_
  exact State.moves_refl
  apply State.moves_ite ?_ ?_
  refine State.moves_of State.put_moves (by decide) ?_
  refine State.moves_of State.commitSet_moves (by decide) ?_
  refine State.moves_of State.setGroup_moves (by decide) ?_
  exact State.moves_of State.put_moves (by decide) State.moves_refl
  refine State.moves_of State.put_moves (by decide) ?_
  refine State.moves_of State.setGroup_moves (by decide) ?_
  exact State.moves_of State.put_moves (by decide) State.moves_refl

theorem State.safeWrite_moves {s : State} {x1} {x2} :
    s.moves (State.safeWrite s x1 x2) [.regs, .evt, .wav, .grp, .wrote] := by
  unfold State.safeWrite
  extract_lets +onlyGivenNames x
  refine (fun (hx : s.moves x [.regs, .evt, .wav, .grp, .wrote]) => ?_) ?_
  on_goal 2 => unfold x
  clear_value x
  apply State.moves_ite ?_ ?_
  exact State.moves_of State.openOutput_moves (by decide) (by assumption)
  assumption
  exact State.moves_of State.plainWrite_moves (by decide) State.moves_refl

theorem execWavForceSafeSet_moves {s : State} {x0} {x1} :
    s.moves (nextOr s (execWavForceSafeSet x0 x1 s)) [.regs, .evt, .wav, .grp, .wrote] := by
  unfold execWavForceSafeSet
  rw [nextOr_next]
  exact State.moves_of State.safeWrite_moves (by decide) State.moves_refl

theorem execWavForceSafeClear_moves {s : State} {x0} {x1} :
    s.moves (nextOr s (execWavForceSafeClear x0 x1 s)) [.regs, .evt, .wav, .grp, .wrote] := by
  unfold execWavForceSafeClear
  rw [nextOr_next]
  exact State.moves_of State.safeWrite_moves (by decide) State.moves_refl

theorem execGrpForceSafeSet_moves {s : State} {x0} {x1} :
    s.moves (nextOr s (execGrpForceSafeSet x0 x1 s)) [.regs, .evt, .wav, .grp, .wrote] := by
  unfold execGrpForceSafeSet
  rw [nextOr_next]
  exact State.moves_of State.safeWrite_moves (by decide) State.moves_refl

theorem execGrpForceSafeClear_moves {s : State} {x0} {x1} :
    s.moves (nextOr s (execGrpForceSafeClear x0 x1 s)) [.regs, .evt, .wav, .grp, .wrote] := by
  unfold execGrpForceSafeClear
  rw [nextOr_next]
  exact State.moves_of State.safeWrite_moves (by decide) State.moves_refl

theorem execLiveHold_moves {s : State} {x0} {x1} :
    s.moves (nextOr s (execLiveHold x0 x1 s)) [.regs, .evt, .wav, .grp, .wrote] := by
  unfold execLiveHold
  rw [nextOr_next]
  exact State.moves_of State.safeWrite_moves (by decide) State.moves_refl

theorem execRangeMuteEnd_moves {x0 : Wave} {s : State} :
    s.moves (nextOr s (execRangeMuteEnd x0 s)) [.wav] := by
  unfold execRangeMuteEnd
  extract_lets +onlyGivenNames x
  clear_value x
  split
  split
  rw [nextOr_next]
  exact State.moves_of State.setWave_moves (by decide) State.moves_refl
  rw [nextOr_next]
  exact State.moves_refl
  rw [nextOr_next]
  exact State.moves_refl

theorem State.setArmed_moves {s : State} {x1 : ℕ} {x2 : Bool} :
    s.moves (State.setArmed s x1 x2) [.grp, .cap] := by
  unfold State.setArmed
  apply State.moves_ite ?_ ?_
  exact State.moves_of State.setCapture_moves (by decide) State.moves_refl
  exact State.moves_of State.setGroup_moves (by decide) State.moves_refl

theorem State.recCtrlWrite_moves {s : State} {x1} {x2} :
    s.moves (State.recCtrlWrite s x1 x2) [.regs, .stores, .mem, .evt, .grp, .cap, .wrote, .mc] := by
  unfold State.recCtrlWrite
  extract_lets +onlyGivenNames x
  refine (fun (hx : s.moves x [.regs, .stores, .mem, .evt, .grp, .cap, .wrote, .mc]) => ?_) ?_
  on_goal 2 => unfold x
  clear_value x
  apply State.moves_ite ?_ ?_
  refine State.moves_of State.recHalt_moves (by decide) ?_
  exact State.moves_of State.setArmed_moves (by decide) (by assumption)
  apply State.moves_ite ?_ ?_
  apply State.moves_ite ?_ ?_
  exact State.moves_of State.recGo_moves (by decide) (by assumption)
  exact State.moves_of State.setArmed_moves (by decide) (by assumption)
  assumption
  exact State.moves_of State.plainWrite_moves (by decide) State.moves_refl

theorem execPcapStart_moves {s : State} {x0} {x1} :
    s.moves (nextOr s (execPcapStart x0 x1 s)) [.regs, .stores, .mem, .evt, .grp, .cap, .wrote, .mc] := by
  unfold execPcapStart
  rw [nextOr_next]
  exact State.moves_of State.recCtrlWrite_moves (by decide) State.moves_refl

theorem execPcapStop_moves {s : State} {x0} {x1} :
    s.moves (nextOr s (execPcapStop x0 x1 s)) [.regs, .stores, .mem, .evt, .grp, .cap, .wrote, .mc] := by
  unfold execPcapStop
  rw [nextOr_next]
  exact State.moves_of State.recCtrlWrite_moves (by decide) State.moves_refl

theorem execCapRecordStart_moves {s : State} {x0} {x1} :
    s.moves (nextOr s (execCapRecordStart x0 x1 s)) [.regs, .stores, .mem, .evt, .grp, .cap, .wrote, .mc] := by
  unfold execCapRecordStart
  rw [nextOr_next]
  exact State.moves_of State.recCtrlWrite_moves (by decide) State.moves_refl

theorem execCapRecordStop_moves {s : State} {x0} {x1} :
    s.moves (nextOr s (execCapRecordStop x0 x1 s)) [.regs, .stores, .mem, .evt, .grp, .cap, .wrote, .mc] := by
  unfold execCapRecordStop
  rw [nextOr_next]
  exact State.moves_of State.recCtrlWrite_moves (by decide) State.moves_refl

theorem execCbufTrig_moves {s : State} {x0} {x1} :
    s.moves (nextOr s (execCbufTrig x0 x1 s)) [.regs, .evt, .grp, .cap, .wrote] := by
  unfold execCbufTrig
  extract_lets +onlyGivenNames x
  refine (fun (hx : s.moves x [.regs, .evt, .grp, .cap, .wrote]) => ?_) ?_
  on_goal 2 => unfold x
  clear_value x
  rw [nextOr_next]
  apply State.moves_ite ?_ ?_
  exact State.moves_of State.recTrigger_moves (by decide) (by assumption)
  assumption
  exact State.moves_of State.plainWrite_moves (by decide) State.moves_refl

theorem execRecordingEnd_moves {s : State} {x0} :
    s.moves (nextOr s (execRecordingEnd x0 s)) [.regs, .stores, .mem, .grp, .cap, .mc] := by
  unfold execRecordingEnd
  rw [nextOr_next]
  split
  apply State.moves_ite ?_ ?_
  exact State.moves_of State.recEnd_moves (by decide) State.moves_refl
  exact State.moves_refl
  exact State.moves_refl

theorem execRecordingDrainComplete_moves {s : State} {x0} :
    s.moves (nextOr s (execRecordingDrainComplete x0 s)) [.regs, .grp, .cap] := by
  unfold execRecordingDrainComplete
  rw [nextOr_next]
  apply State.moves_ite ?_ ?_
  exact State.moves_of State.setDrains_moves (by decide) State.moves_refl
  split
  apply State.moves_ite ?_ ?_
  refine State.moves_of State.put_moves (by decide) ?_
  exact State.moves_of State.setRec_moves (by decide) State.moves_refl
  exact State.moves_refl
  exact State.moves_refl

theorem State.syncReset_moves {s : State} {x1 : ℕ} :
    s.moves (State.syncReset s x1) [.cap] := by
  unfold State.syncReset
  exact State.moves_of State.setCapture_moves (by decide) State.moves_refl

theorem State.holdCap_moves {s : State} {x1} :
    s.moves (State.holdCap s x1) [.regs, .stores, .mem, .grp, .cap, .mc] := by
  unfold State.holdCap
  exact State.moves_of State.recHold_moves (by decide) State.moves_refl

theorem State.holdCaps_moves {s : State} :
    s.moves (State.holdCaps s) [.regs, .stores, .mem, .grp, .cap, .mc] := by
  unfold State.holdCaps
  refine moves_forUpto (fun u _ => ?_) ?_
  exact State.moves_of State.holdCap_moves (by decide) State.moves_refl
  exact State.moves_refl

theorem State.freeCaps_moves {s : State} :
    s.moves (State.freeCaps s) [.cap] := by
  unfold State.freeCaps
  refine moves_forUpto (fun _ _ => ?_) ?_
  apply State.moves_ite ?_ ?_
  exact State.moves_refl
  exact State.moves_of State.syncReset_moves (by decide) State.moves_refl
  exact State.moves_refl

theorem State.countSat_moves {s : State} {x1 : ℕ} {x2 : Bool} :
    s.moves (State.countSat s x1 x2) [.regs] := by
  unfold State.countSat
  apply State.moves_ite ?_ ?_
  refine State.moves_of State.put_moves (by decide) ?_
  exact State.moves_of State.bump_moves (by decide) State.moves_refl
  exact State.moves_refl

theorem State.swapTrigger_moves {s : State} {x1 : ℕ} :
    s.moves (State.swapTrigger s x1) [.regs, .cap] := by
  unfold State.swapTrigger
  extract_lets +onlyGivenNames x
  clear_value x
  split
  apply State.moves_ite ?_ ?_
  refine State.moves_of State.put_moves (by decide) ?_
  exact State.moves_of State.setCapture_moves (by decide) State.moves_refl
  exact State.moves_of State.setCapture_moves (by decide) State.moves_refl
  exact State.moves_refl

theorem State.fadeBegin_moves {s : State} {x1 : ℕ} :
    s.moves (State.fadeBegin s x1) [.regs, .cap] := by
  unfold State.fadeBegin
  extract_lets +onlyGivenNames x
  clear_value x
  split
  apply State.moves_ite ?_ ?_
  refine State.moves_of State.put_moves (by decide) ?_
  refine State.moves_of State.put_moves (by decide) ?_
  exact State.moves_of State.setCapture_moves (by decide) State.moves_refl
  exact State.moves_refl
  exact State.moves_refl

theorem State.fadeFinish_moves {s : State} {x1 : ℕ} :
    s.moves (State.fadeFinish s x1) [.cap] := by
  unfold State.fadeFinish
  extract_lets +onlyGivenNames x
  clear_value x
  split
  apply State.moves_ite ?_ ?_
  exact State.moves_of State.setCapture_moves (by decide) State.moves_refl
  exact State.moves_refl
  exact State.moves_refl

theorem State.setThr_moves {s : State} {x1 : ℕ} {x2 : ℕ} {x3 : Thr} :
    s.moves (State.setThr s x1 x2 x3) [.cap] := by
  unfold State.setThr
  exact State.moves_of State.setCapture_moves (by decide) State.moves_refl

theorem State.thrChange_moves {s : State} {x1 : ℕ} {x2 : ℕ} {x3 : Bool} {x4 : Ts} :
    s.moves (State.thrChange s x1 x2 x3 x4) [.regs, .evt, .cap] := by
  unfold State.thrChange
  apply State.moves_ite ?_ ?_
  refine State.moves_of State.occur_moves (by decide) ?_
  refine State.moves_of State.bump_moves (by decide) ?_
  exact State.moves_of State.setThr_moves (by decide) State.moves_refl
  exact State.moves_of State.setThr_moves (by decide) State.moves_refl

theorem State.thrSample_moves {s : State} {x1 : ℕ} {x2 : ℕ} {x3 : ℤ} {x4 : Ts} :
    s.moves (State.thrSample s x1 x2 x3 x4) [.regs, .evt, .cap] := by
  unfold State.thrSample
  apply State.moves_ite ?_ ?_
  exact State.moves_of State.setThr_moves (by decide) State.moves_refl
  apply State.moves_ite ?_ ?_
  exact State.moves_refl
  apply State.moves_ite ?_ ?_
  exact State.moves_of State.setThr_moves (by decide) State.moves_refl
  apply State.moves_ite ?_ ?_
  exact State.moves_of State.setThr_moves (by decide) State.moves_refl
  apply State.moves_ite ?_ ?_
  exact State.moves_of State.thrChange_moves (by decide) State.moves_refl
  exact State.moves_of State.setThr_moves (by decide) State.moves_refl

theorem State.capOutput_moves {s : State} {x1} {x2} {x3} :
    s.moves (State.capOutput s x1 x2 x3) [.regs, .mem, .evt, .grp, .cap, .mc] := by
  unfold State.capOutput
  extract_lets +onlyGivenNames x
  refine (fun (hx : s.moves x [.regs, .mem, .evt, .grp, .cap, .mc]) => ?_) ?_
  on_goal 2 => unfold x
  clear_value x
  extract_lets +onlyGivenNames x
  clear_value x
  extract_lets +onlyGivenNames x
  clear_value x
  extract_lets +onlyGivenNames x
  clear_value x
  extract_lets +onlyGivenNames x
  clear_value x
  extract_lets +onlyGivenNames x
  clear_value x
  extract_lets +onlyGivenNames x
  refine (fun (hx : s.moves x [.regs, .mem, .evt, .grp, .cap, .mc]) => ?_) ?_
  on_goal 2 => unfold x
  clear_value x
  extract_lets +onlyGivenNames x
  clear_value x
  extract_lets +onlyGivenNames x
  refine (fun (hx : s.moves x [.regs, .mem, .evt, .grp, .cap, .mc]) => ?_) ?_
  on_goal 2 => unfold x
  clear_value x
  extract_lets +onlyGivenNames x
  clear_value x
  extract_lets +onlyGivenNames x
  clear_value x
  extract_lets +onlyGivenNames x
  clear_value x
  extract_lets +onlyGivenNames x
  refine (fun (hx : s.moves x [.regs, .mem, .evt, .grp, .cap, .mc]) => ?_) ?_
  on_goal 2 => unfold x
  clear_value x
  refine State.moves_of State.fadeFinish_moves (by decide) ?_
  exact State.moves_of State.recUnit_moves (by decide) (by assumption)
  exact State.moves_of State.setCapture_moves (by decide) (by assumption)
  refine moves_forUpto (fun u _ => ?_) ?_
  exact State.moves_of State.thrSample_moves (by decide) State.moves_refl
  assumption
  refine State.moves_of State.countSat_moves (by decide) ?_
  refine State.moves_of State.countSat_moves (by decide) ?_
  exact State.moves_of State.setCapture_moves (by decide) (by assumption)
  exact State.moves_of State.fadeBegin_moves (by decide) State.moves_refl

theorem State.setChain_moves {s : State} {x1 : ℕ} {x2 : Chain} :
    s.moves (State.setChain s x1 x2) [.cap] := by
  unfold State.setChain
  exact State.moves_of State.setCapture_moves (by decide) State.moves_refl

theorem State.capHb2_moves {s : State} {x1} {x2} {x3} :
    s.moves (State.capHb2 s x1 x2 x3) [.regs, .mem, .evt, .grp, .cap, .mc] := by
  unfold State.capHb2
  apply State.moves_ite ?_ ?_
  exact State.moves_of State.capOutput_moves (by decide) State.moves_refl
  extract_lets +onlyGivenNames x
  clear_value x
  extract_lets +onlyGivenNames x
  clear_value x
  extract_lets +onlyGivenNames x
  refine (fun (hx : s.moves x [.regs, .mem, .evt, .grp, .cap, .mc]) => ?_) ?_
  on_goal 2 => unfold x
  clear_value x
  apply State.moves_ite ?_ ?_
  assumption
  extract_lets +onlyGivenNames x
  clear_value x
  refine State.moves_of State.capOutput_moves (by decide) ?_
  exact State.moves_of State.countSat_moves (by decide) (by assumption)
  exact State.moves_of State.setChain_moves (by decide) State.moves_refl

theorem State.capHb1_moves {s : State} {x1} {x2} {x3} :
    s.moves (State.capHb1 s x1 x2 x3) [.regs, .mem, .evt, .grp, .cap, .mc] := by
  unfold State.capHb1
  apply State.moves_ite ?_ ?_
  exact State.moves_of State.capHb2_moves (by decide) State.moves_refl
  extract_lets +onlyGivenNames x
  clear_value x
  extract_lets +onlyGivenNames x
  clear_value x
  extract_lets +onlyGivenNames x
  refine (fun (hx : s.moves x [.regs, .mem, .evt, .grp, .cap, .mc]) => ?_) ?_
  on_goal 2 => unfold x
  clear_value x
  apply State.moves_ite ?_ ?_
  assumption
  extract_lets +onlyGivenNames x
  clear_value x
  refine State.moves_of State.capHb2_moves (by decide) ?_
  exact State.moves_of State.countSat_moves (by decide) (by assumption)
  exact State.moves_of State.setChain_moves (by decide) State.moves_refl

theorem State.capComp_moves {s : State} {x1} {x2} {x3} :
    s.moves (State.capComp s x1 x2 x3) [.regs, .mem, .evt, .grp, .cap, .mc] := by
  unfold State.capComp
  apply State.moves_ite ?_ ?_
  exact State.moves_of State.capHb1_moves (by decide) State.moves_refl
  extract_lets +onlyGivenNames x
  clear_value x
  extract_lets +onlyGivenNames x
  clear_value x
  extract_lets +onlyGivenNames x
  clear_value x
  refine State.moves_of State.capHb1_moves (by decide) ?_
  refine State.moves_of State.countSat_moves (by decide) ?_
  exact State.moves_of State.setChain_moves (by decide) State.moves_refl

theorem State.capCic_moves {s : State} {x1} {x2} {x3} :
    s.moves (State.capCic s x1 x2 x3) [.regs, .mem, .evt, .grp, .cap, .mc] := by
  unfold State.capCic
  extract_lets +onlyGivenNames x
  clear_value x
  apply State.moves_ite ?_ ?_
  exact State.moves_of State.capComp_moves (by decide) State.moves_refl
  extract_lets +onlyGivenNames x
  clear_value x
  extract_lets +onlyGivenNames x
  clear_value x
  extract_lets +onlyGivenNames x
  clear_value x
  apply State.moves_ite ?_ ?_
  exact State.moves_of State.setChain_moves (by decide) State.moves_refl
  extract_lets +onlyGivenNames x
  clear_value x
  refine State.moves_of State.capComp_moves (by decide) ?_
  exact State.moves_of State.setChain_moves (by decide) State.moves_refl

theorem State.capSample_moves {s : State} {x1} {x2} :
    s.moves (State.capSample s x1 x2) [.regs, .mem, .evt, .grp, .cap, .mc] := by
  unfold State.capSample
  extract_lets +onlyGivenNames x
  clear_value x
  extract_lets +onlyGivenNames x
  refine (fun (hx : s.moves x [.regs, .mem, .evt, .grp, .cap, .mc]) => ?_) ?_
  on_goal 2 => unfold x
  clear_value x
  extract_lets +onlyGivenNames x
  clear_value x
  extract_lets +onlyGivenNames x
  clear_value x
  extract_lets +onlyGivenNames x
  clear_value x
  extract_lets +onlyGivenNames x
  clear_value x
  extract_lets +onlyGivenNames x
  clear_value x
  extract_lets +onlyGivenNames x
  refine (fun (hx : s.moves x [.regs, .mem, .evt, .grp, .cap, .mc]) => ?_) ?_
  on_goal 2 => unfold x
  clear_value x
  extract_lets +onlyGivenNames x
  clear_value x
  extract_lets +onlyGivenNames x
  clear_value x
  refine State.moves_of State.capCic_moves (by decide) ?_
  refine State.moves_of State.countSat_moves (by decide) ?_
  exact State.moves_of State.setChain_moves (by decide) (by assumption)
  exact State.moves_of State.countSat_moves (by decide) (by assumption)
  apply State.moves_ite ?_ ?_
  refine State.moves_of State.put_moves (by decide) ?_
  exact State.moves_of State.bump_moves (by decide) State.moves_refl
  exact State.moves_refl

theorem State.capTick_moves {s : State} {x1} :
    s.moves (State.capTick s x1) [.regs, .mem, .evt, .grp, .cap, .mc] := by
  unfold State.capTick
  apply State.moves_ite ?_ ?_
  exact State.moves_refl
  refine moves_forUpto (fun u _ => ?_) ?_
  exact State.moves_of State.capSample_moves (by decide) State.moves_refl
  exact State.moves_refl

theorem State.calTake_moves {s : State} {x1} :
    s.moves (State.calTake s x1) [.regs, .stores, .mem, .wav, .grp, .cap, .latch, .mc] := by
  unfold State.calTake
  extract_lets +onlyGivenNames x
  refine (fun (hx : s.moves x [.regs, .stores, .mem, .wav, .grp, .cap, .latch, .mc]) => ?_) ?_
  on_goal 2 => unfold x
  clear_value x
  apply State.moves_ite ?_ ?_
  refine State.moves_of State.holdCap_moves (by decide) ?_
  exact State.moves_of State.setCapture_moves (by decide) (by assumption)
  assumption
  refine moves_forEach (fun u _ => ?_) ?_
  exact State.moves_of State.latchOn_moves (by decide) State.moves_refl
  exact State.moves_refl

theorem State.calDrop_moves {s : State} {x1 : CalRun} :
    s.moves (State.calDrop s x1) [.wav, .grp, .cap, .latch] := by
  unfold State.calDrop
  apply State.moves_ite ?_ ?_
  apply State.moves_ite ?_ ?_
  refine State.moves_of State.setCapture_moves (by decide) ?_
  refine moves_forEach (fun _ _ => ?_) ?_
  exact State.moves_of State.latchOff_moves (by decide) State.moves_refl
  exact State.moves_refl
  refine State.moves_of State.syncReset_moves (by decide) ?_
  refine State.moves_of State.setCapture_moves (by decide) ?_
  refine moves_forEach (fun _ _ => ?_) ?_
  exact State.moves_of State.latchOff_moves (by decide) State.moves_refl
  exact State.moves_refl
  refine moves_forEach (fun _ _ => ?_) ?_
  exact State.moves_of State.latchOff_moves (by decide) State.moves_refl
  exact State.moves_refl

theorem State.calReport_moves {s : State} {x1 : ℕ} {x2 : Sts} :
    s.moves (State.calReport s x1 x2) [.regs] := by
  unfold State.calReport
  refine State.moves_of State.put_moves (by decide) ?_
  refine State.moves_of State.put_moves (by decide) ?_
  exact State.moves_of State.put_moves (by decide) State.moves_refl

theorem State.calOver_moves {s : State} {x1 : CalRun} {x2 : Sts} :
    s.moves (State.calOver s x1 x2) [.regs, .wav, .grp, .cap, .latch, .cal] := by
  unfold State.calOver
  apply State.moves_ite ?_ ?_
  refine State.moves_of State.calDrop_moves (by decide) ?_
  extract_lets +onlyGivenNames x
  clear_value x
  with_reducible apply State.moves_mk
  on_goal 2 => exact fun p hp => by cases p <;> first | rfl | exact absurd (by decide) hp
  on_goal 2 => exact id
  exact State.moves_refl
  refine State.moves_of State.calReport_moves (by decide) ?_
  refine State.moves_of State.calDrop_moves (by decide) ?_
  extract_lets +onlyGivenNames x
  clear_value x
  with_reducible apply State.moves_mk
  on_goal 2 => exact fun p hp => by cases p <;> first | rfl | exact absurd (by decide) hp
  on_goal 2 => exact id
  exact State.moves_refl

theorem State.endCalWhere_moves {s : State} {x1 : CalRun → Bool} :
    s.moves (State.endCalWhere s x1) [.regs, .wav, .grp, .cap, .latch, .mc, .cal] := by
  unfold State.endCalWhere
  extract_lets +onlyGivenNames x
  clear_value x
  split
  apply State.moves_ite ?_ ?_
  refine State.moves_of State.calOver_moves (by decide) ?_
  apply State.moves_ite ?_ ?_
  refine State.moves_of State.put_moves (by decide) ?_
  with_reducible apply State.moves_mk
  on_goal 2 => exact fun p hp => by cases p <;> first | rfl | exact absurd (by decide) hp
  on_goal 2 => exact id
  exact State.moves_refl
  exact State.moves_refl
  exact State.moves_refl
  exact State.moves_refl

theorem State.endCal_moves {s : State} :
    s.moves (State.endCal s) [.regs, .wav, .grp, .cap, .latch, .mc, .cal] := by
  unfold State.endCal
  exact State.moves_of State.endCalWhere_moves (by decide) State.moves_refl

theorem execSeqStart_moves {s : State} {x0} {x1} {x2} {x3} :
    s.moves (nextOr s (execSeqStart x0 x1 x2 x3 s)) [.regs, .tiles, .xng, .mc] := by
  unfold execSeqStart
  rw [nextOr_next]
  apply State.moves_of (State.seqCmd_moves ?_ (fun u => ?_)) (fun _ h => h) ?_
  decide
  exact State.moves_refl
  exact State.moves_of State.startCmd_moves (by decide) State.moves_refl

theorem execSeqResume_moves {s : State} {x0} {x1} {x2} {x3} :
    s.moves (nextOr s (execSeqResume x0 x1 x2 x3 s)) [.regs, .tiles, .xng, .mc] := by
  unfold execSeqResume
  rw [nextOr_next]
  apply State.moves_of (State.seqCmd_moves ?_ (fun u => ?_)) (fun _ h => h) ?_
  decide
  exact State.moves_refl
  exact State.moves_of State.startCmd_moves (by decide) State.moves_refl

theorem State.fetchTick_moves {s : State} {x1} :
    s.moves (State.fetchTick s x1) [.mc] := by
  unfold State.fetchTick
  split
  apply State.moves_ite ?_ ?_
  exact State.moves_of State.wordsUse_moves (by decide) State.moves_refl
  refine State.moves_of State.wordsUse_moves (by decide) ?_
  exact State.moves_of State.wordsUse_moves (by decide) State.moves_refl
  exact State.moves_of State.wordsUse_moves (by decide) State.moves_refl
  exact State.moves_of State.wordsUse_moves (by decide) State.moves_refl
  exact State.moves_refl

theorem State.waveClear_moves {s : State} {x1 : ℕ} :
    s.moves (State.waveClear s x1) [.wav] := by
  unfold State.waveClear
  exact State.moves_of State.setWave_moves (by decide) State.moves_refl

theorem State.waveRestart_moves {s : State} {x1} :
    s.moves (State.waveRestart s x1) [.wav] := by
  unfold State.waveRestart
  refine State.moves_of State.setWave_moves (by decide) ?_
  exact State.moves_of State.waveClear_moves (by decide) State.moves_refl

theorem State.noteLag_moves {s : State} {x1} :
    s.moves (State.noteLag s x1) [.wav] := by
  unfold State.noteLag
  extract_lets +onlyGivenNames x
  clear_value x
  extract_lets +onlyGivenNames x
  clear_value x
  extract_lets +onlyGivenNames x
  clear_value x
  apply State.moves_ite ?_ ?_
  exact State.moves_refl
  exact State.moves_of State.setWave_moves (by decide) State.moves_refl

theorem State.flagUp_moves {s : State} {x1 : Bool} {x2 : Fld} {x3 : Fld} :
    s.moves (State.flagUp s x1 x2 x3) [.regs] := by
  unfold State.flagUp
  apply State.moves_ite ?_ ?_
  refine State.moves_of State.put_moves (by decide) ?_
  exact State.moves_of State.bump_moves (by decide) State.moves_refl
  exact State.moves_refl

theorem State.waveSlot_moves {s : State} {x1 : ℕ} {x2 : ℕ} :
    s.moves (State.waveSlot s x1 x2) [.free, .regs, .wav] := by
  unfold State.waveSlot
  dsimp only
  refine State.moves_of State.flagUp_moves (by decide) ?_
  refine State.moves_of State.flagUp_moves (by decide) ?_
  refine State.moves_of State.flagUp_moves (by decide) ?_
  apply State.moves_ite ?_ ?_
  with_reducible apply State.moves_mk
  on_goal 2 => exact fun p hp => by cases p <;> first | rfl | exact absurd (by decide) hp
  on_goal 2 => exact id
  exact State.moves_of State.setWave_moves (by decide) State.moves_refl
  exact State.moves_of State.setWave_moves (by decide) State.moves_refl

theorem State.poisonSlot_moves {s : State} {x1 : ℕ} {x2 : ℕ} :
    s.moves (State.poisonSlot s x1 x2) [.regs, .mon] := by
  unfold State.poisonSlot
  split
  apply State.moves_ite ?_ ?_
  exact State.moves_of State.poisonPlayed_moves (by decide) State.moves_refl
  exact State.moves_refl
  exact State.moves_refl

theorem State.waveTick_moves {s : State} {x1} :
    s.moves (State.waveTick s x1) [.free, .regs, .wav, .mon] := by
  unfold State.waveTick
  apply State.moves_ite ?_ ?_
  exact State.moves_refl
  refine moves_forUpto (fun u _ => ?_) ?_
  refine State.moves_of State.waveSlot_moves (by decide) ?_
  exact State.moves_of State.poisonSlot_moves (by decide) State.moves_refl
  exact State.moves_of State.noteLag_moves (by decide) State.moves_refl

theorem State.holdPhase_moves {s : State} {x1 : ℕ} :
    s.moves (State.holdPhase s x1) [.wav] := by
  unfold State.holdPhase
  exact State.moves_of State.setWave_moves (by decide) State.moves_refl

theorem State.freePhase_moves {s : State} {x1} :
    s.moves (State.freePhase s x1) [.wav] := by
  unfold State.freePhase
  refine State.moves_of State.setWave_moves (by decide) ?_
  exact State.moves_of State.waveRestart_moves (by decide) State.moves_refl

theorem State.regate_moves {s : State} :
    s.moves (State.regate s) [.regs, .stores, .mem, .wav, .grp, .cap, .mc] := by
  unfold State.regate
  apply State.moves_ite ?_ ?_
  apply State.moves_ite ?_ ?_
  exact State.moves_refl
  refine State.moves_of State.holdCaps_moves (by decide) ?_
  refine moves_forUpto (fun u _ => ?_) ?_
  exact State.moves_of State.holdPhase_moves (by decide) State.moves_refl
  exact State.moves_of State.put_moves (by decide) State.moves_refl
  apply State.moves_ite ?_ ?_
  exact State.moves_refl
  refine State.moves_of State.freeCaps_moves (by decide) ?_
  refine moves_forUpto (fun u _ => ?_) ?_
  exact State.moves_of State.freePhase_moves (by decide) State.moves_refl
  exact State.moves_of State.put_moves (by decide) State.moves_refl

theorem State.restep_moves {s : State} :
    s.moves (State.restep s) [.regs] := by
  unfold State.restep
  exact State.moves_of State.put_moves (by decide) State.moves_refl

theorem State.reclock_moves {s : State} {x1} :
    s.moves (State.reclock s x1) [.wav, .cap, .mc, .pw] := by
  unfold State.reclock
  extract_lets +onlyGivenNames x
  clear_value x
  extract_lets +onlyGivenNames x
  clear_value x
  apply State.moves_ite ?_ ?_
  exact State.moves_refl
  with_reducible apply State.moves_mk
  on_goal 2 => exact fun p hp => by cases p <;> first | rfl | exact absurd (by decide) hp
  on_goal 2 => exact id
  exact State.moves_refl

theorem State.search_moves {s : State} :
    s.moves (State.search s) [.clk] := by
  unfold State.search
  with_reducible apply State.moves_mk
  on_goal 2 => exact fun p hp => by cases p <;> first | rfl | exact absurd (by decide) hp
  on_goal 2 => exact id
  exact State.moves_refl

theorem State.setLoop_moves {s : State} {x1} :
    s.moves (State.setLoop s x1) [.regs, .stores, .mem, .wav, .grp, .cap, .latch, .mc, .pw, .clk, .cal] := by
  unfold State.setLoop
  extract_lets +onlyGivenNames x
  refine (fun (hx : s.moves x [.regs, .stores, .mem, .wav, .grp, .cap, .latch, .mc, .pw, .clk, .cal]) => ?_) ?_
  on_goal 2 => unfold x
  clear_value x
  extract_lets +onlyGivenNames x
  refine (fun (hx : s.moves x [.regs, .stores, .mem, .wav, .grp, .cap, .latch, .mc, .pw, .clk, .cal]) => ?_) ?_
  on_goal 2 => unfold x
  clear_value x
  extract_lets +onlyGivenNames x
  clear_value x
  extract_lets +onlyGivenNames x
  refine (fun (hx : s.moves x [.regs, .stores, .mem, .wav, .grp, .cap, .latch, .mc, .pw, .clk, .cal]) => ?_) ?_
  on_goal 2 => unfold x
  clear_value x
  extract_lets +onlyGivenNames x
  clear_value x
  extract_lets +onlyGivenNames x
  refine (fun (hx : s.moves x [.regs, .stores, .mem, .wav, .grp, .cap, .latch, .mc, .pw, .clk, .cal]) => ?_) ?_
  on_goal 2 => unfold x
  clear_value x
  extract_lets +onlyGivenNames x
  refine (fun (hx : s.moves x [.regs, .stores, .mem, .wav, .grp, .cap, .latch, .mc, .pw, .clk, .cal]) => ?_) ?_
  on_goal 2 => unfold x
  clear_value x
  apply State.moves_ite ?_ ?_
  refine State.moves_of State.unlatchAll_moves (by decide) ?_
  exact State.moves_of State.regate_moves (by decide) (by assumption)
  refine State.moves_of State.latchAll_moves (by decide) ?_
  exact State.moves_of State.regate_moves (by decide) (by assumption)
  refine State.moves_of State.reclock_moves (by decide) ?_
  apply State.moves_ite ?_ ?_
  exact State.moves_of State.search_moves (by decide) (by assumption)
  assumption
  apply State.moves_ite ?_ ?_
  assumption
  with_reducible apply State.moves_mk
  on_goal 2 => exact fun p hp => by cases p <;> first | rfl | exact absurd (by decide) hp
  on_goal 2 => exact id
  assumption
  apply State.moves_ite ?_ ?_
  with_reducible apply State.moves_mk
  on_goal 2 => exact fun p hp => by cases p <;> first | rfl | exact absurd (by decide) hp
  on_goal 2 => exact id
  assumption
  assumption
  refine State.moves_of State.restep_moves (by decide) ?_
  refine State.moves_of State.put_moves (by decide) ?_
  exact State.moves_of State.put_moves (by decide) (by assumption)
  apply State.moves_ite ?_ ?_
  exact State.moves_of State.endCal_moves (by decide) State.moves_refl
  exact State.moves_refl

theorem State.clkReport_moves {s : State} {x1 : ℕ} {x2 : Sts} :
    s.moves (State.clkReport s x1 x2) [.regs] := by
  unfold State.clkReport
  refine State.moves_of State.put_moves (by decide) ?_
  refine State.moves_of State.put_moves (by decide) ?_
  exact State.moves_of State.put_moves (by decide) State.moves_refl

theorem State.clkCmd_moves {s : State} {x1 : State → State} {W : List Piece} (hV : ∀ p ∈ ([.regs] : List Piece), p ∈
    W) (hf : ∀ (u : State), u.moves (x1 u) W) :
    s.moves (State.clkCmd s x1) W := by
  unfold State.clkCmd
  apply State.moves_ite ?_ ?_
  apply State.moves_of State.put_moves ?_ ?_
  assumption
  exact State.moves_refl
  apply State.moves_of (hf _) (fun _ h => h) ?_
  exact State.moves_refl

theorem State.dropRamp_moves {s : State} :
    s.moves (State.dropRamp s) [.regs, .clk] := by
  unfold State.dropRamp
  dsimp only
  split
  refine State.moves_of State.clkReport_moves (by decide) ?_
  refine State.moves_of State.put_moves (by decide) ?_
  with_reducible apply State.moves_mk
  on_goal 2 => exact fun p hp => by cases p <;> first | rfl | exact absurd (by decide) hp
  on_goal 2 => exact id
  exact State.moves_refl
  refine State.moves_of State.put_moves (by decide) ?_
  with_reducible apply State.moves_mk
  on_goal 2 => exact fun p hp => by cases p <;> first | rfl | exact absurd (by decide) hp
  on_goal 2 => exact id
  exact State.moves_refl

theorem State.takeRef_moves {s : State} {x1} :
    s.moves (State.takeRef s x1) [.regs, .clk] := by
  unfold State.takeRef
  refine State.moves_of State.put_moves (by decide) ?_
  refine State.moves_of State.put_moves (by decide) ?_
  with_reducible apply State.moves_mk
  on_goal 2 => exact fun p hp => by cases p <;> first | rfl | exact absurd (by decide) hp
  on_goal 2 => exact id
  exact State.moves_refl

theorem State.returnFrom_moves {s : State} {x1} :
    s.moves (State.returnFrom s x1) [.free, .regs, .stores, .mem, .wav, .grp, .cap, .latch, .mc, .pw, .clk, .cal] := by
  unfold State.returnFrom
  apply State.moves_ite ?_ ?_
  refine State.moves_of State.search_moves (by decide) ?_
  exact State.moves_of State.takeRef_moves (by decide) State.moves_refl
  apply State.moves_ite ?_ ?_
  refine State.moves_of State.setLoop_moves (by decide) ?_
  refine State.moves_of State.takeRef_moves (by decide) ?_
  with_reducible apply State.moves_mk
  on_goal 2 => exact fun p hp => by cases p <;> first | rfl | exact absurd (by decide) hp
  on_goal 2 => exact id
  exact State.moves_refl
  refine State.moves_of State.setLoop_moves (by decide) ?_
  refine State.moves_of State.takeRef_moves (by decide) ?_
  with_reducible apply State.moves_mk
  on_goal 2 => exact fun p hp => by cases p <;> first | rfl | exact absurd (by decide) hp
  on_goal 2 => exact id
  exact State.moves_refl

theorem State.changeRef_moves {s : State} {x1} :
    s.moves (State.changeRef s x1) [.free, .regs, .stores, .mem, .wav, .grp, .cap, .latch, .mc, .pw, .clk, .cal] := by
  unfold State.changeRef
  apply State.moves_ite ?_ ?_
  extract_lets +onlyGivenNames x
  refine (fun (hx : s.moves x [.free, .regs, .stores, .mem, .wav, .grp, .cap, .latch, .mc, .pw, .clk, .cal]) => ?_) ?_
  on_goal 2 => unfold x
  clear_value x
  with_reducible apply State.moves_mk
  on_goal 2 => exact fun p hp => by cases p <;> first | rfl | exact absurd (by decide) hp
  on_goal 2 => exact id
  assumption
  refine State.moves_of State.setLoop_moves (by decide) ?_
  exact State.moves_of State.dropRamp_moves (by decide) State.moves_refl
  exact State.moves_of State.returnFrom_moves (by decide) State.moves_refl

theorem State.lossNote_moves {s : State} {x1 : Fld} {x2 : Fld} {x3 : ℕ} :
    s.moves (State.lossNote s x1 x2 x3) [.regs, .xng, .mon] := by
  unfold State.lossNote
  refine State.moves_of State.alarm_moves (by decide) ?_
  refine State.moves_of State.monMark_moves (by decide) ?_
  refine State.moves_of State.bump_moves (by decide) ?_
  exact State.moves_of State.put_moves (by decide) State.moves_refl

theorem State.loseRef_moves {s : State} {x1} :
    s.moves (State.loseRef s x1) [.regs, .stores, .mem, .wav, .grp, .cap, .latch, .xng, .mon, .mc, .pw, .clk, .cal] := by
  unfold State.loseRef
  extract_lets +onlyGivenNames x
  refine (fun (hx : s.moves x [.regs, .stores, .mem, .wav, .grp, .cap, .latch, .xng, .mon, .mc, .pw, .clk, .cal]) => ?_) ?_
  on_goal 2 => unfold x
  clear_value x
  extract_lets +onlyGivenNames x
  refine (fun (hx : s.moves x [.regs, .stores, .mem, .wav, .grp, .cap, .latch, .xng, .mon, .mc, .pw, .clk, .cal]) => ?_) ?_
  on_goal 2 => unfold x
  clear_value x
  with_reducible apply State.moves_mk
  on_goal 2 => exact fun p hp => by cases p <;> first | rfl | exact absurd (by decide) hp
  on_goal 2 => exact id
  assumption
  apply State.moves_ite ?_ ?_
  assumption
  exact State.moves_of State.setLoop_moves (by decide) (by assumption)
  refine State.moves_of State.put_moves (by decide) ?_
  refine State.moves_of State.dropRamp_moves (by decide) ?_
  exact State.moves_of State.lossNote_moves (by decide) State.moves_refl

theorem State.measureRef_moves {s : State} {x1} :
    s.moves (State.measureRef s x1) [.free, .regs] := by
  unfold State.measureRef
  apply State.moves_ite ?_ ?_
  exact State.moves_refl
  refine State.moves_of State.put_moves (by decide) ?_
  exact State.moves_of State.drawFree_moves2 (by decide) State.moves_refl

theorem execRefLoss_moves {s : State} :
    s.moves (nextOr s (execRefLoss s)) [.free, .regs, .stores, .mem, .wav, .grp, .cap, .latch, .xng, .mon, .mc, .pw, .clk,
      .cal] := by
  unfold execRefLoss
  extract_lets +onlyGivenNames x
  clear_value x
  rw [nextOr_next]
  apply State.moves_ite ?_ ?_
  exact State.moves_refl
  refine State.moves_of State.loseRef_moves (by decide) ?_
  refine State.moves_of State.measureRef_moves (by decide) ?_
  with_reducible apply State.moves_mk
  on_goal 2 => exact fun p hp => by cases p <;> first | rfl | exact absurd (by decide) hp
  on_goal 2 => exact id
  exact State.moves_refl

theorem State.refsFail_moves {s : State} :
    s.moves (State.refsFail s) [.clk] := by
  unfold State.refsFail
  with_reducible apply State.moves_mk
  on_goal 2 => exact fun p hp => by cases p <;> first | rfl | exact absurd (by decide) hp
  on_goal 2 => exact id
  exact State.moves_refl

theorem execRefQualified_moves {s : State} {x0} :
    s.moves (nextOr s (execRefQualified x0 s)) [.free, .regs, .stores, .mem, .wav, .grp, .cap, .latch, .mc, .pw, .clk, .cal]
      := by
  unfold execRefQualified
  extract_lets +onlyGivenNames x
  clear_value x
  extract_lets +onlyGivenNames x
  clear_value x
  extract_lets +onlyGivenNames x
  refine (fun (hx : s.moves x [.free, .regs, .stores, .mem, .wav, .grp, .cap, .latch, .mc, .pw, .clk, .cal]) => ?_) ?_
  on_goal 2 => unfold x
  clear_value x
  rw [nextOr_next]
  apply State.moves_ite ?_ ?_
  exact State.moves_of State.changeRef_moves (by decide) (by assumption)
  assumption
  refine State.moves_of State.measureRef_moves (by decide) ?_
  with_reducible apply State.moves_mk
  on_goal 2 => exact fun p hp => by cases p <;> first | rfl | exact absurd (by decide) hp
  on_goal 2 => exact id
  exact State.moves_refl

theorem State.refSelected_moves {s : State} :
    s.moves (State.refSelected s) [.regs, .stores, .mem, .wav, .grp, .cap, .latch, .xng, .mon, .mc, .pw, .clk, .cal] := by
  unfold State.refSelected
  extract_lets +onlyGivenNames x
  clear_value x
  apply State.moves_ite ?_ ?_
  exact State.moves_of State.restep_moves (by decide) State.moves_refl
  exact State.moves_of State.loseRef_moves (by decide) State.moves_refl

theorem execRootLockLoss_moves {s : State} :
    s.moves (nextOr s (execRootLockLoss s)) [.regs, .stores, .mem, .wav, .grp, .cap, .latch, .xng, .mon, .mc, .pw, .clk,
      .cal] := by
  unfold execRootLockLoss
  rw [nextOr_next]
  apply State.moves_ite ?_ ?_
  exact State.moves_refl
  refine State.moves_of State.setLoop_moves (by decide) ?_
  refine State.moves_of State.dropRamp_moves (by decide) ?_
  exact State.moves_of State.lossNote_moves (by decide) State.moves_refl

theorem State.endClkCmd_moves {s : State} :
    s.moves (State.endClkCmd s) [.regs, .clk] := by
  unfold State.endClkCmd
  extract_lets +onlyGivenNames x
  clear_value x
  split
  refine State.moves_of State.clkReport_moves (by decide) ?_
  with_reducible apply State.moves_mk
  on_goal 2 => exact fun p hp => by cases p <;> first | rfl | exact absurd (by decide) hp
  on_goal 2 => exact id
  exact State.moves_refl
  exact State.moves_refl

theorem execLockAcquired_moves {s : State} {x0} :
    s.moves (nextOr s (execLockAcquired x0 s)) [.regs, .stores, .mem, .wav, .grp, .cap, .latch, .mc, .pw, .clk, .cal] := by
  unfold execLockAcquired
  rw [nextOr_next]
  apply State.moves_ite ?_ ?_
  exact State.moves_refl
  refine State.moves_of State.endClkCmd_moves (by decide) ?_
  refine State.moves_of State.setLoop_moves (by decide) ?_
  exact State.moves_of State.put_moves (by decide) State.moves_refl

theorem execSlewComplete_moves {s : State} :
    s.moves (nextOr s (execSlewComplete s)) [.regs, .stores, .mem, .wav, .grp, .cap, .latch, .mc, .pw, .clk, .cal] := by
  unfold execSlewComplete
  rw [nextOr_next]
  apply State.moves_ite ?_ ?_
  exact State.moves_of State.setLoop_moves (by decide) State.moves_refl
  exact State.moves_refl

theorem State.relock_moves {s : State} {x1} :
    s.moves (State.relock s x1) [.regs, .stores, .mem, .wav, .grp, .cap, .latch, .mc, .pw, .clk, .cal] := by
  unfold State.relock
  refine State.moves_of State.setLoop_moves (by decide) ?_
  refine State.moves_of State.put_moves (by decide) ?_
  with_reducible apply State.moves_mk
  on_goal 2 => exact fun p hp => by cases p <;> first | rfl | exact absurd (by decide) hp
  on_goal 2 => exact id
  exact State.moves_refl

theorem execRetune_moves {s : State} {x0} :
    s.moves (nextOr s (execRetune x0 s)) [.regs, .stores, .mem, .wav, .grp, .cap, .latch, .mc, .pw, .clk, .cal] := by
  unfold execRetune
  rw [nextOr_next]
  apply State.moves_of (State.clkCmd_moves ?_ (fun u => ?_)) (fun _ h => h) ?_
  decide
  exact State.moves_refl
  extract_lets +onlyGivenNames x
  clear_value x
  apply State.moves_ite ?_ ?_
  exact State.moves_of State.clkReport_moves (by decide) State.moves_refl
  apply State.moves_ite ?_ ?_
  exact State.moves_of State.clkReport_moves (by decide) State.moves_refl
  apply State.moves_ite ?_ ?_
  exact State.moves_of State.clkReport_moves (by decide) State.moves_refl
  refine State.moves_of State.relock_moves (by decide) ?_
  refine State.moves_of State.reclock_moves (by decide) ?_
  exact State.moves_of State.put64_moves (by decide) State.moves_refl

theorem execRelock_moves {s : State} {x0} :
    s.moves (nextOr s (execRelock x0 s)) [.regs, .stores, .mem, .wav, .grp, .cap, .latch, .mc, .pw, .clk, .cal] := by
  unfold execRelock
  rw [nextOr_next]
  apply State.moves_of (State.clkCmd_moves ?_ (fun u => ?_)) (fun _ h => h) ?_
  decide
  exact State.moves_refl
  apply State.moves_ite ?_ ?_
  exact State.moves_of State.clkReport_moves (by decide) State.moves_refl
  apply State.moves_ite ?_ ?_
  exact State.moves_of State.clkReport_moves (by decide) State.moves_refl
  exact State.moves_of State.relock_moves (by decide) State.moves_refl

theorem State.rampBegin_moves {s : State} {x1 : Bool} :
    s.moves (State.rampBegin s x1) [.regs, .clk] := by
  unfold State.rampBegin
  refine State.moves_of State.restep_moves (by decide) ?_
  refine State.moves_of State.put_moves (by decide) ?_
  extract_lets +onlyGivenNames x
  clear_value x
  with_reducible apply State.moves_mk
  on_goal 2 => exact fun p hp => by cases p <;> first | rfl | exact absurd (by decide) hp
  on_goal 2 => exact id
  exact State.moves_refl

theorem execRampStart_moves {x0 : BitVec 8} {x1 : BitVec 2} {s : State} :
    s.moves (nextOr s (execRampStart x0 x1 s)) [.regs, .clk] := by
  unfold execRampStart
  split
  rw [nextOr_next]
  apply State.moves_of (State.clkCmd_moves ?_ (fun _ => ?_)) (fun _ h => h) ?_
  decide
  exact State.moves_refl
  exact State.moves_of State.clkReport_moves (by decide) State.moves_refl
  split
  rw [nextOr_next]
  apply State.moves_of (State.clkCmd_moves ?_ (fun _ => ?_)) (fun _ h => h) ?_
  decide
  exact State.moves_refl
  split
  exact State.moves_of State.clkReport_moves (by decide) State.moves_refl
  refine State.moves_of State.clkReport_moves (by decide) ?_
  exact State.moves_of State.rampBegin_moves (by decide) State.moves_refl
  rw [nextOr_next]
  apply State.moves_of (State.clkCmd_moves ?_ (fun _ => ?_)) (fun _ h => h) ?_
  decide
  exact State.moves_refl
  extract_lets +onlyGivenNames x
  clear_value x
  split
  exact State.moves_of State.clkReport_moves (by decide) State.moves_refl
  refine State.moves_of State.put_moves (by decide) ?_
  with_reducible apply State.moves_mk
  on_goal 2 => exact fun p hp => by cases p <;> first | rfl | exact absurd (by decide) hp
  on_goal 2 => exact id
  exact State.moves_refl

theorem State.rampStrobe_moves {s : State} {x1} :
    s.moves (State.rampStrobe s x1) [.regs, .clk] := by
  unfold State.rampStrobe
  split
  extract_lets +onlyGivenNames x
  clear_value x
  extract_lets +onlyGivenNames x
  refine (fun (hx : s.moves x [.regs, .clk]) => ?_) ?_
  on_goal 2 => unfold x
  clear_value x
  split
  exact State.moves_of State.clkReport_moves (by decide) (by assumption)
  refine State.moves_of State.clkReport_moves (by decide) ?_
  exact State.moves_of State.rampBegin_moves (by decide) (by assumption)
  with_reducible apply State.moves_mk
  on_goal 2 => exact fun p hp => by cases p <;> first | rfl | exact absurd (by decide) hp
  on_goal 2 => exact id
  exact State.moves_refl
  exact State.moves_refl

theorem State.rampOver_moves {s : State} {x1 : ℤ} :
    s.moves (State.rampOver s x1) [.regs, .clk] := by
  unfold State.rampOver
  refine State.moves_of State.put64_moves (by decide) ?_
  refine State.moves_of State.put_moves (by decide) ?_
  extract_lets +onlyGivenNames x
  clear_value x
  with_reducible apply State.moves_mk
  on_goal 2 => exact fun p hp => by cases p <;> first | rfl | exact absurd (by decide) hp
  on_goal 2 => exact id
  exact State.moves_refl

theorem execRampStop_moves {s : State} {x0} {x1} :
    s.moves (nextOr s (execRampStop x0 x1 s)) [.regs, .clk] := by
  unfold execRampStop
  rw [nextOr_next]
  apply State.moves_of (State.clkCmd_moves ?_ (fun u => ?_)) (fun _ h => h) ?_
  decide
  exact State.moves_refl
  split
  exact State.moves_of State.clkReport_moves (by decide) State.moves_refl
  refine State.moves_of State.clkReport_moves (by decide) ?_
  apply State.moves_ite ?_ ?_
  with_reducible apply State.moves_mk
  on_goal 2 => exact fun p hp => by cases p <;> first | rfl | exact absurd (by decide) hp
  on_goal 2 => exact id
  exact State.moves_refl
  exact State.moves_of State.rampOver_moves (by decide) State.moves_refl

theorem execClkRampEnd_moves {s : State} :
    s.moves (nextOr s (execClkRampEnd s)) [.regs, .clk] := by
  unfold execClkRampEnd
  split
  split
  rw [nextOr_next]
  exact State.moves_of State.rampOver_moves (by decide) State.moves_refl
  rw [nextOr_next]
  exact State.moves_refl
  rw [nextOr_next]
  exact State.moves_refl

theorem execTriangleReturnToBase_moves {s : State} :
    s.moves (nextOr s (execTriangleReturnToBase s)) [.regs, .clk] := by
  unfold execTriangleReturnToBase
  split
  split
  rw [nextOr_next]
  exact State.moves_of State.rampOver_moves (by decide) State.moves_refl
  rw [nextOr_next]
  exact State.moves_refl
  rw [nextOr_next]
  exact State.moves_refl

theorem State.rampTick_moves {s : State} :
    s.moves (State.rampTick s) [.clk] := by
  unfold State.rampTick
  extract_lets +onlyGivenNames x
  clear_value x
  split
  exact State.moves_refl
  extract_lets +onlyGivenNames x
  clear_value x
  extract_lets +onlyGivenNames x
  clear_value x
  extract_lets +onlyGivenNames x
  clear_value x
  with_reducible apply State.moves_mk
  on_goal 2 => exact fun p hp => by cases p <;> first | rfl | exact absurd (by decide) hp
  on_goal 2 => exact id
  exact State.moves_refl

theorem State.clkTick_moves {s : State} :
    s.moves (State.clkTick s) [.free, .regs, .stores, .mem, .wav, .grp, .cap, .latch, .mc, .pw, .clk, .cal] := by
  unfold State.clkTick
  extract_lets +onlyGivenNames x
  refine (fun (hx : s.moves x [.free, .regs, .stores, .mem, .wav, .grp, .cap, .latch, .mc, .pw, .clk, .cal]) => ?_) ?_
  on_goal 2 => unfold x
  clear_value x
  split
  exact State.moves_of State.returnFrom_moves (by decide) (by assumption)
  assumption
  refine State.moves_of State.refsFail_moves (by decide) ?_
  exact State.moves_of State.rampTick_moves (by decide) State.moves_refl

theorem State.useHandler_moves {s : State} {x1} {x2} {u : State} (h : State.useHandler s x1 x2 = .ok u) :
    s.moves u [.tiles] := by
  unfold State.useHandler at h
  revert h
  split
  intro h; cases h
  intro h; cases h
  exact State.moves_refl
  intro h; cases h
  exact State.moves_of State.setTile_moves (by decide) State.moves_refl

theorem execStream_moves {s : State} {x0} {x1} :
    s.moves (nextOr s (execStream x0 x1 s)) [.regs, .stores, .mem, .ctxs, .tiles, .evt, .grp, .cap, .mon, .mc] := by
  unfold execStream
  rw [nextOr_next]
  apply State.moves_of (State.instr_moves ?_ (fun u _ _ _ => ?_)) (fun _ h => h) ?_
  decide
  exact State.moves_refl
  refine State.orRefuse_moves (by decide) ?_ (fun _ _ => ?_)
  exact State.moves_refl
  extract_lets +onlyGivenNames x
  refine (fun (hx : u.moves x.1 [.regs, .stores, .mem, .ctxs, .tiles, .evt, .grp, .cap, .mon, .mc]) => ?_) ?_
  on_goal 2 => unfold x
  clear_value x
  refine State.orRefuse_moves (by decide) ?_ (fun _ _ => ?_)
  assumption
  refine State.moves_of State.playBlocks_moves (by decide) ?_
  refine State.moves_of State.nextPc_moves (by decide) ?_
  exact State.moves_of (State.useHandler_moves ‹_›) (by decide) (by assumption)
  split
  dsimp -zeta only
  exact State.moves_refl
  exact State.moves_of State.landHandler_moves1 (by decide) State.moves_refl

theorem State.streamOver_moves {s : State} {x1} {x2} :
    s.moves (State.streamOver s x1 x2) [.regs, .stores, .mem, .ctxs, .tiles, .evt, .grp, .cap, .mon, .mc] := by
  unfold State.streamOver
  extract_lets +onlyGivenNames x
  clear_value x
  extract_lets +onlyGivenNames x
  refine (fun (hx : s.moves x [.regs, .stores, .mem, .ctxs, .tiles, .evt, .grp, .cap, .mon, .mc]) => ?_) ?_
  on_goal 2 => unfold x
  clear_value x
  refine State.moves_of State.gcSlots_moves (by decide) ?_
  exact State.moves_of State.setTile_moves (by decide) (by assumption)
  exact State.moves_of State.closeItem_moves (by decide) State.moves_refl

theorem State.notePlayed_moves {s : State} {x1 : ℕ} {x2 : ℕ} {x3 : ℕ} :
    s.moves (State.notePlayed s x1 x2 x3) [.ctxs] := by
  unfold State.notePlayed
  exact State.moves_of State.setCtx_moves (by decide) State.moves_refl

theorem execBlockPlayed_moves {s : State} {x0} :
    s.moves (nextOr s (execBlockPlayed x0 s)) [.stores, .ctxs, .tiles] := by
  unfold execBlockPlayed
  rw [nextOr_next]
  split
  apply State.moves_ite ?_ ?_
  exact State.moves_refl
  extract_lets +onlyGivenNames x
  clear_value x
  extract_lets +onlyGivenNames x
  clear_value x
  extract_lets +onlyGivenNames x
  clear_value x
  extract_lets +onlyGivenNames x
  refine (fun (hx : s.moves x [.stores, .ctxs, .tiles]) => ?_) ?_
  on_goal 2 => unfold x
  clear_value x
  exact State.moves_of State.setTile_moves (by decide) (by assumption)
  apply State.moves_ite ?_ ?_
  refine State.moves_of State.notePlayed_moves (by decide) ?_
  exact State.moves_of State.setStore_moves (by decide) State.moves_refl
  exact State.moves_refl
  exact State.moves_refl

theorem State.putItem_moves {s : State} {x1} {x2} :
    s.moves (State.putItem s x1 x2) [.tiles] := by
  unfold State.putItem
  exact State.moves_of State.setTile_moves (by decide) State.moves_refl

theorem State.nextBlock_moves {s : State} {x1} :
    s.moves (State.nextBlock s x1) [.regs, .stores, .mem, .ctxs, .tiles, .evt, .grp, .cap, .mon, .mc] := by
  unfold State.nextBlock
  split
  apply State.moves_ite ?_ ?_
  exact State.moves_of State.streamOver_moves (by decide) State.moves_refl
  extract_lets +onlyGivenNames x
  clear_value x
  extract_lets +onlyGivenNames x
  clear_value x
  extract_lets +onlyGivenNames x
  refine (fun (hx : s.moves x [.regs, .stores, .mem, .ctxs, .tiles, .evt, .grp, .cap, .mon, .mc]) => ?_) ?_
  on_goal 2 => unfold x
  clear_value x
  exact State.moves_of State.setTile_moves (by decide) (by assumption)
  apply State.moves_ite ?_ ?_
  exact State.moves_refl
  exact State.moves_of State.patAdvance_moves (by decide) State.moves_refl
  exact State.moves_refl

theorem execHoldRestart_moves {s : State} {x0} :
    s.moves (nextOr s (execHoldRestart x0 s)) [.tiles] := by
  unfold execHoldRestart
  rw [nextOr_next]
  split
  apply State.moves_ite ?_ ?_
  exact State.moves_refl
  exact State.moves_of State.putItem_moves (by decide) State.moves_refl
  exact State.moves_refl

theorem State.holdBlock_moves {s : State} {x1} {x2} :
    s.moves (State.holdBlock s x1 x2) [.regs, .stores, .mem, .tiles, .evt, .grp, .cap, .mon, .mc] := by
  unfold State.holdBlock
  split
  extract_lets +onlyGivenNames x
  refine (fun (hx : s.moves x [.regs, .stores, .mem, .tiles, .evt, .grp, .cap, .mon, .mc]) => ?_) ?_
  on_goal 2 => unfold x
  clear_value x
  refine State.moves_of State.putItem_moves (by decide) ?_
  apply State.moves_ite ?_ ?_
  exact State.moves_of State.bridgePins_moves (by decide) (by assumption)
  assumption
  exact State.moves_of State.stopVec_moves (by decide) State.moves_refl
  exact State.moves_refl

theorem State.underrunPlain_moves {s : State} {x1} {x2} {x3} {x4} {x5} {x6} :
    s.moves (State.underrunPlain s x1 x2 x3 x4 x5 x6) [.regs, .stores, .mem, .tiles, .evt, .grp, .cap, .mon, .mc] := by
  unfold State.underrunPlain
  extract_lets +onlyGivenNames x
  clear_value x
  split
  refine State.moves_of State.putItem_moves (by decide) ?_
  refine State.moves_of State.underrunLog_moves (by decide) ?_
  exact State.moves_of State.closeVec_moves (by decide) State.moves_refl
  refine State.moves_of State.holdBlock_moves (by decide) ?_
  exact State.moves_of State.underrunLog_moves (by decide) State.moves_refl
  refine State.moves_of State.holdBlock_moves (by decide) ?_
  exact State.moves_of State.underrunLog_moves (by decide) State.moves_refl

theorem State.ringWrite_moves {s : State} {x1} {x2} {x3} {x4} :
    s.moves (State.ringWrite s x1 x2 x3 x4) [.stores, .mem, .poison, .mc] := by
  fun_induction State.ringWrite s x1 x2 x3 x4
  exact State.moves_refl
  refine State.moves_of (V := [.stores, .mem, .poison, .mc]) (by assumption) (fun _ h => h) ?_
  refine State.moves_of State.setStore_moves (by decide) ?_
  dsimp +zetaDelta -zeta only
  apply State.moves_ite ?_ ?_
  with_reducible apply State.moves_mk
  on_goal 2 => exact fun p hp => by cases p <;> first | rfl | exact absurd (by decide) hp
  on_goal 2 => exact id
  exact State.moves_of State.storeWord_moves (by decide) State.moves_refl
  exact State.moves_of State.storeWord_moves (by decide) State.moves_refl

theorem execRingFillResume_moves {x0 : BitVec 24} {s : State} :
    s.moves (nextOr s (execRingFillResume x0 s)) [.segs] := by
  unfold execRingFillResume
  split
  rw [nextOr_next]
  exact State.moves_refl
  split
  rw [nextOr_next]
  exact State.moves_refl
  rw [nextOr_next]
  exact State.moves_of State.setSeg_moves (by decide) State.moves_refl

theorem execSlipwayTableWrite_moves {s : State} {x0} {x1} {x2} :
    s.moves (nextOr s (execSlipwayTableWrite x0 x1 x2 s)) [.regs, .lows] := by
  unfold execSlipwayTableWrite
  extract_lets +onlyGivenNames x
  rw [nextOr_next]
  split
  apply State.moves_ite ?_ ?_
  exact State.moves_refl
  extract_lets +onlyGivenNames x
  refine (fun (hx : s.moves x [.regs, .lows]) => ?_) ?_
  on_goal 2 => unfold x
  clear_value x
  apply State.moves_ite ?_ ?_
  dsimp +zetaDelta -zeta only
  with_reducible apply State.moves_mk
  on_goal 2 => exact fun p hp => by cases p <;> first | rfl | exact absurd (by decide) hp
  on_goal 2 => exact id
  assumption
  assumption
  refine State.moves_of State.put_moves (by decide) ?_
  exact State.moves_of State.put_moves (by decide) State.moves_refl
  apply State.moves_ite ?_ ?_
  exact State.moves_refl
  exact State.moves_of State.put_moves (by decide) State.moves_refl
  extract_lets +onlyGivenNames x
  refine (fun (hx : s.moves x [.regs, .lows]) => ?_) ?_
  on_goal 2 => unfold x
  clear_value x
  apply State.moves_ite ?_ ?_
  dsimp +zetaDelta -zeta only
  with_reducible apply State.moves_mk
  on_goal 2 => exact fun p hp => by cases p <;> first | rfl | exact absurd (by decide) hp
  on_goal 2 => exact id
  assumption
  assumption
  refine State.moves_of State.put_moves (by decide) ?_
  exact State.moves_of State.put_moves (by decide) State.moves_refl
  refine State.moves_of State.put_moves (by decide) ?_
  refine State.moves_of State.put_moves (by decide) ?_
  exact State.moves_of State.put_moves (by decide) State.moves_refl
  exact State.moves_of State.put_moves (by decide) State.moves_refl
  exact State.moves_refl
  exact State.moves_refl
  exact State.moves_refl
  exact State.moves_refl
  exact State.moves_refl
  exact State.moves_refl
  exact State.moves_of State.put_moves (by decide) State.moves_refl

theorem State.lowTest_moves {s : State} {x1} :
    s.moves (State.lowTest s x1) [.lows, .evt, .xng] := by
  unfold State.lowTest
  split
  exact State.moves_refl
  with_reducible apply State.moves_mk
  on_goal 2 => exact fun p hp => by cases p <;> first | rfl | exact absurd (by decide) hp
  on_goal 2 => exact id
  exact State.moves_refl
  extract_lets +onlyGivenNames x
  refine (fun (hx : s.moves x [.lows, .evt, .xng]) => ?_) ?_
  on_goal 2 => unfold x
  extract_lets +onlyGivenNames x
  refine (fun (hx : s.moves x [.lows, .evt, .xng]) => ?_) ?_
  on_goal 2 => unfold x
  apply State.moves_ite ?_ ?_
  exact State.moves_of State.occur_moves (by decide) (by assumption)
  assumption
  apply State.moves_ite ?_ ?_
  exact State.moves_of State.notify_moves (by decide) (by assumption)
  assumption
  with_reducible apply State.moves_mk
  on_goal 2 => exact fun p hp => by cases p <;> first | rfl | exact absurd (by decide) hp
  on_goal 2 => exact id
  exact State.moves_refl

theorem State.extMore_moves {s : State} {x1} :
    s.moves (State.extMore s x1) [.regs] := by
  unfold State.extMore
  exact State.moves_of State.put_moves (by decide) State.moves_refl

theorem State.extLess_moves {s : State} {x1} :
    s.moves (State.extLess s x1) [.regs] := by
  unfold State.extLess
  exact State.moves_of State.put_moves (by decide) State.moves_refl

theorem State.setExt_moves {s : State} {x1} {x2} :
    s.moves (State.setExt s x1 x2) [.mc] := by
  unfold State.setExt
  with_reducible apply State.moves_mk
  on_goal 2 => exact fun p hp => by cases p <;> first | rfl | exact absurd (by decide) hp
  on_goal 2 => exact id
  exact State.moves_refl

theorem State.useLines_moves {s : State} {x1} :
    s.moves (State.useLines s x1) [.mc] := by
  unfold State.useLines
  split
  exact State.moves_of State.setExt_moves (by decide) State.moves_refl
  exact State.moves_refl

theorem State.openExts_moves1 {s : State} {x1} {x2} {x3} {x4} {x5} :
    s.moves (State.openExts s x1 x2 x3 x4 x5).1 [.regs, .mc] := by
  fun_induction State.openExts s x1 x2 x3 x4 x5
  dsimp -zeta only
  exact State.moves_refl
  dsimp -zeta only
  exact State.moves_refl
  dsimp -zeta only
  exact State.moves_refl
  dsimp -zeta only
  dsimp +zetaDelta -zeta only
  refine State.moves_of (V := [.regs, .mc]) (by assumption) (fun _ h => h) ?_
  with_reducible apply State.moves_mk
  on_goal 2 => exact fun p hp => by cases p <;> first | rfl | exact absurd (by decide) hp
  on_goal 2 => exact id
  dsimp +zetaDelta -zeta only
  refine State.moves_of State.setExt_moves (by decide) ?_
  exact State.moves_of State.extMore_moves (by decide) State.moves_refl

theorem State.openExts_moves {s : State} {x1} {x2} {x3} {x4} {x5} {u : State} {y0} (h : State.openExts s x1 x2 x3 x4 x5 = (u,
  y0)) :
    s.moves u [.regs, .mc] := by
  have e : (State.openExts s x1 x2 x3 x4 x5).1 = u := by rw [h]
  rw [← e]; exact State.openExts_moves1

theorem State.takeStripe_moves1 {s : State} {x1} {x2} {x3} {x4} :
    s.moves (State.takeStripe s x1 x2 x3 x4).1 [.regs, .mc] := by
  unfold State.takeStripe
  extract_lets +onlyGivenNames x
  clear_value x
  extract_lets +onlyGivenNames x
  clear_value x
  extract_lets +onlyGivenNames x
  refine (fun (hx : s.moves x.1 [.regs, .mc]) => ?_) ?_
  on_goal 2 => unfold x
  clear_value x
  dsimp -zeta only
  assumption
  refine State.moves_of State.openExts_moves1 (by decide) ?_
  refine moves_forEach (fun u _ => ?_) ?_
  exact State.moves_of State.useLines_moves (by decide) State.moves_refl
  exact State.moves_refl

theorem State.takeStripe_moves {s : State} {x1} {x2} {x3} {x4} {u : State} {y0} (h : State.takeStripe s x1 x2 x3 x4 = (u,
  y0)) :
    s.moves u [.regs, .mc] := by
  have e : (State.takeStripe s x1 x2 x3 x4).1 = u := by rw [h]
  rw [← e]; exact State.takeStripe_moves1

theorem State.takeStripes_moves1 {s : State} {x1} {x2} {x3} {x4} :
    s.moves (State.takeStripes s x1 x2 x3 x4).1 [.regs, .mc] := by
  fun_induction State.takeStripes s x1 x2 x3 x4
  dsimp -zeta only
  exact State.moves_refl
  dsimp -zeta only
  dsimp +zetaDelta -zeta only
  refine State.moves_of (V := [.regs, .mc]) (by assumption) (fun _ h => h) ?_
  dsimp +zetaDelta -zeta only
  exact State.moves_of State.takeStripe_moves1 (by decide) State.moves_refl

theorem State.takeStripes_moves {s : State} {x1} {x2} {x3} {x4} {u : State} {y0} (h : State.takeStripes s x1 x2 x3 x4 = (u,
  y0)) :
    s.moves u [.regs, .mc] := by
  have e : (State.takeStripes s x1 x2 x3 x4).1 = u := by rw [h]
  rw [← e]; exact State.takeStripes_moves1

theorem State.dropExt_moves {s : State} {x1} {x2} :
    s.moves (State.dropExt s x1 x2) [.regs, .mc] := by
  unfold State.dropExt
  extract_lets +onlyGivenNames x
  clear_value x
  extract_lets +onlyGivenNames x
  refine (fun (hx : s.moves x [.regs, .mc]) => ?_) ?_
  on_goal 2 => unfold x
  clear_value x
  split
  apply State.moves_ite ?_ ?_
  refine State.moves_of State.extLess_moves (by decide) ?_
  with_reducible apply State.moves_mk
  on_goal 2 => exact fun p hp => by cases p <;> first | rfl | exact absurd (by decide) hp
  on_goal 2 => exact id
  assumption
  assumption
  assumption
  refine State.moves_of State.extLess_moves (by decide) ?_
  with_reducible apply State.moves_mk
  on_goal 2 => exact fun p hp => by cases p <;> first | rfl | exact absurd (by decide) hp
  on_goal 2 => exact id
  exact State.moves_refl

theorem State.giveLines_moves {s : State} {x1} :
    s.moves (State.giveLines s x1) [.regs, .mc] := by
  unfold State.giveLines
  split
  apply State.moves_ite ?_ ?_
  exact State.moves_of State.dropExt_moves (by decide) State.moves_refl
  exact State.moves_of State.setExt_moves (by decide) State.moves_refl
  exact State.moves_refl

theorem State.enlist_moves {s : State} {x1 : ℕ} :
    s.moves (State.enlist s x1) [.regs] := by
  unfold State.enlist
  apply State.moves_ite ?_ ?_
  exact State.moves_of State.put_moves (by decide) State.moves_refl
  exact State.moves_refl

theorem State.startCopy_moves {s : State} {x1} :
    s.moves (State.startCopy s x1) [.regs, .mc] := by
  unfold State.startCopy
  apply State.moves_ite ?_ ?_
  exact State.moves_refl
  split
  exact State.moves_refl
  split
  exact State.moves_refl
  extract_lets +onlyGivenNames x
  refine (fun (hx : s.moves x [.regs, .mc]) => ?_) ?_
  on_goal 2 => unfold x
  clear_value x
  with_reducible apply State.moves_mk
  on_goal 2 => exact fun p hp => by cases p <;> first | rfl | exact absurd (by decide) hp
  on_goal 2 => exact id
  assumption
  refine State.moves_of State.extMore_moves (by decide) ?_
  exact State.moves_of State.enlist_moves (by decide) State.moves_refl

theorem State.reassign_moves {s : State} {x1} {x2} :
    s.moves (State.reassign s x1 x2) [.regs, .mc] := by
  fun_induction State.reassign s x1 x2
  exact State.moves_refl
  with_reducible apply State.moves_mk
  on_goal 2 => exact fun p hp => by cases p <;> first | rfl | exact absurd (by decide) hp
  on_goal 2 => exact id
  exact State.moves_refl
  exact State.moves_refl
  refine State.moves_of (V := [.regs, .mc]) (by assumption) (fun _ h => h) ?_
  refine State.moves_of State.setExt_moves (by decide) ?_
  refine State.moves_of State.extLess_moves (by decide) ?_
  refine State.moves_of State.extMore_moves (by decide) ?_
  exact State.moves_of State.enlist_moves (by decide) State.moves_refl

theorem State.capacity_moves {s : State} :
    s.moves (State.capacity s) [.regs, .mc] := by
  unfold State.capacity
  extract_lets +onlyGivenNames x
  refine (fun (hx : s.moves x [.regs, .mc]) => ?_) ?_
  on_goal 2 => unfold x
  clear_value x
  refine moves_forUpto (fun u _ => ?_) ?_
  apply State.moves_ite ?_ ?_
  exact State.moves_of State.reassign_moves (by decide) State.moves_refl
  exact State.moves_refl
  assumption
  refine moves_forUpto (fun u _ => ?_) ?_
  apply State.moves_ite ?_ ?_
  exact State.moves_of State.startCopy_moves (by decide) State.moves_refl
  exact State.moves_refl
  exact State.moves_refl

theorem State.rankRetired_moves {s : State} {x1 : ℕ} :
    s.moves (State.rankRetired s x1) [.regs, .mc] := by
  unfold State.rankRetired
  refine State.moves_of State.put64_moves (by decide) ?_
  refine State.moves_of State.put_moves (by decide) ?_
  extract_lets +onlyGivenNames x
  clear_value x
  with_reducible apply State.moves_mk
  on_goal 2 => exact fun p hp => by cases p <;> first | rfl | exact absurd (by decide) hp
  on_goal 2 => exact id
  exact State.moves_refl

theorem State.rankFlags_moves {s : State} :
    s.moves (State.rankFlags s) [.regs] := by
  unfold State.rankFlags
  extract_lets +onlyGivenNames x
  refine (fun (hx : s.moves x [.regs]) => ?_) ?_
  on_goal 2 => unfold x
  clear_value x
  extract_lets +onlyGivenNames x
  refine (fun (hx : s.moves x [.regs]) => ?_) ?_
  on_goal 2 => unfold x
  clear_value x
  exact State.moves_of State.put_moves (by decide) (by assumption)
  exact State.moves_of State.put_moves (by decide) (by assumption)
  exact State.moves_of State.put_moves (by decide) State.moves_refl

theorem State.settleRanks_moves {s : State} :
    s.moves (State.settleRanks s) [.regs, .mc] := by
  unfold State.settleRanks
  refine State.moves_of State.rankFlags_moves (by decide) ?_
  refine moves_forUpto (fun _ _ => ?_) ?_
  apply State.moves_ite ?_ ?_
  exact State.moves_of State.rankRetired_moves (by decide) State.moves_refl
  exact State.moves_refl
  exact State.moves_refl

theorem State.addStorage_moves {s : State} {x1} {x2} {x3} {x4} {x5} {x6} :
    s.moves (State.addStorage s x1 x2 x3 x4 x5 x6) [.regs, .segs, .stores, .nextSid, .mc] := by
  unfold State.addStorage
  extract_lets +onlyGivenNames x
  refine (fun (hx : s.moves x.1 [.regs, .segs, .stores, .nextSid, .mc]) => ?_) ?_
  on_goal 2 => unfold x
  clear_value x
  extract_lets +onlyGivenNames x
  refine (fun (hx : s.moves x [.regs, .segs, .stores, .nextSid, .mc]) => ?_) ?_
  on_goal 2 => unfold x
  clear_value x
  extract_lets +onlyGivenNames x
  clear_value x
  extract_lets +onlyGivenNames x
  refine (fun (hx : s.moves x [.regs, .segs, .stores, .nextSid, .mc]) => ?_) ?_
  on_goal 2 => unfold x
  clear_value x
  extract_lets +onlyGivenNames x
  refine (fun (hx : s.moves x [.regs, .segs, .stores, .nextSid, .mc]) => ?_) ?_
  on_goal 2 => unfold x
  clear_value x
  exact State.moves_of State.setSeg_moves (by decide) (by assumption)
  with_reducible apply State.moves_mk
  on_goal 2 => exact fun p hp => by cases p <;> first | rfl | exact absurd (by decide) hp
  on_goal 2 => exact id
  assumption
  exact State.moves_of State.setStore_moves (by decide) (by assumption)
  assumption
  exact State.moves_of State.takeStripes_moves1 (by decide) State.moves_refl

theorem State.dropStorage_moves {s : State} {x1} :
    s.moves (State.dropStorage s x1) [.regs, .stores, .mem, .poison, .mc] := by
  unfold State.dropStorage
  extract_lets +onlyGivenNames x
  clear_value x
  extract_lets +onlyGivenNames x
  clear_value x
  extract_lets +onlyGivenNames x
  refine (fun (hx : s.moves x [.regs, .stores, .mem, .poison, .mc]) => ?_) ?_
  on_goal 2 => unfold x
  clear_value x
  refine State.moves_of State.settleRanks_moves (by decide) ?_
  refine State.moves_of State.capacity_moves (by decide) ?_
  refine moves_forEach (fun u _ => ?_) ?_
  exact State.moves_of State.giveLines_moves (by decide) State.moves_refl
  assumption
  with_reducible apply State.moves_mk
  on_goal 2 => exact fun p hp => by cases p <;> first | rfl | exact absurd (by decide) hp
  on_goal 2 => exact fun w => ⟨msorted_mfilter _ w.1, w.2⟩
  exact State.moves_refl

theorem State.plcRes_moves {s : State} {x1 : ℕ} {x2 : ℕ} :
    s.moves (State.plcRes s x1 x2) [.regs] := by
  unfold State.plcRes
  exact State.moves_of State.put_moves (by decide) State.moves_refl

theorem State.plcReport_moves {s : State} {x1 : ℕ} {x2 : Sts} {x3 : Bool} :
    s.moves (State.plcReport s x1 x2 x3) [.regs, .xng] := by
  unfold State.plcReport
  apply State.moves_ite ?_ ?_
  refine State.moves_of State.signalVec_moves (by decide) ?_
  refine State.moves_of State.put_moves (by decide) ?_
  refine State.moves_of State.put_moves (by decide) ?_
  exact State.moves_of State.put_moves (by decide) State.moves_refl
  refine State.moves_of State.put_moves (by decide) ?_
  refine State.moves_of State.put_moves (by decide) ?_
  exact State.moves_of State.put_moves (by decide) State.moves_refl

theorem State.plcCmd_moves {s : State} {x1} {x2} {x3} {W : List Piece} (hV : ∀ p ∈ ([.regs, .xng, .mc] : List Piece), p ∈ W)
  (hf : ∀ (u : State), u.moves (x3 u) W) :
    s.moves (State.plcCmd s x1 x2 x3) W := by
  unfold State.plcCmd
  apply State.moves_ite ?_ ?_
  exact State.moves_of State.put_moves (fun p hp => hV p ((by decide : ∀ p ∈ _, p ∈ ([.regs, .xng, .mc] : List Piece)) p hp))
    State.moves_refl
  apply State.moves_ite ?_ ?_
  exact State.moves_of State.plcReport_moves (fun p hp => hV p ((by decide : ∀ p ∈ _, p ∈ ([.regs, .xng, .mc] : List Piece))
    p hp)) State.moves_refl
  apply State.moves_ite ?_ ?_
  refine State.moves_of State.memWake_moves (fun p hp => hV p ((by decide : ∀ p ∈ _, p ∈ ([.regs, .xng, .mc] : List Piece)) p
    hp)) ?_
  apply State.moves_of (hf _) (fun _ h => h) ?_
  exact State.moves_refl
  apply State.moves_of (hf _) (fun _ h => h) ?_
  exact State.moves_refl

theorem State.allocate_moves {s : State} {x1} {x2} {x3} {x4} {x5} {u : State} {y0} (h : State.allocate s x1 x2 x3 x4 x5 = .ok
  (y0, u)) :
    s.moves u [.regs, .segs, .stores, .nextSid, .mc] := by
  unfold State.allocate at h
  revert h
  split
  intro h; cases h
  split
  intro h; cases h
  split
  intro h; cases h
  split
  intro h; cases h
  split
  intro h; cases h
  split
  intro h; cases h
  extract_lets +onlyGivenNames x
  clear_value x
  split
  intro h; cases h
  intro h; cases h
  exact State.moves_of State.addStorage_moves (by decide) State.moves_refl

theorem execAlloc_moves {s : State} {x0} :
    s.moves (nextOr s (execAlloc x0 s)) [.regs, .segs, .stores, .nextSid, .xng, .mc] := by
  unfold execAlloc
  rw [nextOr_next]
  apply State.moves_of (State.plcCmd_moves ?_ (fun u => ?_)) (fun _ h => h) ?_
  decide
  exact State.moves_refl
  split
  exact State.moves_of State.plcReport_moves (by decide) State.moves_refl
  refine State.moves_of State.plcReport_moves (by decide) ?_
  refine State.moves_of State.plcRes_moves (by decide) ?_
  exact State.moves_of (State.allocate_moves ‹_›) (by decide) State.moves_refl

theorem State.endXfers_moves {s : State} {x1 : Desc → Bool} {x2 : Sts} :
    s.moves (State.endXfers s x1 x2) [.xng] := by
  unfold State.endXfers
  extract_lets +onlyGivenNames x
  clear_value x
  with_reducible apply State.moves_mk
  on_goal 2 => exact fun p hp => by cases p <;> first | rfl | exact absurd (by decide) hp
  on_goal 2 => exact id
  exact State.moves_refl

theorem State.freeHandle_moves {s : State} {x1} {x2} :
    s.moves (State.freeHandle s x1 x2) [.regs, .segs, .stores, .mem, .poison, .xng, .mc] := by
  unfold State.freeHandle
  extract_lets +onlyGivenNames x
  refine (fun (hx : s.moves x [.regs, .segs, .stores, .mem, .poison, .xng, .mc]) => ?_) ?_
  on_goal 2 => unfold x
  clear_value x
  extract_lets +onlyGivenNames x
  refine (fun (hx : s.moves x [.regs, .segs, .stores, .mem, .poison, .xng, .mc]) => ?_) ?_
  on_goal 2 => unfold x
  clear_value x
  refine State.moves_of State.dropStorage_moves (by decide) ?_
  with_reducible apply State.moves_mk
  on_goal 2 => exact fun p hp => by cases p <;> first | rfl | exact absurd (by decide) hp
  on_goal 2 => exact id
  assumption
  refine moves_forEach (fun u _ => ?_) ?_
  refine State.moves_of State.plcReport_moves (by decide) ?_
  refine State.moves_of State.plcRes_moves (by decide) ?_
  exact State.moves_of State.plcRes_moves (by decide) State.moves_refl
  assumption
  exact State.moves_of State.endXfers_moves (by decide) State.moves_refl

theorem execFree_moves {s : State} {x0} :
    s.moves (nextOr s (execFree x0 s)) [.regs, .segs, .stores, .mem, .poison, .xng, .mc] := by
  unfold execFree
  rw [nextOr_next]
  apply State.moves_of (State.plcCmd_moves ?_ (fun u => ?_)) (fun _ h => h) ?_
  decide
  exact State.moves_refl
  split
  exact State.moves_of State.plcReport_moves (by decide) State.moves_refl
  apply State.moves_ite ?_ ?_
  exact State.moves_of State.plcReport_moves (by decide) State.moves_refl
  refine State.moves_of State.plcReport_moves (by decide) ?_
  exact State.moves_of State.freeHandle_moves (by decide) State.moves_refl

theorem execLoad_moves {x0 : BitVec 8} {s : State} :
    s.moves (nextOr s (execLoad x0 s)) [.regs, .segs, .xng, .mc] := by
  unfold execLoad
  dsimp only
  rw [nextOr_next]
  apply State.moves_of (State.plcCmd_moves ?_ (fun _ => ?_)) (fun _ h => h) ?_
  decide
  exact State.moves_refl
  split
  exact State.moves_of State.plcReport_moves (by decide) State.moves_refl
  split
  exact State.moves_of State.plcReport_moves (by decide) State.moves_refl
  refine State.moves_of State.plcReport_moves (by decide) ?_
  refine State.moves_of State.plcRes_moves (by decide) ?_
  exact State.moves_of State.setSeg_moves (by decide) State.moves_refl

theorem State.endLoad_moves {s : State} {x1 : ℕ} {x2 : Seg} {x3 : OpenLoad} {x4 : Sts} {x5 : Bool} :
    s.moves (State.endLoad s x1 x2 x3 x4 x5) [.regs, .segs, .xng] := by
  unfold State.endLoad
  refine State.moves_of State.plcReport_moves (by decide) ?_
  refine State.moves_of State.plcRes_moves (by decide) ?_
  refine State.moves_of State.plcRes_moves (by decide) ?_
  apply State.moves_ite ?_ ?_
  refine State.moves_of State.put64_moves (by decide) ?_
  exact State.moves_of State.setSeg_moves (by decide) State.moves_refl
  exact State.moves_of State.setSeg_moves (by decide) State.moves_refl

theorem execLoadEnd_moves {x0 : BitVec 24} {s : State} :
    s.moves (nextOr s (execLoadEnd x0 s)) [.regs, .segs, .xng] := by
  unfold execLoadEnd
  split
  rw [nextOr_next]
  exact State.moves_refl
  split
  rw [nextOr_next]
  exact State.moves_refl
  split
  rw [nextOr_next]
  exact State.moves_of State.endLoad_moves (by decide) State.moves_refl
  rw [nextOr_next]
  exact State.moves_of State.endLoad_moves (by decide) State.moves_refl

theorem State.poisonLine_moves {s : State} {x1} {x2} :
    s.moves (State.poisonLine s x1 x2) [.segs, .poison] := by
  unfold State.poisonLine
  extract_lets +onlyGivenNames x
  clear_value x
  extract_lets +onlyGivenNames x
  refine (fun (hx : s.moves x [.segs, .poison]) => ?_) ?_
  on_goal 2 => unfold x
  clear_value x
  apply State.moves_ite ?_ ?_
  assumption
  with_reducible apply State.moves_mk
  on_goal 2 => exact fun p hp => by cases p <;> first | rfl | exact absurd (by decide) hp
  on_goal 2 => exact id
  assumption
  with_reducible apply State.moves_mk
  on_goal 2 => exact fun p hp => by cases p <;> first | rfl | exact absurd (by decide) hp
  on_goal 2 => exact id
  exact State.moves_refl

theorem State.clearPoison_moves {s : State} {x1} {x2} {x3} {x4} {x5} :
    s.moves (State.clearPoison s x1 x2 x3 x4 x5) [.poison] := by
  unfold State.clearPoison
  extract_lets +onlyGivenNames x
  clear_value x
  extract_lets +onlyGivenNames x
  clear_value x
  with_reducible apply State.moves_mk
  on_goal 2 => exact fun p hp => by cases p <;> first | rfl | exact absurd (by decide) hp
  on_goal 2 => exact id
  exact State.moves_refl

theorem State.writeWords_moves {s : State} {x1} {x2} {x3} :
    s.moves (State.writeWords s x1 x2 x3) [.mem, .mc] := by
  fun_induction State.writeWords s x1 x2 x3
  exact State.moves_refl
  refine State.moves_of (V := [.mem, .mc]) (by assumption) (fun _ h => h) ?_
  exact State.moves_of State.storeWord_moves (by decide) State.moves_refl

theorem State.fillWords_moves {s : State} {x1} {x2} {x3} {x4} {x5} :
    s.moves (State.fillWords s x1 x2 x3 x4 x5) [.mem, .poison, .mc] := by
  unfold State.fillWords
  refine State.moves_of State.clearPoison_moves (by decide) ?_
  exact State.moves_of State.writeWords_moves (by decide) State.moves_refl

theorem State.loadWords_moves {s : State} {x1} {x2} {x3} {x4} :
    s.moves (State.loadWords s x1 x2 x3 x4) [.segs, .stores, .mem, .poison, .mc] := by
  unfold State.loadWords
  extract_lets +onlyGivenNames x
  clear_value x
  extract_lets +onlyGivenNames x
  refine (fun (hx : s.moves x [.segs, .stores, .mem, .poison, .mc]) => ?_) ?_
  on_goal 2 => unfold x
  clear_value x
  extract_lets +onlyGivenNames x
  clear_value x
  exact State.moves_of State.setSeg_moves (by decide) (by assumption)
  apply State.moves_ite ?_ ?_
  exact State.moves_of State.ringWrite_moves (by decide) State.moves_refl
  exact State.moves_of State.fillWords_moves (by decide) State.moves_refl

theorem State.takeSeconds_moves {s v u : State} {l : List (ℕ × ℕ)} {y : List (ℕ × ℕ × ℕ)}
    (h : State.takeSeconds s v l = some (y, u)) : s.moves u [.tiles] := by
  induction l generalizing s y with
  | nil =>
    rw [State.takeSeconds] at h
    injection h with h
    injection h with h1 h2
    subst h2
    exact State.moves_refl
  | cons p l ih =>
    obtain ⟨t, i⟩ := p
    rw [State.takeSeconds] at h
    split at h
    · exact ih h
    · split at h
      · cases h
      · split at h
        · cases h
        · injection h with h
          injection h with h1 h2
          subst h2
          exact State.moves_of (ih ‹_›) (fun _ q => q) (State.takeSlot_moves ‹_›)

theorem execRedirect_moves {x0 : BitVec 8} {s : State} :
    s.moves (nextOr s (execRedirect x0 s)) [.regs, .segs, .tiles, .xng, .mc] := by
  unfold execRedirect
  dsimp only
  split
  split
  rw [nextOr_next]
  apply State.moves_of (State.plcCmd_moves ?_ (fun _ => ?_)) (fun _ h => h) ?_
  decide
  exact State.moves_refl
  exact State.moves_of State.plcReport_moves (by decide) State.moves_refl
  rw [nextOr_next]
  apply State.moves_of (State.plcCmd_moves ?_ (fun _ => ?_)) (fun _ h => h) ?_
  decide
  exact State.moves_refl
  split
  exact State.moves_of State.plcReport_moves (by decide) State.moves_refl
  apply State.moves_ite ?_ ?_
  exact State.moves_of State.plcReport_moves (by decide) State.moves_refl
  split
  exact State.moves_of State.plcReport_moves (by decide) State.moves_refl
  refine State.moves_of State.plcReport_moves (by decide) ?_
  refine State.moves_of State.plcRes_moves (by decide) ?_
  refine State.moves_of State.plcRes_moves (by decide) ?_
  refine State.moves_of State.plcRes_moves (by decide) ?_
  refine State.moves_of State.setSeg_moves (by decide) ?_
  with_reducible apply State.moves_mk
  on_goal 2 => exact fun p hp => by cases p <;> first | rfl | exact absurd (by decide) hp
  on_goal 2 => exact id
  exact State.moves_of (State.takeSeconds_moves ‹_›) (by decide) State.moves_refl
  split
  rw [nextOr_next]
  apply State.moves_of (State.plcCmd_moves ?_ (fun _ => ?_)) (fun _ h => h) ?_
  decide
  exact State.moves_refl
  exact State.moves_of State.plcReport_moves (by decide) State.moves_refl
  rw [nextOr_next]
  apply State.moves_of (State.plcCmd_moves ?_ (fun _ => ?_)) (fun _ h => h) ?_
  decide
  exact State.moves_refl
  split
  exact State.moves_of State.plcReport_moves (by decide) State.moves_refl
  apply State.moves_ite ?_ ?_
  exact State.moves_of State.plcReport_moves (by decide) State.moves_refl
  split
  exact State.moves_of State.plcReport_moves (by decide) State.moves_refl
  refine State.moves_of State.plcReport_moves (by decide) ?_
  refine State.moves_of State.plcRes_moves (by decide) ?_
  refine State.moves_of State.plcRes_moves (by decide) ?_
  refine State.moves_of State.plcRes_moves (by decide) ?_
  refine State.moves_of State.setSeg_moves (by decide) ?_
  with_reducible apply State.moves_mk
  on_goal 2 => exact fun p hp => by cases p <;> first | rfl | exact absurd (by decide) hp
  on_goal 2 => exact id
  exact State.moves_of (State.takeSeconds_moves ‹_›) (by decide) State.moves_refl

theorem State.switchSlot_moves {s : State} {x1} {x2} {x3} :
    s.moves (State.switchSlot s x1 x2 x3) [.ctxs, .tiles] := by
  unfold State.switchSlot
  extract_lets +onlyGivenNames x
  clear_value x
  extract_lets +onlyGivenNames x
  clear_value x
  extract_lets +onlyGivenNames x
  refine (fun (hx : s.moves x [.ctxs, .tiles]) => ?_) ?_
  on_goal 2 => unfold x
  clear_value x
  extract_lets +onlyGivenNames x
  clear_value x
  exact State.moves_of State.setTile_moves (by decide) (by assumption)
  with_reducible apply State.moves_mk
  on_goal 2 => exact fun p hp => by cases p <;> first | rfl | exact absurd (by decide) hp
  on_goal 2 => exact id
  exact State.moves_refl

theorem State.relandArm_moves {s : State} {x1 : ℕ} {x2 : ℕ} {x3 : ℕ} :
    s.moves (State.relandArm s x1 x2 x3) [.ctxs, .tiles] := by
  unfold State.relandArm
  extract_lets +onlyGivenNames x
  clear_value x
  split
  split
  refine State.moves_of State.setCtx_moves (by decide) ?_
  exact State.moves_of (State.takeSlot_moves ‹_›) (by decide) State.moves_refl
  exact State.moves_of State.setCtx_moves (by decide) State.moves_refl
  exact State.moves_of State.setCtx_moves (by decide) State.moves_refl

theorem State.relandStale_moves {s : State} {x1 : ℕ} {x2 : ℕ} :
    s.moves (State.relandStale s x1 x2) [.ctxs, .tiles] := by
  unfold State.relandStale
  refine moves_forEach (fun _ _ => ?_) ?_
  apply State.moves_ite ?_ ?_
  refine moves_forEach (fun _ _ => ?_) ?_
  extract_lets +onlyGivenNames x
  clear_value x
  split
  split
  apply State.moves_ite ?_ ?_
  exact State.moves_of State.relandArm_moves (by decide) State.moves_refl
  exact State.moves_refl
  exact State.moves_refl
  exact State.moves_refl
  exact State.moves_refl
  exact State.moves_refl
  exact State.moves_refl

theorem State.relandLed_moves {s : State} {x1} {x2} :
    s.moves (State.relandLed s x1 x2) [.ctxs, .tiles] := by
  unfold State.relandLed
  refine moves_forEach (fun u _ => ?_) ?_
  apply State.moves_ite ?_ ?_
  split
  split
  refine State.moves_of State.switchSlot_moves (by decide) ?_
  exact State.moves_of (State.takeSlot_moves ‹_›) (by decide) State.moves_refl
  exact State.moves_refl
  exact State.moves_refl
  exact State.moves_refl
  exact State.moves_refl

theorem execRedirectApply_moves {s : State} {x0} :
    s.moves (nextOr s (execRedirectApply x0 s)) [.segs, .olds, .ctxs, .tiles] := by
  unfold execRedirectApply
  rw [nextOr_next]
  split
  split
  apply State.moves_ite ?_ ?_
  exact State.moves_refl
  extract_lets +onlyGivenNames x
  refine (fun (hx : s.moves x [.segs, .olds, .ctxs, .tiles]) => ?_) ?_
  on_goal 2 => unfold x
  clear_value x
  extract_lets +onlyGivenNames x
  refine (fun (hx : s.moves x [.segs, .olds, .ctxs, .tiles]) => ?_) ?_
  on_goal 2 => unfold x
  clear_value x
  extract_lets +onlyGivenNames x
  refine (fun (hx : s.moves x [.segs, .olds, .ctxs, .tiles]) => ?_) ?_
  on_goal 2 => unfold x
  clear_value x
  extract_lets +onlyGivenNames x
  refine (fun (hx : s.moves x [.segs, .olds, .ctxs, .tiles]) => ?_) ?_
  on_goal 2 => unfold x
  clear_value x
  refine moves_forUpto (fun u _ => ?_) ?_
  refine State.moves_of State.gcSlots_moves (by decide) ?_
  exact State.moves_of State.relandLed_moves (by decide) State.moves_refl
  assumption
  exact State.moves_of State.relandStale_moves (by decide) (by assumption)
  refine moves_forEach (fun u _ => ?_) ?_
  exact State.moves_of State.switchSlot_moves (by decide) State.moves_refl
  assumption
  with_reducible apply State.moves_mk
  on_goal 2 => exact fun p hp => by cases p <;> first | rfl | exact absurd (by decide) hp
  on_goal 2 => exact id
  assumption
  exact State.moves_of State.setSeg_moves (by decide) State.moves_refl
  exact State.moves_refl
  exact State.moves_refl

theorem execRedirectOldRelease_moves {s : State} {x0} :
    s.moves (nextOr s (execRedirectOldRelease x0 s)) [.regs, .stores, .olds, .mem, .poison, .mc] := by
  unfold execRedirectOldRelease
  rw [nextOr_next]
  split
  exact State.moves_refl
  refine State.moves_of State.dropStorage_moves (by decide) ?_
  with_reducible apply State.moves_mk
  on_goal 2 => exact fun p hp => by cases p <;> first | rfl | exact absurd (by decide) hp
  on_goal 2 => exact id
  exact State.moves_refl

theorem execQuery_moves {x0 : BitVec 8} {s : State} :
    s.moves (nextOr s (execQuery x0 s)) [.regs, .xng, .mc] := by
  unfold execQuery
  dsimp only
  rw [nextOr_next]
  apply State.moves_of (State.plcCmd_moves ?_ (fun _ => ?_)) (fun _ h => h) ?_
  decide
  exact State.moves_refl
  split
  refine State.moves_of State.plcReport_moves (by decide) ?_
  refine State.moves_of State.plcRes_moves (by decide) ?_
  refine State.moves_of State.plcRes_moves (by decide) ?_
  refine State.moves_of State.plcRes_moves (by decide) ?_
  exact State.moves_of State.plcRes_moves (by decide) State.moves_refl
  refine State.moves_of State.plcReport_moves (by decide) ?_
  apply State.moves_ite ?_ ?_
  refine State.moves_of State.plcRes_moves (by decide) ?_
  refine State.moves_of State.plcRes_moves (by decide) ?_
  refine State.moves_of State.plcRes_moves (by decide) ?_
  exact State.moves_of State.plcRes_moves (by decide) State.moves_refl
  refine State.moves_of State.plcRes_moves (by decide) ?_
  refine State.moves_of State.plcRes_moves (by decide) ?_
  refine State.moves_of State.plcRes_moves (by decide) ?_
  exact State.moves_of State.plcRes_moves (by decide) State.moves_refl

theorem State.addJob_moves {s : State} {x1} {x2} :
    s.moves (State.addJob s x1 x2) [.mc] := by
  unfold State.addJob
  apply State.moves_ite ?_ ?_
  exact State.moves_refl
  with_reducible apply State.moves_mk
  on_goal 2 => exact fun p hp => by cases p <;> first | rfl | exact absurd (by decide) hp
  on_goal 2 => exact id
  exact State.moves_refl

theorem execMigrate_moves {s : State} {x0} {x1} :
    s.moves (nextOr s (execMigrate x0 x1 s)) [.regs, .xng, .mc] := by
  unfold execMigrate
  rw [nextOr_next]
  apply State.moves_of (State.plcCmd_moves ?_ (fun u => ?_)) (fun _ h => h) ?_
  decide
  exact State.moves_refl
  split
  refine State.moves_of State.plcReport_moves (by decide) ?_
  exact State.moves_of State.addJob_moves (by decide) State.moves_refl
  exact State.moves_of State.plcReport_moves (by decide) State.moves_refl
  refine State.moves_of State.plcReport_moves (by decide) ?_
  exact State.moves_of State.addJob_moves (by decide) State.moves_refl

theorem execReadmit_moves {s : State} {x0} :
    s.moves (nextOr s (execReadmit x0 s)) [.regs, .xng, .mc] := by
  unfold execReadmit
  rw [nextOr_next]
  apply State.moves_of (State.guarded_moves ?_ (fun u => ?_)) (fun _ h => h) ?_
  decide
  exact State.moves_refl
  apply State.moves_of (State.plcCmd_moves ?_ (fun u => ?_)) (fun _ h => h) ?_
  decide
  exact State.moves_refl
  extract_lets +onlyGivenNames x
  clear_value x
  apply State.moves_ite ?_ ?_
  exact State.moves_of State.plcReport_moves (by decide) State.moves_refl
  apply State.moves_ite ?_ ?_
  exact State.moves_of State.plcReport_moves (by decide) State.moves_refl
  refine State.moves_of State.plcReport_moves (by decide) ?_
  refine State.moves_of State.put_moves (by decide) ?_
  exact State.moves_of State.put_moves (by decide) State.moves_refl

theorem State.measureEye_moves {s : State} {x1 : ℕ} :
    s.moves (State.measureEye s x1) [.free, .regs] := by
  unfold State.measureEye
  refine State.moves_of State.put_moves (by decide) ?_
  refine State.moves_of State.put_moves (by decide) ?_
  exact State.moves_of State.drawFree_moves2 (by decide) State.moves_refl

theorem State.judgeTraining_moves {s : State} :
    s.moves (State.judgeTraining s) [.regs] := by
  unfold State.judgeTraining
  exact State.moves_of State.put_moves (by decide) State.moves_refl

theorem State.clearRecord_moves {s : State} {x1} :
    s.moves (State.clearRecord s x1) [.mc, .pw] := by
  unfold State.clearRecord
  extract_lets +onlyGivenNames x
  clear_value x
  apply State.moves_ite ?_ ?_
  with_reducible apply State.moves_mk
  on_goal 2 => exact fun p hp => by cases p <;> first | rfl | exact absurd (by decide) hp
  on_goal 2 => exact id
  exact State.moves_refl
  with_reducible apply State.moves_mk
  on_goal 2 => exact fun p hp => by cases p <;> first | rfl | exact absurd (by decide) hp
  on_goal 2 => exact id
  exact State.moves_refl

theorem State.readmitFailed_moves {s : State} {x1} {x2} :
    s.moves (State.readmitFailed s x1 x2) [.regs, .mc] := by
  unfold State.readmitFailed
  refine State.moves_of State.put_moves (by decide) ?_
  exact State.moves_of State.rankRetired_moves (by decide) State.moves_refl

theorem execReadmitTestEnd_moves {s : State} {x0} {x1} {x2} :
    s.moves (nextOr s (execReadmitTestEnd x0 x1 x2 s)) [.free, .regs, .mc, .pw] := by
  unfold execReadmitTestEnd
  extract_lets +onlyGivenNames x
  clear_value x
  rw [nextOr_next]
  apply State.moves_ite ?_ ?_
  exact State.moves_refl
  apply State.moves_ite ?_ ?_
  refine State.moves_of State.judgeTraining_moves (by decide) ?_
  exact State.moves_of State.readmitFailed_moves (by decide) State.moves_refl
  apply State.moves_ite ?_ ?_
  refine State.moves_of State.judgeTraining_moves (by decide) ?_
  refine State.moves_of State.readmitFailed_moves (by decide) ?_
  exact State.moves_of State.measureEye_moves (by decide) State.moves_refl
  extract_lets +onlyGivenNames x
  refine (fun (hx : s.moves x [.free, .regs, .mc, .pw]) => ?_) ?_
  on_goal 2 => unfold x
  clear_value x
  refine State.moves_of State.judgeTraining_moves (by decide) ?_
  refine State.moves_of State.settleRanks_moves (by decide) ?_
  refine State.moves_of State.capacity_moves (by decide) ?_
  exact State.moves_of State.clearRecord_moves (by decide) (by assumption)
  refine State.moves_of State.put_moves (by decide) ?_
  refine State.moves_of State.put_moves (by decide) ?_
  refine State.moves_of State.put_moves (by decide) ?_
  exact State.moves_of State.measureEye_moves (by decide) State.moves_refl

theorem State.startMoving_moves {s : State} {x1} :
    s.moves (State.startMoving s x1) [.regs, .mc] := by
  unfold State.startMoving
  refine State.moves_of State.startCopy_moves (by decide) ?_
  with_reducible apply State.moves_mk
  on_goal 2 => exact fun p hp => by cases p <;> first | rfl | exact absurd (by decide) hp
  on_goal 2 => exact id
  exact State.moves_refl

theorem execMigrationStart_moves {s : State} {x0} {x1} :
    s.moves (nextOr s (execMigrationStart x0 x1 s)) [.regs, .mc] := by
  unfold execMigrationStart
  rw [nextOr_next]
  split
  apply State.moves_ite ?_ ?_
  extract_lets +onlyGivenNames x
  clear_value x
  refine State.moves_of State.rankFlags_moves (by decide) ?_
  refine moves_forEach (fun u _ => ?_) ?_
  exact State.moves_of State.startMoving_moves (by decide) State.moves_refl
  exact State.moves_refl
  exact State.moves_refl
  apply State.moves_ite ?_ ?_
  exact State.moves_of State.addJob_moves (by decide) State.moves_refl
  exact State.moves_refl

theorem State.copyDone_moves {s : State} {x1} {x2} {x3} {x4} :
    s.moves (State.copyDone s x1 x2 x3 x4) [.regs, .mc] := by
  unfold State.copyDone
  extract_lets +onlyGivenNames x
  clear_value x
  extract_lets +onlyGivenNames x
  refine (fun (hx : s.moves x [.regs, .mc]) => ?_) ?_
  on_goal 2 => unfold x
  clear_value x
  refine State.moves_of State.settleRanks_moves (by decide) ?_
  refine State.moves_of State.startCopy_moves (by decide) ?_
  refine State.moves_of State.extLess_moves (by decide) ?_
  exact State.moves_of State.setExt_moves (by decide) (by assumption)
  with_reducible apply State.moves_mk
  on_goal 2 => exact fun p hp => by cases p <;> first | rfl | exact absurd (by decide) hp
  on_goal 2 => exact id
  exact State.moves_refl

theorem State.jobDone_moves {s : State} :
    s.moves (State.jobDone s) [.mc] := by
  unfold State.jobDone
  split
  exact State.moves_refl
  with_reducible apply State.moves_mk
  on_goal 2 => exact fun p hp => by cases p <;> first | rfl | exact absurd (by decide) hp
  on_goal 2 => exact id
  exact State.moves_refl

theorem execMigrationExtentDone_moves {s : State} {x0} :
    s.moves (nextOr s (execMigrationExtentDone x0 s)) [.regs, .mc] := by
  unfold execMigrationExtentDone
  rw [nextOr_next]
  apply State.moves_ite ?_ ?_
  exact State.moves_refl
  split
  split
  exact State.moves_refl
  split
  exact State.moves_refl
  apply State.moves_ite ?_ ?_
  exact State.moves_refl
  exact State.moves_of State.copyDone_moves (by decide) State.moves_refl
  apply State.moves_ite ?_ ?_
  exact State.moves_refl
  exact State.moves_of State.jobDone_moves (by decide) State.moves_refl

theorem execRetirementRecordWrite_moves {x0 : RankNo} {s : State} :
    s.moves (nextOr s (execRetirementRecordWrite x0 s)) [.mc, .pw] := by
  unfold execRetirementRecordWrite
  extract_lets +onlyGivenNames x
  clear_value x
  extract_lets +onlyGivenNames x
  clear_value x
  split
  rw [nextOr_next]
  exact State.moves_refl
  split
  rw [nextOr_next]
  exact State.moves_refl
  rw [nextOr_next]
  with_reducible apply State.moves_mk
  on_goal 2 => exact fun p hp => by cases p <;> first | rfl | exact absurd (by decide) hp
  on_goal 2 => exact id
  exact State.moves_refl

end Sys2Proof.Machine
end

