-- ==== Sys2Proof/Laws/MovesModule.lean ====
section
/-! SUPPORT. What each operation can change of the state (X_moves: the parts it may write; every other part is as before, and
the memories keep their canonical form): the TXL ports, monitors, strobes, events, recordings,
power and memory. -/

namespace Sys2Proof.Machine

theorem State.setGuest_moves {s : State} {x1} {x2} {x3} :
    s.moves (State.setGuest s x1 x2 x3) [.segs] := by
  unfold State.setGuest
  split
  exact State.moves_refl
  extract_lets +onlyGivenNames x
  clear_value x
  exact State.moves_of State.setSeg_moves (by decide) State.moves_refl

theorem State.endPeers_moves {s : State} {x1} :
    s.moves (State.endPeers s x1) [.regs, .segs, .xng] := by
  unfold State.endPeers
  extract_lets +onlyGivenNames x
  clear_value x
  extract_lets +onlyGivenNames x
  clear_value x
  extract_lets +onlyGivenNames x
  refine (fun (hx : s.moves x [.regs, .segs, .xng]) => ?_) ?_
  on_goal 2 => unfold x
  clear_value x
  refine moves_forEach (fun u _ => ?_) ?_
  exact State.moves_of State.setGuest_moves (by decide) State.moves_refl
  assumption
  refine moves_forEach (fun u _ => ?_) ?_
  split
  exact State.moves_of State.endLoad_moves (by decide) State.moves_refl
  exact State.moves_refl
  exact State.moves_refl

theorem State.countMods_moves {s : State} :
    s.moves (State.countMods s) [.regs] := by
  unfold State.countMods
  refine moves_forUpto (fun _ _ => ?_) ?_
  exact State.moves_of State.put_moves (by decide) State.moves_refl
  exact State.moves_refl

theorem State.forgetUp_moves {s : State} :
    s.moves (State.forgetUp s) [.clk, .txl] := by
  unfold State.forgetUp
  with_reducible apply State.moves_mk
  on_goal 2 => exact fun p hp => by cases p <;> first | rfl | exact absurd (by decide) hp
  on_goal 2 => exact id
  exact State.moves_refl

theorem State.leaveSystem_moves {s : State} :
    s.moves (State.leaveSystem s) [.regs, .stores, .mem, .wav, .grp, .cap, .latch, .xng, .mon, .mc, .pw, .clk, .txl, .cal] :=
      by
  unfold State.leaveSystem
  extract_lets +onlyGivenNames x
  refine (fun (hx : s.moves x [.regs, .stores, .mem, .wav, .grp, .cap, .latch, .xng, .mon, .mc, .pw, .clk, .txl, .cal]) =>
    ?_) ?_
  on_goal 2 => unfold x
  clear_value x
  extract_lets +onlyGivenNames x
  refine (fun (hx : s.moves x [.regs, .stores, .mem, .wav, .grp, .cap, .latch, .xng, .mon, .mc, .pw, .clk, .txl, .cal]) =>
    ?_) ?_
  on_goal 2 => unfold x
  clear_value x
  extract_lets +onlyGivenNames x
  refine (fun (hx : s.moves x [.regs, .stores, .mem, .wav, .grp, .cap, .latch, .xng, .mon, .mc, .pw, .clk, .txl, .cal]) =>
    ?_) ?_
  on_goal 2 => unfold x
  clear_value x
  apply State.moves_ite ?_ ?_
  exact State.moves_of State.loseRef_moves (by decide) (by assumption)
  assumption
  refine State.moves_of State.put_moves (by decide) ?_
  exact State.moves_of State.put_moves (by decide) (by assumption)
  apply State.moves_ite ?_ ?_
  refine State.moves_of State.alarm_moves (by decide) ?_
  exact State.moves_of State.put_moves (by decide) (by assumption)
  assumption
  exact State.moves_of State.forgetUp_moves (by decide) State.moves_refl

theorem State.loseSubtree_moves {s : State} {x1 : ℕ} :
    s.moves (State.loseSubtree s x1) [.regs, .xng, .txl] := by
  unfold State.loseSubtree
  refine State.moves_of State.alarm_moves (by decide) ?_
  refine State.moves_of State.put_moves (by decide) ?_
  refine State.moves_of State.put_moves (by decide) ?_
  extract_lets +onlyGivenNames x
  clear_value x
  with_reducible apply State.moves_mk
  on_goal 2 => exact fun p hp => by cases p <;> first | rfl | exact absurd (by decide) hp
  on_goal 2 => exact id
  exact State.moves_refl

theorem State.setPort_moves {s : State} {x1 : ℕ} {x2 : ℕ} :
    s.moves (State.setPort s x1 x2) [.regs] := by
  unfold State.setPort
  apply State.moves_ite ?_ ?_
  refine State.moves_of State.bump_moves (by decide) ?_
  exact State.moves_of State.put_moves (by decide) State.moves_refl
  exact State.moves_of State.put_moves (by decide) State.moves_refl

theorem State.dropPort_moves {s : State} {x1} {x2} {x3} :
    s.moves (State.dropPort s x1 x2 x3) [.regs, .segs, .stores, .mem, .wav, .grp, .cap, .latch, .xng, .mon, .mc, .pw, .clk,
      .txl, .cal] := by
  unfold State.dropPort
  extract_lets +onlyGivenNames x
  clear_value x
  extract_lets +onlyGivenNames x
  refine (fun (hx : s.moves x [.regs, .segs, .stores, .mem, .wav, .grp, .cap, .latch, .xng, .mon, .mc, .pw, .clk, .txl,
    .cal]) => ?_) ?_
  on_goal 2 => unfold x
  clear_value x
  extract_lets +onlyGivenNames x
  clear_value x
  extract_lets +onlyGivenNames x
  refine (fun (hx : s.moves x [.regs, .segs, .stores, .mem, .wav, .grp, .cap, .latch, .xng, .mon, .mc, .pw, .clk, .txl,
    .cal]) => ?_) ?_
  on_goal 2 => unfold x
  clear_value x
  apply State.moves_ite ?_ ?_
  extract_lets +onlyGivenNames x
  refine (fun (hx : s.moves x [.regs, .segs, .stores, .mem, .wav, .grp, .cap, .latch, .xng, .mon, .mc, .pw, .clk, .txl,
    .cal]) => ?_) ?_
  on_goal 2 => unfold x
  clear_value x
  extract_lets +onlyGivenNames x
  clear_value x
  extract_lets +onlyGivenNames x
  refine (fun (hx : s.moves x [.regs, .segs, .stores, .mem, .wav, .grp, .cap, .latch, .xng, .mon, .mc, .pw, .clk, .txl,
    .cal]) => ?_) ?_
  on_goal 2 => unfold x
  clear_value x
  apply State.moves_ite ?_ ?_
  exact State.moves_of State.leaveSystem_moves (by decide) (by assumption)
  exact State.moves_of State.loseSubtree_moves (by decide) (by assumption)
  with_reducible apply State.moves_mk
  on_goal 2 => exact fun p hp => by cases p <;> first | rfl | exact absurd (by decide) hp
  on_goal 2 => exact id
  assumption
  refine State.moves_of State.endPeers_moves (by decide) ?_
  exact State.moves_of State.endCalWhere_moves (by decide) (by assumption)
  assumption
  with_reducible apply State.moves_mk
  on_goal 2 => exact fun p hp => by cases p <;> first | rfl | exact absurd (by decide) hp
  on_goal 2 => exact id
  assumption
  exact State.moves_of State.setPort_moves (by decide) State.moves_refl

theorem State.tryTrain_moves {s : State} {x1} :
    s.moves (State.tryTrain s x1) [.regs] := by
  unfold State.tryTrain
  apply State.moves_ite ?_ ?_
  exact State.moves_of State.put_moves (by decide) State.moves_refl
  exact State.moves_of State.setPort_moves (by decide) State.moves_refl

theorem State.portTick_moves {s : State} :
    s.moves (State.portTick s) [.regs] := by
  unfold State.portTick
  refine moves_forUpto (fun u _ => ?_) ?_
  apply State.moves_ite ?_ ?_
  exact State.moves_of State.tryTrain_moves (by decide) State.moves_refl
  exact State.moves_refl
  exact State.moves_refl

theorem execLightPresent_moves {s : State} {x0} {x1} :
    s.moves (nextOr s (execLightPresent x0 x1 s)) [.regs, .txl] := by
  unfold execLightPresent
  extract_lets +onlyGivenNames x
  clear_value x
  extract_lets +onlyGivenNames x
  refine (fun (hx : s.moves x [.regs, .txl]) => ?_) ?_
  on_goal 2 => unfold x
  clear_value x
  extract_lets +onlyGivenNames x
  clear_value x
  extract_lets +onlyGivenNames x
  refine (fun (hx : s.moves x [.regs, .txl]) => ?_) ?_
  on_goal 2 => unfold x
  clear_value x
  extract_lets +onlyGivenNames x
  refine (fun (hx : s.moves x [.regs, .txl]) => ?_) ?_
  on_goal 2 => unfold x
  clear_value x
  rw [nextOr_next]
  apply State.moves_ite ?_ ?_
  assumption
  exact State.moves_of State.tryTrain_moves (by decide) (by assumption)
  apply State.moves_ite ?_ ?_
  exact State.moves_of State.setPort_moves (by decide) (by assumption)
  assumption
  with_reducible apply State.moves_mk
  on_goal 2 => exact fun p hp => by cases p <;> first | rfl | exact absurd (by decide) hp
  on_goal 2 => exact id
  assumption
  exact State.moves_of State.put_moves (by decide) State.moves_refl

theorem execLaneAligned_moves {s : State} {x0} :
    s.moves (nextOr s (execLaneAligned x0 s)) [.regs, .txl] := by
  unfold execLaneAligned
  rw [nextOr_next]
  extract_lets +onlyGivenNames x
  clear_value x
  extract_lets +onlyGivenNames x
  refine (fun (hx : s.moves x [.regs, .txl]) => ?_) ?_
  on_goal 2 => unfold x
  clear_value x
  apply State.moves_ite ?_ ?_
  exact State.moves_of State.setPort_moves (by decide) (by assumption)
  assumption
  with_reducible apply State.moves_mk
  on_goal 2 => exact fun p hp => by cases p <;> first | rfl | exact absurd (by decide) hp
  on_goal 2 => exact id
  exact State.moves_refl

theorem execTrainingTimeout_moves {x0 : PortNo} {s : State} :
    s.moves (nextOr s (execTrainingTimeout x0 s)) [.regs] := by
  unfold execTrainingTimeout
  split
  rw [nextOr_next]
  refine State.moves_of State.put_moves (by decide) ?_
  exact State.moves_of State.setPort_moves (by decide) State.moves_refl
  rw [nextOr_next]
  exact State.moves_refl

theorem execPortCalibrationDone_moves {x0 : PortNo} {x1 : BitVec 32} {x2 : BitVec 32} {x3 : BitVec 32} {s : State} :
    s.moves (nextOr s (execPortCalibrationDone x0 x1 x2 x3 s)) [.regs] := by
  unfold execPortCalibrationDone
  extract_lets +onlyGivenNames x
  clear_value x
  split
  rw [nextOr_next]
  exact State.moves_refl
  rw [nextOr_next]
  refine State.moves_of State.setPort_moves (by decide) ?_
  refine State.moves_of State.put_moves (by decide) ?_
  refine State.moves_of State.put_moves (by decide) ?_
  exact State.moves_of State.put_moves (by decide) State.moves_refl

theorem execLightLoss_moves {s : State} {x0} :
    s.moves (nextOr s (execLightLoss x0 s)) [.regs, .segs, .stores, .mem, .wav, .grp, .cap, .latch, .xng, .mon, .mc, .pw,
      .clk, .txl, .cal] := by
  unfold execLightLoss
  extract_lets +onlyGivenNames x
  refine (fun (hx : s.moves x [.regs, .segs, .stores, .mem, .wav, .grp, .cap, .latch, .xng, .mon, .mc, .pw, .clk, .txl,
    .cal]) => ?_) ?_
  on_goal 2 => unfold x
  clear_value x
  rw [nextOr_next]
  apply State.moves_ite ?_ ?_
  exact State.moves_of State.dropPort_moves (by decide) (by assumption)
  assumption
  exact State.moves_of State.put_moves (by decide) State.moves_refl

theorem execKeepaliveTimeout_moves {s : State} {x0} :
    s.moves (nextOr s (execKeepaliveTimeout x0 s)) [.regs, .segs, .stores, .mem, .wav, .grp, .cap, .latch, .xng, .mon, .mc,
      .pw, .clk, .txl, .cal] := by
  unfold execKeepaliveTimeout
  rw [nextOr_next]
  apply State.moves_ite ?_ ?_
  refine State.moves_of State.dropPort_moves (by decide) ?_
  exact State.moves_of State.bump_moves (by decide) State.moves_refl
  exact State.moves_refl

theorem execKeepaliveSend_moves {x0 : PortNo} {s : State} :
    s.moves (nextOr s (execKeepaliveSend x0 s)) [] := by
  unfold execKeepaliveSend
  rw [nextOr_next]
  exact State.moves_refl

theorem execBlockLockLoss_moves {x0 : Option PortNo} {s : State} :
    s.moves (nextOr s (execBlockLockLoss x0 s)) [.regs, .xng, .txl] := by
  unfold execBlockLockLoss
  extract_lets +onlyGivenNames x
  clear_value x
  extract_lets +onlyGivenNames x
  clear_value x
  split
  extract_lets +onlyGivenNames x
  refine (fun (hx : s.moves x [.regs, .xng, .txl]) => ?_) ?_
  on_goal 2 => unfold x
  clear_value x
  rw [nextOr_next]
  with_reducible apply State.moves_mk
  on_goal 2 => exact fun p hp => by cases p <;> first | rfl | exact absurd (by decide) hp
  on_goal 2 => exact id
  assumption
  exact State.moves_of State.bump_moves (by decide) State.moves_refl
  rw [nextOr_next]
  with_reducible apply State.moves_mk
  on_goal 2 => exact fun p hp => by cases p <;> first | rfl | exact absurd (by decide) hp
  on_goal 2 => exact id
  exact State.moves_refl

theorem State.judgeReady_moves {s : State} :
    s.moves (State.judgeReady s) [.regs, .txl] := by
  unfold State.judgeReady
  apply State.moves_ite ?_ ?_
  refine State.moves_of State.put_moves (by decide) ?_
  exact State.moves_of State.put_moves (by decide) State.moves_refl
  apply State.moves_ite ?_ ?_
  refine State.moves_of State.put_moves (by decide) ?_
  exact State.moves_of State.put_moves (by decide) State.moves_refl
  apply State.moves_ite ?_ ?_
  extract_lets +onlyGivenNames x
  clear_value x
  with_reducible apply State.moves_mk
  on_goal 2 => exact fun p hp => by cases p <;> first | rfl | exact absurd (by decide) hp
  on_goal 2 => exact id
  exact State.moves_of State.put_moves (by decide) State.moves_refl
  exact State.moves_of State.put_moves (by decide) State.moves_refl

theorem execKeepaliveMessage_moves {s : State} {x0} {x1} {x2} {x3} {x4} {x5} :
    s.moves (nextOr s (execKeepaliveMessage x0 x1 x2 x3 x4 x5 s)) [.regs, .stores, .mem, .wav, .grp, .cap, .latch, .xng,
      .mon, .mc, .pw, .clk, .txl, .cal] := by
  unfold execKeepaliveMessage
  rw [nextOr_next]
  apply State.moves_ite ?_ ?_
  exact State.moves_refl
  apply State.moves_ite ?_ ?_
  extract_lets +onlyGivenNames x
  clear_value x
  extract_lets +onlyGivenNames x
  clear_value x
  extract_lets +onlyGivenNames x
  refine (fun (hx : s.moves x [.regs, .stores, .mem, .wav, .grp, .cap, .latch, .xng, .mon, .mc, .pw, .clk, .txl, .cal]) =>
    ?_) ?_
  on_goal 2 => unfold x
  clear_value x
  apply State.moves_ite ?_ ?_
  exact State.moves_of State.leaveSystem_moves (by decide) (by assumption)
  extract_lets +onlyGivenNames x
  clear_value x
  refine State.moves_of State.judgeReady_moves (by decide) ?_
  with_reducible apply State.moves_mk
  on_goal 2 => exact fun p hp => by cases p <;> first | rfl | exact absurd (by decide) hp
  on_goal 2 => exact id
  assumption
  with_reducible apply State.moves_mk
  on_goal 2 => exact fun p hp => by cases p <;> first | rfl | exact absurd (by decide) hp
  on_goal 2 => exact id
  exact State.moves_refl
  extract_lets +onlyGivenNames x
  clear_value x
  extract_lets +onlyGivenNames x
  refine (fun (hx : s.moves x [.regs, .stores, .mem, .wav, .grp, .cap, .latch, .xng, .mon, .mc, .pw, .clk, .txl, .cal]) =>
    ?_) ?_
  on_goal 2 => unfold x
  clear_value x
  apply State.moves_ite ?_ ?_
  exact State.moves_of State.put_moves (by decide) (by assumption)
  assumption
  with_reducible apply State.moves_mk
  on_goal 2 => exact fun p hp => by cases p <;> first | rfl | exact absurd (by decide) hp
  on_goal 2 => exact id
  exact State.moves_refl

theorem State.txlReport_moves {s : State} {x1 : ℕ} {x2 : Sts} :
    s.moves (State.txlReport s x1 x2) [.regs] := by
  unfold State.txlReport
  refine State.moves_of State.put_moves (by decide) ?_
  refine State.moves_of State.put_moves (by decide) ?_
  exact State.moves_of State.put_moves (by decide) State.moves_refl

theorem execTxlRetrain_moves {s : State} {x0} {x1} :
    s.moves (nextOr s (execTxlRetrain x0 x1 s)) [.regs, .segs, .stores, .mem, .wav, .grp, .cap, .latch, .xng, .mon, .mc, .pw,
      .clk, .txl, .cal] := by
  unfold execTxlRetrain
  rw [nextOr_next]
  apply State.moves_ite ?_ ?_
  exact State.moves_of State.txlReport_moves (by decide) State.moves_refl
  refine State.moves_of State.txlReport_moves (by decide) ?_
  exact State.moves_of State.dropPort_moves (by decide) State.moves_refl

theorem execTxlDown_moves {s : State} {x0} {x1} :
    s.moves (nextOr s (execTxlDown x0 x1 s)) [.regs, .segs, .stores, .mem, .wav, .grp, .cap, .latch, .xng, .mon, .mc, .pw,
      .clk, .txl, .cal] := by
  unfold execTxlDown
  rw [nextOr_next]
  refine State.moves_of State.txlReport_moves (by decide) ?_
  exact State.moves_of State.dropPort_moves (by decide) State.moves_refl

theorem execTxlIdWrite_moves {x0 : Word} {s : State} :
    s.moves (nextOr s (execTxlIdWrite x0 s)) [.regs] := by
  unfold execTxlIdWrite
  split
  rw [nextOr_next]
  exact State.moves_of State.put_moves (by decide) State.moves_refl
  rw [nextOr_next]
  exact State.moves_of State.put_moves (by decide) State.moves_refl

theorem State.portCfg_moves {s : State} {x1} {x2} {x3} :
    s.moves (State.portCfg s x1 x2 x3) [.regs, .segs, .stores, .mem, .wav, .grp, .cap, .latch, .xng, .mon, .mc, .pw, .clk,
      .txl, .cal] := by
  unfold State.portCfg
  extract_lets +onlyGivenNames x
  clear_value x
  extract_lets +onlyGivenNames x
  refine (fun (hx : s.moves x [.regs, .segs, .stores, .mem, .wav, .grp, .cap, .latch, .xng, .mon, .mc, .pw, .clk, .txl,
    .cal]) => ?_) ?_
  on_goal 2 => unfold x
  clear_value x
  apply State.moves_ite ?_ ?_
  apply State.moves_ite ?_ ?_
  assumption
  exact State.moves_of State.dropPort_moves (by decide) (by assumption)
  apply State.moves_ite ?_ ?_
  exact State.moves_of State.setPort_moves (by decide) (by assumption)
  apply State.moves_ite ?_ ?_
  extract_lets +onlyGivenNames x
  refine (fun (hx : s.moves x [.regs, .segs, .stores, .mem, .wav, .grp, .cap, .latch, .xng, .mon, .mc, .pw, .clk, .txl,
    .cal]) => ?_) ?_
  on_goal 2 => unfold x
  clear_value x
  apply State.moves_ite ?_ ?_
  assumption
  apply State.moves_ite ?_ ?_
  exact State.moves_of State.put_moves (by decide) (by assumption)
  exact State.moves_of State.setPort_moves (by decide) (by assumption)
  exact State.moves_of State.dropPort_moves (by decide) (by assumption)
  assumption
  exact State.moves_of State.put_moves (by decide) State.moves_refl

theorem State.txlConfigured_moves {s : State} {x1} {x2} :
    s.moves (State.txlConfigured s x1 x2) [.regs, .segs, .stores, .mem, .wav, .grp, .cap, .latch, .xng, .mon, .mc, .pw, .clk,
      .txl, .cal] := by
  unfold State.txlConfigured
  extract_lets +onlyGivenNames x
  refine (fun (hx : s.moves x [.regs, .segs, .stores, .mem, .wav, .grp, .cap, .latch, .xng, .mon, .mc, .pw, .clk, .txl,
    .cal]) => ?_) ?_
  on_goal 2 => unfold x
  clear_value x
  extract_lets +onlyGivenNames x
  clear_value x
  extract_lets +onlyGivenNames x
  refine (fun (hx : s.moves x [.regs, .segs, .stores, .mem, .wav, .grp, .cap, .latch, .xng, .mon, .mc, .pw, .clk, .txl,
    .cal]) => ?_) ?_
  on_goal 2 => unfold x
  clear_value x
  apply State.moves_ite ?_ ?_
  assumption
  apply State.moves_ite ?_ ?_
  refine State.moves_of State.put_moves (by decide) ?_
  refine State.moves_of State.put_moves (by decide) ?_
  exact State.moves_of State.put_moves (by decide) (by assumption)
  refine State.moves_of State.put_moves (by decide) ?_
  exact State.moves_of State.put_moves (by decide) (by assumption)
  exact State.moves_of State.put_moves (by decide) (by assumption)
  refine moves_forUpto (fun u _ => ?_) ?_
  exact State.moves_of State.portCfg_moves (by decide) State.moves_refl
  exact State.moves_refl

theorem State.refuseDup_moves {s : State} :
    s.moves (State.refuseDup s) [.regs] := by
  unfold State.refuseDup
  refine moves_forEach (fun _ _ => ?_) ?_
  apply State.moves_ite ?_ ?_
  exact State.moves_refl
  refine State.moves_of State.put_moves (by decide) ?_
  exact State.moves_of State.put_moves (by decide) State.moves_refl
  exact State.moves_refl

theorem execSyncIssue_moves {s : State} :
    s.moves (nextOr s (execSyncIssue s)) [.free, .regs, .txl] := by
  unfold execSyncIssue
  extract_lets +onlyGivenNames x
  refine (fun (hx : s.moves x [.free, .regs, .txl]) => ?_) ?_
  on_goal 2 => unfold x
  clear_value x
  extract_lets +onlyGivenNames x
  clear_value x
  extract_lets +onlyGivenNames x
  clear_value x
  extract_lets +onlyGivenNames x
  clear_value x
  extract_lets +onlyGivenNames x
  clear_value x
  extract_lets +onlyGivenNames x
  clear_value x
  extract_lets +onlyGivenNames x
  clear_value x
  extract_lets +onlyGivenNames x
  clear_value x
  extract_lets +onlyGivenNames x
  clear_value x
  split
  rw [nextOr_next]
  exact State.moves_refl
  split
  rw [nextOr_next]
  exact State.moves_refl
  rw [nextOr_next]
  with_reducible apply State.moves_mk
  on_goal 2 => exact fun p hp => by cases p <;> first | rfl | exact absurd (by decide) hp
  on_goal 2 => exact id
  assumption
  exact State.moves_of State.refuseDup_moves (by decide) State.moves_refl

theorem execSyncMessage_moves {x0 : PortNo} {x1 : BitVec 64} {x2 : BitVec 32} {x3 : List (BitVec 9)} {x4 : List
    (BitVec 9)} {s : State} :
    s.moves (nextOr s (execSyncMessage x0 x1 x2 x3 x4 s)) [.txl] := by
  unfold execSyncMessage
  extract_lets +onlyGivenNames x
  clear_value x
  extract_lets +onlyGivenNames x
  clear_value x
  extract_lets +onlyGivenNames x
  clear_value x
  extract_lets +onlyGivenNames x
  clear_value x
  split
  rw [nextOr_next]
  exact State.moves_refl
  rw [nextOr_next]
  with_reducible apply State.moves_mk
  on_goal 2 => exact fun p hp => by cases p <;> first | rfl | exact absurd (by decide) hp
  on_goal 2 => exact id
  exact State.moves_refl

theorem State.syncMembers_moves {s : State} {x1 : SyncMsg} :
    s.moves (State.syncMembers s x1) [.regs, .txl] := by
  unfold State.syncMembers
  refine State.moves_of State.countMods_moves (by decide) ?_
  refine State.moves_of State.put_moves (by decide) ?_
  refine State.moves_of State.put_moves (by decide) ?_
  extract_lets +onlyGivenNames x
  clear_value x
  with_reducible apply State.moves_mk
  on_goal 2 => exact fun p hp => by cases p <;> first | rfl | exact absurd (by decide) hp
  on_goal 2 => exact id
  exact State.moves_refl

theorem State.poisonWords_moves {s : State} {x1} {x2} {x3} {x4} :
    s.moves (State.poisonWords s x1 x2 x3 x4) [.segs, .poison] := by
  unfold State.poisonWords
  refine moves_forEach (fun u _ => ?_) ?_
  apply State.moves_ite ?_ ?_
  exact State.moves_of State.poisonLine_moves (by decide) State.moves_refl
  exact State.moves_refl
  exact State.moves_refl

theorem State.pullFrame_moves {s : State} {x1} {x2} {x3} {x4} {x5} :
    s.moves (State.pullFrame s x1 x2 x3 x4 x5) [.segs, .stores, .mem, .poison, .mc] := by
  unfold State.pullFrame
  extract_lets +onlyGivenNames x
  clear_value x
  refine State.moves_of State.poisonWords_moves (by decide) ?_
  exact State.moves_of State.loadWords_moves (by decide) State.moves_refl

theorem State.openGuest_moves2 {s : State} {x1} {x2} {x3} {x4} {x5} :
    s.moves (State.openGuest s x1 x2 x3 x4 x5).2 [.segs] := by
  unfold State.openGuest
  extract_lets +onlyGivenNames x
  clear_value x
  extract_lets +onlyGivenNames x
  clear_value x
  extract_lets +onlyGivenNames x
  clear_value x
  dsimp -zeta only
  exact State.moves_of State.setSeg_moves (by decide) State.moves_refl

theorem State.openGuest_moves {s : State} {x1} {x2} {x3} {x4} {x5} {u : State} {y0} (h : State.openGuest s x1 x2 x3 x4 x5 =
  (y0, u)) :
    s.moves u [.segs] := by
  have e : (State.openGuest s x1 x2 x3 x4 x5).2 = u := by rw [h]
  rw [← e]; exact State.openGuest_moves2

theorem State.pushFrame_moves {s : State} {x1} {x2} {x3} {x4} :
    s.moves (State.pushFrame s x1 x2 x3 x4) [.segs, .stores, .mem, .poison, .mc] := by
  unfold State.pushFrame
  extract_lets +onlyGivenNames x
  clear_value x
  extract_lets +onlyGivenNames x
  clear_value x
  extract_lets +onlyGivenNames x
  refine (fun (hx : s.moves x [.segs, .stores, .mem, .poison, .mc]) => ?_) ?_
  on_goal 2 => unfold x
  clear_value x
  extract_lets +onlyGivenNames x
  refine (fun (hx : s.moves x [.segs, .stores, .mem, .poison, .mc]) => ?_) ?_
  on_goal 2 => unfold x
  clear_value x
  exact State.moves_of State.poisonWords_moves (by decide) (by assumption)
  exact State.moves_of State.setGuest_moves (by decide) (by assumption)
  apply State.moves_ite ?_ ?_
  exact State.moves_of State.ringWrite_moves (by decide) State.moves_refl
  exact State.moves_of State.fillWords_moves (by decide) State.moves_refl

theorem State.endGuest_moves {s : State} {x1} {x2} {x3} :
    s.moves (State.endGuest s x1 x2 x3) [.segs] := by
  unfold State.endGuest
  extract_lets +onlyGivenNames x
  refine (fun (hx : s.moves x [.segs]) => ?_) ?_
  on_goal 2 => unfold x
  clear_value x
  split
  assumption
  extract_lets +onlyGivenNames x
  clear_value x
  extract_lets +onlyGivenNames x
  clear_value x
  exact State.moves_of State.setSeg_moves (by decide) (by assumption)
  exact State.moves_of State.setGuest_moves (by decide) State.moves_refl

theorem State.guestFrame_moves {s : State} {x1} {x2} {x3} {x4} {x5} {x6} {x7} {x8} :
    s.moves (State.guestFrame s x1 x2 x3 x4 x5 x6 x7 x8) [.segs, .stores, .mem, .poison, .mc] := by
  unfold State.guestFrame
  extract_lets +onlyGivenNames x
  split
  apply State.moves_ite ?_ ?_
  exact State.moves_refl
  dsimp +zetaDelta -zeta only
  apply State.moves_ite ?_ ?_
  apply State.moves_ite ?_ ?_
  exact State.moves_of State.endGuest_moves (by decide) State.moves_refl
  refine State.moves_of State.setGuest_moves (by decide) ?_
  exact State.moves_of State.wordsUse_moves (by decide) State.moves_refl
  extract_lets +onlyGivenNames x
  refine (fun (hx : s.moves x [.segs, .stores, .mem, .poison, .mc]) => ?_) ?_
  on_goal 2 => unfold x
  clear_value x
  apply State.moves_ite ?_ ?_
  split
  exact State.moves_of State.endGuest_moves (by decide) (by assumption)
  assumption
  assumption
  exact State.moves_of State.pushFrame_moves (by decide) State.moves_refl
  extract_lets +onlyGivenNames x
  refine (fun (hx : s.moves x.2 [.segs, .stores, .mem, .poison, .mc]) => ?_) ?_
  on_goal 2 => unfold x
  clear_value x
  apply State.moves_ite ?_ ?_
  exact State.moves_refl
  dsimp +zetaDelta -zeta only
  apply State.moves_ite ?_ ?_
  apply State.moves_ite ?_ ?_
  exact State.moves_of State.endGuest_moves (by decide) (by assumption)
  refine State.moves_of State.setGuest_moves (by decide) ?_
  exact State.moves_of State.wordsUse_moves (by decide) (by assumption)
  extract_lets +onlyGivenNames x
  refine (fun (hx : s.moves x [.segs, .stores, .mem, .poison, .mc]) => ?_) ?_
  on_goal 2 => unfold x
  clear_value x
  apply State.moves_ite ?_ ?_
  split
  exact State.moves_of State.endGuest_moves (by decide) (by assumption)
  assumption
  assumption
  exact State.moves_of State.pushFrame_moves (by decide) (by assumption)
  exact State.moves_of State.openGuest_moves2 (by decide) State.moves_refl

theorem State.peerEnds_moves {s : State} {x1} {x2} {x3} {x4} {x5} :
    s.moves (State.peerEnds s x1 x2 x3 x4 x5) [.regs, .segs, .xng] := by
  unfold State.peerEnds
  split
  exact State.moves_of State.endLoad_moves (by decide) State.moves_refl
  exact State.moves_refl

theorem execPeerDataFrame_moves {s : State} {x0} {x1} {x2} {x3} {x4} {x5} :
    s.moves (nextOr s (execPeerDataFrame x0 x1 x2 x3 x4 x5 s)) [.regs, .segs, .stores, .mem, .poison, .xng, .mc] := by
  unfold execPeerDataFrame
  extract_lets +onlyGivenNames x
  clear_value x
  rw [nextOr_next]
  apply State.moves_ite ?_ ?_
  exact State.moves_refl
  split
  exact State.moves_refl
  apply State.moves_ite ?_ ?_
  exact State.moves_refl
  apply State.moves_ite ?_ ?_
  exact State.moves_of State.peerEnds_moves (by decide) State.moves_refl
  apply State.moves_ite ?_ ?_
  split
  apply State.moves_ite ?_ ?_
  exact State.moves_refl
  exact State.moves_of State.pullFrame_moves (by decide) State.moves_refl
  exact State.moves_refl
  apply State.moves_ite ?_ ?_
  split
  apply State.moves_ite ?_ ?_
  exact State.moves_refl
  refine State.moves_of State.setSeg_moves (by decide) ?_
  exact State.moves_of State.wordsUse_moves (by decide) State.moves_refl
  exact State.moves_of State.guestFrame_moves (by decide) State.moves_refl
  exact State.moves_of State.guestFrame_moves (by decide) State.moves_refl

theorem State.setMonCount_moves {s : State} {x1 : ℕ} {x2 : ℕ} :
    s.moves (State.setMonCount s x1 x2) [.regs] := by
  unfold State.setMonCount
  exact State.moves_of State.put64_moves (by decide) State.moves_refl

theorem State.monStart_moves {s : State} {x1 : ℕ} :
    s.moves (State.monStart s x1) [.regs, .monBegun] := by
  unfold State.monStart
  apply State.moves_ite ?_ ?_
  exact State.moves_refl
  apply State.moves_ite ?_ ?_
  refine State.moves_of State.setMonCount_moves (by decide) ?_
  refine State.moves_of State.put_moves (by decide) ?_
  with_reducible apply State.moves_mk
  on_goal 2 => exact fun p hp => by cases p <;> first | rfl | exact absurd (by decide) hp
  on_goal 2 => exact id
  exact State.moves_refl
  refine State.moves_of State.put_moves (by decide) ?_
  with_reducible apply State.moves_mk
  on_goal 2 => exact fun p hp => by cases p <;> first | rfl | exact absurd (by decide) hp
  on_goal 2 => exact id
  exact State.moves_refl

theorem State.monStop_moves {s : State} {x1 : ℕ} : s.moves (State.monStop s x1) [.regs, .monBegun, .monEnded] := by
  unfold State.monStop
  extract_lets s1
  have h1 : s.moves s1 [.regs, .monBegun, .monEnded] := State.moves_of State.put_moves (by decide) ⟨fun p hp => by cases p <;> first | rfl | exact absurd (by decide) hp, id⟩
  clear_value s1
  split
  · exact State.moves_of State.setMonCount_moves (by decide) (State.moves_mk h1 (fun p hp => by cases p <;> first | rfl | exact absurd (by decide) hp) id)
  · exact h1

theorem State.monSnap_moves {s : State} {x1 : ℕ} :
    s.moves (State.monSnap s x1) [.regs] := by
  unfold State.monSnap
  refine State.moves_of State.put64_moves (by decide) ?_
  exact State.moves_of State.put64_moves (by decide) State.moves_refl

theorem execMonStart_moves {x0 : MonNo} {s : State} :
    s.moves (nextOr s (execMonStart x0 s)) [.regs, .monBegun] := by
  unfold execMonStart
  rw [nextOr_next]
  exact State.moves_of State.monStart_moves (by decide) State.moves_refl

theorem execMonStop_moves {x0 : MonNo} {s : State} :
    s.moves (nextOr s (execMonStop x0 s)) [.regs, .monBegun, .monEnded] := by
  unfold execMonStop
  rw [nextOr_next]
  exact State.moves_of State.monStop_moves (by decide) State.moves_refl

theorem execMonSnapshot_moves {x0 : MonNo} {s : State} :
    s.moves (nextOr s (execMonSnapshot x0 s)) [.regs] := by
  unfold execMonSnapshot
  rw [nextOr_next]
  exact State.moves_of State.monSnap_moves (by decide) State.moves_refl

theorem State.monSelect_moves {s : State} {x1 : ℕ} {x2 : ℕ} :
    s.moves (State.monSelect s x1 x2) [.regs, .monBegun, .monEnded] := by
  unfold State.monSelect
  refine moves_forUpto (fun _ _ => ?_) ?_
  apply State.moves_ite ?_ ?_
  refine State.moves_of State.monStop_moves (by decide) ?_
  apply State.moves_ite ?_ ?_
  refine State.moves_of State.monStart_moves (by decide) ?_
  apply State.moves_ite ?_ ?_
  exact State.moves_of State.monSnap_moves (by decide) State.moves_refl
  exact State.moves_refl
  apply State.moves_ite ?_ ?_
  exact State.moves_of State.monSnap_moves (by decide) State.moves_refl
  exact State.moves_refl
  apply State.moves_ite ?_ ?_
  refine State.moves_of State.monStart_moves (by decide) ?_
  apply State.moves_ite ?_ ?_
  exact State.moves_of State.monSnap_moves (by decide) State.moves_refl
  exact State.moves_refl
  apply State.moves_ite ?_ ?_
  exact State.moves_of State.monSnap_moves (by decide) State.moves_refl
  exact State.moves_refl
  exact State.moves_refl

theorem State.monTick_moves {s : State} :
    s.moves (State.monTick s) [.regs, .mon, .monBegun, .monEnded] := by
  unfold State.monTick
  extract_lets +onlyGivenNames x
  refine (fun (hx : s.moves x [.regs, .mon, .monBegun, .monEnded]) => ?_) ?_
  on_goal 2 => unfold x
  clear_value x
  with_reducible apply State.moves_mk
  on_goal 2 => exact fun p hp => by cases p <;> first | rfl | exact absurd (by decide) hp
  on_goal 2 => exact id
  assumption
  refine moves_forUpto (fun _ _ => ?_) ?_
  apply State.moves_ite ?_ ?_
  apply State.moves_ite ?_ ?_
  refine State.moves_of State.put_moves (by decide) ?_
  exact State.moves_of State.setMonCount_moves (by decide) State.moves_refl
  exact State.moves_of State.setMonCount_moves (by decide) State.moves_refl
  exact State.moves_refl
  exact State.moves_refl

theorem State.tmrStop_moves {s : State} {x1 : ℕ} :
    s.moves (State.tmrStop s x1) [.regs, .evt] := by
  unfold State.tmrStop
  refine State.moves_of State.put_moves (by decide) ?_
  extract_lets +onlyGivenNames x
  clear_value x
  with_reducible apply State.moves_mk
  on_goal 2 => exact fun p hp => by cases p <;> first | rfl | exact absurd (by decide) hp
  on_goal 2 => exact id
  exact State.moves_refl

theorem State.tmrStart_moves {s : State} {x1 : ℕ} :
    s.moves (State.tmrStart s x1) [.regs, .evt] := by
  unfold State.tmrStart
  apply State.moves_ite ?_ ?_
  exact State.moves_of State.tmrStop_moves (by decide) State.moves_refl
  refine State.moves_of State.put_moves (by decide) ?_
  extract_lets +onlyGivenNames x
  clear_value x
  with_reducible apply State.moves_mk
  on_goal 2 => exact fun p hp => by cases p <;> first | rfl | exact absurd (by decide) hp
  on_goal 2 => exact id
  exact State.moves_refl

theorem execTimerStart_moves {x0 : TimerNo} {s : State} :
    s.moves (nextOr s (execTimerStart x0 s)) [.regs, .evt] := by
  unfold execTimerStart
  rw [nextOr_next]
  exact State.moves_of State.tmrStart_moves (by decide) State.moves_refl

theorem execTimerStop_moves {x0 : TimerNo} {s : State} :
    s.moves (nextOr s (execTimerStop x0 s)) [.regs, .evt] := by
  unfold execTimerStop
  rw [nextOr_next]
  exact State.moves_of State.tmrStop_moves (by decide) State.moves_refl

theorem execTimerExpiry_moves {x0 : TimerNo} {s : State} :
    s.moves (nextOr s (execTimerExpiry x0 s)) [.regs, .evt] := by
  unfold execTimerExpiry
  split
  rw [nextOr_next]
  exact State.moves_refl
  extract_lets +onlyGivenNames x
  refine (fun (hx : s.moves x [.regs, .evt]) => ?_) ?_
  on_goal 2 => unfold x
  clear_value x
  extract_lets +onlyGivenNames x
  clear_value x
  split
  rw [nextOr_next]
  exact State.moves_refl
  split
  rw [nextOr_next]
  refine State.moves_of State.tmrStop_moves (by decide) ?_
  assumption
  rw [nextOr_next]
  with_reducible apply State.moves_mk
  on_goal 2 => exact fun p hp => by cases p <;> first | rfl | exact absurd (by decide) hp
  on_goal 2 => exact id
  assumption
  exact State.moves_of State.occur_moves (by decide) State.moves_refl

theorem State.transfer_moves {s : State} {x1 : Xfr} :
    s.moves (State.transfer s x1) [.act] := by
  unfold State.transfer
  exact State.moves_of State.putActive_moves (by decide) State.moves_refl

theorem State.unwritten_moves {s : State} {x1} {x2} :
    s.moves (State.unwritten s x1 x2) [.evt] := by
  unfold State.unwritten
  with_reducible apply State.moves_mk
  on_goal 2 => exact fun p hp => by cases p <;> first | rfl | exact absurd (by decide) hp
  on_goal 2 => exact id
  exact State.moves_refl

theorem State.noteWrites_moves {s : State} :
    s.moves (State.noteWrites s) [.evt, .wrote] := by
  unfold State.noteWrites
  extract_lets +onlyGivenNames x
  clear_value x
  with_reducible apply State.moves_mk
  on_goal 2 => exact fun p hp => by cases p <;> first | rfl | exact absurd (by decide) hp
  on_goal 2 => exact id
  exact State.moves_refl

theorem State.wavXfr_moves {s : State} {x1} {x2} {x3} {x4} :
    s.moves (State.wavXfr s x1 x2 x3 x4) [.regs, .wav] := by
  unfold State.wavXfr
  extract_lets +onlyGivenNames x
  refine (fun (hx : s.moves x [.regs, .wav]) => ?_) ?_
  on_goal 2 => unfold x
  clear_value x
  extract_lets +onlyGivenNames x
  refine (fun (hx : s.moves x [.regs, .wav]) => ?_) ?_
  on_goal 2 => unfold x
  clear_value x
  extract_lets +onlyGivenNames x
  refine (fun (hx : s.moves x [.regs, .wav]) => ?_) ?_
  on_goal 2 => unfold x
  clear_value x
  extract_lets +onlyGivenNames x
  refine (fun (hx : s.moves x [.regs, .wav]) => ?_) ?_
  on_goal 2 => unfold x
  clear_value x
  extract_lets +onlyGivenNames x
  clear_value x
  extract_lets +onlyGivenNames x
  refine (fun (hx : s.moves x [.regs, .wav]) => ?_) ?_
  on_goal 2 => unfold x
  clear_value x
  extract_lets +onlyGivenNames x
  apply State.moves_ite ?_ ?_
  exact State.moves_of State.put_moves (by decide) (by assumption)
  assumption
  apply State.moves_ite ?_ ?_
  exact State.moves_of State.setWave_moves (by decide) (by assumption)
  assumption
  apply State.moves_ite ?_ ?_
  exact State.moves_of State.setFtw_moves (by decide) (by assumption)
  assumption
  apply State.moves_ite ?_ ?_
  exact State.moves_of State.put_moves (by decide) (by assumption)
  assumption
  apply State.moves_ite ?_ ?_
  exact State.moves_of State.put_moves (by decide) (by assumption)
  assumption
  apply State.moves_ite ?_ ?_
  exact State.moves_of State.waveClear_moves (by decide) State.moves_refl
  exact State.moves_refl

theorem State.capXfr_moves {s : State} {x1} {x2} {x3} {x4} :
    s.moves (State.capXfr s x1 x2 x3 x4) [.regs, .cap] := by
  unfold State.capXfr
  extract_lets +onlyGivenNames x
  extract_lets +onlyGivenNames x
  refine (fun (hx : s.moves x [.regs, .cap]) => ?_) ?_
  on_goal 2 => unfold x
  clear_value x
  extract_lets +onlyGivenNames x
  refine (fun (hx : s.moves x [.regs, .cap]) => ?_) ?_
  on_goal 2 => unfold x
  clear_value x
  extract_lets +onlyGivenNames x
  refine (fun (hx : s.moves x [.regs, .cap]) => ?_) ?_
  on_goal 2 => unfold x
  clear_value x
  extract_lets +onlyGivenNames x
  clear_value x
  extract_lets +onlyGivenNames x
  refine (fun (hx : s.moves x [.regs, .cap]) => ?_) ?_
  on_goal 2 => unfold x
  clear_value x
  refine moves_forUpto (fun u _ => ?_) ?_
  apply State.moves_ite ?_ ?_
  exact State.moves_of State.setCapture_moves (by decide) State.moves_refl
  exact State.moves_refl
  assumption
  apply State.moves_ite ?_ ?_
  refine State.moves_of State.put_moves (by decide) ?_
  exact State.moves_of State.setCapture_moves (by decide) (by assumption)
  assumption
  apply State.moves_ite ?_ ?_
  exact State.moves_of State.syncReset_moves (by decide) (by assumption)
  assumption
  apply State.moves_ite ?_ ?_
  exact State.moves_of State.put_moves (by decide) (by assumption)
  assumption
  apply State.moves_ite ?_ ?_
  exact State.moves_of State.put_moves (by decide) State.moves_refl
  exact State.moves_refl

theorem State.grpXfr_moves {s : State} {x1 : List Xfr} {x2 : List Xfr} {x3 : ℕ} :
    s.moves (State.grpXfr s x1 x2 x3) [.regs, .grp] := by
  unfold State.grpXfr
  refine moves_forEach (fun _ _ => ?_) ?_
  extract_lets +onlyGivenNames x
  clear_value x
  split
  apply State.moves_ite ?_ ?_
  exact State.moves_refl
  apply State.moves_ite ?_ ?_
  exact State.moves_of State.put_moves (by decide) State.moves_refl
  apply State.moves_ite ?_ ?_
  exact State.moves_of State.put_moves (by decide) State.moves_refl
  exact State.moves_refl
  exact State.moves_refl
  refine moves_forUpto (fun _ _ => ?_) ?_
  apply State.moves_ite ?_ ?_
  exact State.moves_of State.setGroup_moves (by decide) State.moves_refl
  exact State.moves_refl
  exact State.moves_refl

theorem State.trigRead_moves {s : State} {x1 : ℕ} :
    s.moves (State.trigRead s x1) [.evt] := by
  unfold State.trigRead
  extract_lets +onlyGivenNames x
  clear_value x
  extract_lets +onlyGivenNames x
  clear_value x
  with_reducible apply State.moves_mk
  on_goal 2 => exact fun p hp => by cases p <;> first | rfl | exact absurd (by decide) hp
  on_goal 2 => exact id
  exact State.moves_refl

theorem State.evtXfr_moves {s : State} {x1 : List Xfr} :
    s.moves (State.evtXfr s x1) [.evt] := by
  unfold State.evtXfr
  refine moves_forUpto (fun _ _ => ?_) ?_
  extract_lets +onlyGivenNames x
  clear_value x
  split
  apply State.moves_ite ?_ ?_
  with_reducible apply State.moves_mk
  on_goal 2 => exact fun p hp => by cases p <;> first | rfl | exact absurd (by decide) hp
  on_goal 2 => exact id
  exact State.moves_refl
  exact State.moves_refl
  exact State.moves_refl
  refine moves_forUpto (fun _ _ => ?_) ?_
  apply State.moves_ite ?_ ?_
  exact State.moves_of State.trigRead_moves (by decide) State.moves_refl
  exact State.moves_refl
  exact State.moves_refl

theorem State.levelTransfer_moves {s : State} {x1} :
    s.moves (State.levelTransfer s x1) [.regs, .act, .evt, .grp] := by
  unfold State.levelTransfer
  extract_lets +onlyGivenNames x
  clear_value x
  extract_lets +onlyGivenNames x
  clear_value x
  refine State.moves_of State.grpXfr_moves (by decide) ?_
  refine State.moves_of State.unwritten_moves (by decide) ?_
  refine moves_forEach (fun u _ => ?_) ?_
  exact State.moves_of State.transfer_moves (by decide) State.moves_refl
  exact State.moves_refl

theorem State.levelsDue_moves {s : State} :
    s.moves (State.levelsDue s) [.regs, .act, .evt, .grp] := by
  unfold State.levelsDue
  refine moves_forEach (fun u _ => ?_) ?_
  exact State.moves_of State.levelTransfer_moves (by decide) State.moves_refl
  with_reducible apply State.moves_mk
  on_goal 2 => exact fun p hp => by cases p <;> first | rfl | exact absurd (by decide) hp
  on_goal 2 => exact id
  exact State.moves_refl

theorem State.transferGroup_moves {s : State} {x1} :
    s.moves (State.transferGroup s x1) [.regs, .act, .segs, .stores, .mem, .evt, .wav, .grp, .cap, .latch, .xng, .mon, .mc,
      .pw, .clk, .txl, .cal] := by
  unfold State.transferGroup
  extract_lets +onlyGivenNames x
  refine (fun (hx : s.moves x [.regs, .act, .segs, .stores, .mem, .evt, .wav, .grp, .cap, .latch, .xng, .mon, .mc, .pw, .clk,
    .txl, .cal]) => ?_) ?_
  on_goal 2 => unfold x
  clear_value x
  extract_lets +onlyGivenNames x
  clear_value x
  extract_lets +onlyGivenNames x
  clear_value x
  extract_lets +onlyGivenNames x
  clear_value x
  extract_lets +onlyGivenNames x
  refine (fun (hx : s.moves x [.regs, .act, .segs, .stores, .mem, .evt, .wav, .grp, .cap, .latch, .xng, .mon, .mc, .pw, .clk,
    .txl, .cal]) => ?_) ?_
  on_goal 2 => unfold x
  clear_value x
  extract_lets +onlyGivenNames x
  clear_value x
  extract_lets +onlyGivenNames x
  clear_value x
  extract_lets +onlyGivenNames x
  clear_value x
  extract_lets +onlyGivenNames x
  clear_value x
  extract_lets +onlyGivenNames x
  refine (fun (hx : s.moves x [.regs, .act, .segs, .stores, .mem, .evt, .wav, .grp, .cap, .latch, .xng, .mon, .mc, .pw, .clk,
    .txl, .cal]) => ?_) ?_
  on_goal 2 => unfold x
  clear_value x
  extract_lets +onlyGivenNames x
  refine (fun (hx : s.moves x [.regs, .act, .segs, .stores, .mem, .evt, .wav, .grp, .cap, .latch, .xng, .mon, .mc, .pw, .clk,
    .txl, .cal]) => ?_) ?_
  on_goal 2 => unfold x
  clear_value x
  extract_lets +onlyGivenNames x
  refine (fun (hx : s.moves x [.regs, .act, .segs, .stores, .mem, .evt, .wav, .grp, .cap, .latch, .xng, .mon, .mc, .pw, .clk,
    .txl, .cal]) => ?_) ?_
  on_goal 2 => unfold x
  clear_value x
  extract_lets +onlyGivenNames x
  refine (fun (hx : s.moves x [.regs, .act, .segs, .stores, .mem, .evt, .wav, .grp, .cap, .latch, .xng, .mon, .mc, .pw, .clk,
    .txl, .cal]) => ?_) ?_
  on_goal 2 => unfold x
  clear_value x
  extract_lets +onlyGivenNames x
  refine (fun (hx : s.moves x [.regs, .act, .segs, .stores, .mem, .evt, .wav, .grp, .cap, .latch, .xng, .mon, .mc, .pw, .clk,
    .txl, .cal]) => ?_) ?_
  on_goal 2 => unfold x
  clear_value x
  extract_lets +onlyGivenNames x
  refine (fun (hx : s.moves x [.regs, .act, .segs, .stores, .mem, .evt, .wav, .grp, .cap, .latch, .xng, .mon, .mc, .pw, .clk,
    .txl, .cal]) => ?_) ?_
  on_goal 2 => unfold x
  clear_value x
  extract_lets +onlyGivenNames x
  refine (fun (hx : s.moves x [.regs, .act, .segs, .stores, .mem, .evt, .wav, .grp, .cap, .latch, .xng, .mon, .mc, .pw, .clk,
    .txl, .cal]) => ?_) ?_
  on_goal 2 => unfold x
  clear_value x
  apply State.moves_ite ?_ ?_
  exact State.moves_of State.txlConfigured_moves (by decide) (by assumption)
  assumption
  apply State.moves_ite ?_ ?_
  exact State.moves_of State.judgeOut_moves (by decide) (by assumption)
  assumption
  apply State.moves_ite ?_ ?_
  exact State.moves_of State.refSelected_moves (by decide) (by assumption)
  assumption
  exact State.moves_of State.evtXfr_moves (by decide) (by assumption)
  refine moves_forUpto (fun u _ => ?_) ?_
  exact State.moves_of State.grpXfr_moves (by decide) State.moves_refl
  assumption
  refine moves_forUpto (fun u _ => ?_) ?_
  exact State.moves_of State.capXfr_moves (by decide) State.moves_refl
  assumption
  refine moves_forUpto (fun u _ => ?_) ?_
  exact State.moves_of State.wavXfr_moves (by decide) State.moves_refl
  assumption
  refine State.moves_of State.unwritten_moves (by decide) ?_
  refine moves_forEach (fun u _ => ?_) ?_
  exact State.moves_of State.transfer_moves (by decide) State.moves_refl
  assumption
  with_reducible apply State.moves_mk
  on_goal 2 => exact fun p hp => by cases p <;> first | rfl | exact absurd (by decide) hp
  on_goal 2 => exact id
  assumption
  refine moves_forUpto (fun u _ => ?_) ?_
  apply State.moves_ite ?_ ?_
  exact State.moves_of State.hostCommit_moves (by decide) State.moves_refl
  exact State.moves_refl
  exact State.moves_refl

theorem State.strobeTile_moves {s : State} {x1 : ℕ} {x2 : ℕ} :
    s.moves (State.strobeTile s x1 x2) [.tiles] := by
  unfold State.strobeTile
  extract_lets +onlyGivenNames x
  clear_value x
  extract_lets +onlyGivenNames x
  refine (fun (hx : s.moves x [.tiles]) => ?_) ?_
  on_goal 2 => unfold x
  clear_value x
  extract_lets +onlyGivenNames x
  clear_value x
  split
  apply State.moves_ite ?_ ?_
  refine State.moves_of State.setTile_moves (by decide) ?_
  assumption
  assumption
  assumption
  split
  apply State.moves_ite ?_ ?_
  exact State.moves_of State.setTile_moves (by decide) State.moves_refl
  exact State.moves_refl
  exact State.moves_refl

theorem State.strobeRedirects_moves {s : State} {x1 : ℕ} :
    s.moves (State.strobeRedirects s x1) [.segs] := by
  unfold State.strobeRedirects
  with_reducible apply State.moves_mk
  on_goal 2 => exact fun p hp => by cases p <;> first | rfl | exact absurd (by decide) hp
  on_goal 2 => exact id
  exact State.moves_refl

theorem State.recAt_moves {s : State} {x1} {x2} {x3} {x4} {x5} :
    s.moves (State.recAt s x1 x2 x3 x4 x5) [.regs, .stores, .mem, .grp, .cap, .mc] := by
  unfold State.recAt
  extract_lets +onlyGivenNames x
  refine (fun (hx : s.moves x [.regs, .stores, .mem, .grp, .cap, .mc]) => ?_) ?_
  on_goal 2 => unfold x
  clear_value x
  apply State.moves_ite ?_ ?_
  exact State.moves_of State.recHalt_moves (by decide) (by assumption)
  apply State.moves_ite ?_ ?_
  exact State.moves_of State.recTrigger_moves (by decide) (by assumption)
  assumption
  apply State.moves_ite ?_ ?_
  apply State.moves_ite ?_ ?_
  exact State.moves_of State.setArmed_moves (by decide) State.moves_refl
  refine State.moves_of State.recGo_moves (by decide) ?_
  exact State.moves_of State.setArmed_moves (by decide) State.moves_refl
  exact State.moves_refl

theorem State.strobeRec_moves {s : State} {x1} {x2} :
    s.moves (State.strobeRec s x1 x2) [.regs, .stores, .mem, .grp, .cap, .mc] := by
  unfold State.strobeRec
  apply State.moves_ite ?_ ?_
  exact State.moves_refl
  exact State.moves_of State.recAt_moves (by decide) State.moves_refl

theorem State.swapWhen_moves {s : State} {x1 : ℕ} {x2 : ℕ} {x3 : ℕ} :
    s.moves (State.swapWhen s x1 x2 x3) [.regs, .cap] := by
  unfold State.swapWhen
  split
  apply State.moves_ite ?_ ?_
  exact State.moves_of State.swapTrigger_moves (by decide) State.moves_refl
  exact State.moves_refl
  exact State.moves_refl

theorem State.syncWhen_moves {s : State} {x1 : ℕ} {x2 : ℕ} :
    s.moves (State.syncWhen s x1 x2) [.regs, .cap] := by
  unfold State.syncWhen
  apply State.moves_ite ?_ ?_
  refine State.moves_of State.put_moves (by decide) ?_
  exact State.moves_of State.syncReset_moves (by decide) State.moves_refl
  exact State.moves_refl

theorem State.strobe_moves {s : State} {x1} {x2} :
    s.moves (State.strobe s x1 x2) [.regs, .act, .segs, .stores, .mem, .tiles, .evt, .wav, .grp, .cap, .latch, .xng, .mon,
      .monBegun, .monEnded, .mc, .pw, .clk, .txl, .cal] := by
  unfold State.strobe
  apply State.moves_ite ?_ ?_
  exact State.moves_refl
  extract_lets +onlyGivenNames x
  clear_value x
  extract_lets +onlyGivenNames x
  refine (fun (hx : s.moves x [.regs, .act, .segs, .stores, .mem, .tiles, .evt, .wav, .grp, .cap, .latch, .xng, .mon,
    .monBegun, .monEnded, .mc, .pw, .clk, .txl, .cal]) => ?_) ?_
  on_goal 2 => unfold x
  clear_value x
  extract_lets +onlyGivenNames x
  refine (fun (hx : s.moves x [.regs, .act, .segs, .stores, .mem, .tiles, .evt, .wav, .grp, .cap, .latch, .xng, .mon,
    .monBegun, .monEnded, .mc, .pw, .clk, .txl, .cal]) => ?_) ?_
  on_goal 2 => unfold x
  clear_value x
  extract_lets +onlyGivenNames x
  refine (fun (hx : s.moves x [.regs, .act, .segs, .stores, .mem, .tiles, .evt, .wav, .grp, .cap, .latch, .xng, .mon,
    .monBegun, .monEnded, .mc, .pw, .clk, .txl, .cal]) => ?_) ?_
  on_goal 2 => unfold x
  clear_value x
  extract_lets +onlyGivenNames x
  refine (fun (hx : s.moves x [.regs, .act, .segs, .stores, .mem, .tiles, .evt, .wav, .grp, .cap, .latch, .xng, .mon,
    .monBegun, .monEnded, .mc, .pw, .clk, .txl, .cal]) => ?_) ?_
  on_goal 2 => unfold x
  clear_value x
  extract_lets +onlyGivenNames x
  refine (fun (hx : s.moves x [.regs, .act, .segs, .stores, .mem, .tiles, .evt, .wav, .grp, .cap, .latch, .xng, .mon,
    .monBegun, .monEnded, .mc, .pw, .clk, .txl, .cal]) => ?_) ?_
  on_goal 2 => unfold x
  clear_value x
  extract_lets +onlyGivenNames x
  refine (fun (hx : s.moves x [.regs, .act, .segs, .stores, .mem, .tiles, .evt, .wav, .grp, .cap, .latch, .xng, .mon,
    .monBegun, .monEnded, .mc, .pw, .clk, .txl, .cal]) => ?_) ?_
  on_goal 2 => unfold x
  clear_value x
  extract_lets +onlyGivenNames x
  refine (fun (hx : s.moves x [.regs, .act, .segs, .stores, .mem, .tiles, .evt, .wav, .grp, .cap, .latch, .xng, .mon,
    .monBegun, .monEnded, .mc, .pw, .clk, .txl, .cal]) => ?_) ?_
  on_goal 2 => unfold x
  clear_value x
  extract_lets +onlyGivenNames x
  refine (fun (hx : s.moves x [.regs, .act, .segs, .stores, .mem, .tiles, .evt, .wav, .grp, .cap, .latch, .xng, .mon,
    .monBegun, .monEnded, .mc, .pw, .clk, .txl, .cal]) => ?_) ?_
  on_goal 2 => unfold x
  clear_value x
  exact State.moves_of State.monSelect_moves (by decide) (by assumption)
  apply State.moves_ite ?_ ?_
  exact State.moves_of State.rampStrobe_moves (by decide) (by assumption)
  assumption
  refine moves_forUpto (fun u _ => ?_) ?_
  apply State.moves_ite ?_ ?_
  exact State.moves_of State.tmrStart_moves (by decide) State.moves_refl
  exact State.moves_refl
  assumption
  refine moves_forUpto (fun u _ => ?_) ?_
  exact State.moves_of State.strobeRec_moves (by decide) State.moves_refl
  assumption
  refine moves_forUpto (fun u _ => ?_) ?_
  apply State.moves_ite ?_ ?_
  refine State.moves_of State.swapWhen_moves (by decide) ?_
  exact State.moves_of State.syncWhen_moves (by decide) State.moves_refl
  exact State.moves_refl
  assumption
  exact State.moves_of State.strobeRedirects_moves (by decide) (by assumption)
  refine moves_forUpto (fun u _ => ?_) ?_
  exact State.moves_of State.strobeTile_moves (by decide) State.moves_refl
  assumption
  exact State.moves_of State.transferGroup_moves (by decide) (by assumption)
  with_reducible apply State.moves_mk
  on_goal 2 => exact fun p hp => by cases p <;> first | rfl | exact absurd (by decide) hp
  on_goal 2 => exact id
  exact State.moves_refl

theorem State.strobeFrom_moves {s : State} {x1} {x2} :
    s.moves (State.strobeFrom s x1 x2) [.regs, .act, .segs, .stores, .mem, .tiles, .evt, .wav, .grp, .cap, .latch, .xng,
      .mon, .monBegun, .monEnded, .mc, .pw, .clk, .txl, .cal] := by
  unfold State.strobeFrom
  refine moves_forUpto (fun u _ => ?_) ?_
  apply State.moves_ite ?_ ?_
  exact State.moves_of State.strobe_moves (by decide) State.moves_refl
  exact State.moves_refl
  exact State.moves_refl

theorem State.strobeDueNow_moves {s : State} :
    s.moves (State.strobeDueNow s) [.regs, .act, .segs, .stores, .mem, .tiles, .evt, .wav, .grp, .cap, .latch, .xng, .mon,
      .monBegun, .monEnded, .mc, .pw, .clk, .txl, .cal] := by
  unfold State.strobeDueNow
  extract_lets +onlyGivenNames x
  clear_value x
  extract_lets +onlyGivenNames x
  clear_value x
  extract_lets +onlyGivenNames x
  refine (fun (hx : s.moves x [.regs, .act, .segs, .stores, .mem, .tiles, .evt, .wav, .grp, .cap, .latch, .xng, .mon,
    .monBegun, .monEnded, .mc, .pw, .clk, .txl, .cal]) => ?_) ?_
  on_goal 2 => unfold x
  clear_value x
  refine moves_forEach (fun u _ => ?_) ?_
  exact State.moves_of State.strobe_moves (by decide) State.moves_refl
  assumption
  with_reducible apply State.moves_mk
  on_goal 2 => exact fun p hp => by cases p <;> first | rfl | exact absurd (by decide) hp
  on_goal 2 => exact id
  exact State.moves_refl

theorem execGlbUpdate_moves {s : State} {x0} :
    s.moves (nextOr s (execGlbUpdate x0 s)) [.regs, .act, .segs, .stores, .mem, .tiles, .evt, .wav, .grp, .cap, .latch, .xng,
      .mon, .monBegun, .monEnded, .mc, .pw, .clk, .txl, .cal] := by
  unfold execGlbUpdate
  rw [nextOr_next]
  refine moves_forUpto (fun u _ => ?_) ?_
  apply State.moves_ite ?_ ?_
  exact State.moves_of State.strobe_moves (by decide) State.moves_refl
  exact State.moves_refl
  exact State.moves_refl

theorem State.catchOn_moves {s : State} {x1 : ℕ} {x2 : Ts} {x3 : ℕ} :
    s.moves (State.catchOn s x1 x2 x3) [.regs, .tiles, .evt] := by
  unfold State.catchOn
  extract_lets +onlyGivenNames x
  clear_value x
  split
  exact State.moves_refl
  extract_lets +onlyGivenNames x
  clear_value x
  split
  exact State.moves_of State.setTile_moves (by decide) State.moves_refl
  apply State.moves_ite ?_ ?_
  exact State.moves_refl
  refine State.moves_of State.bump_moves (by decide) ?_
  exact State.moves_of State.logWrite_moves (by decide) State.moves_refl

theorem State.offerAll_moves {s : State} :
    s.moves (State.offerAll s) [.regs, .tiles, .evt] := by
  unfold State.offerAll
  refine moves_forEach (fun u _ => ?_) ?_
  refine moves_forUpto (fun u _ => ?_) ?_
  exact State.moves_of State.catchOn_moves (by decide) State.moves_refl
  exact State.moves_refl
  with_reducible apply State.moves_mk
  on_goal 2 => exact fun p hp => by cases p <;> first | rfl | exact absurd (by decide) hp
  on_goal 2 => exact id
  exact State.moves_refl

theorem State.waitRelease_moves {s : State} {x1} {x2} :
    s.moves (State.waitRelease s x1 x2) [.tiles] := by
  unfold State.waitRelease
  split
  apply State.moves_ite ?_ ?_
  exact State.moves_of State.putItem_moves (by decide) State.moves_refl
  exact State.moves_refl
  exact State.moves_refl

theorem State.sysExport_moves {s : State} {x1 : ℕ} {x2 : Ts} {x3 : ℕ} :
    s.moves (State.sysExport s x1 x2 x3) [.evt] := by
  unfold State.sysExport
  apply State.moves_ite ?_ ?_
  extract_lets +onlyGivenNames x
  clear_value x
  extract_lets +onlyGivenNames x
  clear_value x
  with_reducible apply State.moves_mk
  on_goal 2 => exact fun p hp => by cases p <;> first | rfl | exact absurd (by decide) hp
  on_goal 2 => exact id
  exact State.moves_refl
  exact State.moves_refl

theorem State.regUses_moves {s : State} {x1} {x2} :
    s.moves (State.regUses s x1 x2) [.regs, .act, .segs, .stores, .mem, .tiles, .evt, .wav, .grp, .cap, .latch, .xng, .mon,
      .monBegun, .monEnded, .mc, .pw, .clk, .txl, .cal] := by
  unfold State.regUses
  extract_lets +onlyGivenNames x
  refine (fun (hx : s.moves x [.regs, .act, .segs, .stores, .mem, .tiles, .evt, .wav, .grp, .cap, .latch, .xng, .mon,
    .monBegun, .monEnded, .mc, .pw, .clk, .txl, .cal]) => ?_) ?_
  on_goal 2 => unfold x
  clear_value x
  extract_lets +onlyGivenNames x
  refine (fun (hx : s.moves x [.regs, .act, .segs, .stores, .mem, .tiles, .evt, .wav, .grp, .cap, .latch, .xng, .mon,
    .monBegun, .monEnded, .mc, .pw, .clk, .txl, .cal]) => ?_) ?_
  on_goal 2 => unfold x
  clear_value x
  extract_lets +onlyGivenNames x
  refine (fun (hx : s.moves x [.regs, .act, .segs, .stores, .mem, .tiles, .evt, .wav, .grp, .cap, .latch, .xng, .mon,
    .monBegun, .monEnded, .mc, .pw, .clk, .txl, .cal]) => ?_) ?_
  on_goal 2 => unfold x
  clear_value x
  extract_lets +onlyGivenNames x
  refine (fun (hx : s.moves x [.regs, .act, .segs, .stores, .mem, .tiles, .evt, .wav, .grp, .cap, .latch, .xng, .mon,
    .monBegun, .monEnded, .mc, .pw, .clk, .txl, .cal]) => ?_) ?_
  on_goal 2 => unfold x
  clear_value x
  extract_lets +onlyGivenNames x
  refine (fun (hx : s.moves x [.regs, .act, .segs, .stores, .mem, .tiles, .evt, .wav, .grp, .cap, .latch, .xng, .mon,
    .monBegun, .monEnded, .mc, .pw, .clk, .txl, .cal]) => ?_) ?_
  on_goal 2 => unfold x
  clear_value x
  refine State.moves_of State.strobeFrom_moves (by decide) ?_
  exact State.moves_of State.monSelect_moves (by decide) (by assumption)
  refine moves_forUpto (fun u _ => ?_) ?_
  exact State.moves_of State.swapWhen_moves (by decide) State.moves_refl
  assumption
  refine moves_forUpto (fun u _ => ?_) ?_
  exact State.moves_of State.recAt_moves (by decide) State.moves_refl
  assumption
  apply State.moves_ite ?_ ?_
  exact State.moves_of State.notify_moves (by decide) (by assumption)
  assumption
  refine moves_forUpto (fun u _ => ?_) ?_
  apply State.moves_ite ?_ ?_
  exact State.moves_of State.tmrStart_moves (by decide) State.moves_refl
  exact State.moves_refl
  assumption
  refine moves_forUpto (fun u _ => ?_) ?_
  exact State.moves_of State.waitRelease_moves (by decide) State.moves_refl
  exact State.moves_refl

theorem State.regEvent_moves {s : State} {x1} {x2} {x3} {x4} :
    s.moves (State.regEvent s x1 x2 x3 x4) [.regs, .act, .segs, .stores, .mem, .tiles, .evt, .wav, .grp, .cap, .latch, .xng,
      .mon, .monBegun, .monEnded, .mc, .pw, .clk, .txl, .cal] := by
  unfold State.regEvent
  extract_lets +onlyGivenNames x
  clear_value x
  extract_lets +onlyGivenNames x
  clear_value x
  extract_lets +onlyGivenNames x
  refine (fun (hx : s.moves x [.regs, .act, .segs, .stores, .mem, .tiles, .evt, .wav, .grp, .cap, .latch, .xng, .mon,
    .monBegun, .monEnded, .mc, .pw, .clk, .txl, .cal]) => ?_) ?_
  on_goal 2 => unfold x
  clear_value x
  extract_lets +onlyGivenNames x
  refine (fun (hx : s.moves x [.regs, .act, .segs, .stores, .mem, .tiles, .evt, .wav, .grp, .cap, .latch, .xng, .mon,
    .monBegun, .monEnded, .mc, .pw, .clk, .txl, .cal]) => ?_) ?_
  on_goal 2 => unfold x
  clear_value x
  extract_lets +onlyGivenNames x
  clear_value x
  extract_lets +onlyGivenNames x
  refine (fun (hx : s.moves x [.regs, .act, .segs, .stores, .mem, .tiles, .evt, .wav, .grp, .cap, .latch, .xng, .mon,
    .monBegun, .monEnded, .mc, .pw, .clk, .txl, .cal]) => ?_) ?_
  on_goal 2 => unfold x
  clear_value x
  extract_lets +onlyGivenNames x
  refine (fun (hx : s.moves x [.regs, .act, .segs, .stores, .mem, .tiles, .evt, .wav, .grp, .cap, .latch, .xng, .mon,
    .monBegun, .monEnded, .mc, .pw, .clk, .txl, .cal]) => ?_) ?_
  on_goal 2 => unfold x
  clear_value x
  exact State.moves_of State.regUses_moves (by decide) (by assumption)
  apply State.moves_ite ?_ ?_
  refine moves_forUpto (fun u _ => ?_) ?_
  exact State.moves_of State.sysExport_moves (by decide) State.moves_refl
  assumption
  assumption
  with_reducible apply State.moves_mk
  on_goal 2 => exact fun p hp => by cases p <;> first | rfl | exact absurd (by decide) hp
  on_goal 2 => exact id
  assumption
  apply State.moves_ite ?_ ?_
  exact State.moves_of State.logWrite_moves (by decide) (by assumption)
  assumption
  with_reducible apply State.moves_mk
  on_goal 2 => exact fun p hp => by cases p <;> first | rfl | exact absurd (by decide) hp
  on_goal 2 => exact id
  exact State.moves_refl

theorem State.regEarlier_moves {s : State} {x1} {x2} :
    s.moves (State.regEarlier s x1 x2) [.evt] := by
  unfold State.regEarlier
  extract_lets +onlyGivenNames x
  clear_value x
  apply State.moves_ite ?_ ?_
  exact State.moves_refl
  with_reducible apply State.moves_mk
  on_goal 2 => exact fun p hp => by cases p <;> first | rfl | exact absurd (by decide) hp
  on_goal 2 => exact id
  exact State.moves_refl

theorem State.regLocal_moves {s : State} {x1} {x2} :
    s.moves (State.regLocal s x1 x2) [.regs, .act, .segs, .stores, .mem, .tiles, .evt, .wav, .grp, .cap, .latch, .xng, .mon,
      .monBegun, .monEnded, .mc, .pw, .clk, .txl, .cal] := by
  unfold State.regLocal
  apply State.moves_ite ?_ ?_
  exact State.moves_of State.regEvent_moves (by decide) State.moves_refl
  apply State.moves_ite ?_ ?_
  exact State.moves_of State.regEarlier_moves (by decide) State.moves_refl
  exact State.moves_refl

theorem State.regSystem_moves {s : State} {x1} :
    s.moves (State.regSystem s x1) [.regs, .act, .segs, .stores, .mem, .tiles, .evt, .wav, .grp, .cap, .latch, .xng, .mon,
      .monBegun, .monEnded, .mc, .pw, .clk, .txl, .cal] := by
  unfold State.regSystem
  extract_lets +onlyGivenNames x
  extract_lets +onlyGivenNames x
  extract_lets +onlyGivenNames x
  refine (fun (hx : s.moves x [.regs, .act, .segs, .stores, .mem, .tiles, .evt, .wav, .grp, .cap, .latch, .xng, .mon,
    .monBegun, .monEnded, .mc, .pw, .clk, .txl, .cal]) => ?_) ?_
  on_goal 2 => unfold x
  extract_lets +onlyGivenNames x
  refine (fun (hx : s.moves x [.regs, .act, .segs, .stores, .mem, .tiles, .evt, .wav, .grp, .cap, .latch, .xng, .mon,
    .monBegun, .monEnded, .mc, .pw, .clk, .txl, .cal]) => ?_) ?_
  on_goal 2 => unfold x
  apply State.moves_ite ?_ ?_
  exact State.moves_of State.regEarlier_moves (by decide) (by assumption)
  exact State.moves_of State.regEvent_moves (by decide) (by assumption)
  exact State.moves_of State.monMark_moves (by decide) (by assumption)
  with_reducible apply State.moves_mk
  on_goal 2 => exact fun p hp => by cases p <;> first | rfl | exact absurd (by decide) hp
  on_goal 2 => exact id
  exact State.moves_refl

theorem execEventRegistration_moves {s : State} {x0} {x1} :
    s.moves (nextOr s (execEventRegistration x0 x1 s)) [.regs, .act, .segs, .stores, .mem, .tiles, .evt, .wav, .grp, .cap,
      .latch, .xng, .mon, .monBegun, .monEnded, .mc, .pw, .clk, .txl, .cal] := by
  unfold execEventRegistration
  rw [nextOr_next]
  apply State.moves_ite ?_ ?_
  refine State.moves_of State.regLocal_moves (by decide) ?_
  apply State.moves_ite ?_ ?_
  exact State.moves_refl
  exact State.moves_of State.monMark_moves (by decide) State.moves_refl
  exact State.moves_of State.regSystem_moves (by decide) State.moves_refl

theorem State.occDue_moves {s : State} :
    s.moves (State.occDue s) [.regs, .act, .segs, .stores, .mem, .tiles, .evt, .wav, .grp, .cap, .latch, .xng, .mon,
      .monBegun, .monEnded, .mc, .pw, .clk, .txl, .cal] := by
  unfold State.occDue
  extract_lets +onlyGivenNames x
  clear_value x
  apply State.moves_ite ?_ ?_
  exact State.moves_refl
  extract_lets +onlyGivenNames x
  clear_value x
  extract_lets +onlyGivenNames x
  refine (fun (hx : s.moves x [.regs, .act, .segs, .stores, .mem, .tiles, .evt, .wav, .grp, .cap, .latch, .xng, .mon,
    .monBegun, .monEnded, .mc, .pw, .clk, .txl, .cal]) => ?_) ?_
  on_goal 2 => unfold x
  clear_value x
  extract_lets +onlyGivenNames x
  refine (fun (hx : s.moves x [.regs, .act, .segs, .stores, .mem, .tiles, .evt, .wav, .grp, .cap, .latch, .xng, .mon,
    .monBegun, .monEnded, .mc, .pw, .clk, .txl, .cal]) => ?_) ?_
  on_goal 2 => unfold x
  clear_value x
  refine moves_forUpto (fun u _ => ?_) ?_
  split
  exact State.moves_of State.regLocal_moves (by decide) State.moves_refl
  exact State.moves_refl
  assumption
  refine moves_forEach (fun u _ => ?_) ?_
  exact State.moves_of State.monMark_moves (by decide) State.moves_refl
  assumption
  with_reducible apply State.moves_mk
  on_goal 2 => exact fun p hp => by cases p <;> first | rfl | exact absurd (by decide) hp
  on_goal 2 => exact id
  exact State.moves_refl

theorem State.sysDue_moves {s : State} :
    s.moves (State.sysDue s) [.regs, .act, .segs, .stores, .mem, .tiles, .evt, .wav, .grp, .cap, .latch, .xng, .mon,
      .monBegun, .monEnded, .mc, .pw, .clk, .txl, .cal] := by
  unfold State.sysDue
  extract_lets +onlyGivenNames x
  clear_value x
  extract_lets +onlyGivenNames x
  clear_value x
  extract_lets +onlyGivenNames x
  refine (fun (hx : s.moves x [.regs, .act, .segs, .stores, .mem, .tiles, .evt, .wav, .grp, .cap, .latch, .xng, .mon,
    .monBegun, .monEnded, .mc, .pw, .clk, .txl, .cal]) => ?_) ?_
  on_goal 2 => unfold x
  clear_value x
  refine moves_forEach (fun u _ => ?_) ?_
  exact State.moves_of State.regSystem_moves (by decide) State.moves_refl
  assumption
  with_reducible apply State.moves_mk
  on_goal 2 => exact fun p hp => by cases p <;> first | rfl | exact absurd (by decide) hp
  on_goal 2 => exact id
  exact State.moves_refl

theorem execSystemEventMessage_moves {s : State} {x0} {x1} {x2} {x3} {x4} :
    s.moves (nextOr s (execSystemEventMessage x0 x1 x2 x3 x4 s)) [.regs, .act, .segs, .stores, .mem, .tiles, .evt, .wav,
      .grp, .cap, .latch, .xng, .mon, .monBegun, .monEnded, .mc, .pw, .clk, .txl, .cal] := by
  unfold execSystemEventMessage
  rw [nextOr_next]
  apply State.moves_ite ?_ ?_
  exact State.moves_refl
  extract_lets +onlyGivenNames x
  clear_value x
  apply State.moves_ite ?_ ?_
  extract_lets +onlyGivenNames x
  clear_value x
  with_reducible apply State.moves_mk
  on_goal 2 => exact fun p hp => by cases p <;> first | rfl | exact absurd (by decide) hp
  on_goal 2 => exact id
  exact State.moves_refl
  refine State.moves_of State.regSystem_moves (by decide) ?_
  refine State.moves_of State.bump_moves (by decide) ?_
  exact State.moves_of State.put_moves (by decide) State.moves_refl

theorem State.trigEdge_moves {s : State} {x1 : ℕ} {x2 : Bool} {x3 : ℕ} :
    s.moves (State.trigEdge s x1 x2 x3) [.evt] := by
  unfold State.trigEdge
  apply State.moves_ite ?_ ?_
  exact State.moves_refl
  apply State.moves_ite ?_ ?_
  refine State.moves_of State.occur_moves (by decide) ?_
  extract_lets +onlyGivenNames x
  clear_value x
  with_reducible apply State.moves_mk
  on_goal 2 => exact fun p hp => by cases p <;> first | rfl | exact absurd (by decide) hp
  on_goal 2 => exact id
  exact State.moves_refl
  extract_lets +onlyGivenNames x
  clear_value x
  with_reducible apply State.moves_mk
  on_goal 2 => exact fun p hp => by cases p <;> first | rfl | exact absurd (by decide) hp
  on_goal 2 => exact id
  exact State.moves_refl

theorem execTrigEdge_moves {x0 : TrigNo} {x1 : Bool} {x2 : BitVec 10} {s : State} :
    s.moves (nextOr s (execTrigEdge x0 x1 x2 s)) [.evt] := by
  unfold execTrigEdge
  rw [nextOr_next]
  exact State.moves_of State.trigEdge_moves (by decide) State.moves_refl

theorem State.trigTick_moves {s : State} :
    s.moves (State.trigTick s) [.evt] := by
  unfold State.trigTick
  refine moves_forUpto (fun _ _ => ?_) ?_
  exact State.moves_of State.trigEdge_moves (by decide) State.moves_refl
  exact State.moves_refl

theorem execThresholdChange_moves {x0 : CapCh} {x1 : Fin 4} {x2 : Bool} {x3 : Ts} {s : State} :
    s.moves (nextOr s (execThresholdChange x0 x1 x2 x3 s)) [.regs, .evt, .cap] := by
  unfold execThresholdChange
  split
  rw [nextOr_next]
  exact State.moves_refl
  rw [nextOr_next]
  exact State.moves_of State.thrChange_moves (by decide) State.moves_refl

theorem execPinCompareFail_moves {s : State} {x0} {x1} {x2} :
    s.moves (nextOr s (execPinCompareFail x0 x1 x2 s)) [.regs, .evt, .grp] := by
  unfold execPinCompareFail
  extract_lets +onlyGivenNames x
  clear_value x
  extract_lets +onlyGivenNames x
  clear_value x
  rw [nextOr_next]
  apply State.moves_ite ?_ ?_
  exact State.moves_refl
  refine State.moves_of State.failCycle_moves (by decide) ?_
  exact State.moves_of State.pinFail_moves (by decide) State.moves_refl

theorem execMatcherMatch_moves {x0 : Grp} {x1 : Fin 8} {x2 : Bool} {x3 : BitVec 4} {x4 : Ts} {s : State} :
    s.moves (nextOr s (execMatcherMatch x0 x1 x2 x3 x4 s)) [.evt, .grp] := by
  unfold execMatcherMatch
  split
  rw [nextOr_next]
  exact State.moves_of State.matchShift_moves (by decide) State.moves_refl
  rw [nextOr_next]
  exact State.moves_refl

theorem execEvtHostRaise_moves {x0 : Word} {s : State} :
    s.moves (nextOr s (execEvtHostRaise x0 s)) [.evt] := by
  unfold execEvtHostRaise
  rw [nextOr_next]
  refine moves_forUpto (fun _ _ => ?_) ?_
  apply State.moves_ite ?_ ?_
  exact State.moves_of State.occur_moves (by decide) State.moves_refl
  exact State.moves_refl
  exact State.moves_refl

theorem execHostEventRaiseMessage_moves {x0 : Fin 32} {s : State} :
    s.moves (nextOr s (execHostEventRaiseMessage x0 s)) [.evt, .xng] := by
  unfold execHostEventRaiseMessage
  extract_lets +onlyGivenNames x
  clear_value x
  split
  rw [nextOr_next]
  refine State.moves_of State.occur_moves (by decide) ?_
  with_reducible apply State.moves_mk
  on_goal 2 => exact fun p hp => by cases p <;> first | rfl | exact absurd (by decide) hp
  on_goal 2 => exact id
  exact State.moves_refl
  rw [nextOr_next]
  exact State.moves_refl

theorem State.loadTile_moves {s : State} {x1 : ℕ} {x2 : ℕ} :
    s.moves (State.loadTile s x1 x2) [.tiles] := by
  unfold State.loadTile
  extract_lets +onlyGivenNames x
  clear_value x
  extract_lets +onlyGivenNames x
  refine (fun (hx : s.moves x [.tiles]) => ?_) ?_
  on_goal 2 => unfold x
  clear_value x
  extract_lets +onlyGivenNames x
  clear_value x
  split
  split
  refine State.moves_of State.setTile_moves (by decide) ?_
  assumption
  refine State.moves_of State.setTile_moves (by decide) ?_
  assumption
  assumption
  split
  split
  exact State.moves_of State.setTile_moves (by decide) State.moves_refl
  exact State.moves_refl
  exact State.moves_refl

theorem State.loadTime_moves {s : State} {x1 : ℕ} :
    s.moves (State.loadTime s x1) [.timeOff, .segs, .tiles] := by
  unfold State.loadTime
  extract_lets +onlyGivenNames x
  refine (fun (hx : s.moves x [.timeOff, .segs, .tiles]) => ?_) ?_
  on_goal 2 => unfold x
  clear_value x
  with_reducible apply State.moves_mk
  on_goal 2 => exact fun p hp => by cases p <;> first | rfl | exact absurd (by decide) hp
  on_goal 2 => exact id
  assumption
  refine moves_forUpto (fun _ _ => ?_) ?_
  exact State.moves_of State.loadTile_moves (by decide) State.moves_refl
  exact State.moves_refl

theorem State.retimeTile_moves {s : State} {x1 : ℕ} {x2 : ℕ} :
    s.moves (State.retimeTile s x1 x2) [.tiles] := by
  unfold State.retimeTile
  extract_lets +onlyGivenNames x
  clear_value x
  extract_lets +onlyGivenNames x
  refine (fun (hx : s.moves x [.tiles]) => ?_) ?_
  on_goal 2 => unfold x
  clear_value x
  extract_lets +onlyGivenNames x
  clear_value x
  split
  apply State.moves_ite ?_ ?_
  assumption
  refine State.moves_of State.setTile_moves (by decide) ?_
  assumption
  assumption
  split
  split
  exact State.moves_of State.setTile_moves (by decide) State.moves_refl
  exact State.moves_refl
  exact State.moves_refl

theorem State.acqTick_moves {s : State} : s.moves (State.acqTick s) [.timeOff, .tiles, .clk, .txl] := by
  unfold State.acqTick
  apply State.moves_ite State.moves_refl
  extract_lets a d u src s1 s2 src2
  have h1 : s.moves s1 [.timeOff, .tiles, .clk, .txl] := ⟨fun p hp => by cases p <;> first | rfl | exact absurd (by decide) hp, id⟩
  clear_value s1
  apply State.moves_ite h1
  have h2 : s.moves s2 [.timeOff, .tiles, .clk, .txl] :=
    moves_forUpto (fun _ _ => State.moves_mono State.retimeTile_moves (by decide)) h1
  clear_value s2
  exact State.moves_mk h2 (fun p hp => by cases p <;> first | rfl | exact absurd (by decide) hp) id

theorem State.pulseTile_moves {s : State} {x1 : ℕ} :
    s.moves (State.pulseTile s x1) [.tiles] := by
  unfold State.pulseTile
  extract_lets +onlyGivenNames x
  clear_value x
  extract_lets +onlyGivenNames x
  refine (fun (hx : s.moves x [.tiles]) => ?_) ?_
  on_goal 2 => unfold x
  clear_value x
  extract_lets +onlyGivenNames x
  clear_value x
  split
  apply State.moves_ite ?_ ?_
  refine State.moves_of State.setTile_moves (by decide) ?_
  assumption
  assumption
  assumption
  split
  apply State.moves_ite ?_ ?_
  exact State.moves_of State.setTile_moves (by decide) State.moves_refl
  exact State.moves_refl
  exact State.moves_refl

theorem State.joinAt_moves {s : State} {x1} :
    s.moves (State.joinAt s x1) [.timeOff, .regs, .segs, .stores, .mem, .tiles, .wav, .grp, .cap, .latch, .mc, .pw, .clk,
      .txl, .cal] := by
  unfold State.joinAt
  extract_lets +onlyGivenNames x
  apply State.moves_ite ?_ ?_
  extract_lets +onlyGivenNames x
  refine (fun (hx : s.moves x [.timeOff, .regs, .segs, .stores, .mem, .tiles, .wav, .grp, .cap, .latch, .mc, .pw, .clk, .txl,
    .cal]) => ?_) ?_
  on_goal 2 => unfold x
  clear_value x
  extract_lets +onlyGivenNames x
  refine (fun (hx : s.moves x [.timeOff, .regs, .segs, .stores, .mem, .tiles, .wav, .grp, .cap, .latch, .mc, .pw, .clk, .txl,
    .cal]) => ?_) ?_
  on_goal 2 => unfold x
  clear_value x
  with_reducible apply State.moves_mk
  on_goal 2 => exact fun p hp => by cases p <;> first | rfl | exact absurd (by decide) hp
  on_goal 2 => exact id
  assumption
  refine State.moves_of State.put_moves (by decide) ?_
  refine State.moves_of State.put_moves (by decide) ?_
  exact State.moves_of State.put_moves (by decide) (by assumption)
  refine State.moves_of State.setLoop_moves (by decide) ?_
  exact State.moves_of State.loadTime_moves (by decide) State.moves_refl
  exact State.moves_refl

theorem execSyncPulse_moves {s : State} :
    s.moves (nextOr s (execSyncPulse s)) [.timeOff, .regs, .act, .segs, .stores, .mem, .tiles, .evt, .wav, .grp, .cap,
      .latch, .xng, .mon, .monBegun, .monEnded, .mc, .pw, .clk, .txl, .cal] := by
  unfold execSyncPulse
  rw [nextOr_next]
  split
  exact State.moves_refl
  apply State.moves_ite ?_ ?_
  exact State.moves_refl
  extract_lets +onlyGivenNames x
  refine (fun (hx : s.moves x [.timeOff, .regs, .act, .segs, .stores, .mem, .tiles, .evt, .wav, .grp, .cap, .latch, .xng,
    .mon, .monBegun, .monEnded, .mc, .pw, .clk, .txl, .cal]) => ?_) ?_
  on_goal 2 => unfold x
  clear_value x
  extract_lets +onlyGivenNames x
  clear_value x
  extract_lets +onlyGivenNames x
  refine (fun (hx : s.moves x [.timeOff, .regs, .act, .segs, .stores, .mem, .tiles, .evt, .wav, .grp, .cap, .latch, .xng,
    .mon, .monBegun, .monEnded, .mc, .pw, .clk, .txl, .cal]) => ?_) ?_
  on_goal 2 => unfold x
  clear_value x
  extract_lets +onlyGivenNames x
  refine (fun (hx : s.moves x [.timeOff, .regs, .act, .segs, .stores, .mem, .tiles, .evt, .wav, .grp, .cap, .latch, .xng,
    .mon, .monBegun, .monEnded, .mc, .pw, .clk, .txl, .cal]) => ?_) ?_
  on_goal 2 => unfold x
  clear_value x
  extract_lets +onlyGivenNames x
  refine (fun (hx : s.moves x [.timeOff, .regs, .act, .segs, .stores, .mem, .tiles, .evt, .wav, .grp, .cap, .latch, .xng,
    .mon, .monBegun, .monEnded, .mc, .pw, .clk, .txl, .cal]) => ?_) ?_
  on_goal 2 => unfold x
  clear_value x
  extract_lets +onlyGivenNames x
  clear_value x
  extract_lets +onlyGivenNames x
  refine (fun (hx : s.moves x [.timeOff, .regs, .act, .segs, .stores, .mem, .tiles, .evt, .wav, .grp, .cap, .latch, .xng,
    .mon, .monBegun, .monEnded, .mc, .pw, .clk, .txl, .cal]) => ?_) ?_
  on_goal 2 => unfold x
  clear_value x
  extract_lets +onlyGivenNames x
  refine (fun (hx : s.moves x [.timeOff, .regs, .act, .segs, .stores, .mem, .tiles, .evt, .wav, .grp, .cap, .latch, .xng,
    .mon, .monBegun, .monEnded, .mc, .pw, .clk, .txl, .cal]) => ?_) ?_
  on_goal 2 => unfold x
  clear_value x
  extract_lets +onlyGivenNames x
  refine (fun (hx : s.moves x [.timeOff, .regs, .act, .segs, .stores, .mem, .tiles, .evt, .wav, .grp, .cap, .latch, .xng,
    .mon, .monBegun, .monEnded, .mc, .pw, .clk, .txl, .cal]) => ?_) ?_
  on_goal 2 => unfold x
  clear_value x
  exact State.moves_of State.strobeFrom_moves (by decide) (by assumption)
  refine moves_forUpto (fun u _ => ?_) ?_
  refine State.moves_of State.swapWhen_moves (by decide) ?_
  exact State.moves_of State.syncWhen_moves (by decide) State.moves_refl
  assumption
  refine moves_forUpto (fun u _ => ?_) ?_
  exact State.moves_of State.pulseTile_moves (by decide) State.moves_refl
  assumption
  with_reducible apply State.moves_mk
  on_goal 2 => exact fun p hp => by cases p <;> first | rfl | exact absurd (by decide) hp
  on_goal 2 => exact id
  assumption
  exact State.moves_of State.put_moves (by decide) (by assumption)
  exact State.moves_of State.syncMembers_moves (by decide) (by assumption)
  apply State.moves_ite ?_ ?_
  refine State.moves_of State.restep_moves (by decide) ?_
  with_reducible apply State.moves_mk
  on_goal 2 => exact fun p hp => by cases p <;> first | rfl | exact absurd (by decide) hp
  on_goal 2 => exact id
  assumption
  assumption
  exact State.moves_of State.joinAt_moves (by decide) State.moves_refl

theorem State.captureReset_moves {s : State} {x1} :
    s.moves (State.captureReset s x1) [.regs, .stores, .mem, .wav, .grp, .cap, .latch, .mc, .cal] := by
  unfold State.captureReset
  extract_lets +onlyGivenNames x
  refine (fun (hx : s.moves x [.regs, .stores, .mem, .wav, .grp, .cap, .latch, .mc, .cal]) => ?_) ?_
  on_goal 2 => unfold x
  extract_lets +onlyGivenNames x
  extract_lets +onlyGivenNames x
  clear_value x
  extract_lets +onlyGivenNames x
  refine (fun (hx : s.moves x [.regs, .stores, .mem, .wav, .grp, .cap, .latch, .mc, .cal]) => ?_) ?_
  on_goal 2 => unfold x
  clear_value x
  extract_lets +onlyGivenNames x
  refine (fun (hx : s.moves x [.regs, .stores, .mem, .wav, .grp, .cap, .latch, .mc, .cal]) => ?_) ?_
  on_goal 2 => unfold x
  clear_value x
  extract_lets +onlyGivenNames x
  refine (fun (hx : s.moves x [.regs, .stores, .mem, .wav, .grp, .cap, .latch, .mc, .cal]) => ?_) ?_
  on_goal 2 => unfold x
  clear_value x
  refine moves_forUpto (fun u _ => ?_) ?_
  exact State.moves_of State.put_moves (by decide) State.moves_refl
  assumption
  refine moves_forEach (fun u _ => ?_) ?_
  exact State.moves_of State.put_moves (by decide) State.moves_refl
  assumption
  exact State.moves_of State.syncReset_moves (by decide) (by assumption)
  exact State.moves_of State.setCapture_moves (by decide) (by assumption)
  refine State.moves_of State.recHold_moves (by decide) ?_
  exact State.moves_of State.endCalWhere_moves (by decide) State.moves_refl

theorem State.syncRequest_moves {s : State} {x1 : ℕ} :
    s.moves (State.syncRequest s x1) [.regs, .cap] := by
  unfold State.syncRequest
  refine State.moves_of State.put_moves (by decide) ?_
  exact State.moves_of State.setCapture_moves (by decide) State.moves_refl

theorem State.capCtrlWrite_moves {s : State} {x1} {x2} :
    s.moves (State.capCtrlWrite s x1 x2) [.regs, .stores, .mem, .evt, .wav, .grp, .cap, .latch, .wrote, .mc, .cal] := by
  unfold State.capCtrlWrite
  extract_lets +onlyGivenNames x
  refine (fun (hx : s.moves x [.regs, .stores, .mem, .evt, .wav, .grp, .cap, .latch, .wrote, .mc, .cal]) => ?_) ?_
  on_goal 2 => unfold x
  clear_value x
  extract_lets +onlyGivenNames x
  refine (fun (hx : s.moves x [.regs, .stores, .mem, .evt, .wav, .grp, .cap, .latch, .wrote, .mc, .cal]) => ?_) ?_
  on_goal 2 => unfold x
  clear_value x
  apply State.moves_ite ?_ ?_
  exact State.moves_of State.syncRequest_moves (by decide) (by assumption)
  assumption
  apply State.moves_ite ?_ ?_
  exact State.moves_of State.captureReset_moves (by decide) (by assumption)
  assumption
  exact State.moves_of State.plainWrite_moves (by decide) State.moves_refl

theorem execCaptureChannelReset_moves {s : State} {x0} {x1} :
    s.moves (nextOr s (execCaptureChannelReset x0 x1 s)) [.regs, .stores, .mem, .evt, .wav, .grp, .cap, .latch, .wrote, .mc,
      .cal] := by
  unfold execCaptureChannelReset
  rw [nextOr_next]
  exact State.moves_of State.capCtrlWrite_moves (by decide) State.moves_refl

theorem execCapSyncRequest_moves {s : State} {x0} {x1} :
    s.moves (nextOr s (execCapSyncRequest x0 x1 s)) [.regs, .stores, .mem, .evt, .wav, .grp, .cap, .latch, .wrote, .mc, .cal]
      := by
  unfold execCapSyncRequest
  rw [nextOr_next]
  exact State.moves_of State.capCtrlWrite_moves (by decide) State.moves_refl

theorem execSynchronisingReset_moves {x0 : CapCh} {s : State} :
    s.moves (nextOr s (execSynchronisingReset x0 s)) [.regs, .cap] := by
  unfold execSynchronisingReset
  extract_lets +onlyGivenNames x
  clear_value x
  split
  split
  rw [nextOr_next]
  exact State.moves_refl
  rw [nextOr_next]
  refine State.moves_of State.syncReset_moves (by decide) ?_
  refine State.moves_of State.put_moves (by decide) ?_
  exact State.moves_of State.setCapture_moves (by decide) State.moves_refl
  rw [nextOr_next]
  exact State.moves_refl

theorem execRangeSettleReset_moves {x0 : CapCh} {s : State} :
    s.moves (nextOr s (execRangeSettleReset x0 s)) [.regs, .cap] := by
  unfold execRangeSettleReset
  extract_lets +onlyGivenNames x
  clear_value x
  split
  split
  rw [nextOr_next]
  exact State.moves_refl
  rw [nextOr_next]
  refine State.moves_of State.syncReset_moves (by decide) ?_
  refine State.moves_of State.put_moves (by decide) ?_
  exact State.moves_of State.setCapture_moves (by decide) State.moves_refl
  rw [nextOr_next]
  exact State.moves_refl

theorem execSettlingEnd_moves {x0 : CapCh} {s : State} :
    s.moves (nextOr s (execSettlingEnd x0 s)) [.cap] := by
  unfold execSettlingEnd
  extract_lets +onlyGivenNames x
  clear_value x
  split
  rw [nextOr_next]
  exact State.moves_of State.setCapture_moves (by decide) State.moves_refl
  rw [nextOr_next]
  exact State.moves_refl

theorem execFirBankWrite_moves {s : State} {x0} {x1} {x2} {x3} :
    s.moves (nextOr s (execFirBankWrite x0 x1 x2 x3 s)) [.regs, .evt, .cap, .wrote] := by
  unfold execFirBankWrite
  extract_lets +onlyGivenNames x
  clear_value x
  rw [nextOr_next]
  apply State.moves_ite ?_ ?_
  exact State.moves_of State.put_moves (by decide) State.moves_refl
  extract_lets +onlyGivenNames x
  clear_value x
  extract_lets +onlyGivenNames x
  refine (fun (hx : s.moves x [.regs, .evt, .cap, .wrote]) => ?_) ?_
  on_goal 2 => unfold x
  clear_value x
  exact State.moves_of State.put_moves (by decide) (by assumption)
  split
  exact State.moves_of State.setCapture_moves (by decide) State.moves_refl
  exact State.moves_of State.plainWrite_moves (by decide) State.moves_refl

theorem execFirSwap_moves {x0 : CapCh} {x1 : Word} {s : State} :
    s.moves (nextOr s (execFirSwap x0 x1 s)) [.regs, .cap] := by
  unfold execFirSwap
  extract_lets +onlyGivenNames x
  clear_value x
  extract_lets +onlyGivenNames x
  refine (fun (hx : s.moves x [.regs, .cap]) => ?_) ?_
  on_goal 2 => unfold x
  clear_value x
  extract_lets +onlyGivenNames x
  clear_value x
  extract_lets +onlyGivenNames x
  refine (fun (hx : s.moves x [.regs, .cap]) => ?_) ?_
  on_goal 2 => unfold x
  clear_value x
  split
  rw [nextOr_next]
  exact State.moves_refl
  split
  rw [nextOr_next]
  exact State.moves_of State.put_moves (by decide) State.moves_refl
  split
  rw [nextOr_next]
  refine State.moves_of State.swapTrigger_moves (by decide) ?_
  assumption
  rw [nextOr_next]
  assumption
  refine State.moves_of State.put_moves (by decide) ?_
  refine State.moves_of State.put_moves (by decide) ?_
  refine State.moves_of State.setCapture_moves (by decide) ?_
  assumption
  apply State.moves_ite ?_ ?_
  exact State.moves_of State.put_moves (by decide) State.moves_refl
  exact State.moves_refl

theorem execFadeStart_moves {x0 : CapCh} {s : State} :
    s.moves (nextOr s (execFadeStart x0 s)) [.regs, .cap] := by
  unfold execFadeStart
  rw [nextOr_next]
  exact State.moves_of State.fadeBegin_moves (by decide) State.moves_refl

theorem execFadeEnd_moves {x0 : CapCh} {s : State} :
    s.moves (nextOr s (execFadeEnd x0 s)) [.cap] := by
  unfold execFadeEnd
  rw [nextOr_next]
  exact State.moves_of State.fadeFinish_moves (by decide) State.moves_refl

theorem State.fieldClear_moves {s : State} :
    s.moves (State.fieldClear s) [.timeOff, .regs, .act, .segs, .stores, .olds, .mem, .poison, .lows, .ctxs, .tiles, .evt, .wav, .grp, .cap, .latch, .xng, .ustore, .mon, .wrote, .monBegun, .monEnded, .mc, .pw, .clk, .txl, .cal] := by
  unfold State.fieldClear
  refine State.moves_of State.put_moves (by decide) ?_
  extract_lets +onlyGivenNames x
  clear_value x
  extract_lets +onlyGivenNames x
  clear_value x
  with_reducible apply State.moves_mk
  on_goal 2 => exact fun p hp => by cases p <;> first | rfl | exact absurd (by decide) hp
  on_goal 2 => exact fun w => ⟨rfl, w.2⟩
  exact State.moves_of State.endXfers_moves (by decide) State.moves_refl

theorem State.noteCause_moves {s : State} {x1 : ℕ} :
    s.moves (State.noteCause s x1) [.regs] := by
  unfold State.noteCause
  refine State.moves_of State.put_moves (by decide) ?_
  exact State.moves_of State.put_moves (by decide) State.moves_refl

theorem State.bootAt_moves {s : State} {x1 : ℕ} :
    s.moves (State.bootAt s x1) [.regs] := by
  unfold State.bootAt
  exact State.moves_of State.put_moves (by decide) State.moves_refl

theorem State.powerOnReset_moves {s : State} {x1 : ℕ} :
    s.moves (State.powerOnReset s x1) [.timeOff, .regs, .act, .segs, .stores, .olds, .mem, .poison, .lows, .ctxs, .tiles, .evt, .wav, .grp, .cap, .latch, .xng, .ustore, .mon, .wrote, .monBegun, .monEnded, .mc, .pw, .clk, .txl, .cal] := by
  unfold State.powerOnReset
  refine State.moves_of State.bootAt_moves (by decide) ?_
  refine State.moves_of State.noteCause_moves (by decide) ?_
  refine State.moves_of State.put_moves (by decide) ?_
  extract_lets +onlyGivenNames x
  refine (fun (hx : s.moves x [.timeOff, .regs, .act, .segs, .stores, .olds, .mem, .poison, .lows, .ctxs, .tiles, .evt,
    .wav, .grp, .cap, .latch, .xng, .ustore, .mon, .wrote, .monBegun, .monEnded, .mc, .pw, .clk, .txl, .cal]) => ?_) ?_
  on_goal 2 => unfold x
  clear_value x
  extract_lets +onlyGivenNames x
  clear_value x
  extract_lets +onlyGivenNames x
  clear_value x
  with_reducible apply State.moves_mk
  on_goal 2 => exact fun p hp => by cases p <;> first | rfl | exact absurd (by decide) hp
  on_goal 2 => exact id
  assumption
  exact State.moves_of State.fieldClear_moves (by decide) State.moves_refl

theorem State.fieldReset_moves {s : State} {x1 : ℕ} :
    s.moves (State.fieldReset s x1) [.timeOff, .regs, .act, .segs, .stores, .olds, .mem, .poison, .lows, .ctxs, .tiles, .evt, .wav, .grp, .cap, .latch, .xng, .ustore, .mon, .wrote, .monBegun, .monEnded, .mc, .pw, .clk, .txl, .cal] := by
  unfold State.fieldReset
  refine State.moves_of State.bootAt_moves (by decide) ?_
  refine State.moves_of State.noteCause_moves (by decide) ?_
  extract_lets +onlyGivenNames x
  refine (fun (hx : s.moves x [.timeOff, .regs, .act, .segs, .stores, .olds, .mem, .poison, .lows, .ctxs, .tiles, .evt,
    .wav, .grp, .cap, .latch, .xng, .ustore, .mon, .wrote, .monBegun, .monEnded, .mc, .pw, .clk, .txl, .cal]) => ?_) ?_
  on_goal 2 => unfold x
  clear_value x
  extract_lets +onlyGivenNames x
  clear_value x
  with_reducible apply State.moves_mk
  on_goal 2 => exact fun p hp => by cases p <;> first | rfl | exact absurd (by decide) hp
  on_goal 2 => exact id
  assumption
  exact State.moves_of State.fieldClear_moves (by decide) State.moves_refl

theorem State.softReset_moves {s : State} :
    s.moves (State.softReset s) [.timeOff, .regs, .act, .segs, .stores, .olds, .mem, .poison, .lows, .ctxs, .tiles, .evt, .wav, .grp, .cap, .latch, .xng, .ustore, .mon, .wrote, .monBegun, .monEnded, .mc, .pw, .clk, .txl, .cal] := by
  unfold State.softReset
  refine State.moves_of State.bootAt_moves (by decide) ?_
  refine State.moves_of State.noteCause_moves (by decide) ?_
  refine State.moves_of State.put_moves (by decide) ?_
  refine State.moves_of State.put_moves (by decide) ?_
  extract_lets +onlyGivenNames x
  refine (fun (hx : s.moves x [.timeOff, .regs, .act, .segs, .stores, .olds, .mem, .poison, .lows, .ctxs, .tiles, .evt,
    .wav, .grp, .cap, .latch, .xng, .ustore, .mon, .wrote, .monBegun, .monEnded, .mc, .pw, .clk, .txl, .cal]) => ?_) ?_
  on_goal 2 => unfold x
  clear_value x
  extract_lets +onlyGivenNames x
  clear_value x
  with_reducible apply State.moves_mk
  on_goal 2 => exact fun p hp => by cases p <;> first | rfl | exact absurd (by decide) hp
  on_goal 2 => exact id
  assumption
  exact State.moves_of State.fieldClear_moves (by decide) State.moves_refl

theorem State.fieldOff_moves {s : State} {x1 : Option Wanted} :
    s.moves (State.fieldOff s x1) [.timeOff, .regs, .act, .segs, .stores, .olds, .mem, .poison, .lows, .ctxs, .tiles, .evt, .wav, .grp, .cap, .latch, .xng, .ustore, .mon, .wrote, .monBegun, .monEnded, .mc, .pw, .clk, .txl, .cal] := by
  unfold State.fieldOff
  refine State.moves_of State.put_moves (by decide) ?_
  refine State.moves_of State.put_moves (by decide) ?_
  extract_lets +onlyGivenNames x
  clear_value x
  extract_lets +onlyGivenNames x
  clear_value x
  with_reducible apply State.moves_mk
  on_goal 2 => exact fun p hp => by cases p <;> first | rfl | exact absurd (by decide) hp
  on_goal 2 => exact id
  exact State.moves_of State.fieldClear_moves (by decide) State.moves_refl

theorem State.actOn_moves {s : State} {x1 : Wanted} :
    s.moves (State.actOn s x1) [.timeOff, .regs, .act, .segs, .stores, .olds, .mem, .poison, .lows, .ctxs, .tiles, .evt, .wav, .grp, .cap, .latch, .xng, .ustore, .mon, .wrote, .monBegun, .monEnded, .mc, .pw, .clk, .txl, .cal] := by
  unfold State.actOn
  extract_lets +onlyGivenNames x
  refine (fun (hx : s.moves x [.timeOff, .regs, .act, .segs, .stores, .olds, .mem, .poison, .lows, .ctxs, .tiles, .evt,
    .wav, .grp, .cap, .latch, .xng, .ustore, .mon, .wrote, .monBegun, .monEnded, .mc, .pw, .clk, .txl, .cal]) => ?_) ?_
  on_goal 2 => unfold x
  clear_value x
  extract_lets +onlyGivenNames x
  clear_value x
  split
  exact State.moves_of State.powerOnReset_moves (by decide) State.moves_refl
  exact State.moves_of State.fieldReset_moves (by decide) State.moves_refl
  exact State.moves_of State.softReset_moves (by decide) State.moves_refl
  with_reducible apply State.moves_mk
  on_goal 2 => exact fun p hp => by cases p <;> first | rfl | exact absurd (by decide) hp
  on_goal 2 => exact id
  assumption
  exact State.moves_of State.fieldOff_moves (by decide) State.moves_refl
  exact State.moves_of State.fieldOff_moves (by decide) State.moves_refl

theorem State.request_moves {s : State} {x1 : Wanted} :
    s.moves (State.request s x1) [.timeOff, .regs, .act, .segs, .stores, .olds, .mem, .poison, .lows, .ctxs, .tiles, .evt, .wav, .grp, .cap, .latch, .xng, .ustore, .mon, .wrote, .monBegun, .monEnded, .mc, .pw, .clk, .txl, .cal] := by
  unfold State.request
  apply State.moves_ite ?_ ?_
  exact State.moves_of State.actOn_moves (by decide) State.moves_refl
  extract_lets +onlyGivenNames x
  refine (fun (hx : s.moves x [.timeOff, .regs, .act, .segs, .stores, .olds, .mem, .poison, .lows, .ctxs, .tiles, .evt,
    .wav, .grp, .cap, .latch, .xng, .ustore, .mon, .wrote, .monBegun, .monEnded, .mc, .pw, .clk, .txl, .cal]) => ?_) ?_
  on_goal 2 => unfold x
  clear_value x
  extract_lets +onlyGivenNames x
  clear_value x
  split
  apply State.moves_ite ?_ ?_
  with_reducible apply State.moves_mk
  on_goal 2 => exact fun p hp => by cases p <;> first | rfl | exact absurd (by decide) hp
  on_goal 2 => exact id
  assumption
  assumption
  with_reducible apply State.moves_mk
  on_goal 2 => exact fun p hp => by cases p <;> first | rfl | exact absurd (by decide) hp
  on_goal 2 => exact id
  assumption
  exact State.moves_of State.latchAll_moves (by decide) State.moves_refl

theorem State.powerSafe_moves {s : State} :
    s.moves (State.powerSafe s) [.wav, .grp, .latch, .clk] := by
  unfold State.powerSafe
  exact State.moves_of State.latchAll_moves (by decide) State.moves_refl

theorem State.changeTo_moves {s : State} {x1} :
    s.moves (State.changeTo s x1) [.regs, .stores, .mem, .wav, .grp, .cap, .latch, .mc, .pw, .clk] := by
  unfold State.changeTo
  refine State.moves_of State.regate_moves (by decide) ?_
  refine State.moves_of State.put_moves (by decide) ?_
  extract_lets +onlyGivenNames x
  refine (fun (hx : s.moves x [.regs, .stores, .mem, .wav, .grp, .cap, .latch, .mc, .pw, .clk]) => ?_) ?_
  on_goal 2 => unfold x
  clear_value x
  with_reducible apply State.moves_mk
  on_goal 2 => exact fun p hp => by cases p <;> first | rfl | exact absurd (by decide) hp
  on_goal 2 => exact id
  assumption
  exact State.moves_of State.powerSafe_moves (by decide) State.moves_refl

theorem State.ashTile_moves {s : State} {x1} :
    s.moves (State.ashTile s x1) [.regs, .stores, .mem, .ctxs, .tiles, .evt, .grp, .cap, .mon, .mc] := by
  unfold State.ashTile
  refine State.moves_of State.noStart_moves (by decide) ?_
  split
  exact State.moves_of State.pauseAt_moves (by decide) State.moves_refl
  exact State.moves_refl

theorem State.ashFade_moves {s : State} {x1 : ℕ} :
    s.moves (State.ashFade s x1) [.cap] := by
  unfold State.ashFade
  exact State.moves_of State.setCapture_moves (by decide) State.moves_refl

theorem State.enterAsh_moves {s : State} :
    s.moves (State.enterAsh s) [.regs, .segs, .stores, .mem, .ctxs, .tiles, .evt, .wav, .grp, .cap, .latch, .xng, .mon, .mc,
      .pw, .clk, .cal] := by
  unfold State.enterAsh
  apply State.moves_ite ?_ ?_
  exact State.moves_refl
  extract_lets +onlyGivenNames x
  refine (fun (hx : s.moves x [.regs, .segs, .stores, .mem, .ctxs, .tiles, .evt, .wav, .grp, .cap, .latch, .xng, .mon, .mc,
    .pw, .clk, .cal]) => ?_) ?_
  on_goal 2 => unfold x
  clear_value x
  extract_lets +onlyGivenNames x
  clear_value x
  extract_lets +onlyGivenNames x
  refine (fun (hx : s.moves x [.regs, .segs, .stores, .mem, .ctxs, .tiles, .evt, .wav, .grp, .cap, .latch, .xng, .mon, .mc,
    .pw, .clk, .cal]) => ?_) ?_
  on_goal 2 => unfold x
  clear_value x
  extract_lets +onlyGivenNames x
  refine (fun (hx : s.moves x [.regs, .segs, .stores, .mem, .ctxs, .tiles, .evt, .wav, .grp, .cap, .latch, .xng, .mon, .mc,
    .pw, .clk, .cal]) => ?_) ?_
  on_goal 2 => unfold x
  clear_value x
  extract_lets +onlyGivenNames x
  refine (fun (hx : s.moves x [.regs, .segs, .stores, .mem, .ctxs, .tiles, .evt, .wav, .grp, .cap, .latch, .xng, .mon, .mc,
    .pw, .clk, .cal]) => ?_) ?_
  on_goal 2 => unfold x
  clear_value x
  extract_lets +onlyGivenNames x
  refine (fun (hx : s.moves x [.regs, .segs, .stores, .mem, .ctxs, .tiles, .evt, .wav, .grp, .cap, .latch, .xng, .mon, .mc,
    .pw, .clk, .cal]) => ?_) ?_
  on_goal 2 => unfold x
  clear_value x
  extract_lets +onlyGivenNames x
  refine (fun (hx : s.moves x [.regs, .segs, .stores, .mem, .ctxs, .tiles, .evt, .wav, .grp, .cap, .latch, .xng, .mon, .mc,
    .pw, .clk, .cal]) => ?_) ?_
  on_goal 2 => unfold x
  clear_value x
  exact State.moves_of State.changeTo_moves (by decide) (by assumption)
  refine moves_forUpto (fun u _ => ?_) ?_
  exact State.moves_of State.endPeers_moves (by decide) State.moves_refl
  exact State.moves_of State.dropRamp_moves (by decide) (by assumption)
  refine moves_forUpto (fun u _ => ?_) ?_
  exact State.moves_of State.ashFade_moves (by decide) State.moves_refl
  assumption
  refine moves_forUpto (fun u _ => ?_) ?_
  exact State.moves_of State.recHold_moves (by decide) State.moves_refl
  assumption
  refine moves_forUpto (fun u _ => ?_) ?_
  exact State.moves_of State.ashTile_moves (by decide) State.moves_refl
  assumption
  refine State.moves_of State.put_moves (by decide) ?_
  with_reducible apply State.moves_mk
  on_goal 2 => exact fun p hp => by cases p <;> first | rfl | exact absurd (by decide) hp
  on_goal 2 => exact id
  assumption
  exact State.moves_of State.endCal_moves (by decide) State.moves_refl

theorem State.resetCtxs_moves {s : State} {x1 : ℕ} :
    s.moves (State.resetCtxs s x1) [.regs, .ctxs] := by
  unfold State.resetCtxs
  refine moves_forEach (fun _ _ => ?_) ?_
  apply State.moves_ite ?_ ?_
  exact State.moves_refl
  apply State.moves_ite ?_ ?_
  exact State.moves_of State.loadCtx_moves (by decide) State.moves_refl
  exact State.moves_of State.setCtx_moves (by decide) State.moves_refl
  exact State.moves_refl

theorem State.resetPath_moves {s : State} {x1} :
    s.moves (State.resetPath s x1) [.regs, .stores, .mem, .wav, .grp, .cap, .mc] := by
  unfold State.resetPath
  apply State.moves_ite ?_ ?_
  refine State.moves_of State.openOutput_moves (by decide) ?_
  exact State.moves_of State.waveRestart_moves (by decide) State.moves_refl
  extract_lets +onlyGivenNames x
  clear_value x
  extract_lets +onlyGivenNames x
  refine (fun (hx : s.moves x [.regs, .stores, .mem, .wav, .grp, .cap, .mc]) => ?_) ?_
  on_goal 2 => unfold x
  clear_value x
  refine State.moves_of State.openOutput_moves (by decide) ?_
  exact State.moves_of State.setGroup_moves (by decide) (by assumption)
  exact State.moves_of State.recHold_moves (by decide) State.moves_refl

theorem State.tileReset_moves {s : State} {x1 : ℕ} :
    s.moves (State.tileReset s x1) [.regs, .act, .segs, .stores, .mem, .ctxs, .tiles, .wav, .grp, .cap, .latch, .mc, .cal] := by
  unfold State.tileReset
  extract_lets +onlyGivenNames x
  refine (fun (hx : s.moves x [.regs, .act, .segs, .stores, .mem, .ctxs, .tiles, .wav, .grp, .cap, .latch, .mc, .cal]) =>
    ?_) ?_
  on_goal 2 => unfold x
  clear_value x
  extract_lets +onlyGivenNames x
  refine (fun (hx : s.moves x [.regs, .act, .segs, .stores, .mem, .ctxs, .tiles, .wav, .grp, .cap, .latch, .mc, .cal]) =>
    ?_) ?_
  on_goal 2 => unfold x
  clear_value x
  extract_lets +onlyGivenNames x
  clear_value x
  extract_lets +onlyGivenNames x
  clear_value x
  extract_lets +onlyGivenNames x
  refine (fun (hx : s.moves x [.regs, .act, .segs, .stores, .mem, .ctxs, .tiles, .wav, .grp, .cap, .latch, .mc, .cal]) =>
    ?_) ?_
  on_goal 2 => unfold x
  clear_value x
  with_reducible apply State.moves_mk
  on_goal 2 => exact fun p hp => by cases p <;> first | rfl | exact absurd (by decide) hp
  on_goal 2 => exact id
  assumption
  refine State.moves_of State.resetPath_moves (by decide) ?_
  refine State.moves_of State.setTile_moves (by decide) ?_
  assumption
  refine State.moves_of State.resetCtxs_moves (by decide) ?_
  assumption
  exact State.moves_of State.endCalWhere_moves (by decide) State.moves_refl

theorem State.memLog_moves {s : State} {x1 : MemEnt} :
    s.moves (State.memLog s x1) [.regs, .mc] := by
  unfold State.memLog
  refine State.moves_of State.put_moves (by decide) ?_
  apply State.moves_ite ?_ ?_
  refine State.moves_of State.put_moves (by decide) ?_
  extract_lets +onlyGivenNames x
  clear_value x
  with_reducible apply State.moves_mk
  on_goal 2 => exact fun p hp => by cases p <;> first | rfl | exact absurd (by decide) hp
  on_goal 2 => exact id
  exact State.moves_refl
  refine State.moves_of State.put_moves (by decide) ?_
  extract_lets +onlyGivenNames x
  clear_value x
  with_reducible apply State.moves_mk
  on_goal 2 => exact fun p hp => by cases p <;> first | rfl | exact absurd (by decide) hp
  on_goal 2 => exact id
  exact State.moves_refl

theorem State.memError_moves {s : State} {x1 : Fld} {x2 : ℕ} {x3 : ℕ} {x4 : BitVec 64} :
    s.moves (State.memError s x1 x2 x3 x4) [.regs, .mc] := by
  unfold State.memError
  refine State.moves_of State.memLog_moves (by decide) ?_
  refine State.moves_of State.put_moves (by decide) ?_
  refine State.moves_of State.bump_moves (by decide) ?_
  exact State.moves_of State.bump_moves (by decide) State.moves_refl

theorem State.retarget_moves {s : State} {x1} :
    s.moves (State.retarget s x1) [.regs, .mc] := by
  unfold State.retarget
  extract_lets +onlyGivenNames x
  clear_value x
  extract_lets +onlyGivenNames x
  clear_value x
  extract_lets +onlyGivenNames x
  refine (fun (hx : s.moves x [.regs, .mc]) => ?_) ?_
  on_goal 2 => unfold x
  clear_value x
  refine moves_forEach (fun u _ => ?_) ?_
  exact State.moves_of State.startCopy_moves (by decide) State.moves_refl
  refine moves_forEach (fun u _ => ?_) ?_
  exact State.moves_of State.extLess_moves (by decide) State.moves_refl
  assumption
  with_reducible apply State.moves_mk
  on_goal 2 => exact fun p hp => by cases p <;> first | rfl | exact absurd (by decide) hp
  on_goal 2 => exact id
  exact State.moves_refl

theorem State.takeOut_moves {s : State} {x1} {x2} {x3} :
    s.moves (State.takeOut s x1 x2 x3) [.regs, .xng, .mc] := by
  unfold State.takeOut
  extract_lets +onlyGivenNames x
  refine (fun (hx : s.moves x [.regs, .xng, .mc]) => ?_) ?_
  on_goal 2 => unfold x
  clear_value x
  refine State.moves_of State.retarget_moves (by decide) ?_
  with_reducible apply State.moves_mk
  on_goal 2 => exact fun p hp => by cases p <;> first | rfl | exact absurd (by decide) hp
  on_goal 2 => exact id
  assumption
  refine State.moves_of State.alarm_moves (by decide) ?_
  refine State.moves_of State.put_moves (by decide) ?_
  exact State.moves_of State.put_moves (by decide) State.moves_refl

theorem State.retire_moves {s : State} {x1 : ℕ} {x2 : ℕ} :
    s.moves (State.retire s x1 x2) [.regs, .xng, .mc] := by
  unfold State.retire
  apply State.moves_ite ?_ ?_
  exact State.moves_refl
  refine State.moves_of State.settleRanks_moves (by decide) ?_
  exact State.moves_of State.takeOut_moves (by decide) State.moves_refl

theorem State.locUse_moves {s : State} {x1} {x2} :
    s.moves (State.locUse s x1 x2) [.mc] := by
  unfold State.locUse
  refine State.moves_of State.rowUse_moves (by decide) ?_
  exact State.moves_of State.memWake_moves (by decide) State.moves_refl

theorem State.flaw_moves {s : State} {x1} {x2} {x3} :
    s.moves (State.flaw s x1 x2 x3) [.mc] := by
  unfold State.flaw
  extract_lets +onlyGivenNames x
  clear_value x
  with_reducible apply State.moves_mk
  on_goal 2 => exact fun p hp => by cases p <;> first | rfl | exact absurd (by decide) hp
  on_goal 2 => exact id
  exact State.moves_refl

theorem execCorrectedRead_moves {s : State} {x0} {x1} {x2} :
    s.moves (nextOr s (execCorrectedRead x0 x1 x2 s)) [.regs, .mon, .mc] := by
  unfold execCorrectedRead
  rw [nextOr_next]
  apply State.moves_ite ?_ ?_
  exact State.moves_refl
  refine State.moves_of State.flaw_moves (by decide) ?_
  refine State.moves_of State.monMark_moves (by decide) ?_
  refine State.moves_of State.memLog_moves (by decide) ?_
  refine State.moves_of State.put_moves (by decide) ?_
  refine State.moves_of State.bump_moves (by decide) ?_
  refine State.moves_of State.bump_moves (by decide) ?_
  exact State.moves_of State.locUse_moves (by decide) State.moves_refl

theorem execUncorrectableRead_moves {s : State} {x0} {x1} {x2} {x3} :
    s.moves (nextOr s (execUncorrectableRead x0 x1 x2 x3 s)) [.regs, .segs, .poison, .xng, .mon, .mc] := by
  unfold execUncorrectableRead
  extract_lets +onlyGivenNames x
  refine (fun (hx : s.moves x [.regs, .segs, .poison, .xng, .mon, .mc]) => ?_) ?_
  on_goal 2 => unfold x
  clear_value x
  extract_lets +onlyGivenNames x
  refine (fun (hx : s.moves x [.regs, .segs, .poison, .xng, .mon, .mc]) => ?_) ?_
  on_goal 2 => unfold x
  clear_value x
  rw [nextOr_next]
  exact State.moves_of State.retire_moves (by decide) (by assumption)
  split
  exact State.moves_of State.poisonLine_moves (by decide) (by assumption)
  assumption
  refine State.moves_of State.monMark_moves (by decide) ?_
  refine State.moves_of State.memError_moves (by decide) ?_
  exact State.moves_of State.locUse_moves (by decide) State.moves_refl

theorem execCaParityError_moves {s : State} {x0} {x1} :
    s.moves (nextOr s (execCaParityError x0 x1 s)) [.regs, .xng, .mc] := by
  unfold execCaParityError
  rw [nextOr_next]
  refine State.moves_of State.retire_moves (by decide) ?_
  refine State.moves_of State.memError_moves (by decide) ?_
  exact State.moves_of State.locUse_moves (by decide) State.moves_refl

theorem execWriteParityError_moves {s : State} {x0} {x1} {x2} :
    s.moves (nextOr s (execWriteParityError x0 x1 x2 s)) [.regs, .xng, .mc] := by
  unfold execWriteParityError
  extract_lets +onlyGivenNames x
  refine (fun (hx : s.moves x [.regs, .xng, .mc]) => ?_) ?_
  on_goal 2 => unfold x
  clear_value x
  rw [nextOr_next]
  apply State.moves_ite ?_ ?_
  exact State.moves_of State.retire_moves (by decide) (by assumption)
  assumption
  refine State.moves_of State.memError_moves (by decide) ?_
  exact State.moves_of State.locUse_moves (by decide) State.moves_refl

theorem execLateRead_moves {s : State} :
    s.moves (nextOr s (execLateRead s)) [.regs, .mon] := by
  unfold execLateRead
  rw [nextOr_next]
  refine State.moves_of State.monMark_moves (by decide) ?_
  refine State.moves_of State.put_moves (by decide) ?_
  exact State.moves_of State.bump_moves (by decide) State.moves_refl

theorem State.setOwes_moves {s : State} {x1 : ℕ} {x2 : ℕ} {x3 : ℕ} :
    s.moves (State.setOwes s x1 x2 x3) [.mc] := by
  unfold State.setOwes
  extract_lets +onlyGivenNames x
  clear_value x
  with_reducible apply State.moves_mk
  on_goal 2 => exact fun p hp => by cases p <;> first | rfl | exact absurd (by decide) hp
  on_goal 2 => exact id
  exact State.moves_refl

theorem State.refresh_moves {s : State} {x1} {x2} {x3} :
    s.moves (State.refresh s x1 x2 x3) [.mc] := by
  unfold State.refresh
  refine State.moves_of State.bankRefreshed_moves (by decide) ?_
  exact State.moves_of State.setOwes_moves (by decide) State.moves_refl

theorem execPerBankRefresh_moves {s : State} {x0} {x1} {x2} :
    s.moves (nextOr s (execPerBankRefresh x0 x1 x2 s)) [.mc] := by
  unfold execPerBankRefresh
  rw [nextOr_next]
  apply State.moves_ite ?_ ?_
  exact State.moves_of State.refresh_moves (by decide) State.moves_refl
  exact State.moves_of State.setOwes_moves (by decide) State.moves_refl

theorem execUrgentRefresh_moves {s : State} {x0} {x1} :
    s.moves (nextOr s (execUrgentRefresh x0 x1 s)) [.mc] := by
  unfold execUrgentRefresh
  rw [nextOr_next]
  apply State.moves_ite ?_ ?_
  exact State.moves_of State.refresh_moves (by decide) State.moves_refl
  exact State.moves_refl

theorem State.startDouble_moves {s : State} {x1 : ℕ} :
    s.moves (State.startDouble s x1) [.regs, .mon, .mc] := by
  unfold State.startDouble
  apply State.moves_ite ?_ ?_
  exact State.moves_refl
  apply State.moves_ite ?_ ?_
  extract_lets +onlyGivenNames x
  clear_value x
  with_reducible apply State.moves_mk
  on_goal 2 => exact fun p hp => by cases p <;> first | rfl | exact absurd (by decide) hp
  on_goal 2 => exact id
  exact State.moves_refl
  refine State.moves_of State.monMark_moves (by decide) ?_
  refine State.moves_of State.put_moves (by decide) ?_
  refine State.moves_of State.bump_moves (by decide) ?_
  extract_lets +onlyGivenNames x
  clear_value x
  extract_lets +onlyGivenNames x
  clear_value x
  with_reducible apply State.moves_mk
  on_goal 2 => exact fun p hp => by cases p <;> first | rfl | exact absurd (by decide) hp
  on_goal 2 => exact id
  with_reducible apply State.moves_mk
  on_goal 2 => exact fun p hp => by cases p <;> first | rfl | exact absurd (by decide) hp
  on_goal 2 => exact id
  exact State.moves_refl

theorem State.rateOf_moves {s : State} {x1 : ℕ} :
    s.moves (State.rateOf s x1) [.regs, .mon, .mc] := by
  unfold State.rateOf
  apply State.moves_ite ?_ ?_
  exact State.moves_of State.startDouble_moves (by decide) State.moves_refl
  extract_lets +onlyGivenNames x
  clear_value x
  with_reducible apply State.moves_mk
  on_goal 2 => exact fun p hp => by cases p <;> first | rfl | exact absurd (by decide) hp
  on_goal 2 => exact id
  exact State.moves_refl

theorem State.getsHot_moves {s : State} {x1} :
    s.moves (State.getsHot s x1) [.regs, .xng, .mc] := by
  unfold State.getsHot
  extract_lets +onlyGivenNames x
  refine (fun (hx : s.moves x [.regs, .xng, .mc]) => ?_) ?_
  on_goal 2 => unfold x
  clear_value x
  extract_lets +onlyGivenNames x
  clear_value x
  extract_lets +onlyGivenNames x
  refine (fun (hx : s.moves x [.regs, .xng, .mc]) => ?_) ?_
  on_goal 2 => unfold x
  clear_value x
  apply State.moves_ite ?_ ?_
  assumption
  exact State.moves_of State.alarm_moves (by decide) (by assumption)
  with_reducible apply State.moves_mk
  on_goal 2 => exact fun p hp => by cases p <;> first | rfl | exact absurd (by decide) hp
  on_goal 2 => exact id
  assumption
  exact State.moves_of State.put_moves (by decide) State.moves_refl

theorem State.judgeHot_moves {s : State} {v1 : State} :
    s.moves (State.judgeHot s v1) [.regs, .xng, .mc] := by
  unfold State.judgeHot
  extract_lets +onlyGivenNames x
  refine (fun (hx : s.moves x [.regs, .xng, .mc]) => ?_) ?_
  on_goal 2 => unfold x
  clear_value x
  apply State.moves_ite ?_ ?_
  extract_lets +onlyGivenNames x
  refine (fun (hx : s.moves x [.regs, .xng, .mc]) => ?_) ?_
  on_goal 2 => unfold x
  clear_value x
  with_reducible apply State.moves_mk
  on_goal 2 => exact fun p hp => by cases p <;> first | rfl | exact absurd (by decide) hp
  on_goal 2 => exact id
  assumption
  exact State.moves_of State.put_moves (by decide) (by assumption)
  assumption
  refine moves_forUpto (fun u _ => ?_) ?_
  apply State.moves_ite ?_ ?_
  exact State.moves_of State.getsHot_moves (by decide) State.moves_refl
  exact State.moves_refl
  exact State.moves_refl

theorem execHbmTempRead_moves {x0 : BitVec 8} {x1 : BitVec 8} {x2 : BitVec 8} {x3 : BitVec 8} {s : State} :
    s.moves (nextOr s (execHbmTempRead x0 x1 x2 x3 s)) [.regs, .xng, .mon, .mc] := by
  unfold execHbmTempRead
  extract_lets +onlyGivenNames x
  refine (fun (hx : s.moves x [.regs, .xng, .mon, .mc]) => ?_) ?_
  on_goal 2 => unfold x
  clear_value x
  extract_lets +onlyGivenNames x
  refine (fun (hx : s.moves x [.regs, .xng, .mon, .mc]) => ?_) ?_
  on_goal 2 => unfold x
  clear_value x
  extract_lets +onlyGivenNames x
  refine (fun (hx : s.moves x [.regs, .xng, .mon, .mc]) => ?_) ?_
  on_goal 2 => unfold x
  clear_value x
  split
  rw [nextOr_next]
  refine State.moves_of State.put_moves (by decide) ?_
  assumption
  rw [nextOr_next]
  assumption
  refine State.moves_of State.judgeHot_moves (by decide) ?_
  refine State.moves_of State.put_moves (by decide) ?_
  assumption
  refine moves_forUpto (fun _ _ => ?_) ?_
  exact State.moves_of State.rateOf_moves (by decide) State.moves_refl
  assumption
  exact State.moves_of State.put_moves (by decide) State.moves_refl

theorem execHotAshTimeout_moves {s : State} :
    s.moves (nextOr s (execHotAshTimeout s)) [.regs, .segs, .stores, .mem, .ctxs, .tiles, .evt, .wav, .grp, .cap, .latch,
      .xng, .mon, .mc, .pw, .clk, .cal] := by
  unfold execHotAshTimeout
  rw [nextOr_next]
  apply State.moves_ite ?_ ?_
  exact State.moves_refl
  extract_lets +onlyGivenNames x
  clear_value x
  extract_lets +onlyGivenNames x
  refine (fun (hx : s.moves x [.regs, .segs, .stores, .mem, .ctxs, .tiles, .evt, .wav, .grp, .cap, .latch, .xng, .mon, .mc,
    .pw, .clk, .cal]) => ?_) ?_
  on_goal 2 => unfold x
  clear_value x
  apply State.moves_ite ?_ ?_
  exact State.moves_of State.enterAsh_moves (by decide) (by assumption)
  assumption
  with_reducible apply State.moves_mk
  on_goal 2 => exact fun p hp => by cases p <;> first | rfl | exact absurd (by decide) hp
  on_goal 2 => exact id
  exact State.moves_refl

theorem State.urgentTick_moves {s : State} :
    s.moves (State.urgentTick s) [.regs, .mc] := by
  unfold State.urgentTick
  extract_lets +onlyGivenNames x
  clear_value x
  split
  apply State.moves_ite ?_ ?_
  refine State.moves_of State.put_moves (by decide) ?_
  with_reducible apply State.moves_mk
  on_goal 2 => exact fun p hp => by cases p <;> first | rfl | exact absurd (by decide) hp
  on_goal 2 => exact id
  exact State.moves_refl
  exact State.moves_refl
  exact State.moves_refl

theorem State.selfRefresh_moves {s : State} :
    s.moves (State.selfRefresh s) [.regs, .mc] := by
  unfold State.selfRefresh
  extract_lets +onlyGivenNames x
  refine (fun (hx : s.moves x [.regs, .mc]) => ?_) ?_
  on_goal 2 => unfold x
  clear_value x
  with_reducible apply State.moves_mk
  on_goal 2 => exact fun p hp => by cases p <;> first | rfl | exact absurd (by decide) hp
  on_goal 2 => exact id
  assumption
  exact State.moves_of State.put_moves (by decide) State.moves_refl

theorem execSelfRefreshEntry_moves {s : State} :
    s.moves (nextOr s (execSelfRefreshEntry s)) [.regs, .mc] := by
  unfold execSelfRefreshEntry
  rw [nextOr_next]
  apply State.moves_ite ?_ ?_
  exact State.moves_of State.selfRefresh_moves (by decide) State.moves_refl
  exact State.moves_refl

theorem State.selfExit_moves {s : State} :
    s.moves (State.selfExit s) [.regs, .mc] := by
  unfold State.selfExit
  extract_lets +onlyGivenNames x
  refine (fun (hx : s.moves x [.regs, .mc]) => ?_) ?_
  on_goal 2 => unfold x
  clear_value x
  with_reducible apply State.moves_mk
  on_goal 2 => exact fun p hp => by cases p <;> first | rfl | exact absurd (by decide) hp
  on_goal 2 => exact id
  assumption
  exact State.moves_of State.put_moves (by decide) State.moves_refl

theorem execSelfRefreshExit_moves {s : State} :
    s.moves (nextOr s (execSelfRefreshExit s)) [.regs, .mc] := by
  unfold execSelfRefreshExit
  rw [nextOr_next]
  apply State.moves_ite ?_ ?_
  exact State.moves_refl
  exact State.moves_of State.selfExit_moves (by decide) State.moves_refl

theorem State.startRetrain_moves {s : State} {x1 : List ℕ} {x2 : Bool} :
    s.moves (State.startRetrain s x1 x2) [.regs, .mc] := by
  unfold State.startRetrain
  refine State.moves_of State.put_moves (by decide) ?_
  extract_lets +onlyGivenNames x
  clear_value x
  with_reducible apply State.moves_mk
  on_goal 2 => exact fun p hp => by cases p <;> first | rfl | exact absurd (by decide) hp
  on_goal 2 => exact id
  exact State.moves_refl

theorem State.dueRetrain_moves {s : State} :
    s.moves (State.dueRetrain s) [.regs, .mc] := by
  unfold State.dueRetrain
  apply State.moves_ite ?_ ?_
  exact State.moves_of State.put_moves (by decide) State.moves_refl
  exact State.moves_of State.startRetrain_moves (by decide) State.moves_refl

theorem execAutoRetrain_moves {s : State} :
    s.moves (nextOr s (execAutoRetrain s)) [.regs, .mc] := by
  unfold execAutoRetrain
  split
  rw [nextOr_next]
  exact State.moves_of State.dueRetrain_moves (by decide) State.moves_refl
  rw [nextOr_next]
  exact State.moves_refl

theorem State.degrade_moves {s : State} {x1 : ℕ} :
    s.moves (State.degrade s x1) [.regs, .xng, .mc] := by
  unfold State.degrade
  refine moves_forEach (fun _ _ => ?_) ?_
  apply State.moves_ite ?_ ?_
  exact State.moves_refl
  exact State.moves_of State.takeOut_moves (by decide) State.moves_refl
  exact State.moves_refl

theorem State.loseLine_moves {s : State} {x1} {x2} {x3} :
    s.moves (State.loseLine s x1 x2 x3) [.free, .regs, .segs, .poison, .mc] := by
  unfold State.loseLine
  extract_lets +onlyGivenNames x
  refine (fun (hx : s.moves x.2 [.free, .regs, .segs, .poison, .mc]) => ?_) ?_
  on_goal 2 => unfold x
  clear_value x
  refine State.moves_of State.memLog_moves (by decide) ?_
  exact State.moves_of State.poisonLine_moves (by decide) (by assumption)
  exact State.moves_of State.drawFree_moves2 (by decide) State.moves_refl

theorem State.loseRankLines_moves {s : State} {x1} :
    s.moves (State.loseRankLines s x1) [.free, .regs, .segs, .poison, .mc] := by
  unfold State.loseRankLines
  refine moves_forEach (fun u _ => ?_) ?_
  refine moves_forEach (fun u _ => ?_) ?_
  exact State.moves_of State.loseLine_moves (by decide) State.moves_refl
  exact State.moves_refl
  exact State.moves_refl

theorem State.loseChan_moves {s : State} {x1} :
    s.moves (State.loseChan s x1) [.free, .regs, .segs, .poison, .xng, .mc] := by
  unfold State.loseChan
  extract_lets +onlyGivenNames x
  refine (fun (hx : s.moves x [.free, .regs, .segs, .poison, .xng, .mc]) => ?_) ?_
  on_goal 2 => unfold x
  clear_value x
  extract_lets +onlyGivenNames x
  refine (fun (hx : s.moves x [.free, .regs, .segs, .poison, .xng, .mc]) => ?_) ?_
  on_goal 2 => unfold x
  clear_value x
  extract_lets +onlyGivenNames x
  clear_value x
  extract_lets +onlyGivenNames x
  refine (fun (hx : s.moves x [.free, .regs, .segs, .poison, .xng, .mc]) => ?_) ?_
  on_goal 2 => unfold x
  clear_value x
  refine State.moves_of State.capacity_moves (by decide) ?_
  refine moves_forEach (fun u _ => ?_) ?_
  exact State.moves_of State.extLess_moves (by decide) State.moves_refl
  assumption
  with_reducible apply State.moves_mk
  on_goal 2 => exact fun p hp => by cases p <;> first | rfl | exact absurd (by decide) hp
  on_goal 2 => exact id
  assumption
  refine moves_forEach (fun u _ => ?_) ?_
  apply State.moves_ite ?_ ?_
  exact State.moves_refl
  refine State.moves_of State.rankRetired_moves (by decide) ?_
  exact State.moves_of State.takeOut_moves (by decide) State.moves_refl
  assumption
  refine moves_forEach (fun u _ => ?_) ?_
  exact State.moves_of State.loseRankLines_moves (by decide) State.moves_refl
  exact State.moves_refl

theorem State.trained_moves {s : State} {x1 : ℕ} {x2 : BitVec 8} :
    s.moves (State.trained s x1 x2) [.free, .regs] := by
  unfold State.trained
  refine moves_forUpto (fun _ _ => ?_) ?_
  exact State.moves_of State.measureEye_moves (by decide) State.moves_refl
  exact State.moves_of State.put_moves (by decide) State.moves_refl

theorem State.resumeAfter_moves {s : State} {x1 : ℕ × ℕ} :
    s.moves (State.resumeAfter s x1) [.tiles] := by
  unfold State.resumeAfter
  apply State.moves_ite ?_ ?_
  exact State.moves_of State.setTile_moves (by decide) State.moves_refl
  exact State.moves_refl

theorem State.retrainOver_moves {s : State} {x1 : Bool} :
    s.moves (State.retrainOver s x1) [.regs, .tiles, .wav, .grp, .cap, .latch, .mc, .cal] := by
  unfold State.retrainOver
  dsimp only
  split
  apply State.moves_ite ?_ ?_
  refine moves_forEach (fun _ _ => ?_) ?_
  exact State.moves_of State.resumeAfter_moves (by decide) State.moves_refl
  refine State.moves_of State.calOver_moves (by decide) ?_
  refine State.moves_of State.put_moves (by decide) ?_
  refine State.moves_of State.put_moves (by decide) ?_
  apply State.moves_ite ?_ ?_
  refine State.moves_of State.put_moves (by decide) ?_
  with_reducible apply State.moves_mk
  on_goal 2 => exact fun p hp => by cases p <;> first | rfl | exact absurd (by decide) hp
  on_goal 2 => exact id
  exact State.moves_refl
  refine State.moves_of State.put_moves (by decide) ?_
  refine State.moves_of State.put_moves (by decide) ?_
  with_reducible apply State.moves_mk
  on_goal 2 => exact fun p hp => by cases p <;> first | rfl | exact absurd (by decide) hp
  on_goal 2 => exact id
  exact State.moves_refl
  apply State.moves_ite ?_ ?_
  refine State.moves_of State.put_moves (by decide) ?_
  with_reducible apply State.moves_mk
  on_goal 2 => exact fun p hp => by cases p <;> first | rfl | exact absurd (by decide) hp
  on_goal 2 => exact id
  exact State.moves_refl
  refine State.moves_of State.put_moves (by decide) ?_
  refine State.moves_of State.put_moves (by decide) ?_
  with_reducible apply State.moves_mk
  on_goal 2 => exact fun p hp => by cases p <;> first | rfl | exact absurd (by decide) hp
  on_goal 2 => exact id
  exact State.moves_refl
  apply State.moves_ite ?_ ?_
  refine State.moves_of State.put_moves (by decide) ?_
  with_reducible apply State.moves_mk
  on_goal 2 => exact fun p hp => by cases p <;> first | rfl | exact absurd (by decide) hp
  on_goal 2 => exact id
  exact State.moves_refl
  refine State.moves_of State.put_moves (by decide) ?_
  refine State.moves_of State.put_moves (by decide) ?_
  with_reducible apply State.moves_mk
  on_goal 2 => exact fun p hp => by cases p <;> first | rfl | exact absurd (by decide) hp
  on_goal 2 => exact id
  exact State.moves_refl

theorem State.noteEyes_moves {s : State} {x1 : ℕ} :
    s.moves (State.noteEyes s x1) [.cal] := by
  unfold State.noteEyes
  extract_lets +onlyGivenNames x
  clear_value x
  split
  apply State.moves_ite ?_ ?_
  extract_lets +onlyGivenNames x
  clear_value x
  with_reducible apply State.moves_mk
  on_goal 2 => exact fun p hp => by cases p <;> first | rfl | exact absurd (by decide) hp
  on_goal 2 => exact id
  exact State.moves_refl
  exact State.moves_refl
  exact State.moves_refl

theorem execRetrainComplete_moves {s : State} {x0} {x1} {x2} {x3} :
    s.moves (nextOr s (execRetrainComplete x0 x1 x2 x3 s)) [.free, .regs, .segs, .poison, .tiles, .wav, .grp, .cap, .latch,
      .xng, .mc, .cal] := by
  unfold execRetrainComplete
  rw [nextOr_next]
  split
  exact State.moves_refl
  apply State.moves_ite ?_ ?_
  exact State.moves_refl
  extract_lets +onlyGivenNames x
  extract_lets +onlyGivenNames x
  clear_value x
  extract_lets +onlyGivenNames x
  refine (fun (hx : s.moves x [.free, .regs, .segs, .poison, .tiles, .wav, .grp, .cap, .latch, .xng, .mc, .cal]) => ?_) ?_
  on_goal 2 => unfold x
  clear_value x
  extract_lets +onlyGivenNames x
  refine (fun (hx : s.moves x [.free, .regs, .segs, .poison, .tiles, .wav, .grp, .cap, .latch, .xng, .mc, .cal]) => ?_) ?_
  on_goal 2 => unfold x
  clear_value x
  extract_lets +onlyGivenNames x
  clear_value x
  extract_lets +onlyGivenNames x
  clear_value x
  apply State.moves_ite ?_ ?_
  exact State.moves_of State.retrainOver_moves (by decide) (by assumption)
  with_reducible apply State.moves_mk
  on_goal 2 => exact fun p hp => by cases p <;> first | rfl | exact absurd (by decide) hp
  on_goal 2 => exact id
  assumption
  refine State.moves_of State.noteEyes_moves (by decide) ?_
  refine State.moves_of State.trained_moves (by decide) ?_
  apply State.moves_ite ?_ ?_
  exact State.moves_of State.put_moves (by decide) (by assumption)
  assumption
  refine State.moves_of State.settleRanks_moves (by decide) ?_
  refine moves_forEach (fun u _ => ?_) ?_
  exact State.moves_of State.loseChan_moves (by decide) State.moves_refl
  refine moves_forEach (fun u _ => ?_) ?_
  exact State.moves_of State.degrade_moves (by decide) State.moves_refl
  exact State.moves_refl

theorem State.psts_moves {s : State} {x1 : Sts} :
    s.moves (State.psts s x1) [.regs] := by
  unfold State.psts
  exact State.moves_of State.put_moves (by decide) State.moves_refl

theorem State.leaveAsh_moves {s : State} {x1} :
    s.moves (State.leaveAsh s x1) [.regs, .stores, .mem, .wav, .grp, .cap, .latch, .mc, .pw, .clk] := by
  unfold State.leaveAsh
  extract_lets +onlyGivenNames x
  refine (fun (hx : s.moves x [.regs, .stores, .mem, .wav, .grp, .cap, .latch, .mc, .pw, .clk]) => ?_) ?_
  on_goal 2 => unfold x
  clear_value x
  apply State.moves_ite ?_ ?_
  exact State.moves_of State.dueRetrain_moves (by decide) (by assumption)
  assumption
  refine State.moves_of State.selfExit_moves (by decide) ?_
  exact State.moves_of State.changeTo_moves (by decide) State.moves_refl

theorem State.profileWrite_moves {s : State} {x1 : Word} :
    s.moves (State.profileWrite s x1) [.regs, .segs, .stores, .mem, .ctxs, .tiles, .evt, .wav, .grp, .cap, .latch, .xng, .mon, .mc, .pw, .clk, .cal] := by
  unfold State.profileWrite
  apply State.moves_of (State.guarded_moves ?_ (fun _ => ?_)) (fun _ h => h) ?_
  decide
  exact State.moves_refl
  apply State.moves_ite ?_ ?_
  refine State.moves_of State.psts_moves (by decide) ?_
  exact State.moves_of State.put_moves (by decide) State.moves_refl
  apply State.moves_ite ?_ ?_
  refine State.moves_of State.psts_moves (by decide) ?_
  exact State.moves_of State.put_moves (by decide) State.moves_refl
  apply State.moves_ite ?_ ?_
  refine State.moves_of State.psts_moves (by decide) ?_
  refine State.moves_of State.enterAsh_moves (by decide) ?_
  exact State.moves_of State.put_moves (by decide) State.moves_refl
  split
  refine State.moves_of State.psts_moves (by decide) ?_
  exact State.moves_of State.put_moves (by decide) State.moves_refl
  apply State.moves_ite ?_ ?_
  refine State.moves_of State.psts_moves (by decide) ?_
  refine State.moves_of State.leaveAsh_moves (by decide) ?_
  exact State.moves_of State.put_moves (by decide) State.moves_refl
  apply State.moves_ite ?_ ?_
  refine State.moves_of State.psts_moves (by decide) ?_
  exact State.moves_of State.put_moves (by decide) State.moves_refl
  refine State.moves_of State.psts_moves (by decide) ?_
  refine State.moves_of State.changeTo_moves (by decide) ?_
  exact State.moves_of State.put_moves (by decide) State.moves_refl

theorem execProfileChange_moves {x0 : Word} {s : State} :
    s.moves (nextOr s (execProfileChange x0 s)) [.regs, .segs, .stores, .mem, .ctxs, .tiles, .evt, .wav, .grp, .cap, .latch, .xng, .mon, .mc, .pw, .clk, .cal] := by
  unfold execProfileChange
  rw [nextOr_next]
  exact State.moves_of State.profileWrite_moves (by decide) State.moves_refl

theorem execAshEntry_moves {x0 : Word} {s : State} :
    s.moves (nextOr s (execAshEntry x0 s)) [.regs, .segs, .stores, .mem, .ctxs, .tiles, .evt, .wav, .grp, .cap, .latch, .xng, .mon, .mc, .pw, .clk, .cal] := by
  unfold execAshEntry
  rw [nextOr_next]
  exact State.moves_of State.profileWrite_moves (by decide) State.moves_refl

theorem execAshExit_moves {x0 : Word} {s : State} :
    s.moves (nextOr s (execAshExit x0 s)) [.regs, .segs, .stores, .mem, .ctxs, .tiles, .evt, .wav, .grp, .cap, .latch, .xng, .mon, .mc, .pw, .clk, .cal] := by
  unfold execAshExit
  rw [nextOr_next]
  exact State.moves_of State.profileWrite_moves (by decide) State.moves_refl

theorem State.profileNow_moves {s : State} {x1} :
    s.moves (State.profileNow s x1) [.regs, .stores, .mem, .wav, .grp, .cap, .mc, .pw] := by
  unfold State.profileNow
  refine State.moves_of State.regate_moves (by decide) ?_
  refine State.moves_of State.put_moves (by decide) ?_
  refine State.moves_of State.put_moves (by decide) ?_
  with_reducible apply State.moves_mk
  on_goal 2 => exact fun p hp => by cases p <;> first | rfl | exact absurd (by decide) hp
  on_goal 2 => exact id
  exact State.moves_refl

theorem State.profileActive_moves {s : State} {x1} :
    s.moves (State.profileActive s x1) [.regs, .stores, .mem, .wav, .grp, .cap, .latch, .mc, .pw, .clk] := by
  unfold State.profileActive
  refine State.moves_of State.unlatchAll_moves (by decide) ?_
  exact State.moves_of State.profileNow_moves (by decide) State.moves_refl

theorem execProfileChangeComplete_moves {s : State} :
    s.moves (nextOr s (execProfileChangeComplete s)) [.regs, .stores, .mem, .wav, .grp, .cap, .latch, .mc, .pw, .clk] := by
  unfold execProfileChangeComplete
  rw [nextOr_next]
  split
  apply State.moves_ite ?_ ?_
  exact State.moves_refl
  exact State.moves_of State.profileActive_moves (by decide) State.moves_refl
  exact State.moves_refl

theorem execAshEntryComplete_moves {s : State} :
    s.moves (nextOr s (execAshEntryComplete s)) [.regs, .stores, .mem, .wav, .grp, .cap, .mc, .pw] := by
  unfold execAshEntryComplete
  rw [nextOr_next]
  apply State.moves_ite ?_ ?_
  refine State.moves_of State.selfRefresh_moves (by decide) ?_
  exact State.moves_of State.profileNow_moves (by decide) State.moves_refl
  exact State.moves_refl

theorem execAshExitComplete_moves {s : State} :
    s.moves (nextOr s (execAshExitComplete s)) [.regs, .stores, .mem, .wav, .grp, .cap, .latch, .mc, .pw, .clk] := by
  unfold execAshExitComplete
  rw [nextOr_next]
  split
  apply State.moves_ite ?_ ?_
  exact State.moves_refl
  exact State.moves_of State.profileActive_moves (by decide) State.moves_refl
  exact State.moves_refl

theorem execFieldPowerOnReset_moves {s : State} :
    s.moves (nextOr s (execFieldPowerOnReset s)) [.timeOff, .regs, .act, .segs, .stores, .olds, .mem, .poison, .lows, .ctxs, .tiles, .evt, .wav, .grp, .cap, .latch, .xng, .ustore, .mon, .wrote, .monBegun, .monEnded, .mc, .pw, .clk, .txl, .cal] := by
  unfold execFieldPowerOnReset
  extract_lets +onlyGivenNames x
  clear_value x
  extract_lets +onlyGivenNames x
  refine (fun (hx : s.moves x [.timeOff, .regs, .act, .segs, .stores, .olds, .mem, .poison, .lows, .ctxs, .tiles, .evt,
    .wav, .grp, .cap, .latch, .xng, .ustore, .mon, .wrote, .monBegun, .monEnded, .mc, .pw, .clk, .txl, .cal]) => ?_) ?_
  on_goal 2 => unfold x
  clear_value x
  extract_lets +onlyGivenNames x
  clear_value x
  split
  rw [nextOr_next]
  exact State.moves_refl
  rw [nextOr_next]
  with_reducible apply State.moves_mk
  on_goal 2 => exact fun p hp => by cases p <;> first | rfl | exact absurd (by decide) hp
  on_goal 2 => exact id
  assumption
  exact State.moves_of State.powerOnReset_moves (by decide) State.moves_refl

theorem execFieldRstNAssert_moves {s : State} :
    s.moves (nextOr s (execFieldRstNAssert s)) [.wav, .grp, .latch, .pw, .clk] := by
  unfold execFieldRstNAssert
  rw [nextOr_next]
  extract_lets +onlyGivenNames x
  refine (fun (hx : s.moves x [.wav, .grp, .latch, .pw, .clk]) => ?_) ?_
  on_goal 2 => unfold x
  clear_value x
  with_reducible apply State.moves_mk
  on_goal 2 => exact fun p hp => by cases p <;> first | rfl | exact absurd (by decide) hp
  on_goal 2 => exact id
  assumption
  exact State.moves_of State.latchAll_moves (by decide) State.moves_refl

theorem execFieldRstNRelease_moves {s : State} :
    s.moves (nextOr s (execFieldRstNRelease s)) [.timeOff, .regs, .act, .segs, .stores, .olds, .mem, .poison, .lows, .ctxs, .tiles, .evt, .wav, .grp, .cap, .latch, .xng, .ustore, .mon, .wrote, .monBegun, .monEnded, .mc, .pw, .clk, .txl, .cal] := by
  unfold execFieldRstNRelease
  extract_lets +onlyGivenNames x
  clear_value x
  extract_lets +onlyGivenNames x
  refine (fun (hx : s.moves x [.timeOff, .regs, .act, .segs, .stores, .olds, .mem, .poison, .lows, .ctxs, .tiles, .evt,
    .wav, .grp, .cap, .latch, .xng, .ustore, .mon, .wrote, .monBegun, .monEnded, .mc, .pw, .clk, .txl, .cal]) => ?_) ?_
  on_goal 2 => unfold x
  clear_value x
  split
  rw [nextOr_next]
  exact State.moves_refl
  split
  rw [nextOr_next]
  refine State.moves_of State.request_moves (by decide) ?_
  assumption
  rw [nextOr_next]
  assumption
  with_reducible apply State.moves_mk
  on_goal 2 => exact fun p hp => by cases p <;> first | rfl | exact absurd (by decide) hp
  on_goal 2 => exact id
  exact State.moves_refl

theorem execFieldResetAckTimeout_moves {s : State} :
    s.moves (nextOr s (execFieldResetAckTimeout s)) [.timeOff, .regs, .act, .segs, .stores, .olds, .mem, .poison, .lows, .ctxs, .tiles, .evt, .wav, .grp, .cap, .latch, .xng, .ustore, .mon, .wrote, .monBegun, .monEnded, .mc, .pw, .clk, .txl, .cal] := by
  unfold execFieldResetAckTimeout
  split
  rw [nextOr_next]
  exact State.moves_of State.fieldOff_moves (by decide) State.moves_refl
  rw [nextOr_next]
  exact State.moves_refl

theorem execNvsFieldRst_moves {x0 : Word} {s : State} :
    s.moves (nextOr s (execNvsFieldRst x0 s)) [.timeOff, .regs, .act, .segs, .stores, .olds, .mem, .poison, .lows, .ctxs, .tiles, .evt, .wav, .grp, .cap, .latch, .xng, .ustore, .mon, .wrote, .monBegun, .monEnded, .mc, .pw, .clk, .txl, .cal] := by
  unfold execNvsFieldRst
  split
  rw [nextOr_next]
  exact State.moves_of State.request_moves (by decide) State.moves_refl
  rw [nextOr_next]
  exact State.moves_refl

theorem execSoftReset_moves {x0 : Word} {s : State} :
    s.moves (nextOr s (execSoftReset x0 s)) [.timeOff, .regs, .act, .segs, .stores, .olds, .mem, .poison, .lows, .ctxs, .tiles, .evt, .wav, .grp, .cap, .latch, .xng, .ustore, .mon, .wrote, .monBegun, .monEnded, .mc, .pw, .clk, .txl, .cal] := by
  unfold execSoftReset
  split
  rw [nextOr_next]
  apply State.moves_of (State.guarded_moves ?_ (fun _ => ?_)) (fun _ h => h) ?_
  decide
  exact State.moves_refl
  exact State.moves_of State.request_moves (by decide) State.moves_refl
  rw [nextOr_next]
  apply State.moves_of (State.guarded_moves ?_ (fun _ => ?_)) (fun _ h => h) ?_
  decide
  exact State.moves_refl
  exact State.moves_refl

theorem execTileReset_moves {x0 : Word} {s : State} :
    s.moves (nextOr s (execTileReset x0 s)) [.regs, .act, .segs, .stores, .mem, .ctxs, .tiles, .wav, .grp, .cap, .latch, .mc, .cal] := by
  unfold execTileReset
  rw [nextOr_next]
  refine moves_forUpto (fun _ _ => ?_) ?_
  apply State.moves_ite ?_ ?_
  exact State.moves_of State.tileReset_moves (by decide) State.moves_refl
  exact State.moves_refl
  exact State.moves_refl

theorem State.stewardReset_moves {s : State} {x1} :
    s.moves (State.stewardReset s x1) [.timeOff, .regs, .act, .segs, .stores, .olds, .mem, .poison, .lows, .ctxs, .tiles,
      .evt, .wav, .grp, .cap, .latch, .xng, .ustore, .mon, .wrote, .monBegun, .monEnded, .mc, .pw, .clk, .txl, .cal] := by
  unfold State.stewardReset
  refine State.moves_of State.request_moves (by decide) ?_
  refine moves_forUpto (fun u _ => ?_) ?_
  exact State.moves_of State.setCapture_moves (by decide) State.moves_refl
  exact State.moves_of State.holdCaps_moves (by decide) State.moves_refl

theorem execStewardStop_moves {x0 : Fin 2} {s : State} :
    s.moves (nextOr s (execStewardStop x0 s)) [.timeOff, .regs, .act, .segs, .stores, .olds, .mem, .poison, .lows, .ctxs, .tiles, .evt, .wav, .grp, .cap, .latch, .xng, .ustore, .mon, .wrote, .monBegun, .monEnded, .mc, .pw, .clk, .txl, .cal] := by
  unfold execStewardStop
  extract_lets +onlyGivenNames x
  clear_value x
  rw [nextOr_next]
  refine State.moves_of State.stewardReset_moves (by decide) ?_
  with_reducible apply State.moves_mk
  on_goal 2 => exact fun p hp => by cases p <;> first | rfl | exact absurd (by decide) hp
  on_goal 2 => exact id
  exact State.moves_refl

theorem execServiceLockLoss_moves {s : State} :
    s.moves (nextOr s (execServiceLockLoss s)) [.timeOff, .regs, .act, .segs, .stores, .olds, .mem, .poison, .lows, .ctxs, .tiles, .evt, .wav, .grp, .cap, .latch, .xng, .ustore, .mon, .wrote, .monBegun, .monEnded, .mc, .pw, .clk, .txl, .cal] := by
  unfold execServiceLockLoss
  rw [nextOr_next]
  refine State.moves_of State.stewardReset_moves (by decide) ?_
  exact State.moves_of State.put_moves (by decide) State.moves_refl

theorem State.vin_moves {s : State} {x1 : BitVec 10} :
    s.moves (State.vin s x1) [.regs] := by
  unfold State.vin
  exact State.moves_of State.put_moves (by decide) State.moves_refl

theorem State.sag_moves {s : State} {x1 : ℕ} :
    s.moves (State.sag s x1) [.regs, .xng] := by
  unfold State.sag
  refine State.moves_of State.alarm_moves (by decide) ?_
  exact State.moves_of State.put_moves (by decide) State.moves_refl

theorem execSagBelow42V_moves {x0 : BitVec 10} {s : State} :
    s.moves (nextOr s (execSagBelow42V x0 s)) [.regs, .xng, .pw] := by
  unfold execSagBelow42V
  extract_lets +onlyGivenNames x
  refine (fun (hx : s.moves x [.regs, .xng, .pw]) => ?_) ?_
  on_goal 2 => unfold x
  clear_value x
  extract_lets +onlyGivenNames x
  refine (fun (hx : s.moves x [.regs, .xng, .pw]) => ?_) ?_
  on_goal 2 => unfold x
  clear_value x
  extract_lets +onlyGivenNames x
  clear_value x
  split
  rw [nextOr_next]
  with_reducible apply State.moves_mk
  on_goal 2 => exact fun p hp => by cases p <;> first | rfl | exact absurd (by decide) hp
  on_goal 2 => exact id
  assumption
  rw [nextOr_next]
  assumption
  refine State.moves_of State.sag_moves (by decide) ?_
  refine State.moves_of State.put_moves (by decide) ?_
  assumption
  exact State.moves_of State.vin_moves (by decide) State.moves_refl

theorem execSagBelow38V_moves {x0 : BitVec 10} {s : State} :
    s.moves (nextOr s (execSagBelow38V x0 s)) [.regs, .segs, .stores, .mem, .ctxs, .tiles, .evt, .wav, .grp, .cap, .latch, .xng, .mon, .mc, .pw, .clk, .cal] := by
  unfold execSagBelow38V
  extract_lets +onlyGivenNames x
  refine (fun (hx : s.moves x [.regs, .segs, .stores, .mem, .ctxs, .tiles, .evt, .wav, .grp, .cap, .latch, .xng, .mon, .mc,
    .pw, .clk, .cal]) => ?_) ?_
  on_goal 2 => unfold x
  clear_value x
  split
  rw [nextOr_next]
  refine State.moves_of State.sag_moves (by decide) ?_
  refine State.moves_of State.put_moves (by decide) ?_
  refine State.moves_of State.enterAsh_moves (by decide) ?_
  refine State.moves_of State.powerSafe_moves (by decide) ?_
  assumption
  rw [nextOr_next]
  assumption
  exact State.moves_of State.vin_moves (by decide) State.moves_refl

theorem execSagBelow36V_moves {x0 : BitVec 10} {s : State} :
    s.moves (nextOr s (execSagBelow36V x0 s)) [.timeOff, .regs, .act, .segs, .stores, .olds, .mem, .poison, .lows, .ctxs, .tiles, .evt, .wav, .grp, .cap, .latch, .xng, .ustore, .mon, .wrote, .monBegun, .monEnded, .mc, .pw, .clk, .txl, .cal] := by
  unfold execSagBelow36V
  extract_lets +onlyGivenNames x
  refine (fun (hx : s.moves x [.timeOff, .regs, .act, .segs, .stores, .olds, .mem, .poison, .lows, .ctxs, .tiles, .evt,
    .wav, .grp, .cap, .latch, .xng, .ustore, .mon, .wrote, .monBegun, .monEnded, .mc, .pw, .clk, .txl, .cal]) => ?_) ?_
  on_goal 2 => unfold x
  clear_value x
  split
  rw [nextOr_next]
  refine State.moves_of State.request_moves (by decide) ?_
  refine State.moves_of State.sag_moves (by decide) ?_
  assumption
  rw [nextOr_next]
  assumption
  exact State.moves_of State.vin_moves (by decide) State.moves_refl

theorem execSupplyRecover42V5_moves {x0 : BitVec 10} {s : State} :
    s.moves (nextOr s (execSupplyRecover42V5 x0 s)) [.regs, .pw] := by
  unfold execSupplyRecover42V5
  extract_lets +onlyGivenNames x
  refine (fun (hx : s.moves x [.regs, .pw]) => ?_) ?_
  on_goal 2 => unfold x
  clear_value x
  extract_lets +onlyGivenNames x
  refine (fun (hx : s.moves x [.regs, .pw]) => ?_) ?_
  on_goal 2 => unfold x
  clear_value x
  extract_lets +onlyGivenNames x
  clear_value x
  split
  rw [nextOr_next]
  with_reducible apply State.moves_mk
  on_goal 2 => exact fun p hp => by cases p <;> first | rfl | exact absurd (by decide) hp
  on_goal 2 => exact id
  assumption
  rw [nextOr_next]
  assumption
  refine State.moves_of State.put_moves (by decide) ?_
  assumption
  exact State.moves_of State.vin_moves (by decide) State.moves_refl

theorem execSupplyRecover40V_moves {x0 : BitVec 10} {s : State} :
    s.moves (nextOr s (execSupplyRecover40V x0 s)) [.regs] := by
  unfold execSupplyRecover40V
  extract_lets +onlyGivenNames x
  refine (fun (hx : s.moves x [.regs]) => ?_) ?_
  on_goal 2 => unfold x
  clear_value x
  split
  rw [nextOr_next]
  refine State.moves_of State.put_moves (by decide) ?_
  assumption
  rw [nextOr_next]
  assumption
  exact State.moves_of State.vin_moves (by decide) State.moves_refl

theorem State.flushTick_moves {s : State} :
    s.moves (State.flushTick s) [.mc, .pw] := by
  unfold State.flushTick
  apply State.moves_ite ?_ ?_
  extract_lets +onlyGivenNames x
  clear_value x
  extract_lets +onlyGivenNames x
  clear_value x
  with_reducible apply State.moves_mk
  on_goal 2 => exact fun p hp => by cases p <;> first | rfl | exact absurd (by decide) hp
  on_goal 2 => exact id
  exact State.moves_refl
  exact State.moves_refl

theorem State.goDormant_moves {s : State} :
    s.moves (State.goDormant s) [.timeOff, .regs, .act, .segs, .stores, .olds, .mem, .poison, .lows, .ctxs, .tiles, .evt, .wav, .grp, .cap, .latch, .xng, .ustore, .mon, .wrote, .monBegun, .monEnded, .mc, .pw, .clk, .txl, .cal] := by
  unfold State.goDormant
  refine State.moves_of State.request_moves (by decide) ?_
  refine State.moves_of State.put_moves (by decide) ?_
  extract_lets +onlyGivenNames x
  clear_value x
  with_reducible apply State.moves_mk
  on_goal 2 => exact fun p hp => by cases p <;> first | rfl | exact absurd (by decide) hp
  on_goal 2 => exact id
  exact State.moves_refl

theorem State.xngPwrWrite_moves {s : State} {x1 : Word} :
    s.moves (State.xngPwrWrite s x1) [.timeOff, .regs, .act, .segs, .stores, .olds, .mem, .poison, .lows, .ctxs, .tiles, .evt, .wav, .grp, .cap, .latch, .xng, .ustore, .mon, .wrote, .monBegun, .monEnded, .mc, .pw, .clk, .txl, .cal] := by
  unfold State.xngPwrWrite
  apply State.moves_ite ?_ ?_
  refine State.moves_of State.goDormant_moves (by decide) ?_
  exact State.moves_of State.put_moves (by decide) State.moves_refl
  exact State.moves_of State.put_moves (by decide) State.moves_refl

theorem execDormantRequest_moves {x0 : Word} {s : State} :
    s.moves (nextOr s (execDormantRequest x0 s)) [.timeOff, .regs, .act, .segs, .stores, .olds, .mem, .poison, .lows, .ctxs, .tiles, .evt, .wav, .grp, .cap, .latch, .xng, .ustore, .mon, .wrote, .monBegun, .monEnded, .mc, .pw, .clk, .txl, .cal] := by
  unfold execDormantRequest
  rw [nextOr_next]
  exact State.moves_of State.xngPwrWrite_moves (by decide) State.moves_refl

theorem execFieldPowerRequest_moves {x0 : Word} {s : State} :
    s.moves (nextOr s (execFieldPowerRequest x0 s)) [.timeOff, .regs, .act, .segs, .stores, .olds, .mem, .poison, .lows, .ctxs, .tiles, .evt, .wav, .grp, .cap, .latch, .xng, .ustore, .mon, .wrote, .monBegun, .monEnded, .mc, .pw, .clk, .txl, .cal] := by
  unfold execFieldPowerRequest
  rw [nextOr_next]
  exact State.moves_of State.xngPwrWrite_moves (by decide) State.moves_refl

end Sys2Proof.Machine
end

