-- ==== Sys2Proof/Laws/MovesBoot.lean ====
section
/-! SUPPORT. What each operation can change of the state (X_moves: the parts it may write; every other part is as before, and
the memories keep their canonical form): the Crossing, microcode, the images, calibration, the
GLB registers, the register bus, the boot and the agenda. -/

namespace Sys2Proof.Machine

theorem State.msix_moves {s : State} {x1 : ℕ} :
    s.moves (State.msix s x1) [.xng] := by
  unfold State.msix
  apply State.moves_ite ?_ ?_
  exact State.moves_refl
  exact State.moves_of State.signalVec_moves (by decide) State.moves_refl

theorem State.halert_moves {s : State} {x1 : Fld} {x2 : Fld} :
    s.moves (State.halert s x1 x2) [.regs, .xng] := by
  unfold State.halert
  apply State.moves_ite ?_ ?_
  refine State.moves_of State.msix_moves (by decide) ?_
  exact State.moves_of State.put_moves (by decide) State.moves_refl
  exact State.moves_of State.put_moves (by decide) State.moves_refl

theorem State.putAttended_moves {s : State} :
    s.moves (State.putAttended s) [.regs] := by
  unfold State.putAttended
  exact State.moves_of State.put_moves (by decide) State.moves_refl

theorem execWatchdogExpiry_moves {s : State} :
    s.moves (nextOr s (execWatchdogExpiry s)) [.regs, .xng, .wrote] := by
  unfold execWatchdogExpiry
  rw [nextOr_next]
  apply State.moves_ite ?_ ?_
  exact State.moves_refl
  refine State.moves_of State.halert_moves (by decide) ?_
  refine State.moves_of State.putAttended_moves (by decide) ?_
  refine State.moves_of State.put_moves (by decide) ?_
  exact State.moves_of State.noted_moves (by decide) State.moves_refl

theorem State.wdogRestart_moves {s : State} :
    s.moves (State.wdogRestart s) [.regs] := by
  unfold State.wdogRestart
  refine State.moves_of State.putAttended_moves (by decide) ?_
  exact State.moves_of State.put_moves (by decide) State.moves_refl

theorem State.kick_moves {s : State} :
    s.moves (State.kick s) [.regs, .wrote] := by
  unfold State.kick
  extract_lets +onlyGivenNames x
  refine (fun (hx : s.moves x [.regs, .wrote]) => ?_) ?_
  on_goal 2 => unfold x
  clear_value x
  refine State.moves_of State.wdogRestart_moves (by decide) ?_
  apply State.moves_ite ?_ ?_
  exact State.moves_of State.put_moves (by decide) (by assumption)
  assumption
  exact State.moves_of State.noted_moves (by decide) State.moves_refl

theorem execXngKick_moves {s : State} {x0} :
    s.moves (nextOr s (execXngKick x0 s)) [.regs, .wrote] := by
  unfold execXngKick
  rw [nextOr_next]
  exact State.moves_of State.kick_moves (by decide) State.moves_refl

theorem execXngWdog_moves {x0 : Word} {s : State} :
    s.moves (nextOr s (execXngWdog x0 s)) [.regs] := by
  unfold execXngWdog
  rw [nextOr_next]
  refine State.moves_of State.wdogRestart_moves (by decide) ?_
  exact State.moves_of State.put_moves (by decide) State.moves_refl

theorem State.crossUp_moves {s : State} :
    s.moves (State.crossUp s) [.timeOff, .regs, .act, .segs, .stores, .olds, .mem, .poison, .lows, .ctxs, .tiles, .evt, .wav, .grp, .cap, .latch, .xng, .ustore, .mon, .wrote, .monBegun, .monEnded, .mc, .pw, .clk, .txl, .cal] := by
  unfold State.crossUp
  apply State.moves_ite ?_ ?_
  refine State.moves_of State.goDormant_moves (by decide) ?_
  extract_lets +onlyGivenNames x
  clear_value x
  with_reducible apply State.moves_mk
  on_goal 2 => exact fun p hp => by cases p <;> first | rfl | exact absurd (by decide) hp
  on_goal 2 => exact id
  exact State.moves_refl
  extract_lets +onlyGivenNames x
  clear_value x
  with_reducible apply State.moves_mk
  on_goal 2 => exact fun p hp => by cases p <;> first | rfl | exact absurd (by decide) hp
  on_goal 2 => exact id
  exact State.moves_refl

theorem execHeartbeatSend_moves {x0 : Bool} {s : State} :
    s.moves (nextOr s (execHeartbeatSend x0 s)) [.xng] := by
  unfold execHeartbeatSend
  extract_lets +onlyGivenNames x
  clear_value x
  split
  split
  rw [nextOr_next]
  with_reducible apply State.moves_mk
  on_goal 2 => exact fun p hp => by cases p <;> first | rfl | exact absurd (by decide) hp
  on_goal 2 => exact id
  exact State.moves_refl
  rw [nextOr_next]
  exact State.moves_refl
  split
  rw [nextOr_next]
  with_reducible apply State.moves_mk
  on_goal 2 => exact fun p hp => by cases p <;> first | rfl | exact absurd (by decide) hp
  on_goal 2 => exact id
  exact State.moves_refl
  rw [nextOr_next]
  exact State.moves_refl

theorem State.hostBeat_moves {s : State} {x1 : Bool} :
    s.moves (State.hostBeat s x1) [.regs, .xng] := by
  unfold State.hostBeat
  apply State.moves_ite ?_ ?_
  exact State.moves_refl
  apply State.moves_ite ?_ ?_
  refine State.moves_of State.put_moves (by decide) ?_
  refine State.moves_of State.put_moves (by decide) ?_
  extract_lets +onlyGivenNames x
  clear_value x
  with_reducible apply State.moves_mk
  on_goal 2 => exact fun p hp => by cases p <;> first | rfl | exact absurd (by decide) hp
  on_goal 2 => exact id
  exact State.moves_refl
  extract_lets +onlyGivenNames x
  clear_value x
  split
  with_reducible apply State.moves_mk
  on_goal 2 => exact fun p hp => by cases p <;> first | rfl | exact absurd (by decide) hp
  on_goal 2 => exact id
  exact State.moves_refl
  with_reducible apply State.moves_mk
  on_goal 2 => exact fun p hp => by cases p <;> first | rfl | exact absurd (by decide) hp
  on_goal 2 => exact id
  exact State.moves_refl

theorem State.fieldBeat_moves {s : State} {x1 : ℕ} :
    s.moves (State.fieldBeat s x1) [.regs, .xng] := by
  unfold State.fieldBeat
  apply State.moves_ite ?_ ?_
  exact State.moves_of State.put_moves (by decide) State.moves_refl
  apply State.moves_ite ?_ ?_
  refine State.moves_of State.put_moves (by decide) ?_
  extract_lets +onlyGivenNames x
  clear_value x
  with_reducible apply State.moves_mk
  on_goal 2 => exact fun p hp => by cases p <;> first | rfl | exact absurd (by decide) hp
  on_goal 2 => exact id
  exact State.moves_of State.put_moves (by decide) State.moves_refl
  extract_lets +onlyGivenNames x
  clear_value x
  with_reducible apply State.moves_mk
  on_goal 2 => exact fun p hp => by cases p <;> first | rfl | exact absurd (by decide) hp
  on_goal 2 => exact id
  exact State.moves_of State.put_moves (by decide) State.moves_refl

theorem execHeartbeatMessage_moves {x0 : Bool} {s : State} :
    s.moves (nextOr s (execHeartbeatMessage x0 s)) [.timeOff, .regs, .act, .segs, .stores, .olds, .mem, .poison, .lows, .ctxs, .tiles, .evt, .wav, .grp, .cap, .latch, .xng, .ustore, .mon, .wrote, .monBegun, .monEnded, .mc, .pw, .clk, .txl, .cal] := by
  unfold execHeartbeatMessage
  extract_lets +onlyGivenNames x
  clear_value x
  extract_lets +onlyGivenNames x
  refine (fun (hx : s.moves x [.timeOff, .regs, .act, .segs, .stores, .olds, .mem, .poison, .lows, .ctxs, .tiles, .evt,
    .wav, .grp, .cap, .latch, .xng, .ustore, .mon, .wrote, .monBegun, .monEnded, .mc, .pw, .clk, .txl, .cal]) => ?_) ?_
  on_goal 2 => unfold x
  clear_value x
  extract_lets +onlyGivenNames x
  refine (fun (hx : s.moves x [.timeOff, .regs, .act, .segs, .stores, .olds, .mem, .poison, .lows, .ctxs, .tiles, .evt,
    .wav, .grp, .cap, .latch, .xng, .ustore, .mon, .wrote, .monBegun, .monEnded, .mc, .pw, .clk, .txl, .cal]) => ?_) ?_
  on_goal 2 => unfold x
  clear_value x
  split
  split
  split
  rw [nextOr_next]
  refine State.moves_of State.crossUp_moves (by decide) ?_
  refine State.moves_of State.hostBeat_moves (by decide) ?_
  assumption
  rw [nextOr_next]
  assumption
  rw [nextOr_next]
  exact State.moves_refl
  split
  split
  rw [nextOr_next]
  refine State.moves_of State.crossUp_moves (by decide) ?_
  refine State.moves_of State.fieldBeat_moves (by decide) ?_
  assumption
  rw [nextOr_next]
  assumption
  rw [nextOr_next]
  exact State.moves_refl
  with_reducible apply State.moves_mk
  on_goal 2 => exact fun p hp => by cases p <;> first | rfl | exact absurd (by decide) hp
  on_goal 2 => exact id
  exact State.moves_refl
  with_reducible apply State.moves_mk
  on_goal 2 => exact fun p hp => by cases p <;> first | rfl | exact absurd (by decide) hp
  on_goal 2 => exact id
  exact State.moves_refl

theorem State.absentAccess_moves {s : State} {x1 : Access} :
    s.moves (State.absentAccess s x1) [.regs, .xng] := by
  unfold State.absentAccess
  apply State.moves_ite ?_ ?_
  exact State.moves_of State.bump_moves (by decide) State.moves_refl
  refine State.moves_of State.bump_moves (by decide) ?_
  extract_lets +onlyGivenNames x
  clear_value x
  with_reducible apply State.moves_mk
  on_goal 2 => exact fun p hp => by cases p <;> first | rfl | exact absurd (by decide) hp
  on_goal 2 => exact id
  exact State.moves_refl

theorem execFieldAbsenceTimeout_moves {s : State} :
    s.moves (nextOr s (execFieldAbsenceTimeout s)) [.regs, .xng] := by
  unfold execFieldAbsenceTimeout
  extract_lets +onlyGivenNames x
  refine (fun (hx : s.moves x [.regs, .xng]) => ?_) ?_
  on_goal 2 => unfold x
  clear_value x
  extract_lets +onlyGivenNames x
  clear_value x
  extract_lets +onlyGivenNames x
  refine (fun (hx : s.moves x [.regs, .xng]) => ?_) ?_
  on_goal 2 => unfold x
  clear_value x
  split
  rw [nextOr_next]
  exact State.moves_refl
  split
  rw [nextOr_next]
  assumption
  rw [nextOr_next]
  refine State.moves_of State.halert_moves (by decide) ?_
  assumption
  with_reducible apply State.moves_mk
  on_goal 2 => exact fun p hp => by cases p <;> first | rfl | exact absurd (by decide) hp
  on_goal 2 => exact id
  assumption
  refine moves_forEach (fun _ _ => ?_) ?_
  exact State.moves_of State.absentAccess_moves (by decide) State.moves_refl
  exact State.moves_of State.put_moves (by decide) State.moves_refl

theorem State.policyTile_moves {s : State} {x1} {x2} :
    s.moves (State.policyTile s x1 x2) [.ctxs, .tiles] := by
  unfold State.policyTile
  extract_lets +onlyGivenNames x
  refine (fun (hx : s.moves x [.ctxs, .tiles]) => ?_) ?_
  on_goal 2 => unfold x
  clear_value x
  extract_lets +onlyGivenNames x
  clear_value x
  split
  apply State.moves_ite ?_ ?_
  exact State.moves_of State.setTile_moves (by decide) (by assumption)
  exact State.moves_of State.pauseReq_moves (by decide) (by assumption)
  assumption
  exact State.moves_of State.noStart_moves (by decide) State.moves_refl

theorem State.applyPolicy_moves {s : State} :
    s.moves (State.applyPolicy s) [.ctxs, .tiles, .xng] := by
  unfold State.applyPolicy
  split
  refine moves_forUpto (fun u _ => ?_) ?_
  exact State.moves_of State.policyTile_moves (by decide) State.moves_refl
  exact State.moves_refl
  extract_lets +onlyGivenNames x
  refine (fun (hx : s.moves x [.ctxs, .tiles, .xng]) => ?_) ?_
  on_goal 2 => unfold x
  clear_value x
  with_reducible apply State.moves_mk
  on_goal 2 => exact fun p hp => by cases p <;> first | rfl | exact absurd (by decide) hp
  on_goal 2 => exact id
  assumption
  refine moves_forUpto (fun u _ => ?_) ?_
  exact State.moves_of State.policyTile_moves (by decide) State.moves_refl
  exact State.moves_refl
  exact State.moves_refl

theorem execHostAbsenceTimeout_moves {s : State} :
    s.moves (nextOr s (execHostAbsenceTimeout s)) [.regs, .ctxs, .tiles, .xng, .wrote] := by
  unfold execHostAbsenceTimeout
  rw [nextOr_next]
  apply State.moves_ite ?_ ?_
  exact State.moves_refl
  extract_lets +onlyGivenNames x
  refine (fun (hx : s.moves x [.regs, .ctxs, .tiles, .xng, .wrote]) => ?_) ?_
  on_goal 2 => unfold x
  clear_value x
  extract_lets +onlyGivenNames x
  refine (fun (hx : s.moves x [.regs, .ctxs, .tiles, .xng, .wrote]) => ?_) ?_
  on_goal 2 => unfold x
  clear_value x
  extract_lets +onlyGivenNames x
  clear_value x
  extract_lets +onlyGivenNames x
  refine (fun (hx : s.moves x [.regs, .ctxs, .tiles, .xng, .wrote]) => ?_) ?_
  on_goal 2 => unfold x
  clear_value x
  refine State.moves_of State.alarm_moves (by decide) ?_
  exact State.moves_of State.applyPolicy_moves (by decide) (by assumption)
  with_reducible apply State.moves_mk
  on_goal 2 => exact fun p hp => by cases p <;> first | rfl | exact absurd (by decide) hp
  on_goal 2 => exact id
  assumption
  exact State.moves_of State.put_moves (by decide) (by assumption)
  exact State.moves_of State.noted_moves (by decide) State.moves_refl

theorem State.absHold_moves {s : State} {x1 : Bool} :
    s.moves (State.absHold s x1) [.cap] := by
  unfold State.absHold
  refine moves_forUpto (fun _ _ => ?_) ?_
  exact State.moves_of State.setCapture_moves (by decide) State.moves_refl
  exact State.moves_refl

theorem State.safeTick_moves {s : State} :
    s.moves (State.safeTick s) [.regs, .stores, .mem, .wav, .grp, .cap, .latch, .xng, .mc, .clk] := by
  unfold State.safeTick
  split
  apply State.moves_ite ?_ ?_
  exact State.moves_refl
  extract_lets +onlyGivenNames x
  clear_value x
  extract_lets +onlyGivenNames x
  refine (fun (hx : s.moves x [.regs, .stores, .mem, .wav, .grp, .cap, .latch, .xng, .mc, .clk]) => ?_) ?_
  on_goal 2 => unfold x
  clear_value x
  refine State.moves_of State.put_moves (by decide) ?_
  refine State.moves_of State.holdCaps_moves (by decide) ?_
  exact State.moves_of State.absHold_moves (by decide) (by assumption)
  refine State.moves_of State.latchAll_moves (by decide) ?_
  with_reducible apply State.moves_mk
  on_goal 2 => exact fun p hp => by cases p <;> first | rfl | exact absurd (by decide) hp
  on_goal 2 => exact id
  exact State.moves_refl
  exact State.moves_refl

theorem State.fstatusWrite_moves {s : State} {x1} :
    s.moves (State.fstatusWrite s x1) [.regs, .wav, .grp, .cap, .latch, .clk] := by
  unfold State.fstatusWrite
  apply State.moves_ite ?_ ?_
  exact State.moves_refl
  extract_lets +onlyGivenNames x
  refine (fun (hx : s.moves x [.regs, .wav, .grp, .cap, .latch, .clk]) => ?_) ?_
  on_goal 2 => unfold x
  clear_value x
  apply State.moves_ite ?_ ?_
  refine State.moves_of State.unlatchAll_moves (by decide) ?_
  refine State.moves_of State.freeCaps_moves (by decide) ?_
  refine State.moves_of State.absHold_moves (by decide) ?_
  exact State.moves_of State.put_moves (by decide) (by assumption)
  assumption
  apply State.moves_ite ?_ ?_
  exact State.moves_of State.put_moves (by decide) State.moves_refl
  exact State.moves_refl

theorem execSafeLatchClear_moves {s : State} {x0} :
    s.moves (nextOr s (execSafeLatchClear x0 s)) [.regs, .wav, .grp, .cap, .latch, .clk] := by
  unfold execSafeLatchClear
  rw [nextOr_next]
  exact State.moves_of State.fstatusWrite_moves (by decide) State.moves_refl

theorem execXngRaise_moves {x0 : Word} {s : State} :
    s.moves (nextOr s (execXngRaise x0 s)) [.regs, .xng] := by
  unfold execXngRaise
  extract_lets +onlyGivenNames x
  clear_value x
  split
  rw [nextOr_next]
  exact State.moves_of State.bump_moves (by decide) State.moves_refl
  rw [nextOr_next]
  with_reducible apply State.moves_mk
  on_goal 2 => exact fun p hp => by cases p <;> first | rfl | exact absurd (by decide) hp
  on_goal 2 => exact id
  exact State.moves_refl

theorem State.loseAlarms_moves {s : State} {x1 : ℕ} :
    s.moves (State.loseAlarms s x1) [.regs] := by
  unfold State.loseAlarms
  exact State.moves_of State.put_moves (by decide) State.moves_refl

theorem execAlarmMessage_moves {s : State} :
    s.moves (nextOr s (execAlarmMessage s)) [.regs, .xng] := by
  unfold execAlarmMessage
  split
  rw [nextOr_next]
  exact State.moves_refl
  split
  rw [nextOr_next]
  exact State.moves_refl
  rw [nextOr_next]
  apply State.moves_ite ?_ ?_
  refine State.moves_of State.loseAlarms_moves (by decide) ?_
  refine State.moves_of State.loseAlarms_moves (by decide) ?_
  extract_lets +onlyGivenNames x
  clear_value x
  with_reducible apply State.moves_mk
  on_goal 2 => exact fun p hp => by cases p <;> first | rfl | exact absurd (by decide) hp
  on_goal 2 => exact id
  exact State.moves_refl
  apply State.moves_ite ?_ ?_
  refine State.moves_of State.halert_moves (by decide) ?_
  extract_lets +onlyGivenNames x
  clear_value x
  extract_lets +onlyGivenNames x
  clear_value x
  with_reducible apply State.moves_mk
  on_goal 2 => exact fun p hp => by cases p <;> first | rfl | exact absurd (by decide) hp
  on_goal 2 => exact id
  refine State.moves_of State.loseAlarms_moves (by decide) ?_
  with_reducible apply State.moves_mk
  on_goal 2 => exact fun p hp => by cases p <;> first | rfl | exact absurd (by decide) hp
  on_goal 2 => exact id
  exact State.moves_refl
  extract_lets +onlyGivenNames x
  clear_value x
  extract_lets +onlyGivenNames x
  clear_value x
  with_reducible apply State.moves_mk
  on_goal 2 => exact fun p hp => by cases p <;> first | rfl | exact absurd (by decide) hp
  on_goal 2 => exact id
  refine State.moves_of State.loseAlarms_moves (by decide) ?_
  with_reducible apply State.moves_mk
  on_goal 2 => exact fun p hp => by cases p <;> first | rfl | exact absurd (by decide) hp
  on_goal 2 => exact id
  exact State.moves_refl

theorem execNotificationMessage_moves {s : State} :
    s.moves (nextOr s (execNotificationMessage s)) [.regs, .xng] := by
  unfold execNotificationMessage
  split
  rw [nextOr_next]
  exact State.moves_refl
  split
  rw [nextOr_next]
  exact State.moves_refl
  rw [nextOr_next]
  apply State.moves_ite ?_ ?_
  refine State.moves_of State.bump_moves (by decide) ?_
  refine State.moves_of State.bump_moves (by decide) ?_
  extract_lets +onlyGivenNames x
  clear_value x
  with_reducible apply State.moves_mk
  on_goal 2 => exact fun p hp => by cases p <;> first | rfl | exact absurd (by decide) hp
  on_goal 2 => exact id
  exact State.moves_refl
  apply State.moves_ite ?_ ?_
  refine State.moves_of State.msix_moves (by decide) ?_
  extract_lets +onlyGivenNames x
  clear_value x
  extract_lets +onlyGivenNames x
  clear_value x
  with_reducible apply State.moves_mk
  on_goal 2 => exact fun p hp => by cases p <;> first | rfl | exact absurd (by decide) hp
  on_goal 2 => exact id
  refine State.moves_of State.bump_moves (by decide) ?_
  with_reducible apply State.moves_mk
  on_goal 2 => exact fun p hp => by cases p <;> first | rfl | exact absurd (by decide) hp
  on_goal 2 => exact id
  exact State.moves_refl
  extract_lets +onlyGivenNames x
  clear_value x
  extract_lets +onlyGivenNames x
  clear_value x
  with_reducible apply State.moves_mk
  on_goal 2 => exact fun p hp => by cases p <;> first | rfl | exact absurd (by decide) hp
  on_goal 2 => exact id
  refine State.moves_of State.bump_moves (by decide) ?_
  with_reducible apply State.moves_mk
  on_goal 2 => exact fun p hp => by cases p <;> first | rfl | exact absurd (by decide) hp
  on_goal 2 => exact id
  exact State.moves_refl

theorem State.popWrite_moves {s : State} {x1 : Word} :
    s.moves (State.popWrite s x1) [.xng] := by
  unfold State.popWrite
  apply State.moves_ite ?_ ?_
  extract_lets +onlyGivenNames x
  clear_value x
  extract_lets +onlyGivenNames x
  clear_value x
  split
  with_reducible apply State.moves_mk
  on_goal 2 => exact fun p hp => by cases p <;> first | rfl | exact absurd (by decide) hp
  on_goal 2 => exact id
  with_reducible apply State.moves_mk
  on_goal 2 => exact fun p hp => by cases p <;> first | rfl | exact absurd (by decide) hp
  on_goal 2 => exact id
  exact State.moves_refl
  with_reducible apply State.moves_mk
  on_goal 2 => exact fun p hp => by cases p <;> first | rfl | exact absurd (by decide) hp
  on_goal 2 => exact id
  exact State.moves_refl
  apply State.moves_ite ?_ ?_
  extract_lets +onlyGivenNames x
  clear_value x
  with_reducible apply State.moves_mk
  on_goal 2 => exact fun p hp => by cases p <;> first | rfl | exact absurd (by decide) hp
  on_goal 2 => exact id
  exact State.moves_refl
  exact State.moves_refl

theorem execXngPopAlarm_moves {x0 : Word} {s : State} :
    s.moves (nextOr s (execXngPopAlarm x0 s)) [.xng] := by
  unfold execXngPopAlarm
  rw [nextOr_next]
  exact State.moves_of State.popWrite_moves (by decide) State.moves_refl

theorem execXngPopNote_moves {x0 : Word} {s : State} :
    s.moves (nextOr s (execXngPopNote x0 s)) [.xng] := by
  unfold execXngPopNote
  rw [nextOr_next]
  exact State.moves_of State.popWrite_moves (by decide) State.moves_refl

theorem State.setDesc_moves {s : State} {x1 : ℕ} {x2 : ℕ} {x3 : Desc} :
    s.moves (State.setDesc s x1 x2 x3) [.xng] := by
  unfold State.setDesc
  extract_lets +onlyGivenNames x
  clear_value x
  with_reducible apply State.moves_mk
  on_goal 2 => exact fun p hp => by cases p <;> first | rfl | exact absurd (by decide) hp
  on_goal 2 => exact id
  exact State.moves_refl

theorem State.postDescs_moves {s : State} {x1 : ℕ} {x2 : ℕ} {x3 : List (BitVec 256)} :
    s.moves (State.postDescs s x1 x2 x3) [.xng] := by
  fun_induction State.postDescs s x1 x2 x3
  exact State.moves_refl
  refine State.moves_of (V := [.xng]) (by assumption) (fun _ h => h) ?_
  exact State.moves_of State.setDesc_moves (by decide) State.moves_refl

theorem execXngRingTail_moves {x0 : RingNo} {x1 : Word} {x2 : List (BitVec 256)} {s : State} :
    s.moves (nextOr s (execXngRingTail x0 x1 x2 s)) [.regs, .xng] := by
  unfold execXngRingTail
  rw [nextOr_next]
  refine State.moves_of State.put_moves (by decide) ?_
  exact State.moves_of State.postDescs_moves (by decide) State.moves_refl

theorem State.ferryMove_moves {s : State} {x1} {x2} {x3} {x4} {x5} {x6} :
    s.moves (State.ferryMove s x1 x2 x3 x4 x5 x6) [.segs, .stores, .mem, .poison, .xng, .mc] := by
  unfold State.ferryMove
  extract_lets +onlyGivenNames x
  clear_value x
  apply State.moves_ite ?_ ?_
  extract_lets +onlyGivenNames x
  clear_value x
  extract_lets +onlyGivenNames x
  clear_value x
  extract_lets +onlyGivenNames x
  refine (fun (hx : s.moves x [.segs, .stores, .mem, .poison, .xng, .mc]) => ?_) ?_
  on_goal 2 => unfold x
  clear_value x
  extract_lets +onlyGivenNames x
  clear_value x
  extract_lets +onlyGivenNames x
  refine (fun (hx : s.moves x [.segs, .stores, .mem, .poison, .xng, .mc]) => ?_) ?_
  on_goal 2 => unfold x
  clear_value x
  with_reducible apply State.moves_mk
  on_goal 2 => exact fun p hp => by cases p <;> first | rfl | exact absurd (by decide) hp
  on_goal 2 => exact id
  assumption
  refine State.moves_of State.setDesc_moves (by decide) ?_
  exact State.moves_of State.setSeg_moves (by decide) (by assumption)
  exact State.moves_of State.wordsUse_moves (by decide) State.moves_refl
  extract_lets +onlyGivenNames x
  clear_value x
  extract_lets +onlyGivenNames x
  refine (fun (hx : s.moves x [.segs, .stores, .mem, .poison, .xng, .mc]) => ?_) ?_
  on_goal 2 => unfold x
  clear_value x
  with_reducible apply State.moves_mk
  on_goal 2 => exact fun p hp => by cases p <;> first | rfl | exact absurd (by decide) hp
  on_goal 2 => exact id
  assumption
  refine State.moves_of State.setDesc_moves (by decide) ?_
  exact State.moves_of State.loadWords_moves (by decide) State.moves_refl

theorem execFerryFrame_moves {s : State} {x0} {x1} :
    s.moves (nextOr s (execFerryFrame x0 x1 s)) [.segs, .stores, .mem, .poison, .xng, .mc] := by
  unfold execFerryFrame
  rw [nextOr_next]
  extract_lets +onlyGivenNames x
  clear_value x
  extract_lets +onlyGivenNames x
  clear_value x
  apply State.moves_ite ?_ ?_
  exact State.moves_refl
  split
  exact State.moves_refl
  apply State.moves_ite ?_ ?_
  exact State.moves_refl
  exact State.moves_of State.ferryMove_moves (by decide) State.moves_refl

theorem State.ferryEnd_moves {s : State} {x1 : ℕ} {x2 : ℕ} :
    s.moves (State.ferryEnd s x1 x2) [.regs, .xng] := by
  unfold State.ferryEnd
  apply State.moves_ite ?_ ?_
  refine State.moves_of State.msix_moves (by decide) ?_
  extract_lets +onlyGivenNames x
  clear_value x
  with_reducible apply State.moves_mk
  on_goal 2 => exact fun p hp => by cases p <;> first | rfl | exact absurd (by decide) hp
  on_goal 2 => exact id
  refine State.moves_of State.put_moves (by decide) ?_
  exact State.moves_of State.setDesc_moves (by decide) State.moves_refl
  extract_lets +onlyGivenNames x
  clear_value x
  with_reducible apply State.moves_mk
  on_goal 2 => exact fun p hp => by cases p <;> first | rfl | exact absurd (by decide) hp
  on_goal 2 => exact id
  refine State.moves_of State.put_moves (by decide) ?_
  exact State.moves_of State.setDesc_moves (by decide) State.moves_refl

theorem execFerryDescriptorComplete_moves {x0 : RingNo} {s : State} :
    s.moves (nextOr s (execFerryDescriptorComplete x0 s)) [.regs, .xng] := by
  unfold execFerryDescriptorComplete
  extract_lets +onlyGivenNames x
  clear_value x
  split
  rw [nextOr_next]
  exact State.moves_refl
  split
  split
  split
  rw [nextOr_next]
  exact State.moves_of State.ferryEnd_moves (by decide) State.moves_refl
  rw [nextOr_next]
  exact State.moves_refl
  split
  split
  rw [nextOr_next]
  exact State.moves_of State.ferryEnd_moves (by decide) State.moves_refl
  rw [nextOr_next]
  exact State.moves_of State.ferryEnd_moves (by decide) State.moves_refl
  rw [nextOr_next]
  exact State.moves_refl
  split
  rw [nextOr_next]
  exact State.moves_refl
  split
  rw [nextOr_next]
  exact State.moves_of State.ferryEnd_moves (by decide) State.moves_refl
  rw [nextOr_next]
  exact State.moves_refl

theorem State.perstClear_moves {s : State} :
    s.moves (State.perstClear s) [.regs, .xng] := by
  unfold State.perstClear
  extract_lets +onlyGivenNames x
  clear_value x
  with_reducible apply State.moves_mk
  on_goal 2 => exact fun p hp => by cases p <;> first | rfl | exact absurd (by decide) hp
  on_goal 2 => exact id
  exact State.moves_refl

theorem execPerstNAssert_moves {s : State} :
    s.moves (nextOr s (execPerstNAssert s)) [.regs, .xng] := by
  unfold execPerstNAssert
  extract_lets +onlyGivenNames x
  refine (fun (hx : s.moves x [.regs, .xng]) => ?_) ?_
  on_goal 2 => unfold x
  clear_value x
  extract_lets +onlyGivenNames x
  clear_value x
  extract_lets +onlyGivenNames x
  refine (fun (hx : s.moves x [.regs, .xng]) => ?_) ?_
  on_goal 2 => unfold x
  clear_value x
  extract_lets +onlyGivenNames x
  refine (fun (hx : s.moves x [.regs, .xng]) => ?_) ?_
  on_goal 2 => unfold x
  clear_value x
  rw [nextOr_next]
  refine State.moves_of State.putAttended_moves (by decide) ?_
  refine State.moves_of State.put_moves (by decide) ?_
  assumption
  refine State.moves_of State.put_moves (by decide) ?_
  refine State.moves_of State.put_moves (by decide) ?_
  assumption
  with_reducible apply State.moves_mk
  on_goal 2 => exact fun p hp => by cases p <;> first | rfl | exact absurd (by decide) hp
  on_goal 2 => exact id
  assumption
  exact State.moves_of State.perstClear_moves (by decide) State.moves_refl

theorem execPerstNRelease_moves {s : State} :
    s.moves (nextOr s (execPerstNRelease s)) [.regs, .xng] := by
  unfold execPerstNRelease
  extract_lets +onlyGivenNames x
  clear_value x
  rw [nextOr_next]
  refine State.moves_of State.putAttended_moves (by decide) ?_
  with_reducible apply State.moves_mk
  on_goal 2 => exact fun p hp => by cases p <;> first | rfl | exact absurd (by decide) hp
  on_goal 2 => exact id
  exact State.moves_refl

theorem execHostSidePowerUp_moves {s : State} :
    s.moves (nextOr s (execHostSidePowerUp s)) [.regs, .xng, .pw] := by
  unfold execHostSidePowerUp
  extract_lets +onlyGivenNames x
  refine (fun (hx : s.moves x [.regs, .xng, .pw]) => ?_) ?_
  on_goal 2 => unfold x
  clear_value x
  extract_lets +onlyGivenNames x
  clear_value x
  split
  rw [nextOr_next]
  exact State.moves_refl
  rw [nextOr_next]
  refine State.moves_of State.putAttended_moves (by decide) ?_
  with_reducible apply State.moves_mk
  on_goal 2 => exact fun p hp => by cases p <;> first | rfl | exact absurd (by decide) hp
  on_goal 2 => exact id
  assumption
  exact State.moves_of State.perstClear_moves (by decide) State.moves_refl

theorem execHostSidePowerLoss_moves {s : State} :
    s.moves (nextOr s (execHostSidePowerLoss s)) [.timeOff, .regs, .act, .segs, .stores, .olds, .mem, .poison, .lows, .ctxs, .tiles, .evt, .wav, .grp, .cap, .latch, .xng, .ustore, .mon, .wrote, .monBegun, .monEnded, .mc, .pw, .clk, .txl, .cal] := by
  unfold execHostSidePowerLoss
  extract_lets +onlyGivenNames x
  refine (fun (hx : s.moves x [.timeOff, .regs, .act, .segs, .stores, .olds, .mem, .poison, .lows, .ctxs, .tiles, .evt,
    .wav, .grp, .cap, .latch, .xng, .ustore, .mon, .wrote, .monBegun, .monEnded, .mc, .pw, .clk, .txl, .cal]) => ?_) ?_
  on_goal 2 => unfold x
  clear_value x
  extract_lets +onlyGivenNames x
  refine (fun (hx : s.moves x [.timeOff, .regs, .act, .segs, .stores, .olds, .mem, .poison, .lows, .ctxs, .tiles, .evt,
    .wav, .grp, .cap, .latch, .xng, .ustore, .mon, .wrote, .monBegun, .monEnded, .mc, .pw, .clk, .txl, .cal]) => ?_) ?_
  on_goal 2 => unfold x
  clear_value x
  extract_lets +onlyGivenNames x
  clear_value x
  extract_lets +onlyGivenNames x
  clear_value x
  rw [nextOr_next]
  with_reducible apply State.moves_mk
  on_goal 2 => exact fun p hp => by cases p <;> first | rfl | exact absurd (by decide) hp
  on_goal 2 => exact id
  assumption
  refine State.moves_of State.perstClear_moves (by decide) ?_
  assumption
  apply State.moves_ite ?_ ?_
  exact State.moves_of State.fieldOff_moves (by decide) State.moves_refl
  exact State.moves_refl

theorem State.putMram_moves {s : State} {x1 : ℕ} {x2 : ℕ} {x3 : List (BitVec 8)} :
    s.moves (State.putMram s x1 x2 x3) [.mram] := by
  fun_induction State.putMram s x1 x2 x3
  exact State.moves_refl
  refine State.moves_of (V := [.mram]) (by assumption) (fun _ h => h) ?_
  with_reducible apply State.moves_mk
  on_goal 2 => exact fun p hp => by cases p <;> first | rfl | exact absurd (by decide) hp
  on_goal 2 => exact fun w => ⟨w.1, msorted_mins _ w.2 (Nat.zero_le _)⟩
  exact State.moves_refl

theorem State.putUword_moves {s : State} {x1 : ℕ} {x2 : ℕ} {x3 : BitVec 24} :
    s.moves (State.putUword s x1 x2 x3) [.ustore] := by
  unfold State.putUword
  with_reducible apply State.moves_mk
  on_goal 2 => exact fun p hp => by cases p <;> first | rfl | exact absurd (by decide) hp
  on_goal 2 => exact id
  exact State.moves_refl

theorem State.putBlock_moves {s : State} {x1 : ℕ} {x2 : List (BitVec 8)} :
    s.moves (State.putBlock s x1 x2) [.regs, .ustore] := by
  unfold State.putBlock
  refine State.moves_of State.put_moves (by decide) ?_
  refine moves_forUpto (fun _ _ => ?_) ?_
  refine State.moves_of State.put_moves (by decide) ?_
  exact State.moves_of State.put_moves (by decide) State.moves_refl
  refine moves_forUpto (fun _ _ => ?_) ?_
  exact State.moves_of State.putUword_moves (by decide) State.moves_refl
  exact State.moves_refl

theorem execMcUload_moves {x0 : Tile} {x1 : Word} {s : State} :
    s.moves (nextOr s (execMcUload x0 x1 s)) [.regs, .tiles] := by
  unfold execMcUload
  split
  dsimp -zeta only
  rw [nextOr_next]
  apply State.moves_of (State.guarded_moves ?_ (fun _ => ?_)) (fun _ h => h) ?_
  decide
  exact State.moves_refl
  exact State.moves_refl
  rw [nextOr_next]
  apply State.moves_of (State.guarded_moves ?_ (fun _ => ?_)) (fun _ h => h) ?_
  decide
  exact State.moves_refl
  extract_lets +onlyGivenNames x
  clear_value x
  extract_lets +onlyGivenNames x
  clear_value x
  split
  exact State.moves_of State.put_moves (by decide) State.moves_refl
  split
  refine State.moves_of State.put_moves (by decide) ?_
  exact State.moves_of State.setTile_moves (by decide) State.moves_refl
  exact State.moves_refl

theorem execUserReloadComplete_moves {x0 : Tile} {s : State} :
    s.moves (nextOr s (execUserReloadComplete x0 s)) [.regs, .tiles, .ustore] := by
  unfold execUserReloadComplete
  extract_lets +onlyGivenNames x
  clear_value x
  extract_lets +onlyGivenNames x
  refine (fun (hx : s.moves x [.regs, .tiles, .ustore]) => ?_) ?_
  on_goal 2 => unfold x
  clear_value x
  split
  rw [nextOr_next]
  exact State.moves_refl
  extract_lets +onlyGivenNames x
  clear_value x
  split
  rw [nextOr_next]
  refine State.moves_of State.put_moves (by decide) ?_
  assumption
  rw [nextOr_next]
  refine State.moves_of State.put_moves (by decide) ?_
  refine State.moves_of State.putBlock_moves (by decide) ?_
  assumption
  refine State.moves_of State.put_moves (by decide) ?_
  exact State.moves_of State.setTile_moves (by decide) State.moves_refl

theorem execUkeyOpen_moves {x0 : Word} {s : State} :
    s.moves (nextOr s (execUkeyOpen x0 s)) [.regs] := by
  unfold execUkeyOpen
  split
  rw [nextOr_next]
  apply State.moves_of (State.guarded_moves ?_ (fun _ => ?_)) (fun _ h => h) ?_
  decide
  exact State.moves_refl
  apply State.moves_ite ?_ ?_
  exact State.moves_refl
  exact State.moves_of State.put_moves (by decide) State.moves_refl
  rw [nextOr_next]
  apply State.moves_of (State.guarded_moves ?_ (fun _ => ?_)) (fun _ h => h) ?_
  decide
  exact State.moves_refl
  apply State.moves_ite ?_ ?_
  exact State.moves_refl
  apply State.moves_ite ?_ ?_
  exact State.moves_of State.put_moves (by decide) State.moves_refl
  refine State.moves_of State.put_moves (by decide) ?_
  exact State.moves_of State.put_moves (by decide) State.moves_refl

theorem execUkeyHashWrite_moves {x0 : Fin 12} {x1 : Word} {s : State} :
    s.moves (nextOr s (execUkeyHashWrite x0 x1 s)) [.regs, .ukey] := by
  unfold execUkeyHashWrite
  split
  rw [nextOr_next]
  exact State.moves_of State.put_moves (by decide) State.moves_refl
  split
  rw [nextOr_next]
  refine State.moves_of State.bump_moves (by decide) ?_
  exact State.moves_of State.put_moves (by decide) State.moves_refl
  rw [nextOr_next]
  apply State.moves_ite ?_ ?_
  refine State.moves_of State.put_moves (by decide) ?_
  refine State.moves_of State.put_moves (by decide) ?_
  with_reducible apply State.moves_mk
  on_goal 2 => exact fun p hp => by cases p <;> first | rfl | exact absurd (by decide) hp
  on_goal 2 => exact id
  exact State.moves_refl
  refine State.moves_of State.put_moves (by decide) ?_
  with_reducible apply State.moves_mk
  on_goal 2 => exact fun p hp => by cases p <;> first | rfl | exact absurd (by decide) hp
  on_goal 2 => exact id
  exact State.moves_refl

theorem execFuseBurnComplete_moves {s : State} :
    s.moves (nextOr s (execFuseBurnComplete s)) [.regs] := by
  unfold execFuseBurnComplete
  split
  rw [nextOr_next]
  refine State.moves_of State.put_moves (by decide) ?_
  refine State.moves_of State.put_moves (by decide) ?_
  exact State.moves_of State.put_moves (by decide) State.moves_refl
  rw [nextOr_next]
  exact State.moves_refl

theorem execNvWriteEnable_moves {x0 : Word} {s : State} :
    s.moves (nextOr s (execNvWriteEnable x0 s)) [.regs] := by
  unfold execNvWriteEnable
  rw [nextOr_next]
  apply State.moves_of (State.guarded_moves ?_ (fun _ => ?_)) (fun _ h => h) ?_
  decide
  exact State.moves_refl
  exact State.moves_of State.put_moves (by decide) State.moves_refl

theorem State.imgReport_moves {s : State} {x1 : ℕ} {x2 : Sts} :
    s.moves (State.imgReport s x1 x2) [.regs] := by
  unfold State.imgReport
  refine State.moves_of State.put_moves (by decide) ?_
  exact State.moves_of State.put_moves (by decide) State.moves_refl

theorem State.imgCmd_moves {s : State} {x1 : ℕ} {x2 : Bool} {x3 : State → State} {W : List Piece} (hV : ∀ p ∈
    ([.regs] : List Piece), p ∈ W) (hf : ∀ (u : State), u.moves (x3 u) W) :
    s.moves (State.imgCmd s x1 x2 x3) W := by
  unfold State.imgCmd
  apply State.moves_ite ?_ ?_
  apply State.moves_of State.put_moves ?_ ?_
  assumption
  apply State.moves_of State.imgReport_moves ?_ ?_
  assumption
  exact State.moves_refl
  apply State.moves_ite ?_ ?_
  apply State.moves_of State.imgReport_moves ?_ ?_
  assumption
  exact State.moves_refl
  apply State.moves_ite ?_ ?_
  apply State.moves_of State.imgReport_moves ?_ ?_
  assumption
  exact State.moves_refl
  apply State.moves_ite ?_ ?_
  apply State.moves_of State.imgReport_moves ?_ ?_
  assumption
  exact State.moves_refl
  apply State.moves_of State.put_moves ?_ ?_
  assumption
  apply State.moves_of (hf _) (fun _ h => h) ?_
  exact State.moves_refl

theorem State.startWrite_moves {s : State} {x1 : NvWrite} :
    s.moves (State.startWrite s x1) [.pw] := by
  unfold State.startWrite
  extract_lets +onlyGivenNames x
  clear_value x
  with_reducible apply State.moves_mk
  on_goal 2 => exact fun p hp => by cases p <;> first | rfl | exact absurd (by decide) hp
  on_goal 2 => exact id
  exact State.moves_refl

theorem execImgWriteBlock_moves {x0 : BitVec 8} {s : State} :
    s.moves (nextOr s (execImgWriteBlock x0 s)) [.regs, .pw, .mram] := by
  unfold execImgWriteBlock
  extract_lets +onlyGivenNames x
  clear_value x
  rw [nextOr_next]
  apply State.moves_of (State.imgCmd_moves ?_ (fun _ => ?_)) (fun _ h => h) ?_
  decide
  exact State.moves_refl
  refine State.moves_of State.startWrite_moves (by decide) ?_
  refine State.moves_of State.putMram_moves (by decide) ?_
  refine State.moves_of State.put_moves (by decide) ?_
  exact State.moves_of State.putMram_moves (by decide) State.moves_refl

theorem execImgCommit_moves {x0 : BitVec 8} {s : State} :
    s.moves (nextOr s (execImgCommit x0 s)) [.regs, .pw] := by
  unfold execImgCommit
  extract_lets +onlyGivenNames x
  clear_value x
  rw [nextOr_next]
  apply State.moves_of (State.imgCmd_moves ?_ (fun _ => ?_)) (fun _ h => h) ?_
  decide
  exact State.moves_refl
  exact State.moves_of State.startWrite_moves (by decide) State.moves_refl

theorem State.imgDone_moves {s : State} {x1 : ℕ} {x2 : Sts} :
    s.moves (State.imgDone s x1 x2) [.regs] := by
  unfold State.imgDone
  refine State.moves_of State.put_moves (by decide) ?_
  exact State.moves_of State.imgReport_moves (by decide) State.moves_refl

theorem State.commitDone_moves {s : State} {x1 : ℕ} {x2 : ℕ} :
    s.moves (State.commitDone s x1 x2) [.regs, .mram] := by
  unfold State.commitDone
  extract_lets +onlyGivenNames x
  clear_value x
  split
  refine State.moves_of State.imgDone_moves (by decide) ?_
  refine State.moves_of State.put_moves (by decide) ?_
  exact State.moves_of State.putMram_moves (by decide) State.moves_refl
  exact State.moves_of State.imgDone_moves (by decide) State.moves_refl

theorem State.calCmd_moves {s : State} {x1 : ℕ} {x2 : ℕ} {x3 : ℕ} {x4 : State → State} {W : List Piece} (hV : ∀ p ∈
    ([.regs] : List Piece), p ∈ W) (hf : ∀ (u : State), u.moves (x4 u) W) :
    s.moves (State.calCmd s x1 x2 x3 x4) W := by
  unfold State.calCmd
  apply State.moves_ite ?_ ?_
  apply State.moves_of State.put_moves ?_ ?_
  assumption
  exact State.moves_refl
  apply State.moves_ite ?_ ?_
  apply State.moves_of State.calReport_moves ?_ ?_
  assumption
  exact State.moves_refl
  apply State.moves_ite ?_ ?_
  apply State.moves_of State.calReport_moves ?_ ?_
  assumption
  exact State.moves_refl
  apply State.moves_of State.put_moves ?_ ?_
  assumption
  apply State.moves_of (hf _) (fun _ h => h) ?_
  exact State.moves_refl

theorem State.calStart_moves {s : State} {x1} :
    s.moves (State.calStart s x1) [.regs, .stores, .mem, .wav, .grp, .cap, .latch, .mc, .cal] := by
  unfold State.calStart
  refine State.moves_of State.calTake_moves (by decide) ?_
  with_reducible apply State.moves_mk
  on_goal 2 => exact fun p hp => by cases p <;> first | rfl | exact absurd (by decide) hp
  on_goal 2 => exact id
  exact State.moves_refl

theorem execDacLinearity_moves {s : State} {x0} {x1} :
    s.moves (nextOr s (execDacLinearity x0 x1 s)) [.regs, .stores, .mem, .wav, .grp, .cap, .latch, .mc, .cal] := by
  unfold execDacLinearity
  rw [nextOr_next]
  apply State.moves_of (State.calCmd_moves ?_ (fun u => ?_)) (fun _ h => h) ?_
  decide
  exact State.moves_refl
  exact State.moves_of State.calStart_moves (by decide) State.moves_refl

theorem execDacMarkerTiming_moves {s : State} {x0} {x1} :
    s.moves (nextOr s (execDacMarkerTiming x0 x1 s)) [.regs, .stores, .mem, .wav, .grp, .cap, .latch, .mc, .cal] := by
  unfold execDacMarkerTiming
  rw [nextOr_next]
  apply State.moves_of (State.calCmd_moves ?_ (fun u => ?_)) (fun _ h => h) ?_
  decide
  exact State.moves_refl
  exact State.moves_of State.calStart_moves (by decide) State.moves_refl

theorem execAdcCalibration_moves {s : State} {x0} {x1} :
    s.moves (nextOr s (execAdcCalibration x0 x1 s)) [.regs, .stores, .mem, .wav, .grp, .cap, .latch, .mc, .cal] := by
  unfold execAdcCalibration
  rw [nextOr_next]
  apply State.moves_of (State.calCmd_moves ?_ (fun u => ?_)) (fun _ h => h) ?_
  decide
  exact State.moves_refl
  exact State.moves_of State.calStart_moves (by decide) State.moves_refl

theorem execPinLevels_moves {s : State} {x0} {x1} :
    s.moves (nextOr s (execPinLevels x0 x1 s)) [.regs, .stores, .mem, .wav, .grp, .cap, .latch, .mc, .cal] := by
  unfold execPinLevels
  rw [nextOr_next]
  apply State.moves_of (State.calCmd_moves ?_ (fun u => ?_)) (fun _ h => h) ?_
  decide
  exact State.moves_refl
  exact State.moves_of State.calStart_moves (by decide) State.moves_refl

theorem execPinDeskew_moves {s : State} {x0} {x1} {x2} :
    s.moves (nextOr s (execPinDeskew x0 x1 x2 s)) [.regs, .stores, .mem, .wav, .grp, .cap, .latch, .mc, .cal] := by
  unfold execPinDeskew
  rw [nextOr_next]
  apply State.moves_of (State.calCmd_moves ?_ (fun u => ?_)) (fun _ h => h) ?_
  decide
  exact State.moves_refl
  exact State.moves_of State.calStart_moves (by decide) State.moves_refl

theorem execTerxaSkew_moves {s : State} {x0} {x1} :
    s.moves (nextOr s (execTerxaSkew x0 x1 s)) [.regs, .stores, .mem, .wav, .grp, .cap, .latch, .mc, .cal] := by
  unfold execTerxaSkew
  rw [nextOr_next]
  apply State.moves_of (State.calCmd_moves ?_ (fun u => ?_)) (fun _ h => h) ?_
  decide
  exact State.moves_refl
  exact State.moves_of State.calStart_moves (by decide) State.moves_refl

theorem State.pauseRunning_moves {s : State} {x1 : List (ℕ × ℕ)} : s.moves (State.pauseRunning s x1) [.tiles] := by
  induction x1 generalizing s with
  | nil => exact State.moves_refl
  | cons p l ih =>
    obtain ⟨t, c⟩ := p
    rw [State.pauseRunning]
    exact State.moves_of ih (fun _ h => h) State.setTile_moves

theorem execHbmRetrain_moves {x0 : BitVec 8} {x1 : BitVec 8} {s : State} :
    s.moves (nextOr s (execHbmRetrain x0 x1 s)) [.regs, .stores, .mem, .tiles, .wav, .grp, .cap, .latch, .mc, .cal] := by
  unfold execHbmRetrain
  extract_lets +onlyGivenNames x
  clear_value x
  rw [nextOr_next]
  apply State.moves_of (State.calCmd_moves ?_ (fun _ => ?_)) (fun _ h => h) ?_
  decide
  exact State.moves_refl
  refine State.moves_of State.calStart_moves (by decide) ?_
  refine State.moves_of State.startRetrain_moves (by decide) ?_
  exact State.moves_of State.pauseRunning_moves (by decide) State.moves_refl

theorem State.putStore_moves {s : State} :
    s.moves (State.putStore s) [.regs] := by
  unfold State.putStore
  refine State.moves_of State.put_moves (by decide) ?_
  refine State.moves_of State.put_moves (by decide) ?_
  refine State.moves_of State.put_moves (by decide) ?_
  exact State.moves_of State.put_moves (by decide) State.moves_refl

theorem execCalCommit_moves {x0 : BitVec 8} {x1 : BitVec 8} {s : State} :
    s.moves (nextOr s (execCalCommit x0 x1 s)) [.regs, .pw, .mram] := by
  unfold execCalCommit
  rw [nextOr_next]
  apply State.moves_of (State.guarded_moves ?_ (fun _ => ?_)) (fun _ h => h) ?_
  decide
  exact State.moves_refl
  apply State.moves_ite ?_ ?_
  exact State.moves_of State.calReport_moves (by decide) State.moves_refl
  apply State.moves_of (State.calCmd_moves ?_ (fun _ => ?_)) (fun _ h => h) ?_
  decide
  exact State.moves_refl
  refine State.moves_of State.putStore_moves (by decide) ?_
  refine State.moves_of State.startWrite_moves (by decide) ?_
  exact State.moves_of State.putMram_moves (by decide) State.moves_refl

theorem State.calCommitted_moves {s : State} {x1 : ℕ} {x2 : Bool} :
    s.moves (State.calCommitted s x1 x2) [.regs, .mram] := by
  unfold State.calCommitted
  refine State.moves_of State.calReport_moves (by decide) ?_
  refine State.moves_of State.putStore_moves (by decide) ?_
  exact State.moves_of State.putMram_moves (by decide) State.moves_refl

theorem State.loadTarget_moves {s : State} {x1 : ℕ} {x2 : ℕ} :
    s.moves (State.loadTarget s x1 x2) [.regs, .cal] := by
  unfold State.loadTarget
  refine State.moves_of State.put_moves (by decide) ?_
  refine State.moves_of State.put_moves (by decide) ?_
  extract_lets +onlyGivenNames x
  clear_value x
  with_reducible apply State.moves_mk
  on_goal 2 => exact fun p hp => by cases p <;> first | rfl | exact absurd (by decide) hp
  on_goal 2 => exact id
  exact State.moves_refl

theorem State.loadTemps_moves {s : State} {x1 : ℕ} {x2 : ℕ} :
    s.moves (State.loadTemps s x1 x2) [.cal] := by
  unfold State.loadTemps
  extract_lets +onlyGivenNames x
  clear_value x
  with_reducible apply State.moves_mk
  on_goal 2 => exact fun p hp => by cases p <;> first | rfl | exact absurd (by decide) hp
  on_goal 2 => exact id
  exact State.moves_refl

theorem State.loadStore_moves {s : State} :
    s.moves (State.loadStore s) [.regs, .cal] := by
  unfold State.loadStore
  apply State.moves_ite ?_ ?_
  refine State.moves_of State.put_moves (by decide) ?_
  refine moves_forUpto (fun _ _ => ?_) ?_
  exact State.moves_of State.loadTemps_moves (by decide) State.moves_refl
  refine moves_forUpto (fun _ _ => ?_) ?_
  exact State.moves_of State.put_moves (by decide) State.moves_refl
  refine moves_forUpto (fun _ _ => ?_) ?_
  exact State.moves_of State.loadTarget_moves (by decide) State.moves_refl
  exact State.moves_of State.putStore_moves (by decide) State.moves_refl
  apply State.moves_ite ?_ ?_
  refine State.moves_of State.put_moves (by decide) ?_
  refine moves_forUpto (fun _ _ => ?_) ?_
  exact State.moves_of State.loadTemps_moves (by decide) State.moves_refl
  refine moves_forUpto (fun _ _ => ?_) ?_
  exact State.moves_of State.put_moves (by decide) State.moves_refl
  refine moves_forUpto (fun _ _ => ?_) ?_
  exact State.moves_of State.loadTarget_moves (by decide) State.moves_refl
  exact State.moves_of State.putStore_moves (by decide) State.moves_refl
  exact State.moves_of State.putStore_moves (by decide) State.moves_refl

theorem State.freeDly_moves {s : State} {x1 : ℕ} :
    s.moves (State.freeDly s x1) [.free, .regs] := by
  unfold State.freeDly
  refine State.moves_of State.put_moves (by decide) ?_
  exact State.moves_of State.drawFree_moves2 (by decide) State.moves_refl

theorem State.freeCoef_moves {s : State} {x1 : ℕ} :
    s.moves (State.freeCoef s x1) [.free, .cal] := by
  unfold State.freeCoef
  dsimp only
  with_reducible apply State.moves_mk
  on_goal 2 => exact fun p hp => by cases p <;> first | rfl | exact absurd (by decide) hp
  on_goal 2 => exact id
  exact State.moves_of State.drawFree_moves2 (by decide) State.moves_refl

theorem State.calApply_moves {s : State} {x1 : CalRun} {x2 : ℕ} {x3 : BitVec 32} :
    s.moves (State.calApply s x1 x2 x3) [.free, .regs, .cal] := by
  unfold State.calApply
  dsimp only
  split
  refine State.moves_of State.put_moves (by decide) ?_
  with_reducible apply State.moves_mk
  on_goal 2 => exact fun p hp => by cases p <;> first | rfl | exact absurd (by decide) hp
  on_goal 2 => exact id
  exact State.moves_of State.freeCoef_moves (by decide) State.moves_refl
  refine moves_forUpto (fun _ _ => ?_) ?_
  exact State.moves_of State.freeDly_moves (by decide) State.moves_refl
  exact State.moves_of State.freeCoef_moves (by decide) State.moves_refl
  with_reducible apply State.moves_mk
  on_goal 2 => exact fun p hp => by cases p <;> first | rfl | exact absurd (by decide) hp
  on_goal 2 => exact id
  refine State.moves_of State.drawFree_moves2 (by decide) ?_
  refine State.moves_of State.freeDly_moves (by decide) ?_
  exact State.moves_of State.freeCoef_moves (by decide) State.moves_refl
  exact State.moves_of State.freeCoef_moves (by decide) State.moves_refl
  refine State.moves_of State.freeDly_moves (by decide) ?_
  exact State.moves_of State.freeCoef_moves (by decide) State.moves_refl
  with_reducible apply State.moves_mk
  on_goal 2 => exact fun p hp => by cases p <;> first | rfl | exact absurd (by decide) hp
  on_goal 2 => exact id
  exact State.moves_of State.put_moves (by decide) State.moves_refl
  exact State.moves_refl

theorem State.bootCalFail_moves {s : State} {x1 : CalRun} :
    s.moves (State.bootCalFail s x1) [.regs] := by
  unfold State.bootCalFail
  split
  exact State.moves_of State.put_moves (by decide) State.moves_refl
  exact State.moves_of State.put_moves (by decide) State.moves_refl
  exact State.moves_of State.put_moves (by decide) State.moves_refl
  exact State.moves_of State.put_moves (by decide) State.moves_refl

theorem State.calAdvance_moves {s : State} {x1} {x2} :
    s.moves (State.calAdvance s x1 x2) [.regs, .stores, .mem, .wav, .grp, .cap, .latch, .mc, .cal] := by
  unfold State.calAdvance
  split
  refine State.moves_of State.calStart_moves (by decide) ?_
  exact State.moves_of State.calDrop_moves (by decide) State.moves_refl
  exact State.moves_of State.calOver_moves (by decide) State.moves_refl

theorem State.calFail_moves {s : State} {x1} :
    s.moves (State.calFail s x1) [.regs, .stores, .mem, .wav, .grp, .cap, .latch, .mc, .cal] := by
  unfold State.calFail
  apply State.moves_ite ?_ ?_
  refine State.moves_of State.calAdvance_moves (by decide) ?_
  exact State.moves_of State.bootCalFail_moves (by decide) State.moves_refl
  refine State.moves_of State.calOver_moves (by decide) ?_
  refine State.moves_of State.put_moves (by decide) ?_
  exact State.moves_of State.put_moves (by decide) State.moves_refl

theorem State.calPass_moves {s : State} {x1} {x2} {x3} {x4} :
    s.moves (State.calPass s x1 x2 x3 x4) [.free, .regs, .stores, .mem, .wav, .grp, .cap, .latch, .mc, .cal] := by
  unfold State.calPass
  extract_lets +onlyGivenNames x
  refine (fun (hx : s.moves x [.free, .regs, .stores, .mem, .wav, .grp, .cap, .latch, .mc, .cal]) => ?_) ?_
  on_goal 2 => unfold x
  clear_value x
  extract_lets +onlyGivenNames x
  refine (fun (hx : s.moves x [.free, .regs, .stores, .mem, .wav, .grp, .cap, .latch, .mc, .cal]) => ?_) ?_
  on_goal 2 => unfold x
  clear_value x
  extract_lets +onlyGivenNames x
  clear_value x
  extract_lets +onlyGivenNames x
  clear_value x
  extract_lets +onlyGivenNames x
  refine (fun (hx : s.moves x [.free, .regs, .stores, .mem, .wav, .grp, .cap, .latch, .mc, .cal]) => ?_) ?_
  on_goal 2 => unfold x
  clear_value x
  apply State.moves_ite ?_ ?_
  exact State.moves_of State.calAdvance_moves (by decide) (by assumption)
  extract_lets +onlyGivenNames x
  refine (fun (hx : s.moves x [.free, .regs, .stores, .mem, .wav, .grp, .cap, .latch, .mc, .cal]) => ?_) ?_
  on_goal 2 => unfold x
  clear_value x
  exact State.moves_of State.calAdvance_moves (by decide) (by assumption)
  refine State.moves_of State.put_moves (by decide) ?_
  exact State.moves_of State.put_moves (by decide) (by assumption)
  with_reducible apply State.moves_mk
  on_goal 2 => exact fun p hp => by cases p <;> first | rfl | exact absurd (by decide) hp
  on_goal 2 => exact id
  assumption
  split
  refine State.moves_of State.put_moves (by decide) ?_
  exact State.moves_of State.put_moves (by decide) (by assumption)
  assumption
  exact State.moves_of State.calApply_moves (by decide) State.moves_refl

theorem execCalProcedureComplete_moves {s : State} {x0} {x1} {x2} {x3} :
    s.moves (nextOr s (execCalProcedureComplete x0 x1 x2 x3 s)) [.free, .regs, .stores, .mem, .wav, .grp, .cap, .latch, .mc,
      .cal] := by
  unfold execCalProcedureComplete
  rw [nextOr_next]
  split
  exact State.moves_refl
  apply State.moves_ite ?_ ?_
  exact State.moves_refl
  apply State.moves_ite ?_ ?_
  exact State.moves_of State.calFail_moves (by decide) State.moves_refl
  exact State.moves_of State.calPass_moves (by decide) State.moves_refl

theorem State.judgeDac_moves {s : State} {x1 : ℕ} :
    s.moves (State.judgeDac s x1) [.regs] := by
  unfold State.judgeDac
  extract_lets +onlyGivenNames x
  clear_value x
  split
  apply State.moves_ite ?_ ?_
  exact State.moves_of State.put_moves (by decide) State.moves_refl
  exact State.moves_refl
  exact State.moves_refl

theorem State.readTemps_moves {s : State} :
    s.moves (State.readTemps s) [.free, .regs] := by
  unfold State.readTemps
  extract_lets +onlyGivenNames x
  refine (fun (hx : s.moves x.2 [.free, .regs]) => ?_) ?_
  on_goal 2 => unfold x
  clear_value x
  extract_lets +onlyGivenNames x
  clear_value x
  refine State.moves_of State.put_moves (by decide) ?_
  refine State.moves_of State.put_moves (by decide) ?_
  exact State.moves_of State.put_moves (by decide) (by assumption)
  exact State.moves_of State.drawFree_moves2 (by decide) State.moves_refl

theorem execDacTempRead_moves {s : State} {x0} :
    s.moves (nextOr s (execDacTempRead x0 s)) [.free, .regs, .cal] := by
  unfold execDacTempRead
  extract_lets +onlyGivenNames x
  clear_value x
  extract_lets +onlyGivenNames x
  clear_value x
  rw [nextOr_next]
  refine moves_forUpto (fun u _ => ?_) ?_
  exact State.moves_of State.judgeDac_moves (by decide) State.moves_refl
  refine State.moves_of State.readTemps_moves (by decide) ?_
  refine State.moves_of State.put_moves (by decide) ?_
  with_reducible apply State.moves_mk
  on_goal 2 => exact fun p hp => by cases p <;> first | rfl | exact absurd (by decide) hp
  on_goal 2 => exact id
  exact State.moves_refl

theorem State.platTick_moves {s : State} :
    s.moves (State.platTick s) [.regs, .cal] := by
  unfold State.platTick
  dsimp only
  refine moves_forEach (fun _ _ => ?_) ?_
  apply State.moves_ite ?_ ?_
  exact State.moves_refl
  apply State.moves_ite ?_ ?_
  with_reducible apply State.moves_mk
  on_goal 2 => exact fun p hp => by cases p <;> first | rfl | exact absurd (by decide) hp
  on_goal 2 => exact id
  exact State.moves_refl
  split
  with_reducible apply State.moves_mk
  on_goal 2 => exact fun p hp => by cases p <;> first | rfl | exact absurd (by decide) hp
  on_goal 2 => exact id
  exact State.moves_of State.put_moves (by decide) State.moves_refl
  with_reducible apply State.moves_mk
  on_goal 2 => exact fun p hp => by cases p <;> first | rfl | exact absurd (by decide) hp
  on_goal 2 => exact id
  exact State.moves_of State.put_moves (by decide) State.moves_refl
  exact State.moves_refl

theorem State.endWrite_moves {s : State} {x1 : NvWrite} :
    s.moves (State.endWrite s x1) [.timeOff, .regs, .act, .segs, .stores, .olds, .mem, .poison, .lows, .ctxs, .tiles, .evt, .wav, .grp, .cap, .latch, .xng, .ustore, .mon, .wrote, .monBegun, .monEnded, .mc, .pw, .clk, .txl, .cal, .mram] := by
  unfold State.endWrite
  extract_lets +onlyGivenNames x
  clear_value x
  extract_lets +onlyGivenNames x
  refine (fun (hx : s.moves x [.timeOff, .regs, .act, .segs, .stores, .olds, .mem, .poison, .lows, .ctxs, .tiles, .evt,
    .wav, .grp, .cap, .latch, .xng, .ustore, .mon, .wrote, .monBegun, .monEnded, .mc, .pw, .clk, .txl, .cal, .mram]) => ?_)
    ?_
  on_goal 2 => unfold x
  clear_value x
  extract_lets +onlyGivenNames x
  refine (fun (hx : s.moves x [.timeOff, .regs, .act, .segs, .stores, .olds, .mem, .poison, .lows, .ctxs, .tiles, .evt,
    .wav, .grp, .cap, .latch, .xng, .ustore, .mon, .wrote, .monBegun, .monEnded, .mc, .pw, .clk, .txl, .cal, .mram]) => ?_)
    ?_
  on_goal 2 => unfold x
  clear_value x
  extract_lets +onlyGivenNames x
  clear_value x
  split
  apply State.moves_ite ?_ ?_
  refine State.moves_of State.actOn_moves (by decide) ?_
  with_reducible apply State.moves_mk
  on_goal 2 => exact fun p hp => by cases p <;> first | rfl | exact absurd (by decide) hp
  on_goal 2 => exact id
  assumption
  assumption
  assumption
  split
  refine State.moves_of State.imgDone_moves (by decide) ?_
  assumption
  refine State.moves_of State.commitDone_moves (by decide) ?_
  assumption
  refine State.moves_of State.calCommitted_moves (by decide) ?_
  assumption
  with_reducible apply State.moves_mk
  on_goal 2 => exact fun p hp => by cases p <;> first | rfl | exact absurd (by decide) hp
  on_goal 2 => exact id
  exact State.moves_refl

theorem execMramWriteComplete_moves {s : State} :
    s.moves (nextOr s (execMramWriteComplete s)) [.timeOff, .regs, .act, .segs, .stores, .olds, .mem, .poison, .lows, .ctxs, .tiles, .evt, .wav, .grp, .cap, .latch, .xng, .ustore, .mon, .wrote, .monBegun, .monEnded, .mc, .pw, .clk, .txl, .cal, .mram] := by
  unfold execMramWriteComplete
  split
  rw [nextOr_next]
  exact State.moves_of State.endWrite_moves (by decide) State.moves_refl
  rw [nextOr_next]
  exact State.moves_refl

theorem execImgCommandComplete_moves {s : State} :
    s.moves (nextOr s (execImgCommandComplete s)) [.timeOff, .regs, .act, .segs, .stores, .olds, .mem, .poison, .lows, .ctxs, .tiles, .evt, .wav, .grp, .cap, .latch, .xng, .ustore, .mon, .wrote, .monBegun, .monEnded, .mc, .pw, .clk, .txl, .cal, .mram] := by
  unfold execImgCommandComplete
  split
  rw [nextOr_next]
  exact State.moves_of State.endWrite_moves (by decide) State.moves_refl
  rw [nextOr_next]
  exact State.moves_refl

theorem execCalCommitComplete_moves {s : State} :
    s.moves (nextOr s (execCalCommitComplete s)) [.timeOff, .regs, .act, .segs, .stores, .olds, .mem, .poison, .lows, .ctxs, .tiles, .evt, .wav, .grp, .cap, .latch, .xng, .ustore, .mon, .wrote, .monBegun, .monEnded, .mc, .pw, .clk, .txl, .cal, .mram] := by
  unfold execCalCommitComplete
  split
  rw [nextOr_next]
  exact State.moves_of State.endWrite_moves (by decide) State.moves_refl
  rw [nextOr_next]
  exact State.moves_refl

theorem execGlbKeyWrite_moves {x0 : Word} {s : State} :
    s.moves (nextOr s (execGlbKeyWrite x0 s)) [.regs] := by
  unfold execGlbKeyWrite
  rw [nextOr_next]
  exact State.moves_of State.put_moves (by decide) State.moves_refl

theorem execGlbFlagsWrite_moves {x0 : Word} {s : State} :
    s.moves (nextOr s (execGlbFlagsWrite x0 s)) [.regs] := by
  unfold execGlbFlagsWrite
  rw [nextOr_next]
  exact State.moves_of State.put_moves (by decide) State.moves_refl

theorem execMailboxRequest_moves {x0 : Word} {s : State} :
    s.moves (nextOr s (execMailboxRequest x0 s)) [.regs, .xng] := by
  unfold execMailboxRequest
  extract_lets +onlyGivenNames x
  clear_value x
  split
  rw [nextOr_next]
  refine State.moves_of State.put_moves (by decide) ?_
  refine State.moves_of State.put_moves (by decide) ?_
  with_reducible apply State.moves_mk
  on_goal 2 => exact fun p hp => by cases p <;> first | rfl | exact absurd (by decide) hp
  on_goal 2 => exact id
  exact State.moves_refl
  rw [nextOr_next]
  exact State.moves_refl

theorem State.putMailbox_moves {s : State} {x1 : List ℕ} :
    s.moves (State.putMailbox s x1) [.regs] := by
  unfold State.putMailbox
  refine moves_forUpto (fun _ _ => ?_) ?_
  exact State.moves_of State.put_moves (by decide) State.moves_refl
  exact State.moves_refl

theorem execMailboxSample_moves {s : State} :
    s.moves (nextOr s (execMailboxSample s)) [.regs] := by
  unfold execMailboxSample
  extract_lets +onlyGivenNames x
  clear_value x
  extract_lets +onlyGivenNames x
  refine (fun (hx : s.moves x [.regs]) => ?_) ?_
  on_goal 2 => unfold x
  clear_value x
  split
  rw [nextOr_next]
  exact State.moves_refl
  split
  rw [nextOr_next]
  refine State.moves_of State.put_moves (by decide) ?_
  refine State.moves_of State.put_moves (by decide) ?_
  assumption
  rw [nextOr_next]
  refine State.moves_of State.put_moves (by decide) ?_
  refine State.moves_of State.put_moves (by decide) ?_
  assumption
  refine State.moves_of State.putMailbox_moves (by decide) ?_
  exact State.moves_of State.put_moves (by decide) State.moves_refl

theorem State.hvWrite_moves {s : State} {x1 : Word} :
    s.moves (State.hvWrite s x1) [.regs, .wrote] := by
  unfold State.hvWrite
  apply State.moves_of (State.guarded_moves ?_ (fun _ => ?_)) (fun _ h => h) ?_
  decide
  exact State.moves_refl
  apply State.moves_ite ?_ ?_
  refine State.moves_of State.put_moves (by decide) ?_
  exact State.moves_of State.noted_moves (by decide) State.moves_refl
  apply State.moves_ite ?_ ?_
  refine State.moves_of State.put_moves (by decide) ?_
  refine State.moves_of State.put_moves (by decide) ?_
  exact State.moves_of State.noted_moves (by decide) State.moves_refl
  refine State.moves_of State.put_moves (by decide) ?_
  refine State.moves_of State.noted_moves (by decide) ?_
  refine State.moves_of State.put_moves (by decide) ?_
  refine State.moves_of State.put_moves (by decide) ?_
  exact State.moves_of State.noted_moves (by decide) State.moves_refl

theorem execHvEnable_moves {x0 : Word} {s : State} :
    s.moves (nextOr s (execHvEnable x0 s)) [.regs, .wrote] := by
  unfold execHvEnable
  rw [nextOr_next]
  exact State.moves_of State.hvWrite_moves (by decide) State.moves_refl

theorem execHvDisable_moves {x0 : Word} {s : State} :
    s.moves (nextOr s (execHvDisable x0 s)) [.regs, .wrote] := by
  unfold execHvDisable
  rw [nextOr_next]
  exact State.moves_of State.hvWrite_moves (by decide) State.moves_refl

theorem State.holdWide_moves {s : State} {x1} :
    s.moves (State.holdWide s x1) [.grp] := by
  unfold State.holdWide
  exact State.moves_of State.setGroup_moves (by decide) State.moves_refl

theorem execHvRailsUp_moves {s : State} :
    s.moves (nextOr s (execHvRailsUp s)) [.regs, .grp] := by
  unfold execHvRailsUp
  rw [nextOr_next]
  apply State.moves_ite ?_ ?_
  refine State.moves_of State.put_moves (by decide) ?_
  refine State.moves_of State.holdWide_moves (by decide) ?_
  exact State.moves_of State.holdWide_moves (by decide) State.moves_refl
  exact State.moves_refl

theorem State.hvFault_moves {s : State} {x1 : Bool} {x2 : Bool} :
    s.moves (State.hvFault s x1 x2) [.regs] := by
  unfold State.hvFault
  apply State.moves_ite ?_ ?_
  refine State.moves_of State.put_moves (by decide) ?_
  apply State.moves_ite ?_ ?_
  exact State.moves_of State.put_moves (by decide) State.moves_refl
  exact State.moves_refl
  apply State.moves_ite ?_ ?_
  exact State.moves_of State.put_moves (by decide) State.moves_refl
  exact State.moves_refl

theorem execHvRailFault_moves {x0 : Bool} {x1 : Bool} {s : State} :
    s.moves (nextOr s (execHvRailFault x0 x1 s)) [.regs, .wrote] := by
  unfold execHvRailFault
  split
  rw [nextOr_next]
  refine State.moves_of State.put_moves (by decide) ?_
  refine State.moves_of State.put_moves (by decide) ?_
  refine State.moves_of State.hvFault_moves (by decide) ?_
  exact State.moves_of State.noted_moves (by decide) State.moves_refl
  rw [nextOr_next]
  exact State.moves_refl

theorem State.setMicro_moves {s : State} {x1 : ℕ} {x2 : Micro} :
    s.moves (State.setMicro s x1 x2) [.tiles] := by
  unfold State.setMicro
  exact State.moves_of State.setTile_moves (by decide) State.moves_refl

theorem State.stageCommit_moves {s : State} {x1} {x2} :
    s.moves (State.stageCommit s x1 x2) [.regs, .stores, .mem, .ctxs, .tiles, .evt, .grp, .cap, .mon, .mc] := by
  unfold State.stageCommit
  extract_lets +onlyGivenNames x
  clear_value x
  extract_lets +onlyGivenNames x
  clear_value x
  apply State.moves_ite ?_ ?_
  refine State.moves_of State.commitSet_moves (by decide) ?_
  exact State.moves_of State.setGroup_moves (by decide) State.moves_refl
  exact State.moves_of State.faultCtx_moves (by decide) State.moves_refl

theorem State.setRes_moves {s : State} {x1} {x2} {x3} {x4} {x5} :
    s.moves (State.setRes s x1 x2 x3 x4 x5) [.regs, .stores, .mem, .ctxs, .tiles, .evt, .wav, .grp, .cap, .mon, .mc] := by
  unfold State.setRes
  split
  exact State.moves_of State.setFtw_moves (by decide) State.moves_refl
  exact State.moves_of State.setPhase_moves (by decide) State.moves_refl
  exact State.moves_of State.setPhase_moves (by decide) State.moves_refl
  exact State.moves_of State.put_moves (by decide) State.moves_refl
  exact State.moves_of State.put_moves (by decide) State.moves_refl
  apply State.moves_ite ?_ ?_
  exact State.moves_of State.faultCtx_moves (by decide) State.moves_refl
  exact State.moves_of State.setTile_moves (by decide) State.moves_refl
  exact State.moves_of State.setCtx_moves (by decide) State.moves_refl
  exact State.moves_of State.occur_moves (by decide) State.moves_refl
  exact State.moves_of State.setCnt_moves (by decide) State.moves_refl
  exact State.moves_of State.setCnt_moves (by decide) State.moves_refl
  refine State.moves_of State.put64_moves (by decide) ?_
  exact State.moves_of State.put_moves (by decide) State.moves_refl
  exact State.moves_of State.setGroup_moves (by decide) State.moves_refl
  extract_lets +onlyGivenNames x
  clear_value x
  apply State.moves_ite ?_ ?_
  exact State.moves_of State.setGroup_moves (by decide) State.moves_refl
  exact State.moves_of State.setGroup_moves (by decide) State.moves_refl
  exact State.moves_of State.stageCommit_moves (by decide) State.moves_refl
  exact State.moves_refl

theorem State.applyDelayed_moves {s : State} {x1} {x2} {x3} {x4} :
    s.moves (State.applyDelayed s x1 x2 x3 x4) [.regs, .stores, .mem, .ctxs, .tiles, .evt, .wav, .grp, .cap, .mon, .mc] := by
  unfold State.applyDelayed
  split
  exact State.moves_of State.setRes_moves (by decide) State.moves_refl
  exact State.moves_of State.setCtx_moves (by decide) State.moves_refl
  exact State.moves_of State.armWrite_moves (by decide) State.moves_refl
  exact State.moves_of State.disarm_moves (by decide) State.moves_refl

theorem State.microDue_moves {s : State} {x1} :
    s.moves (State.microDue s x1) [.regs, .stores, .mem, .ctxs, .tiles, .evt, .wav, .grp, .cap, .mon, .mc] := by
  unfold State.microDue
  split
  exact State.moves_refl
  extract_lets +onlyGivenNames x
  clear_value x
  extract_lets +onlyGivenNames x
  clear_value x
  apply State.moves_ite ?_ ?_
  exact State.moves_refl
  refine moves_forEach (fun u _ => ?_) ?_
  apply State.moves_ite ?_ ?_
  exact State.moves_of State.applyDelayed_moves (by decide) State.moves_refl
  exact State.moves_refl
  exact State.moves_of State.setMicro_moves (by decide) State.moves_refl

theorem State.stageStep_moves {s : State} {x1} {x2} :
    s.moves (State.stageStep s x1 x2) [.regs, .stores, .mem, .ctxs, .tiles, .evt, .wav, .grp, .cap, .mon, .mc] := by
  unfold State.stageStep
  split
  exact State.moves_refl
  extract_lets +onlyGivenNames x
  refine (fun (hx : s.moves x [.regs, .stores, .mem, .ctxs, .tiles, .evt, .wav, .grp, .cap, .mon, .mc]) => ?_) ?_
  on_goal 2 => unfold x
  clear_value x
  split
  refine State.moves_of State.setRes_moves (by decide) ?_
  exact State.moves_of State.setTile_moves (by decide) (by assumption)
  assumption
  exact State.moves_of State.catchUp_moves (by decide) State.moves_refl

theorem State.routineChanges_moves {s : State} {x1} :
    s.moves (State.routineChanges s x1) [.regs, .stores, .mem, .ctxs, .tiles, .evt, .wav, .grp, .cap, .mon, .mc] := by
  unfold State.routineChanges
  extract_lets +onlyGivenNames x
  refine (fun (hx : s.moves x [.regs, .stores, .mem, .ctxs, .tiles, .evt, .wav, .grp, .cap, .mon, .mc]) => ?_) ?_
  on_goal 2 => unfold x
  clear_value x
  split
  assumption
  exact State.moves_of State.stageStep_moves (by decide) (by assumption)
  exact State.moves_of State.microDue_moves (by decide) State.moves_refl

theorem State.microChange_moves {s : State} {x1} {x2} {x3} :
    s.moves (State.microChange s x1 x2 x3) [.regs, .stores, .mem, .ctxs, .tiles, .evt, .wav, .grp, .cap, .mon, .mc] := by
  unfold State.microChange
  extract_lets +onlyGivenNames x
  clear_value x
  split
  apply State.moves_ite ?_ ?_
  exact State.moves_of State.setTile_moves (by decide) State.moves_refl
  apply State.moves_ite ?_ ?_
  exact State.moves_of State.applyDelayed_moves (by decide) State.moves_refl
  exact State.moves_of State.setMicro_moves (by decide) State.moves_refl
  apply State.moves_ite ?_ ?_
  exact State.moves_of State.applyDelayed_moves (by decide) State.moves_refl
  exact State.moves_of State.setMicro_moves (by decide) State.moves_refl

theorem State.microRunaway_moves {s : State} {x1 : ℕ} :
    s.moves (State.microRunaway s x1) [.tiles] := by
  unfold State.microRunaway
  exact State.moves_of State.setTile_moves (by decide) State.moves_refl

theorem State.emitParts_moves {s : State} {x1} {x2} {x3} :
    s.moves (State.emitParts s x1 x2 x3) [.tiles] := by
  unfold State.emitParts
  extract_lets +onlyGivenNames x
  clear_value x
  split
  exact State.moves_of State.setTile_moves (by decide) State.moves_refl
  extract_lets +onlyGivenNames x
  clear_value x
  exact State.moves_of State.setTile_moves (by decide) State.moves_refl

theorem State.emit_moves {s : State} {x1} {x2} {x3} :
    s.moves (State.emit s x1 x2 x3) [.tiles] := by
  unfold State.emit
  extract_lets +onlyGivenNames x
  clear_value x
  split
  extract_lets +onlyGivenNames x
  clear_value x
  refine State.moves_of State.emitParts_moves (by decide) ?_
  exact State.moves_of State.setMicro_moves (by decide) State.moves_refl
  exact State.moves_of State.emitParts_moves (by decide) State.moves_refl
  split
  exact State.moves_of State.emitParts_moves (by decide) State.moves_refl
  exact State.moves_of State.emitParts_moves (by decide) State.moves_refl
  exact State.moves_of State.emitParts_moves (by decide) State.moves_refl

theorem State.fetchWords_moves {s : State} {x1} {x2} {x3} {x4} {x5} :
    s.moves (State.fetchWords s x1 x2 x3 x4 x5) [.tiles, .mc] := by
  unfold State.fetchWords
  apply State.moves_ite ?_ ?_
  refine moves_forUpto (fun u _ => ?_) ?_
  exact State.moves_of State.cacheLine_moves (by decide) State.moves_refl
  exact State.moves_refl
  extract_lets +onlyGivenNames x
  clear_value x
  exact State.moves_of State.setMicro_moves (by decide) State.moves_refl

theorem State.microStacks_moves {s : State} {x1} {x2} {x3} {x4} :
    s.moves (State.microStacks s x1 x2 x3 x4) [.regs, .stores, .mem, .ctxs, .tiles, .evt, .wav, .grp, .cap, .mon, .mc] := by
  unfold State.microStacks
  extract_lets +onlyGivenNames x
  clear_value x
  refine State.moves_of State.microChange_moves (by decide) ?_
  exact State.moves_of State.setMicro_moves (by decide) State.moves_refl

theorem State.microPush_moves {s : State} {x1} {x2} {x3} :
    s.moves (State.microPush s x1 x2 x3) [.regs, .stores, .mem, .ctxs, .tiles, .evt, .wav, .grp, .cap, .mon, .mc] := by
  unfold State.microPush
  extract_lets +onlyGivenNames x
  clear_value x
  extract_lets +onlyGivenNames x
  clear_value x
  extract_lets +onlyGivenNames x
  clear_value x
  apply State.moves_ite ?_ ?_
  apply State.moves_ite ?_ ?_
  exact State.moves_of State.faultCtx_moves (by decide) State.moves_refl
  exact State.moves_of State.microStacks_moves (by decide) State.moves_refl
  apply State.moves_ite ?_ ?_
  exact State.moves_of State.faultCtx_moves (by decide) State.moves_refl
  exact State.moves_of State.microStacks_moves (by decide) State.moves_refl

theorem State.microPopped_moves {s : State} {x1 : ℕ} {x2 : ℕ} {x3 : Addr} :
    s.moves (State.microPopped s x1 x2 x3) [.tiles] := by
  unfold State.microPopped
  exact State.moves_of State.setMicro_moves (by decide) State.moves_refl

theorem State.microPop_moves {s : State} {x1} {x2} {x3} :
    s.moves (State.microPop s x1 x2 x3) [.regs, .stores, .mem, .ctxs, .tiles, .evt, .wav, .grp, .cap, .mon, .mc] := by
  unfold State.microPop
  extract_lets +onlyGivenNames x
  clear_value x
  extract_lets +onlyGivenNames x
  clear_value x
  split
  split
  exact State.moves_of State.faultCtx_moves (by decide) State.moves_refl
  apply State.moves_ite ?_ ?_
  exact State.moves_of State.faultCtx_moves (by decide) State.moves_refl
  refine State.moves_of State.microStacks_moves (by decide) ?_
  exact State.moves_of State.microPopped_moves (by decide) State.moves_refl
  split
  exact State.moves_of State.faultCtx_moves (by decide) State.moves_refl
  apply State.moves_ite ?_ ?_
  exact State.moves_of State.faultCtx_moves (by decide) State.moves_refl
  extract_lets +onlyGivenNames x
  clear_value x
  extract_lets +onlyGivenNames x
  refine (fun (hx : s.moves x [.regs, .stores, .mem, .ctxs, .tiles, .evt, .wav, .grp, .cap, .mon, .mc]) => ?_) ?_
  on_goal 2 => unfold x
  clear_value x
  extract_lets +onlyGivenNames x
  clear_value x
  extract_lets +onlyGivenNames x
  refine (fun (hx : s.moves x [.regs, .stores, .mem, .ctxs, .tiles, .evt, .wav, .grp, .cap, .mon, .mc]) => ?_) ?_
  on_goal 2 => unfold x
  clear_value x
  apply State.moves_ite ?_ ?_
  exact State.moves_of State.microStacks_moves (by decide) (by assumption)
  apply State.moves_ite ?_ ?_
  assumption
  exact State.moves_of State.microStacks_moves (by decide) (by assumption)
  exact State.moves_of State.setMicro_moves (by decide) (by assumption)
  exact State.moves_of State.microPopped_moves (by decide) State.moves_refl
  apply State.moves_ite ?_ ?_
  split
  exact State.moves_of State.faultCtx_moves (by decide) State.moves_refl
  refine State.moves_of State.microStacks_moves (by decide) ?_
  exact State.moves_of State.microPopped_moves (by decide) State.moves_refl
  exact State.moves_of State.microRunaway_moves (by decide) State.moves_refl

theorem State.microAlu_moves {s : State} {x1 : ℕ} {x2 : Option ℕ} {x3 : Word72 × Bool × Bool} :
    s.moves (State.microAlu s x1 x2 x3) [.tiles] := by
  unfold State.microAlu
  exact State.moves_of State.setMicro_moves (by decide) State.moves_refl

theorem State.countRoutine_moves {s : State} {x1} :
    s.moves (State.countRoutine s x1) [.tiles] := by
  unfold State.countRoutine
  extract_lets +onlyGivenNames x
  refine (fun (hx : s.moves x [.tiles]) => ?_) ?_
  on_goal 2 => unfold x
  clear_value x
  exact State.moves_of State.setTile_moves (by decide) (by assumption)
  exact State.moves_of State.addSpin_moves (by decide) State.moves_refl

theorem State.microExec_moves1 {s : State} {x1} {x2} {x3} {x4} :
    s.moves (State.microExec s x1 x2 x3 x4).1 [.free, .regs, .stores, .mem, .ctxs, .tiles, .evt, .wav, .grp, .cap, .mon, .mc]
      := by
  unfold State.microExec
  extract_lets +onlyGivenNames x
  clear_value x
  extract_lets +onlyGivenNames x
  clear_value x
  extract_lets +onlyGivenNames x
  clear_value x
  split
  dsimp -zeta only
  exact State.moves_of State.microRunaway_moves (by decide) State.moves_refl
  split
  extract_lets +onlyGivenNames x
  clear_value x
  dsimp -zeta only
  exact State.moves_of State.setMicro_moves (by decide) State.moves_refl
  dsimp -zeta only
  exact State.moves_of State.microAlu_moves (by decide) State.moves_refl
  dsimp -zeta only
  exact State.moves_of State.microAlu_moves (by decide) State.moves_refl
  dsimp -zeta only
  exact State.moves_of State.microAlu_moves (by decide) State.moves_refl
  extract_lets +onlyGivenNames x
  refine (fun (hx : s.moves x [.free, .regs, .stores, .mem, .ctxs, .tiles, .evt, .wav, .grp, .cap, .mon, .mc]) => ?_) ?_
  on_goal 2 => unfold x
  clear_value x
  dsimp -zeta only
  assumption
  apply State.moves_ite ?_ ?_
  with_reducible apply State.moves_mk
  on_goal 2 => exact fun p hp => by cases p <;> first | rfl | exact absurd (by decide) hp
  on_goal 2 => exact id
  exact State.moves_refl
  exact State.moves_refl
  dsimp -zeta only
  exact State.moves_refl
  split
  dsimp -zeta only
  exact State.moves_of State.microRunaway_moves (by decide) State.moves_refl
  dsimp -zeta only
  exact State.moves_of State.setMicro_moves (by decide) State.moves_refl
  split
  dsimp -zeta only
  exact State.moves_of State.microRunaway_moves (by decide) State.moves_refl
  dsimp -zeta only
  exact State.moves_of State.setMicro_moves (by decide) State.moves_refl
  split
  dsimp -zeta only
  exact State.moves_of State.faultCtx_moves (by decide) State.moves_refl
  dsimp -zeta only
  exact State.moves_of State.fetchWords_moves (by decide) State.moves_refl
  dsimp -zeta only
  exact State.moves_of State.microPush_moves (by decide) State.moves_refl
  dsimp -zeta only
  exact State.moves_of State.microPop_moves (by decide) State.moves_refl
  dsimp -zeta only
  exact State.moves_of State.emit_moves (by decide) State.moves_refl
  extract_lets +onlyGivenNames x
  clear_value x
  split
  dsimp -zeta only
  exact State.moves_of State.microChange_moves (by decide) State.moves_refl
  split
  dsimp -zeta only
  exact State.moves_of State.faultCtx_moves (by decide) State.moves_refl
  extract_lets +onlyGivenNames x
  refine (fun (hx : s.moves x.1 [.free, .regs, .stores, .mem, .ctxs, .tiles, .evt, .wav, .grp, .cap, .mon, .mc]) => ?_) ?_
  on_goal 2 => unfold x
  clear_value x
  dsimp -zeta only
  refine State.moves_of State.microChange_moves (by decide) ?_
  exact State.moves_of State.setMicro_moves (by decide) (by assumption)
  exact State.moves_of State.landArm_moves1 (by decide) State.moves_refl
  dsimp -zeta only
  exact State.moves_of State.setMicro_moves (by decide) State.moves_refl
  dsimp -zeta only
  extract_lets +onlyGivenNames x
  refine (fun (hx : s.moves x [.free, .regs, .stores, .mem, .ctxs, .tiles, .evt, .wav, .grp, .cap, .mon, .mc]) => ?_) ?_
  on_goal 2 => unfold x
  clear_value x
  with_reducible apply State.moves_mk
  on_goal 2 => exact fun p hp => by cases p <;> first | rfl | exact absurd (by decide) hp
  on_goal 2 => exact id
  assumption
  exact State.moves_of State.setMicro_moves (by decide) State.moves_refl
  dsimp -zeta only
  exact State.moves_refl
  split
  dsimp -zeta only
  exact State.moves_of State.faultCtx_moves (by decide) State.moves_refl
  dsimp -zeta only
  exact State.moves_of State.microChange_moves (by decide) State.moves_refl
  dsimp -zeta only
  exact State.moves_of State.setMicro_moves (by decide) State.moves_refl
  dsimp -zeta only
  exact State.moves_refl
  extract_lets +onlyGivenNames x
  refine (fun (hx : s.moves x [.free, .regs, .stores, .mem, .ctxs, .tiles, .evt, .wav, .grp, .cap, .mon, .mc]) => ?_) ?_
  on_goal 2 => unfold x
  clear_value x
  dsimp -zeta only
  split
  exact State.moves_of State.countRoutine_moves (by decide) (by assumption)
  assumption
  exact State.moves_of State.setMicro_moves (by decide) State.moves_refl

theorem State.microExec_moves {s : State} {x1} {x2} {x3} {x4} {u : State} {y0} (h : State.microExec s x1 x2 x3 x4 = (u, y0))
  :
    s.moves u [.free, .regs, .stores, .mem, .ctxs, .tiles, .evt, .wav, .grp, .cap, .mon, .mc] := by
  have e : (State.microExec s x1 x2 x3 x4).1 = u := by rw [h]
  rw [← e]; exact State.microExec_moves1

theorem State.microCount_moves {s : State} {x1} {x2} :
    s.moves (State.microCount s x1 x2) [.tiles] := by
  unfold State.microCount
  extract_lets +onlyGivenNames x
  clear_value x
  exact State.moves_of State.setMicro_moves (by decide) State.moves_refl

theorem State.microRun_moves {s : State} {x1} {x2} {x3} {x4} :
    s.moves (State.microRun s x1 x2 x3 x4) [.free, .regs, .stores, .mem, .ctxs, .tiles, .evt, .wav, .grp, .cap, .mon, .mc] :=
      by
  fun_induction State.microRun s x1 x2 x3 x4
  exact State.moves_of State.setMicro_moves (by decide) State.moves_refl
  exact State.moves_of State.microRunaway_moves (by decide) State.moves_refl
  exact State.moves_of State.setMicro_moves (by decide) State.moves_refl
  dsimp +zetaDelta -zeta only
  refine State.moves_of State.microExec_moves1 (by decide) ?_
  exact State.moves_of State.microCount_moves (by decide) State.moves_refl
  refine State.moves_of (V := [.free, .regs, .stores, .mem, .ctxs, .tiles, .evt, .wav, .grp, .cap, .mon, .mc]) (by
    assumption) (fun _ h => h) ?_
  dsimp +zetaDelta -zeta only
  refine State.moves_of State.microExec_moves1 (by decide) ?_
  exact State.moves_of State.microCount_moves (by decide) State.moves_refl
  refine State.moves_of (V := [.free, .regs, .stores, .mem, .ctxs, .tiles, .evt, .wav, .grp, .cap, .mon, .mc]) (by
    assumption) (fun _ h => h) ?_
  refine State.moves_of State.setMicro_moves (by decide) ?_
  dsimp +zetaDelta -zeta only
  refine State.moves_of State.microExec_moves1 (by decide) ?_
  exact State.moves_of State.microCount_moves (by decide) State.moves_refl
  dsimp +zetaDelta -zeta only
  refine State.moves_of State.microExec_moves1 (by decide) ?_
  exact State.moves_of State.microCount_moves (by decide) State.moves_refl

theorem State.microEnter_moves {s : State} {x1} {x2} {x3} {x4} {x5} {x6} {x7} :
    s.moves (State.microEnter s x1 x2 x3 x4 x5 x6 x7) [.free, .regs, .stores, .mem, .ctxs, .tiles, .evt, .wav, .grp, .cap,
      .mon, .mc] := by
  unfold State.microEnter
  extract_lets +onlyGivenNames x
  clear_value x
  extract_lets +onlyGivenNames x
  clear_value x
  extract_lets +onlyGivenNames x
  clear_value x
  extract_lets +onlyGivenNames x
  clear_value x
  refine State.moves_of State.microRun_moves (by decide) ?_
  extract_lets +onlyGivenNames x
  refine (fun (hx : s.moves x [.free, .regs, .stores, .mem, .ctxs, .tiles, .evt, .wav, .grp, .cap, .mon, .mc]) => ?_) ?_
  on_goal 2 => unfold x
  clear_value x
  with_reducible apply State.moves_mk
  on_goal 2 => exact fun p hp => by cases p <;> first | rfl | exact absurd (by decide) hp
  on_goal 2 => exact id
  assumption
  refine State.moves_of State.gcSlots_moves (by decide) ?_
  refine State.moves_of State.setAhead_moves (by decide) ?_
  exact State.moves_of State.setMicro_moves (by decide) State.moves_refl

theorem State.microWait_moves {s : State} {x1} {x2} {x3} :
    s.moves (State.microWait s x1 x2 x3) [.tiles, .grp] := by
  unfold State.microWait
  extract_lets +onlyGivenNames x
  clear_value x
  extract_lets +onlyGivenNames x
  clear_value x
  extract_lets +onlyGivenNames x
  refine (fun (hx : s.moves x [.tiles, .grp]) => ?_) ?_
  on_goal 2 => unfold x
  clear_value x
  split
  exact State.moves_of State.beginWait_moves (by decide) (by assumption)
  exact State.moves_of State.beginSync_moves (by decide) (by assumption)
  exact State.moves_of State.beginSync_moves (by decide) (by assumption)
  exact State.moves_of State.beginSync_moves (by decide) (by assumption)
  exact State.moves_of State.beginSync_moves (by decide) (by assumption)
  exact State.moves_of State.setMicro_moves (by decide) State.moves_refl

theorem State.microGoOn_moves {s : State} {x1} {x2} :
    s.moves (State.microGoOn s x1 x2) [.free, .regs, .stores, .mem, .ctxs, .tiles, .evt, .wav, .grp, .cap, .mon, .mc] := by
  unfold State.microGoOn
  extract_lets +onlyGivenNames x
  clear_value x
  apply State.moves_ite ?_ ?_
  exact State.moves_refl
  split
  refine State.moves_of State.microWait_moves (by decide) ?_
  exact State.moves_of State.closeItem_moves (by decide) State.moves_refl
  split
  refine State.moves_of State.microRun_moves (by decide) ?_
  exact State.moves_of State.closeItem_moves (by decide) State.moves_refl
  exact State.moves_of State.microRun_moves (by decide) State.moves_refl
  exact State.moves_refl

theorem execUserOpcode_moves {s : State} {x0} {x1} :
    s.moves (nextOr s (execUserOpcode x0 x1 s)) [.free, .regs, .stores, .mem, .ctxs, .tiles, .evt, .wav, .grp, .cap, .mon,
      .mc] := by
  unfold execUserOpcode
  extract_lets +onlyGivenNames x
  clear_value x
  rw [nextOr_next]
  apply State.moves_ite ?_ ?_
  exact State.moves_refl
  split
  exact State.moves_of State.microGoOn_moves (by decide) State.moves_refl
  apply State.moves_of (State.instr_moves ?_ (fun u _ _ _ => ?_)) (fun _ h => h) ?_
  decide
  exact State.moves_refl
  extract_lets +onlyGivenNames x
  clear_value x
  refine State.moves_of State.microEnter_moves (by decide) ?_
  exact State.moves_of State.nextPc_moves (by decide) State.moves_refl

theorem execMicroFault_moves {s : State} {x0} :
    s.moves (nextOr s (execMicroFault x0 s)) [.regs, .stores, .mem, .ctxs, .tiles, .evt, .grp, .cap, .mon, .mc] := by
  unfold execMicroFault
  rw [nextOr_next]
  split
  exact State.moves_of State.faultCtx_moves (by decide) State.moves_refl
  exact State.moves_refl

theorem State.runWord_moves {s : State} {x1} {x2} :
    s.moves (State.runWord s x1 x2) [.free, .regs, .stores, .mem, .ctxs, .tiles, .evt, .wav, .grp, .cap, .mon, .mc] := by
  unfold State.runWord
  extract_lets +onlyGivenNames x
  clear_value x
  split
  exact State.moves_mono execNop_moves (by decide)
  exact State.moves_mono execHalt_moves (by decide)
  exact State.moves_mono execPlay_moves (by decide)
  exact State.moves_mono execPlayn_moves (by decide)
  exact State.moves_mono execLoop_moves (by decide)
  exact State.moves_mono execEndloop_moves (by decide)
  exact State.moves_mono execCall_moves (by decide)
  exact State.moves_mono execRet_moves (by decide)
  exact State.moves_mono execJump_moves (by decide)
  exact State.moves_mono execArm_moves (by decide)
  exact State.moves_mono execDisarm_moves (by decide)
  exact State.moves_mono execWait_moves (by decide)
  exact State.moves_mono execSync_moves (by decide)
  exact State.moves_mono execSetts_moves (by decide)
  exact State.moves_mono execSetf_moves (by decide)
  exact State.moves_mono execSetph_moves (by decide)
  exact State.moves_mono execRamp_moves (by decide)
  exact State.moves_mono execMark_moves (by decide)
  exact State.moves_mono execStream_moves (by decide)
  exact State.moves_mono execSwitch_moves (by decide)
  exact State.moves_mono execSignal_moves (by decide)
  exact State.moves_mono execCount_moves (by decide)
  exact State.moves_mono execUserOpcode_moves (by decide)

theorem execLandedRunStart_moves {x0 : Tile} {s : State} :
    s.moves (nextOr s (execLandedRunStart x0 s)) [.ctxs, .tiles] := by
  unfold execLandedRunStart
  split
  split
  rw [nextOr_next]
  exact State.moves_refl
  rw [nextOr_next]
  exact State.moves_of State.enter_moves (by decide) State.moves_refl
  rw [nextOr_next]
  exact State.moves_refl

theorem State.lookAhead_moves {s : State} {x1} {x2} :
    s.moves (State.lookAhead s x1 x2) [.free, .regs, .stores, .mem, .ctxs, .tiles, .evt, .wav, .grp, .cap, .mon, .mc] := by
  fun_induction State.lookAhead s x1 x2
  exact State.moves_refl
  exact State.moves_of State.runWord_moves (by decide) State.moves_refl
  exact State.moves_refl
  refine State.moves_of (V := [.free, .regs, .stores, .mem, .ctxs, .tiles, .evt, .wav, .grp, .cap, .mon, .mc]) (by
    assumption) (fun _ h => h) ?_
  exact State.moves_of State.runWord_moves (by decide) State.moves_refl
  exact State.moves_refl
  exact State.moves_refl

theorem execUnderrun_moves {s : State} {x0} :
    s.moves (nextOr s (execUnderrun x0 s)) [.regs, .stores, .mem, .tiles, .evt, .grp, .cap, .mon, .mc] := by
  unfold execUnderrun
  rw [nextOr_next]
  split
  extract_lets +onlyGivenNames x
  clear_value x
  apply State.moves_ite ?_ ?_
  exact State.moves_refl
  apply State.moves_ite ?_ ?_
  exact State.moves_of State.underrunPlain_moves (by decide) State.moves_refl
  apply State.moves_ite ?_ ?_
  refine State.moves_of State.holdBlock_moves (by decide) ?_
  exact State.moves_of State.setTile_moves (by decide) State.moves_refl
  split
  apply State.moves_ite ?_ ?_
  exact State.moves_of State.setTile_moves (by decide) State.moves_refl
  exact State.moves_of State.underrunPlain_moves (by decide) State.moves_refl
  exact State.moves_of State.underrunPlain_moves (by decide) State.moves_refl
  split
  apply State.moves_ite ?_ ?_
  exact State.moves_of State.setTile_moves (by decide) State.moves_refl
  exact State.moves_refl
  exact State.moves_refl
  exact State.moves_refl

theorem State.divertNow_moves {s : State} {x1} {x2} {x3} :
    s.moves (State.divertNow s x1 x2 x3) [.regs, .stores, .mem, .ctxs, .tiles, .evt, .grp, .cap, .mon, .mc] := by
  unfold State.divertNow
  extract_lets +onlyGivenNames x
  refine (fun (hx : s.moves x [.regs, .stores, .mem, .ctxs, .tiles, .evt, .grp, .cap, .mon, .mc]) => ?_) ?_
  on_goal 2 => unfold x
  clear_value x
  extract_lets +onlyGivenNames x
  clear_value x
  extract_lets +onlyGivenNames x
  refine (fun (hx : s.moves x [.regs, .stores, .mem, .ctxs, .tiles, .evt, .grp, .cap, .mon, .mc]) => ?_) ?_
  on_goal 2 => unfold x
  clear_value x
  apply State.moves_ite ?_ ?_
  refine State.moves_of State.faultCtx_moves (by decide) ?_
  exact State.moves_of State.logWrite_moves (by decide) (by assumption)
  exact State.moves_of State.commitCallTo_moves (by decide) (by assumption)
  exact State.moves_of State.setTile_moves (by decide) (by assumption)
  refine State.moves_of State.monMark_moves (by decide) ?_
  exact State.moves_of State.underrunLog_moves (by decide) State.moves_refl

theorem execDivertCommit_moves {s : State} {x0} :
    s.moves (nextOr s (execDivertCommit x0 s)) [.regs, .stores, .mem, .ctxs, .tiles, .evt, .grp, .cap, .mon, .mc] := by
  unfold execDivertCommit
  rw [nextOr_next]
  split
  apply State.moves_ite ?_ ?_
  exact State.moves_refl
  extract_lets +onlyGivenNames x
  clear_value x
  extract_lets +onlyGivenNames x
  refine (fun (hx : s.moves x [.regs, .stores, .mem, .ctxs, .tiles, .evt, .grp, .cap, .mon, .mc]) => ?_) ?_
  on_goal 2 => unfold x
  clear_value x
  split
  exact State.moves_of State.divertNow_moves (by decide) (by assumption)
  extract_lets +onlyGivenNames x
  refine (fun (hx : s.moves x [.regs, .stores, .mem, .ctxs, .tiles, .evt, .grp, .cap, .mon, .mc]) => ?_) ?_
  on_goal 2 => unfold x
  clear_value x
  split
  exact State.moves_of State.holdBlock_moves (by decide) (by assumption)
  exact State.moves_of State.setTile_moves (by decide) (by assumption)
  exact State.moves_of State.underrunLog_moves (by decide) (by assumption)
  extract_lets +onlyGivenNames x
  refine (fun (hx : s.moves x [.regs, .stores, .mem, .ctxs, .tiles, .evt, .grp, .cap, .mon, .mc]) => ?_) ?_
  on_goal 2 => unfold x
  clear_value x
  exact State.moves_of State.setTile_moves (by decide) (by assumption)
  exact State.moves_of State.underrunLog_moves (by decide) (by assumption)
  exact State.moves_of State.setTile_moves (by decide) State.moves_refl
  exact State.moves_refl

theorem State.unmapped_moves {s : State} :
    s.moves (State.unmapped s) [.regs] := by
  unfold State.unmapped
  exact State.moves_of State.put_moves (by decide) State.moves_refl

theorem State.hostErr_moves {s : State} {x1} {W : List Piece} (hV : ∀ p ∈ ([] : List Piece), p ∈ W) (hf : ∀ (u : State),
  u.moves (x1 u) W) :
    s.moves (State.hostErr s x1) W := by
  unfold State.hostErr
  apply State.moves_ite ?_ ?_
  apply State.moves_of (hf _) (fun _ h => h) ?_
  exact State.moves_refl
  exact State.moves_refl

theorem State.accSize_moves {s : State} :
    s.moves (State.accSize s) [.regs] := by
  unfold State.accSize
  exact State.moves_of State.put_moves (by decide) State.moves_refl

theorem State.plcWrite_moves {s : State} {x1 : Word} :
    s.moves (State.plcWrite s x1) [.regs, .segs, .stores, .mem, .poison, .nextSid, .tiles, .xng, .mc] := by
  unfold State.plcWrite
  apply State.moves_ite ?_ ?_
  exact State.moves_refl
  split
  exact State.moves_of execAlloc_moves (by decide) State.moves_refl
  exact State.moves_of execFree_moves (by decide) State.moves_refl
  exact State.moves_of execLoad_moves (by decide) State.moves_refl
  exact State.moves_of execRedirect_moves (by decide) State.moves_refl
  exact State.moves_of execQuery_moves (by decide) State.moves_refl
  exact State.moves_of execMigrate_moves (by decide) State.moves_refl
  exact State.moves_of execReadmit_moves (by decide) State.moves_refl
  apply State.moves_of (State.plcCmd_moves ?_ (fun _ => ?_)) (fun _ h => h) ?_
  decide
  exact State.moves_refl
  exact State.moves_of State.plcReport_moves (by decide) State.moves_refl

theorem State.seqWrite_moves {s : State} {x1} {x2} :
    s.moves (State.seqWrite s x1 x2) [.regs, .ctxs, .tiles, .xng, .mc] := by
  unfold State.seqWrite
  extract_lets +onlyGivenNames x
  clear_value x
  extract_lets +onlyGivenNames x
  clear_value x
  apply State.moves_ite ?_ ?_
  exact State.moves_refl
  split
  exact State.moves_mono execSeqLoad_moves (by decide)
  exact State.moves_mono execSeqPrep_moves (by decide)
  exact State.moves_mono execSeqStart_moves (by decide)
  exact State.moves_mono execSeqPause_moves (by decide)
  exact State.moves_mono execSeqResume_moves (by decide)
  exact State.moves_mono execSeqStop_moves (by decide)
  exact State.moves_mono execSeqRelease_moves (by decide)
  apply State.moves_of (State.seqCmd_moves ?_ (fun u => ?_)) (fun _ h => h) ?_
  decide
  exact State.moves_refl
  rw [id]
  exact State.moves_refl

theorem State.clkWrite_moves {s : State} {x1} :
    s.moves (State.clkWrite s x1) [.regs, .stores, .mem, .wav, .grp, .cap, .latch, .mc, .pw, .clk, .cal] := by
  unfold State.clkWrite
  extract_lets +onlyGivenNames x
  clear_value x
  apply State.moves_ite ?_ ?_
  exact State.moves_refl
  split
  exact State.moves_mono execRetune_moves (by decide)
  exact State.moves_mono execRelock_moves (by decide)
  exact State.moves_mono execRampStart_moves (by decide)
  exact State.moves_mono execRampStop_moves (by decide)
  apply State.moves_of (State.clkCmd_moves ?_ (fun u => ?_)) (fun _ h => h) ?_
  decide
  exact State.moves_refl
  exact State.moves_of State.clkReport_moves (by decide) State.moves_refl

theorem State.txlWrite_moves {s : State} {x1} :
    s.moves (State.txlWrite s x1) [.regs, .segs, .stores, .mem, .wav, .grp, .cap, .latch, .xng, .mon, .mc, .pw, .clk, .txl,
      .cal] := by
  unfold State.txlWrite
  extract_lets +onlyGivenNames x
  clear_value x
  apply State.moves_ite ?_ ?_
  exact State.moves_refl
  split
  exact State.moves_mono execTxlRetrain_moves (by decide)
  exact State.moves_mono execTxlDown_moves (by decide)
  exact State.moves_of State.txlReport_moves (by decide) State.moves_refl

theorem State.calWrite_moves {s : State} {x1 : Word} :
    s.moves (State.calWrite s x1) [.regs, .stores, .mem, .tiles, .wav, .grp, .cap, .latch, .mc, .pw, .cal, .mram] := by
  unfold State.calWrite
  apply State.moves_ite ?_ ?_
  exact State.moves_refl
  split
  exact State.moves_of execDacLinearity_moves (by decide) State.moves_refl
  exact State.moves_of execDacMarkerTiming_moves (by decide) State.moves_refl
  exact State.moves_of execAdcCalibration_moves (by decide) State.moves_refl
  exact State.moves_of execPinLevels_moves (by decide) State.moves_refl
  exact State.moves_of execPinDeskew_moves (by decide) State.moves_refl
  exact State.moves_of execTerxaSkew_moves (by decide) State.moves_refl
  exact State.moves_of execHbmRetrain_moves (by decide) State.moves_refl
  exact State.moves_of execCalCommit_moves (by decide) State.moves_refl
  apply State.moves_ite ?_ ?_
  exact State.moves_of State.put_moves (by decide) State.moves_refl
  exact State.moves_of State.calReport_moves (by decide) State.moves_refl

theorem State.imgWrite_moves {s : State} {x1 : Word} :
    s.moves (State.imgWrite s x1) [.regs, .pw, .mram] := by
  unfold State.imgWrite
  apply State.moves_ite ?_ ?_
  exact State.moves_refl
  split
  exact State.moves_of execImgWriteBlock_moves (by decide) State.moves_refl
  exact State.moves_of execImgCommit_moves (by decide) State.moves_refl
  apply State.moves_of (State.imgCmd_moves ?_ (fun _ => ?_)) (fun _ h => h) ?_
  decide
  exact State.moves_refl
  rw [id]
  exact State.moves_refl

theorem State.tmrWrite_moves {s : State} {x1 : Word} :
    s.moves (State.tmrWrite s x1) [.regs, .evt] := by
  unfold State.tmrWrite
  refine moves_forUpto (fun _ _ => ?_) ?_
  apply State.moves_ite ?_ ?_
  exact State.moves_of State.tmrStart_moves (by decide) State.moves_refl
  apply State.moves_ite ?_ ?_
  exact State.moves_of State.tmrStop_moves (by decide) State.moves_refl
  exact State.moves_refl
  exact State.moves_refl

theorem State.monWrite_moves {s : State} {x1 : State → ℕ → State} {x2 : ℕ} {x3 : Word} {W : List Piece} (_hV : ∀ p ∈
    ([] : List Piece), p ∈ W) (hf : ∀ (u : State) a1, u.moves (x1 u a1) W) :
    s.moves (State.monWrite s x1 x2 x3) W := by
  unfold State.monWrite
  refine moves_forUpto (fun _ _ => ?_) ?_
  apply State.moves_ite ?_ ?_
  apply State.moves_of (hf _ _) (fun _ h => h) ?_
  exact State.moves_refl
  exact State.moves_refl
  exact State.moves_refl

theorem State.hstageAddrWrite_moves {s : State} {x1} {x2} :
    s.moves (State.hstageAddrWrite s x1 x2) [.regs, .evt, .wrote] := by
  unfold State.hstageAddrWrite
  extract_lets +onlyGivenNames x
  clear_value x
  extract_lets +onlyGivenNames x
  refine (fun (hx : s.moves x [.regs, .evt, .wrote]) => ?_) ?_
  on_goal 2 => unfold x
  clear_value x
  apply State.moves_ite ?_ ?_
  exact State.moves_of State.collide_moves (by decide) (by assumption)
  assumption
  exact State.moves_of State.plainWrite_moves (by decide) State.moves_refl

theorem State.policyWrite_moves {s : State} {x1} :
    s.moves (State.policyWrite s x1) [.regs, .evt, .wrote] := by
  unfold State.policyWrite
  apply State.moves_ite ?_ ?_
  exact State.moves_refl
  exact State.moves_of State.plainWrite_moves (by decide) State.moves_refl

theorem State.glbRegWrite_moves {s : State} {x1} {x2} {x3} :
    s.moves (State.glbRegWrite s x1 x2 x3) [.timeOff, .regs, .act, .segs, .stores, .olds, .mem, .poison, .lows, .ctxs,
      .tiles, .evt, .wav, .grp, .cap, .latch, .xng, .ustore, .mon, .wrote, .monBegun, .monEnded, .mc, .pw, .clk, .txl, .cal]
      := by
  unfold State.glbRegWrite
  split
  exact State.moves_of State.profileWrite_moves (by decide) State.moves_refl
  exact State.moves_mono execGlbKeyWrite_moves (by decide)
  exact State.moves_mono execGlbUpdate_moves (by decide)
  exact State.moves_mono execMailboxRequest_moves (by decide)
  exact State.moves_mono execGlbFlagsWrite_moves (by decide)
  exact State.moves_mono execSoftReset_moves (by decide)
  exact State.moves_of State.hvWrite_moves (by decide) State.moves_refl
  exact State.moves_of State.plainWrite_moves (by decide) State.moves_refl

theorem State.nvsRegWrite_moves {s : State} {x1 : ℕ} {x2 : ℕ} {x3 : ℕ} {x4 : Word} :
    s.moves (State.nvsRegWrite s x1 x2 x3 x4) [.timeOff, .regs, .act, .segs, .stores, .olds, .mem, .poison, .lows, .ctxs, .tiles, .evt, .wav, .grp, .cap, .latch, .xng, .ustore, .mon, .wrote, .monBegun, .monEnded, .mc, .pw, .clk, .txl, .cal, .mram, .ukey] := by
  unfold State.nvsRegWrite
  split
  exact State.moves_of State.calWrite_moves (by decide) State.moves_refl
  exact State.moves_of execNvsFieldRst_moves (by decide) State.moves_refl
  exact State.moves_of execTileReset_moves (by decide) State.moves_refl
  exact State.moves_of execUkeyHashWrite_moves (by decide) State.moves_refl
  exact State.moves_of execUkeyOpen_moves (by decide) State.moves_refl
  exact State.moves_of execNvWriteEnable_moves (by decide) State.moves_refl
  exact State.moves_of State.imgWrite_moves (by decide) State.moves_refl
  exact State.moves_of State.plainWrite_moves (by decide) State.moves_refl

theorem State.coreRegWrite_moves {s : State} {x1} {x2} {x3} :
    s.moves (State.coreRegWrite s x1 x2 x3) [.regs, .segs, .stores, .mem, .poison, .nextSid, .tiles, .evt, .wav, .grp, .cap,
      .latch, .xng, .mon, .wrote, .monBegun, .monEnded, .mc, .pw, .clk, .txl, .cal] := by
  unfold State.coreRegWrite
  split
  exact State.moves_of State.clkWrite_moves (by decide) State.moves_refl
  exact State.moves_of State.plcWrite_moves (by decide) State.moves_refl
  exact State.moves_mono execEvtHostRaise_moves (by decide)
  exact State.moves_of State.tmrWrite_moves (by decide) State.moves_refl
  exact State.moves_mono execTxlIdWrite_moves (by decide)
  exact State.moves_of State.txlWrite_moves (by decide) State.moves_refl
  apply State.moves_of (State.monWrite_moves ?_ (fun u _ => ?_)) (fun _ h => h) ?_
  decide
  exact State.moves_refl
  exact State.moves_of State.monStart_moves (by decide) State.moves_refl
  apply State.moves_of (State.monWrite_moves ?_ (fun u _ => ?_)) (fun _ h => h) ?_
  decide
  exact State.moves_refl
  exact State.moves_of State.monStart_moves (by decide) State.moves_refl
  apply State.moves_of (State.monWrite_moves ?_ (fun u _ => ?_)) (fun _ h => h) ?_
  decide
  exact State.moves_refl
  exact State.moves_of State.monStop_moves (by decide) State.moves_refl
  apply State.moves_of (State.monWrite_moves ?_ (fun u _ => ?_)) (fun _ h => h) ?_
  decide
  exact State.moves_refl
  exact State.moves_of State.monStop_moves (by decide) State.moves_refl
  apply State.moves_of (State.monWrite_moves ?_ (fun u _ => ?_)) (fun _ h => h) ?_
  decide
  exact State.moves_refl
  exact State.moves_of State.monSnap_moves (by decide) State.moves_refl
  apply State.moves_of (State.monWrite_moves ?_ (fun u _ => ?_)) (fun _ h => h) ?_
  decide
  exact State.moves_refl
  exact State.moves_of State.monSnap_moves (by decide) State.moves_refl
  exact State.moves_of State.plainWrite_moves (by decide) State.moves_refl

theorem State.pathRegWrite_moves {s : State} {x1} {x2} {x3} {x4} :
    s.moves (State.pathRegWrite s x1 x2 x3 x4) [.regs, .stores, .mem, .ctxs, .tiles, .evt, .wav, .grp, .cap, .latch, .xng,
      .wrote, .mc, .cal] := by
  unfold State.pathRegWrite
  split
  exact State.moves_of State.seqWrite_moves (by decide) State.moves_refl
  exact State.moves_mono execMcUload_moves (by decide)
  exact State.moves_of State.safeWrite_moves (by decide) State.moves_refl
  exact State.moves_of State.capCtrlWrite_moves (by decide) State.moves_refl
  exact State.moves_of State.recCtrlWrite_moves (by decide) State.moves_refl
  exact State.moves_mono execFirBankWrite_moves (by decide)
  exact State.moves_mono execFirBankWrite_moves (by decide)
  exact State.moves_mono execFirSwap_moves (by decide)
  exact State.moves_of State.safeWrite_moves (by decide) State.moves_refl
  exact State.moves_of State.safeWrite_moves (by decide) State.moves_refl
  exact State.moves_of State.hstageAddrWrite_moves (by decide) State.moves_refl
  exact State.moves_mono execTsHstageD2Write_moves (by decide)
  exact State.moves_mono execTsHcommit_moves (by decide)
  exact State.moves_of State.recCtrlWrite_moves (by decide) State.moves_refl
  exact State.moves_of State.plainWrite_moves (by decide) State.moves_refl

theorem State.tableWrite_moves {s : State} {x1} {x2} :
    s.moves (State.tableWrite s x1 x2) [.regs, .lows, .evt, .grp, .cap, .wrote] := by
  unfold State.tableWrite
  apply State.moves_ite ?_ ?_
  exact State.moves_mono execContextTableWrite_moves (by decide)
  apply State.moves_ite ?_ ?_
  exact State.moves_mono execSlipwayTableWrite_moves (by decide)
  apply State.moves_ite ?_ ?_
  exact State.moves_mono execCbufTrig_moves (by decide)
  apply State.moves_ite ?_ ?_
  extract_lets +onlyGivenNames x
  clear_value x
  exact State.moves_mono execFirBankWrite_moves (by decide)
  apply State.moves_ite ?_ ?_
  exact State.moves_refl
  exact State.moves_of State.plainWrite_moves (by decide) State.moves_refl

theorem State.fieldWrite32_moves {s : State} {x1} {x2} :
    s.moves (State.fieldWrite32 s x1 x2) [.timeOff, .regs, .act, .segs, .stores, .olds, .mem, .poison, .nextSid, .lows,
      .ctxs, .tiles, .evt, .wav, .grp, .cap, .latch, .xng, .ustore, .mon, .wrote, .monBegun, .monEnded, .mc, .pw, .clk, .txl,
      .cal, .mram, .ukey] := by
  unfold State.fieldWrite32
  apply State.moves_ite ?_ ?_
  exact State.moves_refl
  apply State.moves_ite ?_ ?_
  apply State.moves_ite ?_ ?_
  exact State.moves_of State.tableWrite_moves (by decide) State.moves_refl
  exact State.moves_of State.unmapped_moves (by decide) State.moves_refl
  split
  exact State.moves_of State.unmapped_moves (by decide) State.moves_refl
  apply State.moves_ite ?_ ?_
  exact State.moves_of State.glbRegWrite_moves (by decide) State.moves_refl
  apply State.moves_ite ?_ ?_
  exact State.moves_of State.policyWrite_moves (by decide) State.moves_refl
  apply State.moves_ite ?_ ?_
  exact State.moves_of State.fstatusWrite_moves (by decide) State.moves_refl
  apply State.moves_ite ?_ ?_
  exact State.moves_of State.nvsRegWrite_moves (by decide) State.moves_refl
  apply State.moves_ite ?_ ?_
  exact State.moves_of State.coreRegWrite_moves (by decide) State.moves_refl
  exact State.moves_of State.pathRegWrite_moves (by decide) State.moves_refl

theorem State.hostWrite32_moves {s : State} {x1} {x2} :
    s.moves (State.hostWrite32 s x1 x2) [.timeOff, .regs, .act, .segs, .stores, .olds, .mem, .poison, .lows, .ctxs, .tiles,
      .evt, .wav, .grp, .cap, .latch, .xng, .ustore, .mon, .wrote, .monBegun, .monEnded, .mc, .pw, .clk, .txl, .cal] := by
  unfold State.hostWrite32
  split
  apply State.moves_of (State.hostErr_moves ?_ (fun u => ?_)) (fun _ h => h) ?_
  decide
  exact State.moves_refl
  exact State.moves_of State.unmapped_moves (by decide) State.moves_refl
  split
  exact State.moves_mono execXngWdog_moves (by decide)
  exact State.moves_mono execXngKick_moves (by decide)
  exact State.moves_mono execXngRaise_moves (by decide)
  exact State.moves_of State.xngPwrWrite_moves (by decide) State.moves_refl
  exact State.moves_of State.popWrite_moves (by decide) State.moves_refl
  exact State.moves_mono execXngRingTail_moves (by decide)
  exact State.moves_of State.plainWrite_moves (by decide) State.moves_refl

theorem State.applyWrite_moves {s : State} {x1} {x2} {x3} {x4} {x5} {W : List Piece} (hV : ∀ p ∈ ([] : List Piece), p ∈ W)
  (hf_x1 : ∀ (u : State) a1 a2, u.moves (x1 u a1 a2) W) (hf_x2 : ∀ (u : State), u.moves (x2 u) W) :
    s.moves (State.applyWrite s x1 x2 x3 x4 x5) W := by
  unfold State.applyWrite
  apply State.moves_ite ?_ ?_
  apply State.moves_of (hf_x2 _) (fun _ h => h) ?_
  exact State.moves_refl
  apply State.moves_ite ?_ ?_
  apply State.moves_of (hf_x1 _ _ _) (fun _ h => h) ?_
  exact State.moves_refl
  apply State.moves_ite ?_ ?_
  apply State.moves_of (hf_x1 _ _ _) (fun _ h => h) ?_
  apply State.moves_of (hf_x1 _ _ _) (fun _ h => h) ?_
  exact State.moves_refl
  apply State.moves_of (hf_x2 _) (fun _ h => h) ?_
  exact State.moves_refl

theorem State.doAccess_moves {s : State} {x1} :
    s.moves (State.doAccess s x1) [.timeOff, .regs, .act, .segs, .stores, .olds, .mem, .poison, .nextSid, .lows, .ctxs,
      .tiles, .evt, .wav, .grp, .cap, .latch, .xng, .ustore, .mon, .wrote, .monBegun, .monEnded, .mc, .pw, .clk, .txl, .cal,
      .mram, .ukey] := by
  unfold State.doAccess
  split
  apply State.moves_ite ?_ ?_
  apply State.moves_of (State.applyWrite_moves ?_ (fun u _ _ => ?_) (fun u => ?_)) (fun _ h => h) ?_
  decide
  exact State.moves_refl
  exact State.moves_of State.hostWrite32_moves (by decide) State.moves_refl
  apply State.moves_of (State.hostErr_moves ?_ (fun u => ?_)) (fun _ h => h) ?_
  decide
  exact State.moves_refl
  exact State.moves_of State.accSize_moves (by decide) State.moves_refl
  apply State.moves_of (State.applyWrite_moves ?_ (fun u _ _ => ?_) (fun u => ?_)) (fun _ h => h) ?_
  decide
  exact State.moves_refl
  exact State.moves_of State.fieldWrite32_moves (by decide) State.moves_refl
  exact State.moves_of State.accSize_moves (by decide) State.moves_refl
  extract_lets +onlyGivenNames x
  clear_value x
  extract_lets +onlyGivenNames x
  refine (fun (hx : s.moves x [.timeOff, .regs, .act, .segs, .stores, .olds, .mem, .poison, .nextSid, .lows, .ctxs, .tiles,
    .evt, .wav, .grp, .cap, .latch, .xng, .ustore, .mon, .wrote, .monBegun, .monEnded, .mc, .pw, .clk, .txl, .cal, .mram,
    .ukey]) => ?_) ?_
  on_goal 2 => unfold x
  clear_value x
  apply State.moves_ite ?_ ?_
  with_reducible apply State.moves_mk
  on_goal 2 => exact fun p hp => by cases p <;> first | rfl | exact absurd (by decide) hp
  on_goal 2 => exact id
  assumption
  assumption
  with_reducible apply State.moves_mk
  on_goal 2 => exact fun p hp => by cases p <;> first | rfl | exact absurd (by decide) hp
  on_goal 2 => exact id
  exact State.moves_refl

theorem State.hostAccess_moves {s : State} {x1} :
    s.moves (State.hostAccess s x1) [.timeOff, .regs, .act, .segs, .stores, .olds, .mem, .poison, .nextSid, .lows, .ctxs,
      .tiles, .evt, .wav, .grp, .cap, .latch, .xng, .ustore, .mon, .wrote, .monBegun, .monEnded, .mc, .pw, .clk, .txl, .cal,
      .mram, .ukey] := by
  unfold State.hostAccess
  apply State.moves_ite ?_ ?_
  exact State.moves_refl
  apply State.moves_ite ?_ ?_
  exact State.moves_of State.doAccess_moves (by decide) State.moves_refl
  split
  with_reducible apply State.moves_mk
  on_goal 2 => exact fun p hp => by cases p <;> first | rfl | exact absurd (by decide) hp
  on_goal 2 => exact id
  exact State.moves_refl
  apply State.moves_ite ?_ ?_
  exact State.moves_of State.absentAccess_moves (by decide) State.moves_refl
  apply State.moves_ite ?_ ?_
  exact State.moves_of State.doAccess_moves (by decide) State.moves_refl
  with_reducible apply State.moves_mk
  on_goal 2 => exact fun p hp => by cases p <;> first | rfl | exact absurd (by decide) hp
  on_goal 2 => exact id
  exact State.moves_refl

theorem State.accessTick_moves {s : State} :
    s.moves (State.accessTick s) [.timeOff, .regs, .act, .segs, .stores, .olds, .mem, .poison, .nextSid, .lows, .ctxs,
      .tiles, .evt, .wav, .grp, .cap, .latch, .xng, .ustore, .mon, .wrote, .monBegun, .monEnded, .mc, .pw, .clk, .txl, .cal,
      .mram, .ukey] := by
  unfold State.accessTick
  split
  exact State.moves_refl
  apply State.moves_ite ?_ ?_
  refine State.moves_of State.doAccess_moves (by decide) ?_
  with_reducible apply State.moves_mk
  on_goal 2 => exact fun p hp => by cases p <;> first | rfl | exact absurd (by decide) hp
  on_goal 2 => exact id
  exact State.moves_refl
  exact State.moves_refl

theorem execRegisterWrite_moves {s : State} {x0} {x1} {x2} :
    s.moves (nextOr s (execRegisterWrite x0 x1 x2 s)) [.timeOff, .regs, .act, .segs, .stores, .olds, .mem, .poison, .nextSid,
      .lows, .ctxs, .tiles, .evt, .wav, .grp, .cap, .latch, .xng, .ustore, .mon, .wrote, .monBegun, .monEnded, .mc, .pw,
      .clk, .txl, .cal, .mram, .ukey] := by
  unfold execRegisterWrite
  rw [nextOr_next]
  exact State.moves_of State.hostAccess_moves (by decide) State.moves_refl

theorem execRegisterReadMessage_moves {s : State} {x0} {x1} :
    s.moves (nextOr s (execRegisterReadMessage x0 x1 s)) [.timeOff, .regs, .act, .segs, .stores, .olds, .mem, .poison,
      .nextSid, .lows, .ctxs, .tiles, .evt, .wav, .grp, .cap, .latch, .xng, .ustore, .mon, .wrote, .monBegun, .monEnded, .mc,
      .pw, .clk, .txl, .cal, .mram, .ukey] := by
  unfold execRegisterReadMessage
  rw [nextOr_next]
  exact State.moves_of State.hostAccess_moves (by decide) State.moves_refl

theorem State.bootStop_moves {s : State} {x1 : ℕ} {x2 : ℕ} :
    s.moves (State.bootStop s x1 x2) [.regs] := by
  unfold State.bootStop
  refine State.moves_of State.put_moves (by decide) ?_
  refine State.moves_of State.put_moves (by decide) ?_
  exact State.moves_of State.put_moves (by decide) State.moves_refl

theorem State.unlessStopped_moves {s : State} {x1 : State → State} {W : List Piece} (_hV : ∀ p ∈ ([] : List Piece), p
    ∈ W) (hf : ∀ (u : State), u.moves (x1 u) W) :
    s.moves (State.unlessStopped s x1) W := by
  unfold State.unlessStopped
  apply State.moves_ite ?_ ?_
  exact State.moves_refl
  apply State.moves_of (hf _) (fun _ h => h) ?_
  exact State.moves_refl

theorem State.keyed_moves {s : State} {x1 : State → State} {W : List Piece} (hV : ∀ p ∈ ([.regs] : List Piece), p ∈
    W) (hf : ∀ (u : State), u.moves (x1 u) W) :
    s.moves (State.keyed s x1) W := by
  unfold State.keyed
  apply State.moves_of State.put_moves ?_ ?_
  assumption
  apply State.moves_of (hf _) (fun _ h => h) ?_
  apply State.moves_of State.put_moves ?_ ?_
  assumption
  exact State.moves_refl

theorem State.s0Write_moves {s : State} {x1} {x2} :
    s.moves (State.s0Write s x1 x2) [.timeOff, .regs, .act, .segs, .stores, .olds, .mem, .poison, .nextSid, .lows, .ctxs,
      .tiles, .evt, .wav, .grp, .cap, .latch, .xng, .ustore, .mon, .wrote, .monBegun, .monEnded, .mc, .pw, .clk, .txl, .cal,
      .mram, .ukey] := by
  unfold State.s0Write
  apply State.moves_ite ?_ ?_
  exact State.moves_of State.unmapped_moves (by decide) State.moves_refl
  apply State.moves_of (State.keyed_moves ?_ (fun u => ?_)) (fun _ h => h) ?_
  decide
  exact State.moves_refl
  exact State.moves_of State.fieldWrite32_moves (by decide) State.moves_refl

theorem State.s0Try_moves1 {s : State} {x1} {x2} :
    s.moves (State.s0Try s x1 x2).1 [.timeOff, .regs, .act, .segs, .stores, .olds, .mem, .poison, .nextSid, .lows, .ctxs,
      .tiles, .evt, .wav, .grp, .cap, .latch, .xng, .ustore, .mon, .wrote, .monBegun, .monEnded, .mc, .pw, .clk, .txl, .cal,
      .mram, .ukey] := by
  unfold State.s0Try
  split
  dsimp -zeta only
  exact State.moves_of State.s0Write_moves (by decide) State.moves_refl
  dsimp -zeta only
  exact State.moves_of State.s0Write_moves (by decide) State.moves_refl

theorem State.s0Try_moves {s : State} {x1} {x2} {u : State} {y0} (h : State.s0Try s x1 x2 = (u, y0)) :
    s.moves u [.timeOff, .regs, .act, .segs, .stores, .olds, .mem, .poison, .nextSid, .lows, .ctxs, .tiles, .evt, .wav, .grp, .cap, .latch, .xng, .ustore, .mon, .wrote, .monBegun, .monEnded, .mc, .pw, .clk, .txl, .cal, .mram, .ukey] := by
  have e : (State.s0Try s x1 x2).1 = u := by rw [h]
  rw [← e]; exact State.s0Try_moves1

theorem State.chooseBank_moves {s : State} :
    s.moves (State.chooseBank s) [.regs] := by
  unfold State.chooseBank
  refine State.moves_of State.put_moves (by decide) ?_
  split
  refine State.moves_of State.bootAt_moves (by decide) ?_
  refine State.moves_of State.put_moves (by decide) ?_
  exact State.moves_of State.put_moves (by decide) State.moves_refl
  refine State.moves_of State.bootStop_moves (by decide) ?_
  exact State.moves_of State.put_moves (by decide) State.moves_refl

theorem State.loadVendor_moves {s : State} {x1 : ℕ} :
    s.moves (State.loadVendor s x1) [.regs, .ustore] := by
  unfold State.loadVendor
  refine State.moves_of State.put_moves (by decide) ?_
  refine moves_forUpto (fun _ _ => ?_) ?_
  refine State.moves_of State.put_moves (by decide) ?_
  exact State.moves_of State.put_moves (by decide) State.moves_refl
  refine moves_forUpto (fun _ _ => ?_) ?_
  exact State.moves_of State.putUword_moves (by decide) State.moves_refl
  exact State.moves_refl

theorem State.loadUser_moves {s : State} {x1 : List (BitVec 8)} {x2 : ℕ} :
    s.moves (State.loadUser s x1 x2) [.regs, .ustore] := by
  unfold State.loadUser
  split
  exact State.moves_of State.put_moves (by decide) State.moves_refl
  refine State.moves_of State.put_moves (by decide) ?_
  exact State.moves_of State.putBlock_moves (by decide) State.moves_refl

theorem State.loadUserAll_moves {s : State} {x1 : List (BitVec 8)} :
    s.moves (State.loadUserAll s x1) [.regs, .ustore] := by
  unfold State.loadUserAll
  refine moves_forUpto (fun _ _ => ?_) ?_
  exact State.moves_of State.loadUser_moves (by decide) State.moves_refl
  exact State.moves_refl

theorem State.loadUserSection_moves {s : State} :
    s.moves (State.loadUserSection s) [.regs, .ustore] := by
  unfold State.loadUserSection
  split
  exact State.moves_refl
  split
  apply State.moves_ite ?_ ?_
  exact State.moves_of State.bootStop_moves (by decide) State.moves_refl
  exact State.moves_of State.loadUserAll_moves (by decide) State.moves_refl
  exact State.moves_of State.loadUserAll_moves (by decide) State.moves_refl

theorem State.loadMicrocode_moves {s : State} :
    s.moves (State.loadMicrocode s) [.regs, .ustore] := by
  unfold State.loadMicrocode
  refine State.moves_of State.loadUserSection_moves (by decide) ?_
  refine moves_forUpto (fun _ _ => ?_) ?_
  exact State.moves_of State.loadVendor_moves (by decide) State.moves_refl
  exact State.moves_refl

theorem State.loadManifest_moves {s : State} :
    s.moves (State.loadManifest s) [.regs] := by
  unfold State.loadManifest
  refine State.moves_of State.put_moves (by decide) ?_
  refine State.moves_of State.put_moves (by decide) ?_
  refine State.moves_of State.put_moves (by decide) ?_
  exact State.moves_of State.put_moves (by decide) State.moves_refl

theorem State.applyWrites_moves {s : State} {x1} {x2} {x3} {x4} :
    s.moves (State.applyWrites s x1 x2 x3 x4) [.timeOff, .regs, .act, .segs, .stores, .olds, .mem, .poison, .nextSid, .lows,
      .ctxs, .tiles, .evt, .wav, .grp, .cap, .latch, .xng, .ustore, .mon, .wrote, .monBegun, .monEnded, .mc, .pw, .clk, .txl,
      .cal, .mram, .ukey] := by
  fun_induction State.applyWrites s x1 x2 x3 x4
  exact State.moves_refl
  refine State.moves_of State.bootStop_moves (by decide) ?_
  exact State.moves_of (State.s0Try_moves ‹_›) (by decide) State.moves_refl
  refine State.moves_of (V := [.timeOff, .regs, .act, .segs, .stores, .olds, .mem, .poison, .nextSid, .lows, .ctxs, .tiles,
    .evt, .wav, .grp, .cap, .latch, .xng, .ustore, .mon, .wrote, .monBegun, .monEnded, .mc, .pw, .clk, .txl, .cal, .mram,
    .ukey]) (by assumption) (fun _ h => h) ?_
  exact State.moves_of (State.s0Try_moves ‹_›) (by decide) State.moves_refl

theorem State.eachSection_moves {s : State} {x1 : ℕ} {x2 : State → List (BitVec 8) → State} {W : List Piece} (hV : ∀
    p ∈ ([] : List Piece), p ∈ W) (hf : ∀ (u : State) a1, u.moves (x2 u a1) W) :
    s.moves (State.eachSection s x1 x2) W := by
  unfold State.eachSection
  refine moves_forEach (fun _ _ => ?_) ?_
  apply State.moves_ite ?_ ?_
  apply State.moves_of (State.unlessStopped_moves ?_ (fun _ => ?_)) (fun _ h => h) ?_
  assumption
  exact State.moves_refl
  apply State.moves_of (hf _ _) (fun _ h => h) ?_
  exact State.moves_refl
  exact State.moves_refl
  exact State.moves_refl

theorem State.writeSection_moves {s : State} {x1} {x2} :
    s.moves (State.writeSection s x1 x2) [.timeOff, .regs, .act, .segs, .stores, .olds, .mem, .poison, .nextSid, .lows,
      .ctxs, .tiles, .evt, .wav, .grp, .cap, .latch, .xng, .ustore, .mon, .wrote, .monBegun, .monEnded, .mc, .pw, .clk, .txl,
      .cal, .mram, .ukey] := by
  unfold State.writeSection
  exact State.moves_of State.applyWrites_moves (by decide) State.moves_refl

theorem State.transferAll_moves {s : State} :
    s.moves (State.transferAll s) [.regs, .act, .segs, .stores, .mem, .evt, .wav, .grp, .cap, .latch, .xng, .mon, .mc, .pw,
      .clk, .txl, .cal] := by
  unfold State.transferAll
  refine moves_forUpto (fun u _ => ?_) ?_
  exact State.moves_of State.transferGroup_moves (by decide) State.moves_refl
  exact State.moves_refl

theorem State.clockPlan_moves {s : State} :
    s.moves (State.clockPlan s) [.timeOff, .regs, .act, .segs, .stores, .olds, .mem, .poison, .nextSid, .lows, .ctxs, .tiles,
      .evt, .wav, .grp, .cap, .latch, .xng, .ustore, .mon, .wrote, .monBegun, .monEnded, .mc, .pw, .clk, .txl, .cal, .mram,
      .ukey] := by
  unfold State.clockPlan
  extract_lets +onlyGivenNames x
  refine (fun (hx : s.moves x [.timeOff, .regs, .act, .segs, .stores, .olds, .mem, .poison, .nextSid, .lows, .ctxs, .tiles,
    .evt, .wav, .grp, .cap, .latch, .xng, .ustore, .mon, .wrote, .monBegun, .monEnded, .mc, .pw, .clk, .txl, .cal, .mram,
    .ukey]) => ?_) ?_
  on_goal 2 => unfold x
  clear_value x
  extract_lets +onlyGivenNames x
  refine (fun (hx : s.moves x [.timeOff, .regs, .act, .segs, .stores, .olds, .mem, .poison, .nextSid, .lows, .ctxs, .tiles,
    .evt, .wav, .grp, .cap, .latch, .xng, .ustore, .mon, .wrote, .monBegun, .monEnded, .mc, .pw, .clk, .txl, .cal, .mram,
    .ukey]) => ?_) ?_
  on_goal 2 => unfold x
  clear_value x
  extract_lets +onlyGivenNames x
  clear_value x
  apply State.moves_ite ?_ ?_
  refine State.moves_of State.search_moves (by decide) ?_
  exact State.moves_of State.put64_moves (by decide) (by assumption)
  assumption
  refine State.moves_of State.transferGroup_moves (by decide) ?_
  with_reducible apply State.moves_mk
  on_goal 2 => exact fun p hp => by cases p <;> first | rfl | exact absurd (by decide) hp
  on_goal 2 => exact id
  assumption
  apply State.moves_of (State.eachSection_moves ?_ (fun u _ => ?_)) (fun _ h => h) ?_
  decide
  exact State.moves_refl
  exact State.moves_of State.writeSection_moves (by decide) State.moves_refl

theorem State.clockReady_moves {s : State} :
    s.moves (State.clockReady s) [.free, .regs, .act, .stores, .mem, .wav, .grp, .cap, .latch, .mc, .pw, .clk, .cal] := by
  unfold State.clockReady
  apply State.moves_ite ?_ ?_
  exact State.moves_refl
  extract_lets +onlyGivenNames x
  refine (fun (hx : s.moves x [.free, .regs, .act, .stores, .mem, .wav, .grp, .cap, .latch, .mc, .pw, .clk, .cal]) => ?_) ?_
  on_goal 2 => unfold x
  clear_value x
  apply State.moves_ite ?_ ?_
  assumption
  exact State.moves_of State.changeRef_moves (by decide) (by assumption)
  refine State.moves_of State.putActive_moves (by decide) ?_
  exact State.moves_of State.put_moves (by decide) State.moves_refl

theorem State.bootRetire_moves {s : State} {x1} {x2} :
    s.moves (State.bootRetire s x1 x2) [.regs, .mc] := by
  unfold State.bootRetire
  refine State.moves_of State.put_moves (by decide) ?_
  exact State.moves_of State.rankRetired_moves (by decide) State.moves_refl

theorem State.bootLoseChan_moves {s : State} {x1} :
    s.moves (State.bootLoseChan s x1) [.regs, .mc] := by
  unfold State.bootLoseChan
  refine moves_forEach (fun u _ => ?_) ?_
  extract_lets +onlyGivenNames x
  refine (fun (hx : u.moves x [.regs, .mc]) => ?_) ?_
  on_goal 2 => unfold x
  clear_value x
  with_reducible apply State.moves_mk
  on_goal 2 => exact fun p hp => by cases p <;> first | rfl | exact absurd (by decide) hp
  on_goal 2 => exact id
  assumption
  exact State.moves_of State.bootRetire_moves (by decide) State.moves_refl
  exact State.moves_of State.put_moves (by decide) State.moves_refl

theorem State.bootTrain_moves {s : State} {x1 : BitVec 32} {x2 : List ℕ} :
    s.moves (State.bootTrain s x1 x2) [.free, .regs, .mc] := by
  unfold State.bootTrain
  apply State.moves_ite ?_ ?_
  refine State.moves_of State.bootStop_moves (by decide) ?_
  refine State.moves_of State.put_moves (by decide) ?_
  refine moves_forEach (fun _ _ => ?_) ?_
  exact State.moves_of State.bootRetire_moves (by decide) State.moves_refl
  refine moves_forEach (fun _ _ => ?_) ?_
  exact State.moves_of State.bootLoseChan_moves (by decide) State.moves_refl
  refine moves_forUpto (fun _ _ => ?_) ?_
  exact State.moves_of State.trained_moves (by decide) State.moves_refl
  exact State.moves_refl
  refine State.moves_of State.bootAt_moves (by decide) ?_
  refine State.moves_of State.put_moves (by decide) ?_
  refine moves_forEach (fun _ _ => ?_) ?_
  exact State.moves_of State.bootRetire_moves (by decide) State.moves_refl
  refine moves_forEach (fun _ _ => ?_) ?_
  exact State.moves_of State.bootLoseChan_moves (by decide) State.moves_refl
  refine moves_forUpto (fun _ _ => ?_) ?_
  exact State.moves_of State.trained_moves (by decide) State.moves_refl
  exact State.moves_refl

theorem State.bootCal_moves {s : State} :
    s.moves (State.bootCal s) [.regs, .stores, .mem, .wav, .grp, .cap, .latch, .mc, .cal] := by
  unfold State.bootCal
  apply State.moves_ite ?_ ?_
  exact State.moves_of State.calStart_moves (by decide) State.moves_refl
  exact State.moves_refl

theorem State.eachRecord_moves {s : State} {x1 : ℕ} {x2 : ℕ} {x3 : List (BitVec 8) → Bool} {x4 : State → List (BitVec
    8) → State} {x5 : List (BitVec 8)} {W : List Piece} (hV : ∀ p ∈ ([.regs] : List Piece), p ∈ W) (hf : ∀ (u : State)
    a1, u.moves (x4 u a1) W) :
    s.moves (State.eachRecord s x1 x2 x3 x4 x5) W := by
  unfold State.eachRecord
  split
  apply State.moves_of State.bootStop_moves ?_ ?_
  assumption
  exact State.moves_refl
  apply State.moves_ite ?_ ?_
  apply State.moves_of State.bootStop_moves ?_ ?_
  assumption
  exact State.moves_refl
  refine moves_forEach (fun _ _ => ?_) ?_
  apply State.moves_of (State.unlessStopped_moves ?_ (fun _ => ?_)) (fun _ h => h) ?_
  exact (fun p hp => hV p ((by decide : ∀ p ∈ _, p ∈ ([.regs] : List Piece)) p hp))
  exact State.moves_refl
  apply State.moves_of (hf _ _) (fun _ h => h) ?_
  exact State.moves_refl
  exact State.moves_refl

theorem State.loadTiming_moves {s : State} {x1 : List (BitVec 8)} :
    s.moves (State.loadTiming s x1) [.regs, .grp] := by
  unfold State.loadTiming
  apply State.moves_ite ?_ ?_
  exact State.moves_of State.commitSet_moves (by decide) State.moves_refl
  exact State.moves_of State.bootStop_moves (by decide) State.moves_refl

theorem State.loadCoef_moves {s : State} {x1 : List (BitVec 8)} :
    s.moves (State.loadCoef s x1) [.regs, .cap] := by
  unfold State.loadCoef
  apply State.moves_ite ?_ ?_
  refine State.moves_of State.put_moves (by decide) ?_
  refine State.moves_of State.put_moves (by decide) ?_
  exact State.moves_of State.setCapture_moves (by decide) State.moves_refl
  refine State.moves_of State.put_moves (by decide) ?_
  refine State.moves_of State.put_moves (by decide) ?_
  exact State.moves_of State.setCapture_moves (by decide) State.moves_refl

theorem State.loadMap_moves {s : State} {x1 : List (BitVec 8)} :
    s.moves (State.loadMap s x1) [.regs, .mc] := by
  unfold State.loadMap
  apply State.moves_ite ?_ ?_
  extract_lets +onlyGivenNames x
  clear_value x
  with_reducible apply State.moves_mk
  on_goal 2 => exact fun p hp => by cases p <;> first | rfl | exact absurd (by decide) hp
  on_goal 2 => exact id
  exact State.moves_refl
  exact State.moves_of State.bootStop_moves (by decide) State.moves_refl

theorem State.loadHint_moves {s : State} {x1 : List (BitVec 8)} :
    s.moves (State.loadHint s x1) [.mc] := by
  unfold State.loadHint
  extract_lets +onlyGivenNames x
  clear_value x
  extract_lets +onlyGivenNames x
  clear_value x
  with_reducible apply State.moves_mk
  on_goal 2 => exact fun p hp => by cases p <;> first | rfl | exact absurd (by decide) hp
  on_goal 2 => exact id
  exact State.moves_refl

theorem State.makeSpares_moves {s : State} {x1 : ℕ} {x2 : List ℕ} :
    s.moves (State.makeSpares s x1 x2) [.regs] := by
  fun_induction State.makeSpares s x1 x2
  exact State.moves_refl
  exact State.moves_refl
  refine State.moves_of (V := [.regs]) (by assumption) (fun _ h => h) ?_
  exact State.moves_of State.put_moves (by decide) State.moves_refl
  assumption

theorem State.loadSegment_moves {s : State} {x1} :
    s.moves (State.loadSegment s x1) [.regs, .segs, .stores, .mem, .poison, .nextSid, .mc] := by
  unfold State.loadSegment
  apply State.moves_ite ?_ ?_
  exact State.moves_of State.bootStop_moves (by decide) State.moves_refl
  extract_lets +onlyGivenNames x
  clear_value x
  split
  exact State.moves_of State.bootStop_moves (by decide) State.moves_refl
  split
  exact State.moves_of (State.allocate_moves ‹_›) (by decide) State.moves_refl
  extract_lets +onlyGivenNames x
  clear_value x
  split
  exact State.moves_of (State.allocate_moves ‹_›) (by decide) State.moves_refl
  refine State.moves_of State.ringWrite_moves (by decide) ?_
  exact State.moves_of (State.allocate_moves ‹_›) (by decide) State.moves_refl
  refine State.moves_of State.setSeg_moves (by decide) ?_
  refine State.moves_of State.writeWords_moves (by decide) ?_
  exact State.moves_of (State.allocate_moves ‹_›) (by decide) State.moves_refl

theorem State.bootProfile_moves {s : State} {x1 : ℕ} :
    s.moves (State.bootProfile s x1) [.regs] := by
  unfold State.bootProfile
  refine State.moves_of State.put_moves (by decide) ?_
  exact State.moves_of State.put_moves (by decide) State.moves_refl

theorem State.bootAsh_moves {s : State} :
    s.moves (State.bootAsh s) [.regs, .stores, .mem, .wav, .grp, .cap, .latch, .mc, .clk] := by
  unfold State.bootAsh
  refine State.moves_of State.regate_moves (by decide) ?_
  refine State.moves_of State.powerSafe_moves (by decide) ?_
  refine State.moves_of State.selfRefresh_moves (by decide) ?_
  exact State.moves_of State.bootProfile_moves (by decide) State.moves_refl

theorem State.bootSetup_moves {s : State} :
    s.moves (State.bootSetup s) [.timeOff, .regs, .act, .segs, .stores, .olds, .mem, .poison, .nextSid, .lows, .ctxs, .tiles,
      .evt, .wav, .grp, .cap, .latch, .xng, .ustore, .mon, .wrote, .monBegun, .monEnded, .mc, .pw, .clk, .txl, .cal, .mram,
      .ukey] := by
  unfold State.bootSetup
  extract_lets +onlyGivenNames x
  clear_value x
  extract_lets +onlyGivenNames x
  clear_value x
  extract_lets +onlyGivenNames x
  refine (fun (hx : s.moves x [.timeOff, .regs, .act, .segs, .stores, .olds, .mem, .poison, .nextSid, .lows, .ctxs, .tiles,
    .evt, .wav, .grp, .cap, .latch, .xng, .ustore, .mon, .wrote, .monBegun, .monEnded, .mc, .pw, .clk, .txl, .cal, .mram,
    .ukey]) => ?_) ?_
  on_goal 2 => unfold x
  clear_value x
  extract_lets +onlyGivenNames x
  refine (fun (hx : s.moves x [.timeOff, .regs, .act, .segs, .stores, .olds, .mem, .poison, .nextSid, .lows, .ctxs, .tiles,
    .evt, .wav, .grp, .cap, .latch, .xng, .ustore, .mon, .wrote, .monBegun, .monEnded, .mc, .pw, .clk, .txl, .cal, .mram,
    .ukey]) => ?_) ?_
  on_goal 2 => unfold x
  clear_value x
  extract_lets +onlyGivenNames x
  refine (fun (hx : s.moves x [.timeOff, .regs, .act, .segs, .stores, .olds, .mem, .poison, .nextSid, .lows, .ctxs, .tiles,
    .evt, .wav, .grp, .cap, .latch, .xng, .ustore, .mon, .wrote, .monBegun, .monEnded, .mc, .pw, .clk, .txl, .cal, .mram,
    .ukey]) => ?_) ?_
  on_goal 2 => unfold x
  clear_value x
  extract_lets +onlyGivenNames x
  refine (fun (hx : s.moves x [.timeOff, .regs, .act, .segs, .stores, .olds, .mem, .poison, .nextSid, .lows, .ctxs, .tiles,
    .evt, .wav, .grp, .cap, .latch, .xng, .ustore, .mon, .wrote, .monBegun, .monEnded, .mc, .pw, .clk, .txl, .cal, .mram,
    .ukey]) => ?_) ?_
  on_goal 2 => unfold x
  clear_value x
  extract_lets +onlyGivenNames x
  refine (fun (hx : s.moves x [.timeOff, .regs, .act, .segs, .stores, .olds, .mem, .poison, .nextSid, .lows, .ctxs, .tiles,
    .evt, .wav, .grp, .cap, .latch, .xng, .ustore, .mon, .wrote, .monBegun, .monEnded, .mc, .pw, .clk, .txl, .cal, .mram,
    .ukey]) => ?_) ?_
  on_goal 2 => unfold x
  clear_value x
  extract_lets +onlyGivenNames x
  refine (fun (hx : s.moves x [.timeOff, .regs, .act, .segs, .stores, .olds, .mem, .poison, .nextSid, .lows, .ctxs, .tiles,
    .evt, .wav, .grp, .cap, .latch, .xng, .ustore, .mon, .wrote, .monBegun, .monEnded, .mc, .pw, .clk, .txl, .cal, .mram,
    .ukey]) => ?_) ?_
  on_goal 2 => unfold x
  clear_value x
  extract_lets +onlyGivenNames x
  refine (fun (hx : s.moves x [.timeOff, .regs, .act, .segs, .stores, .olds, .mem, .poison, .nextSid, .lows, .ctxs, .tiles,
    .evt, .wav, .grp, .cap, .latch, .xng, .ustore, .mon, .wrote, .monBegun, .monEnded, .mc, .pw, .clk, .txl, .cal, .mram,
    .ukey]) => ?_) ?_
  on_goal 2 => unfold x
  clear_value x
  extract_lets +onlyGivenNames x
  refine (fun (hx : s.moves x [.timeOff, .regs, .act, .segs, .stores, .olds, .mem, .poison, .nextSid, .lows, .ctxs, .tiles,
    .evt, .wav, .grp, .cap, .latch, .xng, .ustore, .mon, .wrote, .monBegun, .monEnded, .mc, .pw, .clk, .txl, .cal, .mram,
    .ukey]) => ?_) ?_
  on_goal 2 => unfold x
  clear_value x
  extract_lets +onlyGivenNames x
  refine (fun (hx : s.moves x [.timeOff, .regs, .act, .segs, .stores, .olds, .mem, .poison, .nextSid, .lows, .ctxs, .tiles,
    .evt, .wav, .grp, .cap, .latch, .xng, .ustore, .mon, .wrote, .monBegun, .monEnded, .mc, .pw, .clk, .txl, .cal, .mram,
    .ukey]) => ?_) ?_
  on_goal 2 => unfold x
  clear_value x
  apply State.moves_of (State.unlessStopped_moves ?_ (fun u => ?_)) (fun _ h => h) ?_
  decide
  assumption
  refine State.moves_of State.bootAt_moves (by decide) ?_
  apply State.moves_ite ?_ ?_
  exact State.moves_of State.bootAsh_moves (by decide) State.moves_refl
  exact State.moves_refl
  apply State.moves_of (State.eachSection_moves ?_ (fun u _ => ?_)) (fun _ h => h) ?_
  decide
  assumption
  exact State.moves_of State.loadSegment_moves (by decide) State.moves_refl
  apply State.moves_of (State.unlessStopped_moves ?_ (fun u => ?_)) (fun _ h => h) ?_
  decide
  assumption
  exact State.moves_of State.makeSpares_moves (by decide) State.moves_refl
  apply State.moves_of (State.eachSection_moves ?_ (fun u _ => ?_)) (fun _ h => h) ?_
  decide
  assumption
  apply State.moves_of (State.eachRecord_moves ?_ (fun u _ => ?_)) (fun _ h => h) ?_
  decide
  exact State.moves_refl
  exact State.moves_of State.loadHint_moves (by decide) State.moves_refl
  apply State.moves_of (State.eachSection_moves ?_ (fun u _ => ?_)) (fun _ h => h) ?_
  decide
  assumption
  exact State.moves_of State.loadMap_moves (by decide) State.moves_refl
  apply State.moves_of (State.eachSection_moves ?_ (fun u _ => ?_)) (fun _ h => h) ?_
  decide
  assumption
  apply State.moves_of (State.eachRecord_moves ?_ (fun u _ => ?_)) (fun _ h => h) ?_
  decide
  exact State.moves_refl
  exact State.moves_of State.loadCoef_moves (by decide) State.moves_refl
  apply State.moves_of (State.eachSection_moves ?_ (fun u _ => ?_)) (fun _ h => h) ?_
  decide
  assumption
  apply State.moves_of (State.eachRecord_moves ?_ (fun u _ => ?_)) (fun _ h => h) ?_
  decide
  exact State.moves_refl
  exact State.moves_of State.loadTiming_moves (by decide) State.moves_refl
  apply State.moves_of (State.unlessStopped_moves ?_ (fun u => ?_)) (fun _ h => h) ?_
  decide
  assumption
  refine State.moves_of State.transferAll_moves (by decide) ?_
  with_reducible apply State.moves_mk
  on_goal 2 => exact fun p hp => by cases p <;> first | rfl | exact absurd (by decide) hp
  on_goal 2 => exact id
  exact State.moves_refl
  apply State.moves_of (State.eachSection_moves ?_ (fun u _ => ?_)) (fun _ h => h) ?_
  decide
  assumption
  exact State.moves_of State.writeSection_moves (by decide) State.moves_refl
  apply State.moves_ite ?_ ?_
  apply State.moves_ite ?_ ?_
  with_reducible apply State.moves_mk
  on_goal 2 => exact fun p hp => by cases p <;> first | rfl | exact absurd (by decide) hp
  on_goal 2 => exact id
  exact State.moves_refl
  exact State.moves_of State.bootProfile_moves (by decide) State.moves_refl
  exact State.moves_refl

theorem State.bootDone_moves {s : State} {x1 : Bool} :
    s.moves (State.bootDone s x1) [.regs, .xng, .pw] := by
  unfold State.bootDone
  extract_lets +onlyGivenNames x
  refine (fun (hx : s.moves x [.regs, .xng, .pw]) => ?_) ?_
  on_goal 2 => unfold x
  clear_value x
  extract_lets +onlyGivenNames x
  clear_value x
  split
  refine State.moves_of State.alarm_moves (by decide) ?_
  with_reducible apply State.moves_mk
  on_goal 2 => exact fun p hp => by cases p <;> first | rfl | exact absurd (by decide) hp
  on_goal 2 => exact id
  assumption
  assumption
  refine State.moves_of State.bootAt_moves (by decide) ?_
  apply State.moves_ite ?_ ?_
  exact State.moves_of State.put_moves (by decide) State.moves_refl
  exact State.moves_refl

theorem State.listFail_moves {s : State} {x1 : ℕ} {x2 : ℕ} {x3 : Bool} :
    s.moves (State.listFail s x1 x2 x3) [.regs, .xng, .pw] := by
  unfold State.listFail
  apply State.moves_ite ?_ ?_
  refine State.moves_of State.bootDone_moves (by decide) ?_
  extract_lets +onlyGivenNames x
  clear_value x
  split
  with_reducible apply State.moves_mk
  on_goal 2 => exact fun p hp => by cases p <;> first | rfl | exact absurd (by decide) hp
  on_goal 2 => exact id
  refine State.moves_of State.put_moves (by decide) ?_
  refine State.moves_of State.put_moves (by decide) ?_
  exact State.moves_of State.put_moves (by decide) State.moves_refl
  with_reducible apply State.moves_mk
  on_goal 2 => exact fun p hp => by cases p <;> first | rfl | exact absurd (by decide) hp
  on_goal 2 => exact id
  exact State.moves_of State.put_moves (by decide) State.moves_refl
  extract_lets +onlyGivenNames x
  clear_value x
  split
  with_reducible apply State.moves_mk
  on_goal 2 => exact fun p hp => by cases p <;> first | rfl | exact absurd (by decide) hp
  on_goal 2 => exact id
  refine State.moves_of State.put_moves (by decide) ?_
  refine State.moves_of State.put_moves (by decide) ?_
  exact State.moves_of State.put_moves (by decide) State.moves_refl
  with_reducible apply State.moves_mk
  on_goal 2 => exact fun p hp => by cases p <;> first | rfl | exact absurd (by decide) hp
  on_goal 2 => exact id
  exact State.moves_of State.put_moves (by decide) State.moves_refl

theorem State.listNext_moves {s : State} {x1 : ℕ} :
    s.moves (State.listNext s x1) [.pw] := by
  unfold State.listNext
  extract_lets +onlyGivenNames x
  clear_value x
  with_reducible apply State.moves_mk
  on_goal 2 => exact fun p hp => by cases p <;> first | rfl | exact absurd (by decide) hp
  on_goal 2 => exact id
  exact State.moves_refl

theorem State.listEnd_moves {s : State} {x1 : ℕ} {x2 : Option ℕ} {x3 : Bool} :
    s.moves (State.listEnd s x1 x2 x3) [.regs, .xng, .pw] := by
  unfold State.listEnd
  split
  exact State.moves_of State.listFail_moves (by decide) State.moves_refl
  exact State.moves_of State.listNext_moves (by decide) State.moves_refl

theorem State.listBegin_moves {s : State} {x1} {x2} {x3} {x4} {x5} :
    s.moves (State.listBegin s x1 x2 x3 x4 x5) [.timeOff, .regs, .act, .segs, .stores, .olds, .mem, .poison, .nextSid, .lows,
      .ctxs, .tiles, .evt, .wav, .grp, .cap, .latch, .xng, .ustore, .mon, .wrote, .monBegun, .monEnded, .mc, .pw, .clk, .txl,
      .cal, .mram, .ukey] := by
  unfold State.listBegin
  split
  refine State.moves_of State.listEnd_moves (by decide) ?_
  exact State.moves_of State.s0Try_moves1 (by decide) State.moves_refl
  split
  refine State.moves_of State.listFail_moves (by decide) ?_
  exact State.moves_of (State.s0Try_moves ‹_›) (by decide) State.moves_refl
  with_reducible apply State.moves_mk
  on_goal 2 => exact fun p hp => by cases p <;> first | rfl | exact absurd (by decide) hp
  on_goal 2 => exact id
  exact State.moves_of (State.s0Try_moves ‹_›) (by decide) State.moves_refl
  with_reducible apply State.moves_mk
  on_goal 2 => exact fun p hp => by cases p <;> first | rfl | exact absurd (by decide) hp
  on_goal 2 => exact id
  exact State.moves_refl
  exact State.moves_of State.bootDone_moves (by decide) State.moves_refl
  exact State.moves_of State.listFail_moves (by decide) State.moves_refl

theorem State.listAwait_moves {s : State} {x1 : ℕ} {x2 : ℕ} {x3 : Word} {x4 : ℕ} {x5 : ℕ} {x6 : Bool} :
    s.moves (State.listAwait s x1 x2 x3 x4 x5 x6) [.regs, .xng, .pw] := by
  unfold State.listAwait
  apply State.moves_ite ?_ ?_
  split
  exact State.moves_refl
  exact State.moves_of State.listEnd_moves (by decide) State.moves_refl
  exact State.moves_of State.listNext_moves (by decide) State.moves_refl
  apply State.moves_ite ?_ ?_
  exact State.moves_refl
  exact State.moves_of State.listNext_moves (by decide) State.moves_refl

theorem State.listStep_moves {s : State} :
    s.moves (State.listStep s) [.timeOff, .regs, .act, .segs, .stores, .olds, .mem, .poison, .nextSid, .lows, .ctxs, .tiles,
      .evt, .wav, .grp, .cap, .latch, .xng, .ustore, .mon, .wrote, .monBegun, .monEnded, .mc, .pw, .clk, .txl, .cal, .mram,
      .ukey] := by
  unfold State.listStep
  apply State.moves_ite ?_ ?_
  exact State.moves_refl
  extract_lets +onlyGivenNames x
  clear_value x
  extract_lets +onlyGivenNames x
  clear_value x
  apply State.moves_ite ?_ ?_
  exact State.moves_of State.bootDone_moves (by decide) State.moves_refl
  extract_lets +onlyGivenNames x
  clear_value x
  extract_lets +onlyGivenNames x
  clear_value x
  extract_lets +onlyGivenNames x
  clear_value x
  extract_lets +onlyGivenNames x
  clear_value x
  split
  exact State.moves_of State.listBegin_moves (by decide) State.moves_refl
  exact State.moves_of State.listAwait_moves (by decide) State.moves_refl

theorem State.listRun_moves {s : State} {x1} :
    s.moves (State.listRun s x1) [.timeOff, .regs, .act, .segs, .stores, .olds, .mem, .poison, .nextSid, .lows, .ctxs,
      .tiles, .evt, .wav, .grp, .cap, .latch, .xng, .ustore, .mon, .wrote, .monBegun, .monEnded, .mc, .pw, .clk, .txl, .cal,
      .mram, .ukey] := by
  fun_induction State.listRun s x1
  exact State.moves_refl
  refine State.moves_of (V := [.timeOff, .regs, .act, .segs, .stores, .olds, .mem, .poison, .nextSid, .lows, .ctxs, .tiles,
    .evt, .wav, .grp, .cap, .latch, .xng, .ustore, .mon, .wrote, .monBegun, .monEnded, .mc, .pw, .clk, .txl, .cal, .mram,
    .ukey]) (by assumption) (fun _ h => h) ?_
  exact State.moves_of State.listStep_moves (by decide) State.moves_refl

theorem State.endStage4_moves {s : State} :
    s.moves (State.endStage4 s) [.timeOff, .regs, .act, .segs, .stores, .olds, .mem, .poison, .nextSid, .lows, .ctxs, .tiles,
      .evt, .wav, .grp, .cap, .latch, .xng, .ustore, .mon, .wrote, .monBegun, .monEnded, .mc, .pw, .clk, .txl, .cal, .mram,
      .ukey] := by
  unfold State.endStage4
  apply State.moves_of (State.unlessStopped_moves ?_ (fun u => ?_)) (fun _ h => h) ?_
  decide
  refine State.moves_of State.loadMicrocode_moves (by decide) ?_
  exact State.moves_of State.loadManifest_moves (by decide) State.moves_refl
  refine State.moves_of State.clockPlan_moves (by decide) ?_
  refine State.moves_of State.bootAt_moves (by decide) ?_
  exact State.moves_of State.loadStore_moves (by decide) State.moves_refl

theorem execBootStageComplete_moves {s : State} {x0} {x1} :
    s.moves (nextOr s (execBootStageComplete x0 x1 s)) [.timeOff, .free, .regs, .act, .segs, .stores, .olds, .mem, .poison,
      .nextSid, .lows, .ctxs, .tiles, .evt, .wav, .grp, .cap, .latch, .xng, .ustore, .mon, .wrote, .monBegun, .monEnded, .mc,
      .pw, .clk, .txl, .cal, .mram, .ukey] := by
  unfold execBootStageComplete
  rw [nextOr_next]
  apply State.moves_ite ?_ ?_
  exact State.moves_refl
  split
  refine State.moves_of State.crossUp_moves (by decide) ?_
  refine State.moves_of State.bootAt_moves (by decide) ?_
  exact State.moves_of State.put_moves (by decide) State.moves_refl
  refine State.moves_of State.crossUp_moves (by decide) ?_
  refine State.moves_of State.bootAt_moves (by decide) ?_
  refine State.moves_of State.put_moves (by decide) ?_
  exact State.moves_of State.put_moves (by decide) State.moves_refl
  exact State.moves_of State.chooseBank_moves (by decide) State.moves_refl
  exact State.moves_of State.endStage4_moves (by decide) State.moves_refl
  refine State.moves_of State.put_moves (by decide) ?_
  refine State.moves_of State.bootAt_moves (by decide) ?_
  exact State.moves_of State.clockReady_moves (by decide) State.moves_refl
  apply State.moves_of (State.unlessStopped_moves ?_ (fun u => ?_)) (fun _ h => h) ?_
  decide
  exact State.moves_of State.bootTrain_moves (by decide) State.moves_refl
  exact State.moves_of State.bootCal_moves (by decide) State.moves_refl
  apply State.moves_ite ?_ ?_
  exact State.moves_refl
  exact State.moves_of State.bootAt_moves (by decide) State.moves_refl
  exact State.moves_of State.bootSetup_moves (by decide) State.moves_refl
  exact State.moves_of State.listRun_moves (by decide) State.moves_refl
  exact State.moves_refl

theorem execSmbusEepromRead_moves {x0 : BitVec 11} {x1 : ℕ} {s : State} :
    s.moves (nextOr s (execSmbusEepromRead x0 x1 s)) [.xng] := by
  unfold execSmbusEepromRead
  extract_lets +onlyGivenNames x
  clear_value x
  rw [nextOr_next]
  with_reducible apply State.moves_mk
  on_goal 2 => exact fun p hp => by cases p <;> first | rfl | exact absurd (by decide) hp
  on_goal 2 => exact id
  exact State.moves_refl

theorem execSmbusStatusRead_moves {s : State} :
    s.moves (nextOr s (execSmbusStatusRead s)) [.xng] := by
  unfold execSmbusStatusRead
  extract_lets +onlyGivenNames x
  clear_value x
  rw [nextOr_next]
  with_reducible apply State.moves_mk
  on_goal 2 => exact fun p hp => by cases p <;> first | rfl | exact absurd (by decide) hp
  on_goal 2 => exact id
  exact State.moves_refl

theorem State.happen_moves {s : State} {x1} :
    s.moves (State.happen s x1) [.regs, .act, .stores, .mem, .lows, .ctxs, .tiles, .evt, .wav, .grp, .cap, .xng, .mon, .mc]
      := by
  unfold State.happen
  split
  exact State.moves_refl
  refine State.moves_of State.gcSlots_moves (by decide) ?_
  exact State.moves_of State.setTile_moves (by decide) State.moves_refl
  exact State.moves_of State.nextBlock_moves (by decide) State.moves_refl
  exact State.moves_of State.yieldCatches_moves (by decide) State.moves_refl
  exact State.moves_of State.routineChanges_moves (by decide) State.moves_refl
  exact State.moves_of State.levelsDue_moves (by decide) State.moves_refl
  refine moves_forUpto (fun u _ => ?_) ?_
  exact State.moves_of State.lowTest_moves (by decide) State.moves_refl
  exact State.moves_refl
  exact State.moves_of State.offerAll_moves (by decide) State.moves_refl

theorem State.settleOwed_moves {s : State} :
    s.moves (State.settleOwed s) [.regs, .act, .segs, .stores, .mem, .tiles, .evt, .wav, .grp, .cap, .latch, .xng, .mon,
      .monBegun, .monEnded, .mc, .pw, .clk, .txl, .cal] := by
  unfold State.settleOwed
  refine State.moves_of State.sysDue_moves (by decide) ?_
  refine State.moves_of State.occDue_moves (by decide) ?_
  exact State.moves_of State.strobeDueNow_moves (by decide) State.moves_refl

theorem State.patTick_moves {s : State} :
    s.moves (State.patTick s) [.regs, .stores, .mem, .tiles, .evt, .grp, .cap, .mon, .mc] := by
  unfold State.patTick
  refine moves_forUpto (fun u _ => ?_) ?_
  refine State.moves_of State.outNote_moves (by decide) ?_
  exact State.moves_of State.catchUp_moves (by decide) State.moves_refl
  exact State.moves_refl

theorem State.outTick_moves {s : State} :
    s.moves (State.outTick s) [.wav, .grp] := by
  unfold State.outTick
  refine moves_forUpto (fun _ _ => ?_) ?_
  apply State.moves_ite ?_ ?_
  exact State.moves_of State.closeOutput_moves (by decide) State.moves_refl
  exact State.moves_refl
  exact State.moves_refl

theorem State.idleTick_moves {s : State} :
    s.moves (State.idleTick s) [.mc] := by
  unfold State.idleTick
  apply State.moves_ite ?_ ?_
  exact State.moves_refl
  exact State.moves_of State.memWake_moves (by decide) State.moves_refl

theorem State.resolveTick_moves {s : State} :
    s.moves (State.resolveTick s) [.tiles, .mc] := by
  unfold State.resolveTick
  apply State.moves_ite ?_ ?_
  exact State.moves_refl
  refine moves_forUpto (fun u _ => ?_) ?_
  exact State.moves_of State.aheadTick_moves (by decide) State.moves_refl
  exact State.moves_refl

theorem State.cycleWork_moves {s : State} :
    s.moves (State.cycleWork s) [.timeOff, .free, .regs, .act, .segs, .stores, .olds, .mem, .poison, .nextSid, .lows, .ctxs,
      .tiles, .evt, .wav, .grp, .cap, .latch, .xng, .ustore, .mon, .wrote, .monBegun, .monEnded, .mc, .pw, .clk, .txl, .cal,
      .mram, .ukey] := by
  unfold State.cycleWork
  extract_lets +onlyGivenNames x
  refine (fun (hx : s.moves x [.timeOff, .free, .regs, .act, .segs, .stores, .olds, .mem, .poison, .nextSid, .lows, .ctxs,
    .tiles, .evt, .wav, .grp, .cap, .latch, .xng, .ustore, .mon, .wrote, .monBegun, .monEnded, .mc, .pw, .clk, .txl, .cal,
    .mram, .ukey]) => ?_) ?_
  on_goal 2 => unfold x
  clear_value x
  extract_lets +onlyGivenNames x
  refine (fun (hx : s.moves x [.timeOff, .free, .regs, .act, .segs, .stores, .olds, .mem, .poison, .nextSid, .lows, .ctxs,
    .tiles, .evt, .wav, .grp, .cap, .latch, .xng, .ustore, .mon, .wrote, .monBegun, .monEnded, .mc, .pw, .clk, .txl, .cal,
    .mram, .ukey]) => ?_) ?_
  on_goal 2 => unfold x
  clear_value x
  extract_lets +onlyGivenNames x
  refine (fun (hx : s.moves x [.timeOff, .free, .regs, .act, .segs, .stores, .olds, .mem, .poison, .nextSid, .lows, .ctxs,
    .tiles, .evt, .wav, .grp, .cap, .latch, .xng, .ustore, .mon, .wrote, .monBegun, .monEnded, .mc, .pw, .clk, .txl, .cal,
    .mram, .ukey]) => ?_) ?_
  on_goal 2 => unfold x
  clear_value x
  extract_lets +onlyGivenNames x
  refine (fun (hx : s.moves x [.timeOff, .free, .regs, .act, .segs, .stores, .olds, .mem, .poison, .nextSid, .lows, .ctxs,
    .tiles, .evt, .wav, .grp, .cap, .latch, .xng, .ustore, .mon, .wrote, .monBegun, .monEnded, .mc, .pw, .clk, .txl, .cal,
    .mram, .ukey]) => ?_) ?_
  on_goal 2 => unfold x
  clear_value x
  refine State.moves_of State.monTick_moves (by decide) ?_
  refine State.moves_of State.accessTick_moves (by decide) ?_
  exact State.moves_of State.listStep_moves (by decide) (by assumption)
  refine State.moves_of State.idleTick_moves (by decide) ?_
  refine State.moves_of State.flushTick_moves (by decide) ?_
  refine State.moves_of State.urgentTick_moves (by decide) ?_
  refine State.moves_of State.safeTick_moves (by decide) ?_
  refine State.moves_of State.portTick_moves (by decide) ?_
  refine State.moves_of State.platTick_moves (by decide) ?_
  refine State.moves_of State.acqTick_moves (by decide) ?_
  exact State.moves_of State.clkTick_moves (by decide) (by assumption)
  exact State.moves_of State.resolveTick_moves (by decide) (by assumption)
  refine State.moves_of State.trigTick_moves (by decide) ?_
  refine moves_forUpto (fun u _ => ?_) ?_
  exact State.moves_of State.capTick_moves (by decide) State.moves_refl
  assumption
  refine State.moves_of State.patTick_moves (by decide) ?_
  refine moves_forUpto (fun u _ => ?_) ?_
  refine State.moves_of State.fetchTick_moves (by decide) ?_
  exact State.moves_of State.waveTick_moves (by decide) State.moves_refl
  exact State.moves_of State.outTick_moves (by decide) State.moves_refl

theorem State.tick_moves {s : State} :
    s.moves (State.tick s) [.now, .timeOff, .free, .regs, .act, .segs, .stores, .olds, .mem, .poison, .nextSid, .lows, .ctxs,
      .tiles, .evt, .wav, .grp, .cap, .latch, .xng, .ustore, .mon, .wrote, .monBegun, .monEnded, .mc, .pw, .clk, .txl, .cal,
      .mram, .ukey] := by
  unfold State.tick
  extract_lets +onlyGivenNames x
  refine (fun (hx : s.moves x [.now, .timeOff, .free, .regs, .act, .segs, .stores, .olds, .mem, .poison, .nextSid, .lows,
    .ctxs, .tiles, .evt, .wav, .grp, .cap, .latch, .xng, .ustore, .mon, .wrote, .monBegun, .monEnded, .mc, .pw, .clk, .txl,
    .cal, .mram, .ukey]) => ?_) ?_
  on_goal 2 => unfold x
  clear_value x
  with_reducible apply State.moves_mk
  on_goal 2 => exact fun p hp => by cases p <;> first | rfl | exact absurd (by decide) hp
  on_goal 2 => exact id
  assumption
  refine State.moves_of State.noteWrites_moves (by decide) ?_
  apply State.moves_ite ?_ ?_
  exact State.moves_of State.cycleWork_moves (by decide) State.moves_refl
  exact State.moves_refl

end Sys2Proof.Machine
end

