-- ==== Sys2Proof/Laws/MovesStep.lean ====
section
/-! SUPPORT. What every command and every step do alike: they answer a next state, keep the memories in canonical form, and
write neither the queue nor the cycle count. -/

namespace Sys2Proof.Machine

/-- The parts that a command may write: neither the queue nor the cycle count. -/
theorem exec_moves (c : Instr) (s : State) : s.moves (nextOr s (exec c s))
    [.timeOff, .free, .regs, .act, .segs, .stores, .olds, .mem, .poison, .nextSid, .lows, .ctxs, .tiles, .evt, .wav, .grp,
      .cap, .latch, .xng, .ustore, .mon, .wrote, .monBegun, .monEnded, .mc, .pw, .clk, .txl, .cal, .mram, .ukey] := by
  cases c with
  | fieldPowerOnReset => exact State.moves_mono execFieldPowerOnReset_moves (by decide)
  | fieldRstNAssert => exact State.moves_mono execFieldRstNAssert_moves (by decide)
  | fieldRstNRelease => exact State.moves_mono execFieldRstNRelease_moves (by decide)
  | fieldResetAckTimeout => exact State.moves_mono execFieldResetAckTimeout_moves (by decide)
  | nvsFieldRst _ => exact State.moves_mono execNvsFieldRst_moves (by decide)
  | softReset _ => exact State.moves_mono execSoftReset_moves (by decide)
  | tileReset _ => exact State.moves_mono execTileReset_moves (by decide)
  | mramWriteComplete => exact State.moves_mono execMramWriteComplete_moves (by decide)
  | stewardStop _ => exact State.moves_mono execStewardStop_moves (by decide)
  | serviceLockLoss => exact State.moves_mono execServiceLockLoss_moves (by decide)
  | sagBelow42V _ => exact State.moves_mono execSagBelow42V_moves (by decide)
  | sagBelow38V _ => exact State.moves_mono execSagBelow38V_moves (by decide)
  | sagBelow36V _ => exact State.moves_mono execSagBelow36V_moves (by decide)
  | supplyRecover42V5 _ => exact State.moves_mono execSupplyRecover42V5_moves (by decide)
  | supplyRecover40V _ => exact State.moves_mono execSupplyRecover40V_moves (by decide)
  | dormantRequest _ => exact State.moves_mono execDormantRequest_moves (by decide)
  | fieldPowerRequest _ => exact State.moves_mono execFieldPowerRequest_moves (by decide)
  | profileChange _ => exact State.moves_mono execProfileChange_moves (by decide)
  | profileChangeComplete => exact State.moves_mono execProfileChangeComplete_moves (by decide)
  | ashEntry _ => exact State.moves_mono execAshEntry_moves (by decide)
  | ashEntryComplete => exact State.moves_mono execAshEntryComplete_moves (by decide)
  | ashExit _ => exact State.moves_mono execAshExit_moves (by decide)
  | ashExitComplete => exact State.moves_mono execAshExitComplete_moves (by decide)
  | glbKeyWrite _ => exact State.moves_mono execGlbKeyWrite_moves (by decide)
  | glbUpdate _ => exact State.moves_mono execGlbUpdate_moves (by decide)
  | glbFlagsWrite _ => exact State.moves_mono execGlbFlagsWrite_moves (by decide)
  | mailboxRequest _ => exact State.moves_mono execMailboxRequest_moves (by decide)
  | mailboxSample => exact State.moves_mono execMailboxSample_moves (by decide)
  | hvEnable _ => exact State.moves_mono execHvEnable_moves (by decide)
  | hvDisable _ => exact State.moves_mono execHvDisable_moves (by decide)
  | hvRailsUp => exact State.moves_mono execHvRailsUp_moves (by decide)
  | hvRailFault _ _ => exact State.moves_mono execHvRailFault_moves (by decide)
  | registerWrite _ _ _ => exact State.moves_mono execRegisterWrite_moves (by decide)
  | registerReadMessage _ _ => exact State.moves_mono execRegisterReadMessage_moves (by decide)
  | alloc _ => exact State.moves_mono execAlloc_moves (by decide)
  | free _ => exact State.moves_mono execFree_moves (by decide)
  | load _ => exact State.moves_mono execLoad_moves (by decide)
  | loadEnd _ => exact State.moves_mono execLoadEnd_moves (by decide)
  | redirect _ => exact State.moves_mono execRedirect_moves (by decide)
  | redirectApply _ => exact State.moves_mono execRedirectApply_moves (by decide)
  | redirectOldRelease _ => exact State.moves_mono execRedirectOldRelease_moves (by decide)
  | query _ => exact State.moves_mono execQuery_moves (by decide)
  | migrate _ _ => exact State.moves_mono execMigrate_moves (by decide)
  | readmit _ => exact State.moves_mono execReadmit_moves (by decide)
  | readmitTestEnd _ _ _ => exact State.moves_mono execReadmitTestEnd_moves (by decide)
  | migrationStart _ _ => exact State.moves_mono execMigrationStart_moves (by decide)
  | migrationExtentDone _ => exact State.moves_mono execMigrationExtentDone_moves (by decide)
  | retirementRecordWrite _ => exact State.moves_mono execRetirementRecordWrite_moves (by decide)
  | nop _ _ => exact State.moves_mono execNop_moves (by decide)
  | halt _ _ => exact State.moves_mono execHalt_moves (by decide)
  | play _ _ => exact State.moves_mono execPlay_moves (by decide)
  | playn _ _ => exact State.moves_mono execPlayn_moves (by decide)
  | loop _ _ => exact State.moves_mono execLoop_moves (by decide)
  | endloop _ _ => exact State.moves_mono execEndloop_moves (by decide)
  | call _ _ => exact State.moves_mono execCall_moves (by decide)
  | ret _ _ => exact State.moves_mono execRet_moves (by decide)
  | jump _ _ => exact State.moves_mono execJump_moves (by decide)
  | arm _ _ => exact State.moves_mono execArm_moves (by decide)
  | disarm _ _ => exact State.moves_mono execDisarm_moves (by decide)
  | wait _ _ => exact State.moves_mono execWait_moves (by decide)
  | sync _ _ => exact State.moves_mono execSync_moves (by decide)
  | syncRelease _ => exact State.moves_mono execSyncRelease_moves (by decide)
  | setts _ _ => exact State.moves_mono execSetts_moves (by decide)
  | setf _ _ => exact State.moves_mono execSetf_moves (by decide)
  | setph _ _ => exact State.moves_mono execSetph_moves (by decide)
  | ramp _ _ => exact State.moves_mono execRamp_moves (by decide)
  | rampStep _ => exact State.moves_mono execRampStep_moves (by decide)
  | mark _ _ => exact State.moves_mono execMark_moves (by decide)
  | stream _ _ => exact State.moves_mono execStream_moves (by decide)
  | switch _ _ => exact State.moves_mono execSwitch_moves (by decide)
  | signal _ _ => exact State.moves_mono execSignal_moves (by decide)
  | count _ _ => exact State.moves_mono execCount_moves (by decide)
  | userOpcode _ _ => exact State.moves_mono execUserOpcode_moves (by decide)
  | spinFault _ => exact State.moves_mono execSpinFault_moves (by decide)
  | microFault _ => exact State.moves_mono execMicroFault_moves (by decide)
  | gap _ => exact State.moves_mono execGap_moves (by decide)
  | gapEnd _ => exact State.moves_mono execGapEnd_moves (by decide)
  | seqLoad _ _ _ _ => exact State.moves_mono execSeqLoad_moves (by decide)
  | seqPrep _ _ _ _ => exact State.moves_mono execSeqPrep_moves (by decide)
  | prepComplete _ => exact State.moves_mono execPrepComplete_moves (by decide)
  | seqStart _ _ _ _ => exact State.moves_mono execSeqStart_moves (by decide)
  | seqResume _ _ _ _ => exact State.moves_mono execSeqResume_moves (by decide)
  | startCycle _ => exact State.moves_mono execStartCycle_moves (by decide)
  | seqPause _ _ _ _ => exact State.moves_mono execSeqPause_moves (by decide)
  | pauseEffect _ => exact State.moves_mono execPauseEffect_moves (by decide)
  | seqStop _ _ _ _ => exact State.moves_mono execSeqStop_moves (by decide)
  | stopEffect _ => exact State.moves_mono execStopEffect_moves (by decide)
  | seqRelease _ _ _ _ => exact State.moves_mono execSeqRelease_moves (by decide)
  | contextTableWrite _ _ _ => exact State.moves_mono execContextTableWrite_moves (by decide)
  | trigEdge _ _ _ => exact State.moves_mono execTrigEdge_moves (by decide)
  | thresholdChange _ _ _ _ => exact State.moves_mono execThresholdChange_moves (by decide)
  | pinCompareFail _ _ _ => exact State.moves_mono execPinCompareFail_moves (by decide)
  | matcherMatch _ _ _ _ _ => exact State.moves_mono execMatcherMatch_moves (by decide)
  | eventRegistration _ _ => exact State.moves_mono execEventRegistration_moves (by decide)
  | commitGoto _ => exact State.moves_mono execCommitGoto_moves (by decide)
  | commitCall _ => exact State.moves_mono execCommitCall_moves (by decide)
  | commitSwitch _ => exact State.moves_mono execCommitSwitch_moves (by decide)
  | commitStop _ => exact State.moves_mono execCommitStop_moves (by decide)
  | commitCount _ => exact State.moves_mono execCommitCount_moves (by decide)
  | landedRunStart _ => exact State.moves_mono execLandedRunStart_moves (by decide)
  | landingFillStart _ => exact State.moves_mono execLandingFillStart_moves (by decide)
  | landingFillComplete _ => exact State.moves_mono execLandingFillComplete_moves (by decide)
  | timerStart _ => exact State.moves_mono execTimerStart_moves (by decide)
  | timerStop _ => exact State.moves_mono execTimerStop_moves (by decide)
  | timerExpiry _ => exact State.moves_mono execTimerExpiry_moves (by decide)
  | evtHostRaise _ => exact State.moves_mono execEvtHostRaise_moves (by decide)
  | hostEventRaiseMessage _ => exact State.moves_mono execHostEventRaiseMessage_moves (by decide)
  | systemEventMessage _ _ _ _ _ => exact State.moves_mono (execSystemEventMessage_moves (x1 := 0)) (by decide)
  | blockPlayed _ => exact State.moves_mono execBlockPlayed_moves (by decide)
  | ringFillResume _ => exact State.moves_mono execRingFillResume_moves (by decide)
  | underrun _ => exact State.moves_mono execUnderrun_moves (by decide)
  | holdRestart _ => exact State.moves_mono execHoldRestart_moves (by decide)
  | divertCommit _ => exact State.moves_mono execDivertCommit_moves (by decide)
  | slipwayTableWrite _ _ _ => exact State.moves_mono execSlipwayTableWrite_moves (by decide)
  | mcUload _ _ => exact State.moves_mono execMcUload_moves (by decide)
  | userReloadComplete _ => exact State.moves_mono execUserReloadComplete_moves (by decide)
  | ukeyOpen _ => exact State.moves_mono execUkeyOpen_moves (by decide)
  | ukeyHashWrite _ _ => exact State.moves_mono execUkeyHashWrite_moves (by decide)
  | fuseBurnComplete => exact State.moves_mono execFuseBurnComplete_moves (by decide)
  | wavForceSafeSet _ _ => exact State.moves_mono execWavForceSafeSet_moves (by decide)
  | wavForceSafeClear _ _ => exact State.moves_mono execWavForceSafeClear_moves (by decide)
  | rangeMuteEnd _ => exact State.moves_mono execRangeMuteEnd_moves (by decide)
  | tsHstageD2Write _ _ => exact State.moves_mono execTsHstageD2Write_moves (by decide)
  | tsHcommit _ _ => exact State.moves_mono execTsHcommit_moves (by decide)
  | grpForceSafeSet _ _ => exact State.moves_mono execGrpForceSafeSet_moves (by decide)
  | grpForceSafeClear _ _ => exact State.moves_mono execGrpForceSafeClear_moves (by decide)
  | liveHold _ _ => exact State.moves_mono execLiveHold_moves (by decide)
  | pcapStart _ _ => exact State.moves_mono execPcapStart_moves (by decide)
  | pcapStop _ _ => exact State.moves_mono execPcapStop_moves (by decide)
  | captureChannelReset _ _ => exact State.moves_mono execCaptureChannelReset_moves (by decide)
  | capSyncRequest _ _ => exact State.moves_mono execCapSyncRequest_moves (by decide)
  | synchronisingReset _ => exact State.moves_mono execSynchronisingReset_moves (by decide)
  | rangeSettleReset _ => exact State.moves_mono execRangeSettleReset_moves (by decide)
  | settlingEnd _ => exact State.moves_mono execSettlingEnd_moves (by decide)
  | firBankWrite _ _ _ _ => exact State.moves_mono execFirBankWrite_moves (by decide)
  | firSwap _ _ => exact State.moves_mono execFirSwap_moves (by decide)
  | fadeStart _ => exact State.moves_mono execFadeStart_moves (by decide)
  | fadeEnd _ => exact State.moves_mono execFadeEnd_moves (by decide)
  | capRecordStart _ _ => exact State.moves_mono execCapRecordStart_moves (by decide)
  | capRecordStop _ _ => exact State.moves_mono execCapRecordStop_moves (by decide)
  | cbufTrig _ _ => exact State.moves_mono execCbufTrig_moves (by decide)
  | recordingEnd _ => exact State.moves_mono execRecordingEnd_moves (by decide)
  | recordingDrainComplete _ => exact State.moves_mono execRecordingDrainComplete_moves (by decide)
  | correctedRead _ _ _ => exact State.moves_mono execCorrectedRead_moves (by decide)
  | uncorrectableRead _ _ _ _ => exact State.moves_mono execUncorrectableRead_moves (by decide)
  | caParityError _ _ => exact State.moves_mono execCaParityError_moves (by decide)
  | writeParityError _ _ _ => exact State.moves_mono execWriteParityError_moves (by decide)
  | lateRead => exact State.moves_mono execLateRead_moves (by decide)
  | perBankRefresh _ _ _ => exact State.moves_mono execPerBankRefresh_moves (by decide)
  | urgentRefresh _ _ => exact State.moves_mono execUrgentRefresh_moves (by decide)
  | hbmTempRead _ _ _ _ => exact State.moves_mono execHbmTempRead_moves (by decide)
  | hotAshTimeout => exact State.moves_mono execHotAshTimeout_moves (by decide)
  | selfRefreshEntry => exact State.moves_mono execSelfRefreshEntry_moves (by decide)
  | selfRefreshExit => exact State.moves_mono execSelfRefreshExit_moves (by decide)
  | autoRetrain => exact State.moves_mono execAutoRetrain_moves (by decide)
  | retrainComplete _ _ _ _ => exact State.moves_mono execRetrainComplete_moves (by decide)
  | refLoss => exact State.moves_mono execRefLoss_moves (by decide)
  | refQualified _ => exact State.moves_mono execRefQualified_moves (by decide)
  | rootLockLoss => exact State.moves_mono execRootLockLoss_moves (by decide)
  | lockAcquired _ => exact State.moves_mono execLockAcquired_moves (by decide)
  | slewComplete => exact State.moves_mono execSlewComplete_moves (by decide)
  | retune _ => exact State.moves_mono execRetune_moves (by decide)
  | relock _ => exact State.moves_mono execRelock_moves (by decide)
  | rampStart _ _ => exact State.moves_mono execRampStart_moves (by decide)
  | rampStop _ m => exact State.moves_mono (execRampStop_moves (x1 := m)) (by decide)
  | clkRampEnd => exact State.moves_mono execClkRampEnd_moves (by decide)
  | lightPresent _ _ => exact State.moves_mono execLightPresent_moves (by decide)
  | laneAligned _ => exact State.moves_mono execLaneAligned_moves (by decide)
  | trainingTimeout _ => exact State.moves_mono execTrainingTimeout_moves (by decide)
  | portCalibrationDone _ _ _ _ => exact State.moves_mono execPortCalibrationDone_moves (by decide)
  | lightLoss _ => exact State.moves_mono execLightLoss_moves (by decide)
  | keepaliveTimeout _ => exact State.moves_mono execKeepaliveTimeout_moves (by decide)
  | keepaliveSend p => exact State.moves_mono (execKeepaliveSend_moves (x0 := p)) (by decide)
  | keepaliveMessage _ _ _ _ _ _ => exact State.moves_mono execKeepaliveMessage_moves (by decide)
  | syncIssue => exact State.moves_mono execSyncIssue_moves (by decide)
  | syncMessage _ _ _ _ _ => exact State.moves_mono execSyncMessage_moves (by decide)
  | syncPulse => exact State.moves_mono execSyncPulse_moves (by decide)
  | peerDataFrame _ _ _ _ _ _ => exact State.moves_mono execPeerDataFrame_moves (by decide)
  | txlRetrain _ _ => exact State.moves_mono execTxlRetrain_moves (by decide)
  | txlDown _ _ => exact State.moves_mono execTxlDown_moves (by decide)
  | txlIdWrite _ => exact State.moves_mono execTxlIdWrite_moves (by decide)
  | heartbeatSend _ => exact State.moves_mono execHeartbeatSend_moves (by decide)
  | heartbeatMessage _ => exact State.moves_mono execHeartbeatMessage_moves (by decide)
  | fieldAbsenceTimeout => exact State.moves_mono execFieldAbsenceTimeout_moves (by decide)
  | hostAbsenceTimeout => exact State.moves_mono execHostAbsenceTimeout_moves (by decide)
  | watchdogExpiry => exact State.moves_mono execWatchdogExpiry_moves (by decide)
  | xngKick a0 => exact State.moves_mono (execXngKick_moves (x0 := a0)) (by decide)
  | xngWdog _ => exact State.moves_mono execXngWdog_moves (by decide)
  | xngRaise _ => exact State.moves_mono execXngRaise_moves (by decide)
  | alarmMessage => exact State.moves_mono execAlarmMessage_moves (by decide)
  | notificationMessage => exact State.moves_mono execNotificationMessage_moves (by decide)
  | xngPopAlarm _ => exact State.moves_mono execXngPopAlarm_moves (by decide)
  | xngPopNote _ => exact State.moves_mono execXngPopNote_moves (by decide)
  | safeLatchClear _ => exact State.moves_mono execSafeLatchClear_moves (by decide)
  | xngRingTail _ _ _ => exact State.moves_mono execXngRingTail_moves (by decide)
  | ferryFrame _ _ => exact State.moves_mono execFerryFrame_moves (by decide)
  | ferryDescriptorComplete _ => exact State.moves_mono execFerryDescriptorComplete_moves (by decide)
  | perstNAssert => exact State.moves_mono execPerstNAssert_moves (by decide)
  | perstNRelease => exact State.moves_mono execPerstNRelease_moves (by decide)
  | smbusEepromRead _ _ => exact State.moves_mono execSmbusEepromRead_moves (by decide)
  | smbusStatusRead => exact State.moves_mono execSmbusStatusRead_moves (by decide)
  | nvWriteEnable _ => exact State.moves_mono execNvWriteEnable_moves (by decide)
  | imgWriteBlock _ => exact State.moves_mono execImgWriteBlock_moves (by decide)
  | imgCommit _ => exact State.moves_mono execImgCommit_moves (by decide)
  | imgCommandComplete => exact State.moves_mono execImgCommandComplete_moves (by decide)
  | dacLinearity _ _ => exact State.moves_mono execDacLinearity_moves (by decide)
  | dacMarkerTiming _ _ => exact State.moves_mono execDacMarkerTiming_moves (by decide)
  | adcCalibration _ _ => exact State.moves_mono execAdcCalibration_moves (by decide)
  | pinLevels _ _ => exact State.moves_mono execPinLevels_moves (by decide)
  | pinDeskew _ _ _ => exact State.moves_mono execPinDeskew_moves (by decide)
  | terxaSkew _ _ => exact State.moves_mono execTerxaSkew_moves (by decide)
  | hbmRetrain _ _ => exact State.moves_mono execHbmRetrain_moves (by decide)
  | calCommit _ _ => exact State.moves_mono execCalCommit_moves (by decide)
  | calProcedureComplete _ _ _ _ => exact State.moves_mono execCalProcedureComplete_moves (by decide)
  | calCommitComplete => exact State.moves_mono execCalCommitComplete_moves (by decide)
  | dacTempRead _ => exact State.moves_mono execDacTempRead_moves (by decide)
  | monStart _ => exact State.moves_mono execMonStart_moves (by decide)
  | monStop _ => exact State.moves_mono execMonStop_moves (by decide)
  | monSnapshot _ => exact State.moves_mono execMonSnapshot_moves (by decide)
  | bootStageComplete _ _ => exact State.moves_mono execBootStageComplete_moves (by decide)
  | blockLockLoss _ => exact State.moves_mono execBlockLockLoss_moves (by decide)
  | triangleReturnToBase => exact State.moves_mono execTriangleReturnToBase_moves (by decide)
  | hostSidePowerUp => exact State.moves_mono execHostSidePowerUp_moves (by decide)
  | hostSidePowerLoss => exact State.moves_mono execHostSidePowerLoss_moves (by decide)

/-- An outcome that is a next state is the one that nextOr reads. -/
theorem next_of {s t : State} {o : Host.Outcome State Fault Refusal} (h : o = .next t) : o = .next (nextOr s o) := by
  rw [h]; rfl

/-- Every command answers a next state. -/
theorem exec_next (c : Instr) (s : State) : exec c s = .next (nextOr s (exec c s)) := by
  cases c with
  | fieldPowerOnReset => exact next_of rfl
  | fieldRstNAssert => exact next_of rfl
  | fieldRstNRelease => exact next_of rfl
  | fieldResetAckTimeout => exact next_of rfl
  | nvsFieldRst _ => exact next_of rfl
  | softReset _ => exact next_of rfl
  | tileReset _ => exact next_of rfl
  | mramWriteComplete => exact next_of rfl
  | stewardStop _ => exact next_of rfl
  | serviceLockLoss => exact next_of rfl
  | sagBelow42V _ => exact next_of rfl
  | sagBelow38V _ => exact next_of rfl
  | sagBelow36V _ => exact next_of rfl
  | supplyRecover42V5 _ => exact next_of rfl
  | supplyRecover40V _ => exact next_of rfl
  | dormantRequest _ => exact next_of rfl
  | fieldPowerRequest _ => exact next_of rfl
  | profileChange _ => exact next_of rfl
  | profileChangeComplete => exact next_of rfl
  | ashEntry _ => exact next_of rfl
  | ashEntryComplete => exact next_of rfl
  | ashExit _ => exact next_of rfl
  | ashExitComplete => exact next_of rfl
  | glbKeyWrite _ => exact next_of rfl
  | glbUpdate _ => exact next_of rfl
  | glbFlagsWrite _ => exact next_of rfl
  | mailboxRequest _ => exact next_of rfl
  | mailboxSample => exact next_of rfl
  | hvEnable _ => exact next_of rfl
  | hvDisable _ => exact next_of rfl
  | hvRailsUp => exact next_of rfl
  | hvRailFault _ _ => exact next_of rfl
  | registerWrite _ _ _ => exact next_of rfl
  | registerReadMessage _ _ => exact next_of rfl
  | alloc _ => exact next_of rfl
  | free _ => exact next_of rfl
  | load _ => exact next_of rfl
  | loadEnd _ => exact next_of rfl
  | redirect _ => exact next_of rfl
  | redirectApply _ => exact next_of rfl
  | redirectOldRelease _ => exact next_of rfl
  | query _ => exact next_of rfl
  | migrate _ _ => exact next_of rfl
  | readmit _ => exact next_of rfl
  | readmitTestEnd _ _ _ => exact next_of rfl
  | migrationStart _ _ => exact next_of rfl
  | migrationExtentDone _ => exact next_of rfl
  | retirementRecordWrite _ => exact next_of rfl
  | nop _ _ => exact next_of rfl
  | halt _ _ => exact next_of rfl
  | play _ _ => exact next_of rfl
  | playn _ _ => exact next_of rfl
  | loop _ _ => exact next_of rfl
  | endloop _ _ => exact next_of rfl
  | call _ _ => exact next_of rfl
  | ret _ _ => exact next_of rfl
  | jump _ _ => exact next_of rfl
  | arm _ _ => exact next_of rfl
  | disarm _ _ => exact next_of rfl
  | wait _ _ => exact next_of rfl
  | sync _ _ => exact next_of rfl
  | syncRelease _ => exact next_of rfl
  | setts _ _ => exact next_of rfl
  | setf _ _ => exact next_of rfl
  | setph _ _ => exact next_of rfl
  | ramp _ _ => exact next_of rfl
  | rampStep _ => exact next_of rfl
  | mark _ _ => exact next_of rfl
  | stream _ _ => exact next_of rfl
  | switch _ _ => exact next_of rfl
  | signal _ _ => exact next_of rfl
  | count _ _ => exact next_of rfl
  | userOpcode _ _ => exact next_of rfl
  | spinFault _ => exact next_of rfl
  | microFault _ => exact next_of rfl
  | gap _ => exact next_of rfl
  | gapEnd _ => exact next_of rfl
  | seqLoad _ _ _ _ => exact next_of rfl
  | seqPrep _ _ _ _ => exact next_of rfl
  | prepComplete _ => exact next_of rfl
  | seqStart _ _ _ _ => exact next_of rfl
  | seqResume _ _ _ _ => exact next_of rfl
  | startCycle _ => exact next_of rfl
  | seqPause _ _ _ _ => exact next_of rfl
  | pauseEffect _ => exact next_of rfl
  | seqStop _ _ _ _ => exact next_of rfl
  | stopEffect _ => exact next_of rfl
  | seqRelease _ _ _ _ => exact next_of rfl
  | contextTableWrite _ _ _ => exact next_of rfl
  | trigEdge _ _ _ => exact next_of rfl
  | thresholdChange _ _ _ _ => exact next_of rfl
  | pinCompareFail _ _ _ => exact next_of rfl
  | matcherMatch _ _ _ _ _ => exact next_of rfl
  | eventRegistration _ _ => exact next_of rfl
  | commitGoto _ => exact next_of rfl
  | commitCall _ => exact next_of rfl
  | commitSwitch _ => exact next_of rfl
  | commitStop _ => exact next_of rfl
  | commitCount _ => exact next_of rfl
  | landedRunStart _ => exact next_of rfl
  | landingFillStart _ => exact next_of rfl
  | landingFillComplete _ => exact next_of rfl
  | timerStart _ => exact next_of rfl
  | timerStop _ => exact next_of rfl
  | timerExpiry _ => exact next_of rfl
  | evtHostRaise _ => exact next_of rfl
  | hostEventRaiseMessage _ => exact next_of rfl
  | systemEventMessage _ _ _ _ _ => exact next_of rfl
  | blockPlayed _ => exact next_of rfl
  | ringFillResume _ => exact next_of rfl
  | underrun _ => exact next_of rfl
  | holdRestart _ => exact next_of rfl
  | divertCommit _ => exact next_of rfl
  | slipwayTableWrite _ _ _ => exact next_of rfl
  | mcUload _ _ => exact next_of rfl
  | userReloadComplete _ => exact next_of rfl
  | ukeyOpen _ => exact next_of rfl
  | ukeyHashWrite _ _ => exact next_of rfl
  | fuseBurnComplete => exact next_of rfl
  | wavForceSafeSet _ _ => exact next_of rfl
  | wavForceSafeClear _ _ => exact next_of rfl
  | rangeMuteEnd _ => exact next_of rfl
  | tsHstageD2Write _ _ => exact next_of rfl
  | tsHcommit _ _ => exact next_of rfl
  | grpForceSafeSet _ _ => exact next_of rfl
  | grpForceSafeClear _ _ => exact next_of rfl
  | liveHold _ _ => exact next_of rfl
  | pcapStart _ _ => exact next_of rfl
  | pcapStop _ _ => exact next_of rfl
  | captureChannelReset _ _ => exact next_of rfl
  | capSyncRequest _ _ => exact next_of rfl
  | synchronisingReset _ => exact next_of rfl
  | rangeSettleReset _ => exact next_of rfl
  | settlingEnd _ => exact next_of rfl
  | firBankWrite _ _ _ _ => exact next_of rfl
  | firSwap _ _ => exact next_of rfl
  | fadeStart _ => exact next_of rfl
  | fadeEnd _ => exact next_of rfl
  | capRecordStart _ _ => exact next_of rfl
  | capRecordStop _ _ => exact next_of rfl
  | cbufTrig _ _ => exact next_of rfl
  | recordingEnd _ => exact next_of rfl
  | recordingDrainComplete _ => exact next_of rfl
  | correctedRead _ _ _ => exact next_of rfl
  | uncorrectableRead _ _ _ _ => exact next_of rfl
  | caParityError _ _ => exact next_of rfl
  | writeParityError _ _ _ => exact next_of rfl
  | lateRead => exact next_of rfl
  | perBankRefresh _ _ _ => exact next_of rfl
  | urgentRefresh _ _ => exact next_of rfl
  | hbmTempRead _ _ _ _ => exact next_of rfl
  | hotAshTimeout => exact next_of rfl
  | selfRefreshEntry => exact next_of rfl
  | selfRefreshExit => exact next_of rfl
  | autoRetrain => exact next_of rfl
  | retrainComplete _ _ _ _ => exact next_of rfl
  | refLoss => exact next_of rfl
  | refQualified _ => exact next_of rfl
  | rootLockLoss => exact next_of rfl
  | lockAcquired _ => exact next_of rfl
  | slewComplete => exact next_of rfl
  | retune _ => exact next_of rfl
  | relock _ => exact next_of rfl
  | rampStart _ _ => exact next_of rfl
  | rampStop _ _ => exact next_of rfl
  | clkRampEnd => exact next_of rfl
  | lightPresent _ _ => exact next_of rfl
  | laneAligned _ => exact next_of rfl
  | trainingTimeout _ => exact next_of rfl
  | portCalibrationDone _ _ _ _ => exact next_of rfl
  | lightLoss _ => exact next_of rfl
  | keepaliveTimeout _ => exact next_of rfl
  | keepaliveSend _ => exact next_of rfl
  | keepaliveMessage _ _ _ _ _ _ => exact next_of rfl
  | syncIssue => exact next_of rfl
  | syncMessage _ _ _ _ _ => exact next_of rfl
  | syncPulse => exact next_of rfl
  | peerDataFrame _ _ _ _ _ _ => exact next_of rfl
  | txlRetrain _ _ => exact next_of rfl
  | txlDown _ _ => exact next_of rfl
  | txlIdWrite _ => exact next_of rfl
  | heartbeatSend _ => exact next_of rfl
  | heartbeatMessage _ => exact next_of rfl
  | fieldAbsenceTimeout => exact next_of rfl
  | hostAbsenceTimeout => exact next_of rfl
  | watchdogExpiry => exact next_of rfl
  | xngKick _ => exact next_of rfl
  | xngWdog _ => exact next_of rfl
  | xngRaise _ => exact next_of rfl
  | alarmMessage => exact next_of rfl
  | notificationMessage => exact next_of rfl
  | xngPopAlarm _ => exact next_of rfl
  | xngPopNote _ => exact next_of rfl
  | safeLatchClear _ => exact next_of rfl
  | xngRingTail _ _ _ => exact next_of rfl
  | ferryFrame _ _ => exact next_of rfl
  | ferryDescriptorComplete _ => exact next_of rfl
  | perstNAssert => exact next_of rfl
  | perstNRelease => exact next_of rfl
  | smbusEepromRead _ _ => exact next_of rfl
  | smbusStatusRead => exact next_of rfl
  | nvWriteEnable _ => exact next_of rfl
  | imgWriteBlock _ => exact next_of rfl
  | imgCommit _ => exact next_of rfl
  | imgCommandComplete => exact next_of rfl
  | dacLinearity _ _ => exact next_of rfl
  | dacMarkerTiming _ _ => exact next_of rfl
  | adcCalibration _ _ => exact next_of rfl
  | pinLevels _ _ => exact next_of rfl
  | pinDeskew _ _ _ => exact next_of rfl
  | terxaSkew _ _ => exact next_of rfl
  | hbmRetrain _ _ => exact next_of rfl
  | calCommit _ _ => exact next_of rfl
  | calProcedureComplete _ _ _ _ => exact next_of rfl
  | calCommitComplete => exact next_of rfl
  | dacTempRead _ => exact next_of rfl
  | monStart _ => exact next_of rfl
  | monStop _ => exact next_of rfl
  | monSnapshot _ => exact next_of rfl
  | bootStageComplete _ _ => exact next_of rfl
  | blockLockLoss _ => exact next_of rfl
  | triangleReturnToBase => exact next_of rfl
  | hostSidePowerUp => exact next_of rfl
  | hostSidePowerLoss => exact next_of rfl

/-- Every step answers a next state, with the memories in canonical form where they were. -/
theorem step_next (s : State) : ∃ t, step s = .next t ∧ (s.memoriesWf → t.memoriesWf) := by
  unfold step
  split
  · rename_i c cs _
    exact ⟨_, exec_next c { s with pending := cs }, fun w => (exec_moves c { s with pending := cs }).2 w⟩
  · unfold idle
    split
    · exact ⟨_, rfl, State.tick_moves.2⟩
    · split
      · exact ⟨_, rfl, State.settleOwed_moves.2⟩
      · split
        · exact ⟨_, rfl, State.tick_moves.2⟩
        · rename_i c _
          rw [exec_next c s]
          dsimp only
          split
          · exact ⟨_, rfl, State.tick_moves.2⟩
          · exact ⟨_, rfl, (exec_moves _ _).2⟩
        · split
          · exact ⟨_, rfl, State.tick_moves.2⟩
          · exact ⟨_, rfl, State.happen_moves.2⟩

end Sys2Proof.Machine
end

