-- ==== Sys2Proof/Laws/PerInstr.lean ====
section
/-! SUPPORT. What holds of every command as syntax, proved constructor by constructor. Shape: a command that carries a
register value alone, or no operand at all, is well formed whatever the value; the others are well formed as their own check
says. -/

namespace Sys2Proof.Laws.Shape

/-- What an ill-formed command fails on: an access of a wrong width, a word that is no user opcode, a reading on the wrong
side of its limit, or a list that is too long. -/
def Ill (i : Instr) : Prop :=
  match i with
  | .fieldPowerOnReset => False
  | .fieldRstNAssert => False
  | .fieldRstNRelease => False
  | .fieldResetAckTimeout => False
  | .nvsFieldRst _ => False
  | .softReset _ => False
  | .tileReset _ => False
  | .mramWriteComplete => False
  | .stewardStop _ => False
  | .serviceLockLoss => False
  | .sagBelow42V vin => 420 ≤ vin.toNat
  | .sagBelow38V vin => 380 ≤ vin.toNat
  | .sagBelow36V vin => 360 ≤ vin.toNat
  | .supplyRecover42V5 vin => vin.toNat < 425
  | .supplyRecover40V vin => vin.toNat < 400
  | .dormantRequest _ => False
  | .fieldPowerRequest _ => False
  | .profileChange _ => False
  | .profileChangeComplete => False
  | .ashEntry _ => False
  | .ashEntryComplete => False
  | .ashExit _ => False
  | .ashExitComplete => False
  | .glbKeyWrite _ => False
  | .glbUpdate _ => False
  | .glbFlagsWrite _ => False
  | .mailboxRequest _ => False
  | .mailboxSample => False
  | .hvEnable _ => False
  | .hvDisable _ => False
  | .hvRailsUp => False
  | .hvRailFault pos neg => pos = false ∧ neg = false
  | .registerWrite addr bytes _ => accessOk addr bytes = false
  | .registerReadMessage addr bytes => readOk addr bytes = false
  | .alloc _ => False
  | .free _ => False
  | .load _ => False
  | .loadEnd _ => False
  | .redirect _ => False
  | .redirectApply _ => False
  | .redirectOldRelease _ => False
  | .query _ => False
  | .migrate _ _ => False
  | .readmit _ => False
  | .readmitTestEnd _ _ _ => False
  | .migrationStart _ _ => False
  | .migrationExtentDone _ => False
  | .retirementRecordWrite _ => False
  | .nop _ _ => False
  | .halt _ _ => False
  | .play _ _ => False
  | .playn _ _ => False
  | .loop _ _ => False
  | .endloop _ _ => False
  | .call _ _ => False
  | .ret _ _ => False
  | .jump _ _ => False
  | .arm _ _ => False
  | .disarm _ _ => False
  | .wait _ _ => False
  | .sync _ _ => False
  | .syncRelease _ => False
  | .setts _ _ => False
  | .setf _ _ => False
  | .setph _ _ => False
  | .ramp _ _ => False
  | .rampStep _ => False
  | .mark _ _ => False
  | .stream _ _ => False
  | .switch _ _ => False
  | .signal _ _ => False
  | .count _ _ => False
  | .userOpcode _ word => fieldOf word.toNat 66 6 < 0x16
  | .spinFault _ => False
  | .microFault _ => False
  | .gap _ => False
  | .gapEnd _ => False
  | .seqLoad _ _ _ _ => False
  | .seqPrep _ _ _ _ => False
  | .prepComplete _ => False
  | .seqStart _ _ _ _ => False
  | .seqResume _ _ _ _ => False
  | .startCycle _ => False
  | .seqPause _ _ _ _ => False
  | .pauseEffect _ => False
  | .seqStop _ _ _ _ => False
  | .stopEffect _ => False
  | .seqRelease _ _ _ _ => False
  | .contextTableWrite _ _ _ => False
  | .trigEdge _ _ _ => False
  | .thresholdChange _ _ _ _ => False
  | .pinCompareFail _ _ _ => False
  | .matcherMatch _ _ _ _ _ => False
  | .eventRegistration _ _ => False
  | .commitGoto _ => False
  | .commitCall _ => False
  | .commitSwitch _ => False
  | .commitStop _ => False
  | .commitCount _ => False
  | .landedRunStart _ => False
  | .landingFillStart _ => False
  | .landingFillComplete _ => False
  | .timerStart _ => False
  | .timerStop _ => False
  | .timerExpiry _ => False
  | .evtHostRaise _ => False
  | .hostEventRaiseMessage _ => False
  | .systemEventMessage _ _ _ _ _ => False
  | .blockPlayed _ => False
  | .ringFillResume _ => False
  | .underrun _ => False
  | .holdRestart _ => False
  | .divertCommit _ => False
  | .slipwayTableWrite _ _ _ => False
  | .mcUload _ _ => False
  | .userReloadComplete _ => False
  | .ukeyOpen _ => False
  | .ukeyHashWrite _ _ => False
  | .fuseBurnComplete => False
  | .wavForceSafeSet _ _ => False
  | .wavForceSafeClear _ _ => False
  | .rangeMuteEnd _ => False
  | .tsHstageD2Write _ _ => False
  | .tsHcommit _ _ => False
  | .grpForceSafeSet _ _ => False
  | .grpForceSafeClear _ _ => False
  | .liveHold _ _ => False
  | .pcapStart _ _ => False
  | .pcapStop _ _ => False
  | .captureChannelReset _ _ => False
  | .capSyncRequest _ _ => False
  | .synchronisingReset _ => False
  | .rangeSettleReset _ => False
  | .settlingEnd _ => False
  | .firBankWrite _ _ _ _ => False
  | .firSwap _ _ => False
  | .fadeStart _ => False
  | .fadeEnd _ => False
  | .capRecordStart _ _ => False
  | .capRecordStop _ _ => False
  | .cbufTrig _ _ => False
  | .recordingEnd _ => False
  | .recordingDrainComplete _ => False
  | .correctedRead _ _ _ => False
  | .uncorrectableRead _ _ _ _ => False
  | .caParityError _ _ => False
  | .writeParityError _ _ _ => False
  | .lateRead => False
  | .perBankRefresh _ _ _ => False
  | .urgentRefresh _ _ => False
  | .hbmTempRead _ _ _ _ => False
  | .hotAshTimeout => False
  | .selfRefreshEntry => False
  | .selfRefreshExit => False
  | .autoRetrain => False
  | .retrainComplete _ _ _ _ => False
  | .refLoss => False
  | .refQualified _ => False
  | .rootLockLoss => False
  | .lockAcquired _ => False
  | .slewComplete => False
  | .retune _ => False
  | .relock _ => False
  | .rampStart _ _ => False
  | .rampStop _ _ => False
  | .clkRampEnd => False
  | .lightPresent _ _ => False
  | .laneAligned _ => False
  | .trainingTimeout _ => False
  | .portCalibrationDone _ _ _ _ => False
  | .lightLoss _ => False
  | .keepaliveTimeout _ => False
  | .keepaliveSend _ => False
  | .keepaliveMessage _ _ _ _ _ _ => False
  | .syncIssue => False
  | .syncMessage _ _ _ _ _ => False
  | .syncPulse => False
  | .peerDataFrame _ _ _ _ words bad => ∃ i ∈ bad, words.length ≤ i
  | .txlRetrain _ _ => False
  | .txlDown _ _ => False
  | .txlIdWrite _ => False
  | .heartbeatSend _ => False
  | .heartbeatMessage _ => False
  | .fieldAbsenceTimeout => False
  | .hostAbsenceTimeout => False
  | .watchdogExpiry => False
  | .xngKick _ => False
  | .xngWdog _ => False
  | .xngRaise _ => False
  | .alarmMessage => False
  | .notificationMessage => False
  | .xngPopAlarm _ => False
  | .xngPopNote _ => False
  | .safeLatchClear _ => False
  | .xngRingTail _ _ descs => 256 ≤ descs.length
  | .ferryFrame _ words => 455 < words.length
  | .ferryDescriptorComplete _ => False
  | .perstNAssert => False
  | .perstNRelease => False
  | .smbusEepromRead _ n => 2048 < n
  | .smbusStatusRead => False
  | .nvWriteEnable _ => False
  | .imgWriteBlock _ => False
  | .imgCommit _ => False
  | .imgCommandComplete => False
  | .dacLinearity _ _ => False
  | .dacMarkerTiming _ _ => False
  | .adcCalibration _ _ => False
  | .pinLevels _ _ => False
  | .pinDeskew _ _ _ => False
  | .terxaSkew _ _ => False
  | .hbmRetrain _ _ => False
  | .calCommit _ _ => False
  | .calProcedureComplete _ _ _ _ => False
  | .calCommitComplete => False
  | .dacTempRead temps => temps.length ≠ 8
  | .monStart _ => False
  | .monStop _ => False
  | .monSnapshot _ => False
  | .bootStageComplete _ _ => False
  | .blockLockLoss _ => False
  | .triangleReturnToBase => False
  | .hostSidePowerUp => False
  | .hostSidePowerLoss => False

/-- A command is well formed, or it fails its check, and never both. -/
def Statement (i : Instr) : Prop := i.wf = true ↔ ¬ Ill i

theorem fieldPowerOnReset : Statement .fieldPowerOnReset := ⟨fun _ h => h, fun _ => rfl⟩
theorem fieldRstNAssert : Statement .fieldRstNAssert := ⟨fun _ h => h, fun _ => rfl⟩
theorem fieldRstNRelease : Statement .fieldRstNRelease := ⟨fun _ h => h, fun _ => rfl⟩
theorem fieldResetAckTimeout : Statement .fieldResetAckTimeout := ⟨fun _ h => h, fun _ => rfl⟩
theorem nvsFieldRst (v : Word) : Statement (.nvsFieldRst v) := ⟨fun _ h => h, fun _ => rfl⟩
theorem softReset (v : Word) : Statement (.softReset v) := ⟨fun _ h => h, fun _ => rfl⟩
theorem tileReset (v : Word) : Statement (.tileReset v) := ⟨fun _ h => h, fun _ => rfl⟩
theorem mramWriteComplete : Statement .mramWriteComplete := ⟨fun _ h => h, fun _ => rfl⟩
theorem stewardStop (n : (Fin 2)) : Statement (.stewardStop n) := ⟨fun _ h => h, fun _ => rfl⟩
theorem serviceLockLoss : Statement .serviceLockLoss := ⟨fun _ h => h, fun _ => rfl⟩
theorem sagBelow42V (vin : (BitVec 10)) : Statement (.sagBelow42V vin) := by
  show decide (vin.toNat < 420) = true ↔ ¬ (420 ≤ vin.toNat)
  simp
theorem sagBelow38V (vin : (BitVec 10)) : Statement (.sagBelow38V vin) := by
  show decide (vin.toNat < 380) = true ↔ ¬ (380 ≤ vin.toNat)
  simp
theorem sagBelow36V (vin : (BitVec 10)) : Statement (.sagBelow36V vin) := by
  show decide (vin.toNat < 360) = true ↔ ¬ (360 ≤ vin.toNat)
  simp
theorem supplyRecover42V5 (vin : (BitVec 10)) : Statement (.supplyRecover42V5 vin) := by
  show decide (425 ≤ vin.toNat) = true ↔ ¬ (vin.toNat < 425)
  simp
theorem supplyRecover40V (vin : (BitVec 10)) : Statement (.supplyRecover40V vin) := by
  show decide (400 ≤ vin.toNat) = true ↔ ¬ (vin.toNat < 400)
  simp
theorem dormantRequest (v : Word) : Statement (.dormantRequest v) := ⟨fun _ h => h, fun _ => rfl⟩
theorem fieldPowerRequest (v : Word) : Statement (.fieldPowerRequest v) := ⟨fun _ h => h, fun _ => rfl⟩
theorem profileChange (v : Word) : Statement (.profileChange v) := ⟨fun _ h => h, fun _ => rfl⟩
theorem profileChangeComplete : Statement .profileChangeComplete := ⟨fun _ h => h, fun _ => rfl⟩
theorem ashEntry (v : Word) : Statement (.ashEntry v) := ⟨fun _ h => h, fun _ => rfl⟩
theorem ashEntryComplete : Statement .ashEntryComplete := ⟨fun _ h => h, fun _ => rfl⟩
theorem ashExit (v : Word) : Statement (.ashExit v) := ⟨fun _ h => h, fun _ => rfl⟩
theorem ashExitComplete : Statement .ashExitComplete := ⟨fun _ h => h, fun _ => rfl⟩
theorem glbKeyWrite (v : Word) : Statement (.glbKeyWrite v) := ⟨fun _ h => h, fun _ => rfl⟩
theorem glbUpdate (v : Word) : Statement (.glbUpdate v) := ⟨fun _ h => h, fun _ => rfl⟩
theorem glbFlagsWrite (v : Word) : Statement (.glbFlagsWrite v) := ⟨fun _ h => h, fun _ => rfl⟩
theorem mailboxRequest (v : Word) : Statement (.mailboxRequest v) := ⟨fun _ h => h, fun _ => rfl⟩
theorem mailboxSample : Statement .mailboxSample := ⟨fun _ h => h, fun _ => rfl⟩
theorem hvEnable (v : Word) : Statement (.hvEnable v) := ⟨fun _ h => h, fun _ => rfl⟩
theorem hvDisable (v : Word) : Statement (.hvDisable v) := ⟨fun _ h => h, fun _ => rfl⟩
theorem hvRailsUp : Statement .hvRailsUp := ⟨fun _ h => h, fun _ => rfl⟩
theorem hvRailFault (pos : Bool) (neg : Bool) : Statement (.hvRailFault pos neg) := by
  show (pos || neg) = true ↔ ¬ (pos = false ∧ neg = false)
  cases pos <;> cases neg <;> simp
theorem registerWrite (addr : (BitVec 24)) (bytes : Nat) (v : (BitVec 64)) : Statement (.registerWrite addr bytes v) := by
  show accessOk addr bytes = true ↔ ¬ (accessOk addr bytes = false)
  simp
theorem registerReadMessage (addr : (BitVec 24)) (bytes : Nat) : Statement (.registerReadMessage addr bytes) := by
  show readOk addr bytes = true ↔ ¬ (readOk addr bytes = false)
  simp
theorem alloc (tag : (BitVec 8)) : Statement (.alloc tag) := ⟨fun _ h => h, fun _ => rfl⟩
theorem free (tag : (BitVec 8)) : Statement (.free tag) := ⟨fun _ h => h, fun _ => rfl⟩
theorem load (tag : (BitVec 8)) : Statement (.load tag) := ⟨fun _ h => h, fun _ => rfl⟩
theorem loadEnd (h : (BitVec 24)) : Statement (.loadEnd h) := ⟨fun _ h => h, fun _ => rfl⟩
theorem redirect (tag : (BitVec 8)) : Statement (.redirect tag) := ⟨fun _ h => h, fun _ => rfl⟩
theorem redirectApply (h : (BitVec 24)) : Statement (.redirectApply h) := ⟨fun _ h => h, fun _ => rfl⟩
theorem redirectOldRelease (h : (BitVec 24)) : Statement (.redirectOldRelease h) := ⟨fun _ h => h, fun _ => rfl⟩
theorem query (tag : (BitVec 8)) : Statement (.query tag) := ⟨fun _ h => h, fun _ => rfl⟩
theorem migrate (tag : (BitVec 8)) (extents : (BitVec 20)) : Statement (.migrate tag extents) :=
  ⟨fun _ h => h, fun _ => rfl⟩
theorem readmit (tag : (BitVec 8)) : Statement (.readmit tag) := ⟨fun _ h => h, fun _ => rfl⟩
theorem readmitTestEnd (rank : RankNo) (found : Bool) (passed : Bool) : Statement (.readmitTestEnd rank found passed) :=
  ⟨fun _ h => h, fun _ => rfl⟩
theorem migrationStart (rank : (Option RankNo)) (extents : (BitVec 20)) : Statement (.migrationStart rank extents) :=
  ⟨fun _ h => h, fun _ => rfl⟩
theorem migrationExtentDone (rank : (Option RankNo)) : Statement (.migrationExtentDone rank) :=
  ⟨fun _ h => h, fun _ => rfl⟩
theorem retirementRecordWrite (rank : RankNo) : Statement (.retirementRecordWrite rank) := ⟨fun _ h => h, fun _ => rfl⟩
theorem nop (t : Tile) (ops : (BitVec 66)) : Statement (.nop t ops) := ⟨fun _ h => h, fun _ => rfl⟩
theorem halt (t : Tile) (ops : (BitVec 66)) : Statement (.halt t ops) := ⟨fun _ h => h, fun _ => rfl⟩
theorem play (t : Tile) (ops : (BitVec 66)) : Statement (.play t ops) := ⟨fun _ h => h, fun _ => rfl⟩
theorem playn (t : Tile) (ops : (BitVec 66)) : Statement (.playn t ops) := ⟨fun _ h => h, fun _ => rfl⟩
theorem loop (t : Tile) (ops : (BitVec 66)) : Statement (.loop t ops) := ⟨fun _ h => h, fun _ => rfl⟩
theorem endloop (t : Tile) (ops : (BitVec 66)) : Statement (.endloop t ops) := ⟨fun _ h => h, fun _ => rfl⟩
theorem call (t : Tile) (ops : (BitVec 66)) : Statement (.call t ops) := ⟨fun _ h => h, fun _ => rfl⟩
theorem ret (t : Tile) (ops : (BitVec 66)) : Statement (.ret t ops) := ⟨fun _ h => h, fun _ => rfl⟩
theorem jump (t : Tile) (ops : (BitVec 66)) : Statement (.jump t ops) := ⟨fun _ h => h, fun _ => rfl⟩
theorem arm (t : Tile) (ops : (BitVec 66)) : Statement (.arm t ops) := ⟨fun _ h => h, fun _ => rfl⟩
theorem disarm (t : Tile) (ops : (BitVec 66)) : Statement (.disarm t ops) := ⟨fun _ h => h, fun _ => rfl⟩
theorem wait (t : Tile) (ops : (BitVec 66)) : Statement (.wait t ops) := ⟨fun _ h => h, fun _ => rfl⟩
theorem sync (t : Tile) (ops : (BitVec 66)) : Statement (.sync t ops) := ⟨fun _ h => h, fun _ => rfl⟩
theorem syncRelease (t : Tile) : Statement (.syncRelease t) := ⟨fun _ h => h, fun _ => rfl⟩
theorem setts (t : Tile) (ops : (BitVec 66)) : Statement (.setts t ops) := ⟨fun _ h => h, fun _ => rfl⟩
theorem setf (t : Tile) (ops : (BitVec 66)) : Statement (.setf t ops) := ⟨fun _ h => h, fun _ => rfl⟩
theorem setph (t : Tile) (ops : (BitVec 66)) : Statement (.setph t ops) := ⟨fun _ h => h, fun _ => rfl⟩
theorem ramp (t : Tile) (ops : (BitVec 66)) : Statement (.ramp t ops) := ⟨fun _ h => h, fun _ => rfl⟩
theorem rampStep (t : Tile) : Statement (.rampStep t) := ⟨fun _ h => h, fun _ => rfl⟩
theorem mark (t : Tile) (ops : (BitVec 66)) : Statement (.mark t ops) := ⟨fun _ h => h, fun _ => rfl⟩
theorem stream (t : Tile) (ops : (BitVec 66)) : Statement (.stream t ops) := ⟨fun _ h => h, fun _ => rfl⟩
theorem switch (t : Tile) (ops : (BitVec 66)) : Statement (.switch t ops) := ⟨fun _ h => h, fun _ => rfl⟩
theorem signal (t : Tile) (ops : (BitVec 66)) : Statement (.signal t ops) := ⟨fun _ h => h, fun _ => rfl⟩
theorem count (t : Tile) (ops : (BitVec 66)) : Statement (.count t ops) := ⟨fun _ h => h, fun _ => rfl⟩
theorem userOpcode (t : Tile) (word : Word72) : Statement (.userOpcode t word) := by
  show decide (0x16 ≤ fieldOf word.toNat 66 6) = true ↔ ¬ (fieldOf word.toNat 66 6 < 0x16)
  simp
theorem spinFault (t : Tile) : Statement (.spinFault t) := ⟨fun _ h => h, fun _ => rfl⟩
theorem microFault (t : Tile) : Statement (.microFault t) := ⟨fun _ h => h, fun _ => rfl⟩
theorem gap (t : Tile) : Statement (.gap t) := ⟨fun _ h => h, fun _ => rfl⟩
theorem gapEnd (t : Tile) : Statement (.gapEnd t) := ⟨fun _ h => h, fun _ => rfl⟩
theorem seqLoad (t : Tile) (tag : (BitVec 8)) (c : CtxNo) (mode : (BitVec 2)) : Statement (.seqLoad t tag c mode) :=
  ⟨fun _ h => h, fun _ => rfl⟩
theorem seqPrep (t : Tile) (tag : (BitVec 8)) (c : CtxNo) (mode : (BitVec 2)) : Statement (.seqPrep t tag c mode) :=
  ⟨fun _ h => h, fun _ => rfl⟩
theorem prepComplete (t : Tile) : Statement (.prepComplete t) := ⟨fun _ h => h, fun _ => rfl⟩
theorem seqStart (t : Tile) (tag : (BitVec 8)) (c : CtxNo) (mode : (BitVec 2)) : Statement (.seqStart t tag c mode) :=
  ⟨fun _ h => h, fun _ => rfl⟩
theorem seqResume (t : Tile) (tag : (BitVec 8)) (c : CtxNo) (mode : (BitVec 2)) : Statement (.seqResume t tag c mode) :=
  ⟨fun _ h => h, fun _ => rfl⟩
theorem startCycle (t : Tile) : Statement (.startCycle t) := ⟨fun _ h => h, fun _ => rfl⟩
theorem seqPause (t : Tile) (tag : (BitVec 8)) (c : CtxNo) (mode : (BitVec 2)) : Statement (.seqPause t tag c mode) :=
  ⟨fun _ h => h, fun _ => rfl⟩
theorem pauseEffect (t : Tile) : Statement (.pauseEffect t) := ⟨fun _ h => h, fun _ => rfl⟩
theorem seqStop (t : Tile) (tag : (BitVec 8)) (c : CtxNo) (mode : (BitVec 2)) : Statement (.seqStop t tag c mode) :=
  ⟨fun _ h => h, fun _ => rfl⟩
theorem stopEffect (t : Tile) : Statement (.stopEffect t) := ⟨fun _ h => h, fun _ => rfl⟩
theorem seqRelease (t : Tile) (tag : (BitVec 8)) (c : CtxNo) (mode : (BitVec 2)) : Statement (.seqRelease t tag c mode) :=
  ⟨fun _ h => h, fun _ => rfl⟩
theorem contextTableWrite (c : CtxNo) (off : (BitVec 9)) (v : Word) : Statement (.contextTableWrite c off v) :=
  ⟨fun _ h => h, fun _ => rfl⟩
theorem trigEdge (n : TrigNo) (rising : Bool) (fine : (BitVec 10)) : Statement (.trigEdge n rising fine) :=
  ⟨fun _ h => h, fun _ => rfl⟩
theorem thresholdChange (c : CapCh) (i : (Fin 4)) (q : Bool) (ts : Ts) : Statement (.thresholdChange c i q ts) :=
  ⟨fun _ h => h, fun _ => rfl⟩
theorem pinCompareFail (p : Pin) (ts : Ts) (tsel : (BitVec 4)) : Statement (.pinCompareFail p ts tsel) :=
  ⟨fun _ h => h, fun _ => rfl⟩
theorem matcherMatch (g : Grp) (m : (Fin 8)) (bit : Bool) (code : (BitVec 4)) (ts : Ts) : Statement (.matcherMatch g m bit code ts) :=
  ⟨fun _ h => h, fun _ => rfl⟩
theorem eventRegistration (n : EvtNo) (ts : Ts) : Statement (.eventRegistration n ts) := ⟨fun _ h => h, fun _ => rfl⟩
theorem commitGoto (t : Tile) : Statement (.commitGoto t) := ⟨fun _ h => h, fun _ => rfl⟩
theorem commitCall (t : Tile) : Statement (.commitCall t) := ⟨fun _ h => h, fun _ => rfl⟩
theorem commitSwitch (t : Tile) : Statement (.commitSwitch t) := ⟨fun _ h => h, fun _ => rfl⟩
theorem commitStop (t : Tile) : Statement (.commitStop t) := ⟨fun _ h => h, fun _ => rfl⟩
theorem commitCount (t : Tile) : Statement (.commitCount t) := ⟨fun _ h => h, fun _ => rfl⟩
theorem landedRunStart (t : Tile) : Statement (.landedRunStart t) := ⟨fun _ h => h, fun _ => rfl⟩
theorem landingFillStart (t : Tile) : Statement (.landingFillStart t) := ⟨fun _ h => h, fun _ => rfl⟩
theorem landingFillComplete (t : Tile) : Statement (.landingFillComplete t) := ⟨fun _ h => h, fun _ => rfl⟩
theorem timerStart (n : TimerNo) : Statement (.timerStart n) := ⟨fun _ h => h, fun _ => rfl⟩
theorem timerStop (n : TimerNo) : Statement (.timerStop n) := ⟨fun _ h => h, fun _ => rfl⟩
theorem timerExpiry (n : TimerNo) : Statement (.timerExpiry n) := ⟨fun _ h => h, fun _ => rfl⟩
theorem evtHostRaise (v : Word) : Statement (.evtHostRaise v) := ⟨fun _ h => h, fun _ => rfl⟩
theorem hostEventRaiseMessage (n : (Fin 32)) : Statement (.hostEventRaiseMessage n) := ⟨fun _ h => h, fun _ => rfl⟩
theorem systemEventMessage (se : (BitVec 8)) (origin : (BitVec 9)) (ts : Ts) (apply : (BitVec 64)) (port : PortNo) : Statement (.systemEventMessage se origin ts apply port) :=
  ⟨fun _ h => h, fun _ => rfl⟩
theorem blockPlayed (t : Tile) : Statement (.blockPlayed t) := ⟨fun _ h => h, fun _ => rfl⟩
theorem ringFillResume (h : (BitVec 24)) : Statement (.ringFillResume h) := ⟨fun _ h => h, fun _ => rfl⟩
theorem underrun (t : Tile) : Statement (.underrun t) := ⟨fun _ h => h, fun _ => rfl⟩
theorem holdRestart (t : Tile) : Statement (.holdRestart t) := ⟨fun _ h => h, fun _ => rfl⟩
theorem divertCommit (t : Tile) : Statement (.divertCommit t) := ⟨fun _ h => h, fun _ => rfl⟩
theorem slipwayTableWrite (e : (Fin 256)) (off : (BitVec 6)) (v : Word) : Statement (.slipwayTableWrite e off v) :=
  ⟨fun _ h => h, fun _ => rfl⟩
theorem mcUload (t : Tile) (v : Word) : Statement (.mcUload t v) := ⟨fun _ h => h, fun _ => rfl⟩
theorem userReloadComplete (t : Tile) : Statement (.userReloadComplete t) := ⟨fun _ h => h, fun _ => rfl⟩
theorem ukeyOpen (v : Word) : Statement (.ukeyOpen v) := ⟨fun _ h => h, fun _ => rfl⟩
theorem ukeyHashWrite (i : (Fin 12)) (v : Word) : Statement (.ukeyHashWrite i v) := ⟨fun _ h => h, fun _ => rfl⟩
theorem fuseBurnComplete : Statement .fuseBurnComplete := ⟨fun _ h => h, fun _ => rfl⟩
theorem wavForceSafeSet (w : Wave) (v : Word) : Statement (.wavForceSafeSet w v) := ⟨fun _ h => h, fun _ => rfl⟩
theorem wavForceSafeClear (w : Wave) (v : Word) : Statement (.wavForceSafeClear w v) := ⟨fun _ h => h, fun _ => rfl⟩
theorem rangeMuteEnd (w : Wave) : Statement (.rangeMuteEnd w) := ⟨fun _ h => h, fun _ => rfl⟩
theorem tsHstageD2Write (g : Grp) (v : Word) : Statement (.tsHstageD2Write g v) := ⟨fun _ h => h, fun _ => rfl⟩
theorem tsHcommit (g : Grp) (v : Word) : Statement (.tsHcommit g v) := ⟨fun _ h => h, fun _ => rfl⟩
theorem grpForceSafeSet (g : Grp) (v : Word) : Statement (.grpForceSafeSet g v) := ⟨fun _ h => h, fun _ => rfl⟩
theorem grpForceSafeClear (g : Grp) (v : Word) : Statement (.grpForceSafeClear g v) := ⟨fun _ h => h, fun _ => rfl⟩
theorem liveHold (second : Bool) (v : Word) : Statement (.liveHold second v) := ⟨fun _ h => h, fun _ => rfl⟩
theorem pcapStart (g : Grp) (v : Word) : Statement (.pcapStart g v) := ⟨fun _ h => h, fun _ => rfl⟩
theorem pcapStop (g : Grp) (v : Word) : Statement (.pcapStop g v) := ⟨fun _ h => h, fun _ => rfl⟩
theorem captureChannelReset (c : CapCh) (v : Word) : Statement (.captureChannelReset c v) :=
  ⟨fun _ h => h, fun _ => rfl⟩
theorem capSyncRequest (c : CapCh) (v : Word) : Statement (.capSyncRequest c v) := ⟨fun _ h => h, fun _ => rfl⟩
theorem synchronisingReset (c : CapCh) : Statement (.synchronisingReset c) := ⟨fun _ h => h, fun _ => rfl⟩
theorem rangeSettleReset (c : CapCh) : Statement (.rangeSettleReset c) := ⟨fun _ h => h, fun _ => rfl⟩
theorem settlingEnd (c : CapCh) : Statement (.settlingEnd c) := ⟨fun _ h => h, fun _ => rfl⟩
theorem firBankWrite (c : CapCh) (second : Bool) (tap : (Option (Fin 128))) (v : Word) : Statement (.firBankWrite c second tap v) :=
  ⟨fun _ h => h, fun _ => rfl⟩
theorem firSwap (c : CapCh) (v : Word) : Statement (.firSwap c v) := ⟨fun _ h => h, fun _ => rfl⟩
theorem fadeStart (c : CapCh) : Statement (.fadeStart c) := ⟨fun _ h => h, fun _ => rfl⟩
theorem fadeEnd (c : CapCh) : Statement (.fadeEnd c) := ⟨fun _ h => h, fun _ => rfl⟩
theorem capRecordStart (c : CapCh) (v : Word) : Statement (.capRecordStart c v) := ⟨fun _ h => h, fun _ => rfl⟩
theorem capRecordStop (c : CapCh) (v : Word) : Statement (.capRecordStop c v) := ⟨fun _ h => h, fun _ => rfl⟩
theorem cbufTrig (b : BufNo) (v : Word) : Statement (.cbufTrig b v) := ⟨fun _ h => h, fun _ => rfl⟩
theorem recordingEnd (b : BufNo) : Statement (.recordingEnd b) := ⟨fun _ h => h, fun _ => rfl⟩
theorem recordingDrainComplete (b : BufNo) : Statement (.recordingDrainComplete b) := ⟨fun _ h => h, fun _ => rfl⟩
theorem correctedRead (rank : RankNo) (n : (BitVec 3)) (loc : (BitVec 64)) : Statement (.correctedRead rank n loc) :=
  ⟨fun _ h => h, fun _ => rfl⟩
theorem uncorrectableRead (rank : RankNo) (h : (BitVec 24)) (off : (BitVec 34)) (loc : (BitVec 64)) : Statement (.uncorrectableRead rank h off loc) :=
  ⟨fun _ h => h, fun _ => rfl⟩
theorem caParityError (rank : RankNo) (loc : (BitVec 64)) : Statement (.caParityError rank loc) :=
  ⟨fun _ h => h, fun _ => rfl⟩
theorem writeParityError (rank : RankNo) (loc : (BitVec 64)) (retryFailed : Bool) : Statement (.writeParityError rank loc retryFailed) :=
  ⟨fun _ h => h, fun _ => rfl⟩
theorem lateRead : Statement .lateRead := ⟨fun _ h => h, fun _ => rfl⟩
theorem perBankRefresh (rank : RankNo) (bank : (Fin 64)) (idle : Bool) : Statement (.perBankRefresh rank bank idle) :=
  ⟨fun _ h => h, fun _ => rfl⟩
theorem urgentRefresh (rank : RankNo) (bank : (Fin 64)) : Statement (.urgentRefresh rank bank) :=
  ⟨fun _ h => h, fun _ => rfl⟩
theorem hbmTempRead (t0 : (BitVec 8)) (t1 : (BitVec 8)) (t2 : (BitVec 8)) (t3 : (BitVec 8)) : Statement (.hbmTempRead t0 t1 t2 t3) :=
  ⟨fun _ h => h, fun _ => rfl⟩
theorem hotAshTimeout : Statement .hotAshTimeout := ⟨fun _ h => h, fun _ => rfl⟩
theorem selfRefreshEntry : Statement .selfRefreshEntry := ⟨fun _ h => h, fun _ => rfl⟩
theorem selfRefreshExit : Statement .selfRefreshExit := ⟨fun _ h => h, fun _ => rfl⟩
theorem autoRetrain : Statement .autoRetrain := ⟨fun _ h => h, fun _ => rfl⟩
theorem retrainComplete (k : StackNo) (temp : (BitVec 8)) (fails : (List (Fin 16))) (lost : (List (Fin 16))) : Statement (.retrainComplete k temp fails lost) :=
  ⟨fun _ h => h, fun _ => rfl⟩
theorem refLoss : Statement .refLoss := ⟨fun _ h => h, fun _ => rfl⟩
theorem refQualified (src : (BitVec 2)) : Statement (.refQualified src) := ⟨fun _ h => h, fun _ => rfl⟩
theorem rootLockLoss : Statement .rootLockLoss := ⟨fun _ h => h, fun _ => rfl⟩
theorem lockAcquired (band : (BitVec 6)) : Statement (.lockAcquired band) := ⟨fun _ h => h, fun _ => rfl⟩
theorem slewComplete : Statement .slewComplete := ⟨fun _ h => h, fun _ => rfl⟩
theorem retune (tag : (BitVec 8)) : Statement (.retune tag) := ⟨fun _ h => h, fun _ => rfl⟩
theorem relock (tag : (BitVec 8)) : Statement (.relock tag) := ⟨fun _ h => h, fun _ => rfl⟩
theorem rampStart (tag : (BitVec 8)) (mode : (BitVec 2)) : Statement (.rampStart tag mode) :=
  ⟨fun _ h => h, fun _ => rfl⟩
theorem rampStop (tag : (BitVec 8)) (mode : (BitVec 2)) : Statement (.rampStop tag mode) := ⟨fun _ h => h, fun _ => rfl⟩
theorem clkRampEnd : Statement .clkRampEnd := ⟨fun _ h => h, fun _ => rfl⟩
theorem lightPresent (p : PortNo) (partner : Bool) : Statement (.lightPresent p partner) := ⟨fun _ h => h, fun _ => rfl⟩
theorem laneAligned (p : PortNo) : Statement (.laneAligned p) := ⟨fun _ h => h, fun _ => rfl⟩
theorem trainingTimeout (p : PortNo) : Statement (.trainingTimeout p) := ⟨fun _ h => h, fun _ => rfl⟩
theorem portCalibrationDone (p : PortNo) (rtt : (BitVec 32)) (turn : (BitVec 32)) (resid : (BitVec 32)) : Statement (.portCalibrationDone p rtt turn resid) :=
  ⟨fun _ h => h, fun _ => rfl⟩
theorem lightLoss (p : PortNo) : Statement (.lightLoss p) := ⟨fun _ h => h, fun _ => rfl⟩
theorem keepaliveTimeout (p : PortNo) : Statement (.keepaliveTimeout p) := ⟨fun _ h => h, fun _ => rfl⟩
theorem keepaliveSend (p : PortNo) : Statement (.keepaliveSend p) := ⟨fun _ h => h, fun _ => rfl⟩
theorem keepaliveMessage (p : PortNo) (time : (BitVec 64)) (trace : Bool) (joined : Bool) (depth : (BitVec 4)) (ready : (List (BitVec 9))) : Statement (.keepaliveMessage p time trace joined depth ready) :=
  ⟨fun _ h => h, fun _ => rfl⟩
theorem syncIssue : Statement .syncIssue := ⟨fun _ h => h, fun _ => rfl⟩
theorem syncMessage (p : PortNo) (ts : (BitVec 64)) (worst : (BitVec 32)) (grants : (List (BitVec 9))) (members : (List (BitVec 9))) : Statement (.syncMessage p ts worst grants members) :=
  ⟨fun _ h => h, fun _ => rfl⟩
theorem syncPulse : Statement .syncPulse := ⟨fun _ h => h, fun _ => rfl⟩
theorem peerDataFrame (p : PortNo) (kind : (BitVec 2)) (h : (BitVec 24)) (off : (BitVec 34)) (words : (List Word72)) (bad : (List Nat)) : Statement (.peerDataFrame p kind h off words bad) := by
  show bad.all (fun i => decide (i < words.length)) = true ↔ ¬ (∃ i ∈ bad, words.length ≤ i)
  simp
theorem txlRetrain (tag : (BitVec 8)) (p : PortNo) : Statement (.txlRetrain tag p) := ⟨fun _ h => h, fun _ => rfl⟩
theorem txlDown (tag : (BitVec 8)) (p : PortNo) : Statement (.txlDown tag p) := ⟨fun _ h => h, fun _ => rfl⟩
theorem txlIdWrite (v : Word) : Statement (.txlIdWrite v) := ⟨fun _ h => h, fun _ => rfl⟩
theorem heartbeatSend (host : Bool) : Statement (.heartbeatSend host) := ⟨fun _ h => h, fun _ => rfl⟩
theorem heartbeatMessage (host : Bool) : Statement (.heartbeatMessage host) := ⟨fun _ h => h, fun _ => rfl⟩
theorem fieldAbsenceTimeout : Statement .fieldAbsenceTimeout := ⟨fun _ h => h, fun _ => rfl⟩
theorem hostAbsenceTimeout : Statement .hostAbsenceTimeout := ⟨fun _ h => h, fun _ => rfl⟩
theorem watchdogExpiry : Statement .watchdogExpiry := ⟨fun _ h => h, fun _ => rfl⟩
theorem xngKick (v : Word) : Statement (.xngKick v) := ⟨fun _ h => h, fun _ => rfl⟩
theorem xngWdog (v : Word) : Statement (.xngWdog v) := ⟨fun _ h => h, fun _ => rfl⟩
theorem xngRaise (v : Word) : Statement (.xngRaise v) := ⟨fun _ h => h, fun _ => rfl⟩
theorem alarmMessage : Statement .alarmMessage := ⟨fun _ h => h, fun _ => rfl⟩
theorem notificationMessage : Statement .notificationMessage := ⟨fun _ h => h, fun _ => rfl⟩
theorem xngPopAlarm (v : Word) : Statement (.xngPopAlarm v) := ⟨fun _ h => h, fun _ => rfl⟩
theorem xngPopNote (v : Word) : Statement (.xngPopNote v) := ⟨fun _ h => h, fun _ => rfl⟩
theorem safeLatchClear (v : Word) : Statement (.safeLatchClear v) := ⟨fun _ h => h, fun _ => rfl⟩
theorem xngRingTail (r : RingNo) (v : Word) (descs : (List (BitVec 256))) : Statement (.xngRingTail r v descs) := by
  show decide (descs.length < 256) = true ↔ ¬ (256 ≤ descs.length)
  simp
theorem ferryFrame (r : RingNo) (words : (List Word72)) : Statement (.ferryFrame r words) := by
  show decide (words.length ≤ 455) = true ↔ ¬ (455 < words.length)
  simp
theorem ferryDescriptorComplete (r : RingNo) : Statement (.ferryDescriptorComplete r) := ⟨fun _ h => h, fun _ => rfl⟩
theorem perstNAssert : Statement .perstNAssert := ⟨fun _ h => h, fun _ => rfl⟩
theorem perstNRelease : Statement .perstNRelease := ⟨fun _ h => h, fun _ => rfl⟩
theorem smbusEepromRead (addr : (BitVec 11)) (n : Nat) : Statement (.smbusEepromRead addr n) := by
  show decide (n ≤ 2048) = true ↔ ¬ (2048 < n)
  simp
theorem smbusStatusRead : Statement .smbusStatusRead := ⟨fun _ h => h, fun _ => rfl⟩
theorem nvWriteEnable (v : Word) : Statement (.nvWriteEnable v) := ⟨fun _ h => h, fun _ => rfl⟩
theorem imgWriteBlock (tag : (BitVec 8)) : Statement (.imgWriteBlock tag) := ⟨fun _ h => h, fun _ => rfl⟩
theorem imgCommit (tag : (BitVec 8)) : Statement (.imgCommit tag) := ⟨fun _ h => h, fun _ => rfl⟩
theorem imgCommandComplete : Statement .imgCommandComplete := ⟨fun _ h => h, fun _ => rfl⟩
theorem dacLinearity (tag : (BitVec 8)) (target : (BitVec 8)) : Statement (.dacLinearity tag target) :=
  ⟨fun _ h => h, fun _ => rfl⟩
theorem dacMarkerTiming (tag : (BitVec 8)) (target : (BitVec 8)) : Statement (.dacMarkerTiming tag target) :=
  ⟨fun _ h => h, fun _ => rfl⟩
theorem adcCalibration (tag : (BitVec 8)) (target : (BitVec 8)) : Statement (.adcCalibration tag target) :=
  ⟨fun _ h => h, fun _ => rfl⟩
theorem pinLevels (tag : (BitVec 8)) (target : (BitVec 8)) : Statement (.pinLevels tag target) :=
  ⟨fun _ h => h, fun _ => rfl⟩
theorem pinDeskew (tag : (BitVec 8)) (target : (BitVec 8)) (opt : Bool) : Statement (.pinDeskew tag target opt) :=
  ⟨fun _ h => h, fun _ => rfl⟩
theorem terxaSkew (tag : (BitVec 8)) (target : (BitVec 8)) : Statement (.terxaSkew tag target) :=
  ⟨fun _ h => h, fun _ => rfl⟩
theorem hbmRetrain (tag : (BitVec 8)) (target : (BitVec 8)) : Statement (.hbmRetrain tag target) :=
  ⟨fun _ h => h, fun _ => rfl⟩
theorem calCommit (tag : (BitVec 8)) (target : (BitVec 8)) : Statement (.calCommit tag target) :=
  ⟨fun _ h => h, fun _ => rfl⟩
theorem calProcedureComplete (ok : Bool) (a : (BitVec 16)) (b : (BitVec 16)) (lat : (BitVec 32)) : Statement (.calProcedureComplete ok a b lat) :=
  ⟨fun _ h => h, fun _ => rfl⟩
theorem calCommitComplete : Statement .calCommitComplete := ⟨fun _ h => h, fun _ => rfl⟩
theorem dacTempRead (temps : (List (BitVec 8))) : Statement (.dacTempRead temps) := by
  show decide (temps.length = 8) = true ↔ ¬ (temps.length ≠ 8)
  simp
theorem monStart (n : MonNo) : Statement (.monStart n) := ⟨fun _ h => h, fun _ => rfl⟩
theorem monStop (n : MonNo) : Statement (.monStop n) := ⟨fun _ h => h, fun _ => rfl⟩
theorem monSnapshot (n : MonNo) : Statement (.monSnapshot n) := ⟨fun _ h => h, fun _ => rfl⟩
theorem bootStageComplete (temps : (BitVec 32)) (fails : (List (Fin 64))) : Statement (.bootStageComplete temps fails) :=
  ⟨fun _ h => h, fun _ => rfl⟩
theorem blockLockLoss (port : (Option PortNo)) : Statement (.blockLockLoss port) := ⟨fun _ h => h, fun _ => rfl⟩
theorem triangleReturnToBase : Statement .triangleReturnToBase := ⟨fun _ h => h, fun _ => rfl⟩
theorem hostSidePowerUp : Statement .hostSidePowerUp := ⟨fun _ h => h, fun _ => rfl⟩
theorem hostSidePowerLoss : Statement .hostSidePowerLoss := ⟨fun _ h => h, fun _ => rfl⟩

end Sys2Proof.Laws.Shape
end

