-- ==== Sys2Proof/Laws/State.lean ====
section
/-! SUPPORT. One lemma for each field of State under each update of Machine/Ops.lean: every field but the updated one is as
before. -/

namespace Sys2Proof.Machine

variable (s : State)

@[simp] theorem State.setRegWord_pending (a : Nat) (w : Word) : (s.setRegWord a w).pending = s.pending := rfl
@[simp] theorem State.setRegWord_now (a : Nat) (w : Word) : (s.setRegWord a w).now = s.now := rfl
@[simp] theorem State.setRegWord_timeOff (a : Nat) (w : Word) : (s.setRegWord a w).timeOff = s.timeOff := rfl
@[simp] theorem State.setRegWord_free (a : Nat) (w : Word) : (s.setRegWord a w).free = s.free := rfl
@[simp] theorem State.setRegWord_act (a : Nat) (w : Word) : (s.setRegWord a w).act = s.act := rfl
@[simp] theorem State.setRegWord_segs (a : Nat) (w : Word) : (s.setRegWord a w).segs = s.segs := rfl
@[simp] theorem State.setRegWord_stores (a : Nat) (w : Word) : (s.setRegWord a w).stores = s.stores := rfl
@[simp] theorem State.setRegWord_olds (a : Nat) (w : Word) : (s.setRegWord a w).olds = s.olds := rfl
@[simp] theorem State.setRegWord_mem (a : Nat) (w : Word) : (s.setRegWord a w).mem = s.mem := rfl
@[simp] theorem State.setRegWord_poison (a : Nat) (w : Word) : (s.setRegWord a w).poison = s.poison := rfl
@[simp] theorem State.setRegWord_nextSid (a : Nat) (w : Word) : (s.setRegWord a w).nextSid = s.nextSid := rfl
@[simp] theorem State.setRegWord_lows (a : Nat) (w : Word) : (s.setRegWord a w).lows = s.lows := rfl
@[simp] theorem State.setRegWord_ctxs (a : Nat) (w : Word) : (s.setRegWord a w).ctxs = s.ctxs := rfl
@[simp] theorem State.setRegWord_tiles (a : Nat) (w : Word) : (s.setRegWord a w).tiles = s.tiles := rfl
@[simp] theorem State.setRegWord_evt (a : Nat) (w : Word) : (s.setRegWord a w).evt = s.evt := rfl
@[simp] theorem State.setRegWord_wav (a : Nat) (w : Word) : (s.setRegWord a w).wav = s.wav := rfl
@[simp] theorem State.setRegWord_grp (a : Nat) (w : Word) : (s.setRegWord a w).grp = s.grp := rfl
@[simp] theorem State.setRegWord_cap (a : Nat) (w : Word) : (s.setRegWord a w).cap = s.cap := rfl
@[simp] theorem State.setRegWord_latch (a : Nat) (w : Word) : (s.setRegWord a w).latch = s.latch := rfl
@[simp] theorem State.setRegWord_xng (a : Nat) (w : Word) : (s.setRegWord a w).xng = s.xng := rfl
@[simp] theorem State.setRegWord_ustore (a : Nat) (w : Word) : (s.setRegWord a w).ustore = s.ustore := rfl
@[simp] theorem State.setRegWord_mon (a : Nat) (w : Word) : (s.setRegWord a w).mon = s.mon := rfl
@[simp] theorem State.setRegWord_wrote (a : Nat) (w : Word) : (s.setRegWord a w).wrote = s.wrote := rfl
@[simp] theorem State.setRegWord_monBegun (a : Nat) (w : Word) : (s.setRegWord a w).monBegun = s.monBegun := rfl
@[simp] theorem State.setRegWord_monEnded (a : Nat) (w : Word) : (s.setRegWord a w).monEnded = s.monEnded := rfl
@[simp] theorem State.setRegWord_mc (a : Nat) (w : Word) : (s.setRegWord a w).mc = s.mc := rfl
@[simp] theorem State.setRegWord_pw (a : Nat) (w : Word) : (s.setRegWord a w).pw = s.pw := rfl
@[simp] theorem State.setRegWord_clk (a : Nat) (w : Word) : (s.setRegWord a w).clk = s.clk := rfl
@[simp] theorem State.setRegWord_txl (a : Nat) (w : Word) : (s.setRegWord a w).txl = s.txl := rfl
@[simp] theorem State.setRegWord_cal (a : Nat) (w : Word) : (s.setRegWord a w).cal = s.cal := rfl
@[simp] theorem State.setRegWord_mram (a : Nat) (w : Word) : (s.setRegWord a w).mram = s.mram := rfl
@[simp] theorem State.setRegWord_ukey (a : Nat) (w : Word) : (s.setRegWord a w).ukey = s.ukey := rfl

@[simp] theorem State.put_pending (f : Fld) (v : Nat) : (s.put f v).pending = s.pending := rfl
@[simp] theorem State.put_now (f : Fld) (v : Nat) : (s.put f v).now = s.now := rfl
@[simp] theorem State.put_timeOff (f : Fld) (v : Nat) : (s.put f v).timeOff = s.timeOff := rfl
@[simp] theorem State.put_free (f : Fld) (v : Nat) : (s.put f v).free = s.free := rfl
@[simp] theorem State.put_act (f : Fld) (v : Nat) : (s.put f v).act = s.act := rfl
@[simp] theorem State.put_segs (f : Fld) (v : Nat) : (s.put f v).segs = s.segs := rfl
@[simp] theorem State.put_stores (f : Fld) (v : Nat) : (s.put f v).stores = s.stores := rfl
@[simp] theorem State.put_olds (f : Fld) (v : Nat) : (s.put f v).olds = s.olds := rfl
@[simp] theorem State.put_mem (f : Fld) (v : Nat) : (s.put f v).mem = s.mem := rfl
@[simp] theorem State.put_poison (f : Fld) (v : Nat) : (s.put f v).poison = s.poison := rfl
@[simp] theorem State.put_nextSid (f : Fld) (v : Nat) : (s.put f v).nextSid = s.nextSid := rfl
@[simp] theorem State.put_lows (f : Fld) (v : Nat) : (s.put f v).lows = s.lows := rfl
@[simp] theorem State.put_ctxs (f : Fld) (v : Nat) : (s.put f v).ctxs = s.ctxs := rfl
@[simp] theorem State.put_tiles (f : Fld) (v : Nat) : (s.put f v).tiles = s.tiles := rfl
@[simp] theorem State.put_evt (f : Fld) (v : Nat) : (s.put f v).evt = s.evt := rfl
@[simp] theorem State.put_wav (f : Fld) (v : Nat) : (s.put f v).wav = s.wav := rfl
@[simp] theorem State.put_grp (f : Fld) (v : Nat) : (s.put f v).grp = s.grp := rfl
@[simp] theorem State.put_cap (f : Fld) (v : Nat) : (s.put f v).cap = s.cap := rfl
@[simp] theorem State.put_latch (f : Fld) (v : Nat) : (s.put f v).latch = s.latch := rfl
@[simp] theorem State.put_xng (f : Fld) (v : Nat) : (s.put f v).xng = s.xng := rfl
@[simp] theorem State.put_ustore (f : Fld) (v : Nat) : (s.put f v).ustore = s.ustore := rfl
@[simp] theorem State.put_mon (f : Fld) (v : Nat) : (s.put f v).mon = s.mon := rfl
@[simp] theorem State.put_wrote (f : Fld) (v : Nat) : (s.put f v).wrote = s.wrote := rfl
@[simp] theorem State.put_monBegun (f : Fld) (v : Nat) : (s.put f v).monBegun = s.monBegun := rfl
@[simp] theorem State.put_monEnded (f : Fld) (v : Nat) : (s.put f v).monEnded = s.monEnded := rfl
@[simp] theorem State.put_mc (f : Fld) (v : Nat) : (s.put f v).mc = s.mc := rfl
@[simp] theorem State.put_pw (f : Fld) (v : Nat) : (s.put f v).pw = s.pw := rfl
@[simp] theorem State.put_clk (f : Fld) (v : Nat) : (s.put f v).clk = s.clk := rfl
@[simp] theorem State.put_txl (f : Fld) (v : Nat) : (s.put f v).txl = s.txl := rfl
@[simp] theorem State.put_cal (f : Fld) (v : Nat) : (s.put f v).cal = s.cal := rfl
@[simp] theorem State.put_mram (f : Fld) (v : Nat) : (s.put f v).mram = s.mram := rfl
@[simp] theorem State.put_ukey (f : Fld) (v : Nat) : (s.put f v).ukey = s.ukey := rfl

@[simp] theorem State.bump_pending (f : Fld) (n : Nat) : (s.bump f n).pending = s.pending := rfl
@[simp] theorem State.bump_now (f : Fld) (n : Nat) : (s.bump f n).now = s.now := rfl
@[simp] theorem State.bump_timeOff (f : Fld) (n : Nat) : (s.bump f n).timeOff = s.timeOff := rfl
@[simp] theorem State.bump_free (f : Fld) (n : Nat) : (s.bump f n).free = s.free := rfl
@[simp] theorem State.bump_act (f : Fld) (n : Nat) : (s.bump f n).act = s.act := rfl
@[simp] theorem State.bump_segs (f : Fld) (n : Nat) : (s.bump f n).segs = s.segs := rfl
@[simp] theorem State.bump_stores (f : Fld) (n : Nat) : (s.bump f n).stores = s.stores := rfl
@[simp] theorem State.bump_olds (f : Fld) (n : Nat) : (s.bump f n).olds = s.olds := rfl
@[simp] theorem State.bump_mem (f : Fld) (n : Nat) : (s.bump f n).mem = s.mem := rfl
@[simp] theorem State.bump_poison (f : Fld) (n : Nat) : (s.bump f n).poison = s.poison := rfl
@[simp] theorem State.bump_nextSid (f : Fld) (n : Nat) : (s.bump f n).nextSid = s.nextSid := rfl
@[simp] theorem State.bump_lows (f : Fld) (n : Nat) : (s.bump f n).lows = s.lows := rfl
@[simp] theorem State.bump_ctxs (f : Fld) (n : Nat) : (s.bump f n).ctxs = s.ctxs := rfl
@[simp] theorem State.bump_tiles (f : Fld) (n : Nat) : (s.bump f n).tiles = s.tiles := rfl
@[simp] theorem State.bump_evt (f : Fld) (n : Nat) : (s.bump f n).evt = s.evt := rfl
@[simp] theorem State.bump_wav (f : Fld) (n : Nat) : (s.bump f n).wav = s.wav := rfl
@[simp] theorem State.bump_grp (f : Fld) (n : Nat) : (s.bump f n).grp = s.grp := rfl
@[simp] theorem State.bump_cap (f : Fld) (n : Nat) : (s.bump f n).cap = s.cap := rfl
@[simp] theorem State.bump_latch (f : Fld) (n : Nat) : (s.bump f n).latch = s.latch := rfl
@[simp] theorem State.bump_xng (f : Fld) (n : Nat) : (s.bump f n).xng = s.xng := rfl
@[simp] theorem State.bump_ustore (f : Fld) (n : Nat) : (s.bump f n).ustore = s.ustore := rfl
@[simp] theorem State.bump_mon (f : Fld) (n : Nat) : (s.bump f n).mon = s.mon := rfl
@[simp] theorem State.bump_wrote (f : Fld) (n : Nat) : (s.bump f n).wrote = s.wrote := rfl
@[simp] theorem State.bump_monBegun (f : Fld) (n : Nat) : (s.bump f n).monBegun = s.monBegun := rfl
@[simp] theorem State.bump_monEnded (f : Fld) (n : Nat) : (s.bump f n).monEnded = s.monEnded := rfl
@[simp] theorem State.bump_mc (f : Fld) (n : Nat) : (s.bump f n).mc = s.mc := rfl
@[simp] theorem State.bump_pw (f : Fld) (n : Nat) : (s.bump f n).pw = s.pw := rfl
@[simp] theorem State.bump_clk (f : Fld) (n : Nat) : (s.bump f n).clk = s.clk := rfl
@[simp] theorem State.bump_txl (f : Fld) (n : Nat) : (s.bump f n).txl = s.txl := rfl
@[simp] theorem State.bump_cal (f : Fld) (n : Nat) : (s.bump f n).cal = s.cal := rfl
@[simp] theorem State.bump_mram (f : Fld) (n : Nat) : (s.bump f n).mram = s.mram := rfl
@[simp] theorem State.bump_ukey (f : Fld) (n : Nat) : (s.bump f n).ukey = s.ukey := rfl

@[simp] theorem State.put64_pending (lo hi : Fld) (v : Nat) : (s.put64 lo hi v).pending = s.pending := rfl
@[simp] theorem State.put64_now (lo hi : Fld) (v : Nat) : (s.put64 lo hi v).now = s.now := rfl
@[simp] theorem State.put64_timeOff (lo hi : Fld) (v : Nat) : (s.put64 lo hi v).timeOff = s.timeOff := rfl
@[simp] theorem State.put64_free (lo hi : Fld) (v : Nat) : (s.put64 lo hi v).free = s.free := rfl
@[simp] theorem State.put64_act (lo hi : Fld) (v : Nat) : (s.put64 lo hi v).act = s.act := rfl
@[simp] theorem State.put64_segs (lo hi : Fld) (v : Nat) : (s.put64 lo hi v).segs = s.segs := rfl
@[simp] theorem State.put64_stores (lo hi : Fld) (v : Nat) : (s.put64 lo hi v).stores = s.stores := rfl
@[simp] theorem State.put64_olds (lo hi : Fld) (v : Nat) : (s.put64 lo hi v).olds = s.olds := rfl
@[simp] theorem State.put64_mem (lo hi : Fld) (v : Nat) : (s.put64 lo hi v).mem = s.mem := rfl
@[simp] theorem State.put64_poison (lo hi : Fld) (v : Nat) : (s.put64 lo hi v).poison = s.poison := rfl
@[simp] theorem State.put64_nextSid (lo hi : Fld) (v : Nat) : (s.put64 lo hi v).nextSid = s.nextSid := rfl
@[simp] theorem State.put64_lows (lo hi : Fld) (v : Nat) : (s.put64 lo hi v).lows = s.lows := rfl
@[simp] theorem State.put64_ctxs (lo hi : Fld) (v : Nat) : (s.put64 lo hi v).ctxs = s.ctxs := rfl
@[simp] theorem State.put64_tiles (lo hi : Fld) (v : Nat) : (s.put64 lo hi v).tiles = s.tiles := rfl
@[simp] theorem State.put64_evt (lo hi : Fld) (v : Nat) : (s.put64 lo hi v).evt = s.evt := rfl
@[simp] theorem State.put64_wav (lo hi : Fld) (v : Nat) : (s.put64 lo hi v).wav = s.wav := rfl
@[simp] theorem State.put64_grp (lo hi : Fld) (v : Nat) : (s.put64 lo hi v).grp = s.grp := rfl
@[simp] theorem State.put64_cap (lo hi : Fld) (v : Nat) : (s.put64 lo hi v).cap = s.cap := rfl
@[simp] theorem State.put64_latch (lo hi : Fld) (v : Nat) : (s.put64 lo hi v).latch = s.latch := rfl
@[simp] theorem State.put64_xng (lo hi : Fld) (v : Nat) : (s.put64 lo hi v).xng = s.xng := rfl
@[simp] theorem State.put64_ustore (lo hi : Fld) (v : Nat) : (s.put64 lo hi v).ustore = s.ustore := rfl
@[simp] theorem State.put64_mon (lo hi : Fld) (v : Nat) : (s.put64 lo hi v).mon = s.mon := rfl
@[simp] theorem State.put64_wrote (lo hi : Fld) (v : Nat) : (s.put64 lo hi v).wrote = s.wrote := rfl
@[simp] theorem State.put64_monBegun (lo hi : Fld) (v : Nat) : (s.put64 lo hi v).monBegun = s.monBegun := rfl
@[simp] theorem State.put64_monEnded (lo hi : Fld) (v : Nat) : (s.put64 lo hi v).monEnded = s.monEnded := rfl
@[simp] theorem State.put64_mc (lo hi : Fld) (v : Nat) : (s.put64 lo hi v).mc = s.mc := rfl
@[simp] theorem State.put64_pw (lo hi : Fld) (v : Nat) : (s.put64 lo hi v).pw = s.pw := rfl
@[simp] theorem State.put64_clk (lo hi : Fld) (v : Nat) : (s.put64 lo hi v).clk = s.clk := rfl
@[simp] theorem State.put64_txl (lo hi : Fld) (v : Nat) : (s.put64 lo hi v).txl = s.txl := rfl
@[simp] theorem State.put64_cal (lo hi : Fld) (v : Nat) : (s.put64 lo hi v).cal = s.cal := rfl
@[simp] theorem State.put64_mram (lo hi : Fld) (v : Nat) : (s.put64 lo hi v).mram = s.mram := rfl
@[simp] theorem State.put64_ukey (lo hi : Fld) (v : Nat) : (s.put64 lo hi v).ukey = s.ukey := rfl

@[simp] theorem State.setActWord_pending (a : Nat) (w : Word) : (s.setActWord a w).pending = s.pending := rfl
@[simp] theorem State.setActWord_now (a : Nat) (w : Word) : (s.setActWord a w).now = s.now := rfl
@[simp] theorem State.setActWord_timeOff (a : Nat) (w : Word) : (s.setActWord a w).timeOff = s.timeOff := rfl
@[simp] theorem State.setActWord_free (a : Nat) (w : Word) : (s.setActWord a w).free = s.free := rfl
@[simp] theorem State.setActWord_regs (a : Nat) (w : Word) : (s.setActWord a w).regs = s.regs := rfl
@[simp] theorem State.setActWord_segs (a : Nat) (w : Word) : (s.setActWord a w).segs = s.segs := rfl
@[simp] theorem State.setActWord_stores (a : Nat) (w : Word) : (s.setActWord a w).stores = s.stores := rfl
@[simp] theorem State.setActWord_olds (a : Nat) (w : Word) : (s.setActWord a w).olds = s.olds := rfl
@[simp] theorem State.setActWord_mem (a : Nat) (w : Word) : (s.setActWord a w).mem = s.mem := rfl
@[simp] theorem State.setActWord_poison (a : Nat) (w : Word) : (s.setActWord a w).poison = s.poison := rfl
@[simp] theorem State.setActWord_nextSid (a : Nat) (w : Word) : (s.setActWord a w).nextSid = s.nextSid := rfl
@[simp] theorem State.setActWord_lows (a : Nat) (w : Word) : (s.setActWord a w).lows = s.lows := rfl
@[simp] theorem State.setActWord_ctxs (a : Nat) (w : Word) : (s.setActWord a w).ctxs = s.ctxs := rfl
@[simp] theorem State.setActWord_tiles (a : Nat) (w : Word) : (s.setActWord a w).tiles = s.tiles := rfl
@[simp] theorem State.setActWord_evt (a : Nat) (w : Word) : (s.setActWord a w).evt = s.evt := rfl
@[simp] theorem State.setActWord_wav (a : Nat) (w : Word) : (s.setActWord a w).wav = s.wav := rfl
@[simp] theorem State.setActWord_grp (a : Nat) (w : Word) : (s.setActWord a w).grp = s.grp := rfl
@[simp] theorem State.setActWord_cap (a : Nat) (w : Word) : (s.setActWord a w).cap = s.cap := rfl
@[simp] theorem State.setActWord_latch (a : Nat) (w : Word) : (s.setActWord a w).latch = s.latch := rfl
@[simp] theorem State.setActWord_xng (a : Nat) (w : Word) : (s.setActWord a w).xng = s.xng := rfl
@[simp] theorem State.setActWord_ustore (a : Nat) (w : Word) : (s.setActWord a w).ustore = s.ustore := rfl
@[simp] theorem State.setActWord_mon (a : Nat) (w : Word) : (s.setActWord a w).mon = s.mon := rfl
@[simp] theorem State.setActWord_wrote (a : Nat) (w : Word) : (s.setActWord a w).wrote = s.wrote := rfl
@[simp] theorem State.setActWord_monBegun (a : Nat) (w : Word) : (s.setActWord a w).monBegun = s.monBegun := rfl
@[simp] theorem State.setActWord_monEnded (a : Nat) (w : Word) : (s.setActWord a w).monEnded = s.monEnded := rfl
@[simp] theorem State.setActWord_mc (a : Nat) (w : Word) : (s.setActWord a w).mc = s.mc := rfl
@[simp] theorem State.setActWord_pw (a : Nat) (w : Word) : (s.setActWord a w).pw = s.pw := rfl
@[simp] theorem State.setActWord_clk (a : Nat) (w : Word) : (s.setActWord a w).clk = s.clk := rfl
@[simp] theorem State.setActWord_txl (a : Nat) (w : Word) : (s.setActWord a w).txl = s.txl := rfl
@[simp] theorem State.setActWord_cal (a : Nat) (w : Word) : (s.setActWord a w).cal = s.cal := rfl
@[simp] theorem State.setActWord_mram (a : Nat) (w : Word) : (s.setActWord a w).mram = s.mram := rfl
@[simp] theorem State.setActWord_ukey (a : Nat) (w : Word) : (s.setActWord a w).ukey = s.ukey := rfl

@[simp] theorem State.putActive_pending (f : Fld) (v : Nat) : (s.putActive f v).pending = s.pending := rfl
@[simp] theorem State.putActive_now (f : Fld) (v : Nat) : (s.putActive f v).now = s.now := rfl
@[simp] theorem State.putActive_timeOff (f : Fld) (v : Nat) : (s.putActive f v).timeOff = s.timeOff := rfl
@[simp] theorem State.putActive_free (f : Fld) (v : Nat) : (s.putActive f v).free = s.free := rfl
@[simp] theorem State.putActive_regs (f : Fld) (v : Nat) : (s.putActive f v).regs = s.regs := rfl
@[simp] theorem State.putActive_segs (f : Fld) (v : Nat) : (s.putActive f v).segs = s.segs := rfl
@[simp] theorem State.putActive_stores (f : Fld) (v : Nat) : (s.putActive f v).stores = s.stores := rfl
@[simp] theorem State.putActive_olds (f : Fld) (v : Nat) : (s.putActive f v).olds = s.olds := rfl
@[simp] theorem State.putActive_mem (f : Fld) (v : Nat) : (s.putActive f v).mem = s.mem := rfl
@[simp] theorem State.putActive_poison (f : Fld) (v : Nat) : (s.putActive f v).poison = s.poison := rfl
@[simp] theorem State.putActive_nextSid (f : Fld) (v : Nat) : (s.putActive f v).nextSid = s.nextSid := rfl
@[simp] theorem State.putActive_lows (f : Fld) (v : Nat) : (s.putActive f v).lows = s.lows := rfl
@[simp] theorem State.putActive_ctxs (f : Fld) (v : Nat) : (s.putActive f v).ctxs = s.ctxs := rfl
@[simp] theorem State.putActive_tiles (f : Fld) (v : Nat) : (s.putActive f v).tiles = s.tiles := rfl
@[simp] theorem State.putActive_evt (f : Fld) (v : Nat) : (s.putActive f v).evt = s.evt := rfl
@[simp] theorem State.putActive_wav (f : Fld) (v : Nat) : (s.putActive f v).wav = s.wav := rfl
@[simp] theorem State.putActive_grp (f : Fld) (v : Nat) : (s.putActive f v).grp = s.grp := rfl
@[simp] theorem State.putActive_cap (f : Fld) (v : Nat) : (s.putActive f v).cap = s.cap := rfl
@[simp] theorem State.putActive_latch (f : Fld) (v : Nat) : (s.putActive f v).latch = s.latch := rfl
@[simp] theorem State.putActive_xng (f : Fld) (v : Nat) : (s.putActive f v).xng = s.xng := rfl
@[simp] theorem State.putActive_ustore (f : Fld) (v : Nat) : (s.putActive f v).ustore = s.ustore := rfl
@[simp] theorem State.putActive_mon (f : Fld) (v : Nat) : (s.putActive f v).mon = s.mon := rfl
@[simp] theorem State.putActive_wrote (f : Fld) (v : Nat) : (s.putActive f v).wrote = s.wrote := rfl
@[simp] theorem State.putActive_monBegun (f : Fld) (v : Nat) : (s.putActive f v).monBegun = s.monBegun := rfl
@[simp] theorem State.putActive_monEnded (f : Fld) (v : Nat) : (s.putActive f v).monEnded = s.monEnded := rfl
@[simp] theorem State.putActive_mc (f : Fld) (v : Nat) : (s.putActive f v).mc = s.mc := rfl
@[simp] theorem State.putActive_pw (f : Fld) (v : Nat) : (s.putActive f v).pw = s.pw := rfl
@[simp] theorem State.putActive_clk (f : Fld) (v : Nat) : (s.putActive f v).clk = s.clk := rfl
@[simp] theorem State.putActive_txl (f : Fld) (v : Nat) : (s.putActive f v).txl = s.txl := rfl
@[simp] theorem State.putActive_cal (f : Fld) (v : Nat) : (s.putActive f v).cal = s.cal := rfl
@[simp] theorem State.putActive_mram (f : Fld) (v : Nat) : (s.putActive f v).mram = s.mram := rfl
@[simp] theorem State.putActive_ukey (f : Fld) (v : Nat) : (s.putActive f v).ukey = s.ukey := rfl

@[simp] theorem State.setCtx_pending (c : Nat) (x : Ctx) : (s.setCtx c x).pending = s.pending := rfl
@[simp] theorem State.setCtx_now (c : Nat) (x : Ctx) : (s.setCtx c x).now = s.now := rfl
@[simp] theorem State.setCtx_timeOff (c : Nat) (x : Ctx) : (s.setCtx c x).timeOff = s.timeOff := rfl
@[simp] theorem State.setCtx_free (c : Nat) (x : Ctx) : (s.setCtx c x).free = s.free := rfl
@[simp] theorem State.setCtx_regs (c : Nat) (x : Ctx) : (s.setCtx c x).regs = s.regs := rfl
@[simp] theorem State.setCtx_act (c : Nat) (x : Ctx) : (s.setCtx c x).act = s.act := rfl
@[simp] theorem State.setCtx_segs (c : Nat) (x : Ctx) : (s.setCtx c x).segs = s.segs := rfl
@[simp] theorem State.setCtx_stores (c : Nat) (x : Ctx) : (s.setCtx c x).stores = s.stores := rfl
@[simp] theorem State.setCtx_olds (c : Nat) (x : Ctx) : (s.setCtx c x).olds = s.olds := rfl
@[simp] theorem State.setCtx_mem (c : Nat) (x : Ctx) : (s.setCtx c x).mem = s.mem := rfl
@[simp] theorem State.setCtx_poison (c : Nat) (x : Ctx) : (s.setCtx c x).poison = s.poison := rfl
@[simp] theorem State.setCtx_nextSid (c : Nat) (x : Ctx) : (s.setCtx c x).nextSid = s.nextSid := rfl
@[simp] theorem State.setCtx_lows (c : Nat) (x : Ctx) : (s.setCtx c x).lows = s.lows := rfl
@[simp] theorem State.setCtx_tiles (c : Nat) (x : Ctx) : (s.setCtx c x).tiles = s.tiles := rfl
@[simp] theorem State.setCtx_evt (c : Nat) (x : Ctx) : (s.setCtx c x).evt = s.evt := rfl
@[simp] theorem State.setCtx_wav (c : Nat) (x : Ctx) : (s.setCtx c x).wav = s.wav := rfl
@[simp] theorem State.setCtx_grp (c : Nat) (x : Ctx) : (s.setCtx c x).grp = s.grp := rfl
@[simp] theorem State.setCtx_cap (c : Nat) (x : Ctx) : (s.setCtx c x).cap = s.cap := rfl
@[simp] theorem State.setCtx_latch (c : Nat) (x : Ctx) : (s.setCtx c x).latch = s.latch := rfl
@[simp] theorem State.setCtx_xng (c : Nat) (x : Ctx) : (s.setCtx c x).xng = s.xng := rfl
@[simp] theorem State.setCtx_ustore (c : Nat) (x : Ctx) : (s.setCtx c x).ustore = s.ustore := rfl
@[simp] theorem State.setCtx_mon (c : Nat) (x : Ctx) : (s.setCtx c x).mon = s.mon := rfl
@[simp] theorem State.setCtx_wrote (c : Nat) (x : Ctx) : (s.setCtx c x).wrote = s.wrote := rfl
@[simp] theorem State.setCtx_monBegun (c : Nat) (x : Ctx) : (s.setCtx c x).monBegun = s.monBegun := rfl
@[simp] theorem State.setCtx_monEnded (c : Nat) (x : Ctx) : (s.setCtx c x).monEnded = s.monEnded := rfl
@[simp] theorem State.setCtx_mc (c : Nat) (x : Ctx) : (s.setCtx c x).mc = s.mc := rfl
@[simp] theorem State.setCtx_pw (c : Nat) (x : Ctx) : (s.setCtx c x).pw = s.pw := rfl
@[simp] theorem State.setCtx_clk (c : Nat) (x : Ctx) : (s.setCtx c x).clk = s.clk := rfl
@[simp] theorem State.setCtx_txl (c : Nat) (x : Ctx) : (s.setCtx c x).txl = s.txl := rfl
@[simp] theorem State.setCtx_cal (c : Nat) (x : Ctx) : (s.setCtx c x).cal = s.cal := rfl
@[simp] theorem State.setCtx_mram (c : Nat) (x : Ctx) : (s.setCtx c x).mram = s.mram := rfl
@[simp] theorem State.setCtx_ukey (c : Nat) (x : Ctx) : (s.setCtx c x).ukey = s.ukey := rfl

@[simp] theorem State.setTile_pending (t : Nat) (x : TileSt) : (s.setTile t x).pending = s.pending := rfl
@[simp] theorem State.setTile_now (t : Nat) (x : TileSt) : (s.setTile t x).now = s.now := rfl
@[simp] theorem State.setTile_timeOff (t : Nat) (x : TileSt) : (s.setTile t x).timeOff = s.timeOff := rfl
@[simp] theorem State.setTile_free (t : Nat) (x : TileSt) : (s.setTile t x).free = s.free := rfl
@[simp] theorem State.setTile_regs (t : Nat) (x : TileSt) : (s.setTile t x).regs = s.regs := rfl
@[simp] theorem State.setTile_act (t : Nat) (x : TileSt) : (s.setTile t x).act = s.act := rfl
@[simp] theorem State.setTile_segs (t : Nat) (x : TileSt) : (s.setTile t x).segs = s.segs := rfl
@[simp] theorem State.setTile_stores (t : Nat) (x : TileSt) : (s.setTile t x).stores = s.stores := rfl
@[simp] theorem State.setTile_olds (t : Nat) (x : TileSt) : (s.setTile t x).olds = s.olds := rfl
@[simp] theorem State.setTile_mem (t : Nat) (x : TileSt) : (s.setTile t x).mem = s.mem := rfl
@[simp] theorem State.setTile_poison (t : Nat) (x : TileSt) : (s.setTile t x).poison = s.poison := rfl
@[simp] theorem State.setTile_nextSid (t : Nat) (x : TileSt) : (s.setTile t x).nextSid = s.nextSid := rfl
@[simp] theorem State.setTile_lows (t : Nat) (x : TileSt) : (s.setTile t x).lows = s.lows := rfl
@[simp] theorem State.setTile_ctxs (t : Nat) (x : TileSt) : (s.setTile t x).ctxs = s.ctxs := rfl
@[simp] theorem State.setTile_evt (t : Nat) (x : TileSt) : (s.setTile t x).evt = s.evt := rfl
@[simp] theorem State.setTile_wav (t : Nat) (x : TileSt) : (s.setTile t x).wav = s.wav := rfl
@[simp] theorem State.setTile_grp (t : Nat) (x : TileSt) : (s.setTile t x).grp = s.grp := rfl
@[simp] theorem State.setTile_cap (t : Nat) (x : TileSt) : (s.setTile t x).cap = s.cap := rfl
@[simp] theorem State.setTile_latch (t : Nat) (x : TileSt) : (s.setTile t x).latch = s.latch := rfl
@[simp] theorem State.setTile_xng (t : Nat) (x : TileSt) : (s.setTile t x).xng = s.xng := rfl
@[simp] theorem State.setTile_ustore (t : Nat) (x : TileSt) : (s.setTile t x).ustore = s.ustore := rfl
@[simp] theorem State.setTile_mon (t : Nat) (x : TileSt) : (s.setTile t x).mon = s.mon := rfl
@[simp] theorem State.setTile_wrote (t : Nat) (x : TileSt) : (s.setTile t x).wrote = s.wrote := rfl
@[simp] theorem State.setTile_monBegun (t : Nat) (x : TileSt) : (s.setTile t x).monBegun = s.monBegun := rfl
@[simp] theorem State.setTile_monEnded (t : Nat) (x : TileSt) : (s.setTile t x).monEnded = s.monEnded := rfl
@[simp] theorem State.setTile_mc (t : Nat) (x : TileSt) : (s.setTile t x).mc = s.mc := rfl
@[simp] theorem State.setTile_pw (t : Nat) (x : TileSt) : (s.setTile t x).pw = s.pw := rfl
@[simp] theorem State.setTile_clk (t : Nat) (x : TileSt) : (s.setTile t x).clk = s.clk := rfl
@[simp] theorem State.setTile_txl (t : Nat) (x : TileSt) : (s.setTile t x).txl = s.txl := rfl
@[simp] theorem State.setTile_cal (t : Nat) (x : TileSt) : (s.setTile t x).cal = s.cal := rfl
@[simp] theorem State.setTile_mram (t : Nat) (x : TileSt) : (s.setTile t x).mram = s.mram := rfl
@[simp] theorem State.setTile_ukey (t : Nat) (x : TileSt) : (s.setTile t x).ukey = s.ukey := rfl

@[simp] theorem State.setWave_pending (w : Nat) (x : WavSt) : (s.setWave w x).pending = s.pending := rfl
@[simp] theorem State.setWave_now (w : Nat) (x : WavSt) : (s.setWave w x).now = s.now := rfl
@[simp] theorem State.setWave_timeOff (w : Nat) (x : WavSt) : (s.setWave w x).timeOff = s.timeOff := rfl
@[simp] theorem State.setWave_free (w : Nat) (x : WavSt) : (s.setWave w x).free = s.free := rfl
@[simp] theorem State.setWave_regs (w : Nat) (x : WavSt) : (s.setWave w x).regs = s.regs := rfl
@[simp] theorem State.setWave_act (w : Nat) (x : WavSt) : (s.setWave w x).act = s.act := rfl
@[simp] theorem State.setWave_segs (w : Nat) (x : WavSt) : (s.setWave w x).segs = s.segs := rfl
@[simp] theorem State.setWave_stores (w : Nat) (x : WavSt) : (s.setWave w x).stores = s.stores := rfl
@[simp] theorem State.setWave_olds (w : Nat) (x : WavSt) : (s.setWave w x).olds = s.olds := rfl
@[simp] theorem State.setWave_mem (w : Nat) (x : WavSt) : (s.setWave w x).mem = s.mem := rfl
@[simp] theorem State.setWave_poison (w : Nat) (x : WavSt) : (s.setWave w x).poison = s.poison := rfl
@[simp] theorem State.setWave_nextSid (w : Nat) (x : WavSt) : (s.setWave w x).nextSid = s.nextSid := rfl
@[simp] theorem State.setWave_lows (w : Nat) (x : WavSt) : (s.setWave w x).lows = s.lows := rfl
@[simp] theorem State.setWave_ctxs (w : Nat) (x : WavSt) : (s.setWave w x).ctxs = s.ctxs := rfl
@[simp] theorem State.setWave_tiles (w : Nat) (x : WavSt) : (s.setWave w x).tiles = s.tiles := rfl
@[simp] theorem State.setWave_evt (w : Nat) (x : WavSt) : (s.setWave w x).evt = s.evt := rfl
@[simp] theorem State.setWave_grp (w : Nat) (x : WavSt) : (s.setWave w x).grp = s.grp := rfl
@[simp] theorem State.setWave_cap (w : Nat) (x : WavSt) : (s.setWave w x).cap = s.cap := rfl
@[simp] theorem State.setWave_latch (w : Nat) (x : WavSt) : (s.setWave w x).latch = s.latch := rfl
@[simp] theorem State.setWave_xng (w : Nat) (x : WavSt) : (s.setWave w x).xng = s.xng := rfl
@[simp] theorem State.setWave_ustore (w : Nat) (x : WavSt) : (s.setWave w x).ustore = s.ustore := rfl
@[simp] theorem State.setWave_mon (w : Nat) (x : WavSt) : (s.setWave w x).mon = s.mon := rfl
@[simp] theorem State.setWave_wrote (w : Nat) (x : WavSt) : (s.setWave w x).wrote = s.wrote := rfl
@[simp] theorem State.setWave_monBegun (w : Nat) (x : WavSt) : (s.setWave w x).monBegun = s.monBegun := rfl
@[simp] theorem State.setWave_monEnded (w : Nat) (x : WavSt) : (s.setWave w x).monEnded = s.monEnded := rfl
@[simp] theorem State.setWave_mc (w : Nat) (x : WavSt) : (s.setWave w x).mc = s.mc := rfl
@[simp] theorem State.setWave_pw (w : Nat) (x : WavSt) : (s.setWave w x).pw = s.pw := rfl
@[simp] theorem State.setWave_clk (w : Nat) (x : WavSt) : (s.setWave w x).clk = s.clk := rfl
@[simp] theorem State.setWave_txl (w : Nat) (x : WavSt) : (s.setWave w x).txl = s.txl := rfl
@[simp] theorem State.setWave_cal (w : Nat) (x : WavSt) : (s.setWave w x).cal = s.cal := rfl
@[simp] theorem State.setWave_mram (w : Nat) (x : WavSt) : (s.setWave w x).mram = s.mram := rfl
@[simp] theorem State.setWave_ukey (w : Nat) (x : WavSt) : (s.setWave w x).ukey = s.ukey := rfl

@[simp] theorem State.setGroup_pending (g : Nat) (x : GrpSt) : (s.setGroup g x).pending = s.pending := rfl
@[simp] theorem State.setGroup_now (g : Nat) (x : GrpSt) : (s.setGroup g x).now = s.now := rfl
@[simp] theorem State.setGroup_timeOff (g : Nat) (x : GrpSt) : (s.setGroup g x).timeOff = s.timeOff := rfl
@[simp] theorem State.setGroup_free (g : Nat) (x : GrpSt) : (s.setGroup g x).free = s.free := rfl
@[simp] theorem State.setGroup_regs (g : Nat) (x : GrpSt) : (s.setGroup g x).regs = s.regs := rfl
@[simp] theorem State.setGroup_act (g : Nat) (x : GrpSt) : (s.setGroup g x).act = s.act := rfl
@[simp] theorem State.setGroup_segs (g : Nat) (x : GrpSt) : (s.setGroup g x).segs = s.segs := rfl
@[simp] theorem State.setGroup_stores (g : Nat) (x : GrpSt) : (s.setGroup g x).stores = s.stores := rfl
@[simp] theorem State.setGroup_olds (g : Nat) (x : GrpSt) : (s.setGroup g x).olds = s.olds := rfl
@[simp] theorem State.setGroup_mem (g : Nat) (x : GrpSt) : (s.setGroup g x).mem = s.mem := rfl
@[simp] theorem State.setGroup_poison (g : Nat) (x : GrpSt) : (s.setGroup g x).poison = s.poison := rfl
@[simp] theorem State.setGroup_nextSid (g : Nat) (x : GrpSt) : (s.setGroup g x).nextSid = s.nextSid := rfl
@[simp] theorem State.setGroup_lows (g : Nat) (x : GrpSt) : (s.setGroup g x).lows = s.lows := rfl
@[simp] theorem State.setGroup_ctxs (g : Nat) (x : GrpSt) : (s.setGroup g x).ctxs = s.ctxs := rfl
@[simp] theorem State.setGroup_tiles (g : Nat) (x : GrpSt) : (s.setGroup g x).tiles = s.tiles := rfl
@[simp] theorem State.setGroup_evt (g : Nat) (x : GrpSt) : (s.setGroup g x).evt = s.evt := rfl
@[simp] theorem State.setGroup_wav (g : Nat) (x : GrpSt) : (s.setGroup g x).wav = s.wav := rfl
@[simp] theorem State.setGroup_cap (g : Nat) (x : GrpSt) : (s.setGroup g x).cap = s.cap := rfl
@[simp] theorem State.setGroup_latch (g : Nat) (x : GrpSt) : (s.setGroup g x).latch = s.latch := rfl
@[simp] theorem State.setGroup_xng (g : Nat) (x : GrpSt) : (s.setGroup g x).xng = s.xng := rfl
@[simp] theorem State.setGroup_ustore (g : Nat) (x : GrpSt) : (s.setGroup g x).ustore = s.ustore := rfl
@[simp] theorem State.setGroup_mon (g : Nat) (x : GrpSt) : (s.setGroup g x).mon = s.mon := rfl
@[simp] theorem State.setGroup_wrote (g : Nat) (x : GrpSt) : (s.setGroup g x).wrote = s.wrote := rfl
@[simp] theorem State.setGroup_monBegun (g : Nat) (x : GrpSt) : (s.setGroup g x).monBegun = s.monBegun := rfl
@[simp] theorem State.setGroup_monEnded (g : Nat) (x : GrpSt) : (s.setGroup g x).monEnded = s.monEnded := rfl
@[simp] theorem State.setGroup_mc (g : Nat) (x : GrpSt) : (s.setGroup g x).mc = s.mc := rfl
@[simp] theorem State.setGroup_pw (g : Nat) (x : GrpSt) : (s.setGroup g x).pw = s.pw := rfl
@[simp] theorem State.setGroup_clk (g : Nat) (x : GrpSt) : (s.setGroup g x).clk = s.clk := rfl
@[simp] theorem State.setGroup_txl (g : Nat) (x : GrpSt) : (s.setGroup g x).txl = s.txl := rfl
@[simp] theorem State.setGroup_cal (g : Nat) (x : GrpSt) : (s.setGroup g x).cal = s.cal := rfl
@[simp] theorem State.setGroup_mram (g : Nat) (x : GrpSt) : (s.setGroup g x).mram = s.mram := rfl
@[simp] theorem State.setGroup_ukey (g : Nat) (x : GrpSt) : (s.setGroup g x).ukey = s.ukey := rfl

@[simp] theorem State.setCapture_pending (c : Nat) (x : CapSt) : (s.setCapture c x).pending = s.pending := rfl
@[simp] theorem State.setCapture_now (c : Nat) (x : CapSt) : (s.setCapture c x).now = s.now := rfl
@[simp] theorem State.setCapture_timeOff (c : Nat) (x : CapSt) : (s.setCapture c x).timeOff = s.timeOff := rfl
@[simp] theorem State.setCapture_free (c : Nat) (x : CapSt) : (s.setCapture c x).free = s.free := rfl
@[simp] theorem State.setCapture_regs (c : Nat) (x : CapSt) : (s.setCapture c x).regs = s.regs := rfl
@[simp] theorem State.setCapture_act (c : Nat) (x : CapSt) : (s.setCapture c x).act = s.act := rfl
@[simp] theorem State.setCapture_segs (c : Nat) (x : CapSt) : (s.setCapture c x).segs = s.segs := rfl
@[simp] theorem State.setCapture_stores (c : Nat) (x : CapSt) : (s.setCapture c x).stores = s.stores := rfl
@[simp] theorem State.setCapture_olds (c : Nat) (x : CapSt) : (s.setCapture c x).olds = s.olds := rfl
@[simp] theorem State.setCapture_mem (c : Nat) (x : CapSt) : (s.setCapture c x).mem = s.mem := rfl
@[simp] theorem State.setCapture_poison (c : Nat) (x : CapSt) : (s.setCapture c x).poison = s.poison := rfl
@[simp] theorem State.setCapture_nextSid (c : Nat) (x : CapSt) : (s.setCapture c x).nextSid = s.nextSid := rfl
@[simp] theorem State.setCapture_lows (c : Nat) (x : CapSt) : (s.setCapture c x).lows = s.lows := rfl
@[simp] theorem State.setCapture_ctxs (c : Nat) (x : CapSt) : (s.setCapture c x).ctxs = s.ctxs := rfl
@[simp] theorem State.setCapture_tiles (c : Nat) (x : CapSt) : (s.setCapture c x).tiles = s.tiles := rfl
@[simp] theorem State.setCapture_evt (c : Nat) (x : CapSt) : (s.setCapture c x).evt = s.evt := rfl
@[simp] theorem State.setCapture_wav (c : Nat) (x : CapSt) : (s.setCapture c x).wav = s.wav := rfl
@[simp] theorem State.setCapture_grp (c : Nat) (x : CapSt) : (s.setCapture c x).grp = s.grp := rfl
@[simp] theorem State.setCapture_latch (c : Nat) (x : CapSt) : (s.setCapture c x).latch = s.latch := rfl
@[simp] theorem State.setCapture_xng (c : Nat) (x : CapSt) : (s.setCapture c x).xng = s.xng := rfl
@[simp] theorem State.setCapture_ustore (c : Nat) (x : CapSt) : (s.setCapture c x).ustore = s.ustore := rfl
@[simp] theorem State.setCapture_mon (c : Nat) (x : CapSt) : (s.setCapture c x).mon = s.mon := rfl
@[simp] theorem State.setCapture_wrote (c : Nat) (x : CapSt) : (s.setCapture c x).wrote = s.wrote := rfl
@[simp] theorem State.setCapture_monBegun (c : Nat) (x : CapSt) : (s.setCapture c x).monBegun = s.monBegun := rfl
@[simp] theorem State.setCapture_monEnded (c : Nat) (x : CapSt) : (s.setCapture c x).monEnded = s.monEnded := rfl
@[simp] theorem State.setCapture_mc (c : Nat) (x : CapSt) : (s.setCapture c x).mc = s.mc := rfl
@[simp] theorem State.setCapture_pw (c : Nat) (x : CapSt) : (s.setCapture c x).pw = s.pw := rfl
@[simp] theorem State.setCapture_clk (c : Nat) (x : CapSt) : (s.setCapture c x).clk = s.clk := rfl
@[simp] theorem State.setCapture_txl (c : Nat) (x : CapSt) : (s.setCapture c x).txl = s.txl := rfl
@[simp] theorem State.setCapture_cal (c : Nat) (x : CapSt) : (s.setCapture c x).cal = s.cal := rfl
@[simp] theorem State.setCapture_mram (c : Nat) (x : CapSt) : (s.setCapture c x).mram = s.mram := rfl
@[simp] theorem State.setCapture_ukey (c : Nat) (x : CapSt) : (s.setCapture c x).ukey = s.ukey := rfl

@[simp] theorem State.setLatches_pending (t : Nat) (x : Latches) : (s.setLatches t x).pending = s.pending := rfl
@[simp] theorem State.setLatches_now (t : Nat) (x : Latches) : (s.setLatches t x).now = s.now := rfl
@[simp] theorem State.setLatches_timeOff (t : Nat) (x : Latches) : (s.setLatches t x).timeOff = s.timeOff := rfl
@[simp] theorem State.setLatches_free (t : Nat) (x : Latches) : (s.setLatches t x).free = s.free := rfl
@[simp] theorem State.setLatches_regs (t : Nat) (x : Latches) : (s.setLatches t x).regs = s.regs := rfl
@[simp] theorem State.setLatches_act (t : Nat) (x : Latches) : (s.setLatches t x).act = s.act := rfl
@[simp] theorem State.setLatches_segs (t : Nat) (x : Latches) : (s.setLatches t x).segs = s.segs := rfl
@[simp] theorem State.setLatches_stores (t : Nat) (x : Latches) : (s.setLatches t x).stores = s.stores := rfl
@[simp] theorem State.setLatches_olds (t : Nat) (x : Latches) : (s.setLatches t x).olds = s.olds := rfl
@[simp] theorem State.setLatches_mem (t : Nat) (x : Latches) : (s.setLatches t x).mem = s.mem := rfl
@[simp] theorem State.setLatches_poison (t : Nat) (x : Latches) : (s.setLatches t x).poison = s.poison := rfl
@[simp] theorem State.setLatches_nextSid (t : Nat) (x : Latches) : (s.setLatches t x).nextSid = s.nextSid := rfl
@[simp] theorem State.setLatches_lows (t : Nat) (x : Latches) : (s.setLatches t x).lows = s.lows := rfl
@[simp] theorem State.setLatches_ctxs (t : Nat) (x : Latches) : (s.setLatches t x).ctxs = s.ctxs := rfl
@[simp] theorem State.setLatches_tiles (t : Nat) (x : Latches) : (s.setLatches t x).tiles = s.tiles := rfl
@[simp] theorem State.setLatches_evt (t : Nat) (x : Latches) : (s.setLatches t x).evt = s.evt := rfl
@[simp] theorem State.setLatches_wav (t : Nat) (x : Latches) : (s.setLatches t x).wav = s.wav := rfl
@[simp] theorem State.setLatches_grp (t : Nat) (x : Latches) : (s.setLatches t x).grp = s.grp := rfl
@[simp] theorem State.setLatches_cap (t : Nat) (x : Latches) : (s.setLatches t x).cap = s.cap := rfl
@[simp] theorem State.setLatches_xng (t : Nat) (x : Latches) : (s.setLatches t x).xng = s.xng := rfl
@[simp] theorem State.setLatches_ustore (t : Nat) (x : Latches) : (s.setLatches t x).ustore = s.ustore := rfl
@[simp] theorem State.setLatches_mon (t : Nat) (x : Latches) : (s.setLatches t x).mon = s.mon := rfl
@[simp] theorem State.setLatches_wrote (t : Nat) (x : Latches) : (s.setLatches t x).wrote = s.wrote := rfl
@[simp] theorem State.setLatches_monBegun (t : Nat) (x : Latches) : (s.setLatches t x).monBegun = s.monBegun := rfl
@[simp] theorem State.setLatches_monEnded (t : Nat) (x : Latches) : (s.setLatches t x).monEnded = s.monEnded := rfl
@[simp] theorem State.setLatches_mc (t : Nat) (x : Latches) : (s.setLatches t x).mc = s.mc := rfl
@[simp] theorem State.setLatches_pw (t : Nat) (x : Latches) : (s.setLatches t x).pw = s.pw := rfl
@[simp] theorem State.setLatches_clk (t : Nat) (x : Latches) : (s.setLatches t x).clk = s.clk := rfl
@[simp] theorem State.setLatches_txl (t : Nat) (x : Latches) : (s.setLatches t x).txl = s.txl := rfl
@[simp] theorem State.setLatches_cal (t : Nat) (x : Latches) : (s.setLatches t x).cal = s.cal := rfl
@[simp] theorem State.setLatches_mram (t : Nat) (x : Latches) : (s.setLatches t x).mram = s.mram := rfl
@[simp] theorem State.setLatches_ukey (t : Nat) (x : Latches) : (s.setLatches t x).ukey = s.ukey := rfl

@[simp] theorem State.setStore_pending (i : Nat) (x : Storage) : (s.setStore i x).pending = s.pending := rfl
@[simp] theorem State.setStore_now (i : Nat) (x : Storage) : (s.setStore i x).now = s.now := rfl
@[simp] theorem State.setStore_timeOff (i : Nat) (x : Storage) : (s.setStore i x).timeOff = s.timeOff := rfl
@[simp] theorem State.setStore_free (i : Nat) (x : Storage) : (s.setStore i x).free = s.free := rfl
@[simp] theorem State.setStore_regs (i : Nat) (x : Storage) : (s.setStore i x).regs = s.regs := rfl
@[simp] theorem State.setStore_act (i : Nat) (x : Storage) : (s.setStore i x).act = s.act := rfl
@[simp] theorem State.setStore_segs (i : Nat) (x : Storage) : (s.setStore i x).segs = s.segs := rfl
@[simp] theorem State.setStore_olds (i : Nat) (x : Storage) : (s.setStore i x).olds = s.olds := rfl
@[simp] theorem State.setStore_mem (i : Nat) (x : Storage) : (s.setStore i x).mem = s.mem := rfl
@[simp] theorem State.setStore_poison (i : Nat) (x : Storage) : (s.setStore i x).poison = s.poison := rfl
@[simp] theorem State.setStore_nextSid (i : Nat) (x : Storage) : (s.setStore i x).nextSid = s.nextSid := rfl
@[simp] theorem State.setStore_lows (i : Nat) (x : Storage) : (s.setStore i x).lows = s.lows := rfl
@[simp] theorem State.setStore_ctxs (i : Nat) (x : Storage) : (s.setStore i x).ctxs = s.ctxs := rfl
@[simp] theorem State.setStore_tiles (i : Nat) (x : Storage) : (s.setStore i x).tiles = s.tiles := rfl
@[simp] theorem State.setStore_evt (i : Nat) (x : Storage) : (s.setStore i x).evt = s.evt := rfl
@[simp] theorem State.setStore_wav (i : Nat) (x : Storage) : (s.setStore i x).wav = s.wav := rfl
@[simp] theorem State.setStore_grp (i : Nat) (x : Storage) : (s.setStore i x).grp = s.grp := rfl
@[simp] theorem State.setStore_cap (i : Nat) (x : Storage) : (s.setStore i x).cap = s.cap := rfl
@[simp] theorem State.setStore_latch (i : Nat) (x : Storage) : (s.setStore i x).latch = s.latch := rfl
@[simp] theorem State.setStore_xng (i : Nat) (x : Storage) : (s.setStore i x).xng = s.xng := rfl
@[simp] theorem State.setStore_ustore (i : Nat) (x : Storage) : (s.setStore i x).ustore = s.ustore := rfl
@[simp] theorem State.setStore_mon (i : Nat) (x : Storage) : (s.setStore i x).mon = s.mon := rfl
@[simp] theorem State.setStore_wrote (i : Nat) (x : Storage) : (s.setStore i x).wrote = s.wrote := rfl
@[simp] theorem State.setStore_monBegun (i : Nat) (x : Storage) : (s.setStore i x).monBegun = s.monBegun := rfl
@[simp] theorem State.setStore_monEnded (i : Nat) (x : Storage) : (s.setStore i x).monEnded = s.monEnded := rfl
@[simp] theorem State.setStore_mc (i : Nat) (x : Storage) : (s.setStore i x).mc = s.mc := rfl
@[simp] theorem State.setStore_pw (i : Nat) (x : Storage) : (s.setStore i x).pw = s.pw := rfl
@[simp] theorem State.setStore_clk (i : Nat) (x : Storage) : (s.setStore i x).clk = s.clk := rfl
@[simp] theorem State.setStore_txl (i : Nat) (x : Storage) : (s.setStore i x).txl = s.txl := rfl
@[simp] theorem State.setStore_cal (i : Nat) (x : Storage) : (s.setStore i x).cal = s.cal := rfl
@[simp] theorem State.setStore_mram (i : Nat) (x : Storage) : (s.setStore i x).mram = s.mram := rfl
@[simp] theorem State.setStore_ukey (i : Nat) (x : Storage) : (s.setStore i x).ukey = s.ukey := rfl

@[simp] theorem State.setSeg_pending (h : Nat) (x : Seg) : (s.setSeg h x).pending = s.pending := rfl
@[simp] theorem State.setSeg_now (h : Nat) (x : Seg) : (s.setSeg h x).now = s.now := rfl
@[simp] theorem State.setSeg_timeOff (h : Nat) (x : Seg) : (s.setSeg h x).timeOff = s.timeOff := rfl
@[simp] theorem State.setSeg_free (h : Nat) (x : Seg) : (s.setSeg h x).free = s.free := rfl
@[simp] theorem State.setSeg_regs (h : Nat) (x : Seg) : (s.setSeg h x).regs = s.regs := rfl
@[simp] theorem State.setSeg_act (h : Nat) (x : Seg) : (s.setSeg h x).act = s.act := rfl
@[simp] theorem State.setSeg_stores (h : Nat) (x : Seg) : (s.setSeg h x).stores = s.stores := rfl
@[simp] theorem State.setSeg_olds (h : Nat) (x : Seg) : (s.setSeg h x).olds = s.olds := rfl
@[simp] theorem State.setSeg_mem (h : Nat) (x : Seg) : (s.setSeg h x).mem = s.mem := rfl
@[simp] theorem State.setSeg_poison (h : Nat) (x : Seg) : (s.setSeg h x).poison = s.poison := rfl
@[simp] theorem State.setSeg_nextSid (h : Nat) (x : Seg) : (s.setSeg h x).nextSid = s.nextSid := rfl
@[simp] theorem State.setSeg_lows (h : Nat) (x : Seg) : (s.setSeg h x).lows = s.lows := rfl
@[simp] theorem State.setSeg_ctxs (h : Nat) (x : Seg) : (s.setSeg h x).ctxs = s.ctxs := rfl
@[simp] theorem State.setSeg_tiles (h : Nat) (x : Seg) : (s.setSeg h x).tiles = s.tiles := rfl
@[simp] theorem State.setSeg_evt (h : Nat) (x : Seg) : (s.setSeg h x).evt = s.evt := rfl
@[simp] theorem State.setSeg_wav (h : Nat) (x : Seg) : (s.setSeg h x).wav = s.wav := rfl
@[simp] theorem State.setSeg_grp (h : Nat) (x : Seg) : (s.setSeg h x).grp = s.grp := rfl
@[simp] theorem State.setSeg_cap (h : Nat) (x : Seg) : (s.setSeg h x).cap = s.cap := rfl
@[simp] theorem State.setSeg_latch (h : Nat) (x : Seg) : (s.setSeg h x).latch = s.latch := rfl
@[simp] theorem State.setSeg_xng (h : Nat) (x : Seg) : (s.setSeg h x).xng = s.xng := rfl
@[simp] theorem State.setSeg_ustore (h : Nat) (x : Seg) : (s.setSeg h x).ustore = s.ustore := rfl
@[simp] theorem State.setSeg_mon (h : Nat) (x : Seg) : (s.setSeg h x).mon = s.mon := rfl
@[simp] theorem State.setSeg_wrote (h : Nat) (x : Seg) : (s.setSeg h x).wrote = s.wrote := rfl
@[simp] theorem State.setSeg_monBegun (h : Nat) (x : Seg) : (s.setSeg h x).monBegun = s.monBegun := rfl
@[simp] theorem State.setSeg_monEnded (h : Nat) (x : Seg) : (s.setSeg h x).monEnded = s.monEnded := rfl
@[simp] theorem State.setSeg_mc (h : Nat) (x : Seg) : (s.setSeg h x).mc = s.mc := rfl
@[simp] theorem State.setSeg_pw (h : Nat) (x : Seg) : (s.setSeg h x).pw = s.pw := rfl
@[simp] theorem State.setSeg_clk (h : Nat) (x : Seg) : (s.setSeg h x).clk = s.clk := rfl
@[simp] theorem State.setSeg_txl (h : Nat) (x : Seg) : (s.setSeg h x).txl = s.txl := rfl
@[simp] theorem State.setSeg_cal (h : Nat) (x : Seg) : (s.setSeg h x).cal = s.cal := rfl
@[simp] theorem State.setSeg_mram (h : Nat) (x : Seg) : (s.setSeg h x).mram = s.mram := rfl
@[simp] theorem State.setSeg_ukey (h : Nat) (x : Seg) : (s.setSeg h x).ukey = s.ukey := rfl

@[simp] theorem State.writeByte_pending (a : Nat) (b : BitVec 8) : (s.writeByte a b).pending = s.pending := rfl
@[simp] theorem State.writeByte_now (a : Nat) (b : BitVec 8) : (s.writeByte a b).now = s.now := rfl
@[simp] theorem State.writeByte_timeOff (a : Nat) (b : BitVec 8) : (s.writeByte a b).timeOff = s.timeOff := rfl
@[simp] theorem State.writeByte_free (a : Nat) (b : BitVec 8) : (s.writeByte a b).free = s.free := rfl
@[simp] theorem State.writeByte_regs (a : Nat) (b : BitVec 8) : (s.writeByte a b).regs = s.regs := rfl
@[simp] theorem State.writeByte_act (a : Nat) (b : BitVec 8) : (s.writeByte a b).act = s.act := rfl
@[simp] theorem State.writeByte_segs (a : Nat) (b : BitVec 8) : (s.writeByte a b).segs = s.segs := rfl
@[simp] theorem State.writeByte_stores (a : Nat) (b : BitVec 8) : (s.writeByte a b).stores = s.stores := rfl
@[simp] theorem State.writeByte_olds (a : Nat) (b : BitVec 8) : (s.writeByte a b).olds = s.olds := rfl
@[simp] theorem State.writeByte_poison (a : Nat) (b : BitVec 8) : (s.writeByte a b).poison = s.poison := rfl
@[simp] theorem State.writeByte_nextSid (a : Nat) (b : BitVec 8) : (s.writeByte a b).nextSid = s.nextSid := rfl
@[simp] theorem State.writeByte_lows (a : Nat) (b : BitVec 8) : (s.writeByte a b).lows = s.lows := rfl
@[simp] theorem State.writeByte_ctxs (a : Nat) (b : BitVec 8) : (s.writeByte a b).ctxs = s.ctxs := rfl
@[simp] theorem State.writeByte_tiles (a : Nat) (b : BitVec 8) : (s.writeByte a b).tiles = s.tiles := rfl
@[simp] theorem State.writeByte_evt (a : Nat) (b : BitVec 8) : (s.writeByte a b).evt = s.evt := rfl
@[simp] theorem State.writeByte_wav (a : Nat) (b : BitVec 8) : (s.writeByte a b).wav = s.wav := rfl
@[simp] theorem State.writeByte_grp (a : Nat) (b : BitVec 8) : (s.writeByte a b).grp = s.grp := rfl
@[simp] theorem State.writeByte_cap (a : Nat) (b : BitVec 8) : (s.writeByte a b).cap = s.cap := rfl
@[simp] theorem State.writeByte_latch (a : Nat) (b : BitVec 8) : (s.writeByte a b).latch = s.latch := rfl
@[simp] theorem State.writeByte_xng (a : Nat) (b : BitVec 8) : (s.writeByte a b).xng = s.xng := rfl
@[simp] theorem State.writeByte_ustore (a : Nat) (b : BitVec 8) : (s.writeByte a b).ustore = s.ustore := rfl
@[simp] theorem State.writeByte_mon (a : Nat) (b : BitVec 8) : (s.writeByte a b).mon = s.mon := rfl
@[simp] theorem State.writeByte_wrote (a : Nat) (b : BitVec 8) : (s.writeByte a b).wrote = s.wrote := rfl
@[simp] theorem State.writeByte_monBegun (a : Nat) (b : BitVec 8) : (s.writeByte a b).monBegun = s.monBegun := rfl
@[simp] theorem State.writeByte_monEnded (a : Nat) (b : BitVec 8) : (s.writeByte a b).monEnded = s.monEnded := rfl
@[simp] theorem State.writeByte_mc (a : Nat) (b : BitVec 8) : (s.writeByte a b).mc = s.mc := rfl
@[simp] theorem State.writeByte_pw (a : Nat) (b : BitVec 8) : (s.writeByte a b).pw = s.pw := rfl
@[simp] theorem State.writeByte_clk (a : Nat) (b : BitVec 8) : (s.writeByte a b).clk = s.clk := rfl
@[simp] theorem State.writeByte_txl (a : Nat) (b : BitVec 8) : (s.writeByte a b).txl = s.txl := rfl
@[simp] theorem State.writeByte_cal (a : Nat) (b : BitVec 8) : (s.writeByte a b).cal = s.cal := rfl
@[simp] theorem State.writeByte_mram (a : Nat) (b : BitVec 8) : (s.writeByte a b).mram = s.mram := rfl
@[simp] theorem State.writeByte_ukey (a : Nat) (b : BitVec 8) : (s.writeByte a b).ukey = s.ukey := rfl

/-- A source noted for the counters changes nothing else. -/
@[simp] theorem State.monMark_pending (src : Nat) : (s.monMark src).pending = s.pending := by unfold State.monMark; split <;> rfl
@[simp] theorem State.monMark_now (src : Nat) : (s.monMark src).now = s.now := by unfold State.monMark; split <;> rfl
@[simp] theorem State.monMark_timeOff (src : Nat) : (s.monMark src).timeOff = s.timeOff := by unfold State.monMark; split <;> rfl
@[simp] theorem State.monMark_free (src : Nat) : (s.monMark src).free = s.free := by unfold State.monMark; split <;> rfl
@[simp] theorem State.monMark_regs (src : Nat) : (s.monMark src).regs = s.regs := by unfold State.monMark; split <;> rfl
@[simp] theorem State.monMark_act (src : Nat) : (s.monMark src).act = s.act := by unfold State.monMark; split <;> rfl
@[simp] theorem State.monMark_segs (src : Nat) : (s.monMark src).segs = s.segs := by unfold State.monMark; split <;> rfl
@[simp] theorem State.monMark_stores (src : Nat) : (s.monMark src).stores = s.stores := by unfold State.monMark; split <;> rfl
@[simp] theorem State.monMark_olds (src : Nat) : (s.monMark src).olds = s.olds := by unfold State.monMark; split <;> rfl
@[simp] theorem State.monMark_mem (src : Nat) : (s.monMark src).mem = s.mem := by unfold State.monMark; split <;> rfl
@[simp] theorem State.monMark_poison (src : Nat) : (s.monMark src).poison = s.poison := by unfold State.monMark; split <;> rfl
@[simp] theorem State.monMark_nextSid (src : Nat) : (s.monMark src).nextSid = s.nextSid := by unfold State.monMark; split <;> rfl
@[simp] theorem State.monMark_lows (src : Nat) : (s.monMark src).lows = s.lows := by unfold State.monMark; split <;> rfl
@[simp] theorem State.monMark_ctxs (src : Nat) : (s.monMark src).ctxs = s.ctxs := by unfold State.monMark; split <;> rfl
@[simp] theorem State.monMark_tiles (src : Nat) : (s.monMark src).tiles = s.tiles := by unfold State.monMark; split <;> rfl
@[simp] theorem State.monMark_evt (src : Nat) : (s.monMark src).evt = s.evt := by unfold State.monMark; split <;> rfl
@[simp] theorem State.monMark_wav (src : Nat) : (s.monMark src).wav = s.wav := by unfold State.monMark; split <;> rfl
@[simp] theorem State.monMark_grp (src : Nat) : (s.monMark src).grp = s.grp := by unfold State.monMark; split <;> rfl
@[simp] theorem State.monMark_cap (src : Nat) : (s.monMark src).cap = s.cap := by unfold State.monMark; split <;> rfl
@[simp] theorem State.monMark_latch (src : Nat) : (s.monMark src).latch = s.latch := by unfold State.monMark; split <;> rfl
@[simp] theorem State.monMark_xng (src : Nat) : (s.monMark src).xng = s.xng := by unfold State.monMark; split <;> rfl
@[simp] theorem State.monMark_ustore (src : Nat) : (s.monMark src).ustore = s.ustore := by unfold State.monMark; split <;> rfl
@[simp] theorem State.monMark_wrote (src : Nat) : (s.monMark src).wrote = s.wrote := by unfold State.monMark; split <;> rfl
@[simp] theorem State.monMark_monBegun (src : Nat) : (s.monMark src).monBegun = s.monBegun := by unfold State.monMark; split <;> rfl
@[simp] theorem State.monMark_monEnded (src : Nat) : (s.monMark src).monEnded = s.monEnded := by unfold State.monMark; split <;> rfl
@[simp] theorem State.monMark_mc (src : Nat) : (s.monMark src).mc = s.mc := by unfold State.monMark; split <;> rfl
@[simp] theorem State.monMark_pw (src : Nat) : (s.monMark src).pw = s.pw := by unfold State.monMark; split <;> rfl
@[simp] theorem State.monMark_clk (src : Nat) : (s.monMark src).clk = s.clk := by unfold State.monMark; split <;> rfl
@[simp] theorem State.monMark_txl (src : Nat) : (s.monMark src).txl = s.txl := by unfold State.monMark; split <;> rfl
@[simp] theorem State.monMark_cal (src : Nat) : (s.monMark src).cal = s.cal := by unfold State.monMark; split <;> rfl
@[simp] theorem State.monMark_mram (src : Nat) : (s.monMark src).mram = s.mram := by unfold State.monMark; split <;> rfl
@[simp] theorem State.monMark_ukey (src : Nat) : (s.monMark src).ukey = s.ukey := by unfold State.monMark; split <;> rfl

end Sys2Proof.Machine
end

