-- ==== Sys2Proof/Machine/Connector.lean ====
section
/-! DEFINITION. What stands at the connectors: the voltages of a waveform channel and of its markers, and what a deskew and the
trigger inputs present. -/

namespace Sys2Proof.Machine

/-! ## A waveform channel (R157, R171 to R176) -/

/-- The instant at which slot i of cycle n of channel w's timeline reaches the connector (R157). -/
def State.connectorAt (s : State) (w n i : Nat) : Nat := (n + wavePipe) * Config.fine + s.gdelay w + i * s.slotFine

/-- Whether a span lies on the amplified path (R172). -/
def amplified (range : Nat) : Bool := decide (4 ≤ range)

/-- V(q) of R172, in units of 1/16,384 mV: a reserved RANGE is never in force. -/
def spanVolts (range : Nat) (q : Int) : Int :=
  match range with
  | 0 => q * 250
  | 1 => q * 500
  | 2 => q * 1000
  | 4 => q * 2500
  | 5 => q * 5000
  | 6 => (q + 8192) * 500
  | 7 => (q + 8192) * 1000
  | 8 => (q + 8192) * 2500
  | 9 => (q + 8192) * 5000
  | _ => 0

/-- The DAC code that drives channel w's connector at fine position x: the rest code until a slot has come through. -/
def State.dacAt (s : State) (w x : Nat) : Int := (posAt x (s.wave w).codes).getD (s.restCode w + 8192)

/-- The voltages at WnP and WnN at fine position x of this cycle, in units of 1/32,768 mV (R173, R175): each leg of the direct
path swings half of V; on the amplified path V stands at WnP, and WnN at 0 V. An open switch leaves both at 0 V. -/
def State.wavePins (s : State) (w x : Nat) : Int × Int :=
  let range := s.active (Reg.WAV_RANGE w)
  let v := spanVolts range (s.dacAt w x - 8192)
  if !s.switchClosed w then (0, 0) else if amplified range then (2 * v, 0) else (v, -v)

/-- A marker level in force, in mV (R174). -/
def mvClamp (v : Int) : Int := if v < -1000 then -1000 else if 2500 < v then 2500 else v

/-- The low and the high level of marker n of channel w, in mV (R174). -/
def State.markerLevels (s : State) (w n : Nat) : Int × Int :=
  let lo := mvClamp (signedOf 16 (s.active (Reg.MK_LEVEL_LOW w n)))
  let hi := mvClamp (signedOf 16 (s.active (Reg.MK_LEVEL_HIGH w n)))
  (lo, if hi < lo + 100 then lo + 100 else hi)

/-- Whether marker n of channel w is high at fine position x of its connector: G and MK_DELAYn after its sample's slots
(R157, R174). -/
def State.markerHigh (s : State) (w n x : Nat) : Bool :=
  let d := s.active (Reg.MK_DELAY w n)
  decide ((posAt (x - d) (s.wave w).marks).getD 0 / 2 ^ n % 2 = 1)

/-- The voltage of marker n of channel w in mV (R174): 0 V while the output switch is open, but for a range-change mute. -/
def State.markerVolts (s : State) (w n x : Nat) : Int :=
  if !(s.wave w).closed then 0
  else if s.markerHigh w n x then (s.markerLevels w n).2 else (s.markerLevels w n).1

/-! ## Pins and trigger inputs (R362, R388) -/

/-- The level in mV to which a pin deskew drives the connector pins of group g, while it runs there (R362): a pin level procedure
leaves them high-impedance. -/
def State.deskewLevel (s : State) (g : Nat) : Option Int :=
  match s.cal.run with
  | some r => if r.op = 5 ∧ r.cur = g then some 1000 else none
  | none => none

/-- The termination of TRIG input n in ohms: 1 kΩ without field power, otherwise as TERM selects (R388). -/
def State.trigOhms (s : State) (n : Nat) : Nat :=
  if s.pw.fieldOn && decide (s.active (Reg.EVT_TRIG_CFG_TERM n) = 0) then 50 else 1000

end Sys2Proof.Machine
end

