-- ==== Sys2Proof/Tests/Slice0.lean ====
section
/-! SUPPORT. Tests: a command that each check of WellFormed refuses; the spec's worked examples; single commands on small
states; and, for each statement, states and operands that meet the hypotheses of its clauses. Every expected figure is the
spec's own or is reckoned by hand from it. -/

namespace Sys2Proof.Tests

open Sys2Proof.Machine

set_option maxRecDepth 20000

/-! ## Small states -/

/-- s with fields of its registers set. -/
def puts : List (Fld × Nat) → State → State
  | [], s => s
  | (f, v) :: l, s => puts l (s.put f v)

/-- s with RWS fields in force. -/
def inForce : List (Fld × Nat) → State → State
  | [], s => s
  | (f, v) :: l, s => inForce l ((s.put f v).putActive f v)

def seg (sid : Nat) : Seg := ⟨sid, false, true, [], none, []⟩

/-- A booted module: handle 5 a program, 6 a waveform, 7 a slipway, 8 a capture segment; tile 2 runs context 1. -/
def live : State :=
  let s := State.reset
  let s := { s with now := 7, nextSid := 10 }
  let s := { s with xng := { Crossing.init with up := true } }
  let s := { s with latch := (upto 16).map (fun k => (k, ⟨false, false, false, false, false⟩)) }
  let s := { s with segs := [(2, seg 2), (5, seg 5), (6, seg 6), (7, seg 7), (8, seg 8)] }
  let s := { s with stores := [(2, ⟨.program, .C, 50, 0, [0], [], 0, 0, 0, []⟩), (5, ⟨.program, .C, 100, 0, [1], [], 0, 0, 0, []⟩),
    (6, ⟨.waveform, .A, 20, 0, [2], [], 0, 0, 0, []⟩), (7, ⟨.slipway, .A, 256, 10, [3], [], 0, 128, 0, [(0, 128)]⟩),
    (8, ⟨.capture, .A, 64, 0, [4], [], 20, 0, 0, []⟩)] }
  let s := { s with ctxs := [(1, { Ctx.init with st := .running, pc := ⟨5, 5, 3⟩ }),
    (2, { Ctx.init with st := .ready, pc := ⟨5, 5, 1⟩ }), (3, { Ctx.init with st := .paused, pc := ⟨5, 5, 2⟩ }),
    (5, { Ctx.init with st := .loaded, pc := ⟨5, 5, 0⟩ })] }
  let s := { s with tiles := [(2, { TileSt.init with running := some 1 })] }
  puts [(Reg.NVS_BOOT_STAGE, 9), (Reg.XNG_HSTATUS_FIELD_ABSENT, 0), (Reg.CLK_STATUS_STATE, 0), (Reg.CLK_STATUS_GATED, 0),
    (Reg.CLK_STATUS_REF_OK, 1), (Reg.CLK_STATUS_REF_ACT, 3), (Reg.GLB_STATE_PROFILE, 0)] s

/-- The contexts of live bound to tile 2. -/
def bound : State := puts [(Reg.CTX_CFG_BIND 1, 2), (Reg.CTX_CFG_BIND 2, 2), (Reg.CTX_CFG_BIND 3, 2), (Reg.CTX_CFG_BIND 5, 2)] live

/-- Instruction op has its dispatch entry on tile t. -/
def withOp (t op : Nat) (s : State) : State := s.put (Reg.MC_DISPATCH_VALID t op) 1

def unlocked (s : State) : State := s.put Reg.GLB_STATE_UNLOCKED 1
def tile (f : TileSt → TileSt) (s : State) : State := s.setTile 2 (f (s.tile 2))
def item (i : Item) (s : State) : State := tile (fun x => { x with item := i }) s
def ctx (c : Nat) (f : Ctx → Ctx) (s : State) : State := s.setCtx c (f (s.ctx c))
def at_ (n : Nat) (s : State) : State := { s with now := n }
def idle (s : State) : State := tile (fun x => { x with running := none }) s
def args (l : List Nat) (s : State) : State := puts ((upto 6).map (fun i => (Reg.PLC_ARG i, l.getD i 0))) s
def mc (f : MemSt → MemSt) (s : State) : State := { s with mc := f s.mc }
def pw (f : Power → Power) (s : State) : State := { s with pw := f s.pw }
def xng (f : Crossing → Crossing) (s : State) : State := { s with xng := f s.xng }
def txl (f : TxlSt → TxlSt) (s : State) : State := { s with txl := f s.txl }
def clk (f : ClkSt → ClkSt) (s : State) : State := { s with clk := f s.clk }
def cap (f : CapSt → CapSt) (s : State) : State := s.setCapture 1 (f (s.capture 1))
def loads (h : Nat) (l : List OpenLoad) (s : State) : State :=
  { s with segs := mins s.segs h { seg h with loads := l, loading := true } }
def load (src count done : Nat) (read : Bool) : OpenLoad := ⟨4, read, false, false, src, 0, count, done, 0, 0, 0, 0, false, 5, []⟩

/-- What c leaves in field f of s. -/
def leaves (c : Instr) (s : State) (f : Fld) : Option Nat :=
  match exec c s with
  | .next t => some (t.get f)
  | _ => none

/-- What c leaves of s, by g. -/
def after {α : Type} (c : Instr) (s : State) (g : State → α) : Option α :=
  match exec c s with
  | .next t => some (g t)
  | _ => none

/-! ## WellFormed refuses -/

theorem test_ill_sag42 : (Instr.sagBelow42V 420).wf = false ∧ (Instr.sagBelow42V 419).wf = true := by decide
theorem test_ill_sag38 : (Instr.sagBelow38V 380).wf = false := by decide
theorem test_ill_sag36 : (Instr.sagBelow36V 360).wf = false := by decide
theorem test_ill_recover42 : (Instr.supplyRecover42V5 424).wf = false := by decide
theorem test_ill_recover40 : (Instr.supplyRecover40V 399).wf = false := by decide
theorem test_ill_railFault : (Instr.hvRailFault false false).wf = false := by decide
theorem test_ill_write : (Instr.registerWrite 0x000002 4 0).wf = false ∧ (Instr.registerWrite 0x000004 2 0).wf = false ∧
    (Instr.registerWrite 0x000004 8 0).wf = false := by decide
theorem test_ill_read : (Instr.registerReadMessage 0x000001 2).wf = false ∧ (Instr.registerReadMessage 0x000001 1).wf = true ∧
    (Instr.registerReadMessage 0x000004 3).wf = false := by decide
theorem test_ill_userOpcode : (Instr.userOpcode 0 0x540000000000000000).wf = false ∧
    (Instr.userOpcode 0 0x580000000000000000).wf = true := by decide
theorem test_ill_peerFrame : (Instr.peerDataFrame 0 1 0 0 [5] [1]).wf = false := by decide
theorem test_ill_ringTail (l : List (BitVec 256)) (h : l.length = 256) : (Instr.xngRingTail 0 0 l).wf = false := by
  simp [Instr.wf, h]
theorem test_ill_ferryFrame (l : List Word72) (h : l.length = 456) : (Instr.ferryFrame 0 l).wf = false := by
  simp [Instr.wf, h]
theorem test_ill_eeprom : (Instr.smbusEepromRead 0 2049).wf = false := by decide
theorem test_ill_dacTemp : (Instr.dacTempRead [0]).wf = false := by decide

/-! ## The spec's worked examples -/

/-- "Example: class check at reference" (02): 250,000 words in class B take 35,720 lines, in class A 35,744, over 8 and 32
channels. -/
theorem test_example_class_check : linesPer .B 250000 * 8 = 35720 ∧ linesPer .A 250000 * 32 = 35744 := by decide

/-- "Example: encoding PLAYN" (03): the word 0x0C_0000_048C_0000_03E8 names handle 0x000123 and COUNT 1,000. -/
theorem test_example_playn : fieldOf 0x0C0000048C000003E8 66 6 = 0x03 ∧
    opHandle (BitVec.ofNat 66 0x0C0000048C000003E8) = 0x000123 ∧ opBits (BitVec.ofNat 66 0x0C0000048C000003E8) 0 32 = 1000 ∧
    leBytes 9 0x0C0000048C000003E8 = [0xE8, 0x03, 0x00, 0x00, 0x8C, 0x04, 0x00, 0x00, 0x0C] := by decide

/-- "Example: a phase-reset burst" (06): the SETF word 0x3A_0000_1000_0000_0000 has RST 1 and FTW 2^44. -/
theorem test_example_setf : fieldOf 0x3A0000100000000000 66 6 = 0x0E ∧ opBits (BitVec.ofNat 66 0x3A0000100000000000) 65 1 = 1 ∧
    opBits (BitVec.ofNat 66 0x3A0000100000000000) 0 48 = 2 ^ 44 := by decide

/-- "Example: encoding ADD with an immediate" (05): 0x099C01 adds 1 to M3. -/
theorem test_example_add :
    let r := (tile (fun x => { x with micro := { x.micro with m := [(3, 41)] } }) live).microExec 2 1 0xC00 0x099C01
    (r.1.tile 2).micro.reg 3 = 42 ∧ r.2 = .go 0xC01 := by decide

/-- "Example: a limited step" (06): from −4,000 towards 4,000 with STEP 1,000 the first evaluation gives −3,000. -/
theorem test_example_limited_step :
    (inForce [(Reg.WAV_SLEW_STEP 2, 1000), (Reg.WAV_SLEW_RATE 2, 3)] (live.setWave 2 { WavSt.init with lim := -4000 })).limit 2 4 4000
      = -3000 := by decide

/-- The same step takes d from 4,192 to 12,192, across 31 segments (06, under R170). -/
theorem test_example_segments : segsCrossed 4192 12192 = 31 := by decide

/-! ## Single commands -/

theorem test_key : leaves (.glbKeyWrite 0x6B1E) live Reg.GLB_STATE_UNLOCKED = some 1 ∧
    leaves (.glbKeyWrite 0x6B1F) (unlocked live) Reg.GLB_STATE_UNLOCKED = some 0 := by decide
theorem test_flags : leaves (.glbFlagsWrite 0x000F0005) (live.put Reg.GLB_FLAGS_FLAGS 0xFFFA) Reg.GLB_FLAGS_FLAGS = some 0xFFF5 := by
  decide
theorem test_locked : leaves (.hvEnable 1) live Reg.GLB_ERR_LOCKED_WRITE = some 1 ∧
    leaves (.hvEnable 1) live Reg.GLB_HV_CTRL_EN = some 0 := by decide
theorem test_register_write : leaves (.registerWrite 0x000004 4 5) live Reg.GLB_ERR_UNMAPPED = some 0 ∧
    leaves (.registerWrite 0x000006 4 5) live Reg.GLB_ERR_ACC_SIZE = some 1 := by decide
theorem test_sag : leaves (.sagBelow42V 419) live Reg.NVS_SUPPLY_NV_BLOCK = some 1 := by decide
theorem test_reset_stage : leaves (.nvsFieldRst 0xA55A) live Reg.NVS_BOOT_STAGE = some 2 ∧
    leaves (.nvsFieldRst 0xA55A) live Reg.NVS_RST_CAUSE_CAUSE = some 3 := by decide
theorem test_loop : after (.loop 2 3) (withOp 2 0x04 live) (fun t => ((t.ctx 1).loops.map (fun l => l.left), (t.ctx 1).pc.off)) =
    some ([3], 4) := by decide
theorem test_halt : after (.halt 2 0) (withOp 2 0x01 live) (fun t => ((t.ctx 1).st, (t.tile 2).running, (t.ctx 1).pc.off)) =
    some (.halted, none, 4) := by decide
theorem test_count : leaves (.count 2 (BitVec.ofNat 66 7)) (withOp 2 0x15 (live.put (Reg.CTX_CNT 1 0) 0xFFFFFFFF)) (Reg.CTX_CNT 1 0) =
    some 6 := by decide
theorem test_signal : after (.signal 2 (BitVec.ofNat 66 3)) (withOp 2 0x14 live) (fun t => t.evt.occ.map (fun o => o.src)) =
    some [0x0B8] := by decide
theorem test_pause : after (.seqPause 2 9 1 1) bound (fun t => (t.tile 2).pauses) = some [⟨1, 55, true⟩] := by decide
theorem test_query : leaves (.query 3) (args [9] live) Reg.PLC_STATUS_STS = some 0x05 := by decide
theorem test_timer : after (.timerStart 2) (inForce [(Reg.EVT_TMR_PER_LO 2, 100)] live) (fun t => mfind t.evt.timers 2) =
    some (some ⟨107, true⟩) := by decide
theorem test_refresh : after (.perBankRefresh 3 5 false) live (fun t => t.owes 3 5) = some 1 := by decide
theorem test_refresh_row : after (.perBankRefresh 3 5 true) (mc (fun m => { m with rows := [(64 * 3 + 5, 9)] }) live)
    (fun t => (mfind t.mc.rows (64 * 3 + 5), t.owes 3 5)) = some (none, 0) := by decide
theorem test_peer_end : after (.peerDataFrame 1 1 3 0x0C [] [])
    ({ live with segs := [(3, { seg 3 with loads := [load 2 10 3 true] })] }.put (Reg.TXL_PSTATUS_STATE 1) 4)
    (fun t => (t.get Reg.PLC_STATUS_STS, t.get Reg.TXL_PEER_DONE_LO)) = some (0x0C, 3) := by decide

/-- R240: a line and its check bytes are a multiple of the generator, which has α^0 to α^8 as its roots. -/
theorem test_line_code :
    let line := (upto 63).map (fun i => (7 * i + 3) % 256)
    codeRem (genTail 9) (List.replicate 9 0) (line ++ checkBytes line) = List.replicate 9 0 ∧
    (upto 9).all (fun r => decide ((line ++ checkBytes line).foldl (fun x b => gfMul x (gfPow r) ^^^ b) 0 = 0)) = true := by
  decide
theorem test_ramp_gain : leaves (.rampStep 2) (item (.ramp 1 4 3 1000 3 7) (live.put (Reg.WAV_GAIN_ACT 2) 0xFFFFFF0)) (Reg.WAV_GAIN_ACT 2) =
    some 0xFFFFFFF := by decide
theorem test_sat16 : (combine 3 20000 20000).1 = 32767 ∧ (combine 2 (-32768) 32767).1 = -32767 := by decide

/-! ## What meets the hypotheses of the statements, clause by clause -/

/-- TheKeyGuardsLockedWrites. -/
theorem wit_locked : live.get Reg.GLB_STATE_UNLOCKED = 0 := by decide

/-- MailboxGivesWhatTheSelectorNames: the clock, the first and the last event, and a selector out of range. -/
theorem wit_mailbox : (live.put Reg.GLB_MBX_CTRL_REQ 1).get Reg.GLB_MBX_CTRL_REQ = 1 ∧
    ∀ k ∈ [0, 0x1000, 0x13FF, 0x5004],
      (puts [(Reg.GLB_MBX_CTRL_REQ, 1), (Reg.GLB_MBX_SEL, k)] live).get Reg.GLB_MBX_CTRL_REQ = 1 ∧
      (puts [(Reg.GLB_MBX_CTRL_REQ, 1), (Reg.GLB_MBX_SEL, k)] live).get Reg.GLB_MBX_SEL = k := by decide

/-- HighVoltageRailsFollowTheEnable. -/
theorem wit_hv : (unlocked live).get Reg.GLB_STATE_UNLOCKED = 1 ∧ (1 : Word).getLsbD 0 = true ∧ (2 : Word).getLsbD 0 = false ∧
    (live.put Reg.GLB_HV_CTRL_EN 1).get Reg.GLB_HV_CTRL_EN = 1 ∧
    (live.put Reg.GLB_HV_CTRL_EN 1).get Reg.NVS_HV_STATUS_LATCHED = 0 ∧
    mfind (live.put Reg.GLB_HV_CTRL_EN 1).wrote Reg.GLB_HV_CTRL_EN.addr = none ∧
    mfind (live.put Reg.GLB_HV_CTRL_EN 1).wrote Reg.NVS_HV_STATUS_LATCHED.addr = none := by decide

/-- R392: a rail fault, and EN 0 written in its cycle, whichever is taken first. -/
theorem test_fault_wins : (let s := unlocked (live.put Reg.GLB_HV_CTRL_EN 1);
      after (.hvRailFault true false) s (fun t => leaves (.hvDisable 0) t Reg.NVS_HV_STATUS_LATCHED) = some (some 1) ∧
      after (.hvDisable 0) s (fun t => leaves (.hvRailFault true false) t Reg.NVS_HV_STATUS_LATCHED) = some (some 1)) := by
  decide

/-- ResetsRestartTheFieldSide. -/
theorem wit_resets : (let s := pw (fun p => { p with fieldOn := false }) live;
      s.pw.writing = [] ∧ s.pw.fieldOn = false ∧ s.pw.hostOn = true ∧ s.get Reg.XNG_PWR_DORMANT = 0 ∧ s.pw.wanted = none) ∧
    (let s := pw (fun p => { p with rstN := true }) live;
      s.pw.writing = [] ∧ s.pw.rstN = true ∧ s.pw.fieldOn = true) ∧
    fieldOf (0x1234A55A : Word).toNat 0 16 = 0xA55A ∧
    (unlocked live).pw.writing = [] ∧ (unlocked live).get Reg.GLB_STATE_UNLOCKED = 1 ∧ (1 : Word).getLsbD 0 = true := by decide

/-- ResetsWaitAndTilesReset: a write in progress, for each reset that waits, and the write's end. -/
theorem wit_waits : (let s := unlocked (pw (fun p => { p with writing := [.block 3], rstN := true }) live);
      s.pw.writing ≠ [] ∧ s.pw.wanted = none ∧ s.get Reg.GLB_STATE_UNLOCKED = 1 ∧ s.pw.rstN = true ∧ s.pw.fieldOn = true) ∧
    (let s := pw (fun p => { p with writing := [.block 3], wanted := some (.field 3) }) live;
      s.pw.writing = [.block 3] ∧ s.pw.wanted = some (.field 3) ∧ s.pw.fieldOn = true ∧ (NvWrite.block 3).image = true) ∧
    (let s := pw (fun p => { p with writing := [.cal 3 true], wanted := some (.field 7) }) live;
      s.pw.writing = [.cal 3 true] ∧ s.pw.wanted = some (.field 7) ∧ s.pw.fieldOn = true ∧
      (NvWrite.cal 3 true).image = false) ∧
    (let s := pw (fun p => { p with rstN := true }) live;
      s.pw.rstN = true ∧ s.pw.fieldOn = true) ∧
    (0x0004 : Word).getLsbD 2 = true ∧ tileKeeps 2 (Reg.SEQ_GAP_CNT 2).addr = false := by decide

/-- FieldPowerFollowsTheSupply, at each limit. -/
theorem wit_supply : (419 : BitVec 10).toNat < 420 ∧ live.get Reg.NVS_SUPPLY_NV_BLOCK = 0 ∧
    (live.put Reg.NVS_SUPPLY_NV_BLOCK 1).get Reg.NVS_SUPPLY_NV_BLOCK = 1 ∧ 425 ≤ (425 : BitVec 10).toNat ∧
    400 ≤ (400 : BitVec 10).toNat ∧ live.pw.writing = [] ∧ live.pw.wanted = none ∧ (359 : BitVec 10).toNat < 360 ∧
    live.pw.fieldOn = true ∧ live.xng.up = true ∧ (1 : Word).getLsbD 0 = true ∧ (0 : Word).getLsbD 0 = false := by decide

/-- ProfileChangesBeginAndComplete: towards Ivory from Cobalt, out of Ash, and the ends of changes. -/
theorem wit_profile : (let s := unlocked { live with segs := [], ctxs := [], tiles := [] };
      s.get Reg.GLB_STATE_UNLOCKED = 1 ∧ fieldOf (1 : Word).toNat 0 4 < 3 ∧
      ((s.put Reg.GLB_STATE_UNLOCKED 0).put Reg.GLB_PROFILE 1).activeCheck 1 = none ∧
      s.get Reg.GLB_STATE_PROFILE ≠ 3 ∧ s.get Reg.GLB_STATE_PROFILE ≠ 1) ∧
    (let s := unlocked ({ live with segs := [], ctxs := [], tiles := [] }.put Reg.GLB_STATE_PROFILE 3);
      s.get Reg.GLB_STATE_UNLOCKED = 1 ∧ ((s.put Reg.GLB_STATE_UNLOCKED 0).put Reg.GLB_PROFILE 0).activeCheck 0 = none ∧
      s.get Reg.GLB_STATE_PROFILE = 3 ∧ s.get Reg.MEM_STATUS_RETRAIN_DUE = 0) ∧
    (let s := pw (fun p => { p with change := some 2 }) live;
      s.pw.change = some 2 ∧ s.get Reg.GLB_STATE_PROFILE ≠ 3 ∧ (s.tile 2).running.isSome = true ∧ s.heldSafe 2 = false) ∧
    (let s := pw (fun p => { p with change := some 1 }) (live.put Reg.GLB_STATE_PROFILE 3);
      s.pw.change = some 1 ∧ s.get Reg.GLB_STATE_PROFILE = 3 ∧ s.mc.retrain = none) ∧
    (pw (fun p => { p with change := some 3 }) live).pw.change = some 3 := by decide

/-- AshEntryMakesTheModuleQuiet. -/
theorem wit_ash : live.pw.change = none ∧ live.get Reg.GLB_STATE_PROFILE < 3 ∧
    (unlocked live).get Reg.GLB_STATE_UNLOCKED = 1 ∧ (unlocked live).pw.change = none ∧
    (unlocked live).get Reg.GLB_STATE_PROFILE < 3 ∧ fieldOf (3 : Word).toNat 0 4 = 3 ∧
    (379 : BitVec 10).toNat < 380 ∧ live.get Reg.NVS_SUPPLY_ASH_SAG = 0 := by decide

/-- RegisterWritesStoreByFieldKind: a field at bit 31, EVT_SYS_BUDGET as a plain register, an unmapped address, and a
misaligned one. -/
theorem wit_writes : (let f : FieldD := ⟨31, 1, .w1c, 0⟩;
      f.lo + f.n ≤ 32 ∧ 0xFFFFFFFF < 2 ^ 32 ∧ 0 < f.n) ∧
    live.pw.hostOn = true ∧ live.xng.perst = false ∧ live.get Reg.XNG_HSTATUS_FIELD_ABSENT = 0 ∧ live.answers = true ∧
    live.xng.waiting = [] ∧ live.stopped = false ∧
    (∀ a ∈ [Reg.EVT_SYS_BUDGET.addr, 0x0FFFF8], hostSide a = false ∧ a % 4 = 0 ∧ a < 0x100000) ∧
    ((regAt Reg.EVT_SYS_BUDGET.addr).map (fun d => decide (d.1.base ∉ commandBases))) = some true ∧ regAt 0x0FFFF8 = none ∧
    hostSide 0x000006 = false ∧ 0x000006 % 4 ≠ 0 := by decide

/-- RegisterAccessesAreAnswered. -/
theorem wit_accesses : live.xng.mbx = [] ∧ live.get Reg.GLB_MBX_VALID = 0 ∧
    hostSide 0x000000 = false ∧ 0x000000 % 8 = 0 ∧ 0x000002 % 4 ≠ 0 ∧
    (let s := xng (fun x => { x with up := false }) live;
      s.pw.hostOn = true ∧ s.xng.perst = false ∧ s.get Reg.XNG_HSTATUS_FIELD_ABSENT = 0 ∧ s.answers = false ∧
      s.xng.mbx = []) ∧
    (let s := live.put Reg.XNG_HSTATUS_FIELD_ABSENT 1;
      s.pw.hostOn = true ∧ s.xng.perst = false ∧ s.get Reg.XNG_HSTATUS_FIELD_ABSENT = 1 ∧ s.xng.mbx = []) ∧
    (xng (fun x => { x with perst := true }) live).xng.perst = true := by decide

/-- HandlesAreAllocatedFreedAndRedirected: a pattern segment of one word by a free handle, a slipway at its fill rate, a
FREE of an idle handle, a REDIRECT, its time, and an old storage that nothing refers to. -/
theorem wit_alloc : (let s := args [0, 12 + 6, 1, 0, 0, 0] { live with segs := [], stores := [], tiles := [], ctxs := [] };
      s.get Reg.PLC_STATUS_BUSY = 0 ∧ s.plcArgsOk [24, 5, 32, 32, 32, 0] = true ∧
      kindClass (fieldOf (s.plcArg 1) 0 3) (fieldOf (s.plcArg 1) 3 2) = some (.pattern, .C) ∧
      s.plcArg 2 + 2 ^ 32 * s.plcArg 3 = 1 ∧ s.plcArg 4 = 0 ∧ s.seg (s.plcArg 0) = none ∧ s.segs.length < 1048576 ∧
      s.admitted + 0 ≤ Config.ceiling ∧ (s.place .C 1 0 1).toBool = true) := by decide

theorem wit_alloc_slipway : (let s := args [77, 4 + 16, 64, 0, 100, 0] { live with segs := [], stores := [], tiles := [], ctxs := [] };
      kindClass (fieldOf (s.plcArg 1) 0 3) (fieldOf (s.plcArg 1) 3 2) = some (.slipway, .C) ∧
      s.plcArg 4 ≠ 0 ∧ s.plcArg 4 ≤ RateClass.C.rate ∧ s.seg 77 = none ∧ s.admitted + 100 ≤ Config.ceiling ∧
      (s.place .C 64 100 77).toBool = true) := by decide

theorem wit_free : (let s := args [2] { live with tiles := [], ctxs := [] };
      s.get Reg.PLC_STATUS_BUSY = 0 ∧ s.plcArgsOk [24, 0, 0, 0, 0, 0] = true ∧ s.seg (s.plcArg 0) = some (seg 2) ∧
      s.liveNow (s.plcArg 0) = false ∧ (seg 2).redirect = none ∧ (seg 2).loads = []) := by decide

theorem wit_redirect : (let s := args [5, 2] live;
      s.get Reg.PLC_STATUS_BUSY = 0 ∧ s.plcArgsOk [24, 26, 0, 0, 0, 0] = true ∧ fieldOf (s.plcArg 1) 24 2 = 0 ∧
      (s.redirectCheck (s.plcArg 0) (fieldOf (s.plcArg 1) 0 24)).toOption = some (seg 5, seg 2) ∧ s.slotsHolding 5 = []) ∧
    (let s := { live with segs := [(5, { seg 5 with redirect := some ⟨2, 0, none, 7, 0, []⟩ })] };
      s.seg 5 = some { seg 5 with redirect := some ⟨2, 0, none, 7, 0, []⟩ } ∧ s.redirectDue ⟨2, 0, none, 7, 0, []⟩ = true) ∧
    (let s := { live with olds := [⟨5, 77⟩] };
      s.olds.find? (fun o => decide (o.h = 5) && decide (s.refCount o.h o.sid = 0)) = some ⟨5, 77⟩) := by decide

/-- LoadsOpenAndEnd. -/
theorem wit_loads : (let s := args [2, 0, 0, 0, 10, 0] { live with tiles := [], ctxs := [] };
      s.get Reg.PLC_STATUS_BUSY = 0 ∧ s.plcArgsOk [24, 6, 32, 32, 32, 32] = true ∧ s.seg (s.plcArg 0) = some (seg 2) ∧
      (s.loadCheck 2 (seg 2) false false 0 0 10).toBool = true) ∧
    (let s := loads 5 [load 0 10 10 false, load 0 5 3 false] live;
      (s.seg 5).isSome = true ∧
      [load 0 10 10 false, load 0 5 3 false].find? (fun l => decide (l.done = l.count)) = some (load 0 10 10 false) ∧
      (load 0 10 10 false).src = 0) := by decide

/-- RanksAndExtentsMove: the first and the last rank among them. -/
theorem wit_ranks : (let s := args [5, 1] live;
      s.get Reg.PLC_STATUS_BUSY = 0 ∧ s.plcArgsOk [24, 1, 0, 0, 0, 0] = true ∧ s.seg (s.plcArg 0) = some (seg 5)) ∧
    (let s := args [0] live;
      s.plcArgsOk [24, 0, 0, 0, 0, 0] = true ∧ s.plcArg 0 = 0) ∧
    (let s := args [191] (unlocked (live.put (Reg.RANK_STATE_STATE 191) 3));
      s.get Reg.GLB_STATE_UNLOCKED = 1 ∧ s.plcArgsOk [32, 0, 0, 0, 0, 0] = true ∧ s.plcArg 0 < 192 ∧
      s.rankSt (s.plcArg 0) = 3) ∧
    (live.put (Reg.RANK_STATE_STATE 3) 4).rankSt 3 = 4 ∧
    (live.get Reg.NVS_SUPPLY_NV_BLOCK = 0 ∧ live.mc.moving = [] ∧ live.mc.lost = [] ∧
      (upto 192).all (fun q => !live.rankLeaving q) = true) ∧
    (inForce [(Reg.PLC_CFG_DEFRAG_EN, 1)] live).active Reg.PLC_CFG_DEFRAG_EN = 1 ∧
    live.get Reg.MEM_STATUS_HOT = 0 ∧ live.get Reg.MEM_SR_ACTIVE = 0 ∧
    (mc (fun m => { m with jobs := [(5, 1), (0, 2)] }) live).mc.jobs = [(5, 1), (0, 2)] ∧
    (∀ p ∈ [(3, 1), (191, 0)], (let s := mc (fun m => { m with records := [p] }) live;
      s.get Reg.NVS_SUPPLY_NV_BLOCK = 0 ∧ s.mc.records.find? (fun q => decide (q.1 = p.1)) = some p)) ∧
    (live.put Reg.NVS_SUPPLY_NV_BLOCK 1).get Reg.NVS_SUPPLY_NV_BLOCK = 1 := by decide

/-- Rank r is RETIRING, and extent 4 lies on it. -/
def leaving (r : Nat) : State := mc (fun m => { m with exts := [(4, ⟨r, .C, 9⟩)] }) (live.put (Reg.RANK_STATE_STATE r) 2)

/-- RanksAndExtentsMove, the migrations: rank 0 leaves empty, or with an extent that has a target in its own channel; a copy of
rank 191's. -/
theorem wit_moves : (leaving 0).rankLeaving 0 = true ∧ 0 ∉ (leaving 0).mc.moving ∧ mfind (leaving 0).mc.copies 0 = none ∧
    (live.put (Reg.RANK_STATE_STATE 0) 2).rankLeaving 0 = true ∧
    (mc (fun m => { m with moving := [0] }) (live.put (Reg.RANK_STATE_STATE 0) 2)).firstExt 0 = none ∧
    (let v := mc (fun m => { m with moving := [0] }) (leaving 0);
      v.firstExt 0 = some (4, ⟨0, .C, 9⟩) ∧ v.target 4 0 = some 1 ∧ v.get (Reg.RANK_STATE_EXT_USED 1) < 4095) ∧
    (let s := mc (fun m => { m with copies := [(191, (4, 190))] }) (leaving 191);
      s.get Reg.MEM_SR_ACTIVE = 0 ∧ mfind s.mc.copies 191 = some (4, 190) ∧ s.ext 4 = some ⟨191, .C, 9⟩ ∧
      s.rankHot 191 = false ∧ s.rankHot 190 = false) := by decide

/-- RanksAndExtentsMove, where no rank has room: every rank is leaving. -/
theorem wit_noTarget : (let s := mc (fun m => { m with moving := [3] }) (puts ((upto 192).map (fun r => (Reg.RANK_STATE_STATE r, 2))) (leaving 3));
      s.rankLeaving 3 = true ∧ s.firstExt 3 = some (4, ⟨3, .C, 9⟩) ∧ s.target 4 3 = none) := by decide

/-- CommandsAreRefusedWithAReport. -/
theorem wit_refused : (live.put Reg.PLC_STATUS_BUSY 1).get Reg.PLC_STATUS_BUSY = 1 ∧
    live.get Reg.PLC_STATUS_BUSY = 0 ∧
    (∀ m ∈ [[24, 5, 32, 32, 32, 0], [24, 0, 0, 0, 0, 0], [24, 6, 32, 32, 32, 32], [24, 1, 0, 0, 0, 0]],
      (args [2 ^ 30] live).plcArgsOk m = false) ∧
    (∀ m ∈ [[24, 0, 0, 0, 0, 0], [24, 6, 32, 32, 32, 32]], (args [77] live).plcArgsOk m = true) ∧
    (args [77] live).seg ((args [77] live).plcArg 0) = none ∧ (live.tile 2).resetAt ≠ some live.now ∧
    ((tile (fun x => { x with resetAt := some 7 }) live).tile 2).resetAt = some live.now ∧
    (let s := args [191] (unlocked live);
      s.get Reg.GLB_STATE_UNLOCKED = 1 ∧ s.plcArgsOk [32, 0, 0, 0, 0, 0] = true ∧ s.plcArg 0 < 192 ∧ s.rankSt (s.plcArg 0) ≠ 3) ∧
    ((tile (fun x => { x with prep := some (5, 3) }) live).tile 2).prep ≠ none ∧
    (live.tile 2).prep = none ∧ live.get (Reg.CTX_CFG_BIND 1) ≠ 2 ∧ bound.get (Reg.CTX_CFG_BIND 1) = 2 ∧
    (∀ st ∈ [CtxState.running, .ready, .paused, .free, .loaded],
      ((ctx 1 (fun x => { x with st := st }) bound).ctx 1).st = st) := by decide

/-! ## Instructions -/

/-- The instructions of the statements, each with operands it takes, resolved on tile 2 at position 0: those without duration
as the 4,095th in a row. -/
theorem wit_runs : ∀ q ∈ [(0x00, 0), (0x01, 0), (0x04, 3), (0x05, 0), (0x06, 5 * 2 ^ 34 + 4), (0x07, 0),
      (0x08, 2 ^ 58 + 5 * 2 ^ 34 + 4), (0x09, 2 ^ 59 + 5 * 2 ^ 46 + 2 ^ 56 + 5 * 2 ^ 22 + 4), (0x0A, 2 ^ 65), (0x0E, 2 ^ 65 + 99),
      (0x0F, 99), (0x11, 2 ^ 34 + 2 ^ 32 + 7), (0x13, 2), (0x14, 63), (0x15, 2 ^ 64 + 2 ^ 32 + 7)],
    (tile (fun x => { x with spin := 4094 }) (withOp 2 q.1 live)).runsInstr 2 q.1 (BitVec.ofNat 66 q.2) 1 0 := by
  unfold State.runsInstr; decide

/-- The instructions with a duration. -/
theorem wit_runs_timed : ∀ q ∈ [(0x02, 6 * 2 ^ 34 + 19), (0x03, 6 * 2 ^ 34 + 3), (0x0B, 1023), (0x0C, 0), (0x0C, 2 ^ 62 + 40),
      (0x10, 4 * 2 ^ 44 + 3 * 2 ^ 28 + 77), (0x12, 7 * 2 ^ 34 + 2)],
    (withOp 2 q.1 live).runsInstr 2 q.1 (BitVec.ofNat 66 q.2) 1 0 := by
  unfold State.runsInstr; decide

/-- SETTS, on a pattern tile. -/
theorem wit_setts : (withOp 8 0x0D (live.setTile 8 { TileSt.init with running := some 1 })).runsInstr 8 0x0D 1 1 0 := by
  unfold State.runsInstr; decide

/-- AFalseConditionIsNop and its opposite: CNT0 is 0. -/
theorem wit_conditions : (live.due 2 1 0x06 0).holds 1 (opCond (BitVec.ofNat 66 (2 * 2 ^ 62))) = false ∧
    (live.due 2 1 0x06 0).holds 1 (opCond (BitVec.ofNat 66 (2 ^ 62))) = true ∧
    (∀ op ∈ [0x01, 0x07, 0x14], (withOp 2 op live).runsInstr 2 op (BitVec.ofNat 66 (2 * 2 ^ 62)) 1 0) ∧
    (∀ op ∈ [0x06, 0x08], (withOp 2 op live).runsInstr 2 op (BitVec.ofNat 66 (2 * 2 ^ 62 + 5 * 2 ^ 34 + 4)) 1 0) := by
  unfold State.runsInstr; decide

/-- LoopsBanksAndCounters, CallsReturnsJumpsAndHalts: a full loop stack less one; a loop of each kind; a full call stack less
one; returns to an instruction and into an item. -/
theorem wit_stacks : (let s := ctx 1 (fun x => { x with loops := List.replicate 7 ⟨⟨5, 5, 1⟩, 1, true, false⟩ }) live;
      ((s.due 2 1 0x04 0).ctx 1).loops.length < 8) ∧
    (let s := ctx 1 (fun x => { x with loops := [⟨⟨5, 5, 1⟩, 1, false, false⟩] }) live;
      ((s.due 2 1 0x05 0).ctx 1).loops = [⟨⟨5, 5, 1⟩, 1, false, false⟩] ∧ ((s.due 2 1 0x05 0).ctx 1).loopFloor < 1 ∧
      opBits (BitVec.ofNat 66 (2 ^ 58 + 5 * 2 ^ 34 + 4)) 58 4 ≤ 8 ∧
      opBits (BitVec.ofNat 66 (2 ^ 58 + 5 * 2 ^ 34 + 4)) 58 4 ≤
        ((s.due 2 1 0x08 0).ctx 1).loops.length - ((s.due 2 1 0x08 0).ctx 1).loopFloor) ∧
    (let s := ctx 1 (fun x => { x with calls := List.replicate 15 ⟨⟨5, 5, 9⟩, .fresh, 0⟩ }) live;
      ((s.due 2 1 0x06 0).ctx 1).calls.length < 16) ∧
    ((live.due 2 1 0x06 0).refTarget 2 5 4).toOption = some ⟨5, 5, 4⟩ ∧
    (let s := ctx 1 (fun x => { x with calls := [⟨⟨5, 5, 9⟩, .words 6 6 20 0 3 2, 0⟩] }) live;
      ((s.due 2 1 0x07 0).ctx 1).calls = [⟨⟨5, 5, 9⟩, .words 6 6 20 0 3 2, 0⟩] ∧
      ((s.due 2 1 0x07 0).store 5).kind = .program) := by decide

/-- TimedItemsBegin, PhasesMarksSignalsAndSteps. -/
theorem wit_items : ((live.due 2 1 0x02 0).refPlay 2 6 19).toBool = true ∧ ((live.due 2 1 0x03 0).refPlay 2 6 0).toBool = true ∧
    ((live.due 2 1 0x0C 0).ctx 1).pos = .fresh ∧ (live.due 2 1 0x12 0).upol 1 ≠ 2 ∧
    ((inForce [(Reg.SLW_HANDLE_HANDLE 3, 7), (Reg.SLW_HANDLE_EN 3, 1), (Reg.SLW_BLOCK 3, 64)] live).due 2 1 0x12 0).refStream 2 1 7 =
      .ok (7, 3) ∧
    (∀ k ∈ [0, 1, 2], ((item (.ramp k 4 3 77 3 7) live).tile 2).item = .ramp k 4 3 77 3 7) ∧ 3 < 4 ∧ 7 ≤ live.now := by decide

/-- ArmsAndSwitches: an ARM of STOP, one of GOTO whose run ends at once, and one that run-ahead has resolved. -/
theorem wit_arms : ((live.due 2 1 0x09 0).ctx 1).st = .running ∧ live.resolvedAt 2 1 = none ∧
    ((live.due 2 1 0x09 0).landArm 2 (BitVec.ofNat 66 (3 * 2 ^ 56))).2 = .free ∧
    (let s := live.writeWord 5 4 (BitVec.ofNat 72 (2 ^ 66));
      ((s.due 2 1 0x09 0).landArm 2 (BitVec.ofNat 66 (5 * 2 ^ 22 + 4))).2 = .slot 0) ∧
    (let s := tile (fun x => { x with ahead := some ⟨1, ⟨5, 5, 4⟩, [], [], 0, 0, [⟨5, 3, none, some (.slot 2)⟩], 0, false⟩ }) live;
      ((s.closeItem 2 0).resolvedAt 2 1).bind (fun r => r.land) = some (.slot 2)) ∧
    (bound.due 2 1 0x13 0).get (Reg.CTX_CFG_BIND 2) = 2 ∧ ((bound.due 2 1 0x13 0).ctx 2).st = .ready ∧
    ((bound.due 2 1 0x13 0).ctx 3).st = .paused := by decide

/-- FaultsStopTheContext: a missing dispatch entry, on a waveform tile and on a pattern tile; the 4,096th instruction of no
duration; a runaway routine. -/
theorem wit_faults : (let s := (live.setTile 9 { TileSt.init with running := some 1, nextPos := 5000 });
      s.itemEnd 9 = some 5000 ∧ posCycle 5000 ≤ s.now ∧ (s.closeItem 9 5000).instrFault 9 1 0x00 0 = some (.opcode, .precond) ∧
      (let v := s.stopVec 9 (posCycle 5000 * Config.fine);
        (v.setTile 9 ((v.tile 9).closed 5000)).instrFault 9 1 0x00 0 = some (.opcode, .precond))) ∧
    live.underrunAt 2 = none ∧ (live.tile 2).running = some 1 ∧ live.itemEnd 2 = some 0 ∧ (live.tile 2).micro.upc = none ∧
    (live.closeItem 2 0).instrFault 2 1 0x00 0 = some (.opcode, .precond) ∧
    4095 ≤ ((tile (fun x => { x with spin := 4095 }) live).tile 2).spin ∧
    ((item .runaway live).tile 2).item = .runaway := by decide

/-- ReleasesAndGaps: at the target cycle, after it, in a gap and at its end. -/
theorem wit_releases : ((item (.sync 0 0 7 (some 7)) live).tile 2).item = .sync 0 0 7 (some 7) ∧ 7 ≤ live.now ∧
    ((item (.sync 1 9 5 (some 3)) live).tile 2).item = .sync 1 9 5 (some 3) ∧
    (item (.sync 1 9 5 (some 3)) live).active (Reg.SEQ_CTRL_LATE_FAULT 2) = 0 ∧
    (inForce [(Reg.SEQ_CTRL_LATE_FAULT 2, 1)] (item (.sync 1 9 5 (some 3)) live)).active (Reg.SEQ_CTRL_LATE_FAULT 2) = 1 ∧
    (live.tile 2).gapAt = none ∧ live.active (Reg.SEQ_CTRL_GAP_FAULT 2) = 0 ∧
    (inForce [(Reg.SEQ_CTRL_GAP_FAULT 2, 1)] live).active (Reg.SEQ_CTRL_GAP_FAULT 2) = 1 ∧
    live.lateWord 2 = none ∧ ((item (.words 6 6 20 0 3 2 7168) live).lateWord 2).isSome = true ∧
    (let s := tile (fun x => { x with gapAt := some 3 }) (item (.words 6 6 20 0 3 2 0) live);
      (s.tile 2).gapAt = some 3 ∧ (s.itemAtWord 2 0).isSome = true ∧
      (tile (fun x => { x with item := .idle }) s).itemAtWord 2 0 = none) ∧
    (item (.sync 1 9 5 (some 3)) live).underrunAt 2 = none := by decide

/-- TheMicroMachineRuns: microwords of each kind, and a routine of one NEXT. -/
theorem wit_micro : fieldOf 0x099C01 19 5 = 0x01 ∧ fieldOf 0x119C01 19 5 = 0x02 ∧ fieldOf 0x199C01 19 5 = 0x03 ∧
    fieldOf (2 ^ 13 + 5) 19 5 = 0x00 ∧ fieldOf (2 ^ 13 + 5) 13 2 = 1 ∧
    (let s := (withOp 2 0x30 live).put (Reg.MC_DISPATCH_START 2 0x30) 0xC00;
      let s := { s with ustore := [(4096 * 2 + 0xC00, BitVec.ofNat 24 (0x13 * 2 ^ 19))] };
      0x16 ≤ fieldOf (BitVec.ofNat 72 (0x30 * 2 ^ 66)).toNat 66 6 ∧ s.runsInstr 2 0x30 0 1 0 ∧
      ((s.due 2 1 0x30 0).ctx 1).pos = .fresh ∧
      fieldOf ((s.due 2 1 0x30 0).microword 2 ((s.due 2 1 0x30 0).get (Reg.MC_DISPATCH_START 2 0x30))) 19 5 = 0x13) := by
  unfold State.runsInstr; decide

/-- UserMicrocodeAndKeys. -/
theorem wit_reload : (let s := unlocked (({ live with ctxs := [] }).put (Reg.MC_ULOAD_SRC 2) 5);
      s.get Reg.GLB_STATE_UNLOCKED = 1 ∧ (s.put Reg.GLB_STATE_UNLOCKED 0).reloadCheck 2 (s.get (Reg.MC_ULOAD_SRC 2)) = none ∧
      s.seg (s.get (Reg.MC_ULOAD_SRC 2)) = some (seg 5)) ∧
    (let s := unlocked (({ live with ctxs := [] }).put (Reg.MC_ULOAD_SRC 2) 6);
      (s.put Reg.GLB_STATE_UNLOCKED 0).reloadCheck 2 (s.get (Reg.MC_ULOAD_SRC 2)) = some .precond) ∧
    ((tile (fun x => { x with reload := some ⟨5, 5⟩ }) live).tile 2).reload = some ⟨5, 5⟩ ∧
    live.blockCheck 2 [] = some .sig := by decide

/-- The one hypothesis that no closed state can show: a block verifies where the standard's functions, left open, say so. -/
theorem wit_block_verifies (s : State) (l : List (BitVec 8)) (h : s.blockVerifies l = true) (h1 : blockServes l 2 = true)
    (h2 : blockSound l = true) : s.blockCheck 2 l = none := by
  simp [State.blockCheck, h, h1, h2]

theorem wit_key : live.get Reg.NVS_UKEY_CTRL_ENROLLED = 0 ∧ live.get Reg.NVS_SUPPLY_NV_BLOCK = 0 ∧
    live.get Reg.NVS_UKEY_CTRL_OPEN = 0 ∧ (live.put Reg.NVS_UKEY_CTRL_OPEN 1).get Reg.NVS_UKEY_CTRL_OPEN = 1 ∧
    11 ∈ [3, 11] ∧ 11 ∉ [0, 1, 2, 3, 4, 5, 6, 7, 8, 9, 10] ∧ [0, 1, 2, 3, 4, 5, 6, 7, 8, 9, 10].length = 11 ∧
    ({ live with ukey := upto 12 } : State).ukey.length = 12 := by decide

/-- ContextsAreLoadedAndReleased, ContextsArePreparedAndStarted. -/
theorem wit_contexts : (bound.tile 2).prep = none ∧ bound.get (Reg.CTX_CFG_BIND 5) = 2 ∧ (bound.ctx 5).st = .loaded ∧
    (bound.residents 2).length < 256 ∧ bound.refProgram 5 0 = .ok ⟨5, 5, 0⟩ ∧
    ((tile (fun x => { x with prep := some (5, 255) }) bound).tile 2).prep = some (5, 255) ∧
    (let s := idle bound;
      (s.ctx 2).st = .ready ∧ (s.ctx 3).st = .paused ∧ (s.tile 2).running = none ∧ (s.tile 2).start = none ∧
      (s.tile 2).reload = none ∧ s.calHold 2 = none ∧ s.fifthChannel 2 = false) ∧
    (let s := puts [(Reg.SEQ_ARG 2 0, 1031)] (idle bound);
      s.sysTime s.now + Config.lead ≤ s.seqTime 2) ∧
    ((tile (fun x => { x with start := some ⟨2, false, 0, some 7, 7⟩ }) bound).tile 2).start = some ⟨2, false, 0, some 7, 7⟩ ∧
    bound.heldSafe 2 = false ∧ (bound.put (Reg.WAV_CTRL_FORCE_SAFE 2) 1).heldSafe 2 = true := by decide

/-- PausesAndStops. -/
theorem wit_pauses : (bound.ctx 1).st = .running ∧ (bound.ctx 1).holds = true ∧
    (let s := tile (fun x => { x with pauses := [⟨1, 7, false⟩], nextPos := 7 * 1024 }) bound;
      (s.tile 2).pauses = [⟨1, 7, false⟩] ∧ s.itemEnd 2 = some (7 * 1024) ∧ 7 * 1024 / Config.fine ≤ s.now) ∧
    ((tile (fun x => { x with pauses := [⟨1, 7, true⟩] }) bound).tile 2).pauses = [⟨1, 7, true⟩] ∧
    ((tile (fun x => { x with stops := [⟨1, 7, true⟩, ⟨2, 9, true⟩] }) bound).tile 2).stops = [⟨1, 7, true⟩, ⟨2, 9, true⟩] ∧
    (bound.ctx 2).holds = true := by decide

/-- TheTablesAreGuarded. -/
theorem wit_tables : (bound.ctx 5).st = .loaded ∧ (bound.ctx 3).st = .paused ∧ (bound.ctx 1).st = .running ∧
    live.slipLive 3 = false ∧
    (item (.stream 7 7 3 2 0 0 0 0 .playing) (live.put (Reg.SLW_HANDLE_HANDLE 3) 7)).slipLive 3 = true := by decide

/-! ## Commits, events and streams -/

/-- Context 1 with arm record 2, and a catch of it on tile 2 whose commit is due at cycle 60; it is cycle 65. -/
def armed (a : ArmRec) : State :=
  at_ 65 (tile (fun x => { x with catches := [⟨1, 2, 3, 5, 60, 0⟩] }) (ctx 1 (fun x => { x with arms := [(2, a)] }) bound))

/-- CommitsTakeTheirAction: each action, and a full call stack. -/
theorem wit_commits : (∀ act ∈ [ArmAct.goto, .call, .switch, .stop, .count],
      (armed ⟨true, 5, act, 5, 2, false, true, some 0, 2, 3⟩).dropReason 2 ⟨1, 2, 3, 5, 60, 0⟩ = none ∧
      (((armed ⟨true, 5, act, 5, 2, false, true, some 0, 2, 3⟩).ctx 1).arm 2).act = act) ∧
    (let s := armed ⟨true, 5, .call, 5, 2, false, true, some 0, 2, 3⟩;
      (s.tile 2).catches = [⟨1, 2, 3, 5, 60, 0⟩] ∧ 60 ≤ s.now ∧ s.seg 5 = some (seg 5) ∧ (s.ctx 1).calls.length < 16 ∧
      (s.tile 2).item = .idle ∧ ((item (.wait 9 3 none) s).tile 2).item = .wait 9 3 none ∧ (s.tile 2).micro.upc = none ∧ (s.tile 2).ahead = none ∧
      16 ≤ ((ctx 1 (fun x => { x with calls := List.replicate 16 ⟨⟨5, 5, 9⟩, .fresh, 0⟩ }) s).ctx 1).calls.length) := by
  decide

/-- CatchesAreLostOrLand: a record written afresh; a fill that may start, one that has started, and one that follows a
fill 1,024 cc before; the end of the dead time. -/
theorem wit_landings : (let s := armed ⟨true, 5, .call, 5, 4, false, false, some 0, 2, 8⟩;
      (s.tile 2).catches = [⟨1, 2, 3, 5, 60, 0⟩] ∧ 60 ≤ s.now ∧ (s.dropReason 2 ⟨1, 2, 3, 5, 60, 0⟩).isSome = true) ∧
    (let s := at_ 1028 (tile (fun x => { x with slots := [(0, ⟨⟨[], []⟩, 3, none, none⟩)], fillQ := [0], lastFill := some 4 }) live);
      (s.tile 2).fillQ = [0] ∧ mfind (s.tile 2).slots 0 = some ⟨⟨[], []⟩, 3, none, none⟩ ∧ 3 ≤ s.now ∧
      (s.tile 2).lastFill = some 4 ∧ 4 + 1024 ≤ s.now) ∧
    (let s := tile (fun x => { x with slots := [(0, ⟨⟨[], []⟩, 3, some 4, none⟩)], fillQ := [0] }) live;
      (s.tile 2).fillQ = [0] ∧ mfind (s.tile 2).slots 0 = some ⟨⟨[], []⟩, 3, some 4, none⟩) ∧
    (let s := item (.dead 7 1) live;
      (s.tile 2).running = some 1 ∧ (s.tile 2).item = .dead 7 1 ∧ 7 ≤ s.now ∧ (s.ctx 1).pos = .fresh ∧
      (s.ctx 1).st = .running) := by decide

/-- TimersRunAndExpire: PERIOD 100 and 0; a periodic expiry and a last one. -/
theorem wit_timers : live.tmrPeriod 1 = 0 ∧
    (let s := inForce [(Reg.EVT_TMR_PER_LO 1, 100), (Reg.EVT_TMR_CTRL_PERIODIC 1, 1)]
        { live with evt := { live.evt with timers := [(1, ⟨7, false⟩), (2, ⟨6, true⟩)] } };
      s.tmrPeriod 1 = 100 ∧ s.active (Reg.EVT_TMR_CTRL_PERIODIC 1) = 1 ∧ mfind s.evt.timers 1 = some ⟨7, false⟩ ∧
      mfind s.evt.timers 2 = some ⟨6, true⟩ ∧ 7 ≤ s.now) := by decide

/-- SourcesOccur. -/
theorem wit_sources : (let s := xng (fun x => { x with raises := [3, 31, 0] }) live;
      s.xng.up = true ∧ 31 ∈ s.xng.raises ∧ 0 ∈ s.xng.raises) ∧
    (let s := inForce [(Reg.EVT_TRIG_CFG_EN 1, 1), (Reg.TH_CFG_EN 1 2, 1)] live;
      s.active (Reg.EVT_TRIG_CFG_EN 1) ≠ 0 ∧ s.evt.trig.getD 1 false ≠ true ∧ s.active (Reg.TH_CFG_EN 1 2) ≠ 0 ∧
      s.capHeld 1 = false ∧ s.settling 1 = false ∧ (s.thr 1 2).q ≠ true) ∧
    (live.active (Reg.TH_CFG_EN 1 2) = 0 ∧ live.active (Reg.EVT_TRIG_CFG_EN 1) = 0) ∧
    live.get (Reg.PIN_CFG 7 7) = 0 ∧ (live.put (Reg.PIN_CFG 7 7) 1).get (Reg.PIN_CFG 7 7) = 1 ∧
    live.get (Reg.GRP_FLOG_WR_FILL 7) < 1024 ∧ (live.group 7).failAt ≠ some (live.vcyc 7) ∧
    ((live.setGroup 7 { GrpSt.init with failAt := some (live.vcyc 7) }).group 7).failAt = some (live.vcyc 7) ∧
    live.matchTakes 0 1 (live.active (Reg.MATCH_CFG_PIN 0 1)) 1 = false ∧
    (let s := inForce [(Reg.MATCH_CFG_EN 0 1, 1), (Reg.MATCH_CFG_PIN 0 1, 3)] live;
      s.matchTakes 0 1 (s.active (Reg.MATCH_CFG_PIN 0 1)) 1 = true) := by decide

/-- A port in state st, of a module that has joined its system. -/
def port (p st : Nat) : State := (live.put (Reg.TXL_PSTATUS_STATE p) st).put Reg.TXL_STATUS_JOINED 1
/-- s with p its upstream port. -/
def upstream (p : Nat) (s : State) : State := s.putActive Reg.TXL_CFG_UP p

/-- RegistrationsAreNoted: the last module event and the first system event; apply times before and at the latest cycle. -/
theorem wit_registrations : (inForce [(Reg.EVT_MAP_EN 767, 1), (Reg.EVT_MAP_SRC 767, 6)] live).admits 767 = true ∧
    (live.lastReg 768).cyc ≠ some live.now ∧
    (let s := at_ (Config.L + 200) (port 1 4);
      s.portTalks 1 = true ∧ s.get Reg.TXL_STATUS_JOINED = 1 ∧ s.sysTime s.now + Config.L < 2 ^ 64 ∧
      Config.L ≤ s.sysTime s.now ∧ (s.lastReg (768 + 255)).cyc ≠ some s.now) := by decide

/-- StrobesTransferShadows: bits 0 and 15. -/
theorem wit_strobes : (0x8001 : Word).getLsbD 0 = true ∧ (0x8001 : Word).getLsbD 15 = true ∧
    mfind live.evt.strobes 0 ≠ some live.now ∧
    (live.put Reg.EVT_CTRL_UPD_GRP 15).shadowOf Reg.EVT_CTRL_UPD_GRP = 15 := by decide

/-- Tile 2 plays a ring block of its STREAM from position pos; it is cycle 1400. -/
def streaming (n counted b w pos : Nat) (ph : BlockPhase) : State := at_ 1400 (item (.stream 7 7 3 n counted b w pos ph) live)

/-- StreamsPlayBlocksOrUnderrun: a block whose last word has left, of a STREAM without end, with a block to come and with
none, and one that plays again; a held STREAM with enough complete; a ring with room. -/
theorem wit_blocks : (∀ q ∈ [(0, 0), (2, 1), (1, 1)],
      (((streaming q.1 q.2 0 5 1024 .playing).blockEnd 2).map (fun p => decide (ceilDiv p Config.fine - 1 ≤ 1400))) = some true) ∧
    (let s := streaming 2 1 0 5 1024 (.replaying 0);
      (s.tile 2).blockDone = false ∧ (s.tile 2).gapAt = none ∧
      ((s.blockEnd 2).map (fun p => decide (ceilDiv p Config.fine - 1 ≤ 1400))) = some true) ∧
    (((streaming 2 0 0 0 1024 (.held true)).holdUntil 2).map (fun r => decide (r ≤ 1400))) = some true ∧
    live.seg 7 = some (seg 7) ∧ live.ringRoom 7 ≠ 0 := by decide

/-- An underrun at cycle 9, where nothing past word 128 has landed, under each policy, and the commit of a DIVERT. -/
theorem wit_underruns : (∀ p ∈ [0, 1, 2],
      (let s := (streaming 2 0 128 0 (9 * 1024) .playing).put (Reg.CTX_CFG_UPOL 1) p;
        s.upol 1 = p ∧ s.underrunAt 2 = some (3, 9 * 1024, 7) ∧ posCycle (9 * 1024) ≤ s.now ∧ (s.tile 2).divert = none ∧
        (s.tile 2).diverting = none ∧ (s.ctx 1).lastBlock 7 = none ∧
        ((ctx 1 (fun x => { x with played := [(7, 64)] }) s).ctx 1).lastBlock 7 = some 64)) ∧
    (let s := tile (fun x => { x with divert := some 1, slots := [(1, ⟨⟨[], []⟩, 3, some 4, some 5⟩)] })
        ((streaming 2 0 128 0 (1100 * 1024) .playing).put (Reg.CTX_CFG_UPOL 1) 2);
      s.underrunAt 2 = some (3, 1100 * 1024, 7) ∧ posCycle (1100 * 1024) = 1100 ∧ s.upol 1 = 2 ∧
      (s.tile 2).heldDue ≠ some 1100 ∧ (s.tile 2).diverting = none ∧
      (s.tile 2).divert = some 1 ∧ s.filledBy 2 1 (1100 - Config.L) = true ∧
      ((tile (fun x => { x with heldDue := some 1100 }) s).tile 2).heldDue = some 1100 ∧
      (tile (fun x => { x with slots := [(1, ⟨⟨[], []⟩, 3, some 4, none⟩)] }) s).filledBy 2 1 (1100 - Config.L) = false) ∧
    (let s := puts [(Reg.CTX_DIVERT_LO 1, 4), (Reg.CTX_DIVERT_HI_HANDLE 1, 5)]
        (tile (fun x => { x with diverting := some ⟨255, 1400, 1⟩ }) (streaming 2 0 128 0 (9 * 1024) .playing));
      (s.tile 2).diverting = some ⟨255, 1400, 1⟩ ∧ 1400 ≤ s.now ∧ (s.tile 2).catches = [] ∧ (s.ctx 1).calls.length < 16 ∧
      s.seg (s.divertTo 1).1 = some (seg 5)) := by decide

/-! ## Outputs and capture -/

/-- TheCombinerFollowsTheMode: a channel at one sample a slot, with the slew limiter off. -/
theorem wit_combiner : (let s := inForce [(Reg.WAV_CFG_MODE 2, 2)] live;
      s.ivory = false ∧ s.active (Reg.WAV_CTRL_LSB 2) = 0 ∧ s.active (Reg.WAV_SLEW_STEP 2) = 0 ∧ s.mthActive 2 = false ∧
      s.interp 2 = 1 ∧ (s.wave 2).lag = []) := by decide

/-- OutputsAndStagingFollowTheRegisters: a mute that ends now; the last row and one past it. -/
theorem wit_outputs : (let s := live.setWave 2 { WavSt.init with muteUntil := some 7 };
      (s.wave 2).muteUntil = some 7 ∧ 7 ≤ s.now) ∧ (0x800 : Word).getLsbD 11 = true ∧
    mfind live.wrote (Reg.TS_HSTAGE_ADDR_ROW 1).addr = none ∧
    (live.put (Reg.TS_HSTAGE_ADDR_ROW 1) 24).get (Reg.TS_HSTAGE_ADDR_ROW 1) ≤ 24 ∧
    24 < (live.put (Reg.TS_HSTAGE_ADDR_ROW 1) 25).get (Reg.TS_HSTAGE_ADDR_ROW 1) := by decide

/-- A recording of capture segment 8. -/
def recd : Recd := ⟨8, 8, 0, 0, none, none, none, false, 0, [], 3, (0, 0), 0⟩

/-- RecordingsStartAndEnd: starts that pass, that wait for their source and that name no segment; one to stop, one that is
full, one that has ended, and triggers taken and too early. -/
theorem wit_recordings : (((live.put (Reg.CAP_HANDLE 1) 8).plainWrite (recCtrl 1).addr 1).recCheck 1).toOption = some 8 ∧
    (((live.put (Reg.PCAP_HANDLE 0) 8).plainWrite (recCtrl 8).addr 1).recCheck 8).toOption = some 8 ∧
    ((live.plainWrite (recCtrl 1).addr 1).recCheck 1).toOption = none ∧ fieldOf 0x101 8 2 ≠ 0 ∧
    live.stoppedNow 1 = false ∧ (cap (fun x => { x with stopCyc := some 7 }) live).stoppedNow 1 = true ∧
    (let s := cap (fun x => { x with recd := some recd }) live;
      s.recOf 1 = some recd ∧ recd.ended = false ∧ recd.trigTs = none ∧ recd.stopAt = none ∧ (s.group 0).vc = none ∧
      recd.from_ ≠ s.now ∧ { recd with from_ := 7 }.from_ = s.now ∧ s.drainsOf 1 = [] ∧
      s.recFull 1 { recd with units := 256 } = true ∧
      (s.plainWrite (Reg.CBUF_CFG_TRIG 1).addr 0x110).trigOpen 1 0 = true ∧
      ((s.put (Reg.CBUF_PRE 1) 3).plainWrite (Reg.CBUF_CFG_TRIG 1).addr 0x111).trigOpen 1 0 = false) ∧
    ((cap (fun x => { x with recd := some { recd with ended := true } }) live).recOf 1).map (fun r => r.ended) = some true ∧
    (cap (fun x => { x with drains := [recd] }) live).drainsOf 1 = [recd] ∧
    (∀ b ∈ [true, false],
      (let v : VCyc := ⟨0, 0, 0, 0, [], [], false, 0, 0, 0, none, b⟩;
        let s := live.setGroup 0 { GrpSt.init with recd := some recd, vc := some v };
        s.recOf 8 = some recd ∧ (s.group 0).vc = some v ∧ v.taken = b)) := by
  decide

/-- CaptureChainsRestart, FilterBanksSwap, BanksInUseAreNotWritten. -/
theorem wit_chains : (0x200 : Word).getLsbD 9 = true ∧ (0x100 : Word).getLsbD 8 = true ∧ (0x100 : Word).getLsbD 9 = false ∧
    (let s := cap (fun x => { x with sync := some 7, rngAt := some 5 }) live;
      (s.capture 1).sync = some 7 ∧ (s.capture 1).rngAt = some 5 ∧ 7 ≤ s.now ∧
      (s.capture 1).settle ≤ (s.capture 1).chain.out) ∧
    (let v : Word := 0x80000401; v.getLsbD 0 = true ∧ fieldOf v.toNat 8 3 ≤ 4 ∧ fieldOf v.toNat 30 2 ≠ 0) ∧
    4 < fieldOf 0x501 8 3 ∧
    (let s := cap (fun x => { x with swap := some ⟨1, 0, 4, 6, 3⟩, triggered := true }) live;
      (s.capture 1).swap = some ⟨1, 0, 4, 6, 3⟩ ∧ (s.capture 1).triggered = true ∧ 6 < s.now ∧ (s.capture 1).fade = none ∧
      (fadeLen 4).isSome = true ∧ fadeLen 0 = some 0 ∧ s.fadeStarts 1 = true ∧ live.fadeStarts 1 = false) ∧
    ((cap (fun x => { x with fade := some ⟨16, 16⟩ }) live).capture 1).fade = some ⟨16, 16⟩ ∧
    (let s := inForce [(Reg.FLT_CFG_FIR_EN 1, 1)] (live.put (Reg.FIR_STATUS_ACTIVE 1) 1);
      s.get (Reg.FIR_STATUS_ACTIVE 1) = bit true ∧ s.get (Reg.FIR_STATUS_ACTIVE 1) ≠ bit false ∧
      s.active (Reg.FLT_CFG_FIR_EN 1) = 1 ∧ live.active (Reg.FLT_CFG_FIR_EN 1) = 0 ∧ (live.capture 1).fade = none) := by
  decide

/-! ## Memory and clock -/

/-- MemoryErrorsAreCounted: a word within the code's reach, a live segment, a rank in service without and with extents. -/
theorem wit_errors : 1 ≤ live.active Reg.MEM_ECC ∧ live.active Reg.MEM_ECC < (7 : BitVec 3).toNat ∧
    live.seg 5 = some (seg 5) ∧ live.rankSt 191 = 0 ∧
    live.get (Reg.RANK_STATE_EXT_USED 191) = 0 ∧ (live.put (Reg.RANK_STATE_EXT_USED 3) 2).rankSt 3 = 0 ∧
    (live.put (Reg.RANK_STATE_EXT_USED 3) 2).get (Reg.RANK_STATE_EXT_USED 3) ≠ 0 := by decide

/-- TheStacksAreKept. -/
theorem wit_stacks_kept : (mc (fun m => { m with owed := [(64 * 3 + 1, 9)] }) live).owes 3 1 = 9 ∧ live.owes 3 1 < 9 ∧
    (let s := at_ 100000000 (inForce [(Reg.MEM_CTRL_SR_EN, 1), (Reg.MEM_SR_IDLE, 100)] (idle live));
      s.active Reg.MEM_CTRL_SR_EN = 1 ∧ s.memIdle = true ∧ s.mc.busyAt + s.microsec (s.active Reg.MEM_SR_IDLE) ≤ s.now ∧
      s.mc.urgentTill = none ∧ s.get Reg.MEM_SR_ACTIVE = 0) ∧
    (live.put Reg.MEM_SR_ACTIVE 15).get Reg.MEM_SR_ACTIVE ≠ 0 ∧ live.get Reg.GLB_STATE_PROFILE ≠ 3 ∧
    (live.put Reg.GLB_STATE_PROFILE 3).get Reg.GLB_STATE_PROFILE = 3 ∧
    live.stackTemp 2 < 95 ∧ (∀ x ∈ [84, 89], x < 90) ∧ (∀ k ∈ live.mc.double, k < 4) ∧
    (let s := at_ 10000000 (mc (fun m => { m with hotAt := [5] }) (live.put Reg.MEM_TEMP (95 * 65536)));
      5 ∈ s.mc.hotAt ∧ 5 + s.microsec 1000 ≤ s.now ∧ 95 ≤ s.stackTemp 2 ∧ s.pw.change = none ∧
      s.get Reg.GLB_STATE_PROFILE < 3) ∧
    (let s := inForce [(Reg.MEM_CTRL_AUTO_RETRAIN, 1)] ((idle live).put Reg.MEM_STATUS_RETRAIN_DUE 1);
      s.active Reg.MEM_CTRL_AUTO_RETRAIN = 1 ∧ s.get Reg.MEM_STATUS_RETRAIN_DUE = 1 ∧ s.busyModule = false ∧
      s.mc.retrain = none ∧ s.cal.run = none ∧ s.pw.change = none ∧ s.get Reg.GLB_STATE_PROFILE ≠ 3) ∧
    (∀ l ∈ [[1, 2], [1]], (let s := mc (fun m => { m with retrain := some ⟨l, true, false⟩ }) live;
      s.mc.retrain = some ⟨l, true, false⟩ ∧ 1 ∈ l ∧ s.cal.run = none)) ∧
    (upto 192).all (fun q => decide (live.rankSt q ≠ 4)) = true := by decide

/-- TheRootLoopFollowsItsReference: every state of the loop, and the reference in use or not. -/
theorem wit_loop : (∀ k ∈ [0, 1, 2, 3, 4], (live.put Reg.CLK_STATUS_STATE k).loopSt = k) ∧
    (live.put Reg.CLK_STATUS_REF_ACT 1).get Reg.CLK_STATUS_REF_ACT = 1 ∧ live.get Reg.CLK_STATUS_REF_ACT ≠ 1 ∧
    live.get Reg.CLK_STATUS_REF_OK = 1 ∧ live.active Reg.CLK_CTRL_REF_SEL ≠ 2 ∧
    (live.put Reg.CLK_STATUS_STATE 3).loopSt = 3 ∧
    (let s := inForce [(Reg.CLK_CTRL_REF_SEL, 1)] (live.put Reg.CLK_STATUS_STATE 1);
      s.active Reg.CLK_CTRL_REF_SEL = 1 ∧ s.get Reg.CLK_STATUS_REF_ACT ≠ 1 ∧ s.loopSt = 1 ∧
      s.active Reg.CLK_CTRL_RECOVER = 0) ∧
    (clk (fun x => { x with cmd := some 255 }) (live.put Reg.CLK_STATUS_STATE 2)).clk.cmd = some 255 := by decide

/-- A ramp of 1,000 above the base. -/
def ramp (triangle stopping : Bool) (cur : Int) : Ramp := ⟨triangle, 200 * 2 ^ 32, 1000, 10, cur, false, stopping, 0⟩

/-- ClockCommandsRetuneAndRamp. -/
theorem wit_ramps : (let s := inForce [(Reg.CLK_ROOT_FCW_HI, 200), (Reg.CLK_ROOT_FCW_LO, 5)] (idle live);
      s.get Reg.CLK_CMD_STATUS_BUSY = 0 ∧ s.busyModule = false ∧ s.clk.ramp = none ∧ s.startAhead = false ∧
      fcwLegal (s.active64 Reg.CLK_ROOT_FCW_LO Reg.CLK_ROOT_FCW_HI : Nat) = true ∧ s.loopSt = 0) ∧
    (let s := clk (fun x => { x with span := (200 * 2 ^ 32, 200 * 2 ^ 32 + 1000) }) (inForce [(Reg.CLK_ROOT_FCW_HI, 200),
        (Reg.CLK_ROOT_FCW_ACT_HI, 200), (Reg.CLK_RAMP_DEV_LO, 1000), (Reg.CLK_RAMP_STEP, 5)] (idle live));
      s.get Reg.CLK_CMD_STATUS_BUSY = 0 ∧ s.rampCheck = none) ∧
    (∀ r ∈ [ramp true true (200 * 2 ^ 32), ramp false false (200 * 2 ^ 32 + 1000), ramp true false (200 * 2 ^ 32 + 50)],
      (clk (fun x => { x with ramp := some r }) live).clk.ramp = some r) ∧
    (ramp true true (200 * 2 ^ 32)).cur = (ramp true true (200 * 2 ^ 32)).base ∧
    (let r := ramp false false (200 * 2 ^ 32 + 1000); r.cur = r.base + r.dev ∧ r.cur < 2 ^ 40) := by decide

/-! ## Links and the Crossing -/

/-- PortsTrainFallAndReport: ports in each state, upstream and downstream. -/
theorem wit_ports : (∀ k ∈ [0, 1, 2, 3, 4], (port 3 k).portSt 3 = k) ∧
    true ≠ decide ((port 3 1).upPort = 3) ∧ true = decide ((upstream 3 (port 3 1)).upPort = 3) ∧
    (port 3 4).get Reg.TXL_STATUS_JOINED = 1 ∧ (port 3 4).portTalks 3 = true ∧ (upstream 3 (port 3 4)).portTalks 3 = true ∧
    (port 3 4).upPort ≠ 3 ∧ (upstream 3 (port 3 4)).upPort = 3 ∧
    (let s := inForce [(Reg.TXL_CFG_PORT_EN, 8)] live; s.portOn 3 = true) ∧
    (let s := inForce [(Reg.TXL_CFG_PORT_EN, 0)] live; s.portOn 3 = false) ∧
    (∀ q, q < 4 → live.portSt q ≠ 4) ∧ 8 < (9 : BitVec 4).toNat := by decide

/-- SyncsAreIssuedAndTaken: the first sync of a system, the next ones, a sync heard and a pulse that aligns. -/
theorem wit_syncs : (let s := upstream 4 (live.put Reg.CLK_STATUS_STATE 4);
      s.upPort = 4 ∧ s.txl.sync = none ∧ s.txl.started = false ∧ s.loopSt = 4) ∧
    (let s := txl (fun x => { x with started := true }) (inForce [(Reg.TXL_SYNC_PER_LO, 65536)] (upstream 4 live));
      s.upPort = 4 ∧ s.txl.sync = none ∧ s.txl.started = true ∧ 0 < s.syncPer) ∧
    (let s := upstream 1 (port 1 4);
      s.upPort = 1 ∧ s.portTalks 1 = true ∧ s.get Reg.TXL_STATUS_JOINED = 1 ∧ s.txl.ready = false) ∧
    (let s := clk (fun x => { x with alignedAt := 3 })
        (txl (fun x => { x with sync := some ⟨7, 131072, 20, [], [3]⟩ }) (upstream 4 (live.put Reg.CLK_STATUS_STATE 4)));
      s.txl.sync = some ⟨7, 131072, 20, [], [3]⟩ ∧ 7 ≤ s.now ∧ s.upPort = 4 ∧ s.loopSt = 4 ∧ s.clk.alignedAt < s.now ∧
      (∀ g, g < 16 → s.get (Reg.GLB_UPD_SRC_SRC g) ≠ 2)) := by decide

/-- HeartbeatsAndAbsence. -/
theorem wit_beats : (live.put Reg.XNG_WDOG 5).get Reg.XNG_WDOG ≠ 0 ∧ live.get Reg.XNG_HSTATUS_WDOG_EXP = 0 ∧
    live.kicked = false ∧ ({ live with wrote := [(Reg.XNG_KICK.addr, 0)] } : State).kicked = true ∧
    (let s := live.put Reg.XNG_HALERT_WDOG 1;
      s.get Reg.XNG_HALERT_WDOG = 1 ∧ s.shadowOf Reg.XNG_HALERT_WDOG ≠ 0 ∧
      ({ s with wrote := [(Reg.XNG_HALERT_WDOG.addr, 0)] } : State).shadowOf Reg.XNG_HALERT_WDOG = 0) ∧
    live.pw.hostOn = true ∧ live.pw.fieldOn = true ∧ 2 ≤ live.get Reg.NVS_BOOT_STAGE ∧ live.xng.up = true ∧
    live.get Reg.XNG_FSTATUS_HOST_ABSENT = 0 ∧ live.get Reg.XNG_HSTATUS_FIELD_ABSENT = 0 ∧ live.fieldLive = true ∧
    live.xng.dormant = false ∧ (∀ p ∈ [0, 1, 2], (live.put Reg.XNG_ABSENT_POLICY p).get Reg.XNG_ABSENT_POLICY = p) ∧
    (∀ a ∈ [true, false], (let s := xng (fun x => { x with beatHost := some a, hbField := 1 }) (live.put Reg.XNG_FSTATUS_HOST_ABSENT 1);
      s.xng.beatHost = some a ∧ s.get Reg.XNG_FSTATUS_HOST_ABSENT = 1 ∧ s.shadowOf Reg.XNG_FSTATUS_HOST_ABSENT ≠ 0 ∧
      s.xng.hbField = 1 ∧
      ({ s with wrote := [(Reg.XNG_FSTATUS_HOST_ABSENT.addr, 0)] } : State).shadowOf Reg.XNG_FSTATUS_HOST_ABSENT = 0)) ∧
    (let s := xng (fun x => { x with beatField := some 7, hbHost := 1 }) (live.put Reg.XNG_HSTATUS_FIELD_ABSENT 1);
      s.xng.beatField = some 7 ∧ s.get Reg.XNG_HSTATUS_FIELD_ABSENT = 1 ∧ s.xng.hbHost = 1) := by decide

/-- MessagesCrossAndTheHostSideResets: queues with room and full ones. -/
theorem wit_messages : (let s := xng (fun x => { x with fAlarms := [⟨1, 2, 3⟩], fNotes := [⟨1, 2, true⟩] }) live;
      s.xng.fAlarms = [⟨1, 2, 3⟩] ∧ s.xng.fNotes = [⟨1, 2, true⟩] ∧ s.xng.up = true ∧ s.xng.perst = false ∧
      s.pw.hostOn = true ∧ s.xng.hAlarms.length < 64 ∧ s.xng.hNotes.length < 256 ∧
      64 ≤ (xng (fun x => { x with hAlarms := List.replicate 64 ⟨0, 0, 0⟩ }) s).xng.hAlarms.length ∧
      256 ≤ (xng (fun x => { x with hNotes := List.replicate 256 ⟨0, 0, false⟩ }) s).xng.hNotes.length) ∧
    live.get Reg.XNG_HSTATUS_FIELD_ABSENT = 0 ∧ live.get Reg.XNG_FSTATUS_HOST_ABSENT = 0 ∧ (6 : Word).getLsbD 2 = true ∧
    (live.put Reg.XNG_FSTATUS_SAFE_LATCH 1).get Reg.XNG_FSTATUS_SAFE_LATCH = 1 ∧
    (live.put Reg.XNG_FSTATUS_HOST_ABSENT 1).get Reg.XNG_FSTATUS_HOST_ABSENT = 1 ∧
    (pw (fun x => { x with hostOn := false }) live).pw.hostOn = false := by decide

/-- Ring 1 open, its descriptor at the head d, on a live module. -/
def ring (d : Desc) (x : SMap Xfer) (s : State) : State :=
  xng (fun y => { y with rings := [(256, d)], xfers := x }) (puts [(Reg.XNG_RING_CTRL 1, 1), (Reg.XNG_RING_TAIL 1, 3)] s)

/-- FerriesAndPeersMoveWords: a frame of an open LOAD, a descriptor that is done and one that names nothing; a frame of a pull
and one of a push. -/
theorem wit_ferries : (let s := ring ⟨0x1000, 5, 5, true, false, 0, 1, 0, 77⟩ [] (loads 5 [load 0 10 2 true] live);
      s.ringOpen 1 = true ∧ s.xng.up = true ∧ s.fieldLive = true ∧ mfind s.xng.xfers 1 = none ∧
      ([0, 0] : List Word72).length ≤ 455 ∧ s.get (Reg.XNG_RING_HEAD 1) = 0 ∧
      s.headDesc 1 = ⟨0x1000, 5, 5, true, false, 0, 0, 0, 77⟩ ∧ 0 + 2 ≤ (s.headDesc 1).count ∧
      (s.ferryMatch (s.headDesc 1)).toOption = some ({ seg 5 with loads := [load 0 10 2 true], loading := true }, load 0 10 2 true) ∧
      s.tooHot 5 = false ∧ 2 + 2 ≤ (load 0 10 2 true).count) ∧
    (let s := ring ⟨0x1000, 5, 5, false, false, 0, 1, 0, 77⟩ [(1, ⟨none, 0⟩)] (loads 5 [load 0 10 2 false] live);
      mfind s.xng.xfers 1 = some ⟨none, 0⟩ ∧ (s.headDesc 1).toHost = false ∧ (s.headDesc 1).done = 1 ∧
      (s.ferryMatch (s.headDesc 1)).toOption = some ({ seg 5 with loads := [load 0 10 2 false], loading := true }, load 0 10 2 false)) ∧
    live.ringOpen 1 = false ∧
    (let s := ring ⟨0x1000, 5, 5, true, false, 0, 5, 0, 77⟩ [(1, ⟨none, 2⟩)] live;
      (s.ringOpen 1 = true ∧ s.xng.up = true ∧ s.fieldLive = true) ∧ mfind s.xng.xfers 1 = some ⟨none, 2⟩ ∧
      (s.headDesc 1).done = (s.headDesc 1).count) ∧
    (let s := ring ⟨0x1000, 5, 77, true, false, 0, 0, 0, 77⟩ [] live;
      mfind s.xng.xfers 1 = none ∧ (s.ferryMatch (s.headDesc 1)).toOption = none) ∧
    (let s := loads 3 [load 2 10 3 true] (port 1 4);
      s.portTalks 1 = true ∧ s.seg 3 = some { seg 3 with loads := [load 2 10 3 true], loading := true } ∧
      (load 2 10 3 true).src = 1 + 1 ∧ (load 2 10 3 true).off + 3 = 3 ∧ 3 + 7 ≤ (load 2 10 3 true).count) ∧
    (let s := { port 1 4 with tiles := [], ctxs := [] };
      s.portTalks 1 = true ∧ s.seg 6 = some (seg 6) ∧ (s.store 6).kind ≠ .capture ∧ (s.store 6).kind ≠ .slipway ∧
      18 + 2 ≤ (s.store 6).len ∧ s.liveNow 6 = false ∧ (seg 6).guests = [] ∧ s.tooHot 6 = false ∧
      s.get Reg.GLB_STATE_PROFILE ≠ 3 ∧ s.pw.change ≠ some 3) := by decide

/-! ## Image, calibration and counters -/

/-- TheImageIsWrittenAndBooted: the first and the last block of a bank, one beside no boundary, and a write in progress. -/
theorem wit_image : (unlocked live).get Reg.GLB_STATE_UNLOCKED = 1 ∧
    (let s := live.put Reg.NVS_NV_CTRL_WE 1;
      s.get Reg.NVS_IMG_STATUS_BUSY = 0 ∧ s.get Reg.NVS_NV_CTRL_WE = 1 ∧ s.get Reg.NVS_SUPPLY_NV_BLOCK = 0 ∧
      s.get Reg.NVS_IMG_ADDR = 0) ∧ (bankBytes - 4096) % 4096 = 0 ∧
    (∀ w ∈ [NvWrite.block 3, .commit 3 16], (pw (fun x => { x with writing := [w] }) live).pw.writing = [w]) ∧
    live.pw.wanted = none ∧
    (∀ k ∈ [1, 2, 5, 7], (let s := live.put Reg.NVS_BOOT_STAGE k;
      s.get Reg.NVS_BOOT_STAGE = k ∧ s.fieldLive = true ∧ s.stopped = false ∧ s.get Reg.XNG_PWR_DORMANT = 0 ∧
      s.get Reg.CLK_STATUS_REF_OK = 1 ∧ s.cal.run = none ∧
      (inForce [(Reg.CLK_CTRL_REF_SEL, 3)] s).get Reg.CLK_STATUS_REF_ACT =
        (inForce [(Reg.CLK_CTRL_REF_SEL, 3)] s).active Reg.CLK_CTRL_REF_SEL)) := by decide

/-- CalibrationsBeginAndEnd: every procedure on its lowest target; a run at its last target; a commit and its end. -/
theorem wit_cal : (∀ op ∈ [1, 2, 3, 4, 5, 6, 7], calTarget op 0 = true ∧ (∀ c ∈ calTargets op 0, (idle (port 0 4)).calBlocked op c = false)) ∧
    live.get Reg.CAL_CMD_STATUS_BUSY = 0 ∧ live.cal.run = none ∧ (idle (port 0 4)).calAway = false ∧
    (∀ op ∈ [1, 2, 3, 4, 5, 6], (let r : CalRun := ⟨op, 9, 0, 0, false, [], 3, 4, false, false⟩;
      let s := { live with cal := { live.cal with run := some r } };
      s.cal.run = some r ∧ r.op = op ∧ r.boot = false ∧ r.target ≠ 15 ∧ r.tag < 256 ∧ r.a < 65536 ∧ r.b < 65536 ∧
      s.calHvDown r = false)) ∧
    (unlocked live).get Reg.GLB_STATE_UNLOCKED = 1 ∧ live.get Reg.NVS_SUPPLY_NV_BLOCK = 0 ∧
    (pw (fun x => { x with writing := [.cal 255 true] }) live).pw.writing = [.cal 255 true] ∧ live.pw.wanted = none ∧
    mfind ({ live with cal := { live.cal with dacRef := [(7, 50)] } }).cal.dacRef 7 = some 50 := by decide

/-- SmbusAnswersAndCountersCount. -/
theorem wit_counters : live.get (Reg.MON_CFG_RUN 1) = 0 ∧ 1 ∉ live.monEnded ∧ mfind live.monBegun 1 = none ∧
    live.active (Reg.MON_CFG_CLR 1) = 1 ∧ (inForce [(Reg.MON_CFG_CLR 1, 0)] live).active (Reg.MON_CFG_CLR 1) = 0 := by
  decide

/-- EveryStepKeepsTheMemories, NoStepStops and TheQueueDrains: reset. -/
theorem wit_whole : State.reset.memoriesWf = true ∧ State.reset.pending = [] ∧ State.reset.pending.length = 0 := by decide

end Sys2Proof.Tests
end

/-! # The slot of a waveform channel: combiner, gain, quantiser (R160 to R170) -/

section
namespace Sys2Proof.Machine

/-- The two-sided test of `clampSigned` as a lattice expression. -/
theorem clampSigned_eq_max_min (n : Nat) (i : Int) :
    clampSigned n i = max (-(2 ^ (n - 1) : Nat) : Int) (min ((2 ^ (n - 1) : Nat) - 1) i) := by
  have hpos : 0 < 2 ^ (n - 1) := Nat.two_pow_pos _
  unfold clampSigned
  generalize 2 ^ (n - 1) = m at hpos
  split_ifs <;> omega

/-- sat16 of R160. -/
theorem sat16_eq_max_min (i : Int) : sat16 i = max (-32768) (min 32767 i) :=
  clampSigned_eq_max_min 16 i

/-- sat14 of R168. -/
theorem sat14_eq_max_min (i : Int) : sat14 i = max (-8192) (min 8191 i) :=
  clampSigned_eq_max_min 14 i

@[simp] theorem satFlag_fst (i : Int) : (satFlag i).1 = sat16 i := rfl

/-- The table of R160, with 0b11 and what a two-bit field cannot hold in its last row. -/
theorem combine_fst (mode : Nat) (x y : Int) :
    (combine mode x y).1 =
      match mode with
      | 0 => x
      | 1 => y
      | 2 => max (-32768) (min 32767 ((x * y + 2 ^ 14) / 2 ^ 15))
      | _ => max (-32768) (min 32767 (x + y)) := by
  match mode with
  | 0 => rfl
  | 1 => rfl
  | 2 => exact sat16_eq_max_min _
  | _ + 3 => exact sat16_eq_max_min _

/-- The first row of R168: outside Ivory, LSB 0b00 rounds. -/
theorem quantise_of_round {s : State} {w : Nat} (hivory : s.ivory = false)
    (hlsb : s.active (Reg.WAV_CTRL_LSB w) = 0) (z r : Int) : s.quantise w z r = (sat14 ((z + 2) / 4), 0) := by
  simp [State.quantise, hivory, hlsb]

/-- STEP 0 bypasses the limiter (R169). -/
theorem limit_of_step_zero {s : State} {w : Nat} (hstep : s.active (Reg.WAV_SLEW_STEP w) = 0) (n : Nat) (q : Int) :
    s.limit w n q = q := by
  simp [State.limit, hstep]

/-- Where nothing has been noted, the gain and the offset are those of this cycle (R162). -/
theorem lagged_snd_of_lag_nil {s : State} {w : Nat} (hlag : (s.wave w).lag = []) (i : Nat) :
    (s.lagged w i).2 = (s.get (Reg.WAV_GAIN_ACT w), s.get (Reg.WAV_OFFSET_ACT w)) := by
  simp [State.lagged, hlag, lagAt, State.lagNow]

/-- The value that the gain stage gives a combined y under a gain and an offset, before its clamp (R162). -/
def gained (y : Int) (gain off : Nat) : Int := (y * gain + signedOf 28 off * 2 ^ 15 + 2 ^ 26) / 2 ^ 27

/-- A slot of a channel that takes each input sample as it is, rounds, and neither limits nor freezes: the DAC presents the
quantised code of this slot alone, R162 and R168 applied to the combiner's y. -/
theorem slotEnd_dac_of_plain {s : State} {w : Nat} (i : Nat) (hivory : s.ivory = false)
    (hlsb : s.active (Reg.WAV_CTRL_LSB w) = 0) (hstep : s.active (Reg.WAV_SLEW_STEP w) = 0)
    (hmth : s.mthActive w = false) (hinterp : s.interp w = 1) :
    (s.slotEnd w i).wave.dac =
      sat14 ((sat16 (gained (combine (s.active (Reg.WAV_CFG_MODE w))
        (s.inputAt w (s.now * Config.fine + i * s.slotFine)).code.toInt
        (sineOut (s.lagged w i).1 (s.active (Reg.NCO_AMP w)))).1
        (s.lagged w i).2.1 (s.lagged w i).2.2) + 2) / 4) + 8192 := by
  simp [State.slotEnd, gained, hmth, hinterp, limit_of_step_zero hstep, quantise_of_round hivory hlsb]

/-- Settles O42: the combiner's table, and the DAC code of a plain slot with that table put in for y. -/
theorem theCombinerFollowsTheMode : Obligations.TheCombinerFollowsTheMode := by
  unfold Obligations.TheCombinerFollowsTheMode
  refine ⟨fun x y => ?_, fun s w i _ hivory hlsb hstep hmth hinterp => ⟨?_, fun hlag => ?_⟩⟩
  · exact ⟨combine_fst 0 x y, combine_fst 1 x y, combine_fst 2 x y, combine_fst 3 x y⟩
  · rw [slotEnd_dac_of_plain i hivory hlsb hstep hmth hinterp, sat14_eq_max_min, sat16_eq_max_min, combine_fst]
    rfl
  · exact lagged_snd_of_lag_nil hlag i

end Sys2Proof.Machine
end

/-! # Writes of the filter banks of a capture channel (R222, R223, R235) -/

section
namespace Sys2Proof.Machine

/-- The two banks of a channel share one map: a tap of either has its own key there. -/
theorem tapKey_ne {d e i j : Nat} (hi : i < 128) (hj : j < 128) (h : d ≠ e ∨ j ≠ i) : 128 * d + j ≠ 128 * e + i := by
  omega

/-- s with tap i of bank b of channel c replaced (R222). -/
def State.setFirTap (s : State) (c b i : Nat) (x : BitVec 18) : State :=
  s.setCapture c { s.capture c with taps := mset (fun _ => 0) (s.capture c).taps (128 * b + i) x }

@[simp] theorem State.firTap_setFirTap_same (s : State) (c b i : Nat) (x : BitVec 18) :
    (s.setFirTap c b i x).firTap c b i = x.toInt := by
  simp [State.setFirTap, State.firTap]

theorem State.firTap_setFirTap_other (s : State) {c b i d j : Nat} (x : BitVec 18) (hi : i < 128) (hj : j < 128)
    (h : d ≠ b ∨ j ≠ i) : (s.setFirTap c b i x).firTap c d j = s.firTap c d j := by
  simp [State.setFirTap, State.firTap, mget_mset_other _ _ _ (tapKey_ne hi hj h)]

theorem State.setFirTap_writes (s : State) (c b i : Nat) (x : BitVec 18) : s.writes (s.setFirTap c b i x) [.cap] :=
  State.setCapture_moves.1

theorem State.setFirTap_setsFields_nil (s : State) (c b i : Nat) (x : BitVec 18) : s.setsFields (s.setFirTap c b i x) [] :=
  s.setsFields_refl

@[simp] theorem State.firTap_put (s : State) (f : Fld) (v c b i : Nat) : (s.put f v).firTap c b i = s.firTap c b i := rfl

/-- Bank b of channel c takes no write now (R223; R235 for the cycle of a fade's first sample). -/
def State.bankBusy (s : State) (c b : Nat) : Prop :=
  (s.capture c).fade ≠ none ∨ s.fadeStarts c = true ∨
    (s.get (Reg.FIR_STATUS_ACTIVE c) = b ∧ s.active (Reg.FLT_CFG_FIR_EN c) = 1)

theorem State.not_bankBusy {s : State} {c b : Nat} (hfade : (s.capture c).fade = none) (hstart : s.fadeStarts c = false)
    (hbank : s.get (Reg.FIR_STATUS_ACTIVE c) ≠ b ∨ s.active (Reg.FLT_CFG_FIR_EN c) = 0) : ¬ s.bankBusy c b := by
  rintro (h | h | ⟨hactive, hen⟩)
  · exact h hfade
  · simp [hstart] at h
  · rcases hbank with h | h
    · exact h hactive
    · omega

/-- The test that the command makes is bankBusy. -/
theorem State.bankBusy_iff {s : State} {c b : Nat} : s.bankBusy c b ↔
    ((s.capture c).fade.isSome = true ∨ s.fadeStarts c = true ∨
      (s.get (Reg.FIR_STATUS_ACTIVE c) = b ∧ s.active (Reg.FLT_CFG_FIR_EN c) = 1)) := by
  rw [State.bankBusy, Option.isSome_iff_ne_none]

theorem firStatusWsts_fits (c : CapCh) : (Reg.FIR_STATUS_WSTS c).lo + (Reg.FIR_STATUS_WSTS c).n ≤ 32 :=
  (by decide : 24 + 8 ≤ 32)

/-- A status goes into WSTS whole. -/
theorem stsCode_lt_firStatusWsts (c : CapCh) (x : Sts) : x.code < 2 ^ (Reg.FIR_STATUS_WSTS c).n :=
  (by cases x <;> decide : x.code < 2 ^ 8)

theorem get_firStatusWsts_put {s : State} (c : CapCh) (x : Sts) :
    (s.put (Reg.FIR_STATUS_WSTS c) x.code).get (Reg.FIR_STATUS_WSTS c) = x.code := by
  rw [State.get_put _ _ _ (firStatusWsts_fits c), Nat.mod_eq_of_lt (stsCode_lt_firStatusWsts c x)]

section
variable {s : State} {c : CapCh} {second : Bool} {v : Word}

/-- A refused write does nothing but report. -/
theorem execFirBankWrite_of_bankBusy (h : s.bankBusy c (bit second)) (tap : Option (Fin 128)) :
    execFirBankWrite c second tap v s = .next (s.put (Reg.FIR_STATUS_WSTS c) Sts.bankbusy.code) := by
  simp only [execFirBankWrite, if_pos (State.bankBusy_iff.mp h)]

/-- An accepted write of a tap. -/
theorem execFirBankWrite_tap (h : ¬ s.bankBusy c (bit second)) (i : Fin 128) :
    execFirBankWrite c second (some i) v s =
      .next ((s.setFirTap c (bit second) i (BitVec.ofNat 18 v.toNat)).put (Reg.FIR_STATUS_WSTS c) Sts.ok.code) := by
  simp only [execFirBankWrite, if_neg (mt State.bankBusy_iff.mpr h), State.setFirTap]

/-- An accepted write of FIR_BANK_x, a plain register. -/
theorem execFirBankWrite_register (h : ¬ s.bankBusy c (bit second)) :
    execFirBankWrite c second none v s =
      .next ((s.plainWrite (if second then (Reg.FIR_BANK_B_TAPS c).addr else (Reg.FIR_BANK_A_TAPS c).addr) v.toNat).put
        (Reg.FIR_STATUS_WSTS c) Sts.ok.code) := by
  simp only [execFirBankWrite, if_neg (mt State.bankBusy_iff.mpr h)]

/-- Every accepted write, to a tap or to FIR_BANK_x, ends with its report. -/
theorem execFirBankWrite_reports_ok (h : ¬ s.bankBusy c (bit second)) (tap : Option (Fin 128)) :
    Answers (.firBankWrite c second tap v) s fun u => u.get (Reg.FIR_STATUS_WSTS c) = Sts.ok.code := by
  cases tap with
  | none => exact ⟨_, execFirBankWrite_register h, get_firStatusWsts_put c _⟩
  | some i => exact ⟨_, execFirBankWrite_tap h i, get_firStatusWsts_put c _⟩

end

/-- Settles O47: the banks that R223 and R235 close refuse every write; the others take it, and a tap's write moves that tap
alone. -/
theorem banksInUseAreNotWritten : Obligations.BanksInUseAreNotWritten := by
  unfold Obligations.BanksInUseAreNotWritten
  intro s c b v
  refine ⟨fun i hbusy => ?refused, fun hfade hstart hbank => ?accepted⟩
  case refused =>
    exact ⟨_, execFirBankWrite_of_bankBusy hbusy i,
      s.setsOnly_refl.put _ _ (firStatusWsts_fits c) (stsCode_lt_firStatusWsts c _) (by simp)⟩
  case accepted =>
    have hfree := State.not_bankBusy hfade hstart hbank
    refine ⟨execFirBankWrite_reports_ok hfree, fun i => ⟨_, execFirBankWrite_tap hfree i, ?_, ?_, ?_, ?_⟩⟩
    · exact State.writes_of State.put_writes (by decide) (State.writes_mono (s.setFirTap_writes _ _ _ _) (by decide))
    · exact (s.setFirTap_setsFields_nil _ _ _ _).put _ _ (firStatusWsts_fits c) (stsCode_lt_firStatusWsts c _) (by simp)
    · rw [State.firTap_put, State.firTap_setFirTap_same]
    · intro d j _ hj hother
      rw [State.firTap_put, s.firTap_setFirTap_other _ i.isLt hj hother]

end Sys2Proof.Machine
end

/-! # The masked write of GLB_FLAGS (R324) -/

section
namespace Sys2Proof.Machine

theorem bit_eq_toNat (b : Bool) : bit b = b.toNat := by cases b <;> rfl

/-- A field's bit i is bit lo + i of its register. -/
theorem State.testBit_get (s : State) {f : Fld} {i : Nat} (hi : i < f.n) :
    (s.get f).testBit i = (s.regWord f.addr).getLsbD (f.lo + i) := by
  rw [State.get, fieldOf, Nat.testBit_mod_two_pow, decide_eq_true hi, Bool.true_and, Nat.testBit_div_two_pow, Nat.add_comm,
    BitVec.testBit_toNat]

/-- A field's bits are those of what was put there. -/
theorem State.testBit_get_put (s : State) {f : Fld} (x : Nat) (hf : f.lo + f.n ≤ 32) {i : Nat} (hi : i < f.n) :
    ((s.put f x).get f).testBit i = x.testBit i := by
  rw [State.get_put s f x hf, Nat.testBit_mod_two_pow, decide_eq_true hi, Bool.true_and]

/-- The sum that builds an RWM register has `maskedBit` at each of its n places and nothing above them. -/
theorem testBit_maskedBits (old v : Word) (n i : Nat) :
    (maskedBits old v n).testBit i = (decide (i < n) && maskedBit old v i) := by
  induction n generalizing i with
  | zero => simp [maskedBits]
  | succ n ih =>
    have hlow : maskedBits old v n < 2 ^ n := Nat.lt_pow_two_of_testBit _ fun j hj => by simp [ih, Nat.not_lt.mpr hj]
    have hsum : maskedBits old v (n + 1) = 2 ^ n * (maskedBit old v n).toNat + maskedBits old v n := by
      rw [maskedBits, bit_eq_toNat, Nat.add_comm, Nat.mul_comm]
    rw [hsum, Nat.testBit_two_pow_mul_add _ hlow, ih, Nat.testBit_bool_toNat]
    rcases Nat.lt_trichotomy i n with hi | rfl | hi
    · simp [hi, Nat.lt_succ_of_lt hi]
    · simp
    · simp [Nat.not_lt.mpr hi.le, Nat.sub_ne_zero_of_lt hi, Nat.not_lt.mpr (Nat.succ_le_of_lt hi)]

/-- R324 at one bit: the mask chooses between the data written and what FLAGS, at 15:0 of its register, held. -/
theorem maskedBit_flags (s : State) (v : Word) {i : Nat} (hi : i < 16) :
    maskedBit (s.regWord Reg.GLB_FLAGS_FLAGS.addr) v i =
      if v.getLsbD (16 + i) then v.getLsbD i else (s.get Reg.GLB_FLAGS_FLAGS).testBit i := by
  have hheld : (s.get Reg.GLB_FLAGS_FLAGS).testBit i = (s.regWord Reg.GLB_FLAGS_FLAGS.addr).getLsbD i := by
    rw [State.testBit_get s hi, show Reg.GLB_FLAGS_FLAGS.lo + i = i from Nat.zero_add i]
  rw [hheld, maskedBit]

theorem glbFlags_fits : Reg.GLB_FLAGS_FLAGS.lo + Reg.GLB_FLAGS_FLAGS.n ≤ 32 := (by decide : 0 + 16 ≤ 32)

/-- Settles O7: the write is one put of the field FLAGS, and each bit put there is the masked bit of R324. -/
theorem flagsWriteIsMasked : Obligations.FlagsWriteIsMasked := by
  unfold Obligations.FlagsWriteIsMasked
  intro s v
  refine ⟨_, rfl, fun i hi => ?bits, State.put_writes, ?frame⟩
  case bits =>
    rw [State.testBit_get_put s _ glbFlags_fits hi, testBit_maskedBits, decide_eq_true hi, Bool.true_and,
      maskedBit_flags s v hi]
  case frame =>
    exact (s.keepsFields_refl _).put _ _ glbFlags_fits List.mem_cons_self

end Sys2Proof.Machine
end

/-! # Fields and parts of the state through a chain of updates -/

section
namespace Sys2Proof.Machine

theorem State.get_of_writes {s t : State} {W : List Piece} (h : s.writes t W) (hW : Piece.regs ∉ W) (f : Fld) :
    t.get f = s.get f :=
  State.get_congr (h .regs hW) f

section
variable {s t : State} {W : List Piece} (h : s.writes t W)
include h

theorem State.active_of_writes (hW : Piece.act ∉ W) (f : Fld) : t.active f = s.active f := by
  simp only [State.active, State.actWord, show t.act = s.act from h .act hW]

theorem State.ctx_of_writes (hW : Piece.ctxs ∉ W) (c : Nat) : t.ctx c = s.ctx c := by
  simp only [State.ctx, show t.ctxs = s.ctxs from h .ctxs hW]

theorem State.tile_of_writes (hW : Piece.tiles ∉ W) (k : Nat) : t.tile k = s.tile k := by
  simp only [State.tile, show t.tiles = s.tiles from h .tiles hW]

theorem State.wave_of_writes (hW : Piece.wav ∉ W) (w : Nat) : t.wave w = s.wave w := by
  simp only [State.wave, show t.wav = s.wav from h .wav hW]

theorem State.group_of_writes (hW : Piece.grp ∉ W) (g : Nat) : t.group g = s.group g := by
  simp only [State.group, show t.grp = s.grp from h .grp hW]

theorem State.capture_of_writes (hW : Piece.cap ∉ W) (c : Nat) : t.capture c = s.capture c := by
  simp only [State.capture, show t.cap = s.cap from h .cap hW]

theorem State.latches_of_writes (hW : Piece.latch ∉ W) (k : Nat) : t.latches k = s.latches k := by
  simp only [State.latches, show t.latch = s.latch from h .latch hW]

theorem State.store_of_writes (hW : Piece.stores ∉ W) (i : Nat) : t.store i = s.store i := by
  simp only [State.store, show t.stores = s.stores from h .stores hW]

theorem State.seg_of_writes (hW : Piece.segs ∉ W) (i : Nat) : t.seg i = s.seg i := by
  simp only [State.seg, show t.segs = s.segs from h .segs hW]

end

/-- Fields stay set through what leaves the register file alone. -/
theorem State.setsFields.of_regs {s t u : State} {L : List (Fld × Nat)} (h : s.setsFields t L) (e : u.regs = t.regs) :
    s.setsFields u L :=
  ⟨fun p hp => (State.get_congr e p.1).trans (h.1 p hp), fun f hf => (State.get_congr e f).trans (h.2 f hf)⟩

theorem State.setsFields_nil_of_regs {s t : State} (e : t.regs = s.regs) : s.setsFields t [] :=
  s.setsFields_refl.of_regs e

/-- The order in which fields are listed, and how often, does not matter. -/
theorem State.setsFields.congr {s t : State} {L M : List (Fld × Nat)} (h : s.setsFields t L) (hML : M ⊆ L)
    (hLM : L.map Prod.fst ⊆ M.map Prod.fst) : s.setsFields t M :=
  ⟨fun p hp => h.1 p (hML hp), fun f hf => h.2 f fun g hg => hf g (hLM hg)⟩

theorem State.setsFields.get {s t : State} {L : List (Fld × Nat)} (h : s.setsFields t L) {f : Fld} {v : Nat}
    (hm : (f, v) ∈ L) : t.get f = v :=
  h.1 _ hm

theorem State.setsFields.get_apart {s t : State} {L : List (Fld × Nat)} (h : s.setsFields t L) {f : Fld}
    (hf : ∀ g ∈ L.map Prod.fst, f.apart g) : t.get f = s.get f :=
  h.2 f hf

/-- A field apart from those set; with fields of fixed addresses the side condition computes. -/
theorem State.setsFields.get_other {s t : State} {L : List (Fld × Nat)} (h : s.setsFields t L) (f : Fld)
    (hf : decide (∀ g ∈ L.map Prod.fst, f.apart g) = true) : t.get f = s.get f :=
  h.2 f (of_decide_eq_true hf)

/-- Fields set, after others apart from them. -/
theorem State.setsFields.trans {s t u : State} {L M : List (Fld × Nat)} (h : s.setsFields t L) (k : t.setsFields u M)
    (hLM : ∀ p ∈ L, ∀ g ∈ M.map Prod.fst, p.1.apart g) : s.setsFields u (L ++ M) := by
  refine ⟨fun p hp => ?_, fun f hf => ?_⟩
  · rcases List.mem_append.mp hp with hp | hp
    · exact (k.2 p.1 (hLM p hp)).trans (h.1 p hp)
    · exact k.1 p hp
  · rw [List.map_append] at hf
    exact (k.2 f fun g hg => hf g (List.mem_append_right _ hg)).trans (h.2 f fun g hg => hf g (List.mem_append_left _ hg))

/-- F lies in a word, and apart from the fields set. -/
def Fld.free (F : Fld) (L : List (Fld × Nat)) : Bool := decide (F.lo + F.n ≤ 32) && decide (∀ p ∈ L, p.1.apart F)

/-- F lies in a word, takes v whole, and lies apart from the fields set. -/
def Fld.takes (F : Fld) (v : Nat) (L : List (Fld × Nat)) : Bool := decide (v < 2 ^ F.n) && F.free L

theorem Fld.of_free {F : Fld} {L : List (Fld × Nat)} (h : F.free L = true) :
    F.lo + F.n ≤ 32 ∧ ∀ p ∈ L, p.1.apart F := by
  obtain ⟨hF, hL⟩ := Bool.and_eq_true_iff.mp h
  exact ⟨of_decide_eq_true hF, of_decide_eq_true hL⟩

/-- One more field set; with fields of fixed addresses the side conditions compute. -/
theorem State.setsFields.next {s t : State} {L : List (Fld × Nat)} (h : s.setsFields t L) (F : Fld) (v : Nat)
    (hF : F.takes v L = true) : s.setsFields (t.put F v) (L ++ [(F, v)]) := by
  obtain ⟨hv, hfree⟩ := Bool.and_eq_true_iff.mp hF
  exact h.put F v (Fld.of_free hfree).1 (of_decide_eq_true hv) (Fld.of_free hfree).2

/-- A field takes what fits of a value. -/
theorem State.put_mod (s : State) (F : Fld) (v : Nat) : s.put F (v % 2 ^ F.n) = s.put F v := by
  simp only [State.put, withField_eq, Nat.mod_mod]

/-- One more field set, to what fits of a value in its n bits. -/
theorem State.setsFields.nextMod {s t : State} {L : List (Fld × Nat)} (h : s.setsFields t L) (F : Fld) (n v : Nat)
    (hn : F.n = n) (hF : F.free L = true) : s.setsFields (t.put F v) (L ++ [(F, v % 2 ^ n)]) := by
  rw [← hn, ← State.put_mod]
  exact h.put F _ (Fld.of_free hF).1 (Nat.mod_lt _ (Nat.two_pow_pos _)) (Fld.of_free hF).2

theorem State.setsOnly.next {s t : State} {L : List (Fld × Nat)} (h : s.setsOnly t L) (F : Fld) (v : Nat)
    (hF : F.takes v L = true) : s.setsOnly (t.put F v) (L ++ [(F, v)]) :=
  by
  obtain ⟨hv, hfree⟩ := Bool.and_eq_true_iff.mp hF
  exact h.put F v (Fld.of_free hfree).1 (of_decide_eq_true hv) (Fld.of_free hfree).2

/-! ## One part replaced -/

section
variable (s : State)

theorem State.with_xng_writes (x : Crossing) : s.writes { s with xng := x } [.xng] := fun p hp => by
  cases p <;> first | rfl | exact absurd (by decide) hp

theorem State.with_pw_writes (x : Power) : s.writes { s with pw := x } [.pw] := fun p hp => by
  cases p <;> first | rfl | exact absurd (by decide) hp

theorem State.with_mc_writes (x : MemSt) : s.writes { s with mc := x } [.mc] := fun p hp => by
  cases p <;> first | rfl | exact absurd (by decide) hp

theorem State.with_evt_writes (x : Events) : s.writes { s with evt := x } [.evt] := fun p hp => by
  cases p <;> first | rfl | exact absurd (by decide) hp

theorem State.with_clk_writes (x : ClkSt) : s.writes { s with clk := x } [.clk] := fun p hp => by
  cases p <;> first | rfl | exact absurd (by decide) hp

theorem State.with_txl_writes (x : TxlSt) : s.writes { s with txl := x } [.txl] := fun p hp => by
  cases p <;> first | rfl | exact absurd (by decide) hp

theorem State.with_cal_writes (x : CalSt) : s.writes { s with cal := x } [.cal] := fun p hp => by
  cases p <;> first | rfl | exact absurd (by decide) hp

end

/-! ## Registers that an operation leaves alone -/

/-- Every register whose address is in K holds in t what it holds in s. -/
def State.keepsWords (s t : State) (K : Nat → Prop) : Prop := ∀ a, K a → t.regWord a = s.regWord a

theorem State.keepsWords_refl (s : State) (K : Nat → Prop) : s.keepsWords s K := fun _ _ => rfl

theorem State.keepsWords.trans {s t u : State} {K : Nat → Prop} (h : s.keepsWords t K) (k : t.keepsWords u K) :
    s.keepsWords u K :=
  fun a ha => (k a ha).trans (h a ha)

theorem State.keepsWords.of_regs {s t u : State} {K : Nat → Prop} (h : s.keepsWords t K) (e : u.regs = t.regs) :
    s.keepsWords u K :=
  fun a ha => (congrArg (mget resetWord · a) e).trans (h a ha)

theorem State.keepsWords.of_writes {s t u : State} {K : Nat → Prop} {W : List Piece} (h : s.keepsWords t K)
    (k : t.writes u W) (hW : Piece.regs ∉ W) : s.keepsWords u K :=
  h.of_regs (k .regs hW)

theorem State.keepsWords.put {s t : State} {K : Nat → Prop} (h : s.keepsWords t K) {F : Fld} (v : Nat)
    (hF : ¬ K F.addr) : s.keepsWords (t.put F v) K :=
  fun a ha => (State.regWord_setRegWord_other t _ fun e : a = F.addr => hF (e ▸ ha)).trans (h a ha)

theorem State.keepsWords.get {s t : State} {K : Nat → Prop} (h : s.keepsWords t K) {f : Fld} (hf : K f.addr) :
    t.get f = s.get f := by
  simp only [State.get, h f.addr hf]

/-- What f keeps for each of 0 to n − 1 is kept by f applied to all of them. -/
theorem State.keepsWords.forUpto {s t : State} {K : Nat → Prop} {f : State → Nat → State} {n : Nat}
    (h : s.keepsWords t K) (hf : ∀ (u : State) k, k < n → u.keepsWords (f u k) K) : s.keepsWords (forUpto f n t) K := by
  induction n with
  | zero => exact h
  | succ n ih => exact (ih fun u k hk => hf u k (Nat.lt_succ_of_lt hk)).trans (hf _ n n.lt_succ_self)

theorem State.keepsWords.forEach {α : Type} {s t : State} {K : Nat → Prop} {f : State → α → State} {l : List α}
    (h : s.keepsWords t K) (hf : ∀ (u : State) a, u.keepsWords (f u a) K) : s.keepsWords (forEach f l t) K := by
  induction l generalizing t with
  | nil => exact h
  | cons a l ih => exact ih (h.trans (hf t a))

/-! ## Widths -/

theorem satAdd32_lt (a b : Nat) : satAdd32 a b < 2 ^ 32 :=
  Nat.lt_of_le_of_lt (Nat.min_le_right _ _) (by decide)

theorem Sts.code_lt (x : Sts) : x.code < 2 ^ 8 := by cases x <;> decide

theorem bit_lt (b : Bool) : bit b < 2 ^ 1 := by cases b <;> decide

end Sys2Proof.Machine
end

/-! # Steps and the queue -/

section
namespace Sys2Proof.Machine

/-- Settles O1: the first equation of step. -/
theorem aStepRunsTheFront : Obligations.AStepRunsTheFront := by
  unfold Obligations.AStepRunsTheFront
  intro c q s
  rfl

/-- Settles O2: State.reset, field by field. -/
theorem resetIsAsTheSpecSays : Obligations.ResetIsAsTheSpecSays := by
  unfold Obligations.ResetIsAsTheSpecSays
  refine ⟨rfl, ⟨rfl, rfl⟩, rfl, rfl, rfl, rfl, ?_, ?_, ?_, ?_, ?_, ?_, fun _ => ⟨rfl, rfl, rfl⟩, fun _ => rfl, ?_, fun _ => rfl⟩
  · decide
  · decide
  · decide
  · decide
  · decide
  · decide
  · exact fun _ => rfl

/-- Settles O3: the one next state of a step is the one that step_next speaks of. -/
theorem everyStepKeepsTheMemories : Obligations.EveryStepKeepsTheMemories := by
  unfold Obligations.EveryStepKeepsTheMemories
  intro s u hwf hstep
  obtain ⟨t, ht, hkeeps⟩ := step_next s
  obtain rfl : t = u := Host.Outcome.next.inj (ht.symm.trans hstep)
  exact hkeeps hwf

/-- Every command answers a next state with the queue and the cycle count as they were. -/
theorem exec_answers (c : Instr) (s : State) : Answers c s fun u => u.pending = s.pending ∧ u.now = s.now :=
  ⟨_, exec_next c s, (exec_moves c s).1 .pending (by decide), (exec_moves c s).1 .now (by decide)⟩

theorem State.tick_pending (s : State) : s.tick.pending = s.pending := State.tick_moves.1 .pending (by decide)

theorem State.tick_now (s : State) : s.tick.now = s.now + 1 := by
  unfold State.tick
  split <;> rfl

/-- With the field side without power or held in reset, only time passes. -/
theorem State.tick_writes_of_not_fieldLive {s : State} (h : s.fieldLive = false) : s.writes s.tick [.now, .wrote, .evt] := by
  unfold State.tick
  rw [if_neg (by simp [h])]
  exact fun p hp => by cases p <;> first | rfl | exact absurd (by decide) hp

/-- The module with no command waiting: none waits after it, and at most one cycle has passed. -/
theorem idle_answers {s : State} : ∃ u, idle s = .next u ∧ u.pending = s.pending ∧ (u.now = s.now ∨ u.now = s.now + 1) := by
  have htick : s.tick.pending = s.pending ∧ (s.tick.now = s.now ∨ s.tick.now = s.now + 1) :=
    ⟨s.tick_pending, .inr s.tick_now⟩
  unfold idle
  split
  · exact ⟨_, rfl, htick⟩
  · split
    · exact ⟨_, rfl, State.settleOwed_moves.1 .pending (by decide), .inl (State.settleOwed_moves.1 .now (by decide))⟩
    · split
      · exact ⟨_, rfl, htick⟩
      · rename_i c _
        obtain ⟨t, ht, hpending, hnow⟩ := exec_answers c s
        rw [ht]
        dsimp only
        split
        · exact ⟨_, rfl, htick⟩
        · exact ⟨_, rfl, hpending, .inl hnow⟩
      · split
        · exact ⟨_, rfl, htick⟩
        · exact ⟨_, rfl, State.happen_moves.1 .pending (by decide), .inl (State.happen_moves.1 .now (by decide))⟩

theorem idle_of_not_fieldLive {s : State} (h : s.fieldLive = false) : idle s = .next s.tick := by
  simp [idle, h]

theorem step_of_pending_nil {s : State} (h : s.pending = []) : step s = idle s := by
  unfold step; rw [h]

/-- Settles O4: commands by exec_answers, idle steps by idle_answers. -/
theorem noStepStops : Obligations.NoStepStops := by
  unfold Obligations.NoStepStops
  refine ⟨exec_answers, fun s hnil => ?_⟩
  rw [step_of_pending_nil hnil]
  cases hlive : s.fieldLive with
  | true =>
    obtain ⟨u, hu, hpending, hnow⟩ := idle_answers (s := s)
    exact ⟨u, hu, hpending.trans hnil, hnow, nofun⟩
  | false =>
    exact ⟨s.tick, idle_of_not_fieldLive hlive, s.tick_pending.trans hnil, .inr s.tick_now,
      fun _ => ⟨State.tick_writes_of_not_fieldLive hlive, s.tick_now⟩⟩

/-- A step with a command waiting takes it from the queue, in the same core cycle. -/
theorem step_cons {s : State} {c : Instr} {q : List Instr} (h : s.pending = c :: q) :
    ∃ u, step s = .next u ∧ u.pending = q ∧ u.now = s.now := by
  obtain ⟨u, hu, hpending, hnow⟩ := exec_answers c { s with pending := q }
  refine ⟨u, ?_, hpending, hnow⟩
  unfold step
  rw [h]
  exact hu

/-- n steps, no more than commands wait, drop n commands from the queue in the same core cycle. -/
theorem stepMany_drains {n : Nat} {s : State} (h : n ≤ s.pending.length) :
    ∃ u, stepMany n s = .next u ∧ u.pending = s.pending.drop n ∧ u.now = s.now := by
  induction n generalizing s with
  | zero => exact ⟨s, rfl, rfl, rfl⟩
  | succ n ih =>
    cases hq : s.pending with
    | nil => simp [hq] at h
    | cons c q =>
      obtain ⟨v, hv, hpending, hnow⟩ := step_cons hq
      obtain ⟨u, hu, hdrop, hnow'⟩ := ih (s := v) (by simp only [hq, List.length_cons] at h; rw [hpending]; omega)
      refine ⟨u, ?_, by rw [hdrop, hpending, List.drop_succ_cons], hnow'.trans hnow⟩
      rw [stepMany, hv]
      exact hu

theorem State.queueWf_of_drop {s v : State} {n : Nat} (h : v.pending = s.pending.drop n) (hwf : s.queueWf = true) :
    v.queueWf = true := by
  simp only [State.queueWf, List.all_eq_true] at hwf ⊢
  exact fun c hc => hwf c (List.mem_of_mem_drop (h ▸ hc))

/-- Settles O5, by induction on the number of steps. -/
theorem theQueueDrains : Obligations.TheQueueDrains := by
  unfold Obligations.TheQueueDrains
  intro s
  obtain ⟨u, hu, hdrop, hnow⟩ := stepMany_drains (Nat.le_refl s.pending.length)
  refine ⟨u, hu, hdrop.trans List.drop_length, hnow, fun n hn => ?_⟩
  obtain ⟨v, hv, hpending, _⟩ := stepMany_drains hn
  exact ⟨v, hv, hpending, State.queueWf_of_drop hpending⟩

end Sys2Proof.Machine
end

/-! # The key (R325 to R327) -/

section
namespace Sys2Proof.Machine

/-- A guarded write while locked is recorded, whatever it would have done. -/
theorem State.guarded_of_locked {s : State} (h : s.get Reg.GLB_STATE_UNLOCKED = 0) (f : State → State) :
    s.guarded f = s.lockedWrite := by
  simp [State.guarded, h]

/-- A guarded write while unlocked consumes the unlock. -/
theorem State.guarded_of_unlocked {s : State} (h : s.get Reg.GLB_STATE_UNLOCKED = 1) (f : State → State) :
    s.guarded f = f (s.put Reg.GLB_STATE_UNLOCKED 0) := by
  simp [State.guarded, h]

theorem State.lockedWrite_setsOnly (s : State) : s.setsOnly s.lockedWrite
    [(Reg.GLB_ERR_LOCKED_WRITE, 1), (Reg.GLB_LOCKED_CNT, min (s.get Reg.GLB_LOCKED_CNT + 1) 0xFFFFFFFF)] := by
  have hcnt : (s.put Reg.GLB_ERR_LOCKED_WRITE 1).get Reg.GLB_LOCKED_CNT = s.get Reg.GLB_LOCKED_CNT :=
    State.get_put_other _ _ (by decide)
  rw [State.lockedWrite, State.bump, hcnt]
  exact (s.setsOnly_refl.next Reg.GLB_ERR_LOCKED_WRITE 1 rfl).put _ _ (by decide) (satAdd32_lt _ _) (by decide)

/-- Settles O6: the key's one put, and guarded_of_locked for each command that is guarded. -/
theorem theKeyGuardsLockedWrites : Obligations.TheKeyGuardsLockedWrites := by
  unfold Obligations.TheKeyGuardsLockedWrites
  refine ⟨fun s v => ⟨_, rfl, ?key⟩, fun s c hlocked hc => ?locked⟩
  case key =>
    have hv : bit (decide (v.toNat = Config.key)) = if v = 0x00006B1E#32 then 1 else 0 :=
      if_congr (decide_eq_true_iff.trans (BitVec.toNat_eq (y := 0x00006B1E#32)).symm) rfl rfl
    rw [hv]
    exact s.setsOnly_refl.put _ _ (by decide) (by split <;> decide) (by simp)
  case locked =>
    suffices exec c s = .next s.lockedWrite from ⟨_, this, s.lockedWrite_setsOnly⟩
    rcases hc with ⟨_, rfl⟩ | ⟨_, rfl⟩ | ⟨_, rfl⟩ | ⟨_, rfl⟩ | ⟨_, rfl⟩ | ⟨_, rfl⟩ | ⟨_, rfl⟩ | ⟨_, _, rfl⟩ | ⟨_, rfl⟩ |
      ⟨_, rfl⟩ | ⟨_, _, rfl⟩ <;>
    exact congrArg _ (State.guarded_of_locked hlocked _)

end Sys2Proof.Machine
end

/-! # The mailbox (R329, R330) -/

section
namespace Sys2Proof.Machine

/-- The three words of a timestamp. -/
theorem tsWord_sum (t : Ts) : tsWord t 0 + 2 ^ 32 * tsWord t 1 + 2 ^ 64 * tsWord t 2 = t.toNat := by
  have hsum : ∀ n : Nat, n < 2 ^ 74 → n % 2 ^ 32 + 2 ^ 32 * (n / 2 ^ 32 % 2 ^ 32) + 2 ^ 64 * (n / 2 ^ 64 % 2 ^ 10) = n := by omega
  simpa [tsWord, fieldOf] using hsum _ t.isLt

theorem tsWord_lt (t : Ts) (i : Nat) : tsWord t i < 2 ^ 32 :=
  Nat.lt_of_lt_of_le (fieldOf_lt _ _ _) (Nat.pow_le_pow_right (by decide) (by split <;> decide))

/-- What a sample of the words l and the status e leaves. -/
def State.sampled (s : State) (l : List Nat) (e : Nat) : State :=
  (((s.put Reg.GLB_MBX_CTRL_REQ 0).putMailbox l).put Reg.GLB_MBX_VALID 1).put Reg.GLB_MBX_CTRL_STS e

theorem execMailboxSample_of_req {s : State} (h : s.get Reg.GLB_MBX_CTRL_REQ = 1) : execMailboxSample s =
    .next (s.sampled ((s.mailbox (s.get Reg.GLB_MBX_SEL)).getD [0, 0, 0, 0])
      (if (s.mailbox (s.get Reg.GLB_MBX_SEL)).isSome then Sts.ok.code else Sts.range.code)) := by
  simp [execMailboxSample, h, State.sampled]

theorem State.sampled_writes (s : State) (l : List Nat) (e : Nat) : s.writes (s.sampled l e) [.regs] :=
  State.writes_of State.put_writes (by decide) <| State.writes_of State.put_writes (by decide) <|
    State.writes_of State.putMailbox_moves.1 (by decide) State.put_writes

/-- The fields of a sample: the words and the status as they fit. -/
theorem State.sampled_setsFields (s : State) (l : List Nat) (e : Nat) : s.setsFields (s.sampled l e)
    [(Reg.GLB_MBX_CTRL_REQ, 0), (Reg.GLB_MBX_DATA 0, l.getD 0 0 % 2 ^ 32), (Reg.GLB_MBX_DATA 1, l.getD 1 0 % 2 ^ 32),
     (Reg.GLB_MBX_DATA 2, l.getD 2 0 % 2 ^ 32), (Reg.GLB_MBX_DATA 3, l.getD 3 0 % 2 ^ 32), (Reg.GLB_MBX_VALID, 1),
     (Reg.GLB_MBX_CTRL_STS, e % 2 ^ 8)] := by
  have h := ((((((s.setsFields_refl.next Reg.GLB_MBX_CTRL_REQ 0 rfl).nextMod (Reg.GLB_MBX_DATA 0) 32 (l.getD 0 0) rfl rfl).nextMod
    (Reg.GLB_MBX_DATA 1) 32 (l.getD 1 0) rfl rfl).nextMod (Reg.GLB_MBX_DATA 2) 32 (l.getD 2 0) rfl rfl).nextMod
    (Reg.GLB_MBX_DATA 3) 32 (l.getD 3 0) rfl rfl).next Reg.GLB_MBX_VALID 1 rfl).nextMod Reg.GLB_MBX_CTRL_STS 8 e rfl rfl
  simp only [State.sampled, State.putMailbox, forUpto]
  exact h

section
variable (s : State) (l : List Nat) (e : Nat)

@[simp] theorem State.sampled_data0 : (s.sampled l e).get (Reg.GLB_MBX_DATA 0) = l.getD 0 0 % 2 ^ 32 :=
  (s.sampled_setsFields l e).get (by simp)

@[simp] theorem State.sampled_data1 : (s.sampled l e).get (Reg.GLB_MBX_DATA 1) = l.getD 1 0 % 2 ^ 32 :=
  (s.sampled_setsFields l e).get (by simp)

@[simp] theorem State.sampled_data2 : (s.sampled l e).get (Reg.GLB_MBX_DATA 2) = l.getD 2 0 % 2 ^ 32 :=
  (s.sampled_setsFields l e).get (by simp)

@[simp] theorem State.sampled_data3 : (s.sampled l e).get (Reg.GLB_MBX_DATA 3) = l.getD 3 0 % 2 ^ 32 :=
  (s.sampled_setsFields l e).get (by simp)

@[simp] theorem State.sampled_sts : (s.sampled l e).get Reg.GLB_MBX_CTRL_STS = e % 2 ^ 8 :=
  (s.sampled_setsFields l e).get (by simp)

end

theorem State.mailbox_clock (s : State) : s.mailbox 0 =
    some [tsWord (s.tsAt s.now) 0, tsWord (s.tsAt s.now) 1, tsWord (s.tsAt s.now) 2, 0] := rfl

theorem State.mailbox_event (s : State) {n : Nat} (hn : n < 1024) : s.mailbox (0x1000 + n) =
    some [tsWord (s.lastReg n).ts 0, tsWord (s.lastReg n).ts 1, tsWord (s.lastReg n).ts 2, (s.lastReg n).count] := by
  rw [State.mailbox, if_neg (by omega), if_pos (by omega), Nat.add_sub_cancel_left]

theorem State.mailbox_unassigned (s : State) : s.mailbox 0x5004 = none := rfl

/-- Settles O8: the fields of a request and of a sample, and the words of the three selectors. -/
theorem mailboxGivesWhatTheSelectorNames : Obligations.MailboxGivesWhatTheSelectorNames := by
  unfold Obligations.MailboxGivesWhatTheSelectorNames
  refine ⟨fun s v => ⟨_, rfl, ?request⟩, fun s hreq => ⟨_, execMailboxSample_of_req hreq, ?sample⟩⟩
  case request =>
    cases v.getLsbD 0 with
    | false => exact if_neg nofun
    | true =>
      exact ⟨fun p hp => by cases p <;> first | rfl | exact absurd (by decide) hp, rfl,
        (State.setsFields_nil_of_regs rfl).next _ 0 rfl |>.next _ 1 rfl⟩
  case sample =>
    have hw := fun t i => Nat.mod_eq_of_lt (tsWord_lt t i)
    refine ⟨⟨s.sampled_writes _ _, ?_⟩, fun hsel => ?_, fun n hn hsel => ?_, fun hsel => ?_⟩
    · simp only [State.sampled_data0, State.sampled_data1, State.sampled_data2, State.sampled_data3, State.sampled_sts]
      exact s.sampled_setsFields _ _
    · rw [hsel, s.mailbox_clock]
      simp [-Nat.reducePow, hw, tsWord_sum, Sts.code]
    · rw [hsel, s.mailbox_event hn]
      simp [-Nat.reducePow, hw, tsWord_sum, Sts.code]
    · rw [hsel, s.mailbox_unassigned]
      simp [Sts.code]

end Sys2Proof.Machine
end

/-! # The high-voltage rails (R380, R381, R392) -/

section
namespace Sys2Proof.Machine

/-! ## What a cycle has noted -/

@[simp] theorem State.get_noted (s : State) (a : Nat) (f : Fld) : (s.noted a).get f = s.get f :=
  State.get_of_writes State.noted_moves.1 (by decide) f

theorem State.noted_writes (s : State) (a : Nat) : s.writes (s.noted a) [.wrote] := State.noted_moves.1

theorem State.wrote_noted_same {s : State} {a : Nat} (h : mfind s.wrote a = none) :
    mfind (s.noted a).wrote a = some (s.regWord a) := by
  simp [State.noted, h]

theorem State.wrote_noted_other (s : State) {a b : Nat} (h : b ≠ a) : mfind (s.noted a).wrote b = mfind s.wrote b := by
  unfold State.noted
  split
  · rfl
  · exact mfind_mins_other _ _ h

/-- The shadow of a register that the cycle has noted is its word then. -/
theorem State.shadowOf_of_wrote {s u : State} {f : Fld} (h : mfind u.wrote f.addr = some (s.regWord f.addr)) :
    u.shadowOf f = s.get f := by
  simp [State.shadowOf, State.shadow, h, State.get]

/-- The shadow of a register that the cycle has not noted is what it holds. -/
theorem State.shadowOf_of_not_wrote {s : State} {f : Fld} (h : mfind s.wrote f.addr = none) : s.shadowOf f = s.get f := by
  simp [State.shadowOf, State.shadow, h, State.get]

theorem State.shadowOf_put_other (s : State) {f g : Fld} (v : Nat) (h : g.addr ≠ f.addr) :
    (s.put f v).shadowOf g = s.shadowOf g := by
  have hreg : (s.put f v).regWord g.addr = s.regWord g.addr := State.regWord_setRegWord_other _ _ h
  simp only [State.shadowOf, State.shadow, hreg, State.put_wrote]

/-- Neither rail register has been noted in this cycle. -/
def State.hvFresh (s : State) : Prop :=
  mfind s.wrote Reg.GLB_HV_CTRL_EN.addr = none ∧ mfind s.wrote Reg.NVS_HV_STATUS_LATCHED.addr = none

/-! ## EN written -/

/-- s with EN written 1, the unlock consumed. -/
def State.hvEnabled (s : State) : State :=
  ((s.put Reg.GLB_STATE_UNLOCKED 0).noted Reg.GLB_HV_CTRL_EN.addr).put Reg.GLB_HV_CTRL_EN 1

/-- s with EN written 0 and UP cleared, the unlock consumed. -/
def State.hvDown (s : State) : State :=
  (((s.put Reg.GLB_STATE_UNLOCKED 0).noted Reg.GLB_HV_CTRL_EN.addr).put Reg.GLB_HV_CTRL_EN 0).put Reg.GLB_HV_CTRL_UP 0

/-- s with EN written 0, UP and the latched fault cleared, the unlock consumed. -/
def State.hvCleared (s : State) : State :=
  (s.hvDown.noted Reg.NVS_HV_STATUS_LATCHED.addr).put Reg.NVS_HV_STATUS_LATCHED 0

theorem State.hvWrite_on {s : State} {v : Word} (hu : s.get Reg.GLB_STATE_UNLOCKED = 1) (hv : v.getLsbD 0 = true) :
    s.hvWrite v = s.hvEnabled := by
  rw [State.hvWrite, State.guarded_of_unlocked hu]
  exact if_pos hv

theorem State.hvFaulted_unlocked_put (s : State) (v : Nat) :
    (s.put Reg.GLB_STATE_UNLOCKED v).hvFaulted = s.hvFaulted := by
  have hl : (s.put Reg.GLB_STATE_UNLOCKED v).get Reg.NVS_HV_STATUS_LATCHED = s.get Reg.NVS_HV_STATUS_LATCHED :=
    State.get_put_other _ _ (by decide)
  rw [State.hvFaulted, hl, State.shadowOf_put_other _ _ (by decide), State.hvFaulted]

theorem State.hvWrite_off {s : State} {v : Word} (hu : s.get Reg.GLB_STATE_UNLOCKED = 1) (hv : v.getLsbD 0 = false) :
    s.hvWrite v = if s.hvFaulted then s.hvDown else s.hvCleared := by
  rw [State.hvWrite, State.guarded_of_unlocked hu, ← s.hvFaulted_unlocked_put 0]
  exact if_neg (ne_true_of_eq_false hv)

theorem State.hvEnabled_setsFields (s : State) :
    s.setsFields s.hvEnabled [(Reg.GLB_STATE_UNLOCKED, 0), (Reg.GLB_HV_CTRL_EN, 1)] :=
  ((s.setsFields_refl.next Reg.GLB_STATE_UNLOCKED 0 rfl).of_regs ((State.noted_writes _ _) .regs (by decide))).next
    Reg.GLB_HV_CTRL_EN 1 rfl

theorem State.hvDown_setsFields (s : State) :
    s.setsFields s.hvDown [(Reg.GLB_STATE_UNLOCKED, 0), (Reg.GLB_HV_CTRL_EN, 0), (Reg.GLB_HV_CTRL_UP, 0)] :=
  (((s.setsFields_refl.next Reg.GLB_STATE_UNLOCKED 0 rfl).of_regs ((State.noted_writes _ _) .regs (by decide))).next
    Reg.GLB_HV_CTRL_EN 0 rfl).next Reg.GLB_HV_CTRL_UP 0 rfl

theorem State.hvCleared_setsFields (s : State) : s.setsFields s.hvCleared
    [(Reg.GLB_STATE_UNLOCKED, 0), (Reg.GLB_HV_CTRL_EN, 0), (Reg.GLB_HV_CTRL_UP, 0), (Reg.NVS_HV_STATUS_LATCHED, 0)] :=
  (s.hvDown_setsFields.of_regs ((State.noted_writes _ _) .regs (by decide))).next Reg.NVS_HV_STATUS_LATCHED 0 rfl

theorem execHvEnable_writes (s : State) (v : Word) : s.writes (s.hvWrite v) [.regs, .wrote] := execHvEnable_moves.1

/-- A write of EN 0 leaves the shadows that a fault of its cycle sees. -/
theorem State.hvCleared_hvWasOn {s : State} (hf : s.hvFresh) (hen : s.get Reg.GLB_HV_CTRL_EN = 1)
    (hl : s.get Reg.NVS_HV_STATUS_LATCHED = 0) : s.hvCleared.hvWasOn = true := by
  obtain ⟨hfen, hfl⟩ := hf
  have hwen : mfind s.hvCleared.wrote Reg.GLB_HV_CTRL_EN.addr =
      some ((s.put Reg.GLB_STATE_UNLOCKED 0).regWord Reg.GLB_HV_CTRL_EN.addr) :=
    (State.wrote_noted_other _ (by decide)).trans (State.wrote_noted_same hfen)
  have hwl : mfind s.hvCleared.wrote Reg.NVS_HV_STATUS_LATCHED.addr = some (s.hvDown.regWord Reg.NVS_HV_STATUS_LATCHED.addr) :=
    State.wrote_noted_same ((State.wrote_noted_other _ (by decide)).trans hfl)
  have hl' : s.hvDown.get Reg.NVS_HV_STATUS_LATCHED = 0 := (s.hvDown_setsFields.get_apart (by decide)).trans hl
  rw [State.hvWasOn, State.shadowOf_of_wrote hwen, State.shadowOf_of_wrote hwl, hl', State.get_put_other _ _ (by decide), hen]
  rfl

/-! ## Faults -/

theorem State.not_hvFaulted {s : State} (hl : s.get Reg.NVS_HV_STATUS_LATCHED = 0) : s.hvFaulted = false := by
  simp [State.hvFaulted, hl]

/-- The fields that a fault of the rails sets. -/
def faultFields (pos neg : Bool) : List (Fld × Nat) :=
  (if pos then [(Reg.NVS_HV_STATUS_FAULT_POS, 1)] else []) ++ (if neg then [(Reg.NVS_HV_STATUS_FAULT_NEG, 1)] else []) ++
    [(Reg.NVS_HV_STATUS_LATCHED, 1), (Reg.GLB_HV_CTRL_UP, 0)]

/-- s with a fault of the rails latched. -/
def State.hvLatch (s : State) (pos neg : Bool) : State :=
  (((s.noted Reg.NVS_HV_STATUS_LATCHED.addr).hvFault pos neg).put Reg.NVS_HV_STATUS_LATCHED 1).put Reg.GLB_HV_CTRL_UP 0

theorem State.hvLatch_setsFields (s : State) (pos neg : Bool) : s.setsFields (s.hvLatch pos neg) (faultFields pos neg) := by
  have h0 := State.setsFields_nil_of_regs ((s.noted_writes Reg.NVS_HV_STATUS_LATCHED.addr) .regs (by decide))
  cases pos <;> cases neg
  · exact (h0.next _ 1 rfl).next _ 0 rfl
  · exact ((h0.next Reg.NVS_HV_STATUS_FAULT_NEG 1 rfl).next _ 1 rfl).next _ 0 rfl
  · exact ((h0.next Reg.NVS_HV_STATUS_FAULT_POS 1 rfl).next _ 1 rfl).next _ 0 rfl
  · exact (((h0.next Reg.NVS_HV_STATUS_FAULT_POS 1 rfl).next Reg.NVS_HV_STATUS_FAULT_NEG 1 rfl).next _ 1 rfl).next _ 0 rfl

/-- A fault that comes while the rails run, or ran as the cycle began, latches. -/
theorem execHvRailFault_of_on {s : State} {pos neg : Bool} (hon : (s.hvOn || s.hvWasOn) = true) (hpn : (pos || neg) = true) :
    execHvRailFault pos neg s = .next (s.hvLatch pos neg) := by
  rw [execHvRailFault, if_pos (by rw [hon, hpn]; rfl)]
  rfl

theorem State.hvLatch_writes (s : State) (pos neg : Bool) : s.writes (s.hvLatch pos neg) [.regs, .wrote] :=
  State.writes_of State.put_writes (by decide) <| State.writes_of State.put_writes (by decide) <|
    State.writes_of State.hvFault_moves.1 (by decide) <| State.writes_mono (s.noted_writes _) (by decide)

/-- A fault that has latched in this cycle is seen as such. -/
theorem State.hvLatch_hvFaulted {s : State} (pos neg : Bool) (hf : s.hvFresh)
    (hl : s.get Reg.NVS_HV_STATUS_LATCHED = 0) : (s.hvLatch pos neg).hvFaulted = true := by
  have hw : mfind (s.hvLatch pos neg).wrote Reg.NVS_HV_STATUS_LATCHED.addr =
      some (s.regWord Reg.NVS_HV_STATUS_LATCHED.addr) :=
    (congrArg (fun w => mfind w Reg.NVS_HV_STATUS_LATCHED.addr)
      ((State.hvFault_moves (x1 := pos) (x2 := neg)).1 .wrote (by decide))).trans (State.wrote_noted_same hf.2)
  rw [State.hvFaulted, State.shadowOf_of_wrote hw, hl, (s.hvLatch_setsFields pos neg).get (v := 1) (by simp [faultFields])]
  rfl

/-! ## The rails up -/

/-- s with the rails up and the pins of G6 and G7 waiting. -/
def State.hvUp (s : State) : State := ((s.holdWide 6).holdWide 7).put Reg.GLB_HV_CTRL_UP 1

theorem execHvRailsUp_of_down {s : State} (hon : s.hvOn = true) (hup : s.get Reg.GLB_HV_CTRL_UP = 0) :
    execHvRailsUp s = .next s.hvUp := by
  rw [execHvRailsUp, if_pos ⟨hon, hup⟩]; rfl

theorem execHvRailsUp_of_up {s : State} (hup : s.get Reg.GLB_HV_CTRL_UP = 1) : execHvRailsUp s = .next s := by
  rw [execHvRailsUp, if_neg (by simp [hup])]

theorem State.hvUp_writes (s : State) : s.writes s.hvUp [.regs, .grp] :=
  State.writes_of State.put_writes (by decide) <| State.writes_of State.setGroup_moves.1 (by decide) <|
    State.writes_mono State.setGroup_moves.1 (by decide)

theorem State.hvUp_group (s : State) (g : Nat) :
    s.hvUp.group g = if g = 6 ∨ g = 7 then { s.group g with hz := true, drive := GrpSt.init.drive } else s.group g := by
  have h7 : s.hvUp.group g = ((s.holdWide 6).holdWide 7).group g := rfl
  rw [h7, State.holdWide]
  by_cases e7 : g = 7
  · subst e7
    rw [State.group_setGroup, State.holdWide, State.group_setGroup_other _ _ (by decide)]
    rfl
  · rw [State.group_setGroup_other _ _ e7, State.holdWide]
    by_cases e6 : g = 6
    · subst e6
      rw [State.group_setGroup]
      rfl
    · rw [State.group_setGroup_other _ _ e6, if_neg (by simp [e6, e7])]

/-- Settles O9: EN 1 and EN 0, a fault of the cycle of EN 0, the rails up, and a fault. -/
theorem highVoltageRailsFollowTheEnable : Obligations.HighVoltageRailsFollowTheEnable := by
  unfold Obligations.HighVoltageRailsFollowTheEnable
  refine ⟨fun s v hu hv => ⟨_, rfl, ?on⟩, fun s v hu hv => ⟨_, rfl, ?off⟩, fun s hen hl => ⟨?up, ?stays, ?fault⟩⟩
  case on =>
    rw [State.hvWrite_on hu hv]
    exact ⟨State.hvWrite_on hu hv ▸ execHvEnable_writes s v, s.hvEnabled_setsFields⟩
  case off =>
    refine ⟨execHvEnable_writes s v, fun hf => ?_, fun hf => ?_, fun pos neg hfresh hen hl hpn => ?_⟩
    · rw [State.hvWrite_off hu hv, if_pos hf]
      exact s.hvDown_setsFields
    · rw [State.hvWrite_off hu hv, if_neg (by simp [hf])]
      exact s.hvCleared_setsFields
    · rw [State.hvWrite_off hu hv, if_neg (by simp [State.not_hvFaulted hl])]
      exact ⟨_, execHvRailFault_of_on (by rw [State.hvCleared_hvWasOn hfresh hen hl, Bool.or_true]) hpn,
        State.hvLatch_writes _ _ _, State.hvLatch_setsFields _ _ _⟩
  all_goals have hon : s.hvOn = true := by simp [State.hvOn, hen, hl]
  case up =>
    intro hup
    exact ⟨_, execHvRailsUp_of_down hon hup, s.hvUp_writes, (State.setsFields_nil_of_regs rfl).next _ 1 rfl, s.hvUp_group⟩
  case stays =>
    exact fun hup => ⟨_, execHvRailsUp_of_up hup, rfl⟩
  case fault =>
    intro pos neg hpn
    exact ⟨_, execHvRailFault_of_on (by rw [hon, Bool.true_or]) hpn,
      ⟨s.hvLatch_writes _ _, s.hvLatch_setsFields _ _⟩, fun hfresh => State.hvLatch_hvFaulted pos neg hfresh hl⟩

end Sys2Proof.Machine
end

/-! # Field-side resets (R335, R347, R348, R351, R356) -/

section
namespace Sys2Proof.Machine

theorem mget_mfilter {α : Type} (d : Nat → α) (p : Nat → Bool) (m : SMap α) (k : Nat) :
    mget d (mfilter p m) k = if p k then mget d m k else d k := by
  induction m with
  | nil => simp [mfilter, mget]
  | cons q m ih =>
    obtain ⟨i, a⟩ := q
    unfold mfilter
    by_cases hk : k = i
    · subst hk
      by_cases hp : p k <;> simp [hp, mget, ih]
    · by_cases hp : p i <;> simp [hp, mget, hk, ih]

theorem State.get_lt (s : State) (f : Fld) : s.get f < 2 ^ f.n := fieldOf_lt _ _ _

/-! ## What a field-side reset clears -/

theorem State.fieldClear_parts (s : State) : ∀ p ∈ fieldParts, State.same p State.reset s.fieldClear := by
  intro p hp
  fin_cases hp <;> rfl

theorem State.fieldClear_keeps (s : State) :
    ∀ p ∈ [Piece.pending, .now, .free, .nextSid, .mram, .ukey], State.same p s s.fieldClear := by
  intro p hp
  fin_cases hp <;> rfl

theorem State.fieldClear_enrolled (s : State) :
    s.fieldClear.get Reg.NVS_UKEY_CTRL_ENROLLED = s.get Reg.NVS_UKEY_CTRL_ENROLLED := by
  rw [State.fieldClear, State.get_put _ _ _ (by decide)]
  exact Nat.mod_eq_of_lt (s.get_lt _)

theorem State.fieldClear_get (s : State) {f : Fld} (hf : f.apart Reg.NVS_UKEY_CTRL_ENROLLED) :
    s.fieldClear.get f = if keptReg f.addr then s.get f else State.reset.get f := by
  rw [State.fieldClear, State.get_put_of_apart _ _ (by decide) hf]
  simp only [State.get, State.regWord, mget_mfilter]
  split <;> rfl

/-- The count of resets is kept by each (R356). -/
theorem State.fieldClear_count (s : State) :
    s.fieldClear.get Reg.NVS_RST_CAUSE_COUNT = s.get Reg.NVS_RST_CAUSE_COUNT :=
  (s.fieldClear_get (by decide)).trans (if_pos (by decide))

/-- The count that a reset of a cause leaves (R356). -/
def State.resetCount (s : State) (cause : Nat) : Nat :=
  if cause = 0x01 ∨ cause = 0x08 then 0 else min (s.get Reg.NVS_RST_CAUSE_COUNT + 1) 0xFFFF

theorem State.resetCount_lt (s : State) (cause : Nat) : s.resetCount cause < 2 ^ 16 := by
  unfold State.resetCount
  split
  · decide
  · omega

theorem State.resetCount_congr {s t : State} (h : t.get Reg.NVS_RST_CAUSE_COUNT = s.get Reg.NVS_RST_CAUSE_COUNT)
    (cause : Nat) : t.resetCount cause = s.resetCount cause := by
  rw [State.resetCount, h, State.resetCount]

/-- What the boot's start records, after fields L. -/
theorem State.setsFields.boot {s t : State} {L : List (Fld × Nat)} (h : s.setsFields t L) {stage cause : Nat}
    (hstage : stage < 2 ^ 4) (hcause : cause < 2 ^ 8)
    {n : Nat} (hn : t.resetCount cause = n)
    (hL : ∀ p ∈ L, p.1.apart Reg.NVS_RST_CAUSE_CAUSE ∧ p.1.apart Reg.NVS_RST_CAUSE_COUNT ∧ p.1.apart Reg.NVS_BOOT_STAGE) :
    s.setsFields ((t.noteCause cause).bootAt stage)
      (L ++ [(Reg.NVS_RST_CAUSE_CAUSE, cause)] ++ [(Reg.NVS_RST_CAUSE_COUNT, n)] ++
        [(Reg.NVS_BOOT_STAGE, stage)]) := by
  subst hn
  refine ((h.put Reg.NVS_RST_CAUSE_CAUSE cause (by decide) hcause fun p hp => (hL p hp).1).put Reg.NVS_RST_CAUSE_COUNT _
    (by decide) (t.resetCount_lt cause) ?_).put Reg.NVS_BOOT_STAGE stage (by decide) hstage ?_
  · simp only [List.forall_mem_append, List.forall_mem_singleton]
    exact ⟨fun p hp => (hL p hp).2.1, by decide⟩
  · simp only [List.forall_mem_append, List.forall_mem_singleton]
    exact ⟨⟨fun p hp => (hL p hp).2.2, by decide⟩, by decide⟩

/-- A state is restarted where the field side has been cleared, the fields M set, and the power manager and the Crossing are as
after a reset. -/
theorem State.restarted_of {s t : State} {stage cause count : Nat} {L : List Fld} {M : List (Fld × Nat)}
    (hparts : ∀ p ∈ fieldParts, State.same p State.reset t)
    (hkeeps : ∀ p ∈ [Piece.pending, .now, .free, .nextSid, .mram, .ukey], State.same p s t)
    (hM : s.fieldClear.setsFields t M) (hstage : (Reg.NVS_BOOT_STAGE, stage) ∈ M)
    (hcause : (Reg.NVS_RST_CAUSE_CAUSE, cause) ∈ M) (hcount : (Reg.NVS_RST_CAUSE_COUNT, count) ∈ M)
    (hfuse : ∀ g ∈ M.map Prod.fst, Reg.NVS_UKEY_CTRL_ENROLLED.apart g)
    (hML : M.map Prod.fst ⊆ [Reg.NVS_BOOT_STAGE, Reg.NVS_RST_CAUSE_CAUSE, Reg.NVS_RST_CAUSE_COUNT] ++ L)
    (hwriting : t.pw.writing = []) (hwanted : t.pw.wanted = none) (hchange : t.pw.change = none)
    (hmc : t.mc = { MemSt.init with records := t.mc.records }) (hsafe : t.xng.safeAt = none) :
    s.restarted t stage cause count L := by
  refine ⟨hparts, hkeeps, hM.get hstage, hM.get hcause, hM.get hcount, (hM.get_apart hfuse).trans s.fieldClear_enrolled,
    fun f hf => ?_, hwriting, hwanted, hchange, hmc, hsafe⟩
  rw [hM.get_apart fun g hg => hf g ?_, s.fieldClear_get (hf _ (by simp))]
  have := hML hg
  simp only [List.mem_append, List.mem_cons, List.not_mem_nil, or_false] at this ⊢
  tauto

/-! ## The three resets -/

theorem State.fieldReset_restarted (s : State) {cause : Nat} (hcause : cause < 2 ^ 8) :
    s.restarted (s.fieldReset cause) 2 cause (s.resetCount cause) [] := by
  have h := (State.setsFields_nil_of_regs (s := s.fieldClear) (t := { s.fieldClear with xng := { s.fieldClear.xng with up := false } })
    rfl).boot (stage := 2) (by decide) hcause (State.resetCount_congr s.fieldClear_count cause) (by simp)
  refine State.restarted_of ?_ ?_ h (by simp) (by simp) (by simp) (of_decide_eq_true rfl) (by simp) rfl rfl rfl rfl rfl
  · intro p hp
    fin_cases hp <;> rfl
  · intro p hp
    fin_cases hp <;> rfl

theorem State.powerOnReset_restarted (s : State) {cause : Nat} (hcause : cause < 2 ^ 8) :
    s.restarted (s.powerOnReset cause) 1 cause (s.resetCount cause) [Reg.XNG_HSTATUS_FIELD_PWR] ∧
      (s.powerOnReset cause).get Reg.XNG_HSTATUS_FIELD_PWR = 1 := by
  have h := ((State.setsFields_nil_of_regs (s := s.fieldClear) (t := { s.fieldClear with
      pw := { s.fieldClear.pw with fieldOn := true, shut := false }, xng := { s.fieldClear.xng with up := false } })
    rfl).next Reg.XNG_HSTATUS_FIELD_PWR 1 rfl).boot (stage := 1) (by decide) hcause
      (State.resetCount_congr ((State.get_put_other _ _ (by decide)).trans s.fieldClear_count) cause) (by simp; decide)
  refine ⟨State.restarted_of ?_ ?_ h (by simp) (by simp) (by simp) (of_decide_eq_true rfl) (by simp) rfl rfl rfl rfl rfl, 
    h.get (by simp)⟩
  · intro p hp
    fin_cases hp <;> rfl
  · intro p hp
    fin_cases hp <;> rfl

theorem State.softReset_restarted (s : State) :
    s.restarted s.softReset 4 0x04 (s.resetCount 0x04) [Reg.NVS_BOOT_BANK, Reg.CLK_STATUS_SVC_LOCK] ∧
      s.softReset.get Reg.NVS_BOOT_BANK = s.get Reg.NVS_BOOT_BANK ∧
      s.softReset.get Reg.CLK_STATUS_SVC_LOCK = s.get Reg.CLK_STATUS_SVC_LOCK := by
  have h := (((State.setsFields_nil_of_regs (s := s.fieldClear) (t := { s.fieldClear with
      mc := { s.fieldClear.mc with records := s.mc.records } }) rfl).put Reg.NVS_BOOT_BANK _ (by decide) (s.get_lt _)
      (by simp)).put Reg.CLK_STATUS_SVC_LOCK _ (by decide) (s.get_lt _) (of_decide_eq_true rfl)).boot (stage := 4) (cause := 0x04)
      (by decide) (by decide) (State.resetCount_congr
        (((State.get_put_other _ _ (by decide)).trans (State.get_put_other _ _ (by decide))).trans s.fieldClear_count) _)
      (by simp; decide)
  refine ⟨State.restarted_of ?_ ?_ h (by simp) (by simp) (by simp) (of_decide_eq_true rfl) (by simp) rfl rfl rfl rfl rfl, 
    h.get (by simp), h.get (by simp)⟩
  · intro p hp
    fin_cases hp <;> rfl
  · intro p hp
    fin_cases hp <;> rfl

/-! ## What comes before a steward's reset -/

/-- The registers that decide what a field-side reset leaves: those that it keeps, and the one of the fuses. -/
def resetSees (a : Nat) : Prop := keptReg a = true ∨ a = Reg.NVS_UKEY_CTRL_ENROLLED.addr

theorem not_resetSees {a : Nat} (hk : keptReg a = false) (he : a ≠ Reg.NVS_UKEY_CTRL_ENROLLED.addr) : ¬ resetSees a := by
  simp [resetSees, hk, he]

theorem State.keepsWords.put64 {s t : State} {K : Nat → Prop} (h : s.keepsWords t K) {lo hi : Fld} (v : Nat)
    (hlo : ¬ K lo.addr) (hhi : ¬ K hi.addr) : s.keepsWords (t.put64 lo hi v) K :=
  (h.put _ hlo).put _ hhi

/-- The addresses of the registers that report a recording of buffer entry b. -/
def recordAddrs (b : Nat) : List Nat :=
  [(Reg.CBUF_COUNT_LO b).addr, (Reg.CBUF_COUNT_HI b).addr, (Reg.CBUF_FIRST_LO b).addr, (Reg.CBUF_FIRST_HI b).addr,
   (Reg.CBUF_TRIG_LO b).addr, (Reg.CBUF_TRIG_HI b).addr, (Reg.CBUF_STATUS_STS b).addr] ++
  if b < 8 then [] else [(Reg.PCAP_STATUS_STS (b - 8)).addr]

section
variable (s : State) {b : Nat} {K : Nat → Prop} (hK : ∀ a ∈ recordAddrs b, ¬ K a)
include hK

theorem State.recStatus_keepsWords (e : Sts) : s.keepsWords (s.recStatus b e) K := by
  have hsts := (s.keepsWords_refl K).put e.code (hK (Reg.CBUF_STATUS_STS b).addr (by simp [recordAddrs]))
  unfold State.recStatus
  split
  · exact hsts
  · rename_i hb
    exact hsts.put _ (hK _ (by simp [recordAddrs, hb]))

/-- The end of a recording writes the registers that report it, and no other. -/
theorem State.recEnd_keepsWords (e : Sts) : s.keepsWords (s.recEnd b e) K := by
  unfold State.recEnd
  split
  · exact s.keepsWords_refl _
  · split
    · exact s.keepsWords_refl _
    · rename_i r _ _
      extract_lets words len s1 count s2 s3 s4 x s5
      have h1 : s.keepsWords s1 K := by
        unfold s1
        split
        · exact s.keepsWords_refl _
        · exact (s.keepsWords_refl _).of_writes State.storeWord_moves.1 (by decide)
      have h2 : s.keepsWords s2 K := h1.put64 _ (hK _ (by simp [recordAddrs])) (hK _ (by simp [recordAddrs]))
      have h3 : s.keepsWords s3 K := h2.put64 _ (hK _ (by simp [recordAddrs])) (hK _ (by simp [recordAddrs]))
      have h4 : s.keepsWords s4 K := by
        unfold s4
        split
        · exact h3
        · exact (h3.put64 _ (hK _ (by simp [recordAddrs])) (hK _ (by simp [recordAddrs]))).put _
            (hK (Reg.CBUF_STATUS_STS b).addr (by simp [recordAddrs]))
      have h5 : s.keepsWords s5 K := h4.of_regs rfl
      exact (h5.of_writes State.setRec_moves.1 (by decide)).trans (State.recStatus_keepsWords _ hK e)

theorem State.recHold_keepsWords : s.keepsWords (s.recHold b) K := by
  unfold State.recHold
  split
  · split
    · exact ((s.keepsWords_refl _).of_writes State.setRec_moves.1 (by decide)).trans (State.recStatus_keepsWords _ hK _)
    · exact s.recEnd_keepsWords hK _
  · exact s.keepsWords_refl _

end

/-- No register of a capture channel's buffer entry survives a field-side reset. -/
theorem recordAddrs_not_resetSees {b : Nat} (hb : b < 8) : ∀ a ∈ recordAddrs b, ¬ resetSees a := by
  have h : ∀ b < 8, ∀ a ∈ recordAddrs b, keptReg a = false ∧ a ≠ Reg.NVS_UKEY_CTRL_ENROLLED.addr := by decide
  exact fun a ha => not_resetSees (h b hb a ha).1 (h b hb a ha).2

@[simp] theorem State.fieldReset_up (s : State) (cause : Nat) : (s.fieldReset cause).xng.up = false := rfl

@[simp] theorem State.fieldReset_pend7 (s : State) (cause : Nat) : (s.fieldReset cause).pw.pend7 = s.pw.pend7 := rfl

/-- s with the capture channels held by a steward. -/
def State.stewardHeld (s : State) : State :=
  forUpto (fun s c => s.setCapture c { s.capture c with stewHeld := true }) 8 s.holdCaps

theorem State.stewardReset_eq (s : State) (cause : Nat) : s.stewardReset cause = s.stewardHeld.request (.field cause) := rfl

theorem State.stewardHeld_keepsWords (s : State) : s.keepsWords s.stewardHeld resetSees :=
  ((s.keepsWords_refl _).forUpto fun _ _ hk => State.recHold_keepsWords _ (recordAddrs_not_resetSees hk)).forUpto fun u _ _ =>
    (u.keepsWords_refl _).of_regs rfl

theorem State.stewardHeld_writes (s : State) : s.writes s.stewardHeld [.regs, .stores, .mem, .grp, .cap, .mc] :=
  (moves_forUpto (fun _ _ => State.moves_of State.setCapture_moves (by decide) State.moves_refl) State.holdCaps_moves).1

/-- With no MRAM write in progress, a request is acted on at once (R349). -/
theorem State.request_of_idle {s : State} (h : s.pw.writing = []) (w : Wanted) : s.request w = s.actOn w := by
  simp [State.request, h]

/-- A reset sees of what came before it the registers it keeps, and the parts it leaves. -/
theorem State.restarted.congr {s u t : State} {stage cause count : Nat} {L : List Fld}
    (h : u.restarted t stage cause count L)
    (hp : ∀ p ∈ [Piece.pending, .now, .free, .nextSid, .mram, .ukey], State.same p s u)
    (hk : s.keepsWords u resetSees) : s.restarted t stage cause count L := by
  obtain ⟨hparts, hkeeps, hstage, hcause, hcount, hfuse, hregs, hrest⟩ := h
  refine ⟨hparts, fun p hm => State.same_trans (hp p hm) (hkeeps p hm), hstage, hcause, hcount,
    hfuse.trans (hk.get (.inr rfl)), fun f hf => (hregs f hf).trans ?_, hrest⟩
  split
  · exact hk.get (.inl ‹_›)
  · rfl

/-- A steward's reset, from a state that differs from s by what no reset sees. -/
theorem State.stewardReset_restarted {s u : State} {cause : Nat} (hw : u.pw.writing = []) (hcause : cause < 2 ^ 8)
    (hp : ∀ p ∈ [Piece.pending, .now, .free, .nextSid, .mram, .ukey], State.same p s u) (hk : s.keepsWords u resetSees) :
    s.restarted (u.stewardReset cause) 2 cause (s.resetCount cause) [] ∧ (u.stewardReset cause).xng.up = false ∧
      (u.stewardReset cause).pw.pend7 = u.pw.pend7 := by
  have hpw : u.stewardHeld.pw = u.pw := u.stewardHeld_writes .pw (by decide)
  have hreset : u.stewardReset cause = u.stewardHeld.fieldReset cause := by
    rw [State.stewardReset_eq, State.request_of_idle (by rw [hpw]; exact hw), State.actOn]
  have hk' := hk.trans u.stewardHeld_keepsWords
  have hp' : ∀ p ∈ [Piece.pending, .now, .free, .nextSid, .mram, .ukey], State.same p s u.stewardHeld := fun p hm =>
    State.same_trans (hp p hm) (u.stewardHeld_writes p (by fin_cases hm <;> decide))
  have h := u.stewardHeld.fieldReset_restarted hcause
  rw [State.resetCount_congr (hk'.get (.inl (by decide)))] at h
  rw [hreset]
  exact ⟨h.congr hp' hk', State.fieldReset_up _ _, by rw [State.fieldReset_pend7, hpw]⟩

/-! ## The commands -/

/-- What changes the Crossing alone leaves a restarted state one. -/
theorem State.restarted.of_writes {s t u : State} {stage cause count : Nat} {L : List Fld}
    (h : s.restarted t stage cause count L) (k : t.writes u [.xng]) (hsafe : u.xng.safeAt = none) :
    s.restarted u stage cause count L := by
  obtain ⟨hparts, hkeeps, hstage, hcause, hcount, hfuse, hregs, hwriting, hwanted, hchange, hmc, _⟩ := h
  have hget := fun f => State.get_of_writes k (by decide) f
  have hpw : u.pw = t.pw := k .pw (by decide)
  have hmc' : u.mc = t.mc := k .mc (by decide)
  refine ⟨fun p hp => State.same_trans (hparts p hp) (k p ?_), fun p hp => State.same_trans (hkeeps p hp) (k p ?_), ?_⟩
  · fin_cases hp <;> decide
  · fin_cases hp <;> decide
  · simp only [hget, hpw, hmc']
    exact ⟨hstage, hcause, hcount, hfuse, hregs, hwriting, hwanted, hchange, hmc, hsafe⟩

theorem State.resetCount_of_power_up (s : State) {cause : Nat} (h : cause = 0x01 ∨ cause = 0x08) : s.resetCount cause = 0 :=
  if_pos h

theorem State.resetCount_of_reset (s : State) {cause : Nat} (h : cause ≠ 0x01 ∧ cause ≠ 0x08) :
    s.resetCount cause = min (s.get Reg.NVS_RST_CAUSE_COUNT + 1) 0xFFFF :=
  if_neg (by tauto)

section
variable (s : State) (cause : Nat)

@[simp] theorem State.powerOnReset_fieldOn : (s.powerOnReset cause).pw.fieldOn = true := rfl

@[simp] theorem State.powerOnReset_shut : (s.powerOnReset cause).pw.shut = false := rfl

@[simp] theorem State.powerOnReset_up : (s.powerOnReset cause).xng.up = false := rfl

@[simp] theorem State.powerOnReset_safeAt : (s.powerOnReset cause).xng.safeAt = none := rfl

end

/-- s with field power applied. -/
def State.poweredOn (s : State) (cause : Nat) : State :=
  { s.powerOnReset cause with xng := { (s.powerOnReset cause).xng with dormant := false } }

theorem State.poweredOn_writes (s : State) (cause : Nat) : (s.powerOnReset cause).writes (s.poweredOn cause) [.xng] :=
  State.with_xng_writes _ _

theorem State.poweredOn_restarted (s : State) {cause : Nat} (h : cause = 0x01 ∨ cause = 0x08) :
    s.restarted (s.poweredOn cause) 1 cause 0 [Reg.XNG_HSTATUS_FIELD_PWR] ∧
      (s.poweredOn cause).get Reg.XNG_HSTATUS_FIELD_PWR = 1 ∧ (s.poweredOn cause).pw.fieldOn = true ∧
      (s.poweredOn cause).pw.shut = false ∧ (s.poweredOn cause).xng.up = false := by
  have hcause : cause < 2 ^ 8 := by omega
  obtain ⟨hrestarted, hpwr⟩ := s.powerOnReset_restarted hcause
  rw [s.resetCount_of_power_up h] at hrestarted
  have hpw : (s.poweredOn cause).pw = (s.powerOnReset cause).pw := s.poweredOn_writes cause .pw (by decide)
  refine ⟨hrestarted.of_writes (s.poweredOn_writes cause) (s.powerOnReset_safeAt cause),
    (State.get_of_writes (s.poweredOn_writes cause) (by decide) _).trans hpwr, ?_, ?_, s.powerOnReset_up cause⟩
  · rw [hpw, s.powerOnReset_fieldOn]
  · rw [hpw, s.powerOnReset_shut]

theorem execFieldPowerOnReset_of_off {s : State} (hoff : s.pw.fieldOn = false) (hhost : s.pw.hostOn = true)
    (hdormant : s.get Reg.XNG_PWR_DORMANT = 0) (hwanted : s.pw.wanted = none) :
    execFieldPowerOnReset s = .next (s.poweredOn (if s.pw.shut then 0x08 else 0x01)) := by
  simp [State.poweredOn, execFieldPowerOnReset, hoff, hhost, hdormant, hwanted]

/-- A field reset asked for with no MRAM write in progress, from a state that differs from s by what no reset sees. -/
theorem State.request_field_restarted {s u : State} {cause : Nat} (hw : u.pw.writing = []) (hcause : cause < 2 ^ 8)
    (hne : cause ≠ 0x01 ∧ cause ≠ 0x08)
    (hp : ∀ p ∈ [Piece.pending, .now, .free, .nextSid, .mram, .ukey], State.same p s u) (hk : s.keepsWords u resetSees) :
    s.restarted (u.request (.field cause)) 2 cause (min (s.get Reg.NVS_RST_CAUSE_COUNT + 1) 0xFFFF) [] ∧
      (u.request (.field cause)).xng.up = false ∧ (u.request (.field cause)).pw.rstN = u.pw.rstN := by
  have h := u.fieldReset_restarted hcause
  rw [State.resetCount_congr (hk.get (.inl (by decide))), s.resetCount_of_reset hne] at h
  rw [State.request_of_idle hw, State.actOn]
  exact ⟨h.congr hp hk, rfl, rfl⟩

theorem State.same_refl (p : Piece) (s : State) : State.same p s s := by cases p <;> rfl

theorem execFieldRstNRelease_of_held {s : State} (hrst : s.pw.rstN = true) (hon : s.pw.fieldOn = true) :
    execFieldRstNRelease s = .next ({ s with pw := { s.pw with rstN := false } }.request (.field 0x02)) := by
  simp [execFieldRstNRelease, hrst, hon]

/-- Settles O10: each command is one of the three resets, from a state that differs from s by what no reset sees. -/
theorem resetsRestartTheFieldSide : Obligations.ResetsRestartTheFieldSide := by
  unfold Obligations.ResetsRestartTheFieldSide
  intro s hw
  refine ⟨fun hoff hhost hdormant hwanted => ⟨_, execFieldPowerOnReset_of_off hoff hhost hdormant hwanted, ?power⟩,
    fun hrst hon => ⟨_, execFieldRstNRelease_of_held hrst hon, ?release⟩,
    fun v hv => ⟨_, rfl, ?fieldRst⟩, fun v hu hv => ⟨_, rfl, ?soft⟩,
    fun n => ⟨_, rfl, ?steward⟩, ⟨_, rfl, ?lock⟩⟩
  case power =>
    exact s.poweredOn_restarted (by cases s.pw.shut <;> simp)
  case release =>
    obtain ⟨h, hup, hrstN⟩ := State.request_field_restarted (s := s) (u := { s with pw := { s.pw with rstN := false } })
      (cause := 0x02) hw (by decide) (by decide) (fun p hp => by fin_cases hp <;> rfl) fun _ _ => rfl
    exact ⟨h, hrstN, hup⟩
  case fieldRst =>
    rw [if_pos hv]
    obtain ⟨h, hup, _⟩ := State.request_field_restarted (s := s) (u := s) (cause := 0x03) hw (by decide) (by decide)
      (fun p _ => State.same_refl p s) fun _ _ => rfl
    exact ⟨h, hup⟩
  case soft =>
    rw [State.guarded_of_unlocked hu, if_pos hv, State.request_of_idle (s := s.put Reg.GLB_STATE_UNLOCKED 0) hw, State.actOn]
    have hkeeps : s.keepsWords (s.put Reg.GLB_STATE_UNLOCKED 0) resetSees :=
      (s.keepsWords_refl _).put _ (not_resetSees (by decide) (by decide))
    obtain ⟨h, hbank, hlock⟩ := (s.put Reg.GLB_STATE_UNLOCKED 0).softReset_restarted
    rw [State.resetCount_congr (hkeeps.get (.inl (by decide))), s.resetCount_of_reset (by decide)] at h
    exact ⟨h.congr (fun p hp => by fin_cases hp <;> rfl) hkeeps, hbank.trans (State.get_put_other _ _ (by decide)),
      hlock.trans (State.get_put_other _ _ (by decide)), rfl, rfl⟩
  case steward =>
    obtain ⟨h, hup, hpend⟩ := State.stewardReset_restarted (s := s) (u := { s with pw := { s.pw with pend7 := some n.val } })
      (cause := 0x05 + n.val) hw (by omega) (fun p hp => by fin_cases hp <;> rfl) fun _ _ => rfl
    rw [s.resetCount_of_reset (by omega)] at h
    exact ⟨h, hpend, hup⟩
  case lock =>
    obtain ⟨h, hup, _⟩ := State.stewardReset_restarted (s := s) (u := s.put Reg.CLK_STATUS_SVC_LOCK 0) (cause := 0x07) hw
      (by decide) (fun p hp => by fin_cases hp <;> rfl)
      ((s.keepsWords_refl _).put _ (not_resetSees (by decide) (by decide)))
    rw [s.resetCount_of_reset (by decide)] at h
    exact ⟨h, hup⟩

end Sys2Proof.Machine
end

/-! # Every output made safe (R15) -/

section
namespace Sys2Proof.Machine

variable (s : State)

/-- An output opened: a channel's switch, or a group's drivers. -/
theorem State.openOutput_wave (t w : Nat) :
    (s.openOutput t).wave w = if w = t ∧ t < 8 then { s.wave w with closed := false } else s.wave w := by
  unfold State.openOutput
  by_cases ht : t < 8
  · rw [if_pos ht]
    by_cases hw : w = t
    · subst hw
      rw [State.wave_setWave, if_pos ⟨rfl, ht⟩]
    · rw [State.wave_setWave_other _ _ hw, if_neg (by tauto)]
  · rw [if_neg ht, if_neg (by tauto)]
    rfl

theorem State.openOutput_group (t g : Nat) : (s.openOutput t).group g =
    if 8 + g = t then { s.group g with enabled := false, drive := GrpSt.init.drive } else s.group g := by
  unfold State.openOutput
  by_cases ht : t < 8
  · rw [if_pos ht, if_neg (by omega)]
    rfl
  · rw [if_neg ht]
    by_cases hg : 8 + g = t
    · obtain rfl : g = t - 8 := by omega
      rw [State.group_setGroup, if_pos hg]
    · rw [State.group_setGroup_other _ _ (by omega), if_neg hg]

variable (f : Latches → Latches)

theorem State.latchOn_latches (t k : Nat) : (s.latchOn t f).latches k = if k = t then f (s.latches k) else s.latches k := by
  have hopen : (s.latchOn t f).latches k = (s.setLatches t (f (s.latches t))).latches k :=
    congrArg (fun m => mget (fun _ => Latches.init) m k) (State.openOutput_moves.1 .latch (by decide))
  rw [hopen]
  by_cases hk : k = t
  · subst hk
    rw [State.latches_setLatches, if_pos rfl]
  · rw [State.latches_setLatches_other _ _ hk, if_neg hk]

theorem State.latchOn_wave (t w : Nat) :
    (s.latchOn t f).wave w = if w = t ∧ t < 8 then { s.wave w with closed := false } else s.wave w :=
  State.openOutput_wave _ t w

theorem State.latchOn_group (t g : Nat) : (s.latchOn t f).group g =
    if 8 + g = t then { s.group g with enabled := false, drive := GrpSt.init.drive } else s.group g :=
  State.openOutput_group _ t g

/-- The outputs of the first n tiles latched safe. -/
theorem State.latchOns_outputs (n : Nat) :
    (∀ k, (forUpto (fun s t => s.latchOn t f) n s).latches k = if k < n then f (s.latches k) else s.latches k) ∧
    (∀ w, (forUpto (fun s t => s.latchOn t f) n s).wave w =
      if w < n ∧ w < 8 then { s.wave w with closed := false } else s.wave w) ∧
    (∀ g, (forUpto (fun s t => s.latchOn t f) n s).group g =
      if 8 + g < n then { s.group g with enabled := false, drive := GrpSt.init.drive } else s.group g) := by
  induction n with
  | zero => simp [forUpto]
  | succ n ih =>
    obtain ⟨hl, hw, hg⟩ := ih
    refine ⟨fun k => ?_, fun w => ?_, fun g => ?_⟩
    · rw [forUpto, State.latchOn_latches, hl]
      grind
    · rw [forUpto, State.latchOn_wave, hw]
      grind
    · rw [forUpto, State.latchOn_group, hg]
      grind

/-- What holds CLK_OUT in its safe state: reset, gating, power or absence (R15). -/
def Latches.holdsOut (l : Latches) : Bool := l.reset || l.gated || l.power || l.absent

theorem State.judgeOut_of_held (h : s.clk.outSafe.holdsOut = true) :
    s.judgeOut = { s with clk := { s.clk with out := none, outNext := none } } := by
  have hoff : s.clkOutOn = false := by
    rw [State.clkOutOn, show (s.clk.outSafe.reset || s.clk.outSafe.gated || s.clk.outSafe.power || s.clk.outSafe.absent) = true
      from h, Bool.not_true, Bool.and_false]
  simp only [State.judgeOut, hoff, Bool.not_false, reduceIte]

/-- Where f latches what CLK_OUT heeds, latchAll makes every output safe (R15). -/
theorem State.latchAll_madeSafe (hf : (f s.clk.outSafe).holdsOut = true) : s.madeSafe (s.latchAll f) f := by
  obtain ⟨hl, hw, hg⟩ := s.latchOns_outputs f 16
  have hclk : (forUpto (fun s t => s.latchOn t f) 16 s).clk = s.clk :=
    (moves_forUpto (W := [.wav, .grp, .latch]) (fun _ _ => State.latchOn_moves) State.moves_refl).1 .clk (by decide)
  rw [State.latchAll, State.latchOut]
  generalize forUpto (fun s t => s.latchOn t f) 16 s = u at *
  rw [State.judgeOut_of_held _ (by rw [hclk]; exact hf)]
  refine ⟨fun k hk => (hl k).trans (if_pos hk), fun w hw8 => (hw w).trans (if_pos ⟨by omega, hw8⟩),
    fun g hg8 => (hg g).trans (if_pos (by omega)), ?_⟩
  rw [hclk]

theorem State.latchAll_writes : s.writes (s.latchAll f) [.wav, .grp, .latch, .clk] := State.latchAll_moves.1

/-- Which parts say that the outputs are safe. -/
theorem State.madeSafe.congr {s s' t t' : State} {f : Latches → Latches} {V W : List Piece} (h : s'.madeSafe t f)
    (k : s.writes s' V) (k' : t.writes t' W) (hV : ∀ p ∈ [Piece.latch, .wav, .grp, .clk], p ∉ V)
    (hW : ∀ p ∈ [Piece.latch, .wav, .grp, .clk], p ∉ W) : s.madeSafe t' f := by
  obtain ⟨hl, hw, hg, hclk⟩ := h
  have el : s'.latch = s.latch := k .latch (hV _ (by decide))
  have ew : s'.wav = s.wav := k .wav (hV _ (by decide))
  have eg : s'.grp = s.grp := k .grp (hV _ (by decide))
  have ec : s'.clk = s.clk := k .clk (hV _ (by decide))
  have el' : t'.latch = t.latch := k' .latch (hW _ (by decide))
  have ew' : t'.wav = t.wav := k' .wav (hW _ (by decide))
  have eg' : t'.grp = t.grp := k' .grp (hW _ (by decide))
  have ec' : t'.clk = t.clk := k' .clk (hW _ (by decide))
  simp only [State.madeSafe, State.latches, State.wave, State.group, el, ew, eg, ec, el', ew', eg', ec'] at hl hw hg hclk ⊢
  exact ⟨hl, hw, hg, hclk⟩

end Sys2Proof.Machine
end

/-! # Resets that wait for an MRAM write, and FIELD_RST_N (R348, R349) -/

section
namespace Sys2Proof.Machine

/-- s with its outputs safe and a request noted that waits. -/
def State.waitFor (s : State) (w : Wanted) : State :=
  { s.latchAll (fun l => { l with reset := true }) with pw := { s.pw with wanted := some w } }

/-- While an MRAM write is in progress, and nothing else waits, a request waits (R349). -/
theorem State.request_of_writing {s : State} (hw : s.pw.writing ≠ []) (hn : s.pw.wanted = none) (w : Wanted) :
    s.request w = s.waitFor w := by
  have hpw : (s.latchAll fun l => { l with reset := true }).pw = s.pw := s.latchAll_writes _ .pw (by decide)
  rw [State.request, if_neg (by simpa using hw)]
  simp only [hn]
  rw [hpw, State.waitFor]

theorem State.waitFor_writes (s : State) (w : Wanted) : s.writes (s.waitFor w) [.wav, .grp, .latch, .clk, .pw] :=
  State.writes_of (State.with_pw_writes _ _) (by decide) (State.writes_mono (s.latchAll_writes _) (by decide))

theorem State.waitFor_madeSafe (s : State) (w : Wanted) : s.madeSafe (s.waitFor w) (fun l => { l with reset := true }) :=
  (s.latchAll_madeSafe _ rfl).congr (V := []) State.writes_refl (State.with_pw_writes _ _) (by simp) (by decide)

theorem State.waitFor_pw (s : State) (w : Wanted) : (s.waitFor w).pw = { s.pw with wanted := some w } := rfl

theorem State.waitFor_congr_madeSafe {s s' : State} {V : List Piece} (k : s.writes s' V)
    (hV : ∀ p ∈ [Piece.latch, .wav, .grp, .clk], p ∉ V) (w : Wanted) :
    s.madeSafe (s'.waitFor w) (fun l => { l with reset := true }) :=
  (s'.waitFor_madeSafe w).congr (W := []) k State.writes_refl hV (by simp)

/-- FIELD_RST_N asserted: the outputs safe, and the pin noted. -/
def State.heldInReset (s : State) : State :=
  { s.latchAll (fun l => { l with reset := true }) with pw := { s.pw with rstN := true } }

theorem State.heldInReset_writes (s : State) : s.writes s.heldInReset [.wav, .grp, .latch, .clk, .pw] :=
  State.writes_of (State.with_pw_writes _ _) (by decide) (State.writes_mono (s.latchAll_writes _) (by decide))

theorem State.heldInReset_madeSafe (s : State) : s.madeSafe s.heldInReset (fun l => { l with reset := true }) :=
  (s.latchAll_madeSafe _ rfl).congr (V := []) State.writes_refl (State.with_pw_writes _ _) (by simp) (by decide)

/-! ## Field power off -/

theorem State.fieldOff_parts (s : State) (w : Option Wanted) :
    (∀ p ∈ fieldParts, State.same p State.reset (s.fieldOff w)) ∧ (s.fieldOff w).pw.fieldOn = false ∧
      (s.fieldOff w).pw.wanted = w ∧ (s.fieldOff w).xng.up = false := by
  refine ⟨fun p hp => ?_, rfl, rfl, rfl⟩
  fin_cases hp <;> rfl

theorem State.fieldOff_setsFields (s : State) (w : Option Wanted) :
    s.fieldClear.setsFields (s.fieldOff w) [(Reg.XNG_HSTATUS_FIELD_PWR, 0), (Reg.XNG_HSTATUS_FSTATE, 0)] :=
  ((State.setsFields_nil_of_regs (s := s.fieldClear) (t := { s.fieldClear with
    pw := { s.fieldClear.pw with fieldOn := false, wanted := w }
    xng := { s.fieldClear.xng with up := false, beatField := none } }) rfl).next Reg.XNG_HSTATUS_FIELD_PWR 0 rfl).next
    Reg.XNG_HSTATUS_FSTATE 0 rfl

theorem State.fieldOff_writes (s : State) (w : Option Wanted) :
    s.writes (s.fieldOff w) (fieldParts ++ [.timeOff, .regs, .xng, .mc, .pw]) :=
  State.writes_mono State.fieldOff_moves.1 (by decide)

theorem execFieldResetAckTimeout_of_held {s : State} (hrst : s.pw.rstN = true) (hon : s.pw.fieldOn = true) :
    execFieldResetAckTimeout s = .next (s.fieldOff (some (.powerOn 0x02))) := by
  simp [execFieldResetAckTimeout, hrst, hon]

/-! ## The end of an MRAM write -/

/-- s with an MRAM write's own effects, it being over. -/
def State.writeDone (s : State) : NvWrite → State
  | .block tag => s.imgDone tag .ok
  | .commit tag len => s.commitDone tag len
  | .cal tag b => s.calCommitted tag b

theorem State.writeDone_writes (s : State) (w : NvWrite) : s.writes (s.writeDone w) [.regs, .mram] := by
  cases w with
  | block tag => exact State.writes_mono State.imgDone_moves.1 (by decide)
  | commit tag len => exact State.commitDone_moves.1
  | cal tag b => exact State.calCommitted_moves.1

theorem State.imgDone_keepsCount (s : State) (tag : Nat) (e : Sts) :
    s.keepsWords (s.imgDone tag e) (· = Reg.NVS_RST_CAUSE_COUNT.addr) :=
  (((s.keepsWords_refl _).put _ (by decide)).put _ (by decide)).put _ (by decide)

theorem State.calReport_keepsCount (s : State) (tag : Nat) (e : Sts) :
    s.keepsWords (s.calReport tag e) (· = Reg.NVS_RST_CAUSE_COUNT.addr) :=
  (((s.keepsWords_refl _).put _ (by decide)).put _ (by decide)).put _ (by decide)

theorem State.putStore_keepsCount (s : State) : s.keepsWords s.putStore (· = Reg.NVS_RST_CAUSE_COUNT.addr) :=
  ((((s.keepsWords_refl _).put _ (by decide)).put _ (by decide)).put _ (by decide)).put _ (by decide)

theorem State.writeDone_keepsCount (s : State) (w : NvWrite) :
    s.keepsWords (s.writeDone w) (· = Reg.NVS_RST_CAUSE_COUNT.addr) := by
  cases w with
  | block tag => exact s.imgDone_keepsCount tag .ok
  | commit tag len =>
    simp only [State.writeDone, State.commitDone]
    split
    · exact (((s.keepsWords_refl _).of_writes State.putMram_moves.1 (by decide)).put _ (by decide)).trans
        (State.imgDone_keepsCount _ _ _)
    · exact s.imgDone_keepsCount _ _
  | cal tag b =>
    exact (((s.keepsWords_refl _).of_writes State.putMram_moves.1 (by decide)).trans
      (State.putStore_keepsCount _)).trans (State.calReport_keepsCount _ _ _)

/-- s with the first of the writes in progress that is w over, and its own effects made. -/
def State.afterWrite (s : State) (w : NvWrite) : State :=
  { s with pw := { s.pw with writing := s.pw.writing.erase w } }.writeDone w

theorem State.afterWrite_pw (s : State) (w : NvWrite) :
    (s.afterWrite w).pw = { s.pw with writing := s.pw.writing.erase w } :=
  (State.writeDone_writes _ w) .pw (by decide)

theorem State.endWrite_eq (s : State) (w : NvWrite) : s.endWrite w = match (s.afterWrite w).pw.wanted with
    | some q =>
      if (s.afterWrite w).pw.writing.isEmpty && (s.afterWrite w).pw.fieldOn then
        { s.afterWrite w with pw := { (s.afterWrite w).pw with wanted := none } }.actOn q
      else s.afterWrite w
    | none => s.afterWrite w := by
  cases w <;> rfl

/-- The one write in progress ends, and the field reset that waits for it proceeds. -/
theorem State.endWrite_of_field {s : State} {w : NvWrite} {cause : Nat} (hw : s.pw.writing = [w])
    (hwanted : s.pw.wanted = some (.field cause)) (hon : s.pw.fieldOn = true) :
    ∃ u : State, s.endWrite w = u.fieldReset cause ∧
      u.get Reg.NVS_RST_CAUSE_COUNT = s.get Reg.NVS_RST_CAUSE_COUNT := by
  have hpw := s.afterWrite_pw w
  refine ⟨{ s.afterWrite w with pw := { (s.afterWrite w).pw with wanted := none } }, ?_, ?_⟩
  · rw [s.endWrite_eq w, hpw]
    simp [hwanted, hw, hon, State.actOn]
  · exact (State.writeDone_keepsCount _ w).get rfl

/-- Each of the commands that end the one write in progress ends it. -/
theorem exec_ends_write {s : State} {w : NvWrite} (hw : s.pw.writing = [w]) {c : Instr}
    (hc : c = .mramWriteComplete ∨ (c = .imgCommandComplete ∧ w.image = true) ∨
      (c = .calCommitComplete ∧ w.image = false)) : exec c s = .next (s.endWrite w) := by
  rcases hc with rfl | ⟨rfl, himg⟩ | ⟨rfl, himg⟩
  · simp [exec, execMramWriteComplete, hw]
  · simp [exec, execImgCommandComplete, hw, himg]
  · simp [exec, execCalCommitComplete, hw, himg]

end Sys2Proof.Machine
end

/-! # TILE_RESET (R350) -/

section
namespace Sys2Proof.Machine

theorem regTile_eq_some {a k : Nat} : regTile a = some k ↔
    (0x080000 ≤ a ∧ a < 0x0C0000 ∧ (a - 0x080000) / 0x4000 = k) ∨
      (0x0D0000 ≤ a ∧ a < 0x0D8000 ∧ 8 + (a - 0x0D0000) / 0x1000 = k) := by
  unfold regTile
  split_ifs with h1 h2
  · simp only [Option.some.injEq]; omega
  · simp only [Option.some.injEq]; omega
  · simp; omega

/-- A register that a reset of tile k does not keep is one of tile k. -/
theorem regTile_of_not_tileKeeps {k a : Nat} (h : tileKeeps k a = false) : regTile a = some k := by
  unfold tileKeeps at h
  split at h
  · simpa using (show _ ∧ _ by simpa using h).2
  · simp at h

/-- A register outside the windows of the tiles is no tile's. -/
theorem regTile_ne_of_outside {a k : Nat} (h : a < 0x080000 ∨ 0x0D8000 ≤ a) : regTile a ≠ some k := by
  rw [Ne, regTile_eq_some]
  omega

section
variable (s : State) (k : Nat)

theorem State.calReport_keepsTile (tag : Nat) (e : Sts) : s.keepsWords (s.calReport tag e) (regTile · = some k) :=
  (((s.keepsWords_refl _).put _ (regTile_ne_of_outside (.inl (by decide)))).put _
    (regTile_ne_of_outside (.inl (by decide)))).put _ (regTile_ne_of_outside (.inl (by decide)))

theorem State.calDrop_regs {r : CalRun} (h : r.op ≠ 3) : (s.calDrop r).regs = s.regs := by
  rw [State.calDrop, if_neg h]
  exact (moves_forEach (W := [.wav, .grp, .latch]) (fun _ _ => State.latchOff_moves) State.moves_refl).1 .regs (by decide)

/-- The end of a procedure that affects a tile writes no register of a tile. -/
theorem State.endCalWhere_keepsTile (t : Nat) :
    s.keepsWords (s.endCalWhere (fun r => r.tiles.contains t)) (regTile · = some k) := by
  unfold State.endCalWhere
  split
  · rename_i r _
    split
    · rename_i hr
      have hop : r.op ≠ 3 := by
        intro h
        simp [CalRun.tiles, h] at hr
      extract_lets x s1
      have h1 : s.keepsWords s1 (regTile · = some k) := by
        unfold s1
        split
        · exact ((s.keepsWords_refl _).of_regs rfl).put _ (regTile_ne_of_outside (.inl (by decide)))
        · exact s.keepsWords_refl _
      have h2 := h1.of_regs (u := { s1 with cal := { s1.cal with run := none } }.calDrop r)
        (State.calDrop_regs _ hop)
      unfold State.calOver
      split
      · exact h2
      · exact h2.trans (State.calReport_keepsTile _ k _ _)
    · exact s.keepsWords_refl _
  · exact s.keepsWords_refl _

theorem State.loadCtx_keepsTile (c : Nat) : s.keepsWords (s.loadCtx c) (regTile · = some k) :=
  (((s.keepsWords_refl _).of_regs rfl).put _ (regTile_ne_of_outside (.inr (by simp only [Reg.CTX_CNT]; omega)))).put _
    (regTile_ne_of_outside (.inr (by simp only [Reg.CTX_CNT]; omega)))

theorem State.resetCtxs_keepsTile (t : Nat) : s.keepsWords (s.resetCtxs t) (regTile · = some k) := by
  refine (s.keepsWords_refl _).forEach fun u p => ?_
  split
  · exact u.keepsWords_refl _
  · split
    · exact u.loadCtx_keepsTile k _
    · exact (u.keepsWords_refl _).of_regs rfl

theorem recordAddrs_regTile_ne {t : Nat} (h : t ≠ k) (ht : t < 16) : ∀ a ∈ recordAddrs t, regTile a ≠ some k := by
  have own : ∀ t < 16, ∀ a ∈ recordAddrs t, regTile a = none ∨ regTile a = some t := by decide
  intro a ha
  rcases own t ht a ha with ha | ha <;> simp [ha, h]

theorem State.resetPath_keepsTile {t : Nat} (h : t ≠ k) (ht : t < 16) :
    s.keepsWords (s.resetPath t) (regTile · = some k) := by
  unfold State.resetPath
  split
  · exact (s.keepsWords_refl _).of_writes (State.moves_of State.openOutput_moves (by decide)
      (State.moves_mono State.waveRestart_moves (W := [.wav, .grp]) (by decide))).1 (by decide)
  · extract_lets g s1 x
    have h1 : s.keepsWords s1 (regTile · = some k) := State.recHold_keepsWords s (recordAddrs_regTile_ne k h ht)
    refine State.keepsWords.of_writes ?_ State.openOutput_moves.1 (by decide)
    exact h1.of_regs rfl

/-- What comes before the registers go to their reset values in a reset of tile t. -/
def State.tileRestart (s : State) (t : Nat) : State :=
  let s1 := s.endCalWhere (fun r => r.tiles.contains t)
  let s2 := s1.resetCtxs t
  let x := s2.tile t
  (s2.setTile t { TileSt.init with
    last := x.last, reload := x.reload, ran := x.ran, resetAt := some s.now,
    leftAt := (if x.running.isSome then some s.now else x.leftAt) }).resetPath t

theorem State.tileReset_regs (t : Nat) : (s.tileReset t).regs = mfilter (tileKeeps t) (s.tileRestart t).regs := rfl

theorem State.tileReset_tiles (t : Nat) : (s.tileReset t).tiles = (s.tileRestart t).tiles := rfl

theorem State.tileRestart_keepsTile {t : Nat} (h : t ≠ k) (ht : t < 16) :
    s.keepsWords (s.tileRestart t) (regTile · = some k) := by
  unfold State.tileRestart
  extract_lets s1 s2 x
  exact (((s.endCalWhere_keepsTile k t).trans (s1.resetCtxs_keepsTile k t)).of_regs rfl).trans
    (State.resetPath_keepsTile _ k h ht)

/-- The tile that a reset of x leaves at cycle n. -/
def TileSt.afterReset (x : TileSt) (n : Nat) : TileSt :=
  { TileSt.init with
    last := x.last, reload := x.reload, ran := x.ran, resetAt := some n,
    leftAt := if x.running.isSome then some n else x.leftAt }

theorem State.tileRestart_tile (t : Nat) :
    (s.tileRestart t).tile k = if k = t then (s.tile t).afterReset s.now else s.tile k := by
  unfold State.tileRestart
  extract_lets s1 s2 x
  have hx : ∀ j, s2.tile j = s.tile j := fun j =>
    (State.tile_of_writes (s := s1) State.resetCtxs_moves.1 (by decide) j).trans
      (State.tile_of_writes State.endCalWhere_moves.1 (by decide) j)
  rw [State.tile_of_writes State.resetPath_moves.1 (by decide)]
  by_cases hk : k = t
  · subst hk
    rw [State.tile_setTile, if_pos rfl, ← hx k]
    rfl
  · rw [State.tile_setTile_other _ _ hk, if_neg hk, hx]

theorem State.tileReset_tile (t : Nat) :
    (s.tileReset t).tile k = if k = t then (s.tile t).afterReset s.now else s.tile k :=
  (congrArg (fun m => mget (fun _ => TileSt.init) m k) (s.tileReset_tiles t)).trans (s.tileRestart_tile k t)

/-- A register that a reset of tile k puts back reads so after it, whatever it held. -/
theorem State.tileReset_regWord {a : Nat} (h : tileKeeps k a = false) :
    (s.tileReset k).regWord a = State.reset.regWord a := by
  simp only [State.regWord, State.tileReset_regs, mget_mfilter, h, Bool.false_eq_true, reduceIte]
  rfl

/-- The reset of another tile leaves a register of tile k, or puts it back as well. -/
theorem State.tileReset_regWord_other {t a : Nat} (h : t ≠ k) (ht : t < 16) (ha : tileKeeps k a = false)
    (hs : s.regWord a = State.reset.regWord a) : (s.tileReset t).regWord a = State.reset.regWord a := by
  have hkeep := (s.tileRestart_keepsTile k h ht) a (regTile_of_not_tileKeeps ha)
  simp only [State.regWord, State.tileReset_regs, mget_mfilter] at hkeep hs ⊢
  split
  · rw [hkeep, hs]
  · rfl

variable (v : Word)

/-- The resets of the first n tiles that v names. -/
def State.tileResets (n : Nat) : State := forUpto (fun s t => if v.getLsbD t then s.tileReset t else s) n s

theorem State.tileResets_succ (n : Nat) : s.tileResets v (n + 1) =
    if v.getLsbD n then (s.tileResets v n).tileReset n else s.tileResets v n := rfl

theorem State.tileResets_moves (n : Nat) : s.moves (s.tileResets v n)
    [.regs, .act, .segs, .stores, .mem, .ctxs, .tiles, .wav, .grp, .cap, .latch, .mc, .cal] :=
  moves_forUpto (fun _ _ => State.moves_ite State.tileReset_moves State.moves_refl) State.moves_refl

theorem State.tileResets_tile (n : Nat) : (s.tileResets v n).tile k =
    if k < n ∧ v.getLsbD k = true then (s.tile k).afterReset s.now else s.tile k := by
  induction n with
  | zero => simp [State.tileResets, forUpto]
  | succ n ih =>
    have hnow : (s.tileResets v n).now = s.now := (s.tileResets_moves v n).1 .now (by decide)
    rw [State.tileResets_succ]
    by_cases hv : v.getLsbD n = true
    · rw [if_pos hv, State.tileReset_tile, hnow]
      by_cases hk : k = n
      · subst hk
        rw [if_pos rfl, ih, if_neg (by omega), if_pos ⟨by omega, hv⟩]
      · rw [if_neg hk, ih]
        simp only [show k < n + 1 ↔ k < n by omega]
    · rw [if_neg hv, ih]
      by_cases hk : k = n
      · subst hk
        rw [if_neg (by omega), if_neg (by tauto)]
      · simp only [show k < n + 1 ↔ k < n by omega]

theorem State.tileResets_regWord {n a : Nat} (hn : n ≤ 16) (hk : k < n) (hv : v.getLsbD k = true)
    (ha : tileKeeps k a = false) : (s.tileResets v n).regWord a = State.reset.regWord a := by
  induction n with
  | zero => omega
  | succ n ih =>
    rw [State.tileResets_succ]
    by_cases hkn : k = n
    · subst hkn
      rw [if_pos hv, State.tileReset_regWord _ _ ha]
    · have hbefore := ih (by omega) (by omega)
      split
      · exact State.tileReset_regWord_other _ _ (Ne.symm hkn) (by omega) ha hbefore
      · exact hbefore

end

/-- Settles O11: waitFor, heldInReset, fieldOff, the end of the write that a field reset waits for, and the resets of the tiles
that TILE_RESET names. -/
theorem resetsWaitAndTilesReset : Obligations.ResetsWaitAndTilesReset := by
  unfold Obligations.ResetsWaitAndTilesReset
  refine ⟨fun s hw hn => ⟨fun v hv => ⟨_, rfl, ?fieldRst⟩, fun v hu hv => ⟨_, rfl, ?soft⟩,
      fun hrst hon => ⟨_, execFieldRstNRelease_of_held hrst hon, ?release⟩⟩,
    fun s w cause hw hwanted hon h1 h8 hcause c hc => ⟨_, exec_ends_write hw hc, ?proceeds⟩,
    fun s => ⟨⟨_, rfl, ?held⟩, fun hrst hon => ⟨_, execFieldResetAckTimeout_of_held hrst hon, ?ack⟩⟩,
    fun s v => ⟨s.tileResets v 16, rfl, ?tiles⟩⟩
  case fieldRst =>
    rw [if_pos hv, State.request_of_writing hw hn]
    exact ⟨s.waitFor_writes _, s.waitFor_madeSafe _, s.waitFor_pw _⟩
  case soft =>
    rw [State.guarded_of_unlocked hu, if_pos hv, State.request_of_writing (s := s.put Reg.GLB_STATE_UNLOCKED 0) hw hn]
    exact ⟨State.writes_of (State.waitFor_writes _ _) (by decide) (State.writes_mono State.put_writes (by decide)),
      State.waitFor_congr_madeSafe State.put_writes (by decide) _, State.waitFor_pw _ _,
      (s.setsFields_refl.next Reg.GLB_STATE_UNLOCKED 0 rfl).of_regs (State.waitFor_writes _ _ .regs (by decide))⟩
  case release =>
    rw [State.request_of_writing (s := { s with pw := { s.pw with rstN := false } }) hw hn]
    exact ⟨State.writes_of (State.waitFor_writes _ _) (by decide) (State.writes_mono (s.with_pw_writes _) (by decide)),
      State.waitFor_congr_madeSafe (s.with_pw_writes _) (by decide) _, State.waitFor_pw _ _⟩
  case proceeds =>
    obtain ⟨u, hu, hcount⟩ := State.endWrite_of_field hw hwanted hon
    have h := u.fieldReset_restarted (cause := cause) hcause
    rw [State.resetCount_congr hcount, s.resetCount_of_reset ⟨h1, h8⟩, ← hu] at h
    obtain ⟨hparts, _, hstage, hcause', hcount', _, _, hwriting, hwanted', _⟩ := h
    exact ⟨hparts, hstage, hcause', hcount', hwriting, hwanted'⟩
  case held => exact ⟨s.heldInReset_writes, s.heldInReset_madeSafe, rfl⟩
  case ack =>
    obtain ⟨hparts, hoff, hwanted, hup⟩ := s.fieldOff_parts (some (.powerOn 0x02))
    have h := s.fieldOff_setsFields (some (.powerOn 0x02))
    exact ⟨hparts, hoff, hwanted, hup, h.get (by simp), h.get (by simp), s.fieldOff_writes _⟩
  case tiles =>
    refine ⟨(s.tileResets_moves v 16).1, fun k hk => ?_, fun k f hk hv hf => ?_⟩
    · rw [s.tileResets_tile k v 16]
      simp only [hk, true_and]
      rfl
    · simp only [State.get, s.tileResets_regWord k v (Nat.le_refl 16) hk hv hf]

end Sys2Proof.Machine
end

/-! # The 48 V input and field power (R351, R353 to R355) -/

section
namespace Sys2Proof.Machine

/-- What an alarm leaves in the Crossing depends on the Crossing and the time. -/
theorem State.alarm_xng_congr {s t : State} (hxng : t.xng = s.xng) (hnow : t.now = s.now) (hoff : t.timeOff = s.timeOff)
    (code detail : Nat) : (t.alarm code detail).xng = (s.alarm code detail).xng := by
  have hcarries : t.carries = s.carries := by simp only [State.carries, hxng]
  have hts : t.tsAt t.now = s.tsAt s.now := by simp only [State.tsAt, State.sysTime, hnow, hoff]
  unfold State.alarm
  rw [hcarries, hxng, hts]
  split <;> rfl

section
variable {s : State} {vin : BitVec 10}

theorem State.vin_get (s : State) (vin : BitVec 10) {f : Fld} (hf : f.apart Reg.NVS_SUPPLY_VIN) : (s.vin vin).get f = s.get f :=
  State.get_put_of_apart _ _ (by decide) hf

@[simp] theorem State.vin_pw (s : State) (vin : BitVec 10) : (s.vin vin).pw = s.pw := State.put_pw _ _ _
@[simp] theorem State.vin_xng (s : State) (vin : BitVec 10) : (s.vin vin).xng = s.xng := State.put_xng _ _ _
@[simp] theorem State.vin_now (s : State) (vin : BitVec 10) : (s.vin vin).now = s.now := State.put_now _ _ _
@[simp] theorem State.vin_timeOff (s : State) (vin : BitVec 10) : (s.vin vin).timeOff = s.timeOff := State.put_timeOff _ _ _

theorem State.vin_setsFields (s : State) (vin : BitVec 10) :
    s.setsFields (s.vin vin) [(Reg.NVS_SUPPLY_VIN, vin.toNat)] :=
  s.setsFields_refl.put Reg.NVS_SUPPLY_VIN _ (by decide) vin.isLt (by simp)

theorem State.vin_setsOnly (s : State) (vin : BitVec 10) : s.setsOnly (s.vin vin) [(Reg.NVS_SUPPLY_VIN, vin.toNat)] :=
  ⟨State.put_writes, s.vin_setsFields vin⟩

/-- s with the input below 42 V seen (R353). -/
def State.sagged (s : State) (vin : BitVec 10) : State :=
  { ((s.vin vin).put Reg.NVS_SUPPLY_NV_BLOCK 1).sag 42 with pw := { s.pw with flush := false } }

theorem execSagBelow42V_of_open (hvin : vin.toNat < 420) (hb : s.get Reg.NVS_SUPPLY_NV_BLOCK = 0) :
    execSagBelow42V vin s = .next (s.sagged vin) := by
  simp only [execSagBelow42V, State.vin_get s vin (f := Reg.NVS_SUPPLY_NV_BLOCK) (by decide)]
  rw [if_pos ⟨hvin, hb⟩, State.vin_pw]
  rfl

theorem execSagBelow42V_of_blocked (hb : s.get Reg.NVS_SUPPLY_NV_BLOCK = 1) :
    execSagBelow42V vin s = .next (s.vin vin) := by
  simp only [execSagBelow42V, State.vin_get s vin (f := Reg.NVS_SUPPLY_NV_BLOCK) (by decide), hb]
  rw [if_neg (by simp)]

theorem State.sagged_setsFields (s : State) (vin : BitVec 10) : s.setsFields (s.sagged vin)
    [(Reg.NVS_SUPPLY_VIN, vin.toNat), (Reg.NVS_SUPPLY_NV_BLOCK, 1), (Reg.NVS_SUPPLY_SAG, 1)] :=
  (((s.vin_setsFields vin).next Reg.NVS_SUPPLY_NV_BLOCK 1 rfl).next Reg.NVS_SUPPLY_SAG 1 rfl).of_regs
    (State.alarm_moves.1 .regs (by decide))

theorem State.sagged_writes (s : State) (vin : BitVec 10) : s.writes (s.sagged vin) [.regs, .xng, .pw] :=
  State.writes_of (State.with_pw_writes _ _) (by decide) <| State.writes_of State.alarm_moves.1 (by decide) <|
    State.writes_of State.put_writes (by decide) <| State.writes_of State.put_writes (by decide) <|
    State.writes_mono State.put_writes (by decide)

theorem State.sagged_xng (s : State) (vin : BitVec 10) : (s.sagged vin).xng = (s.alarm 0x0004 42).xng := by
  have h : (s.sagged vin).xng = (((s.vin vin).put Reg.NVS_SUPPLY_NV_BLOCK 1).sag 42).xng :=
    (State.with_pw_writes _ _) .xng (by decide)
  rw [h, State.sag]
  exact State.alarm_xng_congr (by rw [State.put_xng, State.put_xng, State.vin_xng])
    (by rw [State.put_now, State.put_now, State.vin_now]) (by rw [State.put_timeOff, State.put_timeOff, State.vin_timeOff]) 0x0004 42

/-- s with the input at 42.5 V or more seen: the records held back are due (R354). -/
def State.unblocked (s : State) (vin : BitVec 10) : State :=
  { (s.vin vin).put Reg.NVS_SUPPLY_NV_BLOCK 0 with pw := { s.pw with flush := true } }

theorem execSupplyRecover42V5_of_blocked (hvin : 425 ≤ vin.toNat) (hb : s.get Reg.NVS_SUPPLY_NV_BLOCK = 1) :
    execSupplyRecover42V5 vin s = .next (s.unblocked vin) := by
  simp only [execSupplyRecover42V5, State.vin_get s vin (f := Reg.NVS_SUPPLY_NV_BLOCK) (by decide)]
  rw [if_pos ⟨hvin, hb⟩, State.vin_pw]
  rfl

theorem State.unblocked_writes (s : State) (vin : BitVec 10) : s.writes (s.unblocked vin) [.regs, .pw] :=
  State.writes_of (State.with_pw_writes _ _) (by decide) <| State.writes_of State.put_writes (by decide) <|
    State.writes_mono State.put_writes (by decide)

theorem State.unblocked_setsFields (s : State) (vin : BitVec 10) : s.setsFields (s.unblocked vin)
    [(Reg.NVS_SUPPLY_VIN, vin.toNat), (Reg.NVS_SUPPLY_NV_BLOCK, 0)] :=
  ((s.vin_setsFields vin).next Reg.NVS_SUPPLY_NV_BLOCK 0 rfl).of_regs rfl

theorem execSupplyRecover40V_of_above (hvin : 400 ≤ vin.toNat) :
    execSupplyRecover40V vin s = .next ((s.vin vin).put Reg.NVS_SUPPLY_ASH_SAG 0) := by
  rw [execSupplyRecover40V, if_pos hvin]

/-! ## Field power taken away -/

/-- s with field power removed for the input below 36 V. -/
def State.shutDown (s : State) (vin : BitVec 10) : State :=
  { ((s.vin vin).sag 36).fieldOff none with pw := { (((s.vin vin).sag 36).fieldOff none).pw with shut := true } }

theorem execSagBelow36V_of_on (hvin : vin.toNat < 360) (hon : s.pw.fieldOn = true) (hw : s.pw.writing = [])
    (hn : s.pw.wanted = none) : execSagBelow36V vin s = .next (s.shutDown vin) := by
  have hpw : ((s.vin vin).sag 36).pw = s.pw := by
    have h : ((s.vin vin).sag 36).pw = ((s.vin vin).put Reg.NVS_SUPPLY_SAG 1).pw := State.alarm_moves.1 .pw (by decide)
    rw [h, State.put_pw, State.vin_pw]
  have hcond : vin.toNat < 360 ∧ (s.vin vin).pw.fieldOn = true ∧ (s.vin vin).pw.wanted ≠ some .shutdown :=
    ⟨hvin, by rw [State.vin_pw, hon], by rw [State.vin_pw, hn]; nofun⟩
  rw [execSagBelow36V, if_pos hcond, State.request_of_idle (s := (s.vin vin).sag 36) (by rw [hpw]; exact hw), State.actOn, State.shutDown]

/-- What every power-off leaves. -/
theorem State.fieldOff_frame {s u t : State} {V W : List Piece} {w : Option Wanted} (k : s.writes u V)
    (k' : (u.fieldOff w).writes t W) (hV : ∀ p ∈ V, p ∈ fieldParts ++ [.timeOff, .regs, .xng, .mc, .pw])
    (hW : ∀ p ∈ W, p = .pw) : (∀ p ∈ fieldParts, State.same p State.reset t) ∧ t.xng.up = false ∧
      t.get Reg.XNG_HSTATUS_FIELD_PWR = 0 ∧ t.get Reg.XNG_HSTATUS_FSTATE = 0 ∧
      s.writes t (fieldParts ++ [.timeOff, .regs, .xng, .mc, .pw]) := by
  obtain ⟨hparts, _, _, hup⟩ := u.fieldOff_parts w
  have h := u.fieldOff_setsFields w
  have hnot : ∀ p ≠ Piece.pw, p ∉ W := fun p hp hm => hp (hW p hm)
  have hget := fun f => State.get_of_writes k' (hnot .regs (by decide)) f
  have hxng : t.xng = (u.fieldOff w).xng := k' .xng (hnot .xng (by decide))
  refine ⟨fun p hp => State.same_trans (hparts p hp) (k' p (hnot p (by fin_cases hp <;> decide))),
    by rw [hxng, hup], (hget _).trans (h.get (by simp)),
    (hget _).trans (h.get (by simp)), State.writes_of k' (fun p hp => by rw [hW p hp]; decide)
      (State.writes_of (u.fieldOff_writes w) (fun _ hp => hp) (State.writes_mono k hV))⟩

theorem State.shutDown_frame (s : State) (vin : BitVec 10) :
    (∀ p ∈ fieldParts, State.same p State.reset (s.shutDown vin)) ∧ (s.shutDown vin).xng.up = false ∧
      (s.shutDown vin).get Reg.XNG_HSTATUS_FIELD_PWR = 0 ∧ (s.shutDown vin).get Reg.XNG_HSTATUS_FSTATE = 0 ∧
      s.writes (s.shutDown vin) (fieldParts ++ [.timeOff, .regs, .xng, .mc, .pw]) :=
  State.fieldOff_frame (V := [.regs, .xng]) (State.writes_of State.alarm_moves.1 (by decide)
    (State.writes_of State.put_writes (by decide) (State.writes_mono State.put_writes (by decide))))
    (State.with_pw_writes _ _) (by decide) (by decide)

theorem State.shutDown_pw (s : State) (vin : BitVec 10) : (s.shutDown vin).pw.fieldOn = false ∧
    (s.shutDown vin).pw.shut = true ∧ (s.shutDown vin).pw.wanted = none := by
  obtain ⟨_, hoff, hwanted, _⟩ := ((s.vin vin).sag 36).fieldOff_parts none
  exact ⟨hoff, rfl, hwanted⟩

/-- s with a request for Dormant noted, before field power goes. -/
def State.dormantAsked (s : State) : State :=
  { s.put Reg.XNG_PWR_DORMANT 1 with xng := { (s.put Reg.XNG_PWR_DORMANT 1).xng with dormant := true } }.put Reg.XNG_PWR_STS
    Sts.ok.code

theorem State.dormantAsked_setsFields (s : State) :
    s.setsFields s.dormantAsked [(Reg.XNG_PWR_DORMANT, 1), (Reg.XNG_PWR_STS, 0)] :=
  ((s.setsFields_refl.next Reg.XNG_PWR_DORMANT 1 rfl).of_regs rfl).next Reg.XNG_PWR_STS 0 rfl

theorem State.fieldOff_shut (s : State) (w : Option Wanted) : (s.fieldOff w).pw.shut = s.pw.shut := rfl

theorem State.fieldOff_dormant (s : State) (w : Option Wanted) : (s.fieldOff w).xng.dormant = s.xng.dormant := rfl

theorem State.dormantAsked_dormant (s : State) : s.dormantAsked.xng.dormant = true := by simp [State.dormantAsked]

theorem State.dormantAsked_writes (s : State) : s.writes s.dormantAsked [.regs, .xng] :=
  State.writes_of State.put_writes (by decide) <| State.writes_of (State.with_xng_writes _ _) (by decide) <|
    State.writes_mono State.put_writes (by decide)

theorem State.dormantAsked_pw (s : State) : s.dormantAsked.pw = s.pw := s.dormantAsked_writes .pw (by decide)

theorem execDormantRequest_of_carried {v : Word} (hv : v.getLsbD 0 = true) (hon : s.pw.fieldOn = true)
    (hup : s.xng.up = true) (hw : s.pw.writing = []) :
    execDormantRequest v s = .next (s.dormantAsked.fieldOff none) := by
  have hrequest : (s.put Reg.XNG_PWR_DORMANT 1).goDormant = s.dormantAsked.fieldOff none := by
    rw [State.goDormant, ← State.dormantAsked, State.request_of_idle (by rw [State.dormantAsked_pw, hw]), State.actOn]
  simp only [execDormantRequest, State.xngPwrWrite, hv, bit, reduceIte, State.put_pw, State.put_xng, hon, hup, Bool.and_self]
  rw [hrequest]

/-- Field power off leaves a register that no field-side reset touches. -/
theorem State.fieldOff_get (s : State) (w : Option Wanted) {f : Fld} (hk : keptReg f.addr = true)
    (hf : f.addr ≠ Reg.XNG_HSTATUS_FIELD_PWR.addr) (he : f.apart Reg.NVS_UKEY_CTRL_ENROLLED) :
    (s.fieldOff w).get f = s.get f :=
  ((s.fieldOff_setsFields w).get_apart fun g hg => .inl (by
    simp only [List.map_cons, List.map_nil, List.mem_cons, List.not_mem_nil, or_false] at hg
    rcases hg with rfl | rfl <;> exact hf)).trans ((s.fieldClear_get he).trans (if_pos hk))

end

/-- Settles O12: the thresholds of the input one by one, and fieldOff for the two ways in which field power goes. -/
theorem fieldPowerFollowsTheSupply : Obligations.FieldPowerFollowsTheSupply := by
  unfold Obligations.FieldPowerFollowsTheSupply
  refine ⟨fun s vin => ⟨fun hvin hb => ⟨_, execSagBelow42V_of_open hvin hb, ?sag⟩,
      fun hvin hb => ⟨_, execSagBelow42V_of_blocked hb, s.vin_setsOnly vin⟩,
      fun hvin hb => ⟨_, execSupplyRecover42V5_of_blocked hvin hb, s.unblocked_writes vin, rfl, s.unblocked_setsFields vin⟩,
      fun hvin => ⟨_, execSupplyRecover40V_of_above hvin, (s.vin_setsOnly vin).next Reg.NVS_SUPPLY_ASH_SAG 0 rfl⟩⟩,
    fun s hw hn => ⟨fun vin hvin hon => ⟨_, execSagBelow36V_of_on hvin hon hw hn, ?shut⟩,
      fun v hv hon hup => ⟨_, execDormantRequest_of_carried hv hon hup hw, ?dormant⟩, fun v hv => ⟨_, rfl, ?power⟩⟩⟩
  case sag => exact ⟨s.sagged_writes vin, s.sagged_setsFields vin, rfl, s.sagged_xng vin⟩
  case shut =>
    obtain ⟨hparts, hup, hpwr, hfstate, hwrites⟩ := s.shutDown_frame vin
    obtain ⟨hoff, hshut, hwanted⟩ := s.shutDown_pw vin
    exact ⟨hparts, hoff, hshut, hwanted, hup, hpwr, hfstate, hwrites⟩
  case dormant =>
    obtain ⟨hparts, hup, hpwr, hfstate, hwrites⟩ := State.fieldOff_frame (w := none) (t := s.dormantAsked.fieldOff none) (W := [])
      s.dormantAsked_writes State.writes_refl (by decide) (by simp)
    obtain ⟨_, hoff, _, _⟩ := s.dormantAsked.fieldOff_parts none
    have h := s.dormantAsked_setsFields
    exact ⟨hparts, hoff, (State.fieldOff_shut _ _).trans (congrArg Power.shut s.dormantAsked_pw), hup,
      (State.fieldOff_dormant _ _).trans s.dormantAsked_dormant,
      (State.fieldOff_get _ _ (by decide) (by decide) (by decide)).trans (h.get (by simp)),
      (State.fieldOff_get _ _ (by decide) (by decide) (by decide)).trans (h.get (by simp)), hpwr, hfstate, hwrites⟩
  case power =>
    simp only [State.xngPwrWrite, hv, Bool.false_and, Bool.false_eq_true, reduceIte]
    exact s.setsOnly_refl.next Reg.XNG_PWR_DORMANT 0 rfl

end Sys2Proof.Machine
end

/-! # Gating and profile changes (R16, R22 to R24) -/

section
namespace Sys2Proof.Machine

/-! ## The hold of the capture channels -/

section
variable (s : State) {b : Nat} (hb : b < 8)
include hb

theorem State.setRec_writes (r : Option Recd) : s.writes (s.setRec b r) [.cap] := by
  rw [State.setRec, if_pos hb]
  exact State.setCapture_moves.1

/-- The end of a capture channel's recording leaves the pin groups alone. -/
theorem State.recEnd_writes (e : Sts) : s.writes (s.recEnd b e) [.regs, .stores, .mem, .cap, .mc] := by
  unfold State.recEnd
  split
  · exact State.writes_refl
  · split
    · exact State.writes_refl
    · extract_lets words len s1 count s2 s3 s4 x s5
      have h1 : s.writes s1 [.regs, .stores, .mem, .cap, .mc] := by
        unfold s1
        split
        · exact State.writes_refl
        · exact State.writes_mono State.storeWord_moves.1 (by decide)
      have h3 : s.writes s3 [.regs, .stores, .mem, .cap, .mc] :=
        State.writes_of State.put64_moves.1 (by decide) (State.writes_of State.put64_moves.1 (by decide) h1)
      have h4 : s.writes s4 [.regs, .stores, .mem, .cap, .mc] := by
        unfold s4
        split
        · exact h3
        · exact State.writes_of State.put_writes (by decide) (State.writes_of State.put64_moves.1 (by decide) h3)
      have h5 : s.writes s5 [.regs, .stores, .mem, .cap, .mc] := State.writes_of State.setStore_moves.1 (by decide) h4
      exact State.writes_of State.recStatus_moves.1 (by decide) (State.writes_of (s5.setRec_writes hb _) (by decide) h5)

theorem State.recHold_writes : s.writes (s.recHold b) [.regs, .stores, .mem, .cap, .mc] := by
  unfold State.recHold
  split
  · split
    · exact State.writes_of State.recStatus_moves.1 (by decide) (State.writes_mono (s.setRec_writes hb _) (by decide))
    · exact s.recEnd_writes hb _
  · exact State.writes_refl

end

theorem writes_forUpto {s t : State} {W : List Piece} {f : State → Nat → State} {n : Nat} (h : s.writes t W)
    (hf : ∀ (u : State) k, k < n → u.writes (f u k) W) : s.writes (forUpto f n t) W := by
  induction n with
  | zero => exact h
  | succ n ih => exact State.writes_of (hf _ n n.lt_succ_self) (fun _ q => q) (ih fun u k hk => hf u k (Nat.lt_succ_of_lt hk))

theorem State.holdCaps_writes (s : State) : s.writes s.holdCaps [.regs, .stores, .mem, .cap, .mc] :=
  writes_forUpto State.writes_refl fun u _ hk => u.recHold_writes hk

theorem recordAddrs_not_below {b : Nat} (hb : b < 8) : ∀ a ∈ recordAddrs b, ¬ a < 0x080000 := by
  have h : ∀ b < 8, ∀ a ∈ recordAddrs b, ¬ a < 0x080000 := by decide
  exact h b hb

theorem State.holdCaps_keepsWords (s : State) : s.keepsWords s.holdCaps (· < 0x080000) :=
  (s.keepsWords_refl _).forUpto fun _ _ hk => State.recHold_keepsWords _ (recordAddrs_not_below hk)

/-! ## Gating -/

/-- The phases held and the capture channels' hold begun. -/
def State.gate (s : State) : State := (forUpto (fun s w => s.holdPhase w) 8 (s.put Reg.CLK_STATUS_GATED 1)).holdCaps

/-- The phases and the capture channels running again. -/
def State.ungate (s : State) : State := (forUpto (fun s w => s.freePhase w) 8 (s.put Reg.CLK_STATUS_GATED 0)).freeCaps

theorem State.regate_of_mustGate {s : State} (h : s.mustGate = true) :
    s.regate = if s.get Reg.CLK_STATUS_GATED = 1 then s else s.gate := by
  rw [State.regate, if_pos h]
  rfl

theorem State.regate_of_not_mustGate {s : State} (h : s.mustGate = false) :
    s.regate = if s.get Reg.CLK_STATUS_GATED = 0 then s else s.ungate := by
  rw [State.regate, if_neg (by simp [h])]
  rfl

theorem State.holdPhases_writes (s : State) (n : Nat) : s.writes (forUpto (fun s w => s.holdPhase w) n s) [.wav] :=
  writes_forUpto State.writes_refl fun _ _ _ => State.setWave_moves.1

/-- Holding the phases opens and closes no switch. -/
theorem State.holdPhases_closed (s : State) (n w : Nat) :
    ((forUpto (fun s w => s.holdPhase w) n s).wave w).closed = (s.wave w).closed := by
  induction n with
  | zero => rfl
  | succ n ih =>
    rw [forUpto, State.holdPhase]
    by_cases hw : w = n
    · subst hw
      rw [State.wave_setWave, ← ih]
    · rw [State.wave_setWave_other _ _ hw, ih]

theorem State.gate_get (s : State) {f : Fld} (h : f.addr < 0x080000) :
    s.gate.get f = (s.put Reg.CLK_STATUS_GATED 1).get f :=
  ((State.holdCaps_keepsWords _).get h).trans (State.get_of_writes (State.holdPhases_writes _ 8) (by decide) f)

theorem State.ungate_get (s : State) (f : Fld) : s.ungate.get f = (s.put Reg.CLK_STATUS_GATED 0).get f :=
  (State.get_of_writes State.freeCaps_moves.1 (by decide) f).trans
    (State.get_of_writes (writes_forUpto State.writes_refl fun _ _ _ => State.freePhase_moves.1) (by decide) f)

theorem State.gate_gated (s : State) : s.gate.get Reg.CLK_STATUS_GATED = 1 :=
  (s.gate_get (by decide)).trans (State.get_put _ _ _ (by decide))

theorem State.gate_closed (s : State) (w : Nat) : (s.gate.wave w).closed = (s.wave w).closed := by
  have h := State.wave_of_writes (State.holdCaps_writes (forUpto (fun s w => s.holdPhase w) 8 (s.put Reg.CLK_STATUS_GATED 1)))
    (by decide) w
  exact (congrArg WavSt.closed h).trans (State.holdPhases_closed _ 8 w)

theorem State.gate_group (s : State) (g : Nat) : s.gate.group g = s.group g :=
  (State.group_of_writes (State.holdCaps_writes _) (by decide) g).trans
    (State.group_of_writes (State.holdPhases_writes (s.put Reg.CLK_STATUS_GATED 1) 8) (by decide) g)

section
variable (s : State)

/-- Below the tiles' windows, GATED alone follows the gating. -/
theorem State.regate_get {f : Fld} (h : f.addr < 0x080000) (hf : f.apart Reg.CLK_STATUS_GATED) :
    s.regate.get f = s.get f := by
  cases hg : s.mustGate
  · rw [State.regate_of_not_mustGate hg]
    split
    · rfl
    · rw [s.ungate_get, State.get_put_of_apart _ _ (by decide) hf]
  · rw [State.regate_of_mustGate hg]
    split
    · rfl
    · rw [s.gate_get h, State.get_put_of_apart _ _ (by decide) hf]

variable {s} (h : s.mustGate = true)
include h

theorem State.regate_gated : s.regate.get Reg.CLK_STATUS_GATED = 1 := by
  rw [State.regate_of_mustGate h]
  split
  · assumption
  · exact s.gate_gated

theorem State.regate_closed (w : Nat) : (s.regate.wave w).closed = (s.wave w).closed := by
  rw [State.regate_of_mustGate h]
  split
  · rfl
  · exact s.gate_closed w

theorem State.regate_group (g : Nat) : s.regate.group g = s.group g := by
  rw [State.regate_of_mustGate h]
  split
  · rfl
  · exact s.gate_group g

end

/-! ## A change begun -/

/-- Every output safe for a profile change: its latching condition, and the outputs themselves (R22). -/
def State.poweredSafe (t : State) : Prop :=
  (∀ k, k < 16 → (t.latches k).power = true) ∧ (∀ w, w < 8 → (t.wave w).closed = false) ∧
    (∀ g, g < 8 → (t.group g).enabled = false)

/-- The state in which a change to profile p is gated. -/
def State.changing (s : State) (p : Nat) : State :=
  { s.powerSafe with pw := { s.powerSafe.pw with
      change := some p
      prev := if s.get Reg.GLB_STATE_PROFILE = 3 then s.pw.prev else s.get Reg.GLB_STATE_PROFILE } }.put
    Reg.GLB_STATE_BUSY 1

theorem State.changeTo_eq (s : State) (p : Nat) : s.changeTo p = (s.changing p).regate := rfl

theorem State.changing_pw (s : State) (p : Nat) : (s.changing p).pw = { s.pw with
    change := some p
    prev := if s.get Reg.GLB_STATE_PROFILE = 3 then s.pw.prev else s.get Reg.GLB_STATE_PROFILE } := by
  rw [State.changing, State.put_pw, show s.powerSafe.pw = s.pw from State.powerSafe_moves.1 .pw (by decide)]

theorem State.changing_mustGate (s : State) (p : Nat) : (s.changing p).mustGate = true := by
  simp [State.mustGate, s.changing_pw]

theorem State.changing_setsFields (s : State) (p : Nat) : s.setsFields (s.changing p) [(Reg.GLB_STATE_BUSY, 1)] :=
  (State.setsFields_nil_of_regs (State.powerSafe_moves.1 .regs (by decide)) |>.of_regs rfl).next Reg.GLB_STATE_BUSY 1 rfl

theorem State.changing_poweredSafe (s : State) (p : Nat) : (s.changing p).poweredSafe := by
  obtain ⟨hl, hw, hg, _⟩ := s.latchAll_madeSafe (fun l => { l with power := true }) (by simp [Latches.holdsOut])
  refine ⟨fun k hk => ?_, fun w h => ?_, fun g h => ?_⟩
  · exact congrArg Latches.power (hl k hk)
  · exact congrArg WavSt.closed (hw w h)
  · exact congrArg GrpSt.enabled (hg g h)

/-- A change of profile begun: the change and the profile it comes from noted, BUSY and GATED set, the outputs safe. -/
theorem State.changeTo_begins (s : State) (p : Nat) :
    (s.changeTo p).pw = { s.pw with
      change := some p
      prev := if s.get Reg.GLB_STATE_PROFILE = 3 then s.pw.prev else s.get Reg.GLB_STATE_PROFILE } ∧
    (s.changeTo p).get Reg.GLB_STATE_BUSY = 1 ∧ (s.changeTo p).get Reg.CLK_STATUS_GATED = 1 ∧
    (s.changeTo p).poweredSafe ∧
    (∀ f : Fld, f.addr < 0x080000 → f.apart Reg.CLK_STATUS_GATED → f.apart Reg.GLB_STATE_BUSY →
      (s.changeTo p).get f = s.get f) := by
  have hgate := s.changing_mustGate p
  have hset := s.changing_setsFields p
  obtain ⟨hl, hw, hg⟩ := s.changing_poweredSafe p
  rw [s.changeTo_eq p]
  refine ⟨((State.regate_moves (s := s.changing p)).1 .pw (by decide)).trans (s.changing_pw p), ?_, State.regate_gated hgate,
    ⟨fun k hk => ?_, fun w h => ?_, fun g h => ?_⟩, fun f ha hf hb => ?_⟩
  · exact (State.regate_get _ (by decide) (by decide)).trans (hset.get (by simp))
  · rw [State.latches_of_writes State.regate_moves.1 (by decide), hl k hk]
  · rw [State.regate_closed hgate, hw w h]
  · rw [State.regate_group hgate, hg g h]
  · exact (State.regate_get _ ha hf).trans (hset.get_apart (by simpa using hb))

/-- s with GLB_PROFILE written, the unlock consumed. -/
def State.profiled (s : State) (p : Nat) : State := (s.put Reg.GLB_STATE_UNLOCKED 0).put Reg.GLB_PROFILE p

theorem State.profiled_setsFields (s : State) {p : Nat} (hp : p < 2 ^ 4) :
    s.setsFields (s.profiled p) [(Reg.GLB_STATE_UNLOCKED, 0), (Reg.GLB_PROFILE, p)] :=
  (s.setsFields_refl.next Reg.GLB_STATE_UNLOCKED 0 rfl).put Reg.GLB_PROFILE p (by decide) hp (by decide)

theorem State.profiled_writes (s : State) (p : Nat) : s.writes (s.profiled p) [.regs] :=
  State.writes_of State.put_writes (by decide) State.put_writes

theorem State.profiled_pw (s : State) (p : Nat) : (s.profiled p).pw = s.pw := s.profiled_writes p .pw (by decide)

theorem State.profiled_profile (s : State) {p : Nat} (hp : p < 2 ^ 4) :
    (s.profiled p).get Reg.GLB_STATE_PROFILE = s.get Reg.GLB_STATE_PROFILE :=
  (s.profiled_setsFields hp).get_other _ rfl

theorem State.activeCheck_change {s : State} {p : Nat} (h : s.activeCheck p = none) : s.pw.change = none := by
  by_contra hne
  have hsome : s.pw.change.isSome = true := Option.isSome_iff_ne_none.mpr hne
  rw [State.activeCheck, if_pos (.inl hsome)] at h
  exact absurd h (by simp)

section
variable {s : State} {v : Word} (hu : s.get Reg.GLB_STATE_UNLOCKED = 1) (hv : fieldOf v.toNat 0 4 < 3)
  (hc : (s.profiled (fieldOf v.toNat 0 4)).activeCheck (fieldOf v.toNat 0 4) = none)
include hu hv hc

/-- An accepted write of an active profile begins its change, out of Ash or from another active profile. -/
theorem State.profileWrite_of_accepted : s.profileWrite v =
    if (s.profiled (fieldOf v.toNat 0 4)).get Reg.GLB_STATE_PROFILE = 3 then
      ((s.profiled (fieldOf v.toNat 0 4)).leaveAsh (fieldOf v.toNat 0 4)).psts .ok
    else if fieldOf v.toNat 0 4 = (s.profiled (fieldOf v.toNat 0 4)).get Reg.GLB_STATE_PROFILE then
      (s.profiled (fieldOf v.toNat 0 4)).psts .ok
    else ((s.profiled (fieldOf v.toNat 0 4)).changeTo (fieldOf v.toNat 0 4)).psts .ok := by
  have hchange := State.activeCheck_change hc
  rw [State.profileWrite, State.guarded_of_unlocked hu]
  dsimp only
  rw [if_neg (by omega), ← State.profiled, if_neg (by simp [hchange]), if_neg (by omega), hc]

theorem State.profileWrite_from_active (hp : s.get Reg.GLB_STATE_PROFILE ≠ 3)
    (hne : s.get Reg.GLB_STATE_PROFILE ≠ fieldOf v.toNat 0 4) : s.profileWrite v =
      ((s.profiled (fieldOf v.toNat 0 4)).changeTo (fieldOf v.toNat 0 4)).psts .ok := by
  have hprof := s.profiled_profile (p := fieldOf v.toNat 0 4) (by omega)
  rw [State.profileWrite_of_accepted hu hv hc, hprof, if_neg hp, if_neg (Ne.symm hne)]

theorem State.profileWrite_from_ash (hp : s.get Reg.GLB_STATE_PROFILE = 3)
    (hdue : s.get Reg.MEM_STATUS_RETRAIN_DUE = 0) : s.profileWrite v =
      (((s.profiled (fieldOf v.toNat 0 4)).changeTo (fieldOf v.toNat 0 4)).selfExit).psts .ok := by
  have hset := s.profiled_setsFields (p := fieldOf v.toNat 0 4) (by omega)
  obtain ⟨_, _, _, _, hget⟩ := (s.profiled (fieldOf v.toNat 0 4)).changeTo_begins (fieldOf v.toNat 0 4)
  have hdue' : ((s.profiled (fieldOf v.toNat 0 4)).changeTo (fieldOf v.toNat 0 4)).selfExit.get Reg.MEM_STATUS_RETRAIN_DUE =
      0 := by
    have hexit : ∀ u : State, u.selfExit.get Reg.MEM_STATUS_RETRAIN_DUE = u.get Reg.MEM_STATUS_RETRAIN_DUE := fun u =>
      State.get_put_other u _ (by decide)
    rw [hexit, hget _ (by decide) (by decide) (by decide), hset.get_other Reg.MEM_STATUS_RETRAIN_DUE rfl, hdue]
  rw [State.profileWrite_of_accepted hu hv hc, s.profiled_profile (by omega), if_pos hp]
  simp only [State.leaveAsh, hdue', Nat.zero_ne_one, reduceIte]

end

/-- What an accepted write of an active profile p leaves, the change begun and reported. -/
theorem State.changeTo_reported (s : State) {p : Nat} (hp : p < 2 ^ 4) {t : State} {V : List Piece}
    (k : ((s.profiled p).changeTo p).writes t V)
    (hV : ∀ p ∈ V, p = .regs ∨ p = .mc)
    (hkeep : ((s.profiled p).changeTo p).keepsFields t [Reg.MEM_SR_ACTIVE, Reg.GLB_STATE_PSTS])
    (hpsts : t.get Reg.GLB_STATE_PSTS = 0) :
    t.pw = { s.pw with
      change := some p
      prev := if s.get Reg.GLB_STATE_PROFILE = 3 then s.pw.prev else s.get Reg.GLB_STATE_PROFILE } ∧
    t.get Reg.GLB_STATE_BUSY = 1 ∧ t.get Reg.GLB_STATE_PSTS = 0 ∧ t.get Reg.GLB_PROFILE = p ∧
    t.get Reg.GLB_STATE_PROFILE = s.get Reg.GLB_STATE_PROFILE ∧ t.get Reg.GLB_STATE_UNLOCKED = 0 ∧
    t.get Reg.CLK_STATUS_GATED = 1 ∧ t.poweredSafe ∧
    s.writes t [.regs, .stores, .mem, .wav, .grp, .cap, .latch, .mc, .pw, .clk] := by
  have hprof := s.profiled_setsFields hp
  obtain ⟨hpw, hbusy, hgated, ⟨hl, hw, hg⟩, hget⟩ := (s.profiled p).changeTo_begins p
  have hnot : ∀ q, q ≠ Piece.regs → q ≠ Piece.mc → q ∉ V := fun q h1 h2 hm => (hV q hm).elim h1 h2
  refine ⟨?_, (hkeep _ (by decide)).trans hbusy, hpsts, ?_, ?_, ?_, (hkeep _ (by decide)).trans hgated,
    ⟨fun k' hk => ?_, fun w h => ?_, fun g h => ?_⟩, ?_⟩
  · rw [show t.pw = _ from k .pw (hnot _ (by decide) (by decide)), hpw, s.profiled_profile hp, s.profiled_pw]
  · exact (hkeep _ (by decide)).trans ((hget _ (by decide) (by decide) (by decide)).trans (hprof.get (by simp)))
  · exact (hkeep _ (by decide)).trans ((hget _ (by decide) (by decide) (by decide)).trans (s.profiled_profile hp))
  · exact (hkeep _ (by decide)).trans ((hget _ (by decide) (by decide) (by decide)).trans (hprof.get (by simp)))
  · rw [State.latches_of_writes k (hnot _ (by decide) (by decide)), hl k' hk]
  · rw [State.wave_of_writes k (hnot _ (by decide) (by decide)), hw w h]
  · rw [State.group_of_writes k (hnot _ (by decide) (by decide)), hg g h]
  · exact State.writes_of k (fun q hq => by rcases hV q hq with rfl | rfl <;> decide)
      (State.writes_of State.changeTo_moves.1 (fun _ h => h) (State.writes_mono (s.profiled_writes p) (by decide)))


theorem State.psts_keepsFields (s : State) (e : Sts) : s.keepsFields (s.psts e) [Reg.MEM_SR_ACTIVE, Reg.GLB_STATE_PSTS] :=
  (s.keepsFields_refl _).put _ _ (by decide) (by decide)

theorem State.psts_ok (s : State) : (s.psts .ok).get Reg.GLB_STATE_PSTS = 0 := State.get_put _ _ _ (by decide)

theorem State.selfExit_keepsFields (s : State) : s.keepsFields s.selfExit [Reg.MEM_SR_ACTIVE, Reg.GLB_STATE_PSTS] :=
  fun f hf => (State.get_of_writes (State.with_mc_writes (s.put Reg.MEM_SR_ACTIVE 0) _) (by decide) f).trans
    (State.get_put_of_apart _ _ (by decide) (hf _ (by decide)))

theorem State.selfExit_sr (s : State) : s.selfExit.get Reg.MEM_SR_ACTIVE = 0 :=
  (State.get_of_writes (State.with_mc_writes (s.put Reg.MEM_SR_ACTIVE 0) _) (by decide) _).trans
    (State.get_put _ _ _ (by decide))

/-! ## A change complete -/

/-- The state in which the end of a change to profile p is gated or ungated. -/
def State.arrived (s : State) (p : Nat) : State :=
  ({ s with pw := { s.pw with change := none } }.put Reg.GLB_STATE_PROFILE p).put Reg.GLB_STATE_BUSY 0

theorem State.profileNow_eq (s : State) (p : Nat) : s.profileNow p = (s.arrived p).regate := rfl

theorem State.arrived_setsFields (s : State) {p : Nat} (hp : p < 2 ^ 4) :
    s.setsFields (s.arrived p) [(Reg.GLB_STATE_PROFILE, p), (Reg.GLB_STATE_BUSY, 0)] :=
  ((State.setsFields_nil_of_regs (s := s) (t := { s with pw := { s.pw with change := none } }) rfl).put
    Reg.GLB_STATE_PROFILE p (by decide) hp (by simp)).next Reg.GLB_STATE_BUSY 0 rfl

theorem State.arrived_writes (s : State) (p : Nat) : s.writes (s.arrived p) [.regs, .pw] :=
  State.writes_of State.put_writes (by decide) <| State.writes_of State.put_writes (by decide) <|
    State.writes_mono (State.with_pw_writes _ _) (by decide)

theorem State.arrived_pw (s : State) (p : Nat) : (s.arrived p).pw = { s.pw with change := none } := by
  rw [State.arrived, State.put_pw, State.put_pw]

theorem State.profileNow_ends (s : State) {p : Nat} (hp : p < 2 ^ 4) :
    (s.profileNow p).pw = { s.pw with change := none } ∧ (s.profileNow p).get Reg.GLB_STATE_PROFILE = p ∧
      (s.profileNow p).get Reg.GLB_STATE_BUSY = 0 ∧ (∀ k, (s.profileNow p).latches k = s.latches k) ∧
      (∀ k, (s.profileNow p).tile k = s.tile k) := by
  have hset := s.arrived_setsFields hp
  have hregate := (State.regate_moves (s := s.arrived p)).1
  rw [s.profileNow_eq p]
  refine ⟨(hregate .pw (by decide)).trans (s.arrived_pw p), (State.regate_get _ (by decide) (by decide)).trans (hset.get (by simp)),
    (State.regate_get _ (by decide) (by decide)).trans (hset.get (by simp)), fun k => ?_, fun k => ?_⟩
  · rw [State.latches_of_writes hregate (by decide), State.latches_of_writes (s.arrived_writes p) (by decide)]
  · rw [State.tile_of_writes hregate (by decide), State.tile_of_writes (s.arrived_writes p) (by decide)]

/-! ## Outputs let out of their safe state -/

section
variable (s : State) (f : Latches → Latches)

/-- What holds an output in its safe state is decided by its latches, FIELD_RST_N and FORCE_SAFE. -/
theorem State.heldSafe_congr {s t : State} {k : Nat} (hl : t.latches k = s.latches k) (hpw : t.pw = s.pw)
    (hregs : t.regs = s.regs) : t.heldSafe k = s.heldSafe k := by
  rw [State.heldSafe, hl, hpw, State.get_congr hregs (forceSafeFld k), State.heldSafe]

theorem State.latchOff_latches (t k : Nat) : (s.latchOff t f).latches k = if k = t then f (s.latches k) else s.latches k := by
  rw [State.latchOff, State.latches_of_writes State.closeOutput_moves.1 (by decide)]
  by_cases hk : k = t
  · subst hk
    rw [State.latches_setLatches, if_pos rfl]
  · rw [State.latches_setLatches_other _ _ hk, if_neg hk]

/-- An output let out: a channel's switch closed, or a group's drivers enabled. -/
def State.outputOn (s : State) (t : Nat) : Prop :=
  if t < 8 then (s.wave t).closed = true else (s.group (t - 8)).enabled = true

theorem State.closeOutput_outputOn {t : Nat} (hr : (s.tile t).running.isSome = true) (hh : s.heldSafe t = false) :
    (s.closeOutput t).outputOn t := by
  have hnone : (s.tile t).running.isNone = false := by rw [Option.isNone_eq_false_iff]; exact hr
  rw [State.closeOutput, hh, hnone, State.outputOn]
  by_cases ht : t < 8 <;> simp [ht]

theorem State.closeOutput_outputOn_other {t k : Nat} (hk : k ≠ t) : (s.closeOutput t).outputOn k ↔ s.outputOn k := by
  unfold State.closeOutput
  split
  · exact Iff.rfl
  · by_cases ht : t < 8
    · rw [if_pos ht, State.outputOn, State.wave_setWave_other _ _ hk]
      rfl
    · by_cases hk8 : k < 8
      · simp only [if_neg ht, State.outputOn, if_pos hk8]
        rfl
      · rw [if_neg ht, State.outputOn, State.group_setGroup_other _ _ (by omega)]
        rfl

/-- The outputs of the first n tiles with a latching condition ended. -/
def State.unlatched (n : Nat) : State := forUpto (fun s t => s.latchOff t f) n s

theorem State.unlatched_writes (n : Nat) : s.writes (s.unlatched f n) [.wav, .grp, .latch] :=
  writes_forUpto State.writes_refl fun _ _ _ => State.latchOff_moves.1

theorem State.unlatched_latches (n k : Nat) :
    (s.unlatched f n).latches k = if k < n then f (s.latches k) else s.latches k := by
  induction n with
  | zero => simp [State.unlatched, forUpto]
  | succ n ih =>
    rw [State.unlatched, forUpto, State.latchOff_latches, ← State.unlatched, ih]
    grind

/-- The output of a tile that runs a context, and that nothing holds any more, is let out. -/
theorem State.unlatched_outputOn {n k : Nat} (hk : k < n) (hr : (s.tile k).running.isSome = true)
    (hh : (s.unlatched f n).heldSafe k = false) : (s.unlatched f n).outputOn k := by
  induction n with
  | zero => omega
  | succ n ih =>
    have hstep : s.unlatched f (n + 1) = ((s.unlatched f n).setLatches n (f ((s.unlatched f n).latches n))).closeOutput n :=
      rfl
    have hw := s.unlatched_writes f n
    rw [hstep] at hh ⊢
    rw [State.heldSafe_congr (State.latches_of_writes State.closeOutput_moves.1 (by decide) k)
      (State.closeOutput_moves.1 .pw (by decide)) (State.closeOutput_moves.1 .regs (by decide))] at hh
    by_cases hkn : k = n
    · subst hkn
      refine State.closeOutput_outputOn _ ?_ hh
      rw [State.tile_of_writes State.setLatches_moves.1 (by decide), State.tile_of_writes hw (by decide)]
      exact hr
    · rw [State.closeOutput_outputOn_other _ hkn]
      refine ih (by omega) ?_
      rw [← hh]
      exact (State.heldSafe_congr (State.latches_setLatches_other _ _ hkn) rfl rfl).symm

theorem State.unlatchAll_eq : s.unlatchAll f = (s.unlatched f 16).latchOut f := rfl

theorem State.latchOut_writes : s.writes (s.latchOut f) [.clk] :=
  State.writes_of State.judgeOut_moves.1 (by decide) (State.with_clk_writes _ _)

theorem State.outputOn_of_writes {s t : State} {W : List Piece} (h : s.writes t W) (hw : Piece.wav ∉ W)
    (hg : Piece.grp ∉ W) (k : Nat) : t.outputOn k ↔ s.outputOn k := by
  simp only [State.outputOn, State.wave_of_writes h hw, State.group_of_writes h hg]

/-- The end of a latching condition on every output. -/
theorem State.unlatchAll_lets : (∀ k, k < 16 → (s.unlatchAll f).latches k = f (s.latches k)) ∧
    ∀ k, k < 16 → (s.tile k).running.isSome = true → (s.unlatchAll f).heldSafe k = false →
      (s.unlatchAll f).outputOn k := by
  have hout := (s.unlatched f 16).latchOut_writes f
  rw [s.unlatchAll_eq f]
  refine ⟨fun k hk => ?_, fun k hk hr hh => ?_⟩
  · rw [State.latches_of_writes hout (by decide), s.unlatched_latches f, if_pos hk]
  · rw [State.heldSafe_congr (State.latches_of_writes hout (by decide) k) (hout .pw (by decide)) (hout .regs (by decide))]
      at hh
    exact (State.outputOn_of_writes hout (by decide) (by decide) k).mpr (s.unlatched_outputOn f hk hr hh)

end

/-- The end of a change to an active profile. -/
theorem State.profileActive_ends (s : State) {p : Nat} (hp : p < 2 ^ 4) :
    s.writes (s.profileActive p) [.regs, .stores, .mem, .wav, .grp, .cap, .latch, .mc, .pw, .clk] ∧
    (s.profileActive p).pw = { s.pw with change := none } ∧ (s.profileActive p).get Reg.GLB_STATE_PROFILE = p ∧
    (s.profileActive p).get Reg.GLB_STATE_BUSY = 0 ∧
    (∀ k, k < 16 → (s.profileActive p).latches k = { s.latches k with power := false }) ∧
    (∀ k, k < 16 → (s.tile k).running.isSome = true → (s.profileActive p).heldSafe k = false →
      (s.profileActive p).outputOn k) := by
  obtain ⟨hpw, hprofile, hbusy, hlatches, htiles⟩ := s.profileNow_ends hp
  obtain ⟨hl, hon⟩ := (s.profileNow p).unlatchAll_lets (fun l => { l with power := false })
  have hw := (State.unlatchAll_moves (s := s.profileNow p) (x1 := fun l => { l with power := false })).1
  refine ⟨State.profileActive_moves.1, (hw .pw (by decide)).trans hpw,
    (State.get_of_writes hw (by decide) _).trans hprofile, (State.get_of_writes hw (by decide) _).trans hbusy,
    fun k hk => ?_, fun k hk hr => ?_⟩
  · rw [State.profileActive, hl k hk, hlatches]
  · exact hon k hk (by rw [htiles]; exact hr)

theorem execProfileChangeComplete_of {s : State} {p : Nat} (hc : s.pw.change = some p) (hp : p ≠ 3)
    (hprofile : s.get Reg.GLB_STATE_PROFILE ≠ 3) : execProfileChangeComplete s = .next (s.profileActive p) := by
  simp only [execProfileChangeComplete, hc, hp, hprofile, or_self, reduceIte]

theorem execAshExitComplete_of {s : State} {p : Nat} (hc : s.pw.change = some p) (hp : p ≠ 3)
    (hprofile : s.get Reg.GLB_STATE_PROFILE = 3) (hm : s.mc.retrain = none) :
    execAshExitComplete s = .next (s.profileActive p) := by
  simp [execAshExitComplete, hc, hp, hprofile, hm]

theorem execAshEntryComplete_of {s : State} (hc : s.pw.change = some 3) :
    execAshEntryComplete s = .next (s.profileNow 3).selfRefresh := by
  rw [execAshEntryComplete, if_pos hc]

theorem State.selfRefresh_regs (s : State) : s.selfRefresh.regs = (s.put Reg.MEM_SR_ACTIVE 0xF).regs := by
  rw [State.selfRefresh]

theorem State.selfRefresh_setsFields (s : State) : s.setsFields s.selfRefresh [(Reg.MEM_SR_ACTIVE, 0xF)] := by
  have h := s.setsFields_refl.next Reg.MEM_SR_ACTIVE 0xF rfl
  exact h.of_regs s.selfRefresh_regs

theorem State.selfRefresh_mc (s : State) :
    s.selfRefresh.mc.owed = [] ∧ s.selfRefresh.mc.rows = [] ∧ s.selfRefresh.mc.exitAt = none := ⟨rfl, rfl, rfl⟩

/-- In Ash the HBM is in self-refresh, with nothing owed and no row open, and the clocks are gated (R23). -/
theorem State.ashEntered (s : State) : (s.profileNow 3).selfRefresh.pw = { s.pw with change := none } ∧
    (s.profileNow 3).selfRefresh.get Reg.GLB_STATE_PROFILE = 3 ∧ (s.profileNow 3).selfRefresh.get Reg.GLB_STATE_BUSY = 0 ∧
    (s.profileNow 3).selfRefresh.get Reg.MEM_SR_ACTIVE = 0xF ∧
    (s.profileNow 3).selfRefresh.get Reg.CLK_STATUS_GATED = 1 := by
  obtain ⟨hpw, hprofile, hbusy, _, _⟩ := s.profileNow_ends (p := 3) (by decide)
  have hset := (s.profileNow 3).selfRefresh_setsFields
  have hgate : (s.arrived 3).mustGate = true := by
    simp [State.mustGate, (s.arrived_setsFields (p := 3) (by decide)).get (f := Reg.GLB_STATE_PROFILE) (v := 3)]
  have hgated : (s.profileNow 3).get Reg.CLK_STATUS_GATED = 1 := State.regate_gated hgate
  exact ⟨(State.selfRefresh_moves.1 .pw (by decide)).trans hpw, (hset.get_other _ rfl).trans hprofile,
    (hset.get_other _ rfl).trans hbusy, hset.get (by simp), (hset.get_other _ rfl).trans hgated⟩

/-- Settles O13: a change begun by changeTo, ended by profileActive, and Ash entered. -/
theorem profileChangesBeginAndComplete : Obligations.ProfileChangesBeginAndComplete := by
  unfold Obligations.ProfileChangesBeginAndComplete
  refine ⟨fun s v hu hv hc => ⟨fun hp hne => ⟨_, rfl, ?change⟩, fun hp hdue => ⟨_, rfl, ?exit⟩⟩,
    fun s p hchange hp4 => ⟨fun c hc hp => ⟨s.profileActive p, ?active, ?actives⟩, fun hp => ?entered⟩⟩
  case change =>
    rw [State.profileWrite_from_active hu hv hc hp hne]
    obtain ⟨hpw, hbusy, hpsts, hprof, hstate, hunl, hgated, ⟨hl, hw, hg⟩, hwrites⟩ :=
      s.changeTo_reported (p := fieldOf v.toNat 0 4) (by omega) (V := [.regs]) State.put_writes (by simp)
        (State.psts_keepsFields _ .ok) (State.psts_ok _)
    rw [if_neg hp] at hpw
    exact ⟨hpw, hbusy, hpsts, hprof, hstate, hunl, hgated, hl, hw, hg, hwrites⟩
  case exit =>
    rw [State.profileWrite_from_ash hu hv hc hp hdue]
    obtain ⟨hpw, hbusy, hpsts, hprof, hstate, hunl, hgated, ⟨hl, hw, hg⟩, hwrites⟩ :=
      s.changeTo_reported (p := fieldOf v.toNat 0 4) (by omega) (V := [.regs, .mc])
        (State.writes_of State.put_writes (by decide) State.selfExit_moves.1) (by simp)
        ((State.selfExit_keepsFields _).trans (State.psts_keepsFields _ .ok) (List.Subset.refl _) (List.Subset.refl _))
        (State.psts_ok _)
    rw [if_pos hp] at hpw
    exact ⟨hpw, hbusy, hpsts, hprof, hstate.trans hp, hunl, (State.get_put_other _ _ (by decide)).trans
      (State.selfExit_sr _), hgated, hl, hw, hg, hwrites⟩
  case active =>
    rcases hc with ⟨rfl, hprofile⟩ | ⟨rfl, hprofile, hm⟩
    · exact execProfileChangeComplete_of hchange hp hprofile
    · exact execAshExitComplete_of hchange hp hprofile hm
  case actives =>
    obtain ⟨hwrites, hpw, hprofile, hbusy, hl, hon⟩ := s.profileActive_ends (p := p) (by omega)
    refine ⟨hwrites, hpw, hprofile, hbusy, hl, fun w hw hr hh => ?_, fun g hg hr hh => ?_⟩
    · simpa [State.outputOn, hw] using hon w (by omega) hr hh
    · simpa [State.outputOn] using hon (8 + g) (by omega) hr hh
  case entered =>
    subst hp
    obtain ⟨hpw, hprofile, hbusy, hsr, hgated⟩ := s.ashEntered
    have hexec := execAshEntryComplete_of hchange
    have hwrites := (execAshEntryComplete_moves (s := s)).1
    rw [hexec, nextOr_next] at hwrites
    obtain ⟨howed, hrows, hexit⟩ := (s.profileNow 3).selfRefresh_mc
    exact ⟨_, hexec, hwrites, hpw, hprofile, hbusy, hsr, howed, hrows, hexit, hgated⟩

end Sys2Proof.Machine
end

/-! # What a tile's slots and its vector cycles leave alone (R105, R183, R196) -/

section
namespace Sys2Proof.Machine

/-! ## Landing slots -/

/-- A tile but for its landing slots. -/
def TileSt.slotless (x : TileSt) : TileSt := { x with slots := [], fillQ := [] }

/-- An arm record but for its landing slot. -/
def ArmRec.slotless (a : ArmRec) : ArmRec := { a with slot := none }

/-- Contexts that differ in the landing slots of their arm records alone. -/
def Ctx.slotsOnly (x y : Ctx) : Prop :=
  { y with arms := [] } = { x with arms := [] } ∧ ∀ k, (y.arm k).slotless = (x.arm k).slotless

/-- u is s but for the landing slots of tile t, and the arm records' share of them. -/
structure State.Relands (s u : State) (t : Nat) : Prop where
  ctx : ∀ c, (s.ctx c).slotsOnly (u.ctx c)
  other : ∀ k, k ≠ t → u.tile k = s.tile k
  tile : (u.tile t).slotless = (s.tile t).slotless

theorem TileSt.eq_of_slotless {x y : TileSt} (h : y.slotless = x.slotless) :
    y = { x with slots := y.slots, fillQ := y.fillQ } :=
  (congrArg (fun z : TileSt => { z with slots := y.slots, fillQ := y.fillQ }) h : _)

theorem Ctx.slotsOnly.refl (x : Ctx) : x.slotsOnly x := ⟨rfl, fun _ => rfl⟩

theorem Ctx.slotsOnly.trans {x y z : Ctx} (h : x.slotsOnly y) (k : y.slotsOnly z) : x.slotsOnly z :=
  ⟨k.1.trans h.1, fun j => (k.2 j).trans (h.2 j)⟩

theorem Ctx.slotsOnly.eq {x y : Ctx} (h : x.slotsOnly y) : y = { x with arms := y.arms } :=
  (congrArg (fun z : Ctx => { z with arms := y.arms }) h.1 : _)

/-- What a context's landing slots leave of the rest of it. -/
theorem Ctx.slotsOnly.with {x y : Ctx} (h : x.slotsOnly y) (f : Ctx → Ctx) (hf : ∀ z, (f z).arms = z.arms)
    (hr : ∀ z w : Ctx, { w with arms := [] } = { z with arms := [] } → { f w with arms := [] } = { f z with arms := [] }) :
    (f x).slotsOnly (f y) :=
  ⟨hr _ _ h.1, fun k => by rw [Ctx.arm, Ctx.arm, hf, hf]; exact h.2 k⟩

theorem Ctx.setArm_slotsOnly (x : Ctx) (k : Nat) (i : Option Nat) :
    x.slotsOnly (x.setArm k { x.arm k with slot := i }) := by
  refine ⟨rfl, fun j => ?_⟩
  by_cases hj : j = k
  · subst hj
    rw [Ctx.setArm, Ctx.arm, mget_mset_same]
    rfl
  · rw [Ctx.setArm, Ctx.arm, mget_mset_other _ _ _ hj]
    rfl

section
variable {s u v : State} {t : Nat}

theorem State.Relands.refl (s : State) (t : Nat) : s.Relands s t := ⟨fun _ => .refl _, fun _ _ => rfl, rfl⟩

theorem State.Relands.trans (h : s.Relands u t) (k : u.Relands v t) : s.Relands v t :=
  ⟨fun c => (h.ctx c).trans (k.ctx c), fun j hj => (k.other j hj).trans (h.other j hj), k.tile.trans h.tile⟩

theorem State.Relands.forEach {α : Type} {f : State → α → State} (hf : ∀ (u : State) a, u.Relands (f u a) t) (l : List α)
    (h : s.Relands u t) : s.Relands (forEach f l u) t := by
  induction l generalizing u with
  | nil => exact h
  | cons a l ih => exact ih (h.trans (hf u a))

/-- A tile given back with other slots. -/
theorem State.setTile_relands (s : State) (t : Nat) {x : TileSt} (h : x.slotless = (s.tile t).slotless) :
    s.Relands (s.setTile t x) t :=
  ⟨fun _ => .refl _, fun _ hk => State.tile_setTile_other _ _ hk, by rw [State.tile_setTile, h]⟩

theorem State.setSlot_relands (s : State) (t c k : Nat) (i : Option Nat) : s.Relands (s.setSlot c k i) t := by
  refine ⟨fun d => ?_, fun _ _ => rfl, rfl⟩
  by_cases hd : d = c
  · subst hd
    rw [State.setSlot, State.ctx_setCtx]
    exact Ctx.setArm_slotsOnly _ _ _
  · rw [State.setSlot, State.ctx_setCtx_other _ _ hd]
    exact .refl _

theorem State.takeSlot_relands {run : LRun} {i : Nat} (h : s.takeSlot t run = some (i, u)) : s.Relands u t := by
  unfold State.takeSlot at h
  dsimp only at h
  split at h
  · obtain ⟨-, rfl⟩ := Prod.mk.inj (Option.some.inj h)
    exact .refl s t
  · split at h
    · exact absurd h (by simp)
    · obtain ⟨-, rfl⟩ := Prod.mk.inj (Option.some.inj h)
      exact s.setTile_relands t rfl

theorem State.relandSwitch_relands (s : State) (t c k : Nat) : s.Relands (s.relandSwitch t c k) t := by
  unfold State.relandSwitch
  dsimp only
  split
  · exact s.setSlot_relands t c k _
  · split
    · split
      · exact .refl s t
      · split
        · exact s.setTile_relands t rfl
        · split
          · exact s.setSlot_relands t c k _
          · next h => exact (State.takeSlot_relands h).trans (State.setSlot_relands _ t c k _)
    · split
      · exact s.setSlot_relands t c k _
      · next h => exact (State.takeSlot_relands h).trans (State.setSlot_relands _ t c k _)

theorem State.relandArms_relands (s : State) (t : Nat) (p : ArmRec → Bool) : s.Relands (s.relandArms t p) t := by
  refine State.Relands.forEach (fun u q => ?_) _ (.refl s t)
  split
  · refine State.Relands.forEach (fun u a => ?_) _ (.refl u t)
    split
    · exact State.relandSwitch_relands _ _ _ _
    · exact .refl _ t
  · exact .refl u t

theorem State.gcSlots_relands (s : State) (t : Nat) : s.Relands (s.gcSlots t) t := by
  have h : s.Relands (s.releaseSlots t) t := s.setTile_relands t rfl
  unfold State.gcSlots
  dsimp only
  split
  · exact h.trans (State.relandArms_relands _ _ _)
  · exact h

theorem State.refillSwitch_relands (s : State) (t c : Nat) : s.Relands (s.refillSwitch t c) t :=
  (s.relandArms_relands t _).trans (State.gcSlots_relands _ t)

theorem State.land_relands {r : Except Sts (Option LRun)} {l : Landing} (h : s.land t r = (u, l)) : s.Relands u t := by
  unfold State.land at h
  split at h
  · obtain ⟨rfl, -⟩ := Prod.mk.inj h
    exact .refl s t
  · obtain ⟨rfl, -⟩ := Prod.mk.inj h
    exact .refl s t
  · split at h
    · obtain ⟨rfl, -⟩ := Prod.mk.inj h
      exact .refl s t
    · next hs =>
      obtain ⟨rfl, -⟩ := Prod.mk.inj h
      exact State.takeSlot_relands hs

end

/-! ## Vector cycles -/

/-- A tile but for its item. -/
def TileSt.itemless (x : TileSt) : TileSt := { x with item := .idle }

/-- The tiles of u are those of s but for the item of tile t. -/
structure State.Plays (s u : State) (t : Nat) : Prop where
  other : ∀ k, k ≠ t → u.tile k = s.tile k
  tile : (u.tile t).itemless = (s.tile t).itemless

theorem TileSt.eq_of_itemless {x y : TileSt} (h : y.itemless = x.itemless) : y = { x with item := y.item } :=
  (congrArg (fun z : TileSt => { z with item := y.item }) h : _)

section
variable {s u v : State} {t : Nat}

theorem State.Plays.refl (s : State) (t : Nat) : s.Plays s t := ⟨fun _ _ => rfl, rfl⟩

theorem State.Plays.trans (h : s.Plays u t) (k : u.Plays v t) : s.Plays v t :=
  ⟨fun j hj => (k.other j hj).trans (h.other j hj), k.tile.trans h.tile⟩

theorem State.Plays.of_writes {W : List Piece} (h : s.writes u W) (hW : Piece.tiles ∉ W) (t : Nat) : s.Plays u t :=
  ⟨fun k _ => State.tile_of_writes h hW k, by rw [State.tile_of_writes h hW]⟩

theorem State.setItem_plays (s : State) (t : Nat) (i : Item) : s.Plays (s.setTile t { s.tile t with item := i }) t :=
  ⟨fun _ hk => State.tile_setTile_other _ _ hk, by rw [State.tile_setTile]; rfl⟩

theorem State.patAdvance_plays (s : State) (g limit n : Nat) : s.Plays (s.patAdvance g limit n) (8 + g) := by
  induction n generalizing s with
  | zero => exact .refl s _
  | succ n ih =>
    unfold State.patAdvance
    split
    · exact .refl s _
    · split
      · split
        · next cc ps pos _ =>
          have h : s.Plays ((s.endVec g pos).bridgePins (8 + g)) (8 + g) :=
            .of_writes (State.writes_of State.bridgePins_moves.1 (by decide) State.endVec_moves.1) (by decide) _
          split
          · exact .refl s _
          · dsimp only
            split
            · exact (h.trans (State.setItem_plays _ _ _)).trans (ih _)
            · exact h
        · exact .refl s _
      · split
        · next h => exact .of_writes (State.playVec_moves h).1 (by decide) _
        · next h =>
          exact ((State.Plays.of_writes (State.playVec_moves h).1 (by decide) _).trans (State.setItem_plays _ _ _)).trans
            (ih _)

theorem State.catchUp_plays (s : State) (t limit : Nat) : s.Plays (s.catchUp t limit) t := by
  unfold State.catchUp
  split
  · exact .refl s t
  · next h =>
    have ht : 8 + (t - 8) = t := by omega
    have h := s.patAdvance_plays (t - 8) limit (limit / 512 + 2)
    rw [ht] at h
    exact h.trans (.of_writes State.evalVec_moves.1 (by decide) t)

theorem State.closeVec_plays (s : State) (t limit : Nat) : s.Plays (s.closeVec t limit) t := by
  unfold State.closeVec
  split
  · exact .refl s t
  · dsimp only
    split
    · exact s.catchUp_plays t limit
    · split
      · exact (s.catchUp_plays t limit).trans (.of_writes State.endVec_moves.1 (by decide) t)
      · exact s.catchUp_plays t limit

theorem State.stopVec_plays (s : State) (t limit : Nat) : s.Plays (s.stopVec t limit) t := by
  unfold State.stopVec
  split
  · exact .refl s t
  · exact (s.catchUp_plays t limit).trans
      (.of_writes (State.writes_of State.setGroup_moves.1 (by decide) State.endVec_moves.1) (by decide) t)

theorem State.cutVec_plays (s : State) (t limit : Nat) : s.Plays (s.cutVec t limit) t :=
  (s.stopVec_plays t limit).trans (.of_writes State.bridgePins_moves.1 (by decide) t)

/-- A waveform tile has no vector cycles. -/
theorem State.cutVec_of_wave (s : State) {t : Nat} (h : t < 8) (limit : Nat) : s.cutVec t limit = s := by
  simp [State.cutVec, State.stopVec, State.bridgePins, h]

theorem State.closeVec_of_wave (s : State) {t : Nat} (h : t < 8) (limit : Nat) : s.closeVec t limit = s := if_pos h

end

/-! ## The end of a run (R78, R82, R88) -/

/-- A tile on which the run of context c has ended at cycle n: it plays no context, and no MARK overrides its markers. -/
def TileSt.ended (x : TileSt) (c n : Nat) : TileSt :=
  { x with
    running := none, last := some c, leftAt := some n, item := .idle, gapAt := none, mark0 := 0, mark1 := 0, landing := none,
    divert := none, diverting := none, blockDone := false, sureAt := none, afterRun := none
    micro := { x.micro with upc := none, due := [], wait := none } }

/-- A tile that context c has left at cycle n: what was resolved is given up as well. -/
def TileSt.left (x : TileSt) (c n : Nat) : TileSt := { x.ended c n with spin := 0, ahead := none }

theorem TileSt.itemless_ended (x : TileSt) (c n : Nat) : x.itemless.ended c n = x.ended c n := rfl

theorem TileSt.left_of_itemless {x y : TileSt} (h : y.itemless = x.itemless) (c n : Nat) : y.left c n = x.left c n := by
  rw [TileSt.left, TileSt.left, ← y.itemless_ended, h, x.itemless_ended]

theorem State.endRun_tile (s : State) (t c : Nat) (st : CtxState) : (s.endRun t c st).tile t = (s.tile t).ended c s.now :=
  State.tile_setTile _ _ _

theorem State.endRun_other (s : State) (t c : Nat) (st : CtxState) {k : Nat} (h : k ≠ t) :
    (s.endRun t c st).tile k = s.tile k :=
  State.tile_setTile_other _ _ h

theorem State.endRun_ctx (s : State) (t c : Nat) (st : CtxState) : (s.endRun t c st).ctx c = { s.ctx c with st := st } :=
  State.ctx_setCtx _ _ _

theorem State.endRun_ctx_other (s : State) (t c : Nat) (st : CtxState) {d : Nat} (h : d ≠ c) :
    (s.endRun t c st).ctx d = s.ctx d :=
  State.ctx_setCtx_other _ _ h

section
variable (s : State) (t c : Nat) (st : CtxState)

/-- s with context c's run on tile t over, before its slots are released. -/
def State.unplayed : State :=
  (((s.underrunSeen t c).cutVec t (s.now * Config.fine)).endRun t c st).setTile t
    { (((s.underrunSeen t c).cutVec t (s.now * Config.fine)).endRun t c st).tile t with spin := 0, ahead := none }

theorem State.leave_eq : s.leave t c st = (s.unplayed t c st).gcSlots t := rfl

theorem State.seenCut_writes : s.writes ((s.underrunSeen t c).cutVec t (s.now * Config.fine))
    [.regs, .stores, .mem, .tiles, .evt, .grp, .cap, .mon, .mc] :=
  State.writes_of State.cutVec_moves.1 (by decide) (State.writes_mono State.underrunSeen_moves.1 (by decide))

theorem State.seenCut_plays : s.Plays ((s.underrunSeen t c).cutVec t (s.now * Config.fine)) t :=
  (State.Plays.of_writes State.underrunSeen_moves.1 (by decide) t).trans (State.cutVec_plays _ _ _)

theorem State.unplayed_tile : (s.unplayed t c st).tile t = (s.tile t).left c s.now := by
  have hnow : ((s.underrunSeen t c).cutVec t (s.now * Config.fine)).now = s.now := s.seenCut_writes t c .now (by decide)
  rw [← TileSt.left_of_itemless (s.seenCut_plays t c).tile, State.unplayed, State.tile_setTile, State.endRun_tile, hnow]
  rfl

theorem State.unplayed_other {k : Nat} (h : k ≠ t) : (s.unplayed t c st).tile k = s.tile k := by
  rw [State.unplayed, State.tile_setTile_other _ _ h, State.endRun_other _ t c st h]
  exact (s.seenCut_plays t c).other k h

theorem State.unplayed_ctx : (s.unplayed t c st).ctx c = { s.ctx c with st := st } := by
  rw [← State.ctx_of_writes (s.seenCut_writes t c) (by decide) c]
  exact State.endRun_ctx _ t c st

theorem State.unplayed_ctx_other {d : Nat} (h : d ≠ c) : (s.unplayed t c st).ctx d = s.ctx d := by
  rw [← State.ctx_of_writes (s.seenCut_writes t c) (by decide) d]
  exact State.endRun_ctx_other _ t c st h

theorem State.leave_tile : ((s.leave t c st).tile t).slotless = ((s.tile t).left c s.now).slotless := by
  rw [s.leave_eq, (State.gcSlots_relands _ t).tile, s.unplayed_tile]

theorem State.leave_other {k : Nat} (h : k ≠ t) : (s.leave t c st).tile k = s.tile k := by
  rw [s.leave_eq, (State.gcSlots_relands _ t).other k h, s.unplayed_other t c st h]

theorem State.leave_ctx : Ctx.slotsOnly { s.ctx c with st := st } ((s.leave t c st).ctx c) := by
  rw [s.leave_eq, ← s.unplayed_ctx t c st]
  exact (State.gcSlots_relands _ t).ctx c

theorem State.leave_ctx_other {d : Nat} (h : d ≠ c) : (s.ctx d).slotsOnly ((s.leave t c st).ctx d) := by
  rw [s.leave_eq, ← s.unplayed_ctx_other t c st h]
  exact (State.gcSlots_relands _ t).ctx d

end

/-! ## A context paused (R110, R111) -/

section
variable (s : State) (t c n : Nat) (rewind abandon : Bool)

/-- Where a context paused at cycle n resumes. -/
def State.pausePoint : Addr × Pos :=
  match (s.resumePoint t c n rewind).2 with
  | .steps _ => if abandon then ((s.ctx c).pc, Pos.fresh) else s.resumePoint t c n rewind
  | _ => s.resumePoint t c n rewind

/-- s with the point recorded at which context c resumes. -/
def State.pointed : State :=
  (s.interrupted t c n abandon).setCtx c { (s.interrupted t c n abandon).ctx c with
    pc := (s.pausePoint t c n rewind abandon).1, pos := (s.pausePoint t c n rewind abandon).2 }

theorem State.pauseAt_eq : s.pauseAt t c n rewind abandon =
    (((s.pointed t c n rewind abandon).cutVec t (n * Config.fine)).leave t c .paused).refillSwitch t c := rfl

theorem State.pointed_writes : s.writes (s.pointed t c n rewind abandon) [.regs, .ctxs] :=
  State.writes_of State.setCtx_moves.1 (by decide) (State.writes_mono State.interrupted_moves.1 (by decide))

theorem State.pointed_ctx : (s.pointed t c n rewind abandon).ctx c = { s.ctx c with
    pc := (s.pausePoint t c n rewind abandon).1, pos := (s.pausePoint t c n rewind abandon).2 } := by
  rw [State.pointed, State.ctx_setCtx, State.ctx_of_writes State.interrupted_moves.1 (by decide)]

theorem State.pointedCut_writes : s.writes ((s.pointed t c n rewind abandon).cutVec t (n * Config.fine))
    [.regs, .stores, .mem, .ctxs, .tiles, .evt, .grp, .cap, .mon, .mc] :=
  State.writes_of State.cutVec_moves.1 (by decide) (State.writes_mono (s.pointed_writes t c n rewind abandon) (by decide))

theorem State.pointedCut_plays : s.Plays ((s.pointed t c n rewind abandon).cutVec t (n * Config.fine)) t :=
  (State.Plays.of_writes (s.pointed_writes t c n rewind abandon) (by decide) t).trans (State.cutVec_plays _ _ _)

theorem State.pauseAt_tile : ((s.pauseAt t c n rewind abandon).tile t).slotless = ((s.tile t).left c s.now).slotless := by
  have hnow : ((s.pointed t c n rewind abandon).cutVec t (n * Config.fine)).now = s.now :=
    s.pointedCut_writes t c n rewind abandon .now (by decide)
  rw [s.pauseAt_eq, (State.refillSwitch_relands _ t c).tile, State.leave_tile, hnow,
    TileSt.left_of_itemless (s.pointedCut_plays t c n rewind abandon).tile]

theorem State.pauseAt_other {k : Nat} (h : k ≠ t) : (s.pauseAt t c n rewind abandon).tile k = s.tile k := by
  rw [s.pauseAt_eq, (State.refillSwitch_relands _ t c).other k h, State.leave_other _ t c _ h]
  exact (s.pointedCut_plays t c n rewind abandon).other k h

theorem State.pauseAt_ctx : Ctx.slotsOnly { s.ctx c with
      pc := (s.pausePoint t c n rewind abandon).1, pos := (s.pausePoint t c n rewind abandon).2, st := .paused }
    ((s.pauseAt t c n rewind abandon).ctx c) := by
  have h := State.leave_ctx ((s.pointed t c n rewind abandon).cutVec t (n * Config.fine)) t c .paused
  rw [State.ctx_of_writes State.cutVec_moves.1 (by decide), s.pointed_ctx] at h
  exact h.trans ((State.refillSwitch_relands _ t c).ctx c)

end

end Sys2Proof.Machine
end

/-! # Entry into Ash (R23 to R25, R353) -/

section
namespace Sys2Proof.Machine

/-- Tile t plays no context and none is about to start on it. -/
def TileSt.quiet (x : TileSt) : Prop := x.running = none ∧ x.start = none

theorem TileSt.quiet.congr {x y : TileSt} (h : x.quiet) (e : y.slotless = x.slotless) : y.quiet :=
  ⟨(congrArg TileSt.running e).trans h.1, (congrArg TileSt.start e).trans h.2⟩

section
variable (s : State) (t : Nat)

theorem State.dropStart_other (c : Nat) {k : Nat} (h : k ≠ t) : (s.dropStart t c).tile k = s.tile k := by
  unfold State.dropStart
  split
  · split
    · rw [(State.gcSlots_relands _ t).other k h, State.tile_setTile_other _ _ h]
    · rfl
  · rfl

/-- A start of context c that is pending on tile t is given up, with what was resolved for it. -/
theorem State.dropStart_tile {r : StartReq} (h : (s.tile t).start = some r) :
    ((s.dropStart t r.c).tile t).slotless = TileSt.slotless { s.tile t with start := none, ahead := none } := by
  simp only [State.dropStart, h, if_true]
  rw [(State.gcSlots_relands _ t).tile, State.tile_setTile]

theorem State.noStart_other {k : Nat} (h : k ≠ t) : (s.noStart t).tile k = s.tile k := by
  unfold State.noStart
  split
  · exact s.dropStart_other t _ h
  · rfl

theorem State.noStart_quiet (h : (s.tile t).running = none) : ((s.noStart t).tile t).quiet := by
  unfold State.noStart
  split
  · next r hs => exact TileSt.quiet.congr (x := { s.tile t with start := none, ahead := none }) ⟨h, rfl⟩ (s.dropStart_tile t hs)
  · next hs => exact ⟨h, hs⟩

theorem State.ashTile_other {k : Nat} (h : k ≠ t) : (s.ashTile t).tile k = s.tile k := by
  unfold State.ashTile
  split
  · rw [State.noStart_other _ t h, State.pauseAt_other _ t _ _ _ _ h]
  · exact s.noStart_other t h

theorem State.ashTile_quiet : ((s.ashTile t).tile t).quiet := by
  unfold State.ashTile
  split
  · next c _ =>
    have h := s.pauseAt_tile t c s.now false false
    generalize s.pauseAt t c s.now false false = u at h
    exact u.noStart_quiet t (congrArg TileSt.running h)
  · next h => exact s.noStart_quiet t h

theorem State.ashTiles_quiet (n : Nat) {k : Nat} (h : k < n) : ((forUpto (fun s t => s.ashTile t) n s).tile k).quiet := by
  induction n with
  | zero => omega
  | succ n ih =>
    obtain ⟨u, hu⟩ : ∃ u, u = forUpto (fun s t => s.ashTile t) n s := ⟨_, rfl⟩
    rw [← hu] at ih
    rw [forUpto, ← hu]
    by_cases hk : k = n
    · subst hk
      exact u.ashTile_quiet k
    · rw [u.ashTile_other n hk]
      exact ih (by omega)

end

/-! ## The entry -/

section
variable (s : State)

/-- s with the runs, transfers and procedures ended that no module in Ash has, up to the recordings. -/
def State.ashed : State :=
  forUpto (fun s t => s.ashTile t) 16
    ({ s.endCal with mc := { s.endCal.mc with retrain := none } }.put Reg.MEM_STATUS_TRAINING 0)

/-- The recordings, fades, ramps and peer transfers of the module ended. -/
def State.stilled : State :=
  forUpto (fun s p => s.endPeers p) 4
    (forUpto (fun s c => s.ashFade c) 8 (forUpto (fun s b => s.recHold b) 16 s)).dropRamp

theorem State.enterAsh_of {s : State} (hc : s.pw.change = none) (hp : s.get Reg.GLB_STATE_PROFILE ≠ 3) :
    s.enterAsh = s.ashed.stilled.changeTo 3 := by
  rw [State.enterAsh, if_neg (by simp [hc, hp])]
  rfl

theorem State.stilled_writes : s.writes s.stilled [.regs, .segs, .stores, .mem, .grp, .cap, .xng, .mc, .clk] :=
  writes_forUpto
    (State.writes_of State.dropRamp_moves.1 (by decide) <|
      writes_forUpto
        (writes_forUpto State.writes_refl fun _ _ _ => State.writes_mono State.recHold_moves.1 (by decide))
        fun _ _ _ => State.writes_mono State.ashFade_moves.1 (by decide))
    fun _ _ _ => State.writes_mono State.endPeers_moves.1 (by decide)

theorem State.ashed_writes :
    s.writes s.ashed [.regs, .stores, .mem, .ctxs, .tiles, .evt, .wav, .grp, .cap, .latch, .mon, .mc, .cal] :=
  writes_forUpto
    (State.writes_of State.put_writes (by decide) <| State.writes_of (State.with_mc_writes _ _) (by decide) <|
      State.writes_mono State.endCal_moves.1 (by decide))
    fun _ _ _ => State.writes_mono State.ashTile_moves.1 (by decide)

/-- What holds in a state that has begun to enter Ash from s. -/
structure State.EntersAsh (t : State) : Prop where
  pw : t.pw = { s.pw with change := some 3, prev := t.pw.prev }
  busy : t.get Reg.GLB_STATE_BUSY = 1
  gated : t.get Reg.CLK_STATUS_GATED = 1
  tiles : ∀ k, k < 16 → (t.tile k).quiet
  safe : t.poweredSafe

/-- Entry into Ash, from another profile with no change in progress. -/
theorem State.enterAsh_enters (hc : s.pw.change = none) (hp : s.get Reg.GLB_STATE_PROFILE ≠ 3) : s.EntersAsh s.enterAsh := by
  have hpw : s.ashed.stilled.pw = s.pw := (s.ashed.stilled_writes .pw (by decide)).trans (s.ashed_writes .pw (by decide))
  obtain ⟨hchange, hbusy, hgated, hsafe, -⟩ := s.ashed.stilled.changeTo_begins 3
  rw [State.enterAsh_of hc hp]
  refine ⟨?_, hbusy, hgated, fun k hk => ?_, hsafe⟩
  · rw [hchange, hpw]
  · rw [State.tile_of_writes State.changeTo_moves.1 (by decide), State.tile_of_writes s.ashed.stilled_writes (by decide)]
    exact State.ashTiles_quiet _ 16 hk

/-- What follows the entry in its command leaves it as it is. -/
theorem State.EntersAsh.and {s t u : State} (h : s.EntersAsh t) (hw : t.writes u [.regs, .xng])
    (hbusy : u.get Reg.GLB_STATE_BUSY = t.get Reg.GLB_STATE_BUSY)
    (hgated : u.get Reg.CLK_STATUS_GATED = t.get Reg.CLK_STATUS_GATED) : s.EntersAsh u := by
  have hpw : u.pw = t.pw := hw .pw (by decide)
  obtain ⟨hl, hwav, hg⟩ := h.safe
  exact ⟨by rw [hpw]; exact h.pw, hbusy.trans h.busy, hgated.trans h.gated,
    fun k hk => by rw [State.tile_of_writes hw (by decide)]; exact h.tiles k hk,
    fun k hk => by rw [State.latches_of_writes hw (by decide)]; exact hl k hk,
    fun w hk => by rw [State.wave_of_writes hw (by decide)]; exact hwav w hk,
    fun g hk => by rw [State.group_of_writes hw (by decide)]; exact hg g hk⟩

theorem State.EntersAsh.of_pw {r s t : State} (h : s.EntersAsh t) (e : s.pw = r.pw) : r.EntersAsh t :=
  ⟨e ▸ h.pw, h.busy, h.gated, h.tiles, h.safe⟩

end

/-- The parts that entry into Ash writes. -/
abbrev ashParts : List Piece :=
  [.regs, .segs, .stores, .mem, .ctxs, .tiles, .evt, .wav, .grp, .cap, .latch, .xng, .mon, .mc, .pw, .clk, .cal]

section
variable {s : State} (hc : s.pw.change = none) (hp : s.get Reg.GLB_STATE_PROFILE < 3)
include hc hp

/-- A GLB_PROFILE write of Ash. -/
theorem State.profileWrite_enters {v : Word} (hu : s.get Reg.GLB_STATE_UNLOCKED = 1) (hv : fieldOf v.toNat 0 4 = 3) :
    s.EntersAsh (s.profileWrite v) ∧ s.writes (s.profileWrite v) ashParts ∧ (s.profileWrite v).get Reg.GLB_STATE_PSTS = 0 := by
  have hpw := s.profiled_pw 3
  have hchange : (s.profiled 3).pw.change = none := by rw [hpw, hc]
  have hprof : (s.profiled 3).get Reg.GLB_STATE_PROFILE ≠ 3 := by
    rw [s.profiled_profile (by decide)]
    omega
  have heq : s.profileWrite v = (s.profiled 3).enterAsh.psts .ok := by
    rw [State.profileWrite, State.guarded_of_unlocked hu]
    dsimp only
    rw [hv, ← State.profiled, if_neg (by decide), if_neg (by simp [hchange]), if_pos rfl]
  rw [heq]
  refine ⟨?_, ?_, State.psts_ok _⟩
  · exact ((State.enterAsh_enters _ hchange hprof).and (State.writes_mono State.put_writes (by decide))
      (State.psts_keepsFields _ .ok _ (by decide)) (State.psts_keepsFields _ .ok _ (by decide))).of_pw hpw
  · exact State.writes_of State.put_writes (by decide) <| State.writes_of State.enterAsh_moves.1 (by decide) <|
      State.writes_mono (s.profiled_writes 3) (by decide)

/-- A sag below 38 V, the first since the module left Ash. -/
theorem State.sagAsh_enters {vin : BitVec 10} (hvin : vin.toNat < 380) (ha : s.get Reg.NVS_SUPPLY_ASH_SAG = 0) :
    Answers (.sagBelow38V vin) s fun t => s.EntersAsh t ∧ s.writes t ashParts ∧
      t.get Reg.NVS_SUPPLY_ASH_SAG = 1 ∧ t.get Reg.NVS_SUPPLY_SAG = 1 := by
  have hset := s.vin_setsFields vin
  have hpw : (s.vin vin).powerSafe.pw = s.pw := (State.powerSafe_moves.1 .pw (by decide)).trans (s.vin_pw vin)
  have hchange : (s.vin vin).powerSafe.pw.change = none := by rw [hpw, hc]
  have hprof : (s.vin vin).powerSafe.get Reg.GLB_STATE_PROFILE ≠ 3 := by
    rw [State.get_of_writes State.powerSafe_moves.1 (by decide), hset.get_other Reg.GLB_STATE_PROFILE rfl]
    omega
  have hexec : execSagBelow38V vin s = .next (((s.vin vin).powerSafe.enterAsh.put Reg.NVS_SUPPLY_ASH_SAG 1).sag 38) := by
    simp only [execSagBelow38V, s.vin_get vin (f := Reg.NVS_SUPPLY_ASH_SAG) (by decide), ha, hvin, and_self, if_true]
  refine ⟨_, hexec, ?_⟩
  obtain ⟨u, hu⟩ : ∃ u, u = (s.vin vin).powerSafe.enterAsh := ⟨_, rfl⟩
  have henters : s.EntersAsh u := hu ▸ (State.enterAsh_enters _ hchange hprof).of_pw hpw
  have hw : s.writes u ashParts := hu ▸ State.writes_of State.enterAsh_moves.1 (by decide)
    (State.writes_of State.powerSafe_moves.1 (by decide) (State.writes_mono State.vin_moves.1 (by decide)))
  rw [← hu]
  have hsag := ((u.setsFields_refl.next Reg.NVS_SUPPLY_ASH_SAG 1 rfl).next Reg.NVS_SUPPLY_SAG 1 rfl).of_regs
    (u := (u.put Reg.NVS_SUPPLY_ASH_SAG 1).sag 38) (State.alarm_moves.1 .regs (by decide))
  have hlast : u.writes ((u.put Reg.NVS_SUPPLY_ASH_SAG 1).sag 38) [.regs, .xng] :=
    State.writes_of State.sag_moves.1 (by decide) (State.writes_mono State.put_writes (by decide))
  exact ⟨henters.and hlast (hsag.get_other _ rfl) (hsag.get_other _ rfl),
    State.writes_of hlast (by decide) hw, hsag.get (by simp), hsag.get (by simp)⟩

end

/-- Settles O14: both ways into Ash run enterAsh, which ends in changeTo. -/
theorem ashEntryMakesTheModuleQuiet : Obligations.AshEntryMakesTheModuleQuiet := by
  unfold Obligations.AshEntryMakesTheModuleQuiet
  intro quiet s hc hp
  have hquiet : ∀ t, s.EntersAsh t → s.writes t ashParts → quiet s t := fun t h hw =>
    ⟨h.pw, h.busy, h.gated, fun k hk => ⟨(h.tiles k hk).1, (h.tiles k hk).2, h.safe.1 k hk⟩, h.safe.2.1, h.safe.2.2, hw⟩
  refine ⟨fun v hu hv => ?_, fun vin hvin ha => ?_⟩
  · obtain ⟨h, hw, hpsts⟩ := State.profileWrite_enters hc hp hu hv
    exact ⟨s.profileWrite v, rfl, hquiet _ h hw, hpsts⟩
  · obtain ⟨t, hexec, h, hw, hbits⟩ := State.sagAsh_enters hc hp hvin ha
    exact ⟨t, hexec, hquiet t h hw, hbits⟩

end Sys2Proof.Machine
end

/-! # Register accesses of the host (R317 to R320, R331) -/

section
namespace Sys2Proof.Machine

/-! ## Counters -/

theorem satAdd32_eq (a b : Nat) : satAdd32 a b = min (a + b) 0xFFFFFFFF := rfl

theorem Fld.apart.symm {f g : Fld} (h : f.apart g) : g.apart f := by
  rcases h with h | h | h
  · exact .inl h.symm
  · exact .inr (.inr h)
  · exact .inr (.inl h)

/-- One more counter advanced, apart from the fields set before. -/
theorem State.setsFields.bumpAt {s t : State} {L : List (Fld × Nat)} (h : s.setsFields t L) (F : Fld) (n : Nat)
    (hF : F.lo = 0 ∧ F.n = 32) (hL : ∀ p ∈ L, p.1.apart F) :
    s.setsFields (t.bump F n) (L ++ [(F, min (s.get F + n) 0xFFFFFFFF)]) := by
  obtain ⟨hlo, hn⟩ := hF
  have hget : t.get F = s.get F := h.get_apart fun g hg => by
    obtain ⟨p, hp, rfl⟩ := List.mem_map.mp hg
    exact (hL p hp).symm
  rw [← satAdd32_eq, ← hget]
  exact h.put F _ (by omega) (by rw [hn]; exact satAdd32_lt _ _) hL

/-- One more counter advanced; with fields of fixed addresses the side conditions compute. -/
theorem State.setsFields.bump {s t : State} {L : List (Fld × Nat)} (h : s.setsFields t L) (F : Fld) (n : Nat)
    (hF : decide (F.lo = 0 ∧ F.n = 32) = true) (hL : decide (∀ p ∈ L, p.1.apart F) = true) :
    s.setsFields (t.bump F n) (L ++ [(F, min (s.get F + n) 0xFFFFFFFF)]) :=
  h.bumpAt F n (of_decide_eq_true hF) (of_decide_eq_true hL)

/-! ## A field of a written word -/

theorem testBit_fieldOf (x lo n i : Nat) : (fieldOf x lo n).testBit i = (decide (i < n) && x.testBit (lo + i)) := by
  rw [fieldOf, Nat.testBit_mod_two_pow, Nat.testBit_div_two_pow, Nat.add_comm]

theorem testBit_clearBits (n a b i : Nat) :
    (clearBits n a b).testBit i = (a.testBit i && (decide (i < n) && !b.testBit i)) := by
  simp only [clearBits, Nat.testBit_and, Nat.testBit_xor, Nat.testBit_two_pow_sub_one, Nat.testBit_mod_two_pow]
  by_cases h : i < n <;> simp [h]

section
variable (b was old v : Nat) (f : FieldD)

/-- The value that a write gives an RW field: a counter keeps what hardware has added in the cycle (R331). -/
def rwValue : Nat :=
  if countsUp b f.lo then
    min (fieldOf v f.lo f.n + (fieldOf old f.lo f.n - fieldOf was f.lo f.n)) (2 ^ f.n - 1)
  else fieldOf v f.lo f.n

/-- The value that a write gives a W1C field. -/
def w1cValue : Nat :=
  clearBits f.n (fieldOf old f.lo f.n) (clearBits f.n (fieldOf v f.lo f.n)
    (clearBits f.n (fieldOf old f.lo f.n) (fieldOf was f.lo f.n)))

theorem fieldWrite_eq : fieldWrite b f was old v =
    match f.acc with
    | .rw => withField old f.lo f.n (rwValue b was old v f)
    | .rws => withField old f.lo f.n (fieldOf v f.lo f.n)
    | .w1c => withField old f.lo f.n (w1cValue was old v f)
    | _ => old := rfl

variable {i : Nat}

/-- A write leaves the word's other bits. -/
theorem testBit_fieldWrite_apart (h : i < f.lo ∨ f.lo + f.n ≤ i) : (fieldWrite b f was old v).testBit i = old.testBit i := by
  have hne : ¬ (f.lo ≤ i ∧ i < f.lo + f.n) := by omega
  rw [fieldWrite_eq]
  split
  all_goals simp only [testBit_withField, if_neg hne]

variable (h : i < f.n)
include h

theorem testBit_withField_add (x : Nat) : (withField old f.lo f.n x).testBit (f.lo + i) = x.testBit i := by
  rw [testBit_withField, if_pos (by omega), Nat.add_sub_cancel_left]

/-- A W1C field loses the bits written 1, but those set since it stood as was. -/
theorem testBit_w1cValue : (w1cValue was old v f).testBit i =
    (old.testBit (f.lo + i) && !(v.testBit (f.lo + i) && was.testBit (f.lo + i))) := by
  simp only [w1cValue, testBit_clearBits, testBit_fieldOf, h, decide_true, Bool.true_and]
  cases old.testBit (f.lo + i) <;> simp

theorem testBit_fieldWrite : (fieldWrite b f was old v).testBit (f.lo + i) =
    if f.acc = .rws ∨ (f.acc = .rw ∧ countsUp b f.lo = false) then v.testBit (f.lo + i)
    else if f.acc = .rw then
      (min (fieldOf v f.lo f.n + (fieldOf old f.lo f.n - fieldOf was f.lo f.n)) (2 ^ f.n - 1)).testBit i
    else if f.acc = .w1c then old.testBit (f.lo + i) && !(v.testBit (f.lo + i) && was.testBit (f.lo + i))
    else old.testBit (f.lo + i) := by
  rw [fieldWrite_eq]
  cases hacc : f.acc
  case rw =>
    cases hc : countsUp b f.lo <;>
      simp [testBit_withField_add old f h, rwValue, hc, testBit_fieldOf, h]
  case rws => simp [testBit_withField_add old f h, testBit_fieldOf, h]
  case w1c => simp [testBit_withField_add old f h, testBit_w1cValue was old v f h]
  all_goals simp

end

/-! ## A write of stored fields -/

theorem State.noted_regWord (s : State) (a b : Nat) : (s.noted a).regWord b = s.regWord b := by
  rw [State.regWord, State.noted_writes s a .regs (by decide)]
  rfl

section
variable (s : State) {a : Nat} {d : RegD} {i j : Nat} (h : regAt a = some (d, i, j)) (v : Nat)
include h

/-- The word that a write of v leaves in a register that no command stands behind. -/
theorem State.plainWrite_eq : s.plainWrite a v =
    ((s.noted a).setRegWord a (BitVec.ofNat 32 (wordWrite d.base (mget resetWord s.evt.began a).toNat d.flds
      (s.regWord a).toNat v))).markBegun a (BitVec.ofNat 32 (wordWrite d.base (mget resetWord s.evt.began a).toNat d.flds
      (s.regWord a).toNat v)) := by
  simp only [State.plainWrite, h]

theorem State.plainWrite_regWord : (s.plainWrite a v).regWord a =
    BitVec.ofNat 32 (wordWrite d.base (mget resetWord s.evt.began a).toNat d.flds (s.regWord a).toNat v) := by
  rw [s.plainWrite_eq h]
  exact State.regWord_setRegWord _ _ _

theorem State.plainWrite_regWord_other {b : Nat} (hb : b ≠ a) : (s.plainWrite a v).regWord b = s.regWord b := by
  rw [s.plainWrite_eq h]
  exact (State.regWord_setRegWord_other _ _ hb).trans (s.noted_regWord a b)

theorem State.plainWrite_evt : (s.plainWrite a v).evt = { s.evt with began := (s.plainWrite a v).evt.began } := by
  rw [s.plainWrite_eq h]
  have he : (s.noted a).evt = s.evt := State.noted_writes s a .evt (by decide)
  simp only [State.markBegun, State.setRegWord, he]

end

/-! ## What a write of the field side reaches -/

section
variable (s : State) {b : Nat} (hb : b ∉ commandBases) (i a : Nat) (v : Word)
include hb

theorem State.glbRegWrite_plain : s.glbRegWrite b a v = s.plainWrite a v.toNat := by
  unfold State.glbRegWrite
  split
  case h_8 => rfl
  all_goals exact absurd (by decide) hb

theorem State.nvsRegWrite_plain : s.nvsRegWrite b i a v = s.plainWrite a v.toNat := by
  unfold State.nvsRegWrite
  split
  case h_8 => rfl
  all_goals exact absurd (by decide) hb

theorem State.coreRegWrite_plain : s.coreRegWrite b a v = s.plainWrite a v.toNat := by
  unfold State.coreRegWrite
  split
  case h_13 => rfl
  all_goals exact absurd (by decide) hb

theorem State.pathRegWrite_plain : s.pathRegWrite b i a v = s.plainWrite a v.toNat := by
  unfold State.pathRegWrite
  split
  case h_15 => rfl
  all_goals exact absurd (by decide) hb

end

/-- A command stands behind the two registers that the field part of the XNG decodes by address. -/
theorem base_of_regAt {a : Nat} {d : RegD} {i j : Nat} (h : regAt a = some (d, i, j)) {b : Nat}
    (hb : (regAt a).map (fun r => r.1.base) = some b) : d.base = b := by
  rw [h] at hb
  exact Option.some.inj hb

section
variable (s : State) {a : Nat} (v : Word) (hs : s.stopped = false) (ha : a < 0x100000)
include hs ha

/-- A register behind which no command stands stores what is written. -/
theorem State.fieldWrite32_plain {d : RegD} {i j : Nat} (h : regAt a = some (d, i, j)) (hd : d.base ∉ commandBases) :
    s.fieldWrite32 a v = s.plainWrite a v.toNat := by
  have hpolicy : a ≠ Reg.XNG_ABSENT_POLICY.addr := fun e => hd (by
    subst e
    rw [base_of_regAt h (b := 0x010800) (by decide)]
    decide)
  have hfstatus : a ≠ Reg.XNG_FSTATUS_SAFE_LATCH.addr := fun e => hd (by
    subst e
    rw [base_of_regAt h (b := 0x010804) (by decide)]
    decide)
  simp only [State.fieldWrite32, hs, Bool.false_and, Bool.false_eq_true, if_false, if_neg (show ¬ 0x100000 ≤ a by omega), h,
    if_neg hpolicy, if_neg hfstatus]
  split
  · exact s.glbRegWrite_plain hd a v
  · split
    · exact s.nvsRegWrite_plain hd i a v
    · split
      · exact s.coreRegWrite_plain hd a v
      · exact s.pathRegWrite_plain hd i a v

theorem State.fieldWrite32_unmapped (h : regAt a = none) : s.fieldWrite32 a v = s.unmapped := by
  simp only [State.fieldWrite32, hs, Bool.false_and, Bool.false_eq_true, if_false, if_neg (show ¬ 0x100000 ≤ a by omega), h]

end

/-! ## An access that the field side applies at once -/

section
variable {s : State} {addr : BitVec 24} (hon : s.pw.hostOn = true) (hp : s.xng.perst = false)
  (hh : hostSide addr.toNat = false)
include hon hp hh

/-- A write of a field-side register that the field side can answer. -/
theorem execRegisterWrite_of_answers (ha : s.get Reg.XNG_HSTATUS_FIELD_ABSENT = 0) (hans : s.answers = true)
    (hwait : s.xng.waiting = []) (n : Nat) (v : BitVec 64) :
    execRegisterWrite addr n v s = .next (s.applyWrite State.fieldWrite32 State.accSize addr.toNat n v) := by
  simp [execRegisterWrite, State.hostAccess, State.bridgeRead, State.doAccess, hon, hp, hh, ha, hans, hwait]

/-- A read of a field-side register that the field side can answer, the mailbox's sample not among them. -/
theorem execRegisterReadMessage_of_answers (ha : s.get Reg.XNG_HSTATUS_FIELD_ABSENT = 0) (hans : s.answers = true)
    (hwait : s.xng.waiting = []) (hmbx : s.xng.mbx = []) (hv : s.get Reg.GLB_MBX_VALID = 0) (n : Nat) :
    execRegisterReadMessage addr n s =
      .next { s with xng := { s.xng with readData := BitVec.ofNat 64 (s.readBus addr.toNat n) } } := by
  simp [execRegisterReadMessage, State.hostAccess, State.bridgeRead, State.doAccess, hon, hp, hh, ha, hans, hwait, hmbx, hv]

/-- An access that the field side cannot answer waits. -/
theorem State.hostAccess_waits (ha : s.get Reg.XNG_HSTATUS_FIELD_ABSENT = 0) (hans : s.answers = false)
    (hmbx : s.xng.mbx = []) (n : Nat) (v : Option (BitVec 64)) : s.hostAccess ⟨addr.toNat, n, v⟩ =
      { s with xng := { s.xng with waiting := s.xng.waiting ++ [⟨addr.toNat, n, v⟩] } } := by
  simp [State.hostAccess, State.bridgeRead, hon, hp, hh, ha, hans, hmbx]

/-- With the field side absent, an access completes at the bridge. -/
theorem State.hostAccess_absent (ha : s.get Reg.XNG_HSTATUS_FIELD_ABSENT = 1) (hmbx : s.xng.mbx = []) (n : Nat)
    (v : Option (BitVec 64)) : s.hostAccess ⟨addr.toNat, n, v⟩ = s.absentAccess ⟨addr.toNat, n, v⟩ := by
  simp [State.hostAccess, State.bridgeRead, hon, hp, hh, ha, hmbx]

end

/-- With the host side in reset nothing happens. -/
theorem State.hostAccess_of_reset {s : State} (h : s.pw.hostOn = false ∨ s.xng.perst = true) (x : Access) :
    s.hostAccess x = s := by
  rcases h with h | h <;> simp [State.hostAccess, h]

/-- Settles O15: field by field with fieldWrite, and register by register with plainWrite. -/
theorem registerWritesStoreByFieldKind : Obligations.RegisterWritesStoreByFieldKind := by
  unfold Obligations.RegisterWritesStoreByFieldKind
  refine ⟨fun b f was old v _ _ => ⟨fun i hi => testBit_fieldWrite b was old v f hi,
      fun i hi => testBit_fieldWrite_apart b was old v f hi⟩,
    fun s addr hon hp hh ha hans hwait hs => ⟨fun h4 hlt d i j hreg hd v => ?plain, fun v h4 hlt hreg => ?none,
      fun v n hn => ?bad⟩⟩
  all_goals
    have hexec := execRegisterWrite_of_answers hon hp hh ha hans hwait
  case plain =>
    refine ⟨s.plainWrite addr.toNat (v.toNat % 2 ^ 32), ?_, State.writes_mono State.plainWrite_moves.1 (by decide),
      s.plainWrite_evt hreg _, s.plainWrite_regWord hreg _, fun b hb => s.plainWrite_regWord_other hreg _ hb⟩
    refine (hexec 4 v).trans (congrArg _ ?_)
    rw [State.applyWrite, if_neg (by omega), if_pos rfl, s.fieldWrite32_plain _ hs hlt hreg hd]
    simp
  case none =>
    refine ⟨s.unmapped, (hexec 4 v).trans (congrArg _ ?_), s.setsOnly_refl.next Reg.GLB_ERR_UNMAPPED 1 rfl⟩
    rw [State.applyWrite, if_neg (by omega), if_pos rfl, s.fieldWrite32_unmapped _ hs hlt hreg]
  case bad =>
    refine ⟨s.accSize, (hexec n v).trans (congrArg _ ?_), s.setsOnly_refl.next Reg.GLB_ERR_ACC_SIZE 1 rfl⟩
    rw [State.applyWrite]
    split
    · rfl
    · rw [if_neg (by omega), if_neg (by omega)]

/-- Settles O16: hostAccess by what the field side, the bridge and the host side are. -/
theorem registerAccessesAreAnswered : Obligations.RegisterAccessesAreAnswered := by
  unfold Obligations.RegisterAccessesAreAnswered
  refine ⟨fun s addr hon hp hh ha hans hwait hmbx hv => ?answered, fun s addr n v hh => ⟨fun hon hp ha hans hmbx => ?waits,
    fun hon hp ha hmbx => ⟨?absentWrite, ?absentRead⟩, fun h => ?reset⟩⟩
  case answered =>
    have hread : ∀ (n : Nat) (x : BitVec 64), BitVec.ofNat 64 (s.readBus addr.toNat n) = x →
        Answers (.registerReadMessage addr n) s fun t => s.writes t [.xng] ∧ t.xng = { s.xng with readData := x } :=
      fun n x hx => ⟨_, execRegisterReadMessage_of_answers hon hp hh ha hans hwait hmbx hv n, State.with_xng_writes _ _, by
        rw [hx]⟩
    refine ⟨fun h4 => hread 4 _ ?_, fun h4 => hread 4 _ ?_, fun h8 => hread 8 _ ?_, hread 1 _ ?_⟩
    · simp [State.readBus, h4]
    · simp [State.readBus, h4]
    · simp [State.readBus, h8]
    · rfl
  case waits =>
    have hexec := State.hostAccess_waits (addr := addr) hon hp hh ha hans hmbx n
    exact ⟨⟨_, congrArg Host.Outcome.next (hexec (some v)), State.with_xng_writes _ _, rfl⟩,
      ⟨_, congrArg Host.Outcome.next (hexec none), State.with_xng_writes _ _, rfl⟩⟩
  case absentWrite =>
    have hset := s.setsFields_refl.bump Reg.XNG_ABS_WR_CNT 1 rfl rfl
    exact ⟨_, congrArg Host.Outcome.next (State.hostAccess_absent (addr := addr) hon hp hh ha hmbx n (some v)), State.put_writes, hset⟩
  case absentRead =>
    obtain ⟨u, hu⟩ : ∃ u : State, u = { s with xng := { s.xng with readData := BitVec.allOnes 64 } } := ⟨_, rfl⟩
    have hset := (s.setsFields_refl.of_regs (u := u) (by rw [hu])).bump Reg.XNG_ABS_RD_CNT 1 rfl rfl
    have hexec := State.hostAccess_absent (addr := addr) hon hp hh ha hmbx n none
    have hw : s.writes u [.xng] := hu ▸ State.with_xng_writes s _
    refine ⟨u.bump Reg.XNG_ABS_RD_CNT, (congrArg Host.Outcome.next hexec).trans ?_,
      State.writes_of State.put_writes (by decide) (State.writes_mono hw (by decide)), hset, ?_⟩
    · rw [hu]
      rfl
    · rw [State.bump, State.put_xng, hu]
  case reset => exact ⟨⟨s, congrArg Host.Outcome.next (State.hostAccess_of_reset h _), rfl⟩,
    ⟨s, congrArg Host.Outcome.next (State.hostAccess_of_reset h _), rfl⟩⟩

end Sys2Proof.Machine
end

/-! # Placement commands (R35 to R53) -/

section
namespace Sys2Proof.Machine

theorem Sts.ok_code : Sts.ok.code = 0 := rfl

theorem State.with_segs_writes (s : State) (x : SMap Seg) : s.writes { s with segs := x } [.segs] := fun p hp => by
  cases p <;> first | rfl | exact absurd (by decide) hp

theorem State.with_olds_writes (s : State) (x : List OldStore) : s.writes { s with olds := x } [.olds] := fun p hp => by
  cases p <;> first | rfl | exact absurd (by decide) hp

/-! ## Reports (R53) -/

theorem State.signalVec_xng_congr {s t : State} (h : t.xng = s.xng) (v : Nat) :
    (if t.carries then t.signalVec v else t).xng = (if s.carries then s.signalVec v else s).xng := by
  have hc : t.carries = s.carries := by rw [State.carries, State.carries, h]
  rw [hc]
  split
  · simp only [State.signalVec, h]
  · exact h

theorem State.signalled_writes (s : State) (v : Nat) : s.writes (if s.carries then s.signalVec v else s) [.xng] := by
  split
  · exact State.signalVec_moves.1
  · exact State.writes_refl

/-- One more field set, to a value that fits. -/
theorem State.setsFields.nextLt {s t : State} {L : List (Fld × Nat)} (h : s.setsFields t L) (F : Fld) (v : Nat)
    (hv : v < 2 ^ F.n) (hF : F.free L = true) : s.setsFields (t.put F v) (L ++ [(F, v)]) :=
  h.put F v (Fld.of_free hF).1 hv (Fld.of_free hF).2

theorem State.plcReport_xng (u : State) (tag : Nat) (e : Sts) (b : Bool) :
    (u.plcReport tag e b).xng = (if u.carries then u.signalVec 2 else u).xng := by
  rw [State.plcReport]
  exact State.signalVec_xng_congr (by rw [State.put_xng, State.put_xng, State.put_xng]) 2

section
variable {s u : State} {L : List (Fld × Nat)} (h : s.setsFields u L)
  (hL : ∀ p ∈ L, p.1.apart Reg.PLC_STATUS_TAG ∧ p.1.apart Reg.PLC_STATUS_STS ∧ p.1.apart Reg.PLC_STATUS_LOAD_END)
include h hL

theorem State.plcReport_sets (tag : Nat) (e : Sts) (b : Bool) : s.setsFields (u.plcReport tag e b)
    (L ++ [(Reg.PLC_STATUS_TAG, tag % 2 ^ 8), (Reg.PLC_STATUS_STS, e.code), (Reg.PLC_STATUS_LOAD_END, bit b)]) := by
  have h1 := (u.setsFields_refl.nextMod Reg.PLC_STATUS_TAG 8 tag rfl rfl).nextLt Reg.PLC_STATUS_STS e.code (Sts.code_lt e) rfl
  have h2 := h1.nextLt Reg.PLC_STATUS_LOAD_END (bit b) (bit_lt b) rfl
  refine h.trans (h2.of_regs (State.signalled_writes _ 2 .regs (by decide))) fun p hp g hg => ?_
  obtain ⟨htag, hsts, hend⟩ := hL p hp
  rcases List.mem_cons.mp hg with rfl | hg
  · exact htag
  · rcases List.mem_cons.mp hg with rfl | hg
    · exact hsts
    · rw [List.mem_singleton.mp hg]
      exact hend

/-- A report tells the tag, the status and what was set before it, and signals vector 2. -/
theorem State.plcReport_tells (hx : u.xng = s.xng) (tag : Nat) (e : Sts) (b : Bool) :
    s.plcTells (u.plcReport tag e b) (tag % 2 ^ 8) e.code (bit b) L :=
  ⟨State.plcReport_sets h hL tag e b, (u.plcReport_xng tag e b).trans (State.signalVec_xng_congr hx 2)⟩

end

theorem State.plcReport_status (u : State) (tag : Nat) (e : Sts) (b : Bool) :
    (u.plcReport tag e b).get Reg.PLC_STATUS_STS = e.code :=
  (State.plcReport_sets u.setsFields_refl (by simp) tag e b).get (by simp)

/-- A report of a command, by its tag of eight bits. -/
theorem State.plcTells.of_tag {s t : State} {tag : BitVec 8} {a b : Nat} {L : List (Fld × Nat)}
    (h : s.plcTells t (tag.toNat % 2 ^ 8) a b L) : s.plcTells t tag.toNat a b L := by
  rwa [Nat.mod_eq_of_lt tag.isLt] at h

/-! ## Commands that are taken -/

theorem State.memWake_mc_congr {s t : State} (hmc : t.mc = s.mc) (hnow : t.now = s.now)
    (hsr : t.get Reg.MEM_SR_ACTIVE = s.get Reg.MEM_SR_ACTIVE)
    (hp : t.get Reg.GLB_STATE_PROFILE = s.get Reg.GLB_STATE_PROFILE) : t.memWake.mc = s.memWake.mc := by
  simp only [State.memWake, hmc, hnow, hsr, hp]

theorem State.memWake_regs (s : State) : s.memWake.regs = s.regs := rfl

theorem State.plcTells.wake {s t : State} {a b c : Nat} {L : List (Fld × Nat)} (h : s.plcTells t a b c L) :
    s.plcTells t.memWake a b c L :=
  ⟨h.1.of_regs t.memWake_regs, h.2⟩

section
variable {s : State} {masks : List Nat} (h : s.plcTakes masks) (tag : Nat) {f : State → State}
include h

theorem State.plcCmd_of_ok (hf : (f s).get Reg.PLC_STATUS_STS = 0) : s.plcCmd tag masks f = (f s).memWake := by
  obtain ⟨hbusy, hargs⟩ := h
  rw [State.plcCmd, if_neg (by simp [hbusy]), if_neg (by simp [hargs]), Sts.ok_code, if_pos hf]

theorem State.plcCmd_of_refused (hf : (f s).get Reg.PLC_STATUS_STS ≠ 0) : s.plcCmd tag masks f = f s := by
  obtain ⟨hbusy, hargs⟩ := h
  rw [State.plcCmd, if_neg (by simp [hbusy]), if_neg (by simp [hargs]), Sts.ok_code, if_neg hf]

end

/-- s after the report of a command that is taken (R53), the exit from self-refresh begun. -/
def State.taken (s : State) (tag : BitVec 8) : State := (s.plcReport tag.toNat .ok false).memWake

theorem State.taken_writes (s : State) (tag : BitVec 8) : s.writes (s.taken tag) [.regs, .xng, .mc] :=
  State.writes_of State.memWake_moves.1 (by decide) (State.writes_mono State.plcReport_moves.1 (by decide))

theorem State.taken_regs (s : State) (tag : BitVec 8) : (s.taken tag).regs = (s.plcReport tag.toNat .ok false).regs := rfl

/-- A command that is taken: f ends in the report of STS_OK. -/
theorem State.plcCmd_taken {s t : State} {masks : List Nat} {tag : BitVec 8} {f : State → State} (h : s.plcTakes masks)
    (hf : f s = t.plcReport tag.toNat .ok false) : s.plcCmd tag.toNat masks f = t.taken tag := by
  rw [State.plcCmd_of_ok h tag.toNat (by rw [hf]; exact State.plcReport_status _ _ _ _), hf]
  rfl

section
variable {s u : State} {L : List (Fld × Nat)} (h : s.setsFields u L)
  (hL : ∀ p ∈ L, p.1.apart Reg.PLC_STATUS_TAG ∧ p.1.apart Reg.PLC_STATUS_STS ∧ p.1.apart Reg.PLC_STATUS_LOAD_END)
include h hL

theorem State.taken_sets (tag : BitVec 8) : s.setsFields (u.taken tag)
    (L ++ [(Reg.PLC_STATUS_TAG, tag.toNat), (Reg.PLC_STATUS_STS, 0), (Reg.PLC_STATUS_LOAD_END, 0)]) := by
  have h1 := (State.plcReport_sets h hL tag.toNat .ok false).of_regs (u.taken_regs tag)
  rw [Nat.mod_eq_of_lt tag.isLt] at h1
  exact h1

theorem State.taken_tells (hx : u.xng = s.xng) (tag : BitVec 8) : s.plcTells (u.taken tag) tag.toNat 0 0 L :=
  ⟨State.taken_sets h hL tag, (u.plcReport_xng tag.toNat .ok false).trans (State.signalVec_xng_congr hx 2)⟩

omit hL in
/-- The command counts as a request to the memory (R247). -/
theorem State.taken_mc (hmc : u.mc = s.mc) (hnow : u.now = s.now)
    (hsr : ∀ p ∈ L, Reg.MEM_SR_ACTIVE.apart p.1 ∧ Reg.GLB_STATE_PROFILE.apart p.1) (tag : BitVec 8) :
    (u.taken tag).mc = s.memWake.mc := by
  have hrep := State.plcReport_sets u.setsFields_refl (by simp) tag.toNat .ok false
  have hw : u.writes (u.plcReport tag.toNat .ok false) [.regs, .xng] := State.plcReport_moves.1
  refine State.memWake_mc_congr ((hw .mc (by decide)).trans hmc) ((hw .now (by decide)).trans hnow)
    ((hrep.get_other Reg.MEM_SR_ACTIVE rfl).trans (h.get_apart fun g hg => ?_))
    ((hrep.get_other Reg.GLB_STATE_PROFILE rfl).trans (h.get_apart fun g hg => ?_))
  · obtain ⟨p, hp, rfl⟩ := List.mem_map.mp hg
    exact (hsr p hp).1
  · obtain ⟨p, hp, rfl⟩ := List.mem_map.mp hg
    exact (hsr p hp).2

end

/-! ## Storages added and dropped (R35, R50) -/

theorem mfind_mfilter {α : Type} (p : Nat → Bool) (m : SMap α) (k : Nat) :
    mfind (mfilter p m) k = if p k then mfind m k else none := by
  induction m with
  | nil => simp [mfilter, mfind]
  | cons q m ih =>
    obtain ⟨i, a⟩ := q
    unfold mfilter
    by_cases hk : k = i
    · subst hk
      by_cases hp : p k <;> simp [hp, mfind, ih]
    · by_cases hp : p i <;> simp [hp, mfind, hk, ih]

section
variable (s : State) (h : Nat) (kind : SegKind) (k : RateClass) (len fill : Nat) (chans : List Nat)

theorem State.takeStripes_writes (n i : Nat) : s.writes (s.takeStripes k n i chans).1 [.regs, .mc] :=
  (State.takeStripes_moves (s := s) (u := (s.takeStripes k n i chans).1) rfl).1

theorem State.addStorage_seg : (s.addStorage h kind k len fill chans).seg h =
    some ⟨s.nextSid, decide (kind = .program ∨ kind = .waveform ∨ kind = .pattern), false, [], none, []⟩ := by
  have hsid := s.takeStripes_writes k chans (linesPer k len) 0 .nextSid (by decide)
  rw [State.addStorage, State.seg_setSeg]
  exact congrArg (fun n => some (Seg.mk n _ _ _ _ _)) hsid

theorem State.addStorage_seg_other {g : Nat} (e : g ≠ h) : (s.addStorage h kind k len fill chans).seg g = s.seg g := by
  rw [State.addStorage, State.seg_setSeg_other _ _ e]
  exact State.seg_of_writes (s.takeStripes_writes k chans _ 0) (by decide) g

theorem State.addStorage_nextSid : (s.addStorage h kind k len fill chans).nextSid = s.nextSid + 1 :=
  congrArg (· + 1) (s.takeStripes_writes k chans (linesPer k len) 0 .nextSid (by decide))

theorem State.addStorage_store : (s.addStorage h kind k len fill chans).store s.nextSid =
    ⟨kind, k, len, fill, chans, (s.takeStripes k (linesPer k len) 0 chans).2, 0, 0, 0, []⟩ := by
  have hsid : (s.takeStripes k (linesPer k len) 0 chans).1.nextSid = s.nextSid :=
    s.takeStripes_writes k chans (linesPer k len) 0 .nextSid (by decide)
  rw [← hsid]
  exact State.store_setStore _ _ _

theorem State.addStorage_store_other {i : Nat} (e : i ≠ s.nextSid) :
    (s.addStorage h kind k len fill chans).store i = s.store i := by
  have hsid : (s.takeStripes k (linesPer k len) 0 chans).1.nextSid = s.nextSid :=
    s.takeStripes_writes k chans (linesPer k len) 0 .nextSid (by decide)
  rw [← hsid] at e
  exact (State.store_setStore_other _ _ e).trans (State.store_of_writes (s.takeStripes_writes k chans _ 0) (by decide) i)

end

section
variable (s : State) (sid : Nat)

/-- s with storage sid gone, before its lines are given back. -/
def State.unstored : State :=
  { s with
    stores := mdel s.stores sid
    mem := mfilter (fun a => decide (a / 9 / 2 ^ 34 ≠ sid)) s.mem
    poison := s.poison.filter (fun p => decide (p.1 ≠ sid))
    mc := { s.mc with jobs := mdel s.mc.jobs sid } }

theorem State.dropStorage_eq : s.dropStorage sid =
    (forEach State.giveLines (s.store sid).parts (s.unstored sid)).capacity.settleRanks := rfl

theorem writes_forEach {α : Type} {s u : State} {W : List Piece} {f : State → α → State} {l : List α}
    (hf : ∀ (u : State) a, u.writes (f u a) W) (h : s.writes u W) : s.writes (forEach f l u) W := by
  induction l generalizing u with
  | nil => exact h
  | cons a l ih => exact ih (State.writes_of (hf _ _) (fun _ q => q) h)

theorem State.dropStorage_after : (s.unstored sid).writes (s.dropStorage sid) [.regs, .mc] :=
  State.writes_of State.settleRanks_moves.1 (by decide) <| State.writes_of State.capacity_moves.1 (by decide) <|
    writes_forEach (fun _ _ => State.giveLines_moves.1) State.writes_refl

/-- The storage is gone with its words; the words of every other storage stay (R50). -/
theorem State.dropStorage_drops : mfind (s.dropStorage sid).stores sid = none ∧
    (∀ i, i ≠ sid → mfind (s.dropStorage sid).stores i = mfind s.stores i) ∧
    ∀ a, (s.dropStorage sid).readByte a = if a / 9 / 2 ^ 34 = sid then none else s.readByte a := by
  have hstores : (s.dropStorage sid).stores = mdel s.stores sid := s.dropStorage_after sid .stores (by decide)
  have hmem : (s.dropStorage sid).mem = _ := s.dropStorage_after sid .mem (by decide)
  refine ⟨by rw [hstores, mfind_mdel_same], fun i hi => by rw [hstores, mfind_mdel_other _ hi], fun a => ?_⟩
  rw [State.readByte, hmem, State.unstored, mfind_mfilter]
  by_cases ha : a / 9 / 2 ^ 34 = sid
  · rw [if_pos ha, if_neg (by simpa using ha)]
  · rw [if_neg ha, if_pos (by simpa using ha), State.readByte]

end

/-! ## ALLOC, FREE and REDIRECT -/

/-- An ALLOC whose checks pass (R34, R35, R41 to R45). -/
theorem allocate_of {s : State} {a kind cls len fill : Nat} {kd : SegKind} {k : RateClass} {chans : List Nat}
    (hk : kindClass kind cls = some (kd, k)) (h0 : len ≠ 0) (hlen : len < 2 ^ 34)
    (hfill : if kd = .slipway then fill ≠ 0 ∧ fill ≤ k.rate else fill = 0) (hseg : s.seg a = none)
    (hroom : s.segs.length < 1048576) (hadm : s.admitted + fill ≤ Config.ceiling)
    (hplace : s.place k len fill (if a = 0 then freeHandle s.segs 1048576 1 else a) = .ok chans) :
    s.allocate a kind cls len fill = .ok (if a = 0 then freeHandle s.segs 1048576 1 else a,
      s.addStorage (if a = 0 then freeHandle s.segs 1048576 1 else a) kd k len fill chans) := by
  have hrate : ¬ ((kd = .slipway ∧ (fill = 0 ∨ k.rate < fill)) ∨ (kd ≠ .slipway ∧ fill ≠ 0)) := by
    by_cases hs : kd = .slipway
    · rw [if_pos hs] at hfill
      simp only [hs, true_and, ne_eq, not_true_eq_false, false_and, or_false]
      omega
    · rw [if_neg hs] at hfill
      simp [hs, hfill]
  simp only [State.allocate, hk]
  rw [if_neg (by omega), if_neg hrate, if_neg (by simp [hseg]), if_neg (by omega), if_neg (by omega), hplace]

/-- ALLOC, accepted. -/
theorem execAlloc_of {s : State} {tag : BitVec 8} {n : Nat} {t : State} (h : s.plcTakes [24, 5, 32, 32, 32, 0])
    (ha : s.allocate (s.plcArg 0) (fieldOf (s.plcArg 1) 0 3) (fieldOf (s.plcArg 1) 3 2)
      (s.plcArg 2 + 2 ^ 32 * s.plcArg 3) (s.plcArg 4) = .ok (n, t)) :
    execAlloc tag s = .next ((t.plcRes 0 n).taken tag) := by
  have hf : ∀ o : Except Sts (Nat × State), o = .ok (n, t) → (match o with
      | .error e => s.plcReport tag.toNat e false
      | .ok (n, s1) => (s1.plcRes 0 n).plcReport tag.toNat .ok false) = (t.plcRes 0 n).plcReport tag.toNat .ok false :=
    fun o ho => by rw [ho]
  rw [execAlloc, State.plcCmd_taken h (hf _ ha)]

/-- FREE of a handle that nothing refers to and no LOAD is open on. -/
theorem execFree_of {s : State} {tag : BitVec 8} {g : Seg} (h : s.plcTakes [24, 0, 0, 0, 0, 0])
    (hg : s.seg (s.plcArg 0) = some g) (hl : s.liveNow (s.plcArg 0) = false) (hr : g.redirect = none) :
    execFree tag s = .next ((s.freeHandle (s.plcArg 0) g).taken tag) := by
  rw [execFree, State.plcCmd_taken h]
  simp [hg, hl, hr]

section
variable (s : State) (h : Nat) (g : Seg)

/-- s with handle h free, before its storage is dropped. -/
def State.unlisted : State :=
  { s.endXfers (fun d => decide (d.handle = h)) .badhandle with segs := mdel s.segs h }

theorem State.freeHandle_eq (hl : g.loads = []) : s.freeHandle h g = (s.unlisted h).dropStorage g.sid := by
  rw [State.freeHandle, hl]
  rfl

theorem State.unlisted_writes : s.writes (s.unlisted h) [.segs, .xng] := fun p hp => by
  cases p <;> first | rfl | exact absurd (by decide) hp

theorem State.freeHandle_segs (hl : g.loads = []) : (s.freeHandle h g).segs = mdel s.segs h := by
  rw [s.freeHandle_eq h g hl]
  exact State.dropStorage_moves.1 .segs (by decide)

end

/-- REDIRECT, accepted in mode 0 while no landing slot holds words of the old storage. -/
def State.redirected (s : State) (a b : Seg) : State :=
  { s with segs := mdel s.segs (fieldOf (s.plcArg 1) 0 24) }.setSeg (s.plcArg 0) { a with
    redirect := some ⟨b.sid, 0, none, s.now + 2048, s.get Reg.PLC_CFG_UPD_GRP, []⟩ }

/-- s with the results of a REDIRECT of handle h that takes effect at system time ta. -/
def State.redirectRes (s : State) (h ta : Nat) : State :=
  ((s.plcRes 0 h).plcRes 2 (ta % 2 ^ 32)).plcRes 3 (ta / 2 ^ 32)

theorem execRedirect_of {s : State} {tag : BitVec 8} {a b : Seg} (h : s.plcTakes [24, 26, 0, 0, 0, 0])
    (hm : fieldOf (s.plcArg 1) 24 2 = 0) (hc : s.redirectCheck (s.plcArg 0) (fieldOf (s.plcArg 1) 0 24) = .ok (a, b))
    (hslots : s.slotsHolding a.sid = []) :
    execRedirect tag s =
      .next (((s.redirected a b).redirectRes (s.plcArg 0) (s.sysTime (s.now + 2048))).taken tag) := by
  have hmasks : [24, 26, if fieldOf (s.plcArg 1) 24 2 = 1 then 32 else 0,
      if fieldOf (s.plcArg 1) 24 2 = 1 then 32 else 0, 0, 0] = [24, 26, 0, 0, 0, 0] := by simp [hm]
  rw [execRedirect]
  dsimp only
  rw [hmasks, State.plcCmd_taken h]
  simp only [hm, hc, hslots, State.takeSeconds]
  rfl

theorem State.redirectCheck_ne {s : State} {h n : Nat} {r : Seg × Seg} (hc : s.redirectCheck h n = .ok r) : n ≠ h := by
  intro e
  simp [State.redirectCheck, e] at hc

section
variable (s : State) (h : Nat) (g : Seg) (r : Redirect)

/-- s with handle h reaching the storage of a redirection, the old one kept. -/
def State.moved : State :=
  { s.setSeg h { g with sid := r.sid, redirect := none } with olds := s.olds ++ [⟨h, g.sid⟩] }

/-- s with the landing slots exchanged for those that read the new storage (R49). -/
def State.reslotted : State :=
  forUpto (fun s t => (s.relandLed g.sid t).gcSlots t) 16
    ((forEach (fun s q => s.switchSlot q.1 q.2.1 q.2.2) r.slots s).relandStale h g.sid)

theorem State.moved_writes : s.writes (s.moved h g r) [.segs, .olds] := fun p hp => by
  cases p <;> first | rfl | exact absurd (by decide) hp

theorem State.reslotted_writes : s.writes (s.reslotted h g r) [.ctxs, .tiles] :=
  writes_forUpto
    (State.writes_of State.relandStale_moves.1 (by decide) (writes_forEach (fun _ _ => State.switchSlot_moves.1) State.writes_refl))
    fun _ _ _ => State.writes_of State.gcSlots_moves.1 (by decide) State.relandLed_moves.1

variable {s g r} {h : BitVec 24}

/-- REDIRECT_APPLY at its time. -/
theorem execRedirectApply_of (hg : s.seg h.toNat = some g) (hr : g.redirect = some r) (hd : s.redirectDue r = true) :
    execRedirectApply h s = .next ((s.moved h.toNat g r).reslotted h.toNat g r) := by
  simp [execRedirectApply, hg, hr, hd, State.reslotted, State.moved]

end

/-- Settles O17: each command by the state it leaves, through addStorage and dropStorage. -/
theorem handlesAreAllocatedFreedAndRedirected : Obligations.HandlesAreAllocatedFreedAndRedirected := by
  unfold Obligations.HandlesAreAllocatedFreedAndRedirected
  refine ⟨?alloc, ?free, ?redirect, ?apply, ?release⟩
  case alloc =>
    intro s tag kd k htakes hk len fill h h0 hlen hfill hseg hroom hadm chans hplace
    have hexec := execAlloc_of (tag := tag) htakes (allocate_of hk h0 hlen hfill hseg hroom hadm hplace)
    have hw := State.writes_of (((s.addStorage h kd k len fill chans).plcRes 0 h).taken_writes tag) (fun _ q => q)
      (State.writes_mono State.put_writes (by decide))
    have hset := State.taken_sets ((s.addStorage h kd k len fill chans).setsFields_refl.nextMod (Reg.PLC_RES 0) 32 h rfl rfl)
      (of_decide_eq_true rfl) tag
    refine ⟨_, hexec, State.writes_of hw (by decide) (State.writes_mono State.addStorage_moves.1 (by decide)), ?_,
      fun g e => ?_, ?_, ?_, fun i e => ?_, hset.get (by simp), hset.get (by simp), hset.get (by simp), hset.get (by simp)⟩
    · rw [State.seg_of_writes hw (by decide), s.addStorage_seg]
    · rw [State.seg_of_writes hw (by decide), s.addStorage_seg_other _ _ _ _ _ _ e]
    · rw [State.store_of_writes hw (by decide), s.addStorage_store]
    · exact (hw .nextSid (by decide)).trans (s.addStorage_nextSid _ _ _ _ _ _)
    · rw [State.store_of_writes hw (by decide), s.addStorage_store_other _ _ _ _ _ _ e]
  case free =>
    intro s tag g htakes hg hl hr hloads
    have hexec := execFree_of (tag := tag) htakes hg hl hr
    obtain ⟨t, ht⟩ : ∃ t, t = s.freeHandle (s.plcArg 0) g := ⟨_, rfl⟩
    have hmoves := (State.freeHandle_moves (s := s) (x1 := s.plcArg 0) (x2 := g)).1
    have hsegs := s.freeHandle_segs (s.plcArg 0) g hloads
    have hdrops := (s.unlisted (s.plcArg 0)).dropStorage_drops g.sid
    rw [← s.freeHandle_eq _ g hloads] at hdrops
    rw [← ht] at hexec hmoves hsegs hdrops
    obtain ⟨hgone, hstores, hbytes⟩ := hdrops
    have hw := t.taken_writes tag
    have hset := State.taken_sets t.setsFields_refl (by simp) tag
    have hmem : (t.taken tag).mem = t.mem := hw .mem (by decide)
    have hst : (t.taken tag).stores = t.stores := hw .stores (by decide)
    refine ⟨_, hexec, State.writes_of hw (by decide) hmoves, ?_, fun h e => ?_, by rw [hst, hgone], fun i e => ?_,
      fun a => ?_, hset.get (by simp), hset.get (by simp), hset.get (by simp)⟩
    · rw [State.seg_of_writes hw (by decide), State.seg, hsegs, mfind_mdel_same]
    · rw [State.seg_of_writes hw (by decide), State.seg, hsegs, mfind_mdel_other _ e]
      rfl
    · rw [hst, hstores i e]
      rfl
    · rw [State.readByte, hmem]
      exact hbytes a
  case redirect =>
    intro s tag a b htakes hm h n hc hslots
    have hne := State.redirectCheck_ne hc
    have hexec := execRedirect_of (tag := tag) htakes hm hc hslots
    obtain ⟨v, hv⟩ : ∃ v, v = s.redirected a b := ⟨_, rfl⟩
    have hvw : s.writes v [.segs] := hv ▸ State.writes_of State.setSeg_moves.1 (by decide) (s.with_segs_writes _)
    have hvsegs : v.segs = mins (mdel s.segs n) h { a with
        redirect := some ⟨b.sid, 0, none, s.now + 2048, s.get Reg.PLC_CFG_UPD_GRP, []⟩ } := by rw [hv]; rfl
    rw [← hv] at hexec
    have hset := ((((State.setsFields_nil_of_regs (hvw .regs (by decide))).nextLt (Reg.PLC_RES 0) h (s.get_lt _) rfl).nextMod
      (Reg.PLC_RES 2) 32 (s.sysTime (s.now + 2048) % 2 ^ 32) rfl rfl).nextLt (Reg.PLC_RES 3) (s.sysTime (s.now + 2048) / 2 ^ 32)
      (Nat.div_lt_of_lt_mul (BitVec.isLt _)) rfl)
    rw [Nat.mod_mod] at hset
    have hres : v.writes (v.redirectRes h (s.sysTime (s.now + 2048))) [.regs] :=
      State.writes_of State.put_writes (by decide) (State.writes_of State.put_writes (by decide) State.put_writes)
    have hvr := State.writes_of hres (by decide) (State.writes_mono hvw (V := [.segs]) (W := [.regs, .segs]) (by decide))
    have hw := State.writes_of ((v.redirectRes h (s.sysTime (s.now + 2048))).taken_writes tag) (fun _ q => q)
      (State.writes_mono hres (by decide))
    refine ⟨_, hexec, State.writes_of hw (by decide) (State.writes_mono hvw (by decide)), ?_, ?_, ?_, ?_, fun k e1 e2 => ?_⟩
    · exact State.taken_mc hset (hvr .mc (by decide)) (hvr .now (by decide)) (of_decide_eq_true rfl) tag
    · exact State.taken_tells hset (of_decide_eq_true rfl) (hvr .xng (by decide)) tag
    · rw [State.seg_of_writes hw (by decide), State.seg, hvsegs, mfind_mins_other _ _ hne, mfind_mdel_same]
    · rw [State.seg_of_writes hw (by decide), State.seg, hvsegs, mfind_mins_same]
    · rw [State.seg_of_writes hw (by decide), State.seg, hvsegs, mfind_mins_other _ _ e2, mfind_mdel_other _ e1]
      rfl
  case apply =>
    intro s h g r hg hr hd
    have hw := (s.moved h.toNat g r).reslotted_writes h.toNat g r
    refine ⟨_, execRedirectApply_of hg hr hd,
      State.writes_of hw (by decide) (State.writes_mono (s.moved_writes h.toNat g r) (by decide)), ?_, hw .olds (by decide),
      fun k e => ?_⟩
    · rw [State.seg_of_writes hw (by decide)]
      exact s.seg_setSeg _ _
    · rw [State.seg_of_writes hw (by decide)]
      exact State.seg_setSeg_other _ _ e
  case release =>
    intro s h o ho
    obtain ⟨v, hv⟩ : ∃ v, v = { s with olds := s.olds.filter (fun p => decide (p ≠ o)) } := ⟨_, rfl⟩
    have hvw : s.writes v [.olds] := hv ▸ s.with_olds_writes _
    have hexec : execRedirectOldRelease h s = .next (v.dropStorage o.sid) := by
      simp only [execRedirectOldRelease, ho, hv]
    have holds : (v.dropStorage o.sid).olds = v.olds := State.dropStorage_moves.1 .olds (by decide)
    obtain ⟨hgone, hstores, hbytes⟩ := v.dropStorage_drops o.sid
    have hsto : v.stores = s.stores := hvw .stores (by decide)
    have hmem : v.mem = s.mem := hvw .mem (by decide)
    refine ⟨_, hexec, State.writes_of State.dropStorage_moves.1 (by decide) (State.writes_mono hvw (by decide)),
      by rw [holds, hv], hgone, fun i e => by rw [hstores i e, hsto], fun a => ?_⟩
    rw [hbytes a, State.readByte, hmem]
    rfl

end Sys2Proof.Machine
end

/-! # LOAD and its end (R36, R53) -/

section
namespace Sys2Proof.Machine

/-! ## LOAD accepted -/

section
variable (s : State)

/-- The transfer that the arguments of a LOAD ask for, tagged tag, on handle g's storage. -/
def State.loadAsked (tag : Nat) (g : Seg) : OpenLoad :=
  ⟨tag, decide (fieldOf (s.plcArg 1) 0 1 = 1), decide (fieldOf (s.plcArg 1) 1 1 = 1), decide (fieldOf (s.plcArg 1) 2 1 = 1),
    fieldOf (s.plcArg 1) 3 3, s.plcArg 2 + 2 ^ 32 * s.plcArg 3, s.plcArg 4 + 2 ^ 32 * s.plcArg 5, 0, 0,
    s.get Reg.TXL_PEER_MOD, s.get Reg.TXL_PEER_HANDLE, s.get Reg.TXL_PEER_OFF_LO + 2 ^ 32 * s.get Reg.TXL_PEER_OFF_HI,
    false, g.sid, []⟩

/-- A segment with one more transfer open on it. -/
def Seg.opened (g : Seg) (l : OpenLoad) : Seg :=
  { g with loads := g.loads ++ [l], loading := g.loading || l.writes
           finalDone := if l.writes && !g.loading then false else g.finalDone }

variable {s} {tag : BitVec 8} {g : Seg}

theorem execLoad_of (h : s.plcTakes [24, 6, 32, 32, 32, 32]) (hg : s.seg (s.plcArg 0) = some g)
    (hc : s.loadCheck (s.plcArg 0) g (s.loadAsked tag.toNat g).read (s.loadAsked tag.toNat g).ring
      (s.loadAsked tag.toNat g).src (s.loadAsked tag.toNat g).off (s.loadAsked tag.toNat g).count = .ok ()) :
    execLoad tag s =
      .next (((s.setSeg (s.plcArg 0) (g.opened (s.loadAsked tag.toNat g))).plcRes 0 (s.plcArg 0)).taken tag) := by
  rw [execLoad, State.plcCmd_taken h]
  simp only [State.loadAsked] at hc
  simp only [hg, hc]
  rfl

end

/-! ## A transfer that ends -/

section
variable (s : State) (h : Nat) (g : Seg) (l : OpenLoad)

/-- A segment with a transfer on it at an end, all its words moved. -/
def Seg.closed (g : Seg) (l : OpenLoad) : Seg :=
  { g with
    loads := g.loads.erase l, finalDone := g.finalDone || (l.writes && l.final && true)
    loading := g.loading && ((g.loads.erase l).any (fun x => x.writes) || g.guests.any (fun x => x.writes) ||
      !(g.finalDone || (l.writes && l.final && true))) }

theorem State.endLoad_own (e : Sts) (hsrc : l.src = 0) : s.endLoad h g l e true =
    (((s.setSeg h (g.closed l)).plcRes 0 h).plcRes 1 (satAdd32 l.poisoned 0)).plcReport l.tag e true := by
  simp only [State.endLoad, hsrc, ne_eq, not_true_eq_false, if_false, Seg.closed]

theorem Seg.closed_loading : (g.closed l).loading = true ↔ g.loading = true ∧
    ((∃ x ∈ g.loads.erase l, x.read = false ∧ x.ring = false) ∨ (∃ x ∈ g.guests, x.read = false ∧ x.ring = false) ∨
      g.finalDone = false ∧ ¬ (l.read = false ∧ l.ring = false ∧ l.final = true)) := by
  simp only [Seg.closed, OpenLoad.writes, Guest.writes, Bool.and_eq_true, Bool.or_eq_true, List.any_eq_true,
    Bool.not_eq_true', Bool.or_eq_false_iff, Bool.and_true, or_assoc]
  simp

theorem execLoadEnd_of {s : State} {h : BitVec 24} {g : Seg} {l : OpenLoad} (hg : s.seg h.toNat = some g)
    (hl : g.loads.find? (fun l => decide (l.done = l.count)) = some l) :
    execLoadEnd h s = .next (s.endLoad h.toNat g l (if 0 < l.poisoned then .poison else .ok) true) := by
  simp only [execLoadEnd, hg, hl]

end

/-- Settles O18: the segment with a transfer opened on it, and with one closed. -/
theorem loadsOpenAndEnd : Obligations.LoadsOpenAndEnd := by
  unfold Obligations.LoadsOpenAndEnd
  refine ⟨fun s tag g htakes hg hc => ?opens, fun s h g l hg hl hsrc => ?ends⟩
  case opens =>
    obtain ⟨v, hv⟩ : ∃ v, v = s.setSeg (s.plcArg 0) (g.opened (s.loadAsked tag.toNat g)) := ⟨_, rfl⟩
    have hexec := execLoad_of (tag := tag) htakes hg hc
    have hvw : s.writes v [.segs] := hv ▸ State.setSeg_moves.1
    have hseg : v.seg (s.plcArg 0) = some (g.opened (s.loadAsked tag.toNat g)) := by rw [hv, State.seg_setSeg]
    have hother : ∀ h, h ≠ s.plcArg 0 → v.seg h = s.seg h := fun h e => by rw [hv, State.seg_setSeg_other _ _ e]
    rw [← hv] at hexec
    have hset := (State.setsFields_nil_of_regs (hvw .regs (by decide))).nextLt (Reg.PLC_RES 0) (s.plcArg 0) (s.get_lt _) rfl
    have hres : s.writes (v.plcRes 0 (s.plcArg 0)) [.regs, .segs] :=
      State.writes_of State.put_writes (by decide) (State.writes_mono hvw (by decide))
    have hw := (v.plcRes 0 (s.plcArg 0)).taken_writes tag
    have hw' : v.writes ((v.plcRes 0 (s.plcArg 0)).taken tag) [.regs, .xng, .mc] :=
      State.writes_of hw (fun _ q => q) (State.writes_mono State.put_writes (by decide))
    refine ⟨_, hexec, State.writes_of hw (by decide) (State.writes_mono hres (by decide)),
      State.taken_tells hset (of_decide_eq_true rfl) (hres .xng (by decide)) tag,
      State.taken_mc hset (hres .mc (by decide)) (hres .now (by decide)) (of_decide_eq_true rfl) tag, fun h e => ?_,
      g.opened (s.loadAsked tag.toNat g), ?_, rfl, rfl, rfl, rfl, rfl⟩
    · rw [State.seg_of_writes hw' (by decide), hother h e]
    · rw [State.seg_of_writes hw' (by decide), hseg]
  case ends =>
    obtain ⟨v, hv⟩ : ∃ v, v = s.setSeg h.toNat (g.closed l) := ⟨_, rfl⟩
    have hexec := execLoadEnd_of hg hl
    have hvw : s.writes v [.segs] := hv ▸ State.setSeg_moves.1
    have hseg : v.seg h.toNat = some (g.closed l) := by rw [hv, State.seg_setSeg]
    have hother : ∀ k, k ≠ h.toNat → v.seg k = s.seg k := fun h e => by rw [hv, State.seg_setSeg_other _ _ e]
    rw [s.endLoad_own _ g l _ hsrc, ← hv] at hexec
    have hset := ((State.setsFields_nil_of_regs (hvw .regs (by decide))).nextLt (Reg.PLC_RES 0) h.toNat
      (Nat.lt_trans h.isLt (by decide)) rfl).nextLt (Reg.PLC_RES 1) (satAdd32 l.poisoned 0) (satAdd32_lt _ _) rfl
    have hres : v.writes ((v.plcRes 0 h.toNat).plcRes 1 (satAdd32 l.poisoned 0)) [.regs] :=
      State.writes_of State.put_writes (by decide) State.put_writes
    have hw := State.writes_of (State.plcReport_moves (s := (v.plcRes 0 h.toNat).plcRes 1 (satAdd32 l.poisoned 0))
      (x1 := l.tag) (x2 := if 0 < l.poisoned then .poison else .ok) (x3 := true)).1 (fun _ q => q)
      (State.writes_mono hres (by decide))
    have htells := State.plcReport_tells hset (of_decide_eq_true rfl)
      ((hres .xng (by decide)).trans (hvw .xng (by decide))) l.tag (if 0 < l.poisoned then .poison else .ok) true
    refine ⟨_, hexec, State.writes_of hw (by decide) (State.writes_mono hvw (by decide)), ?_, fun k e => ?_, g.closed l, ?_,
      rfl, rfl, rfl, g.closed_loading l⟩
    · rw [show (if 0 < l.poisoned then Sts.poison else Sts.ok).code = if 0 < l.poisoned then 0x0E else 0x00 by
        split <;> rfl] at htells
      exact htells
    · rw [State.seg_of_writes hw (by decide), hother k e]
    · rw [State.seg_of_writes hw (by decide), hseg]

end Sys2Proof.Machine
end

/-! # Ranks and migrations (R51 to R54, R252 to R257) -/

section
namespace Sys2Proof.Machine

/-! ## Fields of registers by index -/

/-- One more field set, of a register by index: its place in the word and the value's width compute. -/
theorem State.setsFields.nextAt {s t : State} {L : List (Fld × Nat)} (h : s.setsFields t L) (F : Fld) (v : Nat)
    (hL : ∀ p ∈ L, p.1.apart F) (hF : decide (F.lo + F.n ≤ 32 ∧ v < 2 ^ F.n) = true) :
    s.setsFields (t.put F v) (L ++ [(F, v)]) :=
  h.put F v (of_decide_eq_true hF).1 (of_decide_eq_true hF).2 hL

/-- One more field set, of a register by index, to what fits of a value in its n bits. -/
theorem State.setsFields.nextModAt {s t : State} {L : List (Fld × Nat)} (h : s.setsFields t L) (F : Fld) (n v : Nat)
    (hL : ∀ p ∈ L, p.1.apart F) (hn : F.n = n) (hF : decide (F.lo + F.n ≤ 32) = true) :
    s.setsFields (t.put F v) (L ++ [(F, v % 2 ^ n)]) := by
  rw [← hn, ← State.put_mod]
  exact h.put F _ (of_decide_eq_true hF) (Nat.mod_lt _ (Nat.two_pow_pos _)) hL

/-- Two more fields set, a LO and HI pair of registers by index, to a value of 64 bits. -/
theorem State.setsFields.put64At {s t : State} {L : List (Fld × Nat)} (h : s.setsFields t L) (lo hi : Fld) {v : Nat}
    (hv : v < 2 ^ 64) (hlo : ∀ p ∈ L, p.1.apart lo) (hhi : ∀ p ∈ L ++ [(lo, v % 2 ^ 32)], p.1.apart hi)
    (hl : lo.lo = 0 ∧ lo.n = 32) (hh : hi.lo = 0 ∧ hi.n = 32) :
    s.setsFields (t.put64 lo hi v) (L ++ [(lo, v % 2 ^ 32), (hi, v / 2 ^ 32)]) := by
  obtain ⟨hl0, hln⟩ := hl
  obtain ⟨hh0, hhn⟩ := hh
  have h1 := h.put lo (v % 2 ^ 32) (by omega) (by rw [hln]; exact Nat.mod_lt _ (by decide)) hlo
  have h2 := h1.put hi (v / 2 ^ 32) (by omega) (by rw [hhn]; exact Nat.div_lt_of_lt_mul hv) hhi
  rwa [List.append_assoc] at h2

/-! ## QUERY and MIGRATE -/

theorem SegKind.code_le (k : SegKind) : k.code ≤ 4 := by cases k <;> decide

theorem RateClass.code_le (k : RateClass) : k.code ≤ 2 := by cases k <;> decide

theorem State.segState_le (s : State) (h : Nat) : s.segState h ≤ 3 := by
  unfold State.segState
  split
  · omega
  · split
    · omega
    · split <;> omega

/-- Argument i holds no bit beyond those that its mask lists. -/
theorem State.plcTakes.arg_lt {s : State} {masks : List Nat} (h : s.plcTakes masks) {i : Nat} (hi : i < 6) :
    s.plcArg i < 2 ^ masks.getD i 0 := by
  have hall := List.all_eq_true.mp h.2 i (List.mem_range.mpr hi)
  exact (Nat.div_eq_zero_iff_lt (Nat.two_pow_pos _)).mp (of_decide_eq_true hall)

section
variable (s : State) (a b c : Nat)

/-- s with the four results of a QUERY. -/
def State.queried : State := (((s.plcRes 0 a).plcRes 1 b).plcRes 2 (c % 2 ^ 32)).plcRes 3 (c / 2 ^ 32)

theorem State.queried_writes : s.writes (s.queried a b c) [.regs] :=
  State.writes_of State.put_writes (by decide) <| State.writes_of State.put_writes (by decide) <|
    State.writes_of State.put_writes (by decide) State.put_writes

theorem State.queried_sets (ha : a < 2 ^ 32) : s.setsFields (s.queried a b c)
    [(Reg.PLC_RES 0, a), (Reg.PLC_RES 1, b % 2 ^ 32), (Reg.PLC_RES 2, c % 2 ^ 32), (Reg.PLC_RES 3, c / 2 ^ 32 % 2 ^ 32)] := by
  have h := (((s.setsFields_refl.nextLt (Reg.PLC_RES 0) a ha rfl).nextMod (Reg.PLC_RES 1) 32 b rfl rfl).nextMod (Reg.PLC_RES 2) 32
    (c % 2 ^ 32) rfl rfl).nextMod (Reg.PLC_RES 3) 32 (c / 2 ^ 32) rfl rfl
  rw [Nat.mod_mod] at h
  exact h

end

/-- A command that is taken and sets fields of registers only. -/
theorem State.taken_answers {c : Instr} {s v : State} {L : List (Fld × Nat)} {tag : BitVec 8}
    (hexec : exec c s = .next (v.taken tag)) (hset : s.setsFields v L) (hw : s.writes v [.regs])
    (hL : ∀ p ∈ L, p.1.apart Reg.PLC_STATUS_TAG ∧ p.1.apart Reg.PLC_STATUS_STS ∧ p.1.apart Reg.PLC_STATUS_LOAD_END)
    (hsr : ∀ p ∈ L, Reg.MEM_SR_ACTIVE.apart p.1 ∧ Reg.GLB_STATE_PROFILE.apart p.1) :
    Answers c s fun t => s.writes t [.regs, .xng, .mc] ∧ t.mc = s.memWake.mc ∧ s.plcTells t tag.toNat 0 0 L :=
  ⟨_, hexec, State.writes_of (v.taken_writes tag) (by decide) (State.writes_mono hw (by decide)),
    State.taken_mc hset (hw .mc (by decide)) (hw .now (by decide)) hsr tag,
    State.taken_tells hset hL (hw .xng (by decide)) tag⟩

section
variable {s : State} {tag : BitVec 8} {g : Seg}

/-- What QUERY reports first of handle h, of segment g (R53). -/
def State.queryHead (s : State) (h : Nat) (g : Seg) : Nat :=
  2 ^ 31 * (if g.redirect.isSome then 1 else 0) + 2 ^ 29 * s.segState h + 2 ^ 27 * (s.store g.sid).cls.code +
    2 ^ 24 * (s.store g.sid).kind.code + h

/-- The words that the oldest ferry LOAD open on a segment still has to move. -/
def Seg.left (g : Seg) : Nat :=
  match g.loads.find? (fun l => decide (l.src = 0) && decide (l.done < l.count)) with
  | some l => l.count - l.done
  | none => 0

theorem State.queryHead_lt (s : State) {h : Nat} (g : Seg) (hh : h < 2 ^ 24) : s.queryHead h g < 2 ^ 32 := by
  have h1 := s.segState_le h
  have h2 := (s.store g.sid).cls.code_le
  have h3 := (s.store g.sid).kind.code_le
  unfold State.queryHead
  split <;> omega

theorem execQuery_of (h : s.plcTakes [24, 1, 0, 0, 0, 0]) (hg : s.seg (s.plcArg 0) = some g) : execQuery tag s =
    .next ((if s.plcArg 1 = 0 then s.queried (s.queryHead (s.plcArg 0) g)
        (65536 * min (s.poisonCount g.sid) 65535 + min (s.refCount (s.plcArg 0) g.sid) 65535) (s.store g.sid).len
      else s.queried (s.queryHead (s.plcArg 0) g) g.loads.length g.left).taken tag) := by
  rw [execQuery, State.plcCmd_taken h]
  simp only [hg]
  rfl

theorem execMigrate_of {e : BitVec 20} {i : Nat} (h : s.plcTakes [24, 0, 0, 0, 0, 0])
    (hi : s.plcArg 0 = 0 ∧ i = 0 ∨ s.plcArg 0 ≠ 0 ∧ ∃ g, s.seg (s.plcArg 0) = some g ∧ g.sid = i) :
    execMigrate tag e s = .next ((s.addJob i e.toNat).taken tag) := by
  rw [execMigrate, State.plcCmd_taken h]
  rcases hi with ⟨h0, rfl⟩ | ⟨h0, g, hg, rfl⟩
  · simp only [h0]
  · simp only [hg]

/-- The count of extents to copy of a storage, with e more of them. -/
theorem State.addJob_mc (s : State) (i : Nat) (e : BitVec 20) : (s.addJob i e.toNat).mc = { s.mc with
    jobs := if e = 0 then s.mc.jobs else mins s.mc.jobs i (mget (fun _ => 0) s.mc.jobs i + e.toNat) } := by
  unfold State.addJob
  by_cases he : e = 0
  · simp [he]
  · have hne : e.toNat ≠ 0 := fun h => he (BitVec.eq_of_toNat_eq h)
    rw [if_neg hne, if_neg he]

theorem State.memWake_jobs {v : State} {j : SMap Nat} (hregs : v.regs = s.regs) (hnow : v.now = s.now)
    (hmc : v.mc = { s.mc with jobs := j }) : v.memWake.mc = { s.memWake.mc with jobs := j } := by
  simp only [State.memWake, State.get_congr hregs, hnow, hmc]

end

/-! ## READMIT -/

section
variable {s : State} {tag : BitVec 8}

/-- s with rank r under test (R257). -/
def State.testing (s : State) (r : Nat) : State :=
  ((s.put Reg.GLB_STATE_UNLOCKED 0).put (Reg.RANK_STATE_STATE r) 4).put Reg.MEM_STATUS_TRAINING 1

theorem State.testing_sets (s : State) (r : Nat) : s.setsFields (s.testing r)
    [(Reg.GLB_STATE_UNLOCKED, 0), (Reg.RANK_STATE_STATE r, 4), (Reg.MEM_STATUS_TRAINING, 1)] :=
  ((s.setsFields_refl.next Reg.GLB_STATE_UNLOCKED 0 rfl).nextAt (Reg.RANK_STATE_STATE r) 4
    (by simp [Fld.apart, Reg.RANK_STATE_STATE, Reg.GLB_STATE_UNLOCKED]) rfl).nextAt Reg.MEM_STATUS_TRAINING 1
    (by simp [Fld.apart, Reg.RANK_STATE_STATE, Reg.GLB_STATE_UNLOCKED, Reg.MEM_STATUS_TRAINING]; omega) rfl

theorem State.testing_writes (s : State) (r : Nat) : s.writes (s.testing r) [.regs] :=
  State.writes_of State.put_writes (by decide) (State.writes_of State.put_writes (by decide) State.put_writes)

theorem State.plcTakes.unlocked {masks : List Nat} (h : s.plcTakes masks) : (s.put Reg.GLB_STATE_UNLOCKED 0).plcTakes masks := by
  have harg : ∀ i, (s.put Reg.GLB_STATE_UNLOCKED 0).plcArg i = s.plcArg i := fun i =>
    State.get_put_other s _ (by simp [Reg.PLC_ARG, Reg.GLB_STATE_UNLOCKED]; omega)
  exact ⟨(State.get_put_other s _ (by decide)).trans h.1, by simp only [State.plcArgsOk, harg]; exact h.2⟩

theorem execReadmit_of (hu : s.get Reg.GLB_STATE_UNLOCKED = 1) (h : s.plcTakes [32, 0, 0, 0, 0, 0]) (hr : s.plcArg 0 < 192)
    (hst : s.rankSt (s.plcArg 0) = 3) : execReadmit tag s = .next ((s.testing (s.plcArg 0)).taken tag) := by
  have harg : (s.put Reg.GLB_STATE_UNLOCKED 0).plcArg 0 = s.plcArg 0 := State.get_put_other s _ (by decide)
  have hrank : (s.put Reg.GLB_STATE_UNLOCKED 0).rankSt (s.plcArg 0) = 3 :=
    (State.get_put_other s _ (by simp [Reg.RANK_STATE_STATE, Reg.GLB_STATE_UNLOCKED]; omega)).trans hst
  rw [execReadmit, State.guarded_of_unlocked hu, State.plcCmd_taken h.unlocked]
  dsimp only
  rw [harg, if_neg (by omega), if_neg (by simp [hrank])]
  rfl

end

/-! ## Ranks -/

theorem any_rank (p : Nat → Bool) : (upto 192).any p = true ↔ ∃ q < 192, p q = true := by
  simp [upto]

section
variable (s : State) (r : Nat)

theorem State.rankRetired_sets : s.setsFields (s.rankRetired r) [(Reg.RANK_STATE_STATE r, 3),
    (Reg.RANK_RET_TIME_LO r, s.sysTime s.now % 2 ^ 32), (Reg.RANK_RET_TIME_HI r, s.sysTime s.now / 2 ^ 32)] := by
  have h := (((State.setsFields_nil_of_regs (s := s) (t := { s with mc := { s.mc with
      moving := s.mc.moving.filter (fun q => decide (q ≠ r))
      retAt := mdel s.mc.retAt r } }) rfl).nextAt (Reg.RANK_STATE_STATE r) 3 (by simp) rfl).put64At (Reg.RANK_RET_TIME_LO r)
    (Reg.RANK_RET_TIME_HI r) (v := s.sysTime s.now) (BitVec.isLt _)
    (by simp [Fld.apart, Reg.RANK_STATE_STATE, Reg.RANK_RET_TIME_LO])
    (by simp [Fld.apart, Reg.RANK_STATE_STATE, Reg.RANK_RET_TIME_LO, Reg.RANK_RET_TIME_HI]) ⟨rfl, rfl⟩ ⟨rfl, rfl⟩)
  exact h

/-- What a setsFields says of the state of another rank. -/
theorem State.rankSt_congr {t : State} {L : List (Fld × Nat)} (h : s.setsFields t L) {q : Nat}
    (hL : ∀ p ∈ L, (Reg.RANK_STATE_STATE q).apart p.1) : t.rankSt q = s.rankSt q :=
  h.get_apart fun g hg => by
    obtain ⟨p, hp, rfl⟩ := List.mem_map.mp hg
    exact hL p hp

/-- Whether training goes on, besides that of rank r (R257). -/
def State.trainingBeside : Bool :=
  s.mc.retrain.isSome || (upto 192).any (fun q => decide (q ≠ r ∧ s.rankSt q = 4))

variable {s r}

theorem State.judgeTraining_sets {u : State} {L : List (Fld × Nat)} (h : s.setsFields u L)
    (hL : ∀ p ∈ L, p.1.apart Reg.MEM_STATUS_TRAINING) (hret : u.mc.retrain = s.mc.retrain) (hr : u.rankSt r ≠ 4)
    (hst : ∀ q, q ≠ r → u.rankSt q = s.rankSt q) :
    s.setsFields u.judgeTraining (L ++ [(Reg.MEM_STATUS_TRAINING, bit (s.trainingBeside r))]) := by
  have hany : (upto 192).any (fun q => decide (u.rankSt q = 4)) =
      (upto 192).any (fun q => decide (q ≠ r ∧ s.rankSt q = 4)) := by
    rw [Bool.eq_iff_iff, any_rank, any_rank]
    refine exists_congr fun q => and_congr_right fun _ => ?_
    by_cases e : q = r
    · subst e
      simp [hr]
    · rw [hst q e]
      simp [e]
  have hbit : bit (u.mc.retrain.isSome || (upto 192).any (fun q => decide (u.rankSt q = 4))) = bit (s.trainingBeside r) := by
    rw [State.trainingBeside, hret, hany]
  rw [← hbit]
  exact h.put _ _ (by decide) (bit_lt _) hL

variable (s r)

/-! ## The end of a READMIT's test -/

theorem State.readmitFailed_sets (e : Sts) : s.setsFields (s.readmitFailed r e) [(Reg.RANK_STATE_STATE r, 3),
    (Reg.RANK_RET_TIME_LO r, s.sysTime s.now % 2 ^ 32), (Reg.RANK_RET_TIME_HI r, s.sysTime s.now / 2 ^ 32),
    (Reg.RANK_STATE_STS r, e.code)] := by
  have h := (s.rankRetired_sets r).put (Reg.RANK_STATE_STS r) e.code (of_decide_eq_true rfl) (Sts.code_lt e)
    (by simp [Fld.apart, Reg.RANK_STATE_STATE, Reg.RANK_RET_TIME_LO, Reg.RANK_RET_TIME_HI, Reg.RANK_STATE_STS])
  exact h

theorem State.readmitFailed_mc (e : Sts) : (s.readmitFailed r e).mc = { s.mc with
    moving := s.mc.moving.filter (fun q => decide (q ≠ r)), retAt := mdel s.mc.retAt r } := by
  rw [State.readmitFailed, State.put_mc, State.rankRetired, State.put64, State.put_mc, State.put_mc, State.put_mc]

theorem State.readmitFailed_writes (e : Sts) : s.writes (s.readmitFailed r e) [.regs, .mc] :=
  State.writes_of State.put_writes (by decide) State.rankRetired_moves.1

/-- A readmission that has failed leaves the rank RETIRED, with the time and the reason (R257). -/
theorem State.readmitFailed_judged {u : State} {L : List (Fld × Nat)} (h : s.setsFields u L) (hw : s.writes u [.free, .regs])
    (hL : ∀ p ∈ L, ∀ g ∈ [Reg.RANK_STATE_STATE r, Reg.RANK_RET_TIME_LO r, Reg.RANK_RET_TIME_HI r, Reg.RANK_STATE_STS r,
      Reg.MEM_STATUS_TRAINING], p.1.apart g) (hst : ∀ q, q ≠ r → ∀ p ∈ L, (Reg.RANK_STATE_STATE q).apart p.1) (e : Sts) :
    s.setsFields (u.readmitFailed r e).judgeTraining (L ++ [(Reg.RANK_STATE_STATE r, 3),
      (Reg.RANK_RET_TIME_LO r, s.sysTime s.now % 2 ^ 32), (Reg.RANK_RET_TIME_HI r, s.sysTime s.now / 2 ^ 32),
      (Reg.RANK_STATE_STS r, e.code)] ++ [(Reg.MEM_STATUS_TRAINING, bit (s.trainingBeside r))]) := by
  have htime : u.sysTime u.now = s.sysTime s.now := by
    rw [State.sysTime, State.sysTime, show u.now = s.now from hw .now (by decide),
      show u.timeOff = s.timeOff from hw .timeOff (by decide)]
  have hset := h.trans (u.readmitFailed_sets r e) fun p hp g hg => hL p hp g (by
    simp only [List.map_cons, List.map_nil] at hg
    exact List.mem_append_left [Reg.MEM_STATUS_TRAINING] hg)
  rw [htime] at hset
  refine State.judgeTraining_sets hset (List.forall_mem_append.mpr ⟨fun p hp => hL p hp _ (by simp), ?_⟩) ?_ ?_
    fun q e => s.rankSt_congr hset (List.forall_mem_append.mpr ⟨hst q e, ?_⟩)
  · simp [Fld.apart, Reg.RANK_STATE_STATE, Reg.RANK_RET_TIME_LO, Reg.RANK_RET_TIME_HI, Reg.RANK_STATE_STS,
      Reg.MEM_STATUS_TRAINING]
    omega
  · rw [u.readmitFailed_mc r e, show u.mc = s.mc from hw .mc (by decide)]
  · rw [State.rankSt, (u.readmitFailed_sets r e).get (f := Reg.RANK_STATE_STATE r) (v := 3) (by simp)]
    decide
  · simp [Fld.apart, Reg.RANK_STATE_STATE, Reg.RANK_RET_TIME_LO, Reg.RANK_RET_TIME_HI, Reg.RANK_STATE_STS]
    omega

end

end Sys2Proof.Machine
end

/-! # Readmission and migration of extents (R51, R252 to R257) -/

section
namespace Sys2Proof.Machine

/-! ## Capacity and flags -/

theorem forUpto_id {f : State → Nat → State} {n : Nat} {s : State} (h : ∀ k, k < n → f s k = s) : forUpto f n s = s := by
  induction n with
  | zero => rfl
  | succ n ih => rw [forUpto, ih fun k hk => h k (by omega), h n (by omega)]

section
variable (s : State)

/-- With no migration in hand nothing waits for capacity. -/
theorem State.capacity_of_idle {s : State} (hm : s.mc.moving = []) (hl : s.mc.lost = []) : s.capacity = s := by
  have h1 : forUpto (fun s r => if s.mc.moving.contains r then s.startCopy r else s) 192 s = s :=
    forUpto_id fun k _ => by simp [hm]
  rw [State.capacity, h1]
  exact forUpto_id fun k _ => by simp [hl]

/-- With no rank leaving service, none is RETIRED. -/
theorem State.settleRanks_of_none {s : State} (h : ∀ q, q < 192 → s.rankLeaving q = false) : s.settleRanks = s.rankFlags :=
  congrArg State.rankFlags (forUpto_id fun q hq => by simp [h q hq])

theorem State.firstExt_congr {s t : State} (h : t.mc = s.mc) (r : Nat) : t.firstExt r = s.firstExt r := by
  simp only [State.firstExt, h]

theorem State.noSpare_congr {s t : State} (h : t.mc = s.mc) : t.noSpare = s.noSpare := by
  simp only [State.noSpare, h, State.firstExt_congr h]

theorem State.rankFlags_sets : s.setsFields s.rankFlags [
    (Reg.MEM_STATUS_RETIRING, bit ((upto 192).any (fun r => s.rankLeaving r))),
    (Reg.MEM_STATUS_DEGRADED, bit ((upto 192).any (fun r => decide (s.rankSt r = 5)))),
    (Reg.MEM_STATUS_NOSPARE, bit s.noSpare)] := by
  have h1 := s.setsFields_refl.nextLt Reg.MEM_STATUS_RETIRING (bit ((upto 192).any (fun r => s.rankLeaving r))) (bit_lt _) rfl
  have hst : ∀ r, (s.put Reg.MEM_STATUS_RETIRING (bit ((upto 192).any (fun r => s.rankLeaving r)))).rankSt r = s.rankSt r :=
    fun r => s.rankSt_congr h1 (by simp [Fld.apart, Reg.RANK_STATE_STATE, Reg.MEM_STATUS_RETIRING])
  have h2 := h1.nextLt Reg.MEM_STATUS_DEGRADED (bit ((upto 192).any (fun r => decide (s.rankSt r = 5)))) (bit_lt _) rfl
  have h3 := h2.nextLt Reg.MEM_STATUS_NOSPARE (bit s.noSpare) (bit_lt _) rfl
  have heq : s.rankFlags = ((s.put Reg.MEM_STATUS_RETIRING (bit ((upto 192).any (fun r => s.rankLeaving r)))).put
      Reg.MEM_STATUS_DEGRADED (bit ((upto 192).any (fun r => decide (s.rankSt r = 5))))).put Reg.MEM_STATUS_NOSPARE
      (bit s.noSpare) := by
    simp only [State.rankFlags, hst]
    exact congrArg (fun b => State.put _ Reg.MEM_STATUS_NOSPARE (bit b))
      (State.noSpare_congr (by rw [State.put_mc, State.put_mc]))
  rw [heq]
  exact h3

/-- With no rank leaving and no migration in hand, the flags are clear. -/
theorem State.rankFlags_clear {s : State} (h : ∀ q, q < 192 → s.rankLeaving q = false) (hm : s.mc.moving = [])
    (hl : s.mc.lost = []) : s.setsFields s.rankFlags
      [(Reg.MEM_STATUS_RETIRING, 0), (Reg.MEM_STATUS_DEGRADED, 0), (Reg.MEM_STATUS_NOSPARE, 0)] := by
  have h1 : (upto 192).any (fun r => s.rankLeaving r) = false := by
    simpa [upto] using h
  have h2 : (upto 192).any (fun r => decide (s.rankSt r = 5)) = false := by
    refine Bool.eq_false_iff.mpr fun hc => ?_
    obtain ⟨q, hq, h5⟩ := (any_rank _).mp hc
    have := h q hq
    simp_all [State.rankLeaving]
  have h3 : s.noSpare = false := by simp [State.noSpare, hm, hl]
  have hf := s.rankFlags_sets
  rwa [h1, h2, h3] at hf

end

/-! ## A readmission that passes -/

section
variable (s : State) (r : Nat)

/-- s with rank r a spare, its eye measured and no cause. -/
def State.spared : State :=
  (((s.measureEye r).put (Reg.RANK_STATE_STATE r) 1).put (Reg.RANK_STATE_STS r) Sts.ok.code).put (Reg.RANK_STATE_CAUSE r) 0

theorem State.measureEye_sets : s.setsFields (s.measureEye r) [(Reg.RANK_EYE_WIDTH r, s.drawFree.1.toNat % 2 ^ 16),
    (Reg.RANK_EYE_UI r, s.drawFree.1.toNat / 2 ^ 16 % 2 ^ 16)] := by
  have h := ((State.setsFields_nil_of_regs (s := s) (t := s.drawFree.2) rfl).nextModAt (Reg.RANK_EYE_WIDTH r) 16
    s.drawFree.1.toNat (by simp) rfl rfl).nextModAt (Reg.RANK_EYE_UI r) 16 (s.drawFree.1.toNat / 2 ^ 16)
    (by simp [Fld.apart, Reg.RANK_EYE_WIDTH, Reg.RANK_EYE_UI]) rfl rfl
  exact h

theorem State.spared_sets : s.setsFields (s.spared r) [(Reg.RANK_EYE_WIDTH r, s.drawFree.1.toNat % 2 ^ 16),
    (Reg.RANK_EYE_UI r, s.drawFree.1.toNat / 2 ^ 16 % 2 ^ 16), (Reg.RANK_STATE_STATE r, 1), (Reg.RANK_STATE_STS r, 0),
    (Reg.RANK_STATE_CAUSE r, 0)] := by
  have h := (((s.measureEye_sets r).nextAt (Reg.RANK_STATE_STATE r) 1
    (by simp [Fld.apart, Reg.RANK_EYE_WIDTH, Reg.RANK_EYE_UI, Reg.RANK_STATE_STATE]) rfl).nextAt (Reg.RANK_STATE_STS r) 0
    (by simp [Fld.apart, Reg.RANK_EYE_WIDTH, Reg.RANK_EYE_UI, Reg.RANK_STATE_STATE, Reg.RANK_STATE_STS]) rfl).nextAt
    (Reg.RANK_STATE_CAUSE r) 0 (by
      simp [Fld.apart, Reg.RANK_EYE_WIDTH, Reg.RANK_EYE_UI, Reg.RANK_STATE_STATE, Reg.RANK_STATE_STS, Reg.RANK_STATE_CAUSE]) rfl
  exact h

theorem State.spared_writes : s.writes (s.spared r) [.free, .regs] :=
  State.writes_of State.put_writes (by decide) <| State.writes_of State.put_writes (by decide) <|
    State.writes_of State.put_writes (by decide) State.measureEye_moves.1

theorem State.clearRecord_of_open {s : State} (hb : s.get Reg.NVS_SUPPLY_NV_BLOCK = 0) (r : Nat) : s.clearRecord r = { s with
    mc := { s.mc with records := s.mc.records.filter (fun p => decide (p.1 ≠ r)) },
    pw := { s.pw with retired := s.pw.retired.filter (fun p => decide (p.1 ≠ r)) } } := by
  simp [State.clearRecord, hb]

variable {s} {r : RankNo}

/-- The end of a test that finds no setting, and of one with a pattern in error. -/
theorem execReadmitTestEnd_failed (h4 : s.rankSt r.val = 4) (passed : Bool) :
    execReadmitTestEnd r false passed s = .next (s.readmitFailed r .trainfail).judgeTraining ∧
    execReadmitTestEnd r true false s = .next ((s.measureEye r).readmitFailed r .precond).judgeTraining := by
  constructor <;> simp [execReadmitTestEnd, h4]

theorem State.with_mc_pw_writes (s : State) (x : MemSt) (y : Power) : s.writes { s with mc := x, pw := y } [.mc, .pw] :=
  fun p hp => by cases p <;> first | rfl | exact absurd (by decide) hp

/-- s with rank r a spare whose retirement the MRAM forgets. -/
def State.forgotten (s : State) (r : Nat) : State := { s.spared r with
  mc := { s.mc with records := s.mc.records.filter (fun p => decide (p.1 ≠ r)) }
  pw := { s.pw with retired := s.pw.retired.filter (fun p => decide (p.1 ≠ r)) } }

theorem State.forgotten_sets (s : State) (r : Nat) : s.setsFields (s.forgotten r) [
    (Reg.RANK_EYE_WIDTH r, s.drawFree.1.toNat % 2 ^ 16), (Reg.RANK_EYE_UI r, s.drawFree.1.toNat / 2 ^ 16 % 2 ^ 16),
    (Reg.RANK_STATE_STATE r, 1), (Reg.RANK_STATE_STS r, 0), (Reg.RANK_STATE_CAUSE r, 0)] :=
  have hregs : (s.forgotten r).regs = (s.spared r).regs := by rw [State.forgotten]
  (s.spared_sets r).of_regs hregs

theorem State.forgotten_writes (s : State) (r : Nat) : s.writes (s.forgotten r) [.free, .regs, .mc, .pw] :=
  State.writes_of (State.with_mc_pw_writes _ _ _) (by decide) (State.writes_mono (s.spared_writes r) (by decide))

theorem State.clearRecord_spared (hb : s.get Reg.NVS_SUPPLY_NV_BLOCK = 0) : (s.spared r).clearRecord r = s.forgotten r := by
  rw [State.clearRecord_of_open (((s.spared_sets r.val).get_apart (by
    simp [Fld.apart, Reg.RANK_EYE_WIDTH, Reg.RANK_EYE_UI, Reg.RANK_STATE_STATE, Reg.RANK_STATE_STS, Reg.RANK_STATE_CAUSE,
      Reg.NVS_SUPPLY_NV_BLOCK]; omega)).trans hb)]
  rw [show (s.spared r.val).mc = s.mc from s.spared_writes r.val .mc (by decide),
    show (s.spared r.val).pw = s.pw from s.spared_writes r.val .pw (by decide)]
  rfl

theorem State.forgotten_rankSt (q : Nat) (hq : q ≠ r.val) : (s.forgotten r.val).rankSt q = s.rankSt q :=
  s.rankSt_congr (s.forgotten_sets r.val) (by
    simp [Fld.apart, Reg.RANK_EYE_WIDTH, Reg.RANK_EYE_UI, Reg.RANK_STATE_STATE, Reg.RANK_STATE_STS, Reg.RANK_STATE_CAUSE]
    omega)

theorem State.forgotten_leaving (hleave : ∀ q, q < 192 → s.rankLeaving q = false) (q : Nat) (hq : q < 192) :
    (s.forgotten r.val).rankLeaving q = false := by
  by_cases e : q = r.val
  · have h1 : (s.forgotten r.val).rankSt q = 1 := by
      rw [e]
      exact (s.forgotten_sets r.val).get (by simp)
    simp [State.rankLeaving, h1]
  · rw [State.rankLeaving, State.forgotten_rankSt q e]
    exact hleave q hq

variable (hm : s.mc.moving = []) (hl : s.mc.lost = []) (hleave : ∀ q, q < 192 → s.rankLeaving q = false)
include hm hl hleave

/-- A rank whose test passes is a spare, and its retirement is forgotten (R257). -/
theorem execReadmitTestEnd_passed (h4 : s.rankSt r.val = 4) (hb : s.get Reg.NVS_SUPPLY_NV_BLOCK = 0) :
    execReadmitTestEnd r true true s = .next (s.forgotten r.val).rankFlags.judgeTraining := by
  have hexec : execReadmitTestEnd r true true s =
      .next (((s.spared r).clearRecord r).capacity.settleRanks).judgeTraining := by
    simp [execReadmitTestEnd, h4, State.spared]
  rw [hexec, State.clearRecord_spared hb, State.capacity_of_idle (s := s.forgotten r.val) hm hl,
    State.settleRanks_of_none (State.forgotten_leaving hleave)]

theorem State.readmitted_sets : s.setsFields (s.forgotten r.val).rankFlags.judgeTraining ([
    (Reg.RANK_EYE_WIDTH r, s.drawFree.1.toNat % 2 ^ 16), (Reg.RANK_EYE_UI r, s.drawFree.1.toNat / 2 ^ 16 % 2 ^ 16),
    (Reg.RANK_STATE_STATE r, 1), (Reg.RANK_STATE_STS r, 0), (Reg.RANK_STATE_CAUSE r, 0)] ++
    [(Reg.MEM_STATUS_RETIRING, 0), (Reg.MEM_STATUS_DEGRADED, 0), (Reg.MEM_STATUS_NOSPARE, 0)] ++
    [(Reg.MEM_STATUS_TRAINING, bit (s.trainingBeside r.val))]) := by
  have hflags := State.rankFlags_clear (State.forgotten_leaving (r := r) hleave) hm hl
  have hset := (s.forgotten_sets r.val).trans hflags (by
    simp [Fld.apart, Reg.RANK_EYE_WIDTH, Reg.RANK_EYE_UI, Reg.RANK_STATE_STATE, Reg.RANK_STATE_STS, Reg.RANK_STATE_CAUSE,
      Reg.MEM_STATUS_RETIRING, Reg.MEM_STATUS_DEGRADED, Reg.MEM_STATUS_NOSPARE]; omega)
  have hst : ∀ q, (s.forgotten r.val).rankFlags.rankSt q = (s.forgotten r.val).rankSt q := fun q =>
    (s.forgotten r.val).rankSt_congr hflags (by
      simp [Fld.apart, Reg.RANK_STATE_STATE, Reg.MEM_STATUS_RETIRING, Reg.MEM_STATUS_DEGRADED, Reg.MEM_STATUS_NOSPARE])
  refine State.judgeTraining_sets hset ?_ ?_ ?_ fun q hq => (hst q).trans (State.forgotten_rankSt q hq)
  · simp [Fld.apart, Reg.RANK_EYE_WIDTH, Reg.RANK_EYE_UI, Reg.RANK_STATE_STATE, Reg.RANK_STATE_STS, Reg.RANK_STATE_CAUSE,
      Reg.MEM_STATUS_RETIRING, Reg.MEM_STATUS_DEGRADED, Reg.MEM_STATUS_NOSPARE, Reg.MEM_STATUS_TRAINING]
    omega
  · rw [show (s.forgotten r.val).rankFlags.mc = (s.forgotten r.val).mc from State.rankFlags_moves.1 .mc (by decide)]
    rfl
  · rw [hst, State.rankSt, (s.forgotten_sets r.val).get (f := Reg.RANK_STATE_STATE r) (v := 1) (by simp)]
    decide

end

/-! ## Migration -/

section
variable {s : State} {r : RankNo} {e : BitVec 20}

/-- The first leaving rank of a cycle starts to move. -/
theorem execMigrationStart_of (hr : s.rankLeaving r.val = true) (hm : r.val ∉ s.mc.moving)
    (hlow : ∀ q, q < r.val → s.rankLeaving q = true → q ∈ s.mc.moving ∨ mfind s.mc.retAt q ≠ mfind s.mc.retAt r.val) :
    execMigrationStart (some r) e s = .next (s.startMoving r.val).rankFlags := by
  have hnone : (upto r.val).filter (fun q => s.rankLeaving q && !s.mc.moving.contains q &&
      decide (mfind s.mc.retAt q = mfind s.mc.retAt r.val)) = [] := by
    refine List.filter_eq_nil_iff.mpr fun q hq hc => ?_
    simp only [Bool.and_eq_true, Bool.not_eq_true', decide_eq_true_eq, List.contains_eq_mem, decide_eq_false_iff_not] at hc
    obtain ⟨⟨h1, h2⟩, h3⟩ := hc
    exact (hlow q (List.mem_range.mp hq) h1).elim h2 fun h => h h3
  simp only [execMigrationStart, hr, hnone]
  simp [hm, forEach]

end

section
variable {v : State} {r : Nat} (hc : mfind v.mc.copies r = none)
include hc

theorem State.startCopy_of_none (h : v.firstExt r = none) : v.startCopy r = v := by
  simp [State.startCopy, hc, h]

theorem State.startCopy_of_noTarget {i : Nat} {x : Ext} (h : v.firstExt r = some (i, x)) (ht : v.target i r = none) :
    v.startCopy r = v := by
  simp [State.startCopy, hc, h, ht]

theorem State.startCopy_of_target {i q : Nat} {x : Ext} (h : v.firstExt r = some (i, x)) (ht : v.target i r = some q) :
    v.startCopy r = { (v.enlist q).extMore q with mc := { ((v.enlist q).extMore q).mc with
      copies := mins ((v.enlist q).extMore q).mc.copies r (i, q) } } := by
  simp [State.startCopy, hc, h, ht]

end

/-- The first extent of a rank waits for a target. -/
theorem State.noSpare_of {v : State} {r i : Nat} {x : Ext} (hr : r ∈ v.mc.moving) (h : v.firstExt r = some (i, x))
    (hc : mfind v.mc.copies r = none) : v.noSpare = true := by
  simp only [State.noSpare, Bool.or_eq_true, List.any_eq_true]
  exact .inr ⟨r, hr, by simp [h, hc]⟩

section
variable (v : State) {q : Nat}

/-- A spare that takes an extent comes into service, with one extent more. -/
theorem State.enlist_get {f : Fld} (hf : f.apart (Reg.RANK_STATE_STATE q)) : (v.enlist q).get f = v.get f := by
  unfold State.enlist
  split
  · exact State.get_put_of_apart v _ (of_decide_eq_true rfl) hf
  · rfl

theorem State.extMore_enlist_used (h : v.get (Reg.RANK_STATE_EXT_USED q) < 4095) :
    ((v.enlist q).extMore q).get (Reg.RANK_STATE_EXT_USED q) = v.get (Reg.RANK_STATE_EXT_USED q) + 1 ∧
    ∀ p, p ≠ q → ((v.enlist q).extMore q).get (Reg.RANK_STATE_EXT_USED p) = v.get (Reg.RANK_STATE_EXT_USED p) := by
  have hused : ∀ p, (v.enlist q).get (Reg.RANK_STATE_EXT_USED p) = v.get (Reg.RANK_STATE_EXT_USED p) := fun p =>
    v.enlist_get (by simp [Fld.apart, Reg.RANK_STATE_EXT_USED, Reg.RANK_STATE_STATE])
  refine ⟨?_, fun p hp => ?_⟩
  · rw [State.extMore, State.get_put _ _ _ (of_decide_eq_true rfl), hused]
    exact Nat.mod_eq_of_lt (by simp only [Reg.RANK_STATE_EXT_USED] at h ⊢; omega)
  · rw [State.extMore, State.get_put_other _ _ (by simp [Reg.RANK_STATE_EXT_USED]; omega), hused]

end

/-! ## An extent copied -/

theorem State.startCopy_exts (s : State) (r : Nat) : (s.startCopy r).mc.exts = s.mc.exts := by
  unfold State.startCopy
  split
  · rfl
  · split
    · rfl
    · split
      · rfl
      · next q _ =>
        dsimp only
        rw [show ((s.enlist q).extMore q).mc = s.mc from
          State.writes_of State.extMore_moves.1 (by decide) State.enlist_moves.1 .mc (by decide)]

theorem State.settleRanks_exts (s : State) : s.settleRanks.mc.exts = s.mc.exts := by
  have h : ∀ n, (forUpto (fun s r => if s.rankLeaving r && decide (s.get (Reg.RANK_STATE_EXT_USED r) = 0) then s.rankRetired r
      else s) n s).mc.exts = s.mc.exts := fun n => by
    induction n with
    | zero => rfl
    | succ n ih =>
      rw [forUpto, ← ih]
      split
      · rw [State.rankRetired, State.put64, State.put_mc, State.put_mc, State.put_mc]
      · rfl
  rw [← h 192]
  exact congrArg MemSt.exts (State.rankFlags_moves.1 .mc (by decide))

theorem State.copyDone_ext (s : State) (r i q : Nat) (x : Ext) : (s.copyDone r i q x).ext i = some { x with rank := q } ∧
    ∀ j, j ≠ i → (s.copyDone r i q x).ext j = s.ext j := by
  have h : (s.copyDone r i q x).mc.exts = mins s.mc.exts i { x with rank := q } := by
    rw [State.copyDone, State.settleRanks_exts, State.startCopy_exts, State.extLess, State.put_mc]
    rfl
  exact ⟨by rw [State.ext, h, mfind_mins_same], fun j hj => by rw [State.ext, h, mfind_mins_other _ _ hj, State.ext]⟩

/-! ## The clauses -/

section
variable (s : State)

theorem readmitTestEnd_answers (rank : RankNo) (passed : Bool) (h4 : s.rankSt rank.val = 4) :
    let r := rank.val
    let n := s.sysTime s.now
    let retired := [(Reg.RANK_STATE_STATE r, 3), (Reg.RANK_RET_TIME_LO r, n % 2 ^ 32), (Reg.RANK_RET_TIME_HI r, n / 2 ^ 32),
      (Reg.MEM_STATUS_TRAINING, bit (s.trainingBeside r))]
    let mc := { s.mc with moving := s.mc.moving.filter (fun q => decide (q ≠ r)), retAt := mdel s.mc.retAt r }
    (Answers (.readmitTestEnd rank false passed) s fun t =>
      s.writes t [.regs, .mc] ∧ t.mc = mc ∧ s.setsFields t (retired ++ [(Reg.RANK_STATE_STS r, 0x0D)])) ∧
    (Answers (.readmitTestEnd rank true false) s fun t =>
      s.writes t [.free, .regs, .mc] ∧ t.mc = mc ∧
      s.setsFields t (retired ++ [(Reg.RANK_STATE_STS r, 0x06), (Reg.RANK_EYE_WIDTH r, t.get (Reg.RANK_EYE_WIDTH r)),
        (Reg.RANK_EYE_UI r, t.get (Reg.RANK_EYE_UI r))])) := by
  intro r n retired mc
  obtain ⟨hnone, hbad⟩ := execReadmitTestEnd_failed h4 passed
  refine ⟨⟨_, hnone, ?_, ?_, ?_⟩, ⟨_, hbad, ?_, ?_, ?_⟩⟩
  · exact State.writes_of State.judgeTraining_moves.1 (by decide) (s.readmitFailed_writes r _)
  · rw [State.judgeTraining, State.put_mc]
    exact s.readmitFailed_mc r _
  · have h := s.readmitFailed_judged r s.setsFields_refl State.writes_refl (by simp) (by simp) .trainfail
    exact h.congr (by simp [retired, r, n, Sts.code]) (by simp [retired, r])
  · exact State.writes_of State.judgeTraining_moves.1 (by decide) <|
      State.writes_of ((s.measureEye r).readmitFailed_writes r _) (by decide) (State.writes_mono State.measureEye_moves.1 (by decide))
  · rw [State.judgeTraining, State.put_mc]
    exact (s.measureEye r).readmitFailed_mc r _
  · have h := s.readmitFailed_judged r (s.measureEye_sets r) State.measureEye_moves.1
      (by simp [Fld.apart, Reg.RANK_EYE_WIDTH, Reg.RANK_EYE_UI, Reg.RANK_STATE_STATE, Reg.RANK_RET_TIME_LO,
        Reg.RANK_RET_TIME_HI, Reg.RANK_STATE_STS, Reg.MEM_STATUS_TRAINING]; omega)
      (by simp [Fld.apart, Reg.RANK_EYE_WIDTH, Reg.RANK_EYE_UI, Reg.RANK_STATE_STATE]; omega) .precond
    have hw : _ = s.drawFree.1.toNat % 2 ^ 16 := h.get (f := Reg.RANK_EYE_WIDTH r) (by simp)
    have hu : _ = s.drawFree.1.toNat / 2 ^ 16 % 2 ^ 16 := h.get (f := Reg.RANK_EYE_UI r) (by simp)
    rw [hw, hu]
    exact h.congr (by simp [retired, r, n, Sts.code]) (by simp [retired, r])

theorem readmitted_answers (rank : RankNo) (h4 : s.rankSt rank.val = 4) (hb : s.get Reg.NVS_SUPPLY_NV_BLOCK = 0)
    (hm : s.mc.moving = []) (hl : s.mc.lost = []) (hleave : ∀ q, q < 192 → s.rankLeaving q = false) :
    let r := rank.val
    Answers (.readmitTestEnd rank true true) s fun t =>
      s.writes t [.free, .regs, .mc, .pw] ∧
      s.setsFields t [(Reg.RANK_STATE_STATE r, 1), (Reg.RANK_STATE_STS r, 0), (Reg.RANK_STATE_CAUSE r, 0),
        (Reg.RANK_EYE_WIDTH r, t.get (Reg.RANK_EYE_WIDTH r)), (Reg.RANK_EYE_UI r, t.get (Reg.RANK_EYE_UI r)),
        (Reg.MEM_STATUS_RETIRING, 0), (Reg.MEM_STATUS_DEGRADED, 0), (Reg.MEM_STATUS_NOSPARE, 0),
        (Reg.MEM_STATUS_TRAINING, bit (s.trainingBeside r))] ∧
      t.mc = { s.mc with records := s.mc.records.filter (fun p => decide (p.1 ≠ rank.val)) } ∧
      t.pw = { s.pw with retired := s.pw.retired.filter (fun p => decide (p.1 ≠ rank.val)) } := by
  intro r
  have hflags : (s.forgotten r).writes (s.forgotten r).rankFlags.judgeTraining [.regs] :=
    State.writes_of State.judgeTraining_moves.1 (by decide) State.rankFlags_moves.1
  refine ⟨_, execReadmitTestEnd_passed hm hl hleave h4 hb, ?_, ?_, hflags .mc (by decide), hflags .pw (by decide)⟩
  · refine State.writes_of hflags (by decide) ?_
    exact State.writes_mono (s.forgotten_writes r) (by decide)
  · have h := State.readmitted_sets (r := rank) hm hl hleave
    have hw : _ = s.drawFree.1.toNat % 2 ^ 16 := h.get (f := Reg.RANK_EYE_WIDTH rank) (by simp)
    have hu : _ = s.drawFree.1.toNat / 2 ^ 16 % 2 ^ 16 := h.get (f := Reg.RANK_EYE_UI rank) (by simp)
    rw [hw, hu]
    exact h.congr (by simp [r]) (by simp [r])


theorem migrationStart_answers (r : RankNo) (e : BitVec 20) (hr : s.rankLeaving r.val = true) (hm : r.val ∉ s.mc.moving)
    (hc : mfind s.mc.copies r.val = none)
    (hlow : ∀ q, q < r.val → s.rankLeaving q = true → q ∈ s.mc.moving ∨ mfind s.mc.retAt q ≠ mfind s.mc.retAt r.val) :
    let v := { s with mc := { s.mc with moving := s.mc.moving ++ [r.val] } }
    (v.firstExt r.val = none → Answers (.migrationStart (some r) e) s fun t => s.writes t [.regs, .mc] ∧ t.mc = v.mc) ∧
    (∀ i x, v.firstExt r.val = some (i, x) → v.target i r.val = none → Answers (.migrationStart (some r) e) s fun t =>
      s.writes t [.regs, .mc] ∧ t.mc = v.mc ∧ t.get Reg.MEM_STATUS_NOSPARE = 1) ∧
    (∀ i x q, v.firstExt r.val = some (i, x) → v.target i r.val = some q → q < 192 →
      s.get (Reg.RANK_STATE_EXT_USED q) < 4095 → Answers (.migrationStart (some r) e) s fun t =>
      s.writes t [.regs, .mc] ∧ t.mc = { v.mc with copies := mins s.mc.copies r.val (i, q) } ∧
      t.get (Reg.RANK_STATE_EXT_USED q) = s.get (Reg.RANK_STATE_EXT_USED q) + 1 ∧
      (∀ p, p < 192 → p ≠ q → t.get (Reg.RANK_STATE_EXT_USED p) = s.get (Reg.RANK_STATE_EXT_USED p))) := by
  intro v
  have hexec := execMigrationStart_of (e := e) hr hm hlow
  have hwrites : s.writes (s.startMoving r.val).rankFlags [.regs, .mc] :=
    State.writes_of State.rankFlags_moves.1 (by decide) State.startMoving_moves.1
  have hmc : (s.startMoving r.val).rankFlags.mc = (s.startMoving r.val).mc := State.rankFlags_moves.1 .mc (by decide)
  have hv : s.startMoving r.val = v.startCopy r.val := rfl
  have hcv : mfind v.mc.copies r.val = none := hc
  refine ⟨fun hnone => ⟨_, hexec, hwrites, ?_⟩, fun i x hx ht => ⟨_, hexec, hwrites, ?_, ?_⟩,
    fun i x q hx ht _ hused => ⟨_, hexec, hwrites, ?_, ?_⟩⟩
  · rw [hmc, hv, State.startCopy_of_none hcv hnone]
  · rw [hmc, hv, State.startCopy_of_noTarget hcv hx ht]
  · have hspare : v.noSpare = true := State.noSpare_of (by simp [v]) hx hcv
    have hflags : _ = bit v.noSpare := v.rankFlags_sets.get (f := Reg.MEM_STATUS_NOSPARE) (by simp)
    rw [hv, State.startCopy_of_noTarget hcv hx ht, hflags, hspare]
    rfl
  · have hmore : ((v.enlist q).extMore q).mc = v.mc :=
      State.writes_of State.extMore_moves.1 (by decide) State.enlist_moves.1 .mc (by decide)
    rw [hmc, hv, State.startCopy_of_target hcv hx ht]
    dsimp only
    rw [hmore]
  · obtain ⟨hq, hp⟩ := v.extMore_enlist_used (q := q) hused
    have hregs : ∀ f : Fld, (v.startCopy r.val).get f = ((v.enlist q).extMore q).get f := fun f => by
      rw [State.startCopy_of_target hcv hx ht]
      exact State.get_congr rfl f
    have hflags : ∀ p, (s.startMoving r.val).rankFlags.get (Reg.RANK_STATE_EXT_USED p) =
        ((v.enlist q).extMore q).get (Reg.RANK_STATE_EXT_USED p) := fun p => by
      rw [hv, ← hregs]
      exact (State.rankFlags_sets _).get_apart (by
        simp [Fld.apart, Reg.RANK_STATE_EXT_USED, Reg.MEM_STATUS_RETIRING, Reg.MEM_STATUS_DEGRADED, Reg.MEM_STATUS_NOSPARE])
    exact ⟨(hflags q).trans hq, fun p _ hne => (hflags p).trans (hp p hne)⟩

end

theorem query_answers (s : State) (tag : BitVec 8) (g : Seg) (hp : s.plcTakes [24, 1, 0, 0, 0, 0])
    (hg : s.seg (s.plcArg 0) = some g) : Answers (.query tag) s fun t =>
      s.writes t [.regs, .xng, .mc] ∧ t.mc = s.memWake.mc ∧
      s.plcTells t tag.toNat 0 0 (if s.plcArg 1 = 0 then
        [(Reg.PLC_RES 0, s.queryHead (s.plcArg 0) g),
         (Reg.PLC_RES 1, 65536 * min (s.poisonCount g.sid) 65535 + min (s.refCount (s.plcArg 0) g.sid) 65535),
         (Reg.PLC_RES 2, (s.store g.sid).len % 2 ^ 32), (Reg.PLC_RES 3, (s.store g.sid).len / 2 ^ 32 % 2 ^ 32)]
      else
        [(Reg.PLC_RES 0, s.queryHead (s.plcArg 0) g), (Reg.PLC_RES 1, g.loads.length % 2 ^ 32),
         (Reg.PLC_RES 2, g.left % 2 ^ 32), (Reg.PLC_RES 3, g.left / 2 ^ 32 % 2 ^ 32)]) := by
  have hexec := execQuery_of (tag := tag) hp hg
  have hlt : s.queryHead (s.plcArg 0) g < 2 ^ 32 := s.queryHead_lt g (hp.arg_lt (by decide))
  split at hexec
  · next h0 =>
    have hset := s.queried_sets (s.queryHead (s.plcArg 0) g)
      (65536 * min (s.poisonCount g.sid) 65535 + min (s.refCount (s.plcArg 0) g.sid) 65535) (s.store g.sid).len hlt
    rw [Nat.mod_eq_of_lt (by omega)] at hset
    rw [if_pos h0]
    exact State.taken_answers hexec hset (s.queried_writes _ _ _)
      (by simp [Fld.apart, Reg.PLC_RES, Reg.PLC_STATUS_TAG, Reg.PLC_STATUS_STS, Reg.PLC_STATUS_LOAD_END])
      (by simp [Fld.apart, Reg.PLC_RES, Reg.MEM_SR_ACTIVE, Reg.GLB_STATE_PROFILE])
  · next h0 =>
    rw [if_neg h0]
    exact State.taken_answers hexec (s.queried_sets _ _ _ hlt) (s.queried_writes _ _ _)
      (by simp [Fld.apart, Reg.PLC_RES, Reg.PLC_STATUS_TAG, Reg.PLC_STATUS_STS, Reg.PLC_STATUS_LOAD_END])
      (by simp [Fld.apart, Reg.PLC_RES, Reg.MEM_SR_ACTIVE, Reg.GLB_STATE_PROFILE])

/-- Settles O19: QUERY, MIGRATE and READMIT by what a PLC command that is taken leaves, the end of READMIT's test by its three
outcomes, and migration by where the first extent of a rank may go. -/
theorem ranksAndExtentsMove : Obligations.RanksAndExtentsMove := by
  unfold Obligations.RanksAndExtentsMove
  refine ⟨⟨fun s tag g hp hg => query_answers s tag g hp hg, fun s tag e i hp hi => ?_, fun s tag hu hp hr hst => ?_⟩,
    fun s rank passed h4 => ?_, ⟨fun s r e hr hm hc hlow => migrationStart_answers s r e hr hm hc hlow, fun s e hd => ?_,
    fun s hsr => ⟨fun hot i n l hj => ?_, fun r i q x hcopy hx hr hq => ?_⟩, fun s r p hb hp => ?_,
    fun s r hb => ⟨s, congrArg Host.Outcome.next (if_pos hb), rfl⟩⟩⟩
  · have hmoves : s.writes (s.addJob i e.toNat) [.mc] := State.addJob_moves.1
    refine ⟨_, execMigrate_of hp hi, ?_, ?_, ?_⟩
    · exact State.writes_of (State.taken_writes _ tag) (by decide) (State.writes_mono hmoves (by decide))
    · exact State.taken_tells (State.setsFields_nil_of_regs (hmoves .regs (by decide))) (by simp) (hmoves .xng (by decide)) tag
    · rw [State.taken_mc (State.setsFields_refl _) rfl rfl (by simp) tag]
      exact State.memWake_jobs (hmoves .regs (by decide)) (hmoves .now (by decide)) (s.addJob_mc i e)
  · exact State.taken_answers (execReadmit_of hu hp hr hst) (s.testing_sets _) (s.testing_writes _)
      (by simp [Fld.apart, Reg.RANK_STATE_STATE, Reg.GLB_STATE_UNLOCKED, Reg.MEM_STATUS_TRAINING, Reg.PLC_STATUS_TAG,
        Reg.PLC_STATUS_STS, Reg.PLC_STATUS_LOAD_END])
      (by simp [Fld.apart, Reg.RANK_STATE_STATE, Reg.GLB_STATE_UNLOCKED, Reg.MEM_STATUS_TRAINING, Reg.MEM_SR_ACTIVE,
        Reg.GLB_STATE_PROFILE]; omega)
  · obtain ⟨hnone, hbad⟩ := readmitTestEnd_answers s rank passed h4
    exact ⟨hnone, hbad, fun hb hm hl hleave => readmitted_answers s rank h4 hb hm hl hleave⟩
  · refine ⟨s.addJob 0 e.toNat, ?_, State.addJob_moves.1, s.addJob_mc 0 e⟩
    exact congrArg Host.Outcome.next (if_pos hd)
  · refine ⟨s.jobDone, ?_, State.jobDone_moves.1, ?_⟩
    · exact congrArg Host.Outcome.next (by rw [if_neg (by simp [hsr])]; exact if_neg (by simp [hot]))
    · simp only [State.jobDone, hj]
  · obtain ⟨hi, hj⟩ := s.copyDone_ext r.val i q x
    refine ⟨s.copyDone r.val i q x, congrArg Host.Outcome.next ?_, State.copyDone_moves.1, hi, hj⟩
    simp [hsr, hcopy, hx, hr, hq]
  · refine ⟨_, congrArg Host.Outcome.next ((if_neg (by simp [hb])).trans (by simp only [hp]; rfl)), ?_, rfl, rfl⟩
    exact s.with_mc_pw_writes _ _

end Sys2Proof.Machine
end

/-! # What commands refuse (R53, R87, R92) -/

section
namespace Sys2Proof.Machine

/-! ## Reports of context commands (R87) -/

theorem State.seqReport_writes (u : State) (t tag : Nat) (e : Sts) : u.writes (u.seqReport t tag e) [.regs, .xng] :=
  State.seqReport_moves.1

theorem State.seqReport_xng (u : State) (t tag : Nat) (e : Sts) :
    (u.seqReport t tag e).xng = (if u.carries then u.signalVec 3 else u).xng := by
  rw [State.seqReport]
  exact State.signalVec_xng_congr (by rw [State.put_xng, State.put_xng]) 3

section
variable {s u : State} {L : List (Fld × Nat)} {t : Nat} (h : s.setsFields u L)
  (hL : ∀ p ∈ L, p.1.apart (Reg.SEQ_CMD_STATUS_TAG t) ∧ p.1.apart (Reg.SEQ_CMD_STATUS_STS t))
include h hL

theorem State.seqReport_sets (tag : BitVec 8) (e : Sts) : s.setsFields (u.seqReport t tag.toNat e)
    (L ++ [(Reg.SEQ_CMD_STATUS_TAG t, tag.toNat), (Reg.SEQ_CMD_STATUS_STS t, e.code)]) := by
  have h1 := (h.put (Reg.SEQ_CMD_STATUS_TAG t) tag.toNat (of_decide_eq_true rfl) tag.isLt fun p hp => (hL p hp).1).put
    (Reg.SEQ_CMD_STATUS_STS t) e.code (of_decide_eq_true rfl) (Sts.code_lt e)
    (List.forall_mem_append.mpr ⟨fun p hp => (hL p hp).2, by simp [Fld.apart, Reg.SEQ_CMD_STATUS_TAG, Reg.SEQ_CMD_STATUS_STS]⟩)
  rw [List.append_assoc] at h1
  exact h1.of_regs (State.signalled_writes _ 3 .regs (by decide))

end

/-- A report tells the tag, the status and what was set before it, and signals vector 3. -/
theorem State.seqReport_tells {s u : State} {L : List (Fld × Nat)} {t : Tile} (h : s.setsFields u L)
    (hL : ∀ p ∈ L, p.1.apart (Reg.SEQ_CMD_STATUS_TAG t) ∧ p.1.apart (Reg.SEQ_CMD_STATUS_STS t)) (hx : u.xng = s.xng)
    (tag : BitVec 8) (e : Sts) : s.seqTells (u.seqReport t tag.toNat e) t tag.toNat e.code L :=
  ⟨State.seqReport_sets h hL tag e, (u.seqReport_xng t tag.toNat e).trans (State.signalVec_xng_congr hx 3)⟩

theorem State.seqReport_status (u : State) (t : Nat) (tag : BitVec 8) (e : Sts) :
    (u.seqReport t tag.toNat e).get (Reg.SEQ_CMD_STATUS_STS t) = e.code :=
  (State.seqReport_sets u.setsFields_refl (by simp) tag e).get (by simp)

theorem Sts.code_eq_ok {e : Sts} : e.code = 0 ↔ e = .ok := by cases e <;> decide

/-! ## Context commands (R87) -/

section
variable {s : State} {t : Tile} {c : CtxNo} (tag : BitVec 8) (f : State → State)

/-- In the cycle of a tile reset a context command is discarded (R92). -/
theorem State.seqCmd_reset (h : (s.tile t).resetAt = some s.now) : s.seqCmd t tag.toNat c true f = s :=
  if_pos h

theorem State.seqCmd_busy (h : (s.tile t).resetAt ≠ some s.now) (hp : (s.tile t).prep ≠ none) :
    s.seqCmd t tag.toNat c true f = s.put (Reg.SEQ_CMD_STATUS_OVERRUN t) 1 := by
  rw [State.seqCmd, if_neg h, if_pos (Option.isSome_iff_ne_none.mpr hp)]

theorem State.seqCmd_unbound (h : (s.tile t).resetAt ≠ some s.now) (hp : (s.tile t).prep = none)
    (hb : s.get (Reg.CTX_CFG_BIND c) ≠ t.val) : s.seqCmd t tag.toNat c true f = s.seqReport t tag.toNat .precond := by
  rw [State.seqCmd, if_neg h, hp, if_neg (by decide), if_neg (by decide), if_pos hb]

variable {f} (h : s.seqTakes t c)
include h

theorem State.seqCmd_of : s.seqCmd t tag.toNat c true f =
    if ((f s).tile t).prep.isSome ∨ (f s).get (Reg.SEQ_CMD_STATUS_STS t) = 0 then (f s).memWake else f s := by
  obtain ⟨hreset, hprep, hbind⟩ := h
  rw [State.seqCmd, if_neg hreset, hprep, if_neg (by decide), if_neg (by decide), if_neg (by simp [hbind]), Sts.ok_code]

/-- A context command that is refused: f ends in the report of the reason. -/
theorem State.seqCmd_refused {e : Sts} (he : e ≠ .ok) (hf : f s = s.seqReport t tag.toNat e) :
    s.seqCmd t tag.toNat c true f = s.seqReport t tag.toNat e := by
  have htile : (s.seqReport t tag.toNat e).tile t = s.tile t := State.tile_of_writes (s.seqReport_writes _ _ _) (by decide) t
  rw [State.seqCmd_of tag h, hf, htile, h.2.1, s.seqReport_status t tag e, if_neg]
  simpa using mt Sts.code_eq_ok.mp he

/-- A context command that is accepted: f ends in the report of STS_OK. -/
theorem State.seqCmd_taken {v : State} (hf : f s = v.seqReport t tag.toNat .ok) :
    s.seqCmd t tag.toNat c true f = (v.seqReport t tag.toNat .ok).memWake := by
  rw [State.seqCmd_of tag h, hf, if_pos (.inr (v.seqReport_status t tag .ok))]

/-- A context command that begins to make its context resident. -/
theorem State.seqCmd_begun (hf : ((f s).tile t).prep.isSome) : s.seqCmd t tag.toNat c true f = (f s).memWake := by
  rw [State.seqCmd_of tag h, if_pos (.inl hf)]

end

/-- The context commands of tile t, in the form that every mode takes. -/
def seqCommands (t : Tile) (tag : BitVec 8) (c : CtxNo) : List Instr :=
  [.seqLoad t tag c 0, .seqPrep t tag c 0, .seqStart t tag c 0, .seqResume t tag c 0, .seqPause t tag c 0,
    .seqStop t tag c 0, .seqRelease t tag c 0]

theorem exec_seqCommands {t : Tile} {tag : BitVec 8} {c : CtxNo} {i : Instr} (hi : i ∈ seqCommands t tag c) :
    ∃ f, ∀ s, exec i s = .next (s.seqCmd t tag.toNat c true f) := by
  simp only [seqCommands, List.mem_cons, List.not_mem_nil, or_false] at hi
  rcases hi with rfl | rfl | rfl | rfl | rfl | rfl | rfl <;> exact ⟨_, fun _ => rfl⟩

/-- Context commands and the states of their context that they do not take (R85). -/
def seqStateRefusals (t : Tile) (tag : BitVec 8) (c : CtxNo) : List (Instr × CtxState) :=
  [(.seqLoad t tag c 0, .running), (.seqLoad t tag c 0, .ready),
    (.seqLoad t tag c 0, .paused), (.seqPrep t tag c 0, .free), (.seqPrep t tag c 0, .ready),
    (.seqStart t tag c 0, .loaded), (.seqStart t tag c 0, .paused), (.seqResume t tag c 0, .ready),
    (.seqPause t tag c 0, .paused), (.seqPause t tag c 0, .ready), (.seqRelease t tag c 0, .running),
    (.seqRelease t tag c 0, .free)]

theorem exec_seqStateRefusals {s : State} {t : Tile} {tag : BitVec 8} {c : CtxNo} {i : Instr} {st : CtxState}
    (hi : (i, st) ∈ seqStateRefusals t tag c) (hst : (s.ctx c).st = st) :
    ∃ f, exec i s = .next (s.seqCmd t tag.toNat c true f) ∧ f s = s.seqReport t tag.toNat .state := by
  simp only [seqStateRefusals, List.mem_cons, List.not_mem_nil, or_false, Prod.mk.injEq] at hi
  rcases hi with ⟨rfl, rfl⟩ | ⟨rfl, rfl⟩ | ⟨rfl, rfl⟩ | ⟨rfl, rfl⟩ | ⟨rfl, rfl⟩ | ⟨rfl, rfl⟩ | ⟨rfl, rfl⟩ | ⟨rfl, rfl⟩ |
    ⟨rfl, rfl⟩ | ⟨rfl, rfl⟩ | ⟨rfl, rfl⟩ | ⟨rfl, rfl⟩ <;> exact ⟨_, rfl, by simp [hst, State.startCmd]⟩

/-! ## PLC commands (R53) -/

section
variable (s : State) (tag : BitVec 8)

/-- PLC commands, each with the bits that its arguments may hold. -/
def plcCommands : List (Instr × List Nat) :=
  [(Instr.alloc tag, [24, 5, 32, 32, 32, 0]), (.free tag, [24, 0, 0, 0, 0, 0]), (.load tag, [24, 6, 32, 32, 32, 32]),
    (.query tag, [24, 1, 0, 0, 0, 0])]

theorem exec_plcCommands {c : Instr} {m : List Nat} (h : (c, m) ∈ plcCommands tag) :
    ∃ f, exec c s = .next (s.plcCmd tag.toNat m f) := by
  simp only [plcCommands, List.mem_cons, List.not_mem_nil, or_false, Prod.mk.injEq] at h
  rcases h with ⟨rfl, rfl⟩ | ⟨rfl, rfl⟩ | ⟨rfl, rfl⟩ | ⟨rfl, rfl⟩ <;> exact ⟨_, rfl⟩

theorem exec_badHandle {s : State} {c : Instr} {m : List Nat}
    (h : (c, m) ∈ [(Instr.free tag, [24, 0, 0, 0, 0, 0]), (.load tag, [24, 6, 32, 32, 32, 32])])
    (hseg : s.seg (s.plcArg 0) = none) :
    ∃ f, exec c s = .next (s.plcCmd tag.toNat m f) ∧ f s = s.plcReport tag.toNat .badhandle false := by
  simp only [List.mem_cons, List.not_mem_nil, or_false, Prod.mk.injEq] at h
  rcases h with ⟨rfl, rfl⟩ | ⟨rfl, rfl⟩ <;> exact ⟨_, rfl, by simp [hseg]⟩

/-- A PLC command that comes while another is in progress is discarded, with OVERRUN set. -/
theorem plc_overrun (hb : s.get Reg.PLC_STATUS_BUSY = 1) {c : Instr} {masks : List Nat} {f : State → State}
    (h : exec c s = .next (s.plcCmd tag.toNat masks f)) : Answers c s fun t => s.setsOnly t [(Reg.PLC_STATUS_OVERRUN, 1)] :=
  ⟨_, h.trans (congrArg _ (if_pos hb)), State.setsOnly.next ⟨State.writes_refl, s.setsFields_refl⟩ _ _ rfl⟩

/-- A command that is refused after fields L have been set, in s0, leaves the report. -/
theorem plc_refused {c : Instr} {u : State} {L : List (Fld × Nat)} {e : Sts}
    (h : exec c s = .next (u.plcReport tag.toNat e false)) (hset : s.setsFields u L) (hw : s.writes u [.regs])
    (hL : ∀ p ∈ L, p.1.apart Reg.PLC_STATUS_TAG ∧ p.1.apart Reg.PLC_STATUS_STS ∧ p.1.apart Reg.PLC_STATUS_LOAD_END) :
    Answers c s fun t => s.writes t [.regs, .xng] ∧ s.plcTells t tag.toNat e.code 0 L :=
  ⟨_, h, State.writes_of State.plcReport_moves.1 (by decide) (State.writes_mono hw (by decide)),
    State.plcTells.of_tag (State.plcReport_tells hset hL (hw .xng (by decide)) tag.toNat e false)⟩

variable {s} in
theorem plcCmd_outOfRange (hb : s.get Reg.PLC_STATUS_BUSY = 0) {masks : List Nat} (ha : s.plcArgsOk masks = false)
    (f : State → State) : s.plcCmd tag.toNat masks f = s.plcReport tag.toNat .range false := by
  rw [State.plcCmd, if_neg (by simp [hb]), if_pos (by simp [ha])]

variable {s} in
theorem plcCmd_refused {masks : List Nat} {f : State → State} {e : Sts} (h : s.plcTakes masks) (he : e ≠ .ok)
    (hf : f s = s.plcReport tag.toNat e false) : s.plcCmd tag.toNat masks f = s.plcReport tag.toNat e false := by
  rw [State.plcCmd_of_refused h, hf]
  rw [hf, State.plcReport_status]
  exact mt Sts.code_eq_ok.mp he

end

/-- Settles O20: a refused command leaves its report, whichever command it is, by what each command tries first. -/
theorem commandsAreRefusedWithAReport : Obligations.CommandsAreRefusedWithAReport := by
  unfold Obligations.CommandsAreRefusedWithAReport
  refine ⟨fun s tag => ⟨fun hb c hc => ?_, fun hb c m hcm ha => ?_, fun c m hcm hp hseg => ?_, fun hu hp hr hst => ?_⟩,
    fun s t tag c => ⟨fun hr i hi => ?_, fun hr hp i hi => ?_, fun hr hp hb i hi => ?_, fun h i st hi hst => ?_⟩⟩
  · simp only [List.mem_cons, List.not_mem_nil, or_false] at hc
    rcases hc with rfl | rfl | rfl | rfl | rfl <;> exact plc_overrun s tag hb rfl
  · obtain ⟨f, hf⟩ := exec_plcCommands s tag hcm
    exact plc_refused s tag (hf.trans (congrArg _ (plcCmd_outOfRange tag hb ha f))) s.setsFields_refl State.writes_refl (by simp)
  · obtain ⟨f, hf, hbad⟩ := exec_badHandle tag hcm hseg
    exact plc_refused s tag (hf.trans (congrArg _ (plcCmd_refused tag hp (by decide) hbad))) s.setsFields_refl
      State.writes_refl (by simp)
  · have harg : (s.put Reg.GLB_STATE_UNLOCKED 0).plcArg 0 = s.plcArg 0 := State.get_put_other s _ (by decide)
    have hrank : (s.put Reg.GLB_STATE_UNLOCKED 0).rankSt (s.plcArg 0) = s.rankSt (s.plcArg 0) :=
      State.get_put_other s _ (by simp [Reg.RANK_STATE_STATE, Reg.GLB_STATE_UNLOCKED]; omega)
    refine plc_refused s tag (e := .state) (congrArg Host.Outcome.next ?_) (s.setsFields_refl.next Reg.GLB_STATE_UNLOCKED 0 rfl)
      State.put_writes (by decide)
    rw [State.guarded_of_unlocked hu, plcCmd_refused (e := .state) tag hp.unlocked (by decide)]
    dsimp only
    rw [harg, if_neg (by omega), if_pos (by rwa [hrank])]
  · obtain ⟨f, hf⟩ := exec_seqCommands hi
    exact ⟨s, (hf s).trans (congrArg _ (State.seqCmd_reset tag f hr)), rfl⟩
  · obtain ⟨f, hf⟩ := exec_seqCommands hi
    exact ⟨_, (hf s).trans (congrArg _ (State.seqCmd_busy tag f hr hp)), State.put_writes,
      s.setsFields_refl.nextAt (Reg.SEQ_CMD_STATUS_OVERRUN t) 1 (by simp) rfl⟩
  · obtain ⟨f, hf⟩ := exec_seqCommands hi
    exact ⟨_, (hf s).trans (congrArg _ (State.seqCmd_unbound tag f hr hp hb)), s.seqReport_writes _ _ _,
      State.seqReport_tells s.setsFields_refl (by simp) rfl tag .precond⟩
  · obtain ⟨f, hf, hstate⟩ := exec_seqStateRefusals hi hst
    exact ⟨_, hf.trans (congrArg _ (State.seqCmd_refused tag h (by decide) hstate)), s.seqReport_writes _ _ _,
      State.seqReport_tells s.setsFields_refl (by simp) rfl tag .state⟩

end Sys2Proof.Machine
end

/-! # One instruction at its effect cycle (R57, R59, R60) -/

section
namespace Sys2Proof.Machine

/-! ## Contexts that change -/

theorem State.ctxBecomes.refl (s : State) (c : Nat) : s.ctxBecomes s c (s.ctx c) := ⟨rfl, fun _ _ => rfl⟩

theorem State.setCtx_writes {s : State} {c : Nat} {x : Ctx} : s.writes (s.setCtx c x) [.ctxs] := State.setCtx_moves.1

theorem State.nextPc_writes {s : State} {c : Nat} : s.writes (s.nextPc c) [.ctxs] := State.setCtx_moves.1

theorem State.setTile_writes {s : State} {t : Nat} {x : TileSt} : s.writes (s.setTile t x) [.tiles] := State.setTile_moves.1

section
variable {s u : State} {c : Nat} {x : Ctx} (h : s.ctxBecomes u c x)
include h

theorem State.ctxBecomes.set (y : Ctx) : s.ctxBecomes (u.setCtx c y) c y :=
  ⟨State.ctx_setCtx _ _ _, fun d hd => (State.ctx_setCtx_other _ _ hd).trans (h.2 d hd)⟩

theorem State.ctxBecomes.setPc (a : Addr) : s.ctxBecomes (u.setPc c a) c { x with pc := a, pos := .fresh } := by
  rw [← h.1]
  exact h.set _

theorem State.ctxBecomes.nextPc : s.ctxBecomes (u.nextPc c) c x.stepped := by
  rw [← h.1]
  exact h.set _

theorem State.ctxBecomes.of_writes {v : State} {W : List Piece} (hw : u.writes v W) (hW : Piece.ctxs ∉ W) :
    s.ctxBecomes v c x :=
  ⟨(State.ctx_of_writes hw hW c).trans h.1, fun d hd => (State.ctx_of_writes hw hW d).trans (h.2 d hd)⟩

end

/-! ## The item before the instruction closed -/

theorem TileSt.closed_item (x : TileSt) (p : Nat) : (x.closed p).item = .idle ∧ (x.closed p).nextPos = p ∧
    (x.closed p).running = x.running := by
  unfold TileSt.closed
  split
  · next h => exact ⟨h, rfl, rfl⟩
  · exact ⟨rfl, rfl, rfl⟩

section
variable (s : State)

theorem State.popAhead_other (t c : Nat) {k : Nat} (h : k ≠ t) : (s.popAhead t c).tile k = s.tile k := by
  unfold State.popAhead
  split <;> exact State.tile_setTile_other _ _ h

/-- What run-ahead has resolved is taken, and the rest of the tile stays. -/
theorem State.popAhead_tile (t c : Nat) : (s.popAhead t c).tile t = { s.tile t with ahead := ((s.popAhead t c).tile t).ahead } := by
  unfold State.popAhead
  split <;> rw [State.setAhead, State.tile_setTile]

theorem State.addSpin_other (t : Nat) {k : Nat} (h : k ≠ t) : (s.addSpin t).tile k = s.tile k := State.tile_setTile_other _ _ h

variable (t : Tile) (c op p : Nat)

theorem State.due_other {k : Nat} (h : k ≠ t.val) : (s.due t c op p).tile k = s.tile k := by
  have hclose : (s.closeItem t p).tile k = s.tile k :=
    (State.tile_setTile_other _ _ h).trans ((s.closeVec_plays t p).other k h)
  unfold State.due
  dsimp only
  split
  · exact (State.popAhead_other _ t c h).trans hclose
  · exact (State.addSpin_other _ t h).trans ((State.popAhead_other _ t c h).trans hclose)

/-- The tile at an instruction's effect: between two items, at the position where the one before has ended. -/
theorem State.due_tile : ((s.due t c op p).tile t).item = .idle ∧ ((s.due t c op p).tile t).nextPos = p ∧
    ((s.due t c op p).tile t).running = (s.tile t).running := by
  obtain ⟨hitem, hpos, hrun⟩ := ((s.closeVec t p).tile t).closed_item p
  have hplay : ((s.closeVec t p).tile t).running = (s.tile t).running := by
    rw [TileSt.eq_of_itemless (s.closeVec_plays t p).tile]
  have hclose : (s.closeItem t p).tile t = ((s.closeVec t p).tile t).closed p := State.tile_setTile _ _ _
  have hpop := (s.closeItem t p).popAhead_tile t c
  rw [hclose] at hpop
  unfold State.due
  dsimp only
  split
  · rw [hpop]
    exact ⟨hitem, hpos, hrun.trans hplay⟩
  · rw [State.addSpin, State.tile_setTile, hpop]
    exact ⟨hitem, hpos, hrun.trans hplay⟩

theorem State.due_running {s : State} {ops : BitVec 66} {t : Tile} {c op p : Nat} (h : s.runsInstr t op ops c p) :
    ((s.due t c op p).tile t).running = some c :=
  (s.due_tile t c op p).2.2.trans h.1

/-- An instruction that runs has its own effect, unless it ends its context by a fault. -/
theorem State.instr_of_runs {s : State} {ops : BitVec 66} {t : Tile} {c op p : Nat} (h : s.runsInstr t op ops c p)
    {f : State → Nat → Nat → Option Landing → State} {u : State}
    (hu : f (s.due t c op p) c (posCycle p) (((s.closeItem t p).resolvedAt t c).bind (fun r => r.land)) = u)
    (hlive : (u.tile t).running ≠ none ∨ (u.ctx c).st ≠ .faulted) : s.instr t op ops f = u := by
  obtain ⟨hrun, hend, hupc, hnow, hfault⟩ := h
  have htake : (s.closeItem t p).takeInstr t c (posCycle p) op ops f = u := by
    rw [State.takeInstr, hfault]
    exact hu
  rw [State.instr, hrun, hend]
  dsimp only
  rw [hupc, if_neg (by decide), if_neg (by omega), htake, if_neg (by tauto)]

end

/-- What an instruction that runs answers, where it plays on or its context has not faulted. -/
theorem answers_of_runs {s : State} {i : Instr} {ops : BitVec 66} {t : Tile} {c op p : Nat} (h : s.runsInstr t op ops c p)
    {f : State → Nat → Nat → Option Landing → State} (hexec : exec i s = .next (s.instr t op ops f)) {P : State → Prop}
    (u : State) (hu : f (s.due t c op p) c (posCycle p) (((s.closeItem t p).resolvedAt t c).bind (fun r => r.land)) = u)
    (hlive : (u.tile t).running ≠ none ∨ (u.ctx c).st ≠ .faulted) (hP : P u) : Answers i s P :=
  ⟨u, hexec.trans (congrArg _ (State.instr_of_runs h hu hlive)), hP⟩

/-- What an instruction that runs answers, where it leaves the tiles alone. -/
theorem answers_of_quiet {s : State} {i : Instr} {ops : BitVec 66} {t : Tile} {c op p : Nat} (h : s.runsInstr t op ops c p)
    {f : State → Nat → Nat → Option Landing → State} (hexec : exec i s = .next (s.instr t op ops f)) {P : State → Prop}
    (u : State) (hu : f (s.due t c op p) c (posCycle p) (((s.closeItem t p).resolvedAt t c).bind (fun r => r.land)) = u)
    {W : List Piece} (hw : (s.due t c op p).writes u W) (hW : Piece.tiles ∉ W) (hP : P u) : Answers i s P := by
  refine answers_of_runs h hexec u hu (.inl ?_) hP
  rw [State.tile_of_writes hw hW, State.due_running h]
  exact Option.some_ne_none c

/-! ## The turn of an instruction -/

theorem State.due_of_wave (s : State) {t : Tile} (h : t.val < 8) (c op p : Nat) :
    let x := s.tile t
    let y := (s.due t c op p).tile t
    let one := if timedOp op then 0 else 1
    s.writes (s.due t c op p) [.tiles] ∧
    s.tileBecomes (s.due t c op p) t { x with
      item := .idle, nextPos := p
      spin := (if x.item = .idle then x.spin else 0) + one
      between := (if x.item = .idle then x.between else 0) + one
      lastCc := y.lastCc, lastOk := y.lastOk, rcFrom := y.rcFrom, blockDone := y.blockDone, ahead := y.ahead } := by
  intro x y one
  have hclose : s.closeItem t p = s.setTile t (x.closed p) := by
    rw [State.closeItem, s.closeVec_of_wave h]
  have hpop := (s.closeItem t p).popAhead_tile t c
  have hwrites : s.writes ((s.closeItem t p).popAhead t c) [.tiles] := by
    rw [hclose]
    exact State.writes_of State.popAhead_moves.1 (by decide) State.setTile_writes
  rw [hclose, State.tile_setTile] at hpop
  refine ⟨?_, ?_, fun k hk => s.due_other t c op p hk⟩
  · unfold State.due
    dsimp only
    split
    · exact hwrites
    · exact State.writes_of State.setTile_writes (by decide) hwrites
  · have hy : y = { ((s.setTile t (x.closed p)).popAhead t c).tile t with
        spin := (((s.setTile t (x.closed p)).popAhead t c).tile t).spin + one
        between := (((s.setTile t (x.closed p)).popAhead t c).tile t).between + one } := by
      simp only [y, one, State.due, hclose]
      split
      · rfl
      · rw [State.addSpin, State.tile_setTile]
    rw [hpop] at hy
    show y = _
    rw [hy]
    unfold TileSt.closed
    split
    · next hi => simp [hi]
    · next hi => simp

/-- Settles O21: the turn by what closes the item and takes the instruction, and a false condition by R62's NOP. -/
theorem anInstructionTakesItsTurn : Obligations.AnInstructionTakesItsTurn := by
  unfold Obligations.AnInstructionTakesItsTurn
  refine ⟨fun s t c op p ht => s.due_of_wave ht c op p, fun s t ops c p op i hi h hcond => ?_⟩
  have hnop : ∀ f : State → State, (s.due t c op p).ifCond c ops f = (s.due t c op p).nextPc c := fun f => by
    simp [State.ifCond, hcond]
  have hanswers : ∀ f : State → Nat → Nat → State → State,
      exec i s = .next (s.instr t op ops fun s c e _ => s.ifCond c ops (f s c e)) →
      Answers i s fun u => (s.due t c op p).writes u [.ctxs] ∧
        (s.due t c op p).ctxBecomes u c ((s.due t c op p).ctx c).stepped := fun f hexec =>
    answers_of_quiet h hexec _ (hnop _) State.nextPc_writes (by decide)
      ⟨State.nextPc_writes, (State.ctxBecomes.refl _ c).nextPc⟩
  simp only [List.mem_cons, List.not_mem_nil, or_false, Prod.mk.injEq] at hi
  rcases hi with ⟨rfl, rfl⟩ | ⟨rfl, rfl⟩ | ⟨rfl, rfl⟩ | ⟨rfl, rfl⟩ | ⟨rfl, rfl⟩ <;>
    exact hanswers _ rfl

end Sys2Proof.Machine
end

/-! # Loops, calls, jumps and halts (R68 to R71, R80) -/

section
namespace Sys2Proof.Machine

/-! ## Loops and counters -/

section
variable (v : State) (c : Nat)

theorem State.setCtx_nextPc_writes {x : Ctx} : v.writes ((v.setCtx c x).nextPc c) [.ctxs] :=
  State.writes_of State.nextPc_writes (by decide) State.setCtx_writes

theorem State.setCtx_setPc_writes {x : Ctx} {a : Addr} : v.writes ((v.setCtx c x).setPc c a) [.ctxs] :=
  State.writes_of State.setCtx_writes (by decide) State.setCtx_writes

/-- What an ENDLOOP of context c leaves, whose top loop is l (R69). -/
def State.looped (l : LoopEnt) (ls : List LoopEnt) : State :=
  if l.forever then v.setPc c l.start
  else if 1 < l.left then (v.setCtx c { v.ctx c with loops := { l with left := l.left - 1 } :: ls }).setPc c l.start
  else (v.setCtx c { v.ctx c with loops := ls }).nextPc c

theorem State.looped_writes (l : LoopEnt) (ls : List LoopEnt) : v.writes (v.looped c l ls) [.ctxs] := by
  unfold State.looped
  split
  · exact State.setCtx_writes
  · split
    · exact v.setCtx_setPc_writes c
    · exact v.setCtx_nextPc_writes c

theorem State.looped_becomes (l : LoopEnt) (ls : List LoopEnt) : v.ctxBecomes (v.looped c l ls) c
    (if l.forever = true then { v.ctx c with pc := l.start, pos := .fresh }
     else if 1 < l.left then { v.ctx c with pc := l.start, pos := .fresh, loops := { l with left := l.left - 1 } :: ls }
     else { (v.ctx c).stepped with loops := ls }) := by
  have h := State.ctxBecomes.refl v c
  unfold State.looped
  split
  · exact h.setPc _
  · split
    · exact (h.set _).setPc _
    · exact (h.set _).nextPc

/-- What a COUNT of context c leaves, of counter i (R64). -/
def State.counted (i n : Nat) : State := (v.setCnt c i n).nextPc c

theorem State.counted_writes (i n : Nat) : v.writes (v.counted c i n) [.regs, .ctxs] :=
  State.writes_of State.nextPc_writes (by decide) (State.writes_mono State.setCnt_moves.1 (by decide))

theorem State.counted_becomes (i n : Nat) : v.ctxBecomes (v.counted c i n) c (v.ctx c).stepped :=
  ((State.ctxBecomes.refl v c).of_writes State.setCnt_moves.1 (by decide)).nextPc

theorem State.counted_sets (i : Nat) {n : Nat} (hn : n < 2 ^ 32) : v.setsFields (v.counted c i n) [(Reg.CTX_CNT c i, n)] := by
  have h := v.setsFields_refl.put (Reg.CTX_CNT c i) n (of_decide_eq_true rfl) hn (by simp)
  exact h.of_regs (State.nextPc_writes .regs (by decide))

end

theorem opBits_lt (ops : BitVec 66) (lo n : Nat) : opBits ops lo n < 2 ^ n := Nat.mod_lt _ (Nat.two_pow_pos n)

/-- Settles O22: each instruction by the context it leaves. -/
theorem loopsBanksAndCounters : Obligations.LoopsBanksAndCounters := by
  unfold Obligations.LoopsBanksAndCounters
  intro s t ops c p
  refine ⟨fun h => ?_, fun h hlen => ?_, fun h l ls hl hfloor => ?_, fun h => ?_, fun h => ?_⟩
  · exact answers_of_quiet h rfl _ rfl State.nextPc_writes (by decide)
      ⟨State.nextPc_writes, (State.ctxBecomes.refl _ c).nextPc⟩
  · exact answers_of_quiet h rfl _ (if_neg (by omega)) (State.setCtx_nextPc_writes _ c) (by decide)
      ⟨State.setCtx_nextPc_writes _ c, ((State.ctxBecomes.refl _ c).set _).nextPc⟩
  · have hnot : ¬ ((s.due t c 0x05 p).ctx c).loops.length ≤ ((s.due t c 0x05 p).ctx c).loopFloor := by
      rw [hl, List.length_cons]
      omega
    refine answers_of_quiet h rfl ((s.due t c 0x05 p).looped c l ls) ?_ (State.looped_writes _ c l ls) (by decide)
      ⟨State.looped_writes _ c l ls, State.looped_becomes _ c l ls⟩
    dsimp only
    split
    · next hnil => exact absurd (hnil.symm.trans hl) (by simp)
    · next l' ls' hcons =>
      obtain ⟨rfl, rfl⟩ := List.cons.inj (hcons.symm.trans hl)
      exact if_neg hnot
  · have hbank := ((State.ctxBecomes.refl (s.due t c 0x0D p) c).set
      { (s.due t c 0x0D p).ctx c with tsBank := opBits ops 0 1 }).nextPc
    have hw := State.setCtx_nextPc_writes (s.due t c 0x0D p) c
      (x := { (s.due t c 0x0D p).ctx c with tsBank := opBits ops 0 1 })
    refine answers_of_quiet h rfl (((s.due t c 0x0D p).setCtx c
      { (s.due t c 0x0D p).ctx c with tsBank := opBits ops 0 1 }).nextPc c) rfl hw (by decide) ?_
    exact ⟨hw, hbank⟩
  · refine answers_of_quiet h rfl ((s.due t c 0x15 p).counted c (opBits ops 32 1) (if opBits ops 64 2 = 1 then opBits ops 0 32
      else ((s.due t c 0x15 p).get (Reg.CTX_CNT c (opBits ops 32 1)) + opBits ops 0 32) % 2 ^ 32)) rfl
      (State.counted_writes _ c _ _) (by decide)
      ⟨State.counted_writes _ c _ _, State.counted_becomes _ c _ _, State.counted_sets _ c _ ?_⟩
    split
    · exact opBits_lt ops 0 32
    · exact Nat.mod_lt _ (by decide)

end Sys2Proof.Machine
end

/-! # Items begun and contexts entered (R58, R65, R67, R81) -/

section
namespace Sys2Proof.Machine

/-- y is tile x with item i begun at its position. -/
structure TileSt.Begins (x y : TileSt) (i : Item) : Prop where
  item : y.item = i
  spin : y.spin = 0
  itemAt : y.itemAt = x.nextPos
  nextPos : y.nextPos = x.nextPos
  running : y.running = x.running
  last : y.last = x.last
  start : y.start = x.start

/-- y is x but for the item that begins and what is known of its words. -/
def TileSt.keepsRun (x y : TileSt) : Prop :=
  y.nextPos = x.nextPos ∧ y.running = x.running ∧ y.last = x.last ∧ y.start = x.start

theorem TileSt.firstWord_keeps (x : TileSt) (ok : Bool) (n : Nat) : x.keepsRun (x.firstWord ok n) := ⟨rfl, rfl, rfl, rfl⟩

theorem TileSt.landWords_keeps (x : TileSt) (i left n : Nat) (ends : Nat → Nat) : x.keepsRun (x.landWords i left n ends) := by
  unfold TileSt.landWords
  split <;> exact ⟨rfl, rfl, rfl, rfl⟩

section
variable (s : State) (t : Nat)

theorem State.playWords_writes {h sid len f w reps : Nat} : s.writes (s.playWords t h sid len f w reps) [.tiles] :=
  State.playWords_moves.1

theorem State.playWords_other {h sid len f w reps k : Nat} (hk : k ≠ t) :
    (s.playWords t h sid len f w reps).tile k = s.tile k :=
  State.tile_setTile_other _ _ hk

/-- The tile after words begin: y is the tile with what is known of the first word's arrival. -/
theorem State.playWords_tile (h sid len f w reps : Nat) : ∃ (y : TileSt) (ok : Bool) (q : Option Nat),
    (s.tile t).keepsRun y ∧
    (s.playWords t h sid len f w reps).tile t = { y.timed (.words h sid len f w reps (s.tile t).nextPos) ok with
      rcFrom := q, rcache := if decide (0 < reps ∧ len < 64) then some (sid, len) else (s.tile t).rcache } := by
  refine ⟨_, _, _, ?_, State.tile_setTile _ _ _⟩
  split
  · split
    · exact TileSt.landWords_keeps _ _ _ _ _
    · exact TileSt.firstWord_keeps _ _ _
  · exact TileSt.firstWord_keeps _ _ _

theorem State.playWords_begins (h sid len f w reps : Nat) :
    (s.tile t).Begins ((s.playWords t h sid len f w reps).tile t) (.words h sid len f w reps (s.tile t).nextPos) := by
  obtain ⟨y, ok, q, ⟨hpos, hrun, hlast, hstart⟩, hy⟩ := s.playWords_tile t h sid len f w reps
  rw [hy]
  exact ⟨rfl, rfl, hpos, hpos, hrun, hlast, hstart⟩

theorem State.playWords_rcache (h sid len f w reps : Nat) : ((s.playWords t h sid len f w reps).tile t).rcache =
    if 0 < reps ∧ len < 64 then some (sid, len) else (s.tile t).rcache := by
  obtain ⟨y, ok, q, -, hy⟩ := s.playWords_tile t h sid len f w reps
  rw [hy]
  simp

theorem State.playBlocks_writes {it : Item} : s.writes (s.playBlocks t it) [.tiles] := State.setTile_writes

theorem State.playBlocks_other {it : Item} {k : Nat} (hk : k ≠ t) : (s.playBlocks t it).tile k = s.tile k :=
  State.tile_setTile_other _ _ hk

theorem State.playBlocks_begins (it : Item) : (s.tile t).Begins ((s.playBlocks t it).tile t) it := by
  unfold State.playBlocks
  dsimp only
  rw [State.tile_setTile]
  exact ⟨rfl, rfl, rfl, rfl, rfl, rfl, rfl⟩

end

/-! ## Landings of a STREAM (R126) -/

section
variable {s u : State} {t c : Nat} {l : Landing}

theorem State.landHandler_relands (h : s.landHandler t c = (u, l)) : s.Relands u t := by
  unfold State.landHandler at h
  split at h
  · obtain ⟨rfl, -⟩ := Prod.mk.inj h
    exact .refl s t
  · exact State.land_relands h

variable (s t c)

theorem State.retakeHandler_other {k : Nat} (hk : k ≠ t) : (s.retakeHandler t c).tile k = s.tile k := by
  unfold State.retakeHandler
  dsimp only
  split
  · exact (State.tile_setTile_other _ _ hk).trans ((State.landHandler_relands rfl).other k hk)
  · rfl

/-- Retaking a handler changes the tile's slots, and the one that its STREAM holds. -/
theorem State.retakeHandler_tile : { (s.retakeHandler t c).tile t with slots := [], fillQ := [], divert := none } =
    { s.tile t with slots := [], fillQ := [], divert := none } := by
  unfold State.retakeHandler
  dsimp only
  split
  · rw [State.tile_setTile]
    exact congrArg (fun x : TileSt => { x with divert := none }) (State.landHandler_relands rfl).tile
  · rfl

theorem TileSt.Begins.retake {x y z : TileSt} {i : Item} (h : x.Begins y i)
    (hz : { z with slots := [], fillQ := [], divert := none } = { y with slots := [], fillQ := [], divert := none }) :
    x.Begins z i := by
  have hy : z = { y with slots := z.slots, fillQ := z.fillQ, divert := z.divert } :=
    (congrArg (fun w : TileSt => { w with slots := z.slots, fillQ := z.fillQ, divert := z.divert }) hz : _)
  rw [hy]
  exact ⟨h.item, h.spin, h.itemAt, h.nextPos, h.running, h.last, h.start⟩

end

/-! ## A context entered (R81, R88, R110) -/

/-- A context that enters its tile: Running, its place inside an item taken up by the item that begins. -/
def Ctx.entered (x : Ctx) : Ctx := { x with
  st := .running
  played := (if x.st = .running then x.played else [])
  pos := (match x.pos with
    | .words _ _ _ _ _ _ => .fresh
    | .block _ _ _ _ _ _ _ => .fresh
    | p => p) }

section
variable (s : State) (t c pos : Nat)

/-- s with context c Running on tile t from position pos, before the item in which it resumes. -/
def State.entering : State :=
  (s.setCtx c (s.ctx c).entered).setTile t { s.tile t with running := some c, nextPos := pos, item := .idle, ran := true }

theorem State.entering_becomes : s.ctxBecomes (s.entering t c pos) c (s.ctx c).entered :=
  ((State.ctxBecomes.refl s c).set _).of_writes State.setTile_writes (by decide)

theorem State.entering_tile : (s.entering t c pos).tile t =
    { s.tile t with running := some c, nextPos := pos, item := .idle, ran := true } := State.tile_setTile _ _ _

theorem State.entering_other {k : Nat} (h : k ≠ t) : (s.entering t c pos).tile k = s.tile k := State.tile_setTile_other _ _ h

variable {s c}

theorem State.enter_of_words {h sid len f w reps : Nat} (hp : (s.ctx c).pos = .words h sid len f w reps) :
    s.enter t c pos = (s.entering t c pos).playWords t h sid len f w reps := by
  rw [State.enter, State.entering, Ctx.entered, hp]
  rfl

theorem State.enter_of_block {h sid e n b w k : Nat} (hp : (s.ctx c).pos = .block h sid e n b w k) :
    s.enter t c pos = ((s.entering t c pos).playBlocks t (.stream h sid e n k b w pos .playing)).retakeHandler t c := by
  rw [State.enter, State.entering, Ctx.entered, hp]
  rfl

/-- Whether a context resumes inside no item of words, or of blocks. -/
def Pos.between : Pos → Bool
  | .words _ _ _ _ _ _ => false
  | .block _ _ _ _ _ _ _ => false
  | _ => true

theorem State.enter_of_between (hp : (s.ctx c).pos.between = true) : s.enter t c pos = s.entering t c pos := by
  unfold State.enter State.entering Ctx.entered
  dsimp only
  generalize (s.ctx c).pos = q at hp ⊢
  cases q with
  | words => simp [Pos.between] at hp
  | block => simp [Pos.between] at hp
  | fresh => rfl
  | sync => rfl
  | steps => rfl

/-- What a context that enters leaves of its tile and the others, whatever item it resumes in. -/
structure State.Enters (s u : State) (t c pos : Nat) (i : Item) : Prop where
  writes : s.writes u [.ctxs, .tiles]
  ctx : s.ctxBecomes u c (s.ctx c).entered
  other : ∀ k, k ≠ t → u.tile k = s.tile k
  item : (u.tile t).item = i
  running : (u.tile t).running = some c
  nextPos : (u.tile t).nextPos = pos
  last : (u.tile t).last = (s.tile t).last
  start : (u.tile t).start = (s.tile t).start

theorem State.entering_writes : s.writes (s.entering t c pos) [.ctxs, .tiles] :=
  State.writes_of State.setTile_writes (by decide) (State.writes_mono State.setCtx_writes (by decide))

theorem State.entering_enters : s.Enters (s.entering t c pos) t c pos .idle := by
  have htile := s.entering_tile t c pos
  exact ⟨s.entering_writes t pos, s.entering_becomes t c pos, fun k hk => s.entering_other t c pos hk, by rw [htile],
    by rw [htile], by rw [htile], by rw [htile], by rw [htile]⟩

/-- An item begun on the tile that a context enters. -/
theorem State.Enters.begins {u v : State} {t c pos : Nat} {i : Item} (h : s.Enters u t c pos .idle)
    (hw : u.writes v [.tiles]) (ho : ∀ k, k ≠ t → v.tile k = u.tile k) (hb : (u.tile t).Begins (v.tile t) i) :
    s.Enters v t c pos i :=
  ⟨State.writes_of hw (by decide) h.writes, h.ctx.of_writes hw (by decide), fun k hk => (ho k hk).trans (h.other k hk), hb.item,
    hb.running.trans h.running, hb.nextPos.trans h.nextPos, hb.last.trans h.last, hb.start.trans h.start⟩

variable (s c)

/-- The item in which a context that enters at a position resumes. -/
def Ctx.resumed (x : Ctx) (pos : Nat) : Item :=
  match x.pos with
  | .words h sid len f w reps => .words h sid len f w reps pos
  | .block h sid e n b w k => .stream h sid e n k b w pos .playing
  | _ => .idle

theorem State.enter_enters : s.Enters (s.enter t c pos) t c pos ((s.ctx c).resumed pos) := by
  have henter := s.entering_enters (c := c) t pos
  have hbegin : ((s.entering t c pos).tile t).nextPos = pos := henter.nextPos
  cases hp : (s.ctx c).pos with
  | words h sid len f w reps =>
    rw [State.enter_of_words t pos hp, Ctx.resumed, hp]
    have hb := (s.entering t c pos).playWords_begins t h sid len f w reps
    rw [hbegin] at hb
    exact henter.begins (State.playWords_writes _ t) (fun k hk => State.playWords_other _ t hk) hb
  | block h sid e n b w k =>
    rw [State.enter_of_block t pos hp, Ctx.resumed, hp]
    refine henter.begins (State.writes_of State.retakeHandler_moves.1 (by decide) State.setTile_writes)
      (fun k hk => (State.retakeHandler_other _ _ _ hk).trans (State.playBlocks_other _ t hk)) ?_
    exact (State.playBlocks_begins _ t _).retake (State.retakeHandler_tile _ t c)
  | fresh => rw [State.enter_of_between t pos (by rw [hp]; rfl), Ctx.resumed, hp]; exact henter
  | sync => rw [State.enter_of_between t pos (by rw [hp]; rfl), Ctx.resumed, hp]; exact henter
  | steps => rw [State.enter_of_between t pos (by rw [hp]; rfl), Ctx.resumed, hp]; exact henter

end

end Sys2Proof.Machine
end

/-! # Calls, returns, jumps and halts (R68 to R71, R80) -/

section
namespace Sys2Proof.Machine

section
variable {v : State} {t c : Nat} {ops : BitVec 66} {f : State → State}

theorem State.ifCond_of_holds (h : v.holds c (opCond ops) = true) : v.ifCond c ops f = f v := if_pos h

/-- A waveform tile between two items leaves its context's run without an underrun, or a vector cycle, to close. -/
theorem State.leave_writes_of_wave (ht : t < 8) (hu : v.underrunAt t = none) (c : Nat) (st : CtxState) :
    v.writes (v.leave t c st) [.ctxs, .tiles] := by
  have hseen : v.underrunSeen t c = v := by rw [State.underrunSeen, hu]
  have hend : v.writes (v.endRun t c st) [.ctxs, .tiles] :=
    State.writes_of State.setTile_writes (by decide) (State.writes_mono State.setCtx_writes (by decide))
  rw [v.leave_eq, State.unplayed, hseen, v.cutVec_of_wave ht]
  exact State.writes_of State.gcSlots_moves.1 (by decide) (State.writes_of State.setTile_writes (by decide) hend)

theorem State.underrunAt_of_idle (h : (v.tile t).item = .idle) : v.underrunAt t = none := by
  rw [State.underrunAt, h]

theorem TileSt.slotless_fields {x y : TileSt} (h : y.slotless = x.slotless) : y.running = x.running ∧ y.last = x.last ∧
    y.item = x.item ∧ y.mark0 = x.mark0 ∧ y.mark1 = x.mark1 := by
  rw [TileSt.eq_of_slotless h]
  exact ⟨rfl, rfl, rfl, rfl, rfl⟩

end

/-! ## Returns (R70) -/

section
variable (v : State) (c : Nat) (k : CallEnt) (ks : List CallEnt)

/-- A context that returns to the address of its top call entry. -/
def Ctx.returned (x : Ctx) (k : CallEnt) (ks : List CallEnt) : Ctx :=
  { x with calls := ks, loops := cutTo k.depth x.loops, pc := k.ret, pos := k.pos }

variable {v c k ks}

/-- A RET whose context resumes inside no item leaves the tiles as they are: its position has come. -/
theorem State.returned_quiet (t e : Nat) (x : Ctx) (he : e * Config.fine ≤ (v.tile t).nextPos) :
    let u := (v.setCtx c x).setTile t { (v.setCtx c x).tile t with
      nextPos := Nat.max ((v.setCtx c x).tile t).nextPos (e * Config.fine) }
    v.writes u [.ctxs, .tiles] ∧ (∀ j, u.tile j = v.tile j) ∧ v.ctxBecomes u c x := by
  intro u
  refine ⟨State.writes_of State.setTile_writes (by decide) (State.writes_mono State.setCtx_writes (by decide)), fun j => ?_,
    ((State.ctxBecomes.refl v c).set x).of_writes State.setTile_writes (by decide)⟩
  have htile : ∀ j, (v.setCtx c x).tile j = v.tile j := fun _ => rfl
  by_cases hj : j = t
  · subst hj
    have hmax : Nat.max (v.tile j).nextPos (e * Config.fine) = (v.tile j).nextPos := Nat.max_eq_left he
    rw [State.tile_setTile, htile, hmax]
  · exact (State.tile_setTile_other _ _ hj).trans (htile j)

/-- A RET whose context resumes inside an item plays on from there. -/
theorem State.returned_enters (t pos : Nat) :
    let u := (v.setCtx c ((v.ctx c).returned k ks)).enter t c pos
    v.writes u [.ctxs, .tiles] ∧ (u.tile t).item = ((v.ctx c).returned k ks).resumed pos ∧ (u.tile t).running = some c ∧
    (∀ j, j ≠ t → u.tile j = v.tile j) ∧ (∀ d, d ≠ c → u.ctx d = v.ctx d) ∧ (u.ctx c).pc = k.ret ∧ (u.ctx c).calls = ks ∧
    (u.ctx c).loops = cutTo k.depth (v.ctx c).loops := by
  intro u
  have h := (v.setCtx c ((v.ctx c).returned k ks)).enter_enters t c pos
  have hc := h.ctx.1
  have hi := h.item
  rw [State.ctx_setCtx] at hc hi
  exact ⟨State.writes_of h.writes (by decide) (State.writes_mono State.setCtx_writes (by decide)), hi, h.running, h.other,
    fun d hd => (h.ctx.2 d hd).trans (State.ctx_setCtx_other _ _ hd), by rw [hc]; rfl, by rw [hc]; rfl, by rw [hc]; rfl⟩

end

theorem posCycle_mul_le (p : Nat) : posCycle p * Config.fine ≤ p := Nat.div_mul_le_self p Config.fine

/-- The own effect of a RET whose context stands at call entry k, by where k resumes. -/
theorem ret_of_runs {s : State} {t : Tile} {ops : BitVec 66} {c p : Nat} (h : s.runsInstr t 0x07 ops c p)
    (hcond : (s.due t c 0x07 p).holds c (opCond ops) = true) {k : CallEnt} {ks : List CallEnt}
    (hcalls : ((s.due t c 0x07 p).ctx c).calls = k :: ks) (hkind : ((s.due t c 0x07 p).store k.ret.sid).kind = .program)
    {P : State → Prop} {u : State} (hlive : (u.tile t).running ≠ none) (hP : P u)
    (hu : (match k.pos with
      | .words _ _ _ _ _ _ => ((s.due t c 0x07 p).setCtx c (((s.due t c 0x07 p).ctx c).returned k ks)).enter t c
          ((s.due t c 0x07 p).tile t).nextPos
      | .block _ _ _ _ _ _ _ => ((s.due t c 0x07 p).setCtx c (((s.due t c 0x07 p).ctx c).returned k ks)).enter t c
          ((s.due t c 0x07 p).tile t).nextPos
      | _ => ((s.due t c 0x07 p).setCtx c (((s.due t c 0x07 p).ctx c).returned k ks)).setTile t
          { ((s.due t c 0x07 p).setCtx c (((s.due t c 0x07 p).ctx c).returned k ks)).tile t with
            nextPos := Nat.max (((s.due t c 0x07 p).setCtx c (((s.due t c 0x07 p).ctx c).returned k ks)).tile t).nextPos
              (posCycle p * Config.fine) }) = u) : Answers (.ret t ops) s P := by
  refine answers_of_runs h rfl u ?_ (.inl hlive) hP
  refine (State.ifCond_of_holds hcond).trans ?_
  dsimp only
  split
  · next hnil => exact absurd (hnil.symm.trans hcalls) (by simp)
  · next k' ks' hcons =>
    obtain ⟨rfl, rfl⟩ := List.cons.inj (hcons.symm.trans hcalls)
    exact (if_neg (by simp [hkind])).trans hu

/-! ## Halts (R80) -/

/-- What a HALT leaves on a waveform tile. -/
theorem State.halted_of_wave {v : State} {t c : Nat} (ht : t < 8) (hitem : (v.tile t).item = .idle) :
    let u := (v.nextPc c).leave t c .halted
    v.writes u [.ctxs, .tiles] ∧ (u.ctx c).st = .halted ∧ (u.ctx c).pc = (v.ctx c).pc.next ∧
    (u.tile t).running = none ∧ (u.tile t).last = some c ∧ (u.tile t).item = .idle ∧
    (u.tile t).mark0 = 0 ∧ (u.tile t).mark1 = 0 ∧ (∀ j, j ≠ t → u.tile j = v.tile j) := by
  intro u
  have hw := State.leave_writes_of_wave (v := v.nextPc c) ht (State.underrunAt_of_idle hitem) c .halted
  have hctx := ((v.nextPc c).leave_ctx t c .halted).eq
  rw [(State.ctxBecomes.refl v c).nextPc.1] at hctx
  obtain ⟨hrun, hlast, hi, h0, h1⟩ := TileSt.slotless_fields ((v.nextPc c).leave_tile t c .halted)
  exact ⟨State.writes_of hw (by decide) (State.writes_mono State.nextPc_writes (by decide)), congrArg Ctx.st hctx,
    congrArg Ctx.pc hctx, hrun, hlast, hi, h0, h1, fun j hj => (v.nextPc c).leave_other t c .halted hj⟩

/-- Settles O23: each instruction by the context it leaves; a RET by where the call entry resumes. -/
theorem callsReturnsJumpsAndHalts : Obligations.CallsReturnsJumpsAndHalts := by
  unfold Obligations.CallsReturnsJumpsAndHalts
  intro s t ops c p
  refine ⟨fun h hcond hlen a ha => ?_, fun h hcond k ks hcalls hkind => ⟨fun hpos => ?_, fun hd sid e n b w m hpos => ?_,
    fun hd sid len f w reps hpos => ?_⟩, fun h hcond hpop hfloor a ha => ?_, fun h hcond ht => ?_⟩
  · have hbecomes := ((State.ctxBecomes.refl (s.due t c 0x06 p) c).set { (s.due t c 0x06 p).ctx c with
      calls := ⟨((s.due t c 0x06 p).ctx c).pc.next, .fresh, ((s.due t c 0x06 p).ctx c).loops.length⟩ ::
        ((s.due t c 0x06 p).ctx c).calls }).setPc a
    refine answers_of_quiet h rfl _ ?_ (State.setCtx_setPc_writes _ c) (by decide) ⟨State.setCtx_setPc_writes _ c, hbecomes⟩
    refine (State.ifCond_of_holds hcond).trans ((if_neg (by omega)).trans ?_)
    rw [ha]
    rfl
  · obtain ⟨hw, htile, hctx⟩ := State.returned_quiet (v := s.due t c 0x07 p) (c := c) t (posCycle p)
      (((s.due t c 0x07 p).ctx c).returned k ks) (by rw [(s.due_tile t c 0x07 p).2.1]; exact posCycle_mul_le p)
    refine ret_of_runs h hcond hcalls hkind ?_ ⟨hw, htile, hctx⟩ ?_
    · rw [htile, State.due_running h]
      exact Option.some_ne_none c
    · rcases hpos with hpos | ⟨n, hpos⟩ | ⟨n, since, hpos⟩ <;> rw [hpos]
  · have hret := State.returned_enters (v := s.due t c 0x07 p) (c := c) (k := k) (ks := ks) t
      ((s.due t c 0x07 p).tile t).nextPos
    have hres : (((s.due t c 0x07 p).ctx c).returned k ks).resumed ((s.due t c 0x07 p).tile t).nextPos =
        .stream hd sid e n m b w p .playing := by
      rw [(s.due_tile t c 0x07 p).2.1, Ctx.resumed, Ctx.returned]
      dsimp only
      rw [hpos]
    rw [hres] at hret
    refine ret_of_runs h hcond hcalls hkind ?_ hret (by rw [hpos])
    rw [hret.2.2.1]
    exact Option.some_ne_none c
  · have hret := State.returned_enters (v := s.due t c 0x07 p) (c := c) (k := k) (ks := ks) t
      ((s.due t c 0x07 p).tile t).nextPos
    have hres : (((s.due t c 0x07 p).ctx c).returned k ks).resumed ((s.due t c 0x07 p).tile t).nextPos =
        .words hd sid len f w reps p := by
      rw [(s.due_tile t c 0x07 p).2.1, Ctx.resumed, Ctx.returned]
      dsimp only
      rw [hpos]
    rw [hres] at hret
    refine ret_of_runs h hcond hcalls hkind ?_ hret (by rw [hpos])
    rw [hret.2.2.1]
    exact Option.some_ne_none c
  · have hbecomes := ((State.ctxBecomes.refl (s.due t c 0x08 p) c).set { (s.due t c 0x08 p).ctx c with
      loops := ((s.due t c 0x08 p).ctx c).loops.drop (opBits ops 58 4) }).setPc a
    refine answers_of_quiet h rfl _ ?_ (State.setCtx_setPc_writes _ c) (by decide) ⟨State.setCtx_setPc_writes _ c, hbecomes⟩
    refine (State.ifCond_of_holds hcond).trans ((if_neg (by omega)).trans ?_)
    rw [ha]
    rfl
  · have hhalt := State.halted_of_wave (v := s.due t c 0x01 p) (c := c) ht (s.due_tile t c 0x01 p).1
    refine answers_of_runs h rfl _ (State.ifCond_of_holds hcond) (.inr ?_) hhalt
    rw [hhalt.2.1]
    decide

end Sys2Proof.Machine
end

/-! # Timed items begin (R58, R67, R72, R73, R75, R119) -/

section
namespace Sys2Proof.Machine

section
variable (v : State) (t c : Nat)

/-- An item begun on tile t that plays no word of its own. -/
theorem State.setItem_begins (i : Item) : (v.tile t).Begins ((v.setItem t i).tile t) i := by
  rw [State.setItem, State.tile_setTile]
  exact ⟨rfl, rfl, rfl, rfl, rfl, rfl, rfl⟩

theorem State.setItem_other (i : Item) {k : Nat} (hk : k ≠ t) : (v.setItem t i).tile k = v.tile k :=
  State.tile_setTile_other _ _ hk

theorem State.setItem_writes (i : Item) : v.writes (v.setItem t i) [.tiles] := State.setTile_writes

theorem State.tile_nextPc (k : Nat) : (v.nextPc c).tile k = v.tile k := rfl

/-! ## The bridge on the pins (R197) -/

/-- The pins of a pattern tile's group go to the bridge; every other group stays. -/
theorem State.bridgePins_group :
    (∀ g, t < 8 ∨ g ≠ t - 8 → (v.bridgePins t).group g = v.group g) ∧
    (8 ≤ t → (v.bridgePins t).group (t - 8) = { v.group (t - 8) with drive := ((v.bridgePins t).group (t - 8)).drive }) := by
  unfold State.bridgePins
  split
  · next h => exact ⟨fun _ _ => rfl, fun h8 => absurd h (by omega)⟩
  · next h =>
    exact ⟨fun g hg => State.group_setGroup_other _ _ (hg.resolve_left h), fun _ => by rw [State.group_setGroup]⟩

/-- Where the PC stands says nothing of the bridge. -/
theorem State.bridgePins_nextPc (g : Nat) : ((v.nextPc c).bridgePins t).group g = (v.bridgePins t).group g := by
  unfold State.bridgePins
  split
  · rfl
  · rfl

/-- A WAIT or a SYNC begun: the bridge on the pins, the item on the tile, the PC past the instruction. -/
theorem State.bridged_begins (i : Item) :
    let u := ((v.nextPc c).bridgePins t).setItem t i
    (v.writes u [.ctxs, .tiles, .grp] ∧ (∀ g, t < 8 ∨ g ≠ t - 8 → u.group g = v.group g) ∧
      (8 ≤ t → u.group (t - 8) = { v.group (t - 8) with drive := ((v.bridgePins t).group (t - 8)).drive })) ∧
    v.ctxBecomes u c (v.ctx c).stepped ∧ (v.tile t).Begins (u.tile t) i ∧ ∀ k, k ≠ t → u.tile k = v.tile k := by
  intro u
  obtain ⟨hother, hown⟩ := v.bridgePins_group t
  have hpins : (v.nextPc c).writes ((v.nextPc c).bridgePins t) [.grp] := State.bridgePins_moves.1
  have htile : ∀ k, ((v.nextPc c).bridgePins t).tile k = v.tile k := fun k => State.tile_of_writes hpins (by decide) k
  have hitem := ((v.nextPc c).bridgePins t).setItem_writes t i
  have hgroup : ∀ g, u.group g = (v.bridgePins t).group g := fun g =>
    (State.group_of_writes hitem (by decide) g).trans (v.bridgePins_nextPc t c g)
  refine ⟨⟨?_, fun g hg => (hgroup g).trans (hother g hg), fun h8 => (hgroup _).trans (hown h8)⟩, ?_, ?_, fun k hk => ?_⟩
  · exact State.writes_of hitem (by decide) (State.writes_of hpins (by decide) (State.writes_mono State.nextPc_writes (by decide)))
  · exact ((State.ctxBecomes.refl v c).nextPc.of_writes hpins (by decide)).of_writes hitem (by decide)
  · rw [← htile]
    exact State.setItem_begins _ t i
  · exact (State.setItem_other _ t i hk).trans (htile k)

end

section
variable {s : State} {t : Tile} {ops : BitVec 66} {c op p : Nat}

/-- An item begun where the one before it ended. -/
theorem TileSt.Begins.at_due {x : TileSt} {i : Item} (h : ((s.due t c op p).tile t).Begins x i) :
    x.spin = 0 ∧ x.itemAt = p ∧ x.nextPos = p ∧ x.running = ((s.due t c op p).tile t).running :=
  ⟨h.spin, h.itemAt.trans (s.due_tile t c op p).2.1, h.nextPos.trans (s.due_tile t c op p).2.1, h.running⟩

theorem TileSt.Begins.live {x : TileSt} {i : Item} (h : ((s.due t c op p).tile t).Begins x i)
    (hr : s.runsInstr t op ops c p) : x.running ≠ none := by
  rw [h.running, State.due_running hr]
  exact Option.some_ne_none c

end

/-! ## Words and blocks -/

section
variable (v : State) (t c : Nat)

/-- Words begun past an instruction. -/
theorem State.words_begin (h sid len f w reps : Nat) :
    let u := (v.nextPc c).playWords t h sid len f w reps
    v.writes u [.ctxs, .tiles] ∧ v.ctxBecomes u c (v.ctx c).stepped ∧
    (v.tile t).Begins (u.tile t) (.words h sid len f w reps (v.tile t).nextPos) ∧ (∀ k, k ≠ t → u.tile k = v.tile k) ∧
    (u.tile t).rcache = (if 0 < reps ∧ len < 64 then some (sid, len) else (v.tile t).rcache) := by
  intro u
  have hw : (v.nextPc c).writes u [.tiles] := State.playWords_writes _ t
  exact ⟨State.writes_of hw (by decide) (State.writes_mono State.nextPc_writes (by decide)),
    (State.ctxBecomes.refl v c).nextPc.of_writes hw (by decide), (v.nextPc c).playWords_begins t h sid len f w reps,
    fun k hk => (v.nextPc c).playWords_other t hk, (v.nextPc c).playWords_rcache t h sid len f w reps⟩

/-- v with the landing slot of a STREAM's handler held by tile t, where the STREAM has one (R126). -/
def State.holding (i : Option Nat) : State :=
  match i with
  | some j => v.setTile t { v.tile t with divert := some j }
  | none => v

theorem State.holding_writes (i : Option Nat) : v.writes (v.holding t i) [.tiles] := by
  cases i with
  | none => exact State.writes_refl
  | some j => exact State.setTile_writes

theorem State.holding_other (i : Option Nat) {k : Nat} (hk : k ≠ t) : (v.holding t i).tile k = v.tile k := by
  cases i with
  | none => rfl
  | some j => exact State.tile_setTile_other _ _ hk

theorem State.holding_tile (i : Option Nat) :
    (v.holding t i).tile t = { v.tile t with divert := if i.isSome then i else (v.tile t).divert } := by
  cases i with
  | none => rfl
  | some j => exact State.tile_setTile _ _ _

theorem State.playBlocks_divert (it : Item) : ((v.playBlocks t it).tile t).divert = (v.tile t).divert := by
  rw [State.playBlocks, State.tile_setTile]
  rfl

/-- A STREAM begun past its instruction, with the handler's slot that resolving it has found. -/
theorem State.blocks_begin (i : Option Nat) (it : Item) :
    let u := ((v.holding t i).nextPc c).playBlocks t it
    v.writes u [.ctxs, .tiles] ∧ v.ctxBecomes u c (v.ctx c).stepped ∧ (v.tile t).Begins (u.tile t) it ∧
    (∀ k, k ≠ t → u.tile k = v.tile k) ∧ (u.tile t).divert = (if i.isSome then i else (v.tile t).divert) := by
  intro u
  have hw : ((v.holding t i).nextPc c).writes u [.tiles] := State.playBlocks_writes _ t
  have hold := v.holding_tile t i
  have hb : ((v.holding t i).tile t).Begins (u.tile t) it := State.playBlocks_begins _ t it
  have hd : (u.tile t).divert = ((v.holding t i).tile t).divert := State.playBlocks_divert _ t it
  rw [hold] at hb hd
  refine ⟨?_, ?_, ⟨hb.item, hb.spin, hb.itemAt, hb.nextPos, hb.running, hb.last, hb.start⟩, fun k hk => ?_, hd⟩
  · exact State.writes_of hw (by decide) (State.writes_of State.nextPc_writes (by decide)
      (State.writes_mono (v.holding_writes t i) (by decide)))
  · have h := (((State.ctxBecomes.refl v c).of_writes (v.holding_writes t i) (by decide)).nextPc)
    exact h.of_writes hw (by decide)
  · exact (State.playBlocks_other _ t hk).trans (v.holding_other t i hk)

end

/-- The landing that names slot i, or that needs none. -/
def Landing.ofSlot : Option Nat → Landing
  | some i => .slot i
  | none => .free

theorem State.useHandler_ofSlot (v : State) (t : Nat) (i : Option Nat) : v.useHandler t (.ofSlot i) = .ok (v.holding t i) := by
  cases i <;> rfl

theorem State.landHandler_of_hold {v : State} {c : Nat} (h : v.upol c ≠ 2) (t : Nat) : v.landHandler t c = (v, .free) :=
  if_pos h

theorem State.holding_store (v : State) (t : Nat) (i : Option Nat) (n : Nat) : (v.holding t i).store n = v.store n :=
  State.store_of_writes (v.holding_writes t i) (by decide) n

/-- Settles O24: an item begins where the one before it ended, by the lemma of each kind of item. -/
theorem timedItemsBegin : Obligations.TimedItemsBegin := by
  unfold Obligations.TimedItemsBegin
  intro begun bridged s t ops c p found
  have hbegun : ∀ {op : Nat} {u : State} {i : Item}, ((s.due t c op p).tile t).Begins (u.tile t) i →
      (∀ k, k ≠ t.val → u.tile k = (s.due t c op p).tile k) → begun (s.due t c op p) u t p := fun hb ho => by
    obtain ⟨hspin, hat, hnext, hrun⟩ := hb.at_due
    exact ⟨hspin, hat, hnext, hrun, ho⟩
  refine ⟨fun h r hr => ?_, fun h r hr => ?_, fun h => ?_, fun h hpos => ?_, fun h hpos => ?_, fun h i hi r hr => ?_⟩
  · obtain ⟨hw, hctx, hb, ho, hcache⟩ := (s.due t c 0x02 p).words_begin t c (opHandle ops) r.1 r.2.len (opOffset ops)
      (opOffset ops) 0
    rw [if_neg (by omega)] at hcache
    rw [(s.due_tile t c 0x02 p).2.1] at hb
    exact answers_of_runs h rfl _ (by rw [hr]; rfl) (.inl (hb.live h)) ⟨hw, hctx, hbegun hb ho, hb.item, hcache⟩
  · obtain ⟨hw, hctx, hb, ho, hcache⟩ := (s.due t c 0x03 p).words_begin t c (opHandle ops) r.1 r.2.len 0 0
      (opBits ops 0 32 - 1)
    rw [(s.due_tile t c 0x03 p).2.1] at hb
    exact answers_of_runs h rfl _ (by rw [hr]; rfl) (.inl (hb.live h)) ⟨hw, hctx, hbegun hb ho, hb.item, hcache⟩
  · obtain ⟨hbr, hctx, hb, ho⟩ := (s.due t c 0x0B p).bridged_begins t c (.wait (opBits ops 0 10) (posCycle p)
      ((s.due t c 0x0B p).waitEnds (opBits ops 0 10) (posCycle p)))
    exact answers_of_runs h rfl _ rfl (.inl (hb.live h)) ⟨hbr, hctx, hbegun hb ho, hb.item⟩
  · obtain ⟨hbr, hctx, hb, ho⟩ := (s.due t c 0x0C p).bridged_begins t c (.sync (opBits ops 62 2) (syncArg ops) (posCycle p)
      ((s.due t c 0x0C p).syncTarget (opBits ops 62 2) (syncArg ops) (posCycle p)))
    exact answers_of_runs h rfl _ (by dsimp only; rw [hpos]; rfl) (.inl (hb.live h)) ⟨hbr, hctx, hbegun hb ho, hb.item⟩
  · have hw := ((s.due t c 0x10 p).nextPc c).setItem_writes t (.ramp (opBits ops 60 2) (opBits ops 44 16) (opBits ops 28 16)
      (opBits ops 0 28) 0 (posCycle p))
    have hb := ((s.due t c 0x10 p).nextPc c).setItem_begins t (.ramp (opBits ops 60 2) (opBits ops 44 16) (opBits ops 28 16)
      (opBits ops 0 28) 0 (posCycle p))
    rw [State.tile_nextPc] at hb
    exact answers_of_runs h rfl _ (by dsimp only; rw [hpos]) (.inl (hb.live h))
      ⟨State.writes_of hw (by decide) (State.writes_mono State.nextPc_writes (by decide)),
        (State.ctxBecomes.refl _ c).nextPc.of_writes hw (by decide),
        hbegun hb fun k hk => State.setItem_other _ t _ hk, hb.item⟩
  · obtain ⟨hw, hctx, hb, ho, hd⟩ := (s.due t c 0x12 p).blocks_begin t c i
      (.stream (opHandle ops) r.1 r.2 (opBits ops 0 32) 0 ((s.due t c 0x12 p).store r.1).rd 0 p .playing)
    refine answers_of_runs h rfl _ ?_ (.inl (hb.live h)) ⟨hw, hctx, hbegun hb ho, hb.item, hd⟩
    have hland : (match found t c p with
        | some l => (s.due t c 0x12 p, l)
        | none => (s.due t c 0x12 p).landHandler t c) = (s.due t c 0x12 p, Landing.ofSlot i) := by
      rcases hi with hfound | ⟨hfound, rfl, hpol⟩
      · rw [hfound]
        cases i <;> rfl
      · rw [hfound]
        exact State.landHandler_of_hold hpol t
    rw [hr]
    refine (congrArg (fun q : State × Landing => q.1.orRefuse t c (q.1.useHandler t q.2) fun s1 => (s1.nextPc c).playBlocks t
      (.stream (opHandle ops) r.1 r.2 (opBits ops 0 32) 0 (s1.store r.1).rd 0 (s1.tile t).nextPos .playing)) hland).trans ?_
    dsimp only
    rw [State.useHandler_ofSlot, State.orRefuse]
    rw [State.holding_store, State.holding_tile, (s.due_tile t c 0x12 p).2.1]

end Sys2Proof.Machine
end

/-! # Phases, marks, signals and steps of a ramp (R74, R75, R78, R79) -/

section
namespace Sys2Proof.Machine

theorem unsignedOf_lt (n : Nat) (i : Int) : unsignedOf n i < 2 ^ n := by
  have hpos : (0 : Int) < (2 ^ n : Nat) := Int.natCast_pos.mpr (Nat.two_pow_pos n)
  have h1 := Int.emod_nonneg i hpos.ne'
  have h2 := Int.emod_lt_of_pos i hpos
  unfold unsignedOf
  omega

section
variable (v : State) (w e : Nat)

/-! ## The NCO (R165) -/

theorem State.setPhase_wave (n : Nat) : (v.setPhase w e n).wave w = { v.wave w with phase := BitVec.ofNat 48 n, phaseAt := e } :=
  State.wave_setWave _ _ _

theorem State.setPhase_other (n : Nat) {k : Nat} (h : k ≠ w) : (v.setPhase w e n).wave k = v.wave k :=
  State.wave_setWave_other _ _ h

theorem State.setFtw_writes (n : Nat) : v.writes (v.setFtw w e n) [.regs, .wav] := State.setFtw_moves.1

theorem State.setFtw_sets {n : Nat} (hn : n < 2 ^ 48) : v.setsFields (v.setFtw w e n)
    [(Reg.NCO_FTW_ACT_LO w, n % 2 ^ 32), (Reg.NCO_FTW_ACT_HI w, n / 2 ^ 32)] := by
  have hregs : (v.setPhase w e (v.phaseLast w e + n)).regs = v.regs := State.setPhase_moves.1 .regs (by decide)
  have h := ((State.setsFields_nil_of_regs hregs).nextModAt (Reg.NCO_FTW_ACT_LO w) 32 (n % 2 ^ 32) (by simp) rfl rfl).put
    (Reg.NCO_FTW_ACT_HI w) (n / 2 ^ 32) (of_decide_eq_true rfl) (by simp only [Reg.NCO_FTW_ACT_HI]; omega)
    (by simp [Fld.apart, Reg.NCO_FTW_ACT_LO, Reg.NCO_FTW_ACT_HI])
  rw [Nat.mod_mod] at h
  rw [State.setFtw, Nat.mod_eq_of_lt hn]
  exact h

theorem State.setFtw_wave (n : Nat) : (v.setFtw w e n).wave w =
    { v.wave w with phase := BitVec.ofNat 48 (v.phaseLast w e + n), phaseAt := e } := by
  rw [State.setFtw, State.wave_of_writes (s := v.setPhase w e (v.phaseLast w e + n)) State.put64_moves.1 (by decide),
    State.setPhase_wave]

theorem State.setFtw_other (n : Nat) {k : Nat} (h : k ≠ w) : (v.setFtw w e n).wave k = v.wave k := by
  rw [State.setFtw, State.wave_of_writes (s := v.setPhase w e (v.phaseLast w e + n)) State.put64_moves.1 (by decide),
    State.setPhase_other _ _ _ _ h]

/-- v with a frequency word set, and the phase reset where asked (R165). -/
def State.setf (n : Nat) (reset : Prop) [Decidable reset] : State :=
  if reset then (v.setFtw w e n).setPhase w e (v.rstPhase w) else v.setFtw w e n

theorem State.setf_writes (n : Nat) (reset : Prop) [Decidable reset] : v.writes (v.setf w e n reset) [.regs, .wav] := by
  unfold State.setf
  split
  · exact State.writes_of State.setPhase_moves.1 (by decide) (v.setFtw_writes w e n)
  · exact v.setFtw_writes w e n

theorem State.setf_sets {n : Nat} (hn : n < 2 ^ 48) (reset : Prop) [Decidable reset] : v.setsFields (v.setf w e n reset)
    [(Reg.NCO_FTW_ACT_LO w, n % 2 ^ 32), (Reg.NCO_FTW_ACT_HI w, n / 2 ^ 32)] := by
  unfold State.setf
  split
  · exact (v.setFtw_sets w e hn).of_regs (State.setPhase_moves.1 .regs (by decide))
  · exact v.setFtw_sets w e hn

theorem State.setf_wave (n : Nat) (reset : Prop) [Decidable reset] : (v.setf w e n reset).wave w = { v.wave w with
    phase := BitVec.ofNat 48 (if reset then v.rstPhase w else v.phaseLast w e + n), phaseAt := e } := by
  unfold State.setf
  split
  · exact ((v.setFtw w e n).setPhase_wave w e _).trans (by rw [State.setFtw_wave])
  · exact v.setFtw_wave w e n

theorem State.setf_other (n : Nat) (reset : Prop) [Decidable reset] {k : Nat} (h : k ≠ w) : (v.setf w e n reset).wave k = v.wave k := by
  unfold State.setf
  split
  · exact ((v.setFtw w e n).setPhase_other w e _ h).trans (v.setFtw_other w e n h)
  · exact v.setFtw_other w e n h

/-- The reset phase is a programmed one: no command of the NCO changes it. -/
theorem State.rstPhase_setFtw (n : Nat) : (v.setFtw w e n).rstPhase w = v.rstPhase w := by
  simp only [State.rstPhase, State.active64, State.active_of_writes (v.setFtw_writes w e n) (by decide)]

end

/-! ## Marks (R78) -/

section
variable (v : State) (t : Tile) (c : Nat) (ops : BitVec 66) (n : Nat)

/-- v with a mark and its time recorded, and a waveform tile's marker override. -/
def State.marked : State :=
  let s1 := (v.put (Reg.SEQ_MARK_TAG t) (opBits ops 0 32)).put64 (Reg.SEQ_MARK_TS_LO t) (Reg.SEQ_MARK_TS_HI t) n
  if t.val < 8 then s1.setTile t { s1.tile t with mark0 := opBits ops 32 2, mark1 := opBits ops 34 2 } else s1

/-- v with the registers of a mark. -/
def State.tagged : State :=
  (v.put (Reg.SEQ_MARK_TAG t) (opBits ops 0 32)).put64 (Reg.SEQ_MARK_TS_LO t) (Reg.SEQ_MARK_TS_HI t) n

theorem State.tagged_writes : v.writes (v.tagged t ops n) [.regs] :=
  State.writes_of State.put64_moves.1 (by decide) State.put_writes

theorem State.marked_eq : v.marked t ops n = if t.val < 8 then (v.tagged t ops n).setTile t
    { v.tile t with mark0 := opBits ops 32 2, mark1 := opBits ops 34 2 } else v.tagged t ops n := by
  rw [← State.tile_of_writes (v.tagged_writes t ops n) (by decide) t]
  rfl

theorem State.tagged_sets {n : Nat} (hn : n < 2 ^ 64) : v.setsFields (v.tagged t ops n)
    [(Reg.SEQ_MARK_TAG t, opBits ops 0 32), (Reg.SEQ_MARK_TS_LO t, n % 2 ^ 32), (Reg.SEQ_MARK_TS_HI t, n / 2 ^ 32)] := by
  have h := (v.setsFields_refl.put (Reg.SEQ_MARK_TAG t) (opBits ops 0 32) (of_decide_eq_true rfl) (opBits_lt ops 0 32)
    (by simp)).put64At (Reg.SEQ_MARK_TS_LO t) (Reg.SEQ_MARK_TS_HI t) hn
    (by simp [Fld.apart, Reg.SEQ_MARK_TAG, Reg.SEQ_MARK_TS_LO])
    (by simp [Fld.apart, Reg.SEQ_MARK_TAG, Reg.SEQ_MARK_TS_LO, Reg.SEQ_MARK_TS_HI]) ⟨rfl, rfl⟩ ⟨rfl, rfl⟩
  exact h

theorem State.marked_writes : v.writes (v.marked t ops n) [.regs, .tiles] := by
  rw [v.marked_eq]
  have h : v.writes (v.tagged t ops n) [.regs, .tiles] := State.writes_mono (v.tagged_writes t ops n) (by decide)
  split
  · exact State.writes_of State.setTile_writes (by decide) h
  · exact h

theorem State.marked_sets {n : Nat} (hn : n < 2 ^ 64) : v.setsFields (v.marked t ops n)
    [(Reg.SEQ_MARK_TAG t, opBits ops 0 32), (Reg.SEQ_MARK_TS_LO t, n % 2 ^ 32), (Reg.SEQ_MARK_TS_HI t, n / 2 ^ 32)] := by
  rw [v.marked_eq]
  split
  · exact (v.tagged_sets t ops hn).of_regs (State.setTile_writes .regs (by decide))
  · exact v.tagged_sets t ops hn

theorem State.marked_tile : v.tileBecomes (v.marked t ops n) t (if t.val < 8 then
    { v.tile t with mark0 := opBits ops 32 2, mark1 := opBits ops 34 2 } else v.tile t) := by
  have htile : ∀ k, (v.tagged t ops n).tile k = v.tile k := fun k => State.tile_of_writes (v.tagged_writes t ops n) (by decide) k
  rw [v.marked_eq]
  split
  · exact ⟨State.tile_setTile _ _ _, fun k hk => (State.tile_setTile_other _ _ hk).trans (htile k)⟩
  · exact ⟨htile t, fun k _ => htile k⟩

end

/-! ## Steps of a ramp (R75, R162) -/

section
variable (s : State) (w e delta : Nat)

theorem State.rampApply_gain : s.rampApply w e 1 delta = s.put (Reg.WAV_GAIN_ACT w)
    (max 0 (min ((s.get (Reg.WAV_GAIN_ACT w) : Int) + signedOf 28 delta) 0xFFFFFFF)).toNat := by
  have hclamp : ∀ i : Int, (if i < 0 then 0 else Nat.min i.toNat 0xFFFFFFF) = (max 0 (min i 0xFFFFFFF)).toNat := fun i => by
    split
    · omega
    · exact (show min i.toNat 0xFFFFFFF = _ by omega)
  exact congrArg (s.put (Reg.WAV_GAIN_ACT w)) (hclamp _)

theorem State.rampApply_offset : s.rampApply w e 2 delta = s.put (Reg.WAV_OFFSET_ACT w)
    (unsignedOf 28 (clampSigned 28 (signedOf 28 (s.get (Reg.WAV_OFFSET_ACT w)) + signedOf 28 delta))) := rfl

end

theorem State.nextPc_writes_of {s u : State} {c : Nat} {V W : List Piece} (h : s.writes u V) (hV : ∀ p ∈ V, p ∈ W)
    (hc : Piece.ctxs ∈ W) : s.writes (u.nextPc c) W :=
  State.writes_of State.nextPc_writes (by simpa using hc) (State.writes_mono h hV)

/-- Settles O25: the NCO's commands by phase and frequency word, a mark by its registers and override, and a ramp's step by the
act register that it moves. -/
theorem phasesMarksSignalsAndSteps : Obligations.PhasesMarksSignalsAndSteps := by
  unfold Obligations.PhasesMarksSignalsAndSteps
  intro s t
  refine ⟨fun ops c p h => ?_, fun ops c p h => ?_, fun ops c p h => ?_, fun ops c p h hcond => ?_,
    fun target steps dwell delta k next hitem hk hnext => ?_⟩
  · have hw := (s.due t c 0x0E p).setf_writes t (posCycle p) (opBits ops 0 48) (opBits ops 65 1 = 1)
    have hsets := (s.due t c 0x0E p).setf_sets t (posCycle p) (opBits_lt ops 0 48) (opBits ops 65 1 = 1)
    have hwave := (s.due t c 0x0E p).setf_wave t (posCycle p) (opBits ops 0 48) (opBits ops 65 1 = 1)
    have hother := fun k => (s.due t c 0x0E p).setf_other t (posCycle p) (opBits ops 0 48)
      (opBits ops 65 1 = 1) (k := k)
    generalize hv : (s.due t c 0x0E p).setf t (posCycle p) (opBits ops 0 48) (opBits ops 65 1 = 1) = v
      at hw hsets hwave hother
    refine answers_of_quiet h rfl (v.nextPc c) ?_ (State.nextPc_writes_of hw (W := [.regs, .ctxs, .wav]) (by decide)
      (by decide)) (by decide) ⟨State.nextPc_writes_of hw (by decide) (by decide),
        ((State.ctxBecomes.refl _ c).of_writes hw (by decide)).nextPc, hsets.of_regs (State.nextPc_writes .regs (by decide)),
        hwave, hother⟩
    rw [← hv, State.setf, ← State.rstPhase_setFtw _ t (posCycle p) (opBits ops 0 48)]
  · have hw : ∀ n, (s.due t c 0x0F p).writes ((s.due t c 0x0F p).setPhase t (posCycle p) n) [.wav] := fun n =>
      State.setPhase_moves.1
    refine answers_of_quiet h rfl (((s.due t c 0x0F p).setPhase t (posCycle p) (if opBits ops 65 1 = 1 then opBits ops 0 48
      else (s.due t c 0x0F p).phaseLast t (posCycle p) + (s.due t c 0x0F p).ftw t + opBits ops 0 48)).nextPc c) ?_
      (State.nextPc_writes_of (hw _) (W := [.ctxs, .wav]) (by decide) (by decide)) (by decide)
      ⟨State.nextPc_writes_of (hw _) (by decide) (by decide),
        ((State.ctxBecomes.refl _ c).of_writes (hw _) (by decide)).nextPc, State.setPhase_wave _ t _ _,
        fun w hne => State.setPhase_other _ t _ _ hne⟩
    split <;> rfl
  · have hn : (s.due t c 0x11 p).sysTime (posCycle p) < 2 ^ 64 := BitVec.isLt _
    have hw := (s.due t c 0x11 p).marked_writes t ops ((s.due t c 0x11 p).sysTime (posCycle p))
    have hsets := (s.due t c 0x11 p).marked_sets t ops hn
    have htile := (s.due t c 0x11 p).marked_tile t ops ((s.due t c 0x11 p).sysTime (posCycle p))
    have hnext := State.nextPc_writes (s := (s.due t c 0x11 p).marked t ops ((s.due t c 0x11 p).sysTime (posCycle p))) (c := c)
    have hctx := ((State.ctxBecomes.refl (s.due t c 0x11 p) c).of_writes hw (by decide)).nextPc
    refine answers_of_runs h rfl (((s.due t c 0x11 p).marked t ops ((s.due t c 0x11 p).sysTime (posCycle p))).nextPc c) rfl
      (.inl ?_) ⟨State.nextPc_writes_of hw (by decide) (by decide), hctx, hsets.of_regs (hnext .regs (by decide)), htile⟩
    refine ne_of_eq_of_ne ((congrArg TileSt.running htile.1).trans ?_) (Option.some_ne_none c)
    split <;> exact State.due_running h
  · have hw : (s.due t c 0x14 p).writes ((s.due t c 0x14 p).occur (0x0B5 + opBits ops 0 6) (posCycle p)
        ((s.due t c 0x14 p).tsAt (posCycle p))) [.evt] := State.occur_moves.1
    exact answers_of_quiet h rfl _ (State.ifCond_of_holds hcond)
      (State.nextPc_writes_of hw (W := [.ctxs, .evt]) (by decide) (by decide)) (by decide)
      ⟨State.nextPc_writes_of hw (by decide) (by decide), ((State.ctxBecomes.refl _ c).of_writes hw (by decide)).nextPc, rfl⟩
  · have hw : s.writes (s.rampApply t next target delta) [.regs, .wav] := State.rampApply_moves.1
    refine ⟨(s.rampApply t next target delta).setTile t
      { s.tile t with item := .ramp target steps dwell delta (k + 1) (next + dwell) }, congrArg Host.Outcome.next ?_,
      ⟨State.tile_setTile _ _ _, fun j hj => (State.tile_setTile_other _ _ hj).trans (State.tile_of_writes hw (by decide) j)⟩,
      ?_, ?_, ?_⟩
    · rw [hitem]
      exact if_pos ⟨hk, hnext⟩
    · rintro rfl
      refine ⟨State.writes_of State.setTile_writes (by decide) (State.writes_mono hw (by decide)),
        (s.setFtw_sets t next (unsignedOf_lt 48 _)).of_regs (State.setTile_writes .regs (by decide)),
        fun w hne => (State.wave_of_writes State.setTile_writes (by decide) w).trans (s.setFtw_other t next _ hne)⟩
    · rintro rfl
      rw [s.rampApply_gain]
      refine ⟨State.writes_of State.setTile_writes (by decide) (State.writes_mono State.put_writes (by decide)), ?_⟩
      exact (s.setsFields_refl.put (Reg.WAV_GAIN_ACT t) _ (of_decide_eq_true rfl)
        (by simp only [Reg.WAV_GAIN_ACT]; omega) (by simp)).of_regs (State.setTile_writes .regs (by decide))
    · rintro rfl
      rw [s.rampApply_offset]
      refine ⟨State.writes_of State.setTile_writes (by decide) (State.writes_mono State.put_writes (by decide)), ?_⟩
      exact (s.setsFields_refl.put (Reg.WAV_OFFSET_ACT t) _ (of_decide_eq_true rfl) (unsignedOf_lt 28 _)
        (by simp)).of_regs (State.setTile_writes .regs (by decide))

end Sys2Proof.Machine
end

/-! # An ARM where the context table lists a context twice (R100, R105)

A sparse map is a list, and a state may list a key twice; what reads it sees the first entry, and retrySwitch goes through all
of them. The records of an entry that nothing reads then decide which record of the context that is read lands afresh. -/

section
namespace Sys2Proof.Machine

/-- Context 0, which runs on tile 0 at the first word of storage 0. -/
def armingCtx : Ctx := { Ctx.init with st := .running, pos := .steps 0 }

/-- The entry of context 0 that nothing reads: its record 0 is an unlanded SWITCH arm. -/
def shadowedCtx : Ctx := { armingCtx with arms := [(0, { ArmRec.init with valid := true, act := .switch })] }

/-- A state with context 0 listed twice, in which tile 0 holds a landing slot that no arm refers to. -/
def listedTwice : State :=
  { State.reset.put (Reg.MC_DISPATCH_VALID 0 0x09) 1 with
    stores := [(0, { Storage.init with len := 1 })]
    ctxs := [(0, armingCtx), (0, shadowedCtx)]
    tiles := [(0, { TileSt.init with running := some 0, slots := [(0, ⟨⟨[], []⟩, 0, none, none⟩)] })] }

/-- An ARM of record 0 for event 0 with the action STOP, which needs no landing slot. -/
def stopArm : BitVec 66 := BitVec.ofNat 66 (3 * 2 ^ 56)

theorem listedTwice_runsInstr : listedTwice.runsInstr 0 0x09 stopArm 0 0 := by
  refine ⟨?_, ?_, ?_, ?_, ?_⟩ <;> decide

theorem listedTwice_running : ((listedTwice.due 0 0 0x09 0).ctx 0).st = .running := by decide

/-- The record that the STOP arm has written takes the slot that has come free, as a SWITCH arm would. -/
theorem listedTwice_slot : (match exec (.arm 0 stopArm) listedTwice with
    | .next u => ((u.ctx 0).arm 0).slot
    | _ => none) = some 0 := by decide

/-- Refutes O26: in a state that lists context 0 twice, an ARM with the action STOP leaves its record with a landing slot, where
the record that it writes has none. -/
theorem not_armsAndSwitches : ¬ Obligations.ArmsAndSwitches := by
  unfold Obligations.ArmsAndSwitches
  rintro ⟨harm, -⟩
  obtain ⟨hwrite, -⟩ := harm listedTwice 0 stopArm 0 0
  obtain ⟨u, hu, hrecord, -⟩ := hwrite listedTwice_runsInstr listedTwice_running none (by decide)
  have hslot := listedTwice_slot
  rw [hu] at hslot
  have hnone := congrArg ArmRec.slot (hrecord (by decide))
  exact absurd (hnone.symm.trans hslot) (by decide)

end Sys2Proof.Machine
end

/-! # Faults of a context (R82) -/

section
namespace Sys2Proof.Machine

theorem Cause.code_lt (k : Cause) : k.code < 2 ^ 8 := by cases k <;> decide

section
variable (s : State) (t c : Nat) (k : Cause) (e : Sts)

/-- s with a stepped routine of tile t of which a step has applied noted as partial (R141). -/
def State.partialNoted : State := if 0 < (s.stepped t s.now).getD 0 then s.put (Reg.SEQ_STATUS_PARTIAL t) 1 else s

/-- s with the cause and status of a fault in the context and in the tile's registers. -/
def State.blamed : State :=
  let s1 := (s.partialNoted t).setCtx c { (s.partialNoted t).ctx c with cause := k.code, sts := e.code }
  (((s1.put (Reg.SEQ_FAULT_CTX t) c).put (Reg.SEQ_FAULT_CAUSE t) k.code).put (Reg.SEQ_FAULT_STS t) e.code).put
    (Reg.SEQ_STATUS_FAULT t) 1

theorem State.faultCtx_eq : s.faultCtx t c k e = (s.blamed t c k e).leave t c .faulted := rfl

theorem State.partialNoted_writes : s.writes (s.partialNoted t) [.regs] := by
  unfold State.partialNoted
  split
  · exact State.put_writes
  · exact State.writes_refl

theorem State.blamed_sets : (s.partialNoted t).setsFields (s.blamed t c k e) [(Reg.SEQ_FAULT_CTX t, c % 2 ^ 10),
    (Reg.SEQ_FAULT_CAUSE t, k.code), (Reg.SEQ_FAULT_STS t, e.code), (Reg.SEQ_STATUS_FAULT t, 1)] := by
  have h := ((((State.setsFields_nil_of_regs (s := s.partialNoted t) (t := (s.partialNoted t).setCtx c
    { (s.partialNoted t).ctx c with cause := k.code, sts := e.code }) rfl).nextModAt (Reg.SEQ_FAULT_CTX t) 10 c (by simp) rfl rfl).put
    (Reg.SEQ_FAULT_CAUSE t) k.code (of_decide_eq_true rfl) k.code_lt
    (by simp [Fld.apart, Reg.SEQ_FAULT_CTX, Reg.SEQ_FAULT_CAUSE])).put (Reg.SEQ_FAULT_STS t) e.code (of_decide_eq_true rfl)
    (Sts.code_lt e) (by simp [Fld.apart, Reg.SEQ_FAULT_CTX, Reg.SEQ_FAULT_CAUSE, Reg.SEQ_FAULT_STS])).nextAt
    (Reg.SEQ_STATUS_FAULT t) 1
    (by simp [Fld.apart, Reg.SEQ_FAULT_CTX, Reg.SEQ_FAULT_CAUSE, Reg.SEQ_FAULT_STS, Reg.SEQ_STATUS_FAULT]) rfl
  exact h

theorem State.blamed_writes : s.writes (s.blamed t c k e) [.regs, .ctxs] :=
  State.writes_of State.put_writes (by decide) <| State.writes_of State.put_writes (by decide) <|
    State.writes_of State.put_writes (by decide) <| State.writes_of State.put_writes (by decide) <|
    State.writes_of State.setCtx_writes (by decide) (State.writes_mono (s.partialNoted_writes t) (by decide))

theorem State.blamed_ctx : (s.blamed t c k e).ctx c = { s.ctx c with cause := k.code, sts := e.code } := by
  have hput : ∀ (v : State) (f : Fld) (n : Nat), (v.put f n).ctx c = v.ctx c := fun v f n =>
    State.ctx_of_writes State.put_writes (by decide) c
  rw [State.blamed, hput, hput, hput, hput, State.ctx_setCtx,
    State.ctx_of_writes (s.partialNoted_writes t) (by decide)]

/-- The registers of a fault lie below the slipway table. -/
theorem State.blamed_get_of_le {f : Fld} (hf : 0x170000 ≤ f.addr) (ht : t < 16) : (s.blamed t c k e).get f = s.get f := by
  have hpart : (s.partialNoted t).get f = s.get f := by
    unfold State.partialNoted
    split
    · exact State.get_put_other s _ (by simp only [Reg.SEQ_STATUS_PARTIAL]; omega)
    · rfl
  refine ((s.blamed_sets t c k e).get_apart fun g hg => .inl fun heq => ?_).trans hpart
  simp only [List.map_cons, List.map_nil, List.mem_cons, List.not_mem_nil, or_false] at hg
  rcases hg with rfl | rfl | rfl | rfl <;>
  · simp only [Reg.SEQ_FAULT_CTX, Reg.SEQ_FAULT_CAUSE, Reg.SEQ_FAULT_STS, Reg.SEQ_STATUS_FAULT] at heq
    omega

/-- What an underrun turns on: the tile's item, the blocks of the slipway table, and the words between two vector cycles. -/
theorem State.underrunAt_of_item {s u : State} {W : List Piece} (hw : s.writes u W) {t : Nat}
    (hitem : (u.tile t).item = (s.tile t).item) (hW : Piece.stores ∉ W ∧ Piece.grp ∉ W)
    (hlen : ∀ i, u.get (Reg.SLW_BLOCK i) = s.get (Reg.SLW_BLOCK i)) : u.underrunAt t = s.underrunAt t := by
  obtain ⟨hstore, hgrp⟩ := hW
  have hready : ∀ sid i b pos, u.blockReady sid i b pos = s.blockReady sid i b pos := fun sid i b pos => by
    rw [State.blockReady, State.blockReady, State.blockLen, hlen, State.store_of_writes hw hstore]
    rfl
  simp only [State.underrunAt, State.midNone, hitem, State.group_of_writes hw hgrp, hready] <;> rfl

theorem State.underrunAt_congr {s u : State} {W : List Piece} (hw : s.writes u W)
    (hW : Piece.tiles ∉ W ∧ Piece.stores ∉ W ∧ Piece.grp ∉ W) (hlen : ∀ i, u.get (Reg.SLW_BLOCK i) = s.get (Reg.SLW_BLOCK i))
    (t : Nat) : u.underrunAt t = s.underrunAt t :=
  State.underrunAt_of_item hw (by rw [State.tile_of_writes hw hW.1]) hW.2 hlen

/-- A fault changes nothing that an underrun turns on. -/
theorem State.blamed_underrunAt (ht : t < 16) : (s.blamed t c k e).underrunAt t = s.underrunAt t :=
  State.underrunAt_congr (s.blamed_writes t c k e) (by decide)
    (fun i => s.blamed_get_of_le t c k e (by simp only [Reg.SLW_BLOCK]; omega) ht) t

/-- A context that has faulted. -/
theorem State.faultCtx_faulted (t : Tile) : (s.faultCtx t c k e).faulted t c k e := by
  have hctx := ((s.blamed t c k e).leave_ctx t c .faulted).eq
  obtain ⟨hrun, hlast, hitem, -, -⟩ := TileSt.slotless_fields ((s.blamed t c k e).leave_tile t c .faulted)
  rw [s.blamed_ctx, ← s.faultCtx_eq] at hctx
  rw [← s.faultCtx_eq] at hrun hlast hitem
  exact ⟨congrArg Ctx.st hctx, congrArg Ctx.cause hctx, congrArg Ctx.sts hctx, hrun, hlast, hitem⟩

theorem State.faultCtx_regs (t : Tile) (ht : t.val < 8) (hu : s.underrunAt t = none) :
    (s.faultCtx t c k e).faultRegs t c k e := by
  have hleave := State.leave_writes_of_wave (v := s.blamed t c k e) ht ((s.blamed_underrunAt t c k e t.isLt).trans hu) c .faulted
  have hset := (s.blamed_sets t c k e).of_regs (hleave .regs (by decide))
  rw [← s.faultCtx_eq] at hset
  exact ⟨hset.get (by simp), hset.get (by simp), hset.get (by simp), hset.get (by simp)⟩

end

/-- The sequence instructions by opcode. -/
def instrOfOp (t : Tile) (ops : BitVec 66) : List (Nat × Instr) :=
  [(0x00, Instr.nop t ops), (0x01, .halt t ops), (0x02, .play t ops), (0x03, .playn t ops),
    (0x04, .loop t ops), (0x05, .endloop t ops), (0x06, .call t ops), (0x07, .ret t ops), (0x08, .jump t ops),
    (0x09, .arm t ops), (0x0A, .disarm t ops), (0x0B, .wait t ops), (0x0C, .sync t ops), (0x0D, .setts t ops),
    (0x0E, .setf t ops), (0x0F, .setph t ops), (0x10, .ramp t ops), (0x11, .mark t ops), (0x12, .stream t ops),
    (0x13, .switch t ops), (0x14, .signal t ops), (0x15, .count t ops)]

/-- Every sequence instruction takes its turn as its opcode's. -/
theorem exec_instrOfOp {t : Tile} {ops : BitVec 66} {op : Nat} {i : Instr} (h : (op, i) ∈ instrOfOp t ops) (s : State) :
    ∃ f, exec i s = .next (s.instr t op ops f) := by
  simp only [instrOfOp, List.mem_cons, List.not_mem_nil, or_false, Prod.mk.injEq] at h
  rcases h with ⟨rfl, rfl⟩ | ⟨rfl, rfl⟩ | ⟨rfl, rfl⟩ | ⟨rfl, rfl⟩ | ⟨rfl, rfl⟩ | ⟨rfl, rfl⟩ | ⟨rfl, rfl⟩ | ⟨rfl, rfl⟩ |
    ⟨rfl, rfl⟩ | ⟨rfl, rfl⟩ | ⟨rfl, rfl⟩ | ⟨rfl, rfl⟩ | ⟨rfl, rfl⟩ | ⟨rfl, rfl⟩ | ⟨rfl, rfl⟩ | ⟨rfl, rfl⟩ | ⟨rfl, rfl⟩ |
    ⟨rfl, rfl⟩ | ⟨rfl, rfl⟩ | ⟨rfl, rfl⟩ | ⟨rfl, rfl⟩ | ⟨rfl, rfl⟩ <;> exact ⟨_, rfl⟩

section
variable {s : State} {t c e op : Nat} {ops : BitVec 66} {f : State → Nat → Nat → Option Landing → State} {k : Cause} {st : Sts}

theorem State.takeInstr_of_fault (h : s.instrFault t c op ops = some (k, st)) :
    s.takeInstr t c e op ops f = s.faultCtx t c k st := by
  rw [State.takeInstr, h]

/-- An instruction that R82 refuses faults its context, from the state with the item before it over. -/
theorem State.instr_of_fault {p : Nat} (hrun : (s.tile t).running = some c) (hupc : (s.tile t).micro.upc = none)
    (hend : s.itemEnd t = some p) (hnow : posCycle p ≤ s.now) (hf : (s.closeItem t p).instrFault t c op ops = some (k, st))
    (hcut : 8 ≤ t → ((s.stopVec t (posCycle p * Config.fine)).setTile t
      (((s.stopVec t (posCycle p * Config.fine)).tile t).closed p)).instrFault t c op ops = some (k, st)) :
    ∃ v : State, s.instr t op ops f = v.faultCtx t c k st ∧ (v.tile t).item = .idle := by
  rw [State.instr, hrun, hend]
  dsimp only
  rw [hupc, if_neg (by decide), if_neg (by omega), State.takeInstr_of_fault hf]
  split
  · next h =>
    refine ⟨_, State.takeInstr_of_fault (hcut h.1), ?_⟩
    rw [State.tile_setTile]
    exact (TileSt.closed_item _ p).1
  · refine ⟨_, rfl, ?_⟩
    rw [State.closeItem, State.tile_setTile]
    exact (TileSt.closed_item _ p).1

end

/-- Settles O27: what faults, by the state from which its context faults. -/
theorem faultsStopTheContext : Obligations.FaultsStopTheContext := by
  unfold Obligations.FaultsStopTheContext
  intro s t c hrun
  refine ⟨fun ops op i hi hupc p hend hnow k e hf hcut => ?_, fun hspin => ?_, fun hitem => ?_⟩
  · obtain ⟨f, hexec⟩ := exec_instrOfOp hi s
    obtain ⟨v, hv, hidle⟩ := State.instr_of_fault (f := f) hrun hupc hend hnow hf hcut
    exact ⟨_, hexec.trans (congrArg _ hv), v.faultCtx_faulted c k e t,
      fun ht => v.faultCtx_regs c k e t ht (State.underrunAt_of_idle hidle)⟩
  · refine ⟨s.faultCtx t c .spin .range, congrArg Host.Outcome.next ?_, s.faultCtx_faulted c _ _ t,
      fun ht hu => s.faultCtx_regs c _ _ t ht hu⟩
    rw [hrun]
    exact if_pos hspin
  · refine ⟨s.faultCtx t c .micro .precond, congrArg Host.Outcome.next ?_, s.faultCtx_faulted c _ _ t,
      fun ht => s.faultCtx_regs c _ _ t ht ?_⟩
    · rw [hrun, hitem]
    · rw [State.underrunAt, hitem]

end Sys2Proof.Machine
end

/-! # Releases and gaps (R66, R73) -/

section
namespace Sys2Proof.Machine

/-! ## A SYNC released (R73) -/

section
variable {s : State} {t m a since : Nat} {n : Option Nat}

/-- A tile that waits at a SYNC begins no vector cycle. -/
theorem State.patAdvance_of_sync {g : Nat} (h : (s.tile (8 + g)).item = .sync m a since n) (limit k : Nat) :
    s.patAdvance g limit k = s := by
  have hword : s.itemWord (8 + g) = none := by rw [State.itemWord, h]
  cases k with
  | zero => rfl
  | succ k =>
    rw [State.patAdvance, hword, h]
    exact ite_self s

theorem State.closeVec_tile_of_sync (h : (s.tile t).item = .sync m a since n) (limit k : Nat) :
    (s.closeVec t limit).tile k = s.tile k := by
  unfold State.closeVec
  split
  · rfl
  · next ht =>
    have hg : 8 + (t - 8) = t := by omega
    have hcatch : s.catchUp t limit = s.evalVec (t - 8) limit := by
      rw [State.catchUp, if_neg ht, State.patAdvance_of_sync (by rw [hg]; exact h)]
    have htile : (s.evalVec (t - 8) limit).tile k = s.tile k := State.tile_of_writes State.evalVec_moves.1 (by decide) k
    rw [hcatch]
    dsimp only
    split
    · exact htile
    · split
      · exact (State.tile_of_writes State.endVec_moves.1 (by decide) k).trans htile
      · exact htile

/-- A SYNC that ends at a position. -/
theorem State.closeItem_of_sync (h : (s.tile t).item = .sync m a since n) (p : Nat) :
    let u := s.closeItem t p
    (u.tile t).item = .idle ∧ (u.tile t).nextPos = p ∧ (u.tile t).spin = 0 ∧ (u.tile t).running = (s.tile t).running ∧
    ∀ k, k ≠ t → u.tile k = s.tile k := by
  intro u
  have htile : u.tile t = (s.tile t).closed p := by
    rw [← State.closeVec_tile_of_sync h p t]
    exact State.tile_setTile _ _ _
  refine ⟨?_, ?_, ?_, ?_, fun k hk => (State.tile_setTile_other _ _ hk).trans (State.closeVec_tile_of_sync h p k)⟩ <;>
    rw [htile, TileSt.closed, if_neg (by simp [h])]

theorem State.closeItem_writes_of_wave (ht : t < 8) (p : Nat) : s.writes (s.closeItem t p) [.tiles] := by
  rw [State.closeItem, s.closeVec_of_wave ht]
  exact State.setTile_writes

theorem State.lateSync_writes : s.writes (s.lateSync t) [.regs] :=
  State.writes_of State.bump_moves.1 (by decide) State.put_writes

theorem State.lateSync_sets : s.setsFields (s.lateSync t)
    [(Reg.SEQ_STATUS_LATE t, 1), (Reg.SEQ_LATE_CNT t, min (s.get (Reg.SEQ_LATE_CNT t) + 1) 0xFFFFFFFF)] := by
  have h := (s.setsFields_refl.nextAt (Reg.SEQ_STATUS_LATE t) 1 (by simp) rfl).bumpAt (Reg.SEQ_LATE_CNT t) 1 ⟨rfl, rfl⟩
    (by simp [Fld.apart, Reg.SEQ_STATUS_LATE, Reg.SEQ_LATE_CNT])
  exact h

end

/-! ## Gaps (R66) -/

section
variable {s : State} {t : Nat}

theorem State.countGap_writes : s.writes (s.countGap t) [.regs, .mon] := State.countGap_moves.1

theorem State.countGap_sets : s.setsFields (s.countGap t)
    [(Reg.SEQ_GAP_CNT t, min (s.get (Reg.SEQ_GAP_CNT t) + 1) 0xFFFFFFFF), (Reg.SEQ_STATUS_GAP t, 1)] := by
  have h := (s.setsFields_refl.bumpAt (Reg.SEQ_GAP_CNT t) 1 ⟨rfl, rfl⟩ (by simp)).nextAt (Reg.SEQ_STATUS_GAP t) 1
    (by simp [Fld.apart, Reg.SEQ_GAP_CNT, Reg.SEQ_STATUS_GAP]) rfl
  exact h.of_regs (State.monMark_moves.1 .regs (by decide))

theorem State.countGap_underrunAt (ht : t < 16) : (s.countGap t).underrunAt t = s.underrunAt t :=
  State.underrunAt_congr State.countGap_writes (by decide) (fun i => State.countGap_sets.get_apart (by
    simp only [List.map_cons, List.map_nil, List.mem_cons, List.not_mem_nil, or_false, forall_eq_or_imp, forall_eq, Fld.apart,
      Reg.SLW_BLOCK, Reg.SEQ_GAP_CNT, Reg.SEQ_STATUS_GAP]
    omega)) t

end

/-- Settles O28: a SYNC by its target, a gap by the word due, the end of a gap by the word that waits. -/
theorem releasesAndGaps : Obligations.ReleasesAndGaps := by
  unfold Obligations.ReleasesAndGaps
  intro s t c hrun ended
  refine ⟨fun m a since n hitem hn => ⟨fun hle => ?_, fun hlt hf => ?_, fun hlt hf => ?_⟩,
    fun hgap => ⟨fun hnone => ?_, fun it p hword => ⟨fun hf => ?_, fun hf => ?_⟩⟩, fun d hgap => ?_⟩
  · obtain ⟨hidle, hpos, hspin, hr, ho⟩ := State.closeItem_of_sync hitem (n * Config.fine)
    refine ⟨_, congrArg Host.Outcome.next ?_, ⟨hidle, hpos, hspin, fun _ => ⟨hr.trans hrun, ho⟩⟩,
      fun ht => State.closeItem_writes_of_wave ht _⟩
    rw [hrun, hitem]
    exact (if_neg (by omega)).trans (if_pos hle)
  · have htile : ∀ k, (s.lateSync t).tile k = s.tile k := fun k => State.tile_of_writes State.lateSync_writes (by decide) k
    obtain ⟨hidle, hpos, hspin, hr, ho⟩ := State.closeItem_of_sync ((congrArg TileSt.item (htile t)).trans hitem)
      (since * Config.fine)
    rw [htile, hrun] at hr
    refine ⟨(s.lateSync t).closeItem t (since * Config.fine), congrArg Host.Outcome.next ?_,
      ⟨hidle, hpos, hspin, fun _ => ⟨hr, fun k hk => (ho k hk).trans (htile k)⟩⟩, fun ht => ⟨?_, ?_⟩⟩
    · rw [hrun, hitem]
      refine (if_neg (by omega)).trans ((if_neg (by omega)).trans (if_neg ?_))
      rw [State.active_of_writes State.lateSync_writes (by decide), hf]
      decide
    · exact State.writes_of (State.closeItem_writes_of_wave ht _) (by decide)
        (State.writes_mono State.lateSync_writes (by decide))
    · exact State.lateSync_sets.of_regs (State.closeItem_writes_of_wave ht _ .regs (by decide))
  · have htile : (s.lateSync t).tile t = s.tile t := State.tile_of_writes State.lateSync_writes (by decide) t
    refine ⟨((s.lateSync t).setPc c { ((s.lateSync t).ctx c).pc with off := ((s.lateSync t).ctx c).pc.off - 1 }).faultCtx t c
      .late .range, congrArg Host.Outcome.next ?_, State.faultCtx_faulted _ c _ _ t,
      fun ht => State.faultCtx_regs _ c _ _ t ht ?_⟩
    · rw [hrun, hitem]
      refine (if_neg (by omega)).trans ((if_neg (by omega)).trans (if_pos ?_))
      rw [State.active_of_writes State.lateSync_writes (by decide), hf]
    · have hitem' : (((s.lateSync t).setPc c { ((s.lateSync t).ctx c).pc with
          off := ((s.lateSync t).ctx c).pc.off - 1 }).tile t).item = .sync m a since n :=
        (congrArg TileSt.item htile).trans hitem
      rw [State.underrunAt, hitem']
  · exact ⟨s, congrArg Host.Outcome.next (by rw [hrun, hgap, hnone]), rfl⟩
  · refine ⟨((s.countGap t).cutVec t p).setTile t { ((s.countGap t).cutVec t p).tile t with gapAt := some s.now, item := it },
      congrArg Host.Outcome.next ?_, by rw [State.tile_setTile], by rw [State.tile_setTile], fun ht => ?_⟩
    · rw [hrun, hgap, hword]
      refine (if_neg ?_).trans ?_
      · rw [State.active_of_writes State.countGap_writes (by decide), hf]
        decide
      · rfl
    · have htile : ∀ k, (s.countGap t).tile k = s.tile k := fun k => State.tile_of_writes State.countGap_writes (by decide) k
      rw [State.cutVec_of_wave _ ht, htile]
      exact ⟨State.writes_of State.setTile_writes (by decide) (State.writes_mono State.countGap_writes (by decide)),
        ⟨State.tile_setTile _ _ _, fun k hk => (State.tile_setTile_other _ _ hk).trans (htile k)⟩,
        State.countGap_sets.of_regs (State.setTile_writes .regs (by decide))⟩
  · refine ⟨(s.countGap t).faultCtx t c .gap .state, congrArg Host.Outcome.next ?_, State.faultCtx_faulted _ c _ _ t,
      fun ht hu => State.faultCtx_regs _ c _ _ t ht ((State.countGap_underrunAt t.isLt).trans hu)⟩
    rw [hrun, hgap, hword]
    refine if_pos ?_
    rw [State.active_of_writes State.countGap_writes (by decide), hf]
  · cases hword : s.itemAtWord t 0 with
    | none =>
      refine ⟨s.setTile t { s.tile t with gapAt := none }, congrArg Host.Outcome.next (by rw [hgap, hword]),
        State.setTile_writes, fun k hk => State.tile_setTile_other _ _ hk, fun _ => State.tile_setTile _ _ _, fun it p h => ?_⟩
      exact absurd h (by simp)
    | some q =>
      refine ⟨_, congrArg Host.Outcome.next (by rw [hgap, hword]), State.setTile_writes,
        fun k hk => State.tile_setTile_other _ _ hk, fun h => absurd h (by simp), fun it p h => ?_⟩
      obtain rfl := Option.some.inj h
      exact State.tile_setTile _ _ _

end Sys2Proof.Machine
end

/-! # The micro-machine (R131 to R142) -/

section
namespace Sys2Proof.Machine

/-! ## Micro-registers -/

theorem Micro.reg_set_same (m : Micro) (i : Nat) (v : Word72) : (m.set i v).reg i = v := mget_mset_same _ _ _ _

theorem Micro.reg_set_other (m : Micro) {i j : Nat} (v : Word72) (h : j ≠ i) : (m.set i v).reg j = m.reg j :=
  mget_mset_other _ _ _ h

section
variable (s : State) (t : Nat)

theorem State.setMicro_writes {m : Micro} : s.writes (s.setMicro t m) [.tiles] := State.setTile_writes

theorem State.setMicro_tile (m : Micro) : (s.setMicro t m).tile t = { s.tile t with micro := m } := State.tile_setTile _ _ _

theorem State.setMicro_other (m : Micro) {k : Nat} (h : k ≠ t) : (s.setMicro t m).tile k = s.tile k :=
  State.tile_setTile_other _ _ h

/-- What ADD and SUB leave: the result in A, and the flags. -/
theorem State.microAlu_into (i : Nat) (r : Word72 × Bool × Bool) :
    let m := (s.tile t).micro
    let m' := ((s.microAlu t (some i) r).tile t).micro
    m'.reg i = r.1 ∧ m'.z = r.2.1 ∧ m'.cy = r.2.2 ∧ ∀ j, j ≠ i → m'.reg j = m.reg j := by
  intro m m'
  have hm : m' = { m.set i r.1 with z := r.2.1, cy := r.2.2 } := by
    rw [show m' = _ from congrArg TileSt.micro (s.setMicro_tile t _)]
  rw [hm]
  exact ⟨m.reg_set_same i r.1, rfl, rfl, fun j hj => m.reg_set_other r.1 hj⟩

/-- What CMP leaves: the flags alone. -/
theorem State.microAlu_flags (r : Word72 × Bool × Bool) :
    let m' := ((s.microAlu t none r).tile t).micro
    m'.z = r.2.1 ∧ m'.cy = r.2.2 ∧ ∀ j, m'.reg j = (s.tile t).micro.reg j := by
  intro m'
  have hm : m' = { (s.tile t).micro with z := r.2.1, cy := r.2.2 } := congrArg TileSt.micro (s.setMicro_tile t _)
  rw [hm]
  exact ⟨rfl, rfl, fun _ => rfl⟩

end

/-! ## Microwords -/

section
variable {s : State} {t c a w : Nat}

theorem State.microExec_add (h : fieldOf w 19 5 = 0x01) : s.microExec t c a w =
    (s.microAlu t (some (fieldOf w 15 4)) (microAdd ((s.tile t).micro.reg (fieldOf w 11 4)) ((s.tile t).micro.operand w)),
      .go ((a + 1) % 4096)) := by
  simp only [State.microExec, microBad, h]
  rfl

theorem State.microExec_sub (h : fieldOf w 19 5 = 0x02) : s.microExec t c a w =
    (s.microAlu t (some (fieldOf w 15 4)) (microSub ((s.tile t).micro.reg (fieldOf w 11 4)) ((s.tile t).micro.operand w)),
      .go ((a + 1) % 4096)) := by
  simp only [State.microExec, microBad, h]
  rfl

theorem State.microExec_cmp (h : fieldOf w 19 5 = 0x03) : s.microExec t c a w =
    (s.microAlu t none (microSub ((s.tile t).micro.reg (fieldOf w 11 4)) ((s.tile t).micro.operand w)),
      .go ((a + 1) % 4096)) := by
  simp only [State.microExec, microBad, h]
  rfl

theorem State.microExec_movImmediate (h : fieldOf w 19 5 = 0x00) (hf : fieldOf w 13 2 = 1) : s.microExec t c a w =
    (s.setMicro t ((s.tile t).micro.set (fieldOf w 15 4) (BitVec.ofNat 72 (fieldOf w 0 13))), .go ((a + 1) % 4096)) := by
  simp only [State.microExec, microBad, h, hf]
  rfl

/-- NEXT ends the routine. -/
theorem State.microExec_next (h : fieldOf w 19 5 = 0x13) (hitem : (s.tile t).item = .idle) : s.microExec t c a w =
    ((s.setMicro t { (s.tile t).micro with upc := none }).countRoutine t, .stop) := by
  simp only [State.microExec, microBad, h, hitem]
  rfl

end

theorem word72_sub_eq_zero (x y : Word72) : x - y = 0 ↔ x = y := by
  constructor <;> intro h <;> bv_omega

/-- The microwords of O29 on the micro-registers and the flags. -/
theorem microWords_run (s : State) (t : Tile) (c a w : Nat) :
    let m := (s.tile t).micro
    let A := fieldOf w 15 4
    let x := m.reg (fieldOf w 11 4)
    let y := m.operand w
    let r := s.microExec t c a w
    let m' := (r.1.tile t).micro
    (fieldOf w 19 5 = 0x01 → s.writes r.1 [.tiles] ∧ r.2 = .go ((a + 1) % 4096) ∧ m'.reg A = x + y ∧
      m'.z = decide (x + y = 0) ∧ m'.cy = decide (2 ^ 72 ≤ x.toNat + y.toNat) ∧ (∀ j, j ≠ A → m'.reg j = m.reg j)) ∧
    (fieldOf w 19 5 = 0x02 → s.writes r.1 [.tiles] ∧ r.2 = .go ((a + 1) % 4096) ∧ m'.reg A = x - y ∧
      m'.z = decide (x = y) ∧ m'.cy = decide (x.toNat < y.toNat) ∧ (∀ j, j ≠ A → m'.reg j = m.reg j)) ∧
    (fieldOf w 19 5 = 0x03 → s.writes r.1 [.tiles] ∧ r.2 = .go ((a + 1) % 4096) ∧
      m'.z = decide (x = y) ∧ m'.cy = decide (x.toNat < y.toNat) ∧ (∀ j, m'.reg j = m.reg j)) ∧
    (fieldOf w 19 5 = 0x00 → fieldOf w 13 2 = 1 → s.writes r.1 [.tiles] ∧ r.2 = .go ((a + 1) % 4096) ∧
      m'.reg A = BitVec.ofNat 72 (fieldOf w 0 13) ∧ m'.z = m.z ∧ m'.cy = m.cy ∧ (∀ j, j ≠ A → m'.reg j = m.reg j)) := by
  intro m A x y r m'
  have hsub : (microSub x y).2.1 = decide (x = y) := decide_eq_decide.mpr (word72_sub_eq_zero x y)
  refine ⟨fun h => ?_, fun h => ?_, fun h => ?_, fun h hf => ?_⟩
  · have hr : r = _ := State.microExec_add h
    obtain ⟨hA, hz, hcy, ho⟩ := s.microAlu_into t A (microAdd x y)
    simp only [m', hr]
    exact ⟨State.setTile_writes, trivial, hA, hz, hcy, ho⟩
  · have hr : r = _ := State.microExec_sub h
    obtain ⟨hA, hz, hcy, ho⟩ := s.microAlu_into t A (microSub x y)
    simp only [m', hr]
    exact ⟨State.setTile_writes, trivial, hA, hz.trans hsub, hcy, ho⟩
  · have hr : r = _ := State.microExec_cmp h
    obtain ⟨hz, hcy, ho⟩ := s.microAlu_flags t (microSub x y)
    simp only [m', hr]
    exact ⟨State.setTile_writes, trivial, hz.trans hsub, hcy, ho⟩
  · have hr : r = _ := State.microExec_movImmediate h hf
    simp only [m', hr, State.setMicro_tile]
    exact ⟨State.setTile_writes, trivial, m.reg_set_same A _, rfl, rfl, fun j hj => m.reg_set_other _ hj⟩

/-! ## A routine of one microword (R132, R145) -/

section
variable (s : State) (t c e op : Nat) (pc : Addr) (word : Word72)

/-- The micro-registers at a routine's entry: the word, its address, the ledger's count, and free values. -/
def State.enterRegs : SMap Word72 :=
  (upto 13).foldl (fun m i => mset (fun _ => 0) m (3 + i) (Config.freeValue (s.free + i)))
    (mset (fun _ => 0) (mset (fun _ => 0) (mset (fun _ => 0) [] 0 word) 1 (BitVec.ofNat 72 pc.toNum)) 2 (BitVec.ofNat 72 0))

/-- The free values beyond M2 leave the first three micro-registers as they are. -/
theorem mget_foldl_mset_beyond (v : Nat → Word72) {i : Nat} (hi : i < 3) (l : List Nat) (m : SMap Word72) :
    mget (fun _ => 0) (l.foldl (fun m i => mset (fun _ => 0) m (3 + i) (v i)) m) i = mget (fun _ => 0) m i := by
  induction l generalizing m with
  | nil => rfl
  | cons j l ih => exact (ih _).trans (mget_mset_other _ _ _ (by omega))

theorem State.enterRegs_get : mget (fun _ => 0) (s.enterRegs pc word) 0 = word ∧
    mget (fun _ => 0) (s.enterRegs pc word) 1 = BitVec.ofNat 72 pc.toNum ∧ mget (fun _ => 0) (s.enterRegs pc word) 2 = 0 := by
  unfold State.enterRegs
  refine ⟨?_, ?_, ?_⟩ <;> rw [mget_foldl_mset_beyond (fun i => Config.freeValue (s.free + i)) (by omega)]
  · rw [mget_mset_other _ _ _ (by decide), mget_mset_other _ _ _ (by decide), mget_mset_same]
  · rw [mget_mset_other _ _ _ (by decide), mget_mset_same]
  · rw [mget_mset_same]
    rfl

/-- The micro-machine at a routine's entry. -/
def State.enterMicro : Micro :=
  let f := Config.freeValue (s.free + 13)
  { Micro.init with
    m := s.enterRegs pc word, z := f.getLsbD 0, cy := f.getLsbD 1, ld := f.getLsbD 2, upc := some 0, eff := e, k0 := 0,
    loops := (s.ctx c).loops, calls := (s.ctx c).calls }

/-- s with the micro-machine of tile t entered, before the routine's first microword. -/
def State.entered : State :=
  { ((s.setMicro t (s.enterMicro c e pc word)).setAhead t none).gcSlots t with free := s.free + 14 }

theorem State.microEnter_eq : s.microEnter t c e op 0 pc word =
    (s.entered t c e pc word).microRun t c microBound (s.get (Reg.MC_DISPATCH_START t op)) := rfl

theorem State.with_free_writes (n : Nat) : s.writes { s with free := n } [.free] := fun p hp => by
  cases p <;> first | rfl | exact absurd (by decide) hp

theorem State.entered_writes : s.writes (s.entered t c e pc word) [.free, .ctxs, .tiles] := by
  have hgc : s.writes (((s.setMicro t (s.enterMicro c e pc word)).setAhead t none).gcSlots t) [.ctxs, .tiles] :=
    State.writes_of State.gcSlots_moves.1 (by decide) (State.writes_of State.setTile_writes (by decide)
      (State.writes_mono State.setTile_writes (by decide)))
  unfold State.entered
  exact State.writes_of (State.with_free_writes _ _) (by decide) (State.writes_mono hgc (by decide))

theorem State.entered_ctx (d : Nat) : (s.ctx d).slotsOnly ((s.entered t c e pc word).ctx d) :=
  (State.gcSlots_relands ((s.setMicro t (s.enterMicro c e pc word)).setAhead t none) t).ctx d

theorem State.entered_other {k : Nat} (h : k ≠ t) : (s.entered t c e pc word).tile k = s.tile k :=
  ((State.gcSlots_relands ((s.setMicro t (s.enterMicro c e pc word)).setAhead t none) t).other k h).trans
    ((State.tile_setTile_other _ _ h).trans (s.setMicro_other t _ h))

theorem State.entered_tile : ((s.entered t c e pc word).tile t).slotless =
    { s.tile t with micro := s.enterMicro c e pc word, ahead := none }.slotless := by
  refine ((State.gcSlots_relands ((s.setMicro t (s.enterMicro c e pc word)).setAhead t none) t).tile).trans ?_
  rw [State.setAhead, State.tile_setTile, State.setMicro_tile]

end

section
variable {v : State} {t c a : Nat}

/-- v with a routine of tile t over after microword w, its first. -/
def State.routineOver (v : State) (t w : Nat) : State :=
  ((v.microCount t w).setMicro t { ((v.microCount t w).tile t).micro with upc := none }).countRoutine t

theorem State.microCount_tile (v : State) (t w : Nat) : (v.microCount t w).tile t = { v.tile t with
    micro := { (v.tile t).micro with
      left := (v.tile t).micro.left - 1
      words := (if (v.tile t).micro.open_ then (v.tile t).micro.words + 1 else (v.tile t).micro.words)
      open_ := (v.tile t).micro.open_ && !countEnds w } } := State.tile_setTile _ _ _

theorem State.microRun_next (hleft : (v.tile t).micro.left ≠ 0) (hw : fieldOf (v.microword t a) 19 5 = 0x13)
    (hitem : (v.tile t).item = .idle) {n : Nat} (hn : n ≠ 0) : v.microRun t c n a = v.routineOver t (v.microword t a) := by
  obtain ⟨m, rfl⟩ := Nat.exists_eq_succ_of_ne_zero hn
  have hfull : v.ledgerFull t (v.microword t a) = false := by simp [State.ledgerFull, hw]
  have hidle : ((v.microCount t (v.microword t a)).tile t).item = .idle := by rw [State.microCount_tile]; exact hitem
  rw [Nat.succ_eq_add_one, State.microRun]
  dsimp only
  rw [if_neg hleft, hfull, if_neg (by decide), State.microExec_next hw hidle]
  exact ite_self _

theorem State.routineOver_writes (w : Nat) : v.writes (v.routineOver t w) [.tiles] :=
  State.writes_of State.countRoutine_moves.1 (by decide) <| State.writes_of State.setTile_writes (by decide) State.setTile_writes

theorem State.routineOver_other (w : Nat) {k : Nat} (h : k ≠ t) : (v.routineOver t w).tile k = v.tile k :=
  (State.tile_setTile_other _ _ h).trans <| (State.addSpin_other _ t h).trans <| (State.tile_setTile_other _ _ h).trans
    (State.tile_setTile_other _ _ h)

theorem State.routineOver_tile (w : Nat) : let y := (v.routineOver t w).tile t
    (∀ i, y.micro.reg i = (v.tile t).micro.reg i) ∧ y.micro.upc = none ∧ y.running = (v.tile t).running ∧
    y.nextPos = (v.tile t).nextPos := by
  intro y
  have hy : y = _ := State.tile_setTile _ _ _
  rw [hy, State.addSpin, State.tile_setTile, State.setMicro_tile, State.microCount_tile]
  exact ⟨fun _ => rfl, rfl, rfl, rfl⟩

end

/-- What entering a routine whose first microword is NEXT leaves. -/
theorem State.microEnter_next {v : State} {t c e op : Nat} {pc : Addr} {word : Word72} (hitem : (v.tile t).item = .idle)
    (hw : fieldOf (v.microword t (v.get (Reg.MC_DISPATCH_START t op))) 19 5 = 0x13) :
    let u := v.microEnter t c e op 0 pc word
    v.writes u [.free, .ctxs, .tiles] ∧ (∀ d, (v.ctx d).slotsOnly (u.ctx d)) ∧
    (u.tile t).micro.reg 0 = word ∧ (u.tile t).micro.reg 1 = BitVec.ofNat 72 pc.toNum ∧ (u.tile t).micro.reg 2 = 0 ∧
    (u.tile t).micro.upc = none ∧ (u.tile t).running = (v.tile t).running ∧ (u.tile t).nextPos = (v.tile t).nextPos ∧
    ∀ k, k ≠ t → u.tile k = v.tile k := by
  intro u
  have hentered := TileSt.eq_of_slotless (v.entered_tile t c e pc word)
  have hwrites := v.entered_writes t c e pc word
  have hstore : (v.entered t c e pc word).microword t (v.get (Reg.MC_DISPATCH_START t op)) =
      v.microword t (v.get (Reg.MC_DISPATCH_START t op)) := by
    rw [State.microword, State.microword, show (v.entered t c e pc word).ustore = v.ustore from hwrites .ustore (by decide)]
  have hu : u = (v.entered t c e pc word).routineOver t (v.microword t (v.get (Reg.MC_DISPATCH_START t op))) := by
    have h := State.microRun_next (v := v.entered t c e pc word) (t := t) (c := c)
      (a := v.get (Reg.MC_DISPATCH_START t op)) (by rw [hentered]; exact (by decide : (4096 : Nat) ≠ 0))
      (by rw [hstore]; exact hw) (by rw [hentered]; exact hitem) (n := microBound)
      (by decide)
    rw [hstore] at h
    exact (v.microEnter_eq t c e op pc word).trans h
  obtain ⟨hregs, hupc, hrun, hpos⟩ := State.routineOver_tile (v := v.entered t c e pc word) (t := t)
    (v.microword t (v.get (Reg.MC_DISPATCH_START t op)))
  obtain ⟨h0, h1, h2⟩ := v.enterRegs_get pc word
  have hmicro : ((v.entered t c e pc word).tile t).micro = v.enterMicro c e pc word := by rw [hentered]
  have hover := State.routineOver_writes (v := v.entered t c e pc word) (t := t)
    (v.microword t (v.get (Reg.MC_DISPATCH_START t op)))
  rw [hmicro] at hregs
  rw [hu]
  refine ⟨State.writes_of hover (by decide) hwrites, fun d => ?_, (hregs 0).trans h0, (hregs 1).trans h1,
    (hregs 2).trans h2, hupc, hrun.trans (by rw [hentered]), hpos.trans (by rw [hentered]),
    fun k hk => (State.routineOver_other _ hk).trans (v.entered_other t c e pc word hk)⟩
  rw [State.ctx_of_writes hover (by decide)]
  exact v.entered_ctx t c e pc word d

/-- Settles O29: a microword by what it leaves in the micro-registers, and a routine of NEXT alone by its first microword. -/
theorem theMicroMachineRuns : Obligations.TheMicroMachineRuns := by
  unfold Obligations.TheMicroMachineRuns
  refine ⟨fun s t c a w => microWords_run s t c a w, fun s t word c p hop h hpos hnext => ?_⟩
  have hexec : exec (.userOpcode t word) s = .next (s.instr t (fieldOf word.toNat 66 6) (BitVec.ofNat 66 word.toNat)
      fun s c e _ =>
        let k := match (s.ctx c).pos with
          | .steps k => k
          | _ => 0
        (s.nextPc c).microEnter t c e (fieldOf word.toNat 66 6) k (s.ctx c).pc word) := by
    change execUserOpcode t word s = _
    rw [execUserOpcode, h.1, h.2.2.1]
    exact congrArg _ (if_neg (by omega))
  generalize hv : s.due t c (fieldOf word.toNat 66 6) p = v at hpos hnext ⊢
  have hdue := s.due_tile t c (fieldOf word.toNat 66 6) p
  have hrunning := State.due_running h
  rw [hv] at hdue hrunning
  obtain ⟨hw, hctx, h0, h1, h2, hupc, hrun, hnextPos, hother⟩ := State.microEnter_next (v := v.nextPc c) (t := t) (c := c)
    (e := posCycle p) (op := fieldOf word.toNat 66 6) (pc := (v.ctx c).pc) (word := word) hdue.1 hnext
  have hc := (hctx c).eq
  rw [(State.ctxBecomes.refl v c).nextPc.1] at hc
  refine answers_of_runs h hexec _ (by rw [hv, hpos]) (.inl ?_) ⟨State.writes_of hw (by decide)
    (State.writes_mono State.nextPc_writes (by decide)), congrArg Ctx.pc hc, congrArg Ctx.pos hc, fun d => ?_, h0, h1, h2, hupc,
    hrun.trans hrunning, hnextPos.trans hdue.2.1, hother⟩
  · rw [hrun]
    exact ne_of_eq_of_ne hrunning (Option.some_ne_none c)
  · have hst := congrArg Ctx.st (hctx d).eq
    by_cases hd : d = c
    · rw [hd]
      have hown := congrArg Ctx.st hc
      exact hown
    · rw [(State.ctxBecomes.refl v c).nextPc.2 d hd] at hst
      exact hst

end Sys2Proof.Machine
end

/-! # User microcode and customer keys (R146 to R151) -/

section
namespace Sys2Proof.Machine

/-! ## A block put in force (R147) -/

section
variable (s : State) (t : Nat) (w : Nat → BitVec 24)

/-- s with n words of the user region of tile t put in place. -/
def State.userWords (n : Nat) : State := forUpto (fun s i => s.putUword t (0xC00 + i) (w i)) n s

theorem State.userWords_writes (n : Nat) : s.writes (s.userWords t w n) [.ustore] := by
  induction n with
  | zero => exact State.writes_refl
  | succ n ih => exact State.writes_of State.putUword_moves.1 (by decide) ih

theorem State.userWords_ustore (n j : Nat) : mget (fun _ => 0) (s.userWords t w n).ustore j =
    if 4096 * t + 0xC00 ≤ j ∧ j < 4096 * t + 0xC00 + n then w (j - (4096 * t + 0xC00)) else mget (fun _ => 0) s.ustore j := by
  induction n with
  | zero => exact (if_neg (by omega)).symm
  | succ n ih =>
    have hput : mget (fun _ => 0) (s.userWords t w (n + 1)).ustore j =
        mget (fun _ => 0) (mset (fun _ => 0) (s.userWords t w n).ustore (4096 * t + (0xC00 + n)) (w n)) j := rfl
    rw [hput]
    by_cases hj : j = 4096 * t + (0xC00 + n)
    · subst hj
      have hn : 4096 * t + (0xC00 + n) - (4096 * t + 0xC00) = n := by omega
      rw [mget_mset_same, if_pos (by omega), hn]
    · rw [mget_mset_other _ _ _ hj, ih]
      exact if_congr (by omega) rfl rfl

end

section
variable (s : State) (t : Nat) (l : List (BitVec 8))

/-- s with the first n user dispatch entries of tile t as a block's. -/
def State.userEntries (n : Nat) : State := forUpto (fun s o =>
  (s.put (Reg.MC_DISPATCH_VALID t (0x30 + o)) (fieldOf (blockEntry l o) 15 1)).put
    (Reg.MC_DISPATCH_START t (0x30 + o)) (fieldOf (blockEntry l o) 0 12)) n s

theorem State.userEntries_writes (n : Nat) : s.writes (s.userEntries t l n) [.regs] := by
  induction n with
  | zero => exact State.writes_refl
  | succ n ih => exact State.writes_of State.put_writes (by decide) (State.writes_of State.put_writes (by decide) ih)

/-- The dispatch entries lie above every register below them. -/
theorem State.userEntries_get_below (n : Nat) {f : Fld} (hf : f.addr < 0x140000) : (s.userEntries t l n).get f = s.get f := by
  induction n with
  | zero => rfl
  | succ n ih =>
    rw [← ih]
    exact (State.get_put_other _ _ (by simp only [Reg.MC_DISPATCH_START]; omega)).trans
      (State.get_put_other _ _ (by simp only [Reg.MC_DISPATCH_VALID]; omega))

theorem State.userEntries_get {n o : Nat} (ho : o < n) :
    (s.userEntries t l n).get (Reg.MC_DISPATCH_VALID t (0x30 + o)) = fieldOf (blockEntry l o) 15 1 ∧
    (s.userEntries t l n).get (Reg.MC_DISPATCH_START t (0x30 + o)) = fieldOf (blockEntry l o) 0 12 := by
  induction n with
  | zero => exact absurd ho (by omega)
  | succ n ih =>
    have hset := ((s.userEntries t l n).setsFields_refl.put (Reg.MC_DISPATCH_VALID t (0x30 + n)) _ (of_decide_eq_true rfl)
      (fieldOf_lt (blockEntry l n) 15 1) (by simp)).put (Reg.MC_DISPATCH_START t (0x30 + n)) _ (of_decide_eq_true rfl)
      (fieldOf_lt (blockEntry l n) 0 12) (by simp [Fld.apart, Reg.MC_DISPATCH_VALID, Reg.MC_DISPATCH_START])
    by_cases he : o = n
    · subst he
      exact ⟨hset.get (by simp), hset.get (by simp)⟩
    · obtain ⟨hvalid, hstart⟩ := ih (by omega)
      refine ⟨(hset.get_apart ?_).trans hvalid, (hset.get_apart ?_).trans hstart⟩ <;>
      · simp only [List.map_cons, List.map_nil, List.nil_append, List.cons_append, List.mem_cons, List.not_mem_nil, or_false,
          forall_eq_or_imp, forall_eq, Fld.apart, Reg.MC_DISPATCH_VALID, Reg.MC_DISPATCH_START]
        omega

/-- Putting a block in force: its words, its entries, its version. -/
theorem State.putBlock_eq : s.putBlock t l = ((s.userWords t (fun i => BitVec.ofNat 24 (if i < blockCount l then blockWord l i
    else 0)) 1024).userEntries t l 16).put (Reg.MC_VERSION_USER t) (leAt l 4 2) := rfl

theorem State.putBlock_writes : s.writes (s.putBlock t l) [.regs, .ustore] := by
  rw [State.putBlock_eq]
  exact State.writes_of State.put_writes (by decide) <| State.writes_of (State.userEntries_writes _ t l 16) (by decide)
    (State.writes_mono (s.userWords_writes t _ 1024) (by decide))

theorem State.putBlock_ustore (j : Nat) : mget (fun _ => 0) (s.putBlock t l).ustore j =
    if 4096 * t + 0xC00 ≤ j ∧ j < 4096 * t + 0xC00 + 1024 then
      BitVec.ofNat 24 (if j - (4096 * t + 0xC00) < blockCount l then blockWord l (j - (4096 * t + 0xC00)) else 0)
    else mget (fun _ => 0) s.ustore j := by
  rw [State.putBlock_eq, State.put_ustore,
    show (State.userEntries _ t l 16).ustore = _ from State.userEntries_writes _ t l 16 .ustore (by decide)]
  exact s.userWords_ustore t _ 1024 j

theorem State.putBlock_microword :
    (∀ i, i < 1024 → (s.putBlock t l).microword t (0xC00 + i) = (if i < blockCount l then blockWord l i else 0) % 2 ^ 24) ∧
    (∀ a, a < 0xC00 → (s.putBlock t l).microword t a = s.microword t a) ∧
    ∀ k a, k ≠ t → (s.putBlock t l).microword k a = s.microword k a := by
  refine ⟨fun i hi => ?_, fun a ha => ?_, fun k a hk => ?_⟩
  · have hkey : 4096 * t + (0xC00 + i) % 4096 = 4096 * t + 0xC00 + i := by omega
    have hidx : 4096 * t + 0xC00 + i - (4096 * t + 0xC00) = i := by omega
    rw [State.microword, hkey, State.putBlock_ustore, if_pos (by omega), hidx, BitVec.toNat_ofNat]
  · rw [State.microword, State.putBlock_ustore, if_neg (by omega)]
    rfl
  · rw [State.microword, State.putBlock_ustore, if_neg (by omega)]
    rfl

theorem State.putBlock_get :
    (s.putBlock t l).get (Reg.MC_VERSION_USER t) = leAt l 4 2 % 2 ^ 16 ∧
    (∀ o, o < 16 → (s.putBlock t l).get (Reg.MC_DISPATCH_VALID t (0x30 + o)) = fieldOf (blockEntry l o) 15 1 ∧
      (s.putBlock t l).get (Reg.MC_DISPATCH_START t (0x30 + o)) = fieldOf (blockEntry l o) 0 12) ∧
    ∀ f : Fld, f.addr < 0x140000 → f.addr ≠ 0x080200 + t * 0x4000 → (s.putBlock t l).get f = s.get f := by
  have hwords : ∀ (w : Nat → BitVec 24) (f : Fld), (s.userWords t w 1024).get f = s.get f := fun w f =>
    State.get_of_writes (s.userWords_writes t w 1024) (by decide) f
  refine ⟨State.get_put _ _ _ (of_decide_eq_true rfl), fun o ho => ?_, fun f hf hne => ?_⟩
  · obtain ⟨hvalid, hstart⟩ := (s.userWords t (fun i => BitVec.ofNat 24 (if i < blockCount l then blockWord l i
      else 0)) 1024).userEntries_get t l ho
    exact ⟨(State.get_put_other _ _ (by simp only [Reg.MC_DISPATCH_VALID, Reg.MC_VERSION_USER]; omega)).trans hvalid,
      (State.get_put_other _ _ (by simp only [Reg.MC_DISPATCH_START, Reg.MC_VERSION_USER]; omega)).trans hstart⟩
  · exact (State.get_put_other _ _ (by simpa only [Reg.MC_VERSION_USER] using hne)).trans
      ((State.userEntries_get_below _ t l 16 hf).trans (hwords _ f))

end

/-! ## The reload (R147) -/

section
variable {s : State} {t : Tile}

/-- s with the reload of tile t over. -/
def State.reloaded (s : State) (t : Tile) : State :=
  (s.setTile t { s.tile t with reload := none }).put (Reg.MC_STATUS_BUSY t) 0

theorem State.reloaded_writes : s.writes (s.reloaded t) [.regs, .tiles] :=
  State.writes_of State.put_writes (by decide) (State.writes_mono State.setTile_writes (by decide))

theorem State.reloaded_sets : s.setsFields (s.reloaded t) [(Reg.MC_STATUS_BUSY t, 0)] := by
  have h := (State.setsFields_nil_of_regs (s := s) (t := s.setTile t { s.tile t with reload := none }) rfl).nextAt
    (Reg.MC_STATUS_BUSY t) 0 (by simp) rfl
  exact h

theorem State.reloaded_tile {u : State} {W : List Piece} (hw : (s.reloaded t).writes u W) (hW : Piece.tiles ∉ W) :
    s.tileBecomes u t { s.tile t with reload := none } := by
  have hput : ∀ k, u.tile k = (s.setTile t { s.tile t with reload := none }).tile k := fun k =>
    (State.tile_of_writes hw hW k).trans (State.tile_of_writes State.put_writes (by decide) k)
  exact ⟨(hput t).trans (State.tile_setTile _ _ _), fun k hk => (hput k).trans (State.tile_setTile_other _ _ hk)⟩

end

/-- A reload that has been verified: refused, or the block in force (R147). -/
theorem userReloadComplete_answers (s : State) (t : Tile) (r : Reload) (hr : (s.tile t).reload = some r) :
    (∀ e, s.blockCheck t (s.segBytes r.sid) = some e → Answers (.userReloadComplete t) s fun u =>
      s.writes u [.regs, .tiles] ∧ s.setsFields u [(Reg.MC_STATUS_BUSY t, 0), (Reg.MC_STATUS_STS t, e.code)] ∧
      s.tileBecomes u t { s.tile t with reload := none }) ∧
    (s.blockCheck t (s.segBytes r.sid) = none → Answers (.userReloadComplete t) s fun u =>
      let l := s.segBytes r.sid
      s.writes u [.regs, .tiles, .ustore] ∧ s.tileBecomes u t { s.tile t with reload := none } ∧
      u.get (Reg.MC_STATUS_BUSY t) = 0 ∧ u.get (Reg.MC_STATUS_STS t) = 0 ∧
      u.get (Reg.MC_VERSION_USER t) = leAt l 4 2 % 2 ^ 16 ∧
      (∀ i, i < 1024 → u.microword t (0xC00 + i) = (if i < blockCount l then blockWord l i else 0) % 2 ^ 24) ∧
      (∀ a, a < 0xC00 → u.microword t a = s.microword t a) ∧
      (∀ (k : Tile) a, k ≠ t → u.microword k a = s.microword k a) ∧
      (∀ o, o < 16 → u.get (Reg.MC_DISPATCH_VALID t (0x30 + o)) = fieldOf (blockEntry l o) 15 1 ∧
        u.get (Reg.MC_DISPATCH_START t (0x30 + o)) = fieldOf (blockEntry l o) 0 12)) := by
  have hlow : (Reg.MC_STATUS_STS t).addr < 0x140000 := by
    have := t.isLt
    simp only [Reg.MC_STATUS_STS]
    omega
  refine ⟨fun e he => ⟨(s.reloaded t).put (Reg.MC_STATUS_STS t) e.code, congrArg Host.Outcome.next ?_, ?_, ?_, ?_⟩,
    fun hok => ⟨((s.reloaded t).putBlock t (s.segBytes r.sid)).put (Reg.MC_STATUS_STS t) 0, congrArg Host.Outcome.next ?_, ?_⟩⟩
  · rw [hr]
    dsimp only
    rw [he, State.reloaded]
  · exact State.writes_of State.put_writes (by decide) State.reloaded_writes
  · exact State.reloaded_sets.put (Reg.MC_STATUS_STS t) e.code (of_decide_eq_true rfl) (Sts.code_lt e)
      (by simp [Fld.apart, Reg.MC_STATUS_BUSY, Reg.MC_STATUS_STS])
  · exact State.reloaded_tile State.put_writes (by decide)
  · rw [hr]
    dsimp only
    rw [hok, State.reloaded, Sts.ok_code]
  · have hwb := (s.reloaded t).putBlock_writes t (s.segBytes r.sid)
    obtain ⟨hword, hlowword, hother⟩ := (s.reloaded t).putBlock_microword t (s.segBytes r.sid)
    obtain ⟨hver, hentry, hkeep⟩ := (s.reloaded t).putBlock_get t (s.segBytes r.sid)
    generalize (s.reloaded t).putBlock t (s.segBytes r.sid) = b at hwb hword hlowword hother hver hentry hkeep
    have hput : b.writes (b.put (Reg.MC_STATUS_STS t) 0) [.regs] := State.put_writes
    have hmicro : ∀ k a, (b.put (Reg.MC_STATUS_STS t) 0).microword k a = b.microword k a := fun k a => by
      rw [State.microword, State.microword, State.put_ustore]
    have hold : ∀ k a, (s.reloaded t).microword k a = s.microword k a := fun k a => by
      rw [State.microword, State.microword,
        show (s.reloaded t).ustore = s.ustore from State.reloaded_writes .ustore (by decide)]
    have hset := b.setsFields_refl.nextAt (Reg.MC_STATUS_STS t) 0 (by simp) rfl
    refine ⟨State.writes_of hput (by decide) (State.writes_of hwb (by decide)
      (State.writes_mono State.reloaded_writes (by decide))), State.reloaded_tile (State.writes_of hput (by decide) hwb)
      (by decide), ?_, hset.get (by simp), ?_, fun i hi => (hmicro _ _).trans (hword i hi),
      fun a ha => (hmicro _ _).trans ((hlowword a ha).trans (hold _ _)),
      fun k a hk => (hmicro _ _).trans ((hother k a (Fin.val_ne_of_ne hk)).trans (hold _ _)), fun o ho => ?_⟩
    · refine (hset.get_apart (by simp [Fld.apart, Reg.MC_STATUS_BUSY, Reg.MC_STATUS_STS])).trans ((hkeep _ ?_ ?_).trans
        (State.reloaded_sets.get (by simp)))
      · simpa only [Reg.MC_STATUS_STS, Reg.MC_STATUS_BUSY] using hlow
      · simp only [Reg.MC_STATUS_BUSY]
        omega
    · exact (State.get_put_other _ _ (by simp only [Reg.MC_STATUS_STS, Reg.MC_VERSION_USER]; omega)).trans hver
    · simp only [Reg.MC_STATUS_STS] at hlow
      obtain ⟨hvalid, hstart⟩ := hentry o ho
      exact ⟨(State.get_put_other _ _ (by simp only [Reg.MC_STATUS_STS, Reg.MC_DISPATCH_VALID]; omega)).trans hvalid,
        (State.get_put_other _ _ (by simp only [Reg.MC_STATUS_STS, Reg.MC_DISPATCH_START]; omega)).trans hstart⟩

/-! ## A reload asked for (R147) -/

section
variable {s : State} {t : Tile} {v : Word} (hu : s.get Reg.GLB_STATE_UNLOCKED = 1) (hv : v.getLsbD 0 = true)
include hu hv

theorem mcUload_refused {e : Sts}
    (he : (s.put Reg.GLB_STATE_UNLOCKED 0).reloadCheck t (s.get (Reg.MC_ULOAD_SRC t)) = some e) :
    Answers (.mcUload t v) s fun u => s.setsOnly u [(Reg.GLB_STATE_UNLOCKED, 0), (Reg.MC_STATUS_STS t, e.code)] := by
  have hsrc : (s.put Reg.GLB_STATE_UNLOCKED 0).get (Reg.MC_ULOAD_SRC t) = s.get (Reg.MC_ULOAD_SRC t) :=
    State.get_put_other s _ (by simp [Reg.MC_ULOAD_SRC, Reg.GLB_STATE_UNLOCKED]; omega)
  refine ⟨(s.put Reg.GLB_STATE_UNLOCKED 0).put (Reg.MC_STATUS_STS t) e.code, congrArg Host.Outcome.next ?_,
    State.writes_of State.put_writes (by decide) State.put_writes,
    (s.setsFields_refl.next Reg.GLB_STATE_UNLOCKED 0 rfl).put (Reg.MC_STATUS_STS t) e.code (of_decide_eq_true rfl)
      (Sts.code_lt e) (by simp [Fld.apart, Reg.GLB_STATE_UNLOCKED, Reg.MC_STATUS_STS])⟩
  rw [State.guarded_of_unlocked hu]
  dsimp only
  rw [hsrc, if_neg (by simp [hv]), he]

theorem mcUload_accepted {g : Seg}
    (hc : (s.put Reg.GLB_STATE_UNLOCKED 0).reloadCheck t (s.get (Reg.MC_ULOAD_SRC t)) = none)
    (hg : s.seg (s.get (Reg.MC_ULOAD_SRC t)) = some g) : Answers (.mcUload t v) s fun u =>
      s.writes u [.regs, .tiles] ∧ s.setsFields u [(Reg.GLB_STATE_UNLOCKED, 0), (Reg.MC_STATUS_BUSY t, 1)] ∧
      s.tileBecomes u t { s.tile t with reload := some ⟨s.get (Reg.MC_ULOAD_SRC t), g.sid⟩ } := by
  have hsrc : (s.put Reg.GLB_STATE_UNLOCKED 0).get (Reg.MC_ULOAD_SRC t) = s.get (Reg.MC_ULOAD_SRC t) :=
    State.get_put_other s _ (by simp [Reg.MC_ULOAD_SRC, Reg.GLB_STATE_UNLOCKED]; omega)
  have hlocked : s.writes (s.put Reg.GLB_STATE_UNLOCKED 0) [.regs] := State.put_writes
  have hseg : (s.put Reg.GLB_STATE_UNLOCKED 0).seg (s.get (Reg.MC_ULOAD_SRC t)) = some g :=
    (State.seg_of_writes hlocked (by decide) _).trans hg
  have hset := s.setsFields_refl.next Reg.GLB_STATE_UNLOCKED 0 rfl
  have htile : ∀ k, (s.put Reg.GLB_STATE_UNLOCKED 0).tile k = s.tile k := fun k => State.tile_of_writes hlocked (by decide) k
  generalize hw : s.put Reg.GLB_STATE_UNLOCKED 0 = w at hc hsrc hlocked hseg hset htile
  refine ⟨(w.setTile t { w.tile t with reload := some ⟨s.get (Reg.MC_ULOAD_SRC t), g.sid⟩ }).put (Reg.MC_STATUS_BUSY t) 1,
    congrArg Host.Outcome.next ?_, State.writes_of State.put_writes (by decide) (State.writes_of State.setTile_writes
      (by decide) (State.writes_mono hlocked (by decide))), ?_, ?_⟩
  · rw [State.guarded_of_unlocked hu, hw]
    dsimp only
    rw [hsrc, if_neg (by simp [hv]), hc, hseg]
  · have htiled : (w.setTile t { w.tile t with reload := some ⟨s.get (Reg.MC_ULOAD_SRC t), g.sid⟩ }).regs = w.regs := rfl
    exact (hset.of_regs htiled).nextAt (Reg.MC_STATUS_BUSY t) 1
      (by simp [Fld.apart, Reg.GLB_STATE_UNLOCKED, Reg.MC_STATUS_BUSY]) rfl
  · refine ⟨(State.tile_of_writes State.put_writes (by decide) t).trans ?_, fun k hk =>
      (State.tile_of_writes State.put_writes (by decide) k).trans ((State.tile_setTile_other _ _ hk).trans (htile k))⟩
    rw [State.tile_setTile, htile]

end

/-- s with word i of the customer key's hash taken. -/
def State.hashed (s : State) (i : Fin 12) (v : Word) : State :=
  { s with ukey := i.val :: s.ukey }.put (Reg.NVS_UKEY_HASH i) v.toNat

section
variable (s : State) (i : Fin 12) (v : Word)

theorem State.hashed_ukey : (s.hashed i v).ukey = i.val :: s.ukey := State.put_ukey _ _ _

theorem State.hashed_writes : s.writes (s.hashed i v) [.regs, .ukey] :=
  have hkey : s.writes { s with ukey := i.val :: s.ukey } [.ukey] := fun p hp => by
    cases p <;> first | rfl | exact absurd (by decide) hp
  State.writes_of State.put_writes (by decide) (State.writes_mono hkey (by decide))

theorem State.hashed_sets : s.setsFields (s.hashed i v) [(Reg.NVS_UKEY_HASH i, v.toNat)] :=
  (State.setsFields_nil_of_regs (s := s) (t := { s with ukey := i.val :: s.ukey }) rfl).put (Reg.NVS_UKEY_HASH i) v.toNat
    (of_decide_eq_true rfl) v.isLt (by simp)

end

/-- Settles O30: a reload by its check and by the block's, and an enrolment by which words have been taken. -/
theorem userMicrocodeAndKeys : Obligations.UserMicrocodeAndKeys := by
  unfold Obligations.UserMicrocodeAndKeys
  refine ⟨fun s t => ⟨fun v g hu hv hc hg => mcUload_accepted hu hv hc hg, fun v hu hv e he => mcUload_refused hu hv he,
    fun r hr => userReloadComplete_answers s t r hr⟩, fun s => ⟨fun v hu hv he hb => ?_, fun i v ho => ?_,
    fun i v ho hi => ?_, fun i v ho hi => ?_, fun hlen he => ?_⟩⟩
  · refine ⟨((s.put Reg.GLB_STATE_UNLOCKED 0).put Reg.NVS_UKEY_CTRL_OPEN 1).put Reg.NVS_UKEY_CTRL_STS 0,
      congrArg Host.Outcome.next ?_, ((State.setsOnly.next ⟨State.writes_refl, s.setsFields_refl⟩ _ _ rfl).next _ _ rfl).next _ _ rfl⟩
    have henr : (s.put Reg.GLB_STATE_UNLOCKED 0).enrolled = false := by
      rw [State.enrolled, State.get_put_other s _ (by decide), he]
      rfl
    have hblock : (s.put Reg.GLB_STATE_UNLOCKED 0).get Reg.NVS_SUPPLY_NV_BLOCK = 0 :=
      (State.get_put_other s _ (by decide)).trans hb
    rw [State.guarded_of_unlocked hu, henr, if_neg (by decide), if_neg (by simp [hv]), if_neg (by simp [hblock]), Sts.ok_code]
  · exact ⟨_, congrArg Host.Outcome.next (if_pos ho), State.setsOnly.next ⟨State.writes_refl, s.setsFields_refl⟩ _ _ rfl⟩
  · refine ⟨(s.put Reg.GLB_ERR_WO_REWRITE 1).bump Reg.GLB_WO_CNT, congrArg Host.Outcome.next ?_,
      State.writes_of State.bump_moves.1 (by decide) State.put_writes,
      (s.setsFields_refl.next Reg.GLB_ERR_WO_REWRITE 1 rfl).bump Reg.GLB_WO_CNT 1 rfl rfl⟩
    exact (if_neg (by simp [ho])).trans (if_pos (by simpa using hi))
  · have hexec : exec (.ukeyHashWrite i v) s = .next (if (s.hashed i v).ukey.length = 12 then
        (s.hashed i v).put Reg.NVS_UKEY_CTRL_BURNING 1 else s.hashed i v) :=
      congrArg Host.Outcome.next ((if_neg (by simp [ho])).trans (if_neg (by simpa using hi)))
    rw [State.hashed_ukey, List.length_cons] at hexec
    by_cases hlen : s.ukey.length = 11
    · rw [if_pos (by omega)] at hexec
      rw [if_pos hlen]
      refine ⟨_, hexec, State.writes_of State.put_writes (by decide) (s.hashed_writes i v),
        (State.put_ukey _ _ _).trans (s.hashed_ukey i v), (s.hashed_sets i v).nextAt Reg.NVS_UKEY_CTRL_BURNING 1 ?_ rfl⟩
      simp [Fld.apart, Reg.NVS_UKEY_HASH, Reg.NVS_UKEY_CTRL_BURNING]
      omega
    · rw [if_neg (by omega)] at hexec
      rw [if_neg hlen]
      exact ⟨_, hexec, s.hashed_writes i v, s.hashed_ukey i v, s.hashed_sets i v⟩
  · refine ⟨_, congrArg Host.Outcome.next (if_pos ⟨hlen, ?_⟩),
      ((State.setsOnly.next ⟨State.writes_refl, s.setsFields_refl⟩ _ _ rfl).next _ _ rfl).next _ _ rfl⟩
    simp [State.enrolled, he]

end Sys2Proof.Machine
end

/-! # Contexts loaded, released, prepared and started (R83 to R88) -/

section
namespace Sys2Proof.Machine

/-! ## Commands that are taken (R87) -/

/-- s after the report of a context command of tile t that is taken, the exit from self-refresh begun (R247). -/
def State.seqTaken (s : State) (t : Tile) (tag : BitVec 8) : State := (s.seqReport t tag.toNat .ok).memWake

section
variable (s : State) (t : Tile) (tag : BitVec 8)

theorem State.seqTaken_writes : s.writes (s.seqTaken t tag) [.regs, .xng, .mc] :=
  State.writes_of State.memWake_moves.1 (by decide) (State.writes_mono (s.seqReport_writes _ _ _) (by decide))

variable {s t tag} {u : State} {L : List (Fld × Nat)}

theorem State.seqTaken_tells (h : s.setsFields u L)
    (hL : ∀ p ∈ L, p.1.apart (Reg.SEQ_CMD_STATUS_TAG t) ∧ p.1.apart (Reg.SEQ_CMD_STATUS_STS t)) (hx : u.xng = s.xng) :
    s.seqTells (u.seqTaken t tag) t tag.toNat 0 L := by
  obtain ⟨hset, hxng⟩ := State.seqReport_tells h hL hx tag .ok
  exact ⟨hset.of_regs (State.memWake_regs _), hxng⟩

/-- A field of a register below the tiles' is apart from those that a report sets. -/
theorem State.seqReport_get_below (e : Sts) {f : Fld} (hf : f.addr < 0x080000) : (u.seqReport t tag.toNat e).get f = u.get f :=
  (State.seqReport_sets u.setsFields_refl (by simp) tag e).get_apart (by
    simp only [List.nil_append, List.map_cons, List.map_nil, List.mem_cons, List.not_mem_nil, or_false, forall_eq_or_imp,
      forall_eq, Fld.apart, Reg.SEQ_CMD_STATUS_TAG, Reg.SEQ_CMD_STATUS_STS]
    omega)

/-- The command counts as a request to the memory (R247). -/
theorem State.seqTaken_mc (hmc : u.mc = s.mc) (hnow : u.now = s.now) (hsr : u.get Reg.MEM_SR_ACTIVE = s.get Reg.MEM_SR_ACTIVE)
    (hp : u.get Reg.GLB_STATE_PROFILE = s.get Reg.GLB_STATE_PROFILE) : (u.seqTaken t tag).mc = s.memWake.mc := by
  have hw := u.seqReport_writes t tag.toNat .ok
  exact State.memWake_mc_congr ((hw .mc (by decide)).trans hmc) ((hw .now (by decide)).trans hnow)
    ((State.seqReport_get_below .ok (by decide)).trans hsr) ((State.seqReport_get_below .ok (by decide)).trans hp)

/-- What a context command that is taken leaves, from the state u that it has brought about. -/
theorem State.seqTaken_of_writes {W : List Piece} (hw : s.writes u W) (hW : ∀ p ∈ W, p ∈ [Piece.ctxs, .tiles]) :
    s.writes (u.seqTaken t tag) [.regs, .ctxs, .tiles, .xng, .mc] ∧ (u.seqTaken t tag).mc = s.memWake.mc ∧
    s.seqTells (u.seqTaken t tag) t tag.toNat 0 [] := by
  have hu : s.writes u [.ctxs, .tiles] := State.writes_mono hw hW
  have hregs : u.regs = s.regs := hu .regs (by decide)
  exact ⟨State.writes_of (u.seqTaken_writes t tag) (by decide) (State.writes_mono hu (by decide)),
    State.seqTaken_mc (hu .mc (by decide)) (hu .now (by decide)) (State.get_congr hregs _) (State.get_congr hregs _),
    State.seqTaken_tells (State.setsFields_nil_of_regs hregs) (by simp) (hu .xng (by decide))⟩

end

/-! ## A context loaded (R85) -/

/-- A context just loaded: empty, at its initial PC, its arm records cleared. -/
def State.loadedCtx (s : State) (c : Nat) : Ctx := { Ctx.init with
  st := .loaded, pc := ⟨(s.initPc c).1, 0, (s.initPc c).2⟩
  arms := mmap (fun _ a => { ArmRec.init with gen := a.gen + 1 }) (s.ctx c).arms }

theorem mget_mmap {α : Type} (d : Nat → α) (f : Nat → α → α) (m : SMap α) (k : Nat) :
    mget d (mmap f m) k = match mfind m k with
      | some a => f k a
      | none => d k := by
  induction m with
  | nil => rfl
  | cons p m ih =>
    obtain ⟨i, a⟩ := p
    by_cases h : k = i
    · subst h
      simp [mmap, mget, mfind]
    · simp only [mmap, mget, mfind, if_neg h]
      exact ih

theorem State.loadedCtx_arm (s : State) (c k : Nat) : ((s.loadedCtx c).arm k).valid = false := by
  rw [Ctx.arm, State.loadedCtx]
  dsimp only
  rw [mget_mmap]
  split <;> rfl

section
variable (s : State) (c : Nat)

theorem State.loadCtx_writes : s.writes (s.loadCtx c) [.regs, .ctxs] :=
  State.writes_of State.setCnt_moves.1 (by decide) <| State.writes_of State.setCnt_moves.1 (by decide)
    (State.writes_mono State.setCtx_writes (by decide))

theorem State.loadCtx_ctx : (s.loadCtx c).ctx c = s.loadedCtx c := by
  have hcnt : (s.setCtx c (s.loadedCtx c)).writes (s.loadCtx c) [.regs] :=
    State.writes_of State.setCnt_moves.1 (by decide) State.setCnt_moves.1
  rw [State.ctx_of_writes hcnt (by decide), State.ctx_setCtx]

theorem State.loadCtx_sets : s.setsFields (s.loadCtx c) [(Reg.CTX_CNT c 0, 0), (Reg.CTX_CNT c 1, 0)] := by
  have h := ((State.setsFields_nil_of_regs (s := s) (t := s.setCtx c (s.loadedCtx c)) rfl).nextAt (Reg.CTX_CNT c 0) 0
    (by simp) rfl).nextAt (Reg.CTX_CNT c 1) 0 (by simp [Fld.apart, Reg.CTX_CNT]) rfl
  exact h

end

/-- Settles O31: LOAD and RELEASE by what a context command that is taken leaves. -/
theorem contextsAreLoadedAndReleased : Obligations.ContextsAreLoadedAndReleased := by
  unfold Obligations.ContextsAreLoadedAndReleased
  intro s t tag c h
  refine ⟨fun hst => ?_, fun hst => ?_⟩
  · have hf : exec (.seqLoad t tag c 0) s =
        .next ((((s.loadCtx c).gcSlots t).refillSwitch t c).seqTaken t tag) := by
      refine congrArg Host.Outcome.next (State.seqCmd_taken tag h ?_)
      rcases hst with hst | hst | hst | hst <;> simp only [hst]
    have hslots : (s.loadCtx c).writes (((s.loadCtx c).gcSlots t).refillSwitch t c) [.ctxs, .tiles] :=
      State.writes_of State.refillSwitch_moves.1 (by decide) State.gcSlots_moves.1
    have hreland := ((s.loadCtx c).gcSlots_relands t).trans (State.refillSwitch_relands _ t c)
    have hload := s.loadCtx_writes c
    have hset := (s.loadCtx_sets c).of_regs (hslots .regs (by decide))
    have hctx := hreland.ctx c
    rw [s.loadCtx_ctx] at hctx
    have hslot := hctx.eq
    generalize ((s.loadCtx c).gcSlots t).refillSwitch t c = v at hf hslots hset hctx hslot
    have hv : s.writes v [.regs, .ctxs, .tiles] := State.writes_of hslots (by decide) (State.writes_mono hload (by decide))
    have htaken : (v.seqTaken t tag).ctx c = v.ctx c := State.ctx_of_writes (v.seqTaken_writes t tag) (by decide) c
    refine ⟨_, hf, State.writes_of (v.seqTaken_writes t tag) (by decide) (State.writes_mono hv (by decide)), ?_, ?_⟩
    · exact State.seqTaken_mc (hv .mc (by decide)) (hv .now (by decide))
        (hset.get_apart (by simp [Fld.apart, Reg.CTX_CNT, Reg.MEM_SR_ACTIVE]; omega))
        (hset.get_apart (by simp [Fld.apart, Reg.CTX_CNT, Reg.GLB_STATE_PROFILE]; omega))
    · rw [htaken]
      refine ⟨by rw [hslot]; rfl, by rw [hslot]; rfl, by rw [hslot]; rfl, by rw [hslot]; rfl, by rw [hslot]; rfl,
        by rw [hslot]; rfl, by rw [hslot]; rfl, fun k => ?_, by rw [hslot]; rfl, ?_⟩
      · exact (congrArg ArmRec.valid (hctx.2 k)).trans (s.loadedCtx_arm c k)
      · exact State.seqTaken_tells hset (by
          simp [Fld.apart, Reg.CTX_CNT, Reg.SEQ_CMD_STATUS_TAG, Reg.SEQ_CMD_STATUS_STS]; omega) (hv .xng (by decide))
  · have hf : exec (.seqRelease t tag c 0) s = .next ((s.setCtx c { s.ctx c with st := .free }).seqTaken t tag) := by
      refine congrArg Host.Outcome.next (State.seqCmd_taken tag h ?_)
      rcases hst with hst | hst | hst <;> simp only [hst]
    have hset : s.writes (s.setCtx c { s.ctx c with st := .free }) [.ctxs] := State.setCtx_writes
    obtain ⟨-, hmc, htells⟩ := State.seqTaken_of_writes (t := t) (tag := tag) hset (by decide)
    exact ⟨_, hf, State.writes_of (State.seqTaken_writes _ t tag) (by decide) (State.writes_mono hset (by decide)), hmc,
      ((State.ctxBecomes.refl s c).set _).of_writes (State.seqTaken_writes _ t tag) (by decide), htells⟩

end Sys2Proof.Machine
end

/-! # Contexts prepared and started (R83 to R88) -/

section
namespace Sys2Proof.Machine

/-! ## What a reference and the residents of a tile rest on -/

section
variable {s u : State}

theorem State.refProgram_congr (hseg : u.segs = s.segs) (hstore : u.stores = s.stores) (h off : Nat) :
    u.refProgram h off = s.refProgram h off := by
  have hg : ∀ i, u.seg i = s.seg i := fun i => congrArg (mfind · i) hseg
  have hr : ∀ i, u.store i = s.store i := fun i => by simp only [State.store, hstore]
  have hcheck : u.refCheck h off = s.refCheck h off := by simp only [State.refCheck, hg, hr]
  rw [State.refProgram, hcheck, State.refProgram]

theorem State.residents_congr (hctxs : u.ctxs = s.ctxs)
    (hbind : ∀ c, u.get (Reg.CTX_CFG_BIND c) = s.get (Reg.CTX_CFG_BIND c)) (t : Nat) : u.residents t = s.residents t := by
  simp only [State.residents, hctxs, hbind]

/-- The registers of the context table are apart from a tile's. -/
theorem ctxBind_apart_busy (t : Tile) (c : Nat) : (Reg.CTX_CFG_BIND c).apart (Reg.SEQ_CMD_STATUS_BUSY t) := by
  simp only [Fld.apart, Reg.CTX_CFG_BIND, Reg.SEQ_CMD_STATUS_BUSY]
  omega

end

/-! ## A context prepared (R85) -/

section
variable (s : State) (t : Tile)

/-- s with BUSY of tile t at b and what it prepares. -/
def State.preparing (s : State) (t : Nat) (p : Option (Nat × Nat)) (b : Nat) : State :=
  (s.setTile t { s.tile t with prep := p }).put (Reg.SEQ_CMD_STATUS_BUSY t) b

variable (p : Option (Nat × Nat))

theorem State.preparing_writes (b : Nat) : s.writes (s.preparing t p b) [.regs, .tiles] :=
  State.writes_of State.put_moves.1 (by decide) (State.writes_mono State.setTile_writes (by decide))

theorem State.preparing_becomes (b : Nat) : s.tileBecomes (s.preparing t p b) t { s.tile t with prep := p } :=
  ⟨(State.tile_of_writes State.put_moves.1 (by decide) _).trans (State.tile_setTile _ _ _), fun _ hk =>
    (State.tile_of_writes State.put_moves.1 (by decide) _).trans (State.tile_setTile_other _ _ hk)⟩

theorem State.preparing_sets {b : Nat} (hb : b < 2) : s.setsFields (s.preparing t p b) [(Reg.SEQ_CMD_STATUS_BUSY t, b)] :=
  (State.setsFields_nil_of_regs (t := s.setTile t { s.tile t with prep := p }) rfl).put
    (Reg.SEQ_CMD_STATUS_BUSY t) b (of_decide_eq_true rfl) hb (by simp)

theorem State.preparing_refProgram (b h off : Nat) : (s.preparing t p b).refProgram h off = s.refProgram h off :=
  State.refProgram_congr (s.preparing_writes t p b .segs (by decide)) (s.preparing_writes t p b .stores (by decide)) h off

theorem State.preparing_residents {b : Nat} (hb : b < 2) (k : Nat) : (s.preparing t p b).residents k = s.residents k :=
  State.residents_congr (s.preparing_writes t p b .ctxs (by decide))
    (fun c => (s.preparing_sets t p hb).get_apart (by simpa using ctxBind_apart_busy t c)) k

/-- s with context c Ready at address a in a residency slot, its first line in the instruction cache of tile t. -/
def State.readied (s : State) (t c : Nat) (a : Addr) (slot : Nat) : State :=
  ((s.setCtx c { s.ctx c with st := .ready, pc := a, pos := .fresh, rslot := slot }).cacheLine t a.sid a.off).refillSwitch t c

variable (c : Nat) (a : Addr) (slot : Nat)

theorem State.cacheLine_other (sid off : Nat) {k : Nat} (hk : k ≠ t.val) : (s.cacheLine t sid off).tile k = s.tile k := by
  unfold State.cacheLine
  extract_lets _ x
  rw [State.tile_setTile_other _ _ hk]
  split
  · rfl
  · exact State.tile_of_writes State.lineUse_moves.1 (by decide) k

theorem State.cacheLine_prep (sid off : Nat) : ((s.cacheLine t sid off).tile t).prep = (s.tile t).prep := by
  unfold State.cacheLine
  extract_lets _ x
  rw [State.tile_setTile]

theorem State.readied_writes : s.writes (s.readied t c a slot) [.ctxs, .tiles, .mc] :=
  State.writes_of State.refillSwitch_moves.1 (by decide) <| State.writes_of State.cacheLine_moves.1 (by decide)
    (State.writes_mono State.setCtx_writes (by decide))

theorem State.readied_ctx :
    Ctx.slotsOnly { s.ctx c with st := .ready, pc := a, pos := .fresh, rslot := slot } ((s.readied t c a slot).ctx c) := by
  have h := (State.refillSwitch_relands ((s.setCtx c { s.ctx c with st := .ready, pc := a, pos := .fresh, rslot := slot }).cacheLine
    t a.sid a.off) t c).ctx c
  rw [State.ctx_of_writes State.cacheLine_moves.1 (by decide), State.ctx_setCtx] at h
  exact h

theorem State.readied_ctx_other {d : Nat} (hd : d ≠ c) : (s.ctx d).slotsOnly ((s.readied t c a slot).ctx d) := by
  have h := (State.refillSwitch_relands ((s.setCtx c { s.ctx c with st := .ready, pc := a, pos := .fresh, rslot := slot }).cacheLine
    t a.sid a.off) t c).ctx d
  rw [State.ctx_of_writes State.cacheLine_moves.1 (by decide), State.ctx_setCtx_other _ _ hd] at h
  exact h

theorem State.readied_other {k : Nat} (hk : k ≠ t.val) : (s.readied t c a slot).tile k = s.tile k :=
  ((State.refillSwitch_relands _ t c).other k hk).trans ((State.cacheLine_other _ t _ _ hk).trans
    (State.tile_of_writes State.setCtx_writes (by decide) k))

theorem State.readied_prep : ((s.readied t c a slot).tile t).prep = (s.tile t).prep := by
  have h := congrArg TileSt.prep (TileSt.eq_of_slotless (State.refillSwitch_relands
    ((s.setCtx c { s.ctx c with st := .ready, pc := a, pos := .fresh, rslot := slot }).cacheLine t a.sid a.off) t c).tile)
  exact h.trans ((State.cacheLine_prep _ t _ _).trans
    (congrArg TileSt.prep (State.tile_of_writes State.setCtx_writes (by decide) t.val)))

variable {s t c a}

theorem exec_prepComplete {tag : Nat} (hp : (s.tile t).prep = some (c, tag))
    (ha : s.refProgram (s.ctx c).pc.h (s.ctx c).pc.off = .ok a) :
    exec (.prepComplete t) s = .next (((s.preparing t none 0).readied t c a (freeResid (s.residents t) 256 0)).seqReport
      t tag .ok) := by
  have hctx : (s.preparing t none 0).ctx c = s.ctx c :=
    State.ctx_of_writes (s.preparing_writes t none 0) (by decide) c
  have hres : (s.preparing t none 0).residents t = s.residents t := s.preparing_residents t none (by decide) t
  refine congrArg Host.Outcome.next ?_
  simp only [hp]
  change (match (s.preparing t none 0).refProgram ((s.preparing t none 0).ctx c).pc.h ((s.preparing t none 0).ctx c).pc.off with
    | .error e => (s.preparing t none 0).seqReport t tag e
    | .ok a => (((s.preparing t none 0).setCtx c { (s.preparing t none 0).ctx c with
        st := .ready, pc := a, pos := .fresh, rslot := freeResid ((s.preparing t none 0).residents t) 256 0 }).cacheLine
          t a.sid a.off |>.refillSwitch t c).seqReport t tag .ok) = _
  rw [State.preparing_refProgram, hctx, ha, hres, State.readied, hctx]

end

/-! ## A start requested (R88) -/

section
variable (s : State) (t : Tile) (c mode : Nat) (resume : Bool)

/-- The start cycle of a START or RESUME of mode MODE accepted now: none where it waits for a pulse. -/
def State.startAt (s : State) (t mode : Nat) : Option Nat :=
  if mode = 0 then some (s.now + Config.lead)
  else if mode = 1 then some (s.now + (s.seqTime t - s.sysTime s.now)) else none

/-- s with a start of context c pending on tile t. -/
def State.startPending (s : State) (t c mode : Nat) (resume : Bool) : State :=
  s.setTile t { s.tile t with
    ahead := none, start := some ⟨c, resume, mode, s.startAt t mode, s.now + Config.lead⟩ }

variable {s t c mode resume}

theorem State.startCmd_taken (hst : (s.ctx c).st = if resume then .paused else .ready)
    (hrun : (s.tile t).running = none) (hstart : (s.tile t).start = none) (hload : (s.tile t).reload = none)
    (hfive : s.fifthChannel t = false) (htime : mode = 1 → s.sysTime s.now + Config.lead ≤ s.seqTime t) (tag : Nat) :
    s.startCmd t tag c mode resume none = (s.startPending t c mode resume).seqReport t tag .ok := by
  have hnow : ¬ (mode = 1 ∧ s.seqTime t < s.sysTime s.now + Config.lead) := fun ⟨h, k⟩ => by have := htime h; omega
  unfold State.startCmd
  simp only [hst, hrun, hstart, hload, hfive, if_neg hnow, ne_eq, not_true_eq_false, if_false, Option.isSome_none,
    Bool.or_self, Bool.false_eq_true, State.startPending]
  clear hnow htime
  rcases mode with _ | _ | mode <;> rfl

theorem exec_startCmd {tag : BitVec 8} {d : CtxNo} {m : BitVec 2} (h : s.seqTakes t d)
    (hst : (s.ctx d).st = if resume then .paused else .ready)
    (hrun : (s.tile t).running = none) (hstart : (s.tile t).start = none) (hload : (s.tile t).reload = none)
    (hcal : s.calHold t = none) (hfive : s.fifthChannel t = false)
    (htime : m = 1 → s.sysTime s.now + Config.lead ≤ s.seqTime t) :
    exec (if resume then .seqResume t tag d m else .seqStart t tag d m) s =
      .next ((s.startPending t d m.toNat resume).seqTaken t tag) := by
  have hcmd := State.startCmd_taken (resume := resume) (mode := m.toNat) hst hrun hstart hload hfive
    (fun he => htime (BitVec.eq_of_toNat_eq he)) tag.toNat
  rw [← hcal] at hcmd
  have hnext := State.seqCmd_taken tag h (f := fun s => s.startCmd t tag.toNat d m.toNat resume (s.calHold t)) hcmd
  cases resume <;> exact congrArg Host.Outcome.next hnext

end

/-! ## A start that has come (R88) -/

section
variable (s : State) (t : Tile)

/-- s with tile t afresh for a start. -/
def State.starting (s : State) (t : Nat) : State :=
  s.setTile t { (s.tile t).fresh with start := none, afterRun := none }

theorem State.starting_writes : s.writes (s.starting t) [.tiles] := State.setTile_writes

/-- s with the context c entered on tile t. -/
def State.started (s : State) (t c : Nat) : State := (s.starting t).enter t c (s.now * Config.fine)

variable (c : Nat)

theorem State.started_enters : (s.starting t).Enters (s.started t c) t c (s.now * Config.fine)
    (((s.starting t).ctx c).resumed (s.now * Config.fine)) :=
  State.enter_enters _ _ _ _

theorem State.started_writes : s.writes (s.started t c) [.ctxs, .tiles] :=
  State.writes_of (s.started_enters t c).writes (by decide) (State.writes_mono (s.starting_writes t) (by decide))

theorem State.started_heldSafe : (s.started t c).heldSafe t = s.heldSafe t :=
  have hw := s.started_writes t c
  State.heldSafe_congr (State.latches_of_writes hw (by decide) t) (hw .pw (by decide)) (hw .regs (by decide))

theorem State.started_becomes : s.ctxBecomes (s.started t c) c (s.ctx c).entered := by
  have h := (s.started_enters t c).ctx
  have hctx : ∀ d, (s.starting t).ctx d = s.ctx d := State.ctx_of_writes (s.starting_writes t) (by decide)
  exact ⟨by rw [h.1, hctx], fun d hd => by rw [h.2 d hd, hctx]⟩

theorem State.started_other {k : Nat} (hk : k ≠ t.val) : (s.started t c).tile k = s.tile k :=
  ((s.started_enters t c).other k hk).trans (State.tile_setTile_other _ _ hk)

theorem State.started_start : ((s.started t c).tile t).start = none := by
  rw [(s.started_enters t c).start, State.starting, State.tile_setTile]

variable {s t}

theorem exec_startCycle {c m n e : Nat} {res : Bool} (hstart : (s.tile t).start = some ⟨c, res, m, some n, e⟩)
    (hn : n ≤ s.now) (hst : (s.ctx c).st = .ready ∨ (s.ctx c).st = .paused) :
    exec (.startCycle t) s = .next ((s.started t c).closeOutput t) := by
  refine congrArg Host.Outcome.next ?_
  simp only [hstart]
  rw [if_neg (by omega), if_neg fun ⟨h, k⟩ => hst.elim h k]
  rfl

end

/-- Settles O32: PREP and its end by what they write, START and RESUME by what a context command that is taken leaves, the
start cycle by what entering a context leaves. -/
theorem contextsArePreparedAndStarted : Obligations.ContextsArePreparedAndStarted := by
  unfold Obligations.ContextsArePreparedAndStarted
  refine ⟨fun s t => ⟨?_, ?_⟩, fun s t => ⟨?_, ?_⟩⟩
  · intro tag c h hst hroom a ha
    have hw := s.preparing_writes t (some (c.val, tag.toNat)) 1
    have htile := s.preparing_becomes t (some (c.val, tag.toNat)) 1
    have hset := s.preparing_sets t (some (c.val, tag.toNat)) (b := 1) (by decide)
    have hf : exec (.seqPrep t tag c 0) s = .next (s.preparing t (some (c.val, tag.toNat)) 1).memWake := by
      refine congrArg Host.Outcome.next ((State.seqCmd_begun tag h ?_).trans (congrArg State.memWake ?_))
      all_goals
        simp only [hst, ha, ne_eq, not_true_eq_false, if_false, if_neg (show ¬ 256 ≤ (s.residents t).length by omega)]
      · exact congrArg Option.isSome (congrArg TileSt.prep htile.1)
      · rfl
    generalize s.preparing t (some (c.val, tag.toNat)) 1 = v at hw htile hset hf
    have hwake : v.writes v.memWake [.mc] := State.memWake_moves.1
    refine ⟨_, hf, State.writes_of hwake (by decide) (State.writes_mono hw (by decide)), ?_, hset.of_regs v.memWake_regs,
      (State.tile_of_writes hwake (by decide) _).trans htile.1,
      fun k hk => (State.tile_of_writes hwake (by decide) _).trans (htile.2 k hk)⟩
    exact State.memWake_mc_congr (hw .mc (by decide)) (hw .now (by decide))
      (hset.get_apart (by simp [Fld.apart, Reg.SEQ_CMD_STATUS_BUSY, Reg.MEM_SR_ACTIVE]))
      (hset.get_apart (by simp [Fld.apart, Reg.SEQ_CMD_STATUS_BUSY, Reg.GLB_STATE_PROFILE]; omega))
  · intro c tag hp htag a ha
    have hw := s.preparing_writes t none 0
    have htile := s.preparing_becomes t none 0
    have hset := s.preparing_sets t none (b := 0) (by decide)
    have hf := exec_prepComplete hp ha
    have hctx : ∀ d, (s.preparing t none 0).ctx d = s.ctx d := State.ctx_of_writes hw (by decide)
    generalize s.preparing t none 0 = v at hw htile hset hf hctx
    have hready := v.readied_ctx t c a (freeResid (s.residents t) 256 0)
    have hother := fun d (hd : d ≠ c) => v.readied_ctx_other t c a (freeResid (s.residents t) 256 0) hd
    have htiles := fun k (hk : k ≠ t.val) => v.readied_other t c a (freeResid (s.residents t) 256 0) hk
    have hprep := v.readied_prep t c a (freeResid (s.residents t) 256 0)
    have hwr := v.readied_writes t c a (freeResid (s.residents t) 256 0)
    generalize v.readied t c a (freeResid (s.residents t) 256 0) = w at hf hready hother htiles hprep hwr
    have htag' : (BitVec.ofNat 8 tag).toNat = tag := by simp [Nat.mod_eq_of_lt htag]
    have hrep := w.seqReport_writes t tag .ok
    have hsw : s.writes w [.regs, .ctxs, .tiles, .mc] :=
      State.writes_of hwr (by decide) (State.writes_mono hw (by decide))
    have htells := State.seqReport_tells (t := t) (hset.of_regs (hwr .regs (by decide)))
      (by simp [Fld.apart, Reg.SEQ_CMD_STATUS_BUSY, Reg.SEQ_CMD_STATUS_TAG, Reg.SEQ_CMD_STATUS_STS])
      (hsw .xng (by decide)) (BitVec.ofNat 8 tag) .ok
    rw [htag'] at htells
    have hreadyc := hready.eq
    have hctxw : ∀ d, (w.seqReport t tag .ok).ctx d = w.ctx d := State.ctx_of_writes hrep (by decide)
    have htilew : ∀ k, (w.seqReport t tag .ok).tile k = w.tile k := State.tile_of_writes hrep (by decide)
    refine ⟨_, hf, State.writes_of hrep (by decide) (State.writes_mono hsw (by decide)), ?_⟩
    rw [hctxw, hreadyc, htilew]
    refine ⟨rfl, rfl, rfl, rfl, fun d hd => ?_, ?_, fun k hk => ?_, htells⟩
    · rw [hctxw, ← hctx]
      have hst := congrArg Ctx.st (hother d hd).eq
      exact hst
    · rw [hprep, htile.1]
    · rw [htilew, htiles k hk, htile.2 k hk]
  · intro tag c mode resume h hst hrun hstart hload hcal hfive htime
    have hset : s.writes (s.startPending t c mode.toNat resume) [.tiles] := State.setTile_writes
    have hmode : s.startAt t mode.toNat = if mode = 0 then some (s.now + Config.lead)
        else if mode = 1 then some (s.now + (s.seqTime t - s.sysTime s.now)) else none := by
      have h0 : mode.toNat = 0 ↔ mode = 0 := (BitVec.toNat_inj (y := 0#2))
      have h1 : mode.toNat = 1 ↔ mode = 1 := (BitVec.toNat_inj (y := 1#2))
      simp only [State.startAt, h0, h1]
    have htile : s.tileBecomes (s.startPending t c mode.toNat resume) t _ :=
      ⟨State.tile_setTile _ _ _, fun k hk => State.tile_setTile_other _ _ hk⟩
    rw [hmode] at htile
    have hf := exec_startCmd (tag := tag) h hst hrun hstart hload hcal hfive htime
    generalize s.startPending t c mode.toNat resume = v at hset hf htile
    obtain ⟨-, hmc, htells⟩ := State.seqTaken_of_writes (t := t) (tag := tag) hset (by decide)
    have hrep := v.seqTaken_writes t tag
    exact ⟨_, hf, State.writes_of hrep (by decide) (State.writes_mono hset (by decide)), hmc, htells,
      (State.tile_of_writes hrep (by decide) _).trans htile.1,
      fun k hk => (State.tile_of_writes hrep (by decide) _).trans (htile.2 k hk)⟩
  · intro c res m n e hstart hn hst
    have hf := exec_startCycle hstart hn hst
    have henter := s.started_enters t c
    have hctx := s.started_becomes t c
    have hheld := s.started_heldSafe t c
    have hsw := s.started_writes t c
    have htiles := fun k (hk : k ≠ t.val) => s.started_other t c hk
    have hstart' := s.started_start t c
    generalize s.started t c = v at hf henter hctx hheld hsw htiles hstart'
    have hclose : v.writes (v.closeOutput t) [.wav, .grp] := State.closeOutput_moves.1
    have hctxc : ∀ d, (v.closeOutput t).ctx d = v.ctx d := State.ctx_of_writes hclose (by decide)
    have htilec : ∀ k, (v.closeOutput t).tile k = v.tile k := State.tile_of_writes hclose (by decide)
    have hrun : (v.tile t).running.isSome = true := by rw [henter.running]; rfl
    refine ⟨_, hf, State.writes_of hclose (by decide) (State.writes_mono hsw (by decide)), ?_⟩
    rw [hctxc, hctx.1, htilec]
    refine ⟨rfl, rfl, fun d hd => (hctxc d).trans (hctx.2 d hd), henter.running, hstart', henter.nextPos,
      fun k hk => (htilec k).trans (htiles k hk), fun hh ht => ?_, fun hh ht => ?_, fun hh => ?_⟩
    · have hon := v.closeOutput_outputOn hrun (hheld.trans hh)
      simpa only [State.outputOn, if_pos ht] using hon
    · have hon := v.closeOutput_outputOn hrun (hheld.trans hh)
      simpa only [State.outputOn, if_neg (Nat.not_lt.mpr ht)] using hon
    · have hsame : v.closeOutput t = v := by rw [State.closeOutput, hheld, hh]; rfl
      rw [hsame]
      exact ⟨hsw .wav (by decide), hsw .grp (by decide)⟩

end Sys2Proof.Machine
end

/-! # Contexts paused and stopped (R87 to R89) -/

section
namespace Sys2Proof.Machine

/-! ## Catches dropped (R108) -/

section
variable (s : State) (t : Nat) (p : Catch → Bool) (reason : Nat)

/-- The catches dropped are logged; of the tiles only t loses them. -/
theorem State.dropCatches_after :
    (s.setTile t { s.tile t with catches := (s.tile t).catches.filter (fun k => !p k) }).writes (s.dropCatches t p reason)
      [.regs, .evt, .mon] := by
  refine writes_forEach (fun u k => ?_) State.writes_refl
  split
  · exact State.dropCatch_moves.1
  · exact State.writes_refl

theorem State.dropCatches_tile : (s.dropCatches t p reason).tile t =
    { s.tile t with catches := (s.tile t).catches.filter (fun k => !p k) } := by
  rw [State.tile_of_writes (s.dropCatches_after t p reason) (by decide), State.tile_setTile]

theorem State.dropCatches_other {k : Nat} (hk : k ≠ t) : (s.dropCatches t p reason).tile k = s.tile k := by
  rw [State.tile_of_writes (s.dropCatches_after t p reason) (by decide), State.tile_setTile_other _ _ hk]

theorem State.dropCatches_ctx (c : Nat) : (s.dropCatches t p reason).ctx c = s.ctx c :=
  State.ctx_of_writes State.dropCatches_moves.1 (by decide) c

end

/-! ## A PAUSE takes effect (R89) -/

theorem TileSt.closed_pauses (x : TileSt) (p : Nat) : (x.closed p).pauses = x.pauses := by
  unfold TileSt.closed
  split <;> rfl

section
variable (s : State) (t : Nat) (r : EndReq)

/-- s with the PAUSEs of a context on tile t ended, as one of them takes effect. -/
def State.unpaused : State :=
  s.setTile t { s.tile t with pauses := (s.tile t).pauses.filter (fun q => decide (q.c ≠ r.c)) }

/-- s where a PAUSE takes effect: at a boundary the item in play is closed. -/
def State.pausable : State :=
  if r.word then s.unpaused t r else match s.itemEnd t with
    | some p => (s.unpaused t r).closeItem t p
    | none => s.unpaused t r

theorem State.unpaused_writes : s.writes (s.unpaused t r) [.tiles] := State.setTile_writes

theorem State.unpaused_other {k : Nat} (hk : k ≠ t) : (s.unpaused t r).tile k = s.tile k := State.tile_setTile_other _ _ hk

theorem State.unpaused_pauses :
    ((s.unpaused t r).tile t).pauses = (s.tile t).pauses.filter (fun q => decide (q.c ≠ r.c)) := by
  rw [State.unpaused, State.tile_setTile]

variable {s t r}

theorem State.closeItem_of_wave (ht : t < 8) (p : Nat) : s.closeItem t p = s.setTile t ((s.tile t).closed p) := by
  rw [State.closeItem, s.closeVec_of_wave ht]

theorem State.pausable_writes (ht : t < 8) : s.writes (s.pausable t r) [.tiles] := by
  have hw := s.unpaused_writes t r
  unfold State.pausable
  split
  · exact hw
  · split
    · exact State.writes_of (State.closeItem_writes_of_wave ht _) (by decide) hw
    · exact hw

theorem State.pausable_other (ht : t < 8) {k : Nat} (hk : k ≠ t) : (s.pausable t r).tile k = s.tile k := by
  have ho := s.unpaused_other t r hk
  unfold State.pausable
  split
  · exact ho
  · split
    · rw [State.closeItem_of_wave ht, State.tile_setTile_other _ _ hk, ho]
    · exact ho

theorem State.pausable_pauses (ht : t < 8) :
    ((s.pausable t r).tile t).pauses = (s.tile t).pauses.filter (fun q => decide (q.c ≠ r.c)) := by
  have hp := s.unpaused_pauses t r
  unfold State.pausable
  split
  · exact hp
  · split
    · rw [State.closeItem_of_wave ht, State.tile_setTile, TileSt.closed_pauses, hp]
    · exact hp

theorem State.pauseCycle_of_word (hn : r.at_ ≤ s.now) (hw : r.word = true) :
    s.pauseCycle t r = some r.at_ := by
  rw [State.pauseCycle, if_neg (Nat.not_lt.mpr hn), if_pos (Or.inr hw)]

theorem State.pauseCycle_of_boundary {p : Nat} (hr : (s.tile t).running = some r.c) (hn : r.at_ ≤ s.now)
    (hw : r.word = false) (hu : (s.tile t).micro.upc = none) (hp : s.itemEnd t = some p)
    (hle : r.at_ ≤ posCycle p ∧ posCycle p ≤ s.now) : s.pauseCycle t r = some (posCycle p) := by
  rw [State.pauseCycle, if_neg (Nat.not_lt.mpr hn), if_neg (by simp [hr, hw]), hu, if_neg (by decide), hp]
  exact if_pos hle

/-- The first PAUSE of tile t, of the context that runs, takes effect at its cycle e. -/
theorem exec_pauseEffect {t : Tile} {rs : List EndReq} (hl : (s.tile t).pauses = r :: rs) {e : Nat}
    (he : s.pauseCycle t r = some e) (hr : (s.tile t).running = some r.c) : exec (.pauseEffect t) s =
      .next (((s.pausable t r).pauseAt t r.c e false false).dropCatches t (fun k => decide (k.at_ = e)) 0x04) := by
  have hfind : (s.tile t).pauses.find? (fun r => (s.pauseCycle t r).isSome) = some r := by
    rw [hl, List.find?_cons_of_pos (by rw [he]; rfl)]
  refine congrArg Host.Outcome.next ?_
  simp only [hfind, he] <;>
  rw [if_neg (not_not_intro hr), State.pausable, State.unpaused] <;> cases s.itemEnd t <;> rfl

end

/-! ## A STOP takes effect (R88, R89) -/

section
variable (s : State) (t : Nat) (r : EndReq) (rs : List EndReq)

/-- s with the STOPs rs left on tile t. -/
def State.stopsLeft : State := s.setTile t { s.tile t with stops := rs }

theorem State.stopsLeft_writes : s.writes (s.stopsLeft t rs) [.tiles] := State.setTile_writes

theorem State.stopsLeft_tile : (s.stopsLeft t rs).tile t = { s.tile t with stops := rs } := State.tile_setTile _ _ _

/-- s with the run of context c on tile t stopped at a cycle. -/
def State.runStopped (c n : Nat) : State :=
  ((s.interrupted t c n true).leave t c .halted).dropCatches t (fun k => decide (k.at_ = n)) 0x04

/-- s with context c, which does not run, halted, and a start of it given up. -/
def State.idleStopped (c : Nat) : State :=
  ((s.dropStart t c).setCtx c { (s.dropStart t c).ctx c with st := .halted }).gcSlots t

theorem State.runStopped_writes (c n : Nat) :
    s.writes (s.runStopped t c n) [.regs, .stores, .mem, .ctxs, .tiles, .evt, .grp, .cap, .mon, .mc] :=
  State.writes_of State.dropCatches_moves.1 (by decide) <| State.writes_of State.leave_moves.1 (by decide)
    (State.writes_mono State.interrupted_moves.1 (by decide))

theorem State.idleStopped_writes (c : Nat) : s.writes (s.idleStopped t c) [.ctxs, .tiles] :=
  State.writes_of State.gcSlots_moves.1 (by decide) <| State.writes_of State.setCtx_writes (by decide)
    State.dropStart_moves.1

theorem State.runStopped_st (c n : Nat) : ((s.runStopped t c n).ctx c).st = .halted := by
  have h := ((s.interrupted t c n true).leave_ctx t c .halted).eq
  rw [State.runStopped, State.dropCatches_ctx, h]

theorem State.runStopped_tile (c n : Nat) :
    ((s.runStopped t c n).tile t).running = none ∧ ((s.runStopped t c n).tile t).stops = (s.tile t).stops := by
  have h := (s.interrupted t c n true).leave_tile t c .halted
  have htile : (s.interrupted t c n true).tile t = s.tile t := State.tile_of_writes State.interrupted_moves.1 (by decide) t
  rw [htile] at h
  have hrun := congrArg TileSt.running h
  have hstops := congrArg TileSt.stops h
  rw [State.runStopped, State.dropCatches_tile]
  exact ⟨hrun, hstops⟩

theorem State.idleStopped_st (c : Nat) : ((s.idleStopped t c).ctx c).st = .halted := by
  have h := ((State.gcSlots_relands ((s.dropStart t c).setCtx c { (s.dropStart t c).ctx c with st := .halted }) t).ctx c).eq
  rw [State.ctx_setCtx] at h
  have hst := congrArg Ctx.st h
  exact hst

/-- A start given up leaves what tile t runs and what it is to stop. -/
theorem State.dropStart_keeps (c : Nat) :
    ((s.dropStart t c).tile t).running = (s.tile t).running ∧ ((s.dropStart t c).tile t).stops = (s.tile t).stops := by
  cases h : (s.tile t).start with
  | none => rw [State.dropStart, h]; exact ⟨rfl, rfl⟩
  | some q =>
    by_cases hq : q.c = c
    · subst hq
      have ht := s.dropStart_tile t h
      have hrun := congrArg TileSt.running ht
      have hstops := congrArg TileSt.stops ht
      exact ⟨hrun, hstops⟩
    · simp only [State.dropStart, h, if_neg hq, and_self]

theorem State.idleStopped_tile (c : Nat) :
    ((s.idleStopped t c).tile t).running = (s.tile t).running ∧ ((s.idleStopped t c).tile t).stops = (s.tile t).stops := by
  have h := (State.gcSlots_relands ((s.dropStart t c).setCtx c { (s.dropStart t c).ctx c with st := .halted }) t).tile
  rw [State.tile_of_writes State.setCtx_writes (by decide)] at h
  have hrun := congrArg TileSt.running h
  have hstops := congrArg TileSt.stops h
  obtain ⟨hr, hs⟩ := s.dropStart_keeps t c
  exact ⟨hrun.trans hr, hstops.trans hs⟩

variable {s r rs}

theorem exec_stopEffect {t : Tile} (hl : (s.tile t).stops = r :: rs) (hn : r.at_ ≤ s.now) (hh : (s.ctx r.c).holds = true) :
    exec (.stopEffect t) s = .next (if (s.tile t).running = some r.c then (s.stopsLeft t rs).runStopped t r.c r.at_
      else (s.stopsLeft t rs).idleStopped t r.c) := by
  have hholds : ((s.stopsLeft t rs).ctx r.c).holds = true := by
    rw [State.ctx_of_writes (s.stopsLeft_writes t rs) (by decide), hh]
  have hrun : ((s.stopsLeft t rs).tile t).running = (s.tile t).running := by rw [State.stopsLeft_tile]
  refine congrArg Host.Outcome.next ?_
  simp only [hl, if_neg (Nat.not_lt.mpr hn)]
  change (if (!((s.stopsLeft t rs).ctx r.c).holds) = true then s.stopsLeft t rs
    else if ((s.stopsLeft t rs).tile t).running = some r.c then (s.stopsLeft t rs).runStopped t r.c r.at_
    else (s.stopsLeft t rs).idleStopped t r.c) = _
  rw [hholds, hrun]
  rfl

end

/-! ## A STOP accepted (R87) -/

section
variable (s : State) (t c : Nat)

/-- s with a STOP of context c accepted on tile t, and a start of it given up. -/
def State.stopAccepted : State :=
  (s.dropStart t c).setTile t { (s.dropStart t c).tile t with
    stops := ((s.dropStart t c).tile t).stops ++ [⟨c, s.now + Config.L, true⟩] }

theorem State.stopAccepted_writes : s.writes (s.stopAccepted t c) [.ctxs, .tiles] :=
  State.writes_of State.setTile_writes (by decide) State.dropStart_moves.1

theorem State.stopAccepted_other {k : Nat} (hk : k ≠ t) : (s.stopAccepted t c).tile k = s.tile k :=
  (State.tile_setTile_other _ _ hk).trans (s.dropStart_other t c hk)

theorem State.stopAccepted_stops :
    ((s.stopAccepted t c).tile t).stops = (s.tile t).stops ++ [⟨c, s.now + Config.L, true⟩] := by
  rw [State.stopAccepted, State.tile_setTile, (s.dropStart_keeps t c).2]

variable {s t c}

theorem State.stopAccepted_start {r : StartReq} (h : (s.tile t).start = some r) (hc : r.c = c) :
    ((s.stopAccepted t c).tile t).start = none := by
  subst hc
  rw [State.stopAccepted, State.tile_setTile]
  exact congrArg TileSt.start (s.dropStart_tile t h)

/-- With no start of it pending, the STOP of a context is all that is noted. -/
theorem State.stopAccepted_of_none (h : ∀ r, (s.tile t).start = some r → r.c ≠ c) : s.stopAccepted t c =
    s.setTile t { s.tile t with stops := (s.tile t).stops ++ [⟨c, s.now + Config.L, true⟩] } := by
  have hdrop : s.dropStart t c = s := by
    cases hs : (s.tile t).start with
    | none => rw [State.dropStart, hs]
    | some r => simp only [State.dropStart, hs, if_neg (h r hs)]
  rw [State.stopAccepted, hdrop]

end

theorem exec_seqStop {s : State} {t : Tile} {tag : BitVec 8} {c : CtxNo} (h : s.seqTakes t c)
    (hh : (s.ctx c).holds = true) : exec (.seqStop t tag c 0) s = .next ((s.stopAccepted t c).seqTaken t tag) := by
  refine congrArg Host.Outcome.next (State.seqCmd_taken tag h ?_)
  simp only [hh, Bool.not_true, Bool.false_eq_true, if_false]
  rfl

theorem exec_seqPause {s : State} {t : Tile} {tag : BitVec 8} {c : CtxNo} {mode : BitVec 2} (h : s.seqTakes t c)
    (hst : (s.ctx c).st = .running) (hm : mode.toNat < 2) : exec (.seqPause t tag c mode) s =
      .next ((s.pauseReq t ⟨c, s.now + Config.L, decide (mode = 1)⟩).seqTaken t tag) := by
  have hcmd := State.seqCmd_taken (v := s.pauseReq t ⟨c, s.now + Config.L, decide (mode = 1)⟩) tag h (f := fun s =>
    if (s.ctx c).st ≠ .running then s.seqReport t tag.toNat .state
    else (s.pauseReq t ⟨c, s.now + Config.L, decide (mode = 1)⟩).seqReport t tag.toNat .ok) (if_neg (by simp [hst]))
  rw [← decide_eq_true hm] at hcmd
  exact congrArg Host.Outcome.next hcmd

/-- Settles O33: the requests by what a context command that is taken leaves, the effects by what leaving a context leaves. -/
theorem pausesAndStops : Obligations.PausesAndStops := by
  unfold Obligations.PausesAndStops
  refine fun s t => ⟨?_, ?_, ?_, ?_⟩
  · intro tag c mode h hst hm
    have hset : s.writes (s.pauseReq t ⟨c, s.now + Config.L, decide (mode = 1)⟩) [.tiles] := State.setTile_writes
    obtain ⟨-, hmc, htells⟩ := State.seqTaken_of_writes (t := t) (tag := tag) hset (by decide)
    have hrep := State.seqTaken_writes (s.pauseReq t ⟨c, s.now + Config.L, decide (mode = 1)⟩) t tag
    exact ⟨_, exec_seqPause h hst hm, State.writes_of hrep (by decide) (State.writes_mono hset (by decide)), hmc, htells,
      (State.tile_of_writes hrep (by decide) _).trans (State.tile_setTile _ _ _),
      fun k hk => (State.tile_of_writes hrep (by decide) _).trans (State.tile_setTile_other _ _ hk)⟩
  · intro r rs hl hn hr ht hcase
    obtain ⟨e, he⟩ : ∃ e, s.pauseCycle t r = some e := by
      cases hw : r.word with
      | true => exact ⟨_, State.pauseCycle_of_word hn hw⟩
      | false =>
        obtain ⟨hu, p, hp, hle⟩ := hcase.resolve_left (by simp [hw])
        exact ⟨_, State.pauseCycle_of_boundary hr hn hw hu hp hle⟩
    have hw := State.pausable_writes (s := s) (r := r) ht
    have hother := fun k (hk : k ≠ t.val) => State.pausable_other (s := s) (r := r) ht hk
    have hpauses := State.pausable_pauses (s := s) (r := r) ht
    have hf := exec_pauseEffect hl he hr
    generalize s.pausable t r = v at hw hother hpauses hf
    have htile := v.pauseAt_tile t r.c e false false
    have hctx := (v.pauseAt_ctx t r.c e false false).eq
    refine ⟨_, hf, ?_, ?_, ?_, ?_, fun k hk => ?_, ?_⟩
    · rw [State.dropCatches_ctx, hctx]
    · rw [State.dropCatches_tile]
      exact congrArg TileSt.running htile
    · rw [State.dropCatches_tile]
      exact congrArg TileSt.last htile
    · have hkept := (congrArg TileSt.pauses htile).trans hpauses
      rw [State.dropCatches_tile]
      refine hkept.trans ?_
      rw [hl, List.filter_cons_of_neg (by simp)]
    · rw [State.dropCatches_other _ _ _ _ hk, v.pauseAt_other t r.c e false false hk, hother k hk]
    · exact State.writes_of State.dropCatches_moves.1 (by decide) <| State.writes_of State.pauseAt_moves.1 (by decide)
        (State.writes_mono hw (by decide))
  · intro tag c h hh
    have hf := exec_seqStop (tag := tag) h hh
    have hw := s.stopAccepted_writes t c
    obtain ⟨hall, hmc, htells⟩ := State.seqTaken_of_writes (t := t) (tag := tag) hw (by decide)
    have htile : ∀ k, ((s.stopAccepted t c).seqTaken t tag).tile k = (s.stopAccepted t c).tile k :=
      State.tile_of_writes (State.seqTaken_writes _ t tag) (by decide)
    refine ⟨fun hs => ?_, fun r hr hc => ?_⟩
    · have hsame := State.stopAccepted_of_none hs
      have hset : s.writes (s.stopAccepted t c) [.tiles] := by rw [hsame]; exact State.setTile_writes
      refine ⟨_, hf, State.writes_of (State.seqTaken_writes _ t tag) (by decide) (State.writes_mono hset (by decide)), hmc,
        htells, ?_, fun k hk => (htile k).trans (s.stopAccepted_other t c hk)⟩
      rw [htile, hsame, State.tile_setTile]
    · exact ⟨_, hf, hall, htells, (congrArg TileSt.start (htile t)).trans (State.stopAccepted_start hr hc),
        (congrArg TileSt.stops (htile t)).trans (s.stopAccepted_stops t c),
        fun k hk => (htile k).trans (s.stopAccepted_other t c hk)⟩
  · intro r rs hl hn hh _
    have hf := exec_stopEffect hl hn hh
    have hw := s.stopsLeft_writes t rs
    have htile := s.stopsLeft_tile t rs
    generalize s.stopsLeft t rs = v at hf hw htile
    by_cases hr : (s.tile t).running = some r.c
    · rw [if_pos hr] at hf
      obtain ⟨hrun, hstops⟩ := v.runStopped_tile t r.c r.at_
      exact ⟨_, hf, v.runStopped_st t r.c r.at_, hstops.trans (congrArg TileSt.stops htile), fun _ => hrun,
        fun h => absurd hr h, State.writes_of (v.runStopped_writes t r.c r.at_) (by decide) (State.writes_mono hw (by decide))⟩
    · rw [if_neg hr] at hf
      obtain ⟨hrun, hstops⟩ := v.idleStopped_tile t r.c
      have hkept := congrArg TileSt.running htile
      exact ⟨_, hf, v.idleStopped_st t r.c, hstops.trans (congrArg TileSt.stops htile), fun h => absurd h hr,
        fun _ => hrun.trans hkept, State.writes_of (v.idleStopped_writes t r.c) (by decide)
          (State.writes_mono hw (by decide))⟩

end Sys2Proof.Machine
end

/-! # An enabled slipway entry written while its slipway is not LIVE (R119, R121) -/

section
namespace Sys2Proof.Machine

/-- A state in which slipway entry 0 is enabled, has been below its LOW mark, and names a handle that is not live: the handle
was freed after the mark was reached. -/
def lowAndFreed : State := { State.reset.put (Reg.SLW_HANDLE_EN 0) 1 with lows := [0] }

theorem lowAndFreed_slipLive : lowAndFreed.slipLive 0 = false := by decide

/-- Only an entry that comes to be enabled is tested afresh, and entry 0 is enabled already. -/
theorem lowAndFreed_lows : (match exec (.slipwayTableWrite 0 0x00 0) lowAndFreed with
    | .next u => u.lows
    | _ => []) = [0] := by decide

/-- Refutes O34: a write of HANDLE and EN to an entry that is enabled already, its slipway not LIVE, leaves the entry noted as
below its LOW mark, where the statement has every such write end that. -/
theorem not_theTablesAreGuarded : ¬ Obligations.TheTablesAreGuarded := by
  unfold Obligations.TheTablesAreGuarded
  rintro ⟨-, hslip⟩
  obtain ⟨-, -, hhandle, -⟩ := hslip lowAndFreed 0 0
  obtain ⟨u, hu, -, -, hlows⟩ := hhandle lowAndFreed_slipLive
  have h := lowAndFreed_lows
  rw [hu] at h
  have hmem : 0 ∈ u.lows := by simp [show u.lows = [0] from h]
  exact ((hlows 0).mp hmem).2 rfl

end Sys2Proof.Machine
end

/-! # A catch that commits takes its arm's action (R107 to R113) -/

section
namespace Sys2Proof.Machine

/-! ## The event log (R99) -/

/-- A log entry writes LOG_WRAP and EVT_LOG only. -/
theorem State.logWrite_get_apart (s : State) (e : LogEnt) {f : Fld} (hs : f.apart Reg.EVT_STATUS_LOG_WRAP)
    (hl : f.apart Reg.EVT_LOG_WR) : (s.logWrite e).get f = s.get f := by
  have hevt : ∀ (u : State) x, ({ u with evt := x } : State).get f = u.get f := fun u x => State.get_congr rfl f
  unfold State.logWrite
  split
  · dsimp only
    rw [State.get_put_of_apart _ _ (by decide) hl, hevt]
    split
    · exact State.get_put_of_apart _ _ (by decide) hs
    · rfl
  · rfl

theorem State.logWrite_get (s : State) (e : LogEnt) {f : Fld} (hs : f.addr ≠ 0x040004) (hl : f.addr ≠ 0x040014) :
    (s.logWrite e).get f = s.get f :=
  s.logWrite_get_apart e (.inl hs) (.inl hl)

/-! ## The one catch of a tile settled (R108) -/

/-- v is s with the catches of tile t settled. -/
structure State.Settled (s v : State) (t : Nat) : Prop where
  writes : s.writes v [.tiles, .mon]
  tile : v.tile t = { s.tile t with catches := [] }
  other : ∀ j, j ≠ t → v.tile j = s.tile j

section
variable {s v : State} {t : Nat} {k : Catch} (h : (s.tile t).catches = [k])
include h

theorem State.catchesNow_of_one : s.catchesNow t = some (k.at_, [k]) := by
  simp [State.catchesNow, h, firstAt]

variable (hn : k.at_ ≤ s.now)
include hn

theorem State.settle_of_one (hd : s.dropReason t k = none) :
    ∃ v, s.settle t ((s.ctx k.c).arm k.k).act = (v, some k) ∧ s.Settled v t := by
  have hwin : s.winner t [k] = some k := by simp [State.winner, hd, lowestEvt]
  have hstale : s.dropStale t [k] = s := by simp [State.dropStale, forEach, hd]
  have hdrop := (s.setTile t { s.tile t with catches := [] }).dropCatches_tile t (fun j => decide (j.at_ = k.at_)) 0x01
  rw [State.tile_setTile] at hdrop
  refine ⟨(((s.setTile t { s.tile t with catches := [] }).dropCatches t (fun j => decide (j.at_ = k.at_)) 0x01).monMark
    (0x220 + 4 * t)), ?_, ?_, ?_, fun j hj => ?_⟩
  · unfold State.settle
    rw [State.catchesNow_of_one h]
    dsimp only
    rw [if_neg (Nat.not_lt.mpr hn), hwin]
    dsimp only
    rw [if_pos rfl, hstale, h]
    simp
  · have hnone : (s.setTile t { s.tile t with catches := [] }).dropCatches t (fun j => decide (j.at_ = k.at_)) 0x01 =
        (s.setTile t { s.tile t with catches := [] }).setTile t { s.tile t with catches := [] } := by
      rw [State.dropCatches, State.tile_setTile]
      rfl
    rw [hnone]
    exact State.writes_of State.monMark_moves.1 (by decide) <| State.writes_of State.setTile_writes (by decide)
      (State.writes_mono State.setTile_writes (by decide))
  · rw [State.tile_of_writes State.monMark_moves.1 (by decide), hdrop]
    rfl
  · rw [State.tile_of_writes State.monMark_moves.1 (by decide), State.dropCatches_other _ _ _ _ hj,
      State.tile_setTile_other _ _ hj]

end

/-! ## A record fired (R106, R109) -/

/-- Record k of y is record k of x fired: counted, and in force no more unless it persists. -/
def Ctx.FiresTo (x y : Ctx) (k : Nat) : Prop :=
  (y.arm k).fired = satAdd32 (x.arm k).fired 1 ∧ (y.arm k).valid = (x.arm k).persist

theorem Ctx.FiresTo.of_slots {x y w z : Ctx} {k : Nat} (h : x.FiresTo y k) (hs : w.slotsOnly z)
    (e : w.arms = y.arms) : x.FiresTo z k := by
  have hf := congrArg ArmRec.fired (hs.2 k)
  have hv := congrArg ArmRec.valid (hs.2 k)
  have he : w.arm k = y.arm k := by rw [Ctx.arm, e]; rfl
  rw [he] at hf hv
  exact ⟨hf.trans h.1, hv.trans h.2⟩

theorem Ctx.FiresTo.from_slots {x w y z : Ctx} {k : Nat} (h : y.FiresTo z k) (hs : w.slotsOnly y)
    (e : w.arms = x.arms) : x.FiresTo z k := by
  have hf := congrArg ArmRec.fired (hs.2 k)
  have hp := congrArg ArmRec.persist (hs.2 k)
  have he : w.arm k = x.arm k := by rw [Ctx.arm, e]; rfl
  rw [he] at hf hp
  exact ⟨h.1.trans (congrArg (satAdd32 · 1) hf), h.2.trans hp⟩

/-- A record that persists stays as it is but for the count; it is valid, as a catch of it commits. -/
theorem ArmRec.fired_fields (a : ArmRec) (hv : a.valid = true) :
    (if a.persist then { a with fired := satAdd32 a.fired 1 } else { a with fired := satAdd32 a.fired 1 }.cleared).fired =
      satAdd32 a.fired 1 ∧
    (if a.persist then { a with fired := satAdd32 a.fired 1 } else { a with fired := satAdd32 a.fired 1 }.cleared).valid =
      a.persist := by
  cases hp : a.persist with
  | true => exact ⟨rfl, hv⟩
  | false => exact ⟨rfl, rfl⟩

theorem State.valid_of_dropReason {s : State} {t : Nat} {k : Catch} (hd : s.dropReason t k = none) :
    ((s.ctx k.c).arm k.k).valid = true ∧ (s.tile t).running = some k.c := by
  unfold State.dropReason at hd
  dsimp only at hd
  split at hd
  · exact absurd hd (by simp)
  · next h1 =>
    split at hd
    · exact absurd hd (by simp)
    · next h2 => exact ⟨(by simpa using h1 : _ ∧ ((s.ctx k.c).arm k.k).gen = k.gen).1, not_not.mp h2⟩

section
variable {s : State} {k : Catch}

theorem State.fire_ctx : (s.fire k).ctx k.c = (s.ctx k.c).setArm k.k
    (if ((s.ctx k.c).arm k.k).persist then { (s.ctx k.c).arm k.k with fired := satAdd32 ((s.ctx k.c).arm k.k).fired 1 }
     else { (s.ctx k.c).arm k.k with fired := satAdd32 ((s.ctx k.c).arm k.k).fired 1 }.cleared) :=
  State.ctx_setCtx _ _ _

theorem State.fire_other {d : Nat} (hd : d ≠ k.c) : (s.fire k).ctx d = s.ctx d := State.ctx_setCtx_other _ _ hd

theorem State.fire_fires (hv : ((s.ctx k.c).arm k.k).valid = true) : (s.ctx k.c).FiresTo ((s.fire k).ctx k.c) k.k := by
  rw [State.fire_ctx]
  simp only [Ctx.FiresTo, Ctx.arm, Ctx.setArm, mget_mset_same]
  exact ArmRec.fired_fields _ hv

theorem State.fire_writes : s.writes (s.fire k) [.ctxs] := State.fire_moves.1

end

/-- f is s with the one catch k of tile t settled and its record fired. -/
structure State.Fired (s f : State) (t : Nat) (k : Catch) : Prop where
  writes : s.writes f [.regs, .stores, .evt, .ctxs, .tiles, .mon]
  fires : (s.ctx k.c).FiresTo (f.ctx k.c) k.k
  ctx : f.ctx k.c = { s.ctx k.c with arms := (f.ctx k.c).arms }
  tile : f.tile t = { s.tile t with catches := [] }
  other : ∀ j, j ≠ t → f.tile j = s.tile j

/-- What a commit does before it fires its record touches neither the contexts nor the tiles. -/
theorem State.Settled.fired {s v w : State} {t : Nat} {k : Catch} (hv : s.Settled v t) (hd : s.dropReason t k = none)
    (hw : v.writes w [.regs, .stores]) : s.Fired (w.fire k) t k := by
  have hctx : w.ctx k.c = s.ctx k.c :=
    (State.ctx_of_writes hw (by decide) k.c).trans (State.ctx_of_writes hv.writes (by decide) k.c)
  have htile : ∀ j, (w.fire k).tile j = v.tile j := fun j =>
    (State.tile_of_writes State.fire_writes (by decide) j).trans (State.tile_of_writes hw (by decide) j)
  have hfires := State.fire_fires (s := w) (k := k) (by rw [hctx]; exact (State.valid_of_dropReason hd).1)
  rw [hctx] at hfires
  refine ⟨State.writes_of State.fire_writes (by decide) <| State.writes_of hw (by decide)
    (State.writes_mono hv.writes (by decide)), hfires, ?_, (htile t).trans hv.tile, fun j hj => (htile j).trans (hv.other j hj)⟩
  rw [State.fire_ctx, hctx]
  rfl

/-! ## The dead time (R112) -/

/-- Tile t of u bridges a commit of context d at cycle n: context c runs on it, from D later. -/
def State.bridges (u : State) (t c n d : Nat) : Prop :=
  (u.tile t).catches = [] ∧ (u.tile t).running = some c ∧
  (u.tile t).item = .dead (n + Config.D) d ∧ (u.tile t).nextPos = (n + Config.D) * Config.fine

section
variable {s u v : State} {t c n d : Nat}

theorem State.bridges.of_tile (h : u.bridges t c n d) (e : (v.tile t).slotless = (u.tile t).slotless) : v.bridges t c n d := by
  have he := TileSt.eq_of_slotless e
  rw [State.bridges, he]
  exact h

theorem State.startDead_writes (ht : t < 8) (c n : Nat) (slot : Option Nat) : s.writes (s.startDead t c n slot) [.tiles] := by
  rw [State.startDead, State.cutVec_of_wave s ht]
  exact State.setTile_writes

theorem State.startDead_tile (ht : t < 8) (c n : Nat) (slot : Option Nat) :
    ((s.startDead t c n slot).tile t).catches = (s.tile t).catches ∧
    ((s.startDead t c n slot).tile t).running = (s.tile t).running ∧
    ((s.startDead t c n slot).tile t).last = (s.tile t).last ∧
    ((s.startDead t c n slot).tile t).item = .dead (n + Config.D) c ∧
    ((s.startDead t c n slot).tile t).nextPos = (n + Config.D) * Config.fine := by
  rw [State.startDead, State.cutVec_of_wave s ht, State.tile_setTile]
  exact ⟨rfl, rfl, rfl, rfl, rfl⟩

theorem State.startDead_bridges (ht : t < 8) (hk : (s.tile t).catches = []) (hr : (s.tile t).running = some c) (n d : Nat)
    (slot : Option Nat) : (s.startDead t d n slot).bridges t c n d := by
  obtain ⟨hcatch, hrun, -, hitem, hpos⟩ := State.startDead_tile (s := s) ht d n slot
  exact ⟨hcatch.trans hk, hrun.trans hr, hitem, hpos⟩

end

/-! ## Where a commit leads (R109, R111) -/

section
variable {s : State} {t c : Nat}

/-- The address at an offset of the segment that a handle names. -/
def State.aim (s : State) (h off : Nat) : Addr :=
  let sid := match s.seg h with
    | some g => g.sid
    | none => 0
  ⟨h, sid, off⟩

theorem State.aim_of_seg {h : Nat} {g : Seg} (hs : s.seg h = some g) (off : Nat) : s.aim h off = ⟨h, g.sid, off⟩ := by
  rw [State.aim, hs]

/-- s with context c at the target of a commit on tile t, and the slots that no arm refers to released. -/
def State.landAt (s : State) (t c : Nat) (a : Addr) : State := (s.setPc c a).gcSlots t

theorem State.landAt_ctx (a : Addr) : Ctx.slotsOnly { s.ctx c with pc := a, pos := .fresh } ((s.landAt t c a).ctx c) := by
  have hreland := (State.gcSlots_relands (s.setPc c a) t).ctx c
  rw [State.setPc, State.ctx_setCtx] at hreland
  exact hreland

theorem State.landAt_tile (a : Addr) : ((s.landAt t c a).tile t).slotless = (s.tile t).slotless := by
  rw [State.landAt, (State.gcSlots_relands _ t).tile, State.setPc, State.tile_of_writes State.setCtx_writes (by decide)]

end

/-- The entry that a CALL pushes for the context c that runs on tile t, interrupted at cycle n (R111). -/
def State.callEntry (s : State) (t c n : Nat) (rewind : Bool) : CallEnt :=
  ⟨(s.resumePoint t c n rewind).1, (s.resumePoint t c n rewind).2, (s.ctx c).loops.length⟩

section
variable {s : State} {t c n : Nat} {rewind : Bool}

/-- Between two timed items a context resumes where its PC stands. -/
theorem State.callEntry_of_idle (hitem : (s.tile t).item = .idle) (hu : (s.tile t).micro.upc = none) :
    (s.callEntry t c n rewind).ret = (s.ctx c).pc ∧ (s.callEntry t c n rewind).pos = (s.ctx c).pos := by
  simp [State.callEntry, State.resumePoint, hitem, hu]

/-- A WAIT in progress is waited for again. -/
theorem State.callEntry_of_wait {m since : Nat} {rel : Option Nat} (hitem : (s.tile t).item = .wait m since rel)
    (hu : (s.tile t).micro.upc = none) :
    (s.callEntry t c n rewind).ret = (s.ctx c).pc.prev ∧ (s.callEntry t c n rewind).pos = .fresh := by
  simp [State.callEntry, State.resumePoint, hitem, hu]

/-- s with the entry of a CALL pushed. -/
def State.callPushed (s : State) (t c n : Nat) (rewind : Bool) : State :=
  (s.interrupted t c n false).setCtx c { s.ctx c with calls := s.callEntry t c n rewind :: (s.ctx c).calls }

theorem State.callPushed_writes : s.writes (s.callPushed t c n rewind) [.regs, .ctxs] :=
  State.writes_of State.setCtx_writes (by decide) (State.writes_mono State.interrupted_moves.1 (by decide))

theorem State.callPushed_ctx : (s.callPushed t c n rewind).ctx c =
    { s.ctx c with calls := s.callEntry t c n rewind :: (s.ctx c).calls } :=
  State.ctx_setCtx _ _ _

theorem State.commitCallTo_eq (h off : Nat) (slot : Option Nat) : s.commitCallTo t c n rewind h off slot =
    ((s.callPushed t c n rewind).startDead t c n slot).landAt t c ((s.callPushed t c n rewind).aim h off) := rfl

end

/-! ## The hand-over of a SWITCH (R111) -/

section
variable (s : State) (t : Nat)

/-- s with context c running on tile t from the bridge of a SWITCH on. -/
def State.handTo (s : State) (t c : Nat) : State :=
  let s1 := s.setCtx c { s.ctx c with st := .running, played := [] }
  s1.setTile t { s1.tile t with running := some c, ran := true }

variable (c : Nat)

theorem State.handTo_tile : (s.handTo t c).tile t = { s.tile t with running := some c, ran := true } := by
  rw [State.handTo, State.tile_setTile, State.tile_of_writes State.setCtx_writes (by decide)]

theorem State.handTo_st : ((s.handTo t c).ctx c).st = .running := by
  rw [State.handTo, State.ctx_of_writes State.setTile_writes (by decide), State.ctx_setCtx]

variable {c}

theorem State.handTo_ctx_other {d : Nat} (hd : d ≠ c) : (s.handTo t c).ctx d = s.ctx d := by
  rw [State.handTo, State.ctx_of_writes State.setTile_writes (by decide), State.ctx_setCtx_other _ _ hd]

end

/-! ## The path resolved again after a COUNT (R63) -/

section
variable (s : State) (t c : Nat)

variable {s t c} in
theorem State.reresolve_of_none (h : (s.tile t).ahead = none) : s.reresolve t c = s := by
  rw [State.reresolve, h]

theorem State.setAhead_other (a : Option Ahead) {j : Nat} (hj : j ≠ t) : (s.setAhead t a).tile j = s.tile j :=
  State.tile_setTile_other _ _ hj

theorem State.reresolve_tile : ((s.reresolve t c).tile t).catches = (s.tile t).catches ∧
    ((s.reresolve t c).tile t).item = (s.tile t).item ∧ ((s.reresolve t c).tile t).nextPos = (s.tile t).nextPos ∧
    ((s.reresolve t c).tile t).running = (s.tile t).running := by
  unfold State.reresolve
  split
  · exact ⟨rfl, rfl, rfl, rfl⟩
  · dsimp only
    split
    · rw [State.setAhead, State.tile_setTile]
      exact ⟨rfl, rfl, rfl, rfl⟩
    · rw [TileSt.eq_of_slotless (State.gcSlots_relands _ t).tile, State.tile_setTile]
      exact ⟨rfl, rfl, rfl, rfl⟩

theorem State.reresolve_other {j : Nat} (hj : j ≠ t) : (s.reresolve t c).tile j = s.tile j := by
  unfold State.reresolve
  split
  · rfl
  · dsimp only
    split
    · exact s.setAhead_other t _ hj
    · rw [(State.gcSlots_relands _ t).other j hj, State.tile_setTile_other _ _ hj]

theorem State.reresolve_ctx (d : Nat) : (s.ctx d).slotsOnly ((s.reresolve t c).ctx d) := by
  have hgc : ∀ x : TileSt, (s.ctx d).slotsOnly (((s.setTile t x).gcSlots t).ctx d) := fun x => by
    have h := (State.gcSlots_relands (s.setTile t x) t).ctx d
    rwa [State.ctx_of_writes State.setTile_writes (by decide)] at h
  unfold State.reresolve
  split
  · exact .refl _
  · dsimp only
    split
    · rw [State.ctx_of_writes State.setAhead_moves.1 (by decide)]
      exact .refl _
    · exact hgc _

end

section
variable {s : State} {t : Tile} {k : Catch} (ht : t.val < 8) (hk : (s.tile t).catches = [k]) (hn : k.at_ ≤ s.now)
  (hd : s.dropReason t k = none)
include ht hk hn hd

/-- A GOTO leads its context to the target, its stacks as they were. -/
theorem commitGoto_goes (hact : ((s.ctx k.c).arm k.k).act = .goto) {g : Seg}
    (hg : s.seg ((s.ctx k.c).arm k.k).h = some g) : Answers (.commitGoto t) s fun u =>
      u.bridges t k.c k.at_ k.c ∧ (s.ctx k.c).FiresTo (u.ctx k.c) k.k ∧
      (u.ctx k.c).pc = ⟨((s.ctx k.c).arm k.k).h, g.sid, ((s.ctx k.c).arm k.k).off⟩ ∧ (u.ctx k.c).pos = .fresh ∧
      (u.ctx k.c).calls = (s.ctx k.c).calls ∧ (u.ctx k.c).loops = (s.ctx k.c).loops := by
  obtain ⟨v, hsettle, hv⟩ := State.settle_of_one hk hn hd
  rw [hact] at hsettle
  have hgone : v.writes ((v.interrupted t k.c k.at_ true).consumeBlock t k.at_) [.regs, .stores] :=
    State.writes_of State.consumeBlock_moves.1 (by decide) (State.writes_mono State.interrupted_moves.1 (by decide))
  have hf : exec (.commitGoto t) s = .next (
      let f := ((v.interrupted t k.c k.at_ true).consumeBlock t k.at_).fire k
      let d := f.startDead t k.c k.at_ ((s.ctx k.c).arm k.k).slot
      d.landAt t k.c (d.aim ((s.ctx k.c).arm k.k).h ((s.ctx k.c).arm k.k).off)) := by
    refine congrArg Host.Outcome.next ?_
    rw [hsettle]
    dsimp only
    rw [State.ctx_of_writes hv.writes (by decide) k.c]
    rfl
  have hfired := hv.fired hd hgone
  dsimp only at hf
  generalize (((v.interrupted t k.c k.at_ true).consumeBlock t k.at_).fire k) = f at hf hfired
  have hbr := State.startDead_bridges (s := f) ht (by rw [hfired.tile])
    (by rw [hfired.tile]; exact (State.valid_of_dropReason hd).2) k.at_ k.c ((s.ctx k.c).arm k.k).slot
  have hdw := State.startDead_writes (s := f) ht k.c k.at_ ((s.ctx k.c).arm k.k).slot
  generalize f.startDead t k.c k.at_ ((s.ctx k.c).arm k.k).slot = d at hf hbr hdw
  have hseg : d.seg ((s.ctx k.c).arm k.k).h = some g :=
    (State.seg_of_writes hdw (by decide) _).trans ((State.seg_of_writes hfired.writes (by decide) _).trans hg)
  rw [State.aim_of_seg hseg] at hf
  have hland := d.landAt_ctx (t := t) (c := k.c) ⟨((s.ctx k.c).arm k.k).h, g.sid, ((s.ctx k.c).arm k.k).off⟩
  rw [State.ctx_of_writes hdw (by decide)] at hland
  have hcalls := congrArg Ctx.calls hfired.ctx
  have hloops := congrArg Ctx.loops hfired.ctx
  refine ⟨_, hf, hbr.of_tile (State.landAt_tile _), hfired.fires.of_slots hland rfl, ?_, ?_, ?_, ?_⟩
  all_goals rw [hland.eq]
  · exact hcalls
  · exact hloops

/-- A CALL leads its context to the target, with an entry pushed for where it was interrupted. -/
theorem commitCall_calls (hact : ((s.ctx k.c).arm k.k).act = .call) (hroom : (s.ctx k.c).calls.length < 16) {g : Seg}
    (hg : s.seg ((s.ctx k.c).arm k.k).h = some g) : Answers (.commitCall t) s fun u =>
      u.bridges t k.c k.at_ k.c ∧ (s.ctx k.c).FiresTo (u.ctx k.c) k.k ∧
      (u.ctx k.c).pc = ⟨((s.ctx k.c).arm k.k).h, g.sid, ((s.ctx k.c).arm k.k).off⟩ ∧ (u.ctx k.c).pos = .fresh ∧
      (u.ctx k.c).loops = (s.ctx k.c).loops ∧
      ∃ e : CallEnt, (u.ctx k.c).calls = e :: (s.ctx k.c).calls ∧ e.depth = (s.ctx k.c).loops.length ∧
        ((s.tile t).item = .idle → (s.tile t).micro.upc = none → e.ret = (s.ctx k.c).pc ∧ e.pos = (s.ctx k.c).pos) ∧
        (∀ n since rel, (s.tile t).item = .wait n since rel → (s.tile t).micro.upc = none →
          e.ret = (s.ctx k.c).pc.prev ∧ e.pos = .fresh) := by
  obtain ⟨v, hsettle, hv⟩ := State.settle_of_one hk hn hd
  rw [hact] at hsettle
  have hfired := hv.fired hd State.writes_refl
  have hf : exec (.commitCall t) s = .next ((v.fire k).commitCallTo t k.c k.at_ ((s.ctx k.c).arm k.k).rewind
      ((s.ctx k.c).arm k.k).h ((s.ctx k.c).arm k.k).off ((s.ctx k.c).arm k.k).slot) := by
    refine congrArg Host.Outcome.next ?_
    rw [hsettle]
    dsimp only
    rw [State.ctx_of_writes hv.writes (by decide) k.c, if_neg (Nat.not_le.mpr hroom)]
  rw [State.commitCallTo_eq] at hf
  generalize v.fire k = f at hf hfired
  have hpw := f.callPushed_writes (t := t) (c := k.c) (n := k.at_) (rewind := ((s.ctx k.c).arm k.k).rewind)
  have hpctx := f.callPushed_ctx (t := t) (c := k.c) (n := k.at_) (rewind := ((s.ctx k.c).arm k.k).rewind)
  generalize f.callPushed t k.c k.at_ ((s.ctx k.c).arm k.k).rewind = p at hf hpw hpctx
  have hptile : p.tile t = { s.tile t with catches := [] } := (State.tile_of_writes hpw (by decide) _).trans hfired.tile
  have hbr := State.startDead_bridges (s := p) ht (by rw [hptile])
    (by rw [hptile]; exact (State.valid_of_dropReason hd).2) k.at_ k.c ((s.ctx k.c).arm k.k).slot
  have hdw := State.startDead_writes (s := p) ht k.c k.at_ ((s.ctx k.c).arm k.k).slot
  generalize p.startDead t k.c k.at_ ((s.ctx k.c).arm k.k).slot = d at hf hbr hdw
  have hseg : p.seg ((s.ctx k.c).arm k.k).h = some g :=
    (State.seg_of_writes hpw (by decide) _).trans ((State.seg_of_writes hfired.writes (by decide) _).trans hg)
  rw [State.aim_of_seg hseg] at hf
  have hland := d.landAt_ctx (t := t) (c := k.c) ⟨((s.ctx k.c).arm k.k).h, g.sid, ((s.ctx k.c).arm k.k).off⟩
  rw [State.ctx_of_writes hdw (by decide), hpctx] at hland
  have hcalls := congrArg Ctx.calls hfired.ctx
  have hloops := congrArg Ctx.loops hfired.ctx
  have hpc := congrArg Ctx.pc hfired.ctx
  have hpos := congrArg Ctx.pos hfired.ctx
  have hitem := congrArg TileSt.item hfired.tile
  have hupc := congrArg (fun x => x.micro.upc) hfired.tile
  refine ⟨_, hf, hbr.of_tile (State.landAt_tile _), hfired.fires.of_slots hland rfl, ?_, ?_, ?_,
    f.callEntry t k.c k.at_ ((s.ctx k.c).arm k.k).rewind, ?_, congrArg List.length hloops, fun hi hu => ?_,
    fun n since rel hi hu => ?_⟩
  · rw [hland.eq]
  · rw [hland.eq]
  · rw [hland.eq]; exact hloops
  · rw [hland.eq]; exact congrArg (List.cons _) hcalls
  · obtain ⟨h1, h2⟩ := f.callEntry_of_idle (c := k.c) (n := k.at_) (rewind := ((s.ctx k.c).arm k.k).rewind)
      (hitem.trans hi) (hupc.trans hu)
    exact ⟨h1.trans hpc, h2.trans hpos⟩
  · obtain ⟨h1, h2⟩ := f.callEntry_of_wait (c := k.c) (n := k.at_) (rewind := ((s.ctx k.c).arm k.k).rewind)
      (hitem.trans hi) (hupc.trans hu)
    exact ⟨h1.trans (congrArg Addr.prev hpc), h2⟩

/-- With 16 entries present a CALL faults its context. -/
theorem commitCall_faults (hact : ((s.ctx k.c).arm k.k).act = .call) (hfull : 16 ≤ (s.ctx k.c).calls.length) :
    Answers (.commitCall t) s fun u =>
      u.faulted t k.c .callOvf .range ∧ (s.underrunAt t = none → u.faultRegs t k.c .callOvf .range) := by
  obtain ⟨v, hsettle, hv⟩ := State.settle_of_one hk hn hd
  rw [hact] at hsettle
  have hf : exec (.commitCall t) s = .next (((v.fire k).logLoss t k 0x07).faultCtx t k.c .callOvf .range) := by
    refine congrArg Host.Outcome.next ?_
    rw [hsettle]
    dsimp only
    rw [State.ctx_of_writes hv.writes (by decide) k.c, if_pos hfull]
  refine ⟨_, hf, State.faultCtx_faulted _ k.c .callOvf .range t, fun hu =>
    State.faultCtx_regs _ k.c .callOvf .range t ht (Eq.trans ?_ hu)⟩
  have hlog : (v.fire k).writes ((v.fire k).logLoss t k 0x07) [.regs, .evt] := State.logLoss_moves.1
  have hw : s.writes ((v.fire k).logLoss t k 0x07) [.regs, .evt, .ctxs, .tiles, .mon] :=
    State.writes_of hlog (by decide) <| State.writes_of State.fire_writes (by decide) (State.writes_mono hv.writes (by decide))
  refine State.underrunAt_of_item hw ?_ (by decide) fun i => ?_
  · rw [State.tile_of_writes hlog (by decide), (hv.fired hd State.writes_refl).tile]
  · have hget := State.get_of_writes (State.writes_of State.fire_writes (by decide)
      (State.writes_mono hv.writes (by decide)) : s.writes (v.fire k) [.ctxs, .tiles, .mon]) (by decide) (Reg.SLW_BLOCK i)
    exact (State.logWrite_get _ _ (by simp only [Reg.SLW_BLOCK]; omega) (by simp only [Reg.SLW_BLOCK]; omega)).trans hget

/-- A SWITCH pauses its context and runs the arm's target. -/
theorem commitSwitch_switches (hact : ((s.ctx k.c).arm k.k).act = .switch) (hne : ((s.ctx k.c).arm k.k).off ≠ k.c) :
    Answers (.commitSwitch t) s fun u =>
      u.bridges t ((s.ctx k.c).arm k.k).off k.at_ k.c ∧ (s.ctx k.c).FiresTo (u.ctx k.c) k.k ∧ (u.tile t).last = some k.c ∧
      (u.ctx ((s.ctx k.c).arm k.k).off).st = .running ∧ (u.ctx k.c).st = .paused := by
  obtain ⟨v, hsettle, hv⟩ := State.settle_of_one hk hn hd
  rw [hact] at hsettle
  have hvctx : v.ctx k.c = s.ctx k.c := State.ctx_of_writes hv.writes (by decide) k.c
  have hf : exec (.commitSwitch t) s = .next (((v.pauseAt t k.c k.at_ ((s.ctx k.c).arm k.k).rewind true).startDead t k.c k.at_
      ((s.ctx k.c).arm k.k).slot |>.handTo t ((s.ctx k.c).arm k.k).off).fire k |>.gcSlots t) := by
    refine congrArg Host.Outcome.next ?_
    rw [hsettle]
    dsimp only
    rw [hvctx]
    rfl
  have hpctx := v.pauseAt_ctx t k.c k.at_ ((s.ctx k.c).arm k.k).rewind true
  have hptile := v.pauseAt_tile t k.c k.at_ ((s.ctx k.c).arm k.k).rewind true
  generalize v.pauseAt t k.c k.at_ ((s.ctx k.c).arm k.k).rewind true = p at hf hpctx hptile
  rw [hvctx] at hpctx
  rw [hv.tile] at hptile
  obtain ⟨hcatch, -, hlast, hitem, hpos⟩ := State.startDead_tile (s := p) ht k.c k.at_ ((s.ctx k.c).arm k.k).slot
  have hdw := State.startDead_writes (s := p) ht k.c k.at_ ((s.ctx k.c).arm k.k).slot
  generalize p.startDead t k.c k.at_ ((s.ctx k.c).arm k.k).slot = d at hf hcatch hlast hitem hpos hdw
  have hhtile := d.handTo_tile t ((s.ctx k.c).arm k.k).off
  have hhctx := (d.handTo_ctx_other t hne.symm).trans (State.ctx_of_writes hdw (by decide) k.c)
  have hhrun := d.handTo_st t ((s.ctx k.c).arm k.k).off
  generalize d.handTo t ((s.ctx k.c).arm k.k).off = h at hf hhtile hhctx hhrun
  have hvalid : ((h.ctx k.c).arm k.k).valid = true := by
    rw [hhctx]
    exact (congrArg ArmRec.valid (hpctx.2 k.k)).trans (State.valid_of_dropReason hd).1
  have hfires := State.fire_fires hvalid
  have hfst := congrArg Ctx.st (State.fire_ctx (s := h) (k := k))
  rw [hhctx] at hfires
  have hreland := State.gcSlots_relands (h.fire k) t
  have hst := congrArg Ctx.st (hreland.ctx k.c).eq
  have hst' := congrArg Ctx.st (hreland.ctx ((s.ctx k.c).arm k.k).off).eq
  rw [State.fire_other hne] at hst'
  have hpst := congrArg Ctx.st hpctx.eq
  have htile := hreland.tile
  rw [State.tile_of_writes State.fire_writes (by decide), hhtile] at htile
  refine ⟨_, hf, ?_, (hfires.from_slots hpctx rfl).of_slots (hreland.ctx k.c) rfl, ?_, hst'.trans hhrun,
    hst.trans (hfst.trans ((congrArg Ctx.st hhctx).trans hpst))⟩
  · exact State.bridges.of_tile (u := d.setTile t { d.tile t with running := some ((s.ctx k.c).arm k.k).off, ran := true })
      (by rw [State.bridges, State.tile_setTile]; exact ⟨hcatch.trans (congrArg TileSt.catches hptile), rfl, hitem, hpos⟩)
      (by rw [State.tile_setTile]; exact htile)
  · have hl := congrArg TileSt.last htile
    exact hl.trans (hlast.trans (congrArg TileSt.last hptile))

omit ht in
/-- A STOP halts its context. -/
theorem commitStop_stops (hact : ((s.ctx k.c).arm k.k).act = .stop) : Answers (.commitStop t) s fun u =>
    (s.ctx k.c).FiresTo (u.ctx k.c) k.k ∧ (u.tile t).catches = [] ∧ (u.tile t).running = none ∧ (u.tile t).item = .idle ∧
    (u.ctx k.c).st = .halted := by
  obtain ⟨v, hsettle, hv⟩ := State.settle_of_one hk hn hd
  rw [hact] at hsettle
  have hgone : v.writes ((v.interrupted t k.c k.at_ true).consumeBlock t k.at_) [.regs, .stores] :=
    State.writes_of State.consumeBlock_moves.1 (by decide) (State.writes_mono State.interrupted_moves.1 (by decide))
  have hf : exec (.commitStop t) s = .next
      ((((v.interrupted t k.c k.at_ true).consumeBlock t k.at_).fire k).leave t k.c .halted) := by
    refine congrArg Host.Outcome.next ?_
    rw [hsettle]
  have hfired := hv.fired hd hgone
  generalize (((v.interrupted t k.c k.at_ true).consumeBlock t k.at_).fire k) = f at hf hfired
  have htile := f.leave_tile t k.c .halted
  rw [hfired.tile] at htile
  have hctx := f.leave_ctx t k.c .halted
  generalize f.leave t k.c .halted = u at hf htile hctx
  have hcatch := congrArg TileSt.catches htile
  have hrun := congrArg TileSt.running htile
  have hitem := congrArg TileSt.item htile
  exact ⟨_, hf, hfired.fires.of_slots hctx rfl, hcatch, hrun, hitem, by rw [hctx.eq]⟩

omit ht in
/-- A COUNT adds 1 to its counter and abandons nothing. -/
theorem commitCount_counts (hact : ((s.ctx k.c).arm k.k).act = .count) : Answers (.commitCount t) s fun u =>
    (s.ctx k.c).FiresTo (u.ctx k.c) k.k ∧ s.writes u [.regs, .ctxs, .tiles, .mon] ∧ (u.tile t).catches = [] ∧
    (u.tile t).item = (s.tile t).item ∧ (u.tile t).nextPos = (s.tile t).nextPos ∧ (u.tile t).running = some k.c ∧
    (∀ j, j ≠ t.val → u.tile j = s.tile j) ∧ ((s.tile t).ahead = none → u.tile t = { s.tile t with catches := [] }) ∧
    s.setsFields u [(Reg.CTX_CNT k.c (((s.ctx k.c).arm k.k).off % 2),
      (s.cnt k.c (((s.ctx k.c).arm k.k).off % 2) + 1) % 2 ^ 32)] := by
  obtain ⟨v, hsettle, hv⟩ := State.settle_of_one hk hn hd
  rw [hact] at hsettle
  have hf : exec (.commitCount t) s = .next (((v.fire k).setCnt k.c (((s.ctx k.c).arm k.k).off % 2)
      ((s.cnt k.c (((s.ctx k.c).arm k.k).off % 2) + 1) % 2 ^ 32)).reresolve t k.c) := by
    refine congrArg Host.Outcome.next ?_
    rw [hsettle]
    dsimp only
    rw [State.ctx_of_writes hv.writes (by decide) k.c, show v.cnt = s.cnt from by
      funext c i; exact State.get_of_writes hv.writes (by decide) _]
  have hfired := hv.fired hd State.writes_refl
  have hfw : s.writes (v.fire k) [.ctxs, .tiles, .mon] :=
    State.writes_of State.fire_writes (by decide) (State.writes_mono hv.writes (by decide))
  generalize v.fire k = f at hf hfired hfw
  have hset : s.setsFields (f.setCnt k.c (((s.ctx k.c).arm k.k).off % 2)
      ((s.cnt k.c (((s.ctx k.c).arm k.k).off % 2) + 1) % 2 ^ 32)) _ :=
    (State.setsFields_nil_of_regs (hfw .regs (by decide))).put (Reg.CTX_CNT k.c (((s.ctx k.c).arm k.k).off % 2)) _
      (of_decide_eq_true rfl) (Nat.mod_lt _ (Nat.two_pow_pos 32)) (by simp)
  have hcw : f.writes (f.setCnt k.c (((s.ctx k.c).arm k.k).off % 2)
      ((s.cnt k.c (((s.ctx k.c).arm k.k).off % 2) + 1) % 2 ^ 32)) [.regs] := State.setCnt_moves.1
  generalize f.setCnt k.c (((s.ctx k.c).arm k.k).off % 2) ((s.cnt k.c (((s.ctx k.c).arm k.k).off % 2) + 1) % 2 ^ 32) = e
    at hf hset hcw
  have hetile : e.tile t = { s.tile t with catches := [] } := (State.tile_of_writes hcw (by decide) _).trans hfired.tile
  have hrw : e.writes (e.reresolve t k.c) [.ctxs, .tiles] := State.reresolve_moves.1
  obtain ⟨hcatch, hitem, hpos, hrun⟩ := e.reresolve_tile t k.c
  rw [hetile] at hcatch hitem hpos hrun
  have hctx := e.reresolve_ctx t k.c k.c
  rw [State.ctx_of_writes hcw (by decide)] at hctx
  have hother := fun j (hj : j ≠ t.val) => e.reresolve_other t k.c hj
  have hsame : (s.tile t).ahead = none → e.reresolve t k.c = e := fun ha => State.reresolve_of_none (by rw [hetile]; exact ha)
  generalize e.reresolve t k.c = u at hf hrw hcatch hitem hpos hrun hctx hother hsame
  refine ⟨_, hf, hfired.fires.of_slots hctx rfl, State.writes_of hrw (by decide) (State.writes_of hcw (by decide)
    (State.writes_mono hfw (by decide))), hcatch, hitem, hpos, hrun.trans (State.valid_of_dropReason hd).2, fun j hj => ?_,
    fun ha => ?_, hset.of_regs (hrw .regs (by decide))⟩
  · rw [hother j hj, State.tile_of_writes hcw (by decide), hfired.other j hj]
  · rw [hsame ha, hetile]

end
/-- Settles O35: each action by the state in which its one catch is settled and its record fired. -/
theorem commitsTakeTheirAction : Obligations.CommitsTakeTheirAction := by
  unfold Obligations.CommitsTakeTheirAction
  intro s t k ht hk hn hd
  exact ⟨fun hact g hg => commitGoto_goes ht hk hn hd hact hg, fun hact hroom g hg => commitCall_calls ht hk hn hd hact hroom hg,
    fun hact hfull => commitCall_faults ht hk hn hd hact hfull, fun hact hne => commitSwitch_switches ht hk hn hd hact hne,
    fun hact => commitStop_stops hk hn hd hact, fun hact => commitCount_counts hk hn hd hact⟩

end Sys2Proof.Machine
end

/-! # Catches lost, and landing slots filled (R104, R108, R112) -/

section
namespace Sys2Proof.Machine

/-! ## A catch that does not commit (R108) -/

section
variable {s : State} {t : Nat} {k : Catch} {r : Nat}

/-- s with the one catch k of tile t dropped. -/
def State.lost (s : State) (t : Nat) (k : Catch) (r : Nat) : State :=
  (s.setTile t { s.tile t with catches := [] }).dropCatch t k r

theorem State.settle_of_stale (h : (s.tile t).catches = [k]) (hn : k.at_ ≤ s.now) (hd : s.dropReason t k = some r)
    (act : ArmAct) : s.settle t act = (s.lost t k r, none) := by
  have hwin : s.winner t [k] = none := by simp [State.winner, hd, lowestEvt]
  unfold State.settle
  rw [State.catchesNow_of_one h]
  dsimp only
  rw [if_neg (Nat.not_lt.mpr hn), hwin]
  simp [State.dropStale, forEach, hd, State.dropCatches, h, State.lost]

theorem State.lost_writes : s.writes (s.lost t k r) [.regs, .tiles, .evt, .mon] :=
  State.writes_of State.dropCatch_moves.1 (by decide) (State.writes_mono State.setTile_writes (by decide))

theorem State.lost_becomes : s.tileBecomes (s.lost t k r) t { s.tile t with catches := [] } :=
  ⟨(State.tile_of_writes State.dropCatch_moves.1 (by decide) t).trans (State.tile_setTile _ _ _), fun j hj =>
    (State.tile_of_writes State.dropCatch_moves.1 (by decide) j).trans (State.tile_setTile_other _ _ hj)⟩

/-- The loss is counted, and noted in EVT_STATUS. -/
theorem State.dropCatch_counts (s : State) (t : Tile) (k : Catch) (r : Nat) :
    (s.dropCatch t k r).get (Reg.LND_LOST_CNT t) = min (s.get (Reg.LND_LOST_CNT t) + 1) 0xFFFFFFFF ∧
    (s.dropCatch t k r).get Reg.EVT_STATUS_LOST = 1 := by
  have hlog : (s.logLoss t k r).get (Reg.LND_LOST_CNT t) = s.get (Reg.LND_LOST_CNT t) :=
    State.logWrite_get _ _ (by simp only [Reg.LND_LOST_CNT]; omega) (by simp only [Reg.LND_LOST_CNT]; omega)
  have hset := (((s.logLoss t k r).setsFields_refl.bumpAt (Reg.LND_LOST_CNT t) 1 ⟨rfl, rfl⟩ (by simp)).nextAt Reg.EVT_STATUS_LOST 1
    (by simp [Fld.apart, Reg.LND_LOST_CNT, Reg.EVT_STATUS_LOST]; omega) rfl).of_regs
    (State.monMark_moves.1 .regs (by decide) : (State.monMark _ (0x221 + 4 * t)).regs = _)
  rw [hlog] at hset
  exact ⟨hset.get (by simp), hset.get (by simp)⟩

theorem exec_commit_of_stale {t : Tile} {i : Instr}
    (hi : i ∈ [Instr.commitGoto t, .commitCall t, .commitSwitch t, .commitStop t, .commitCount t])
    (h : (s.tile t).catches = [k]) (hn : k.at_ ≤ s.now) (hd : s.dropReason t k = some r) : exec i s = .next (s.lost t k r) := by
  have hs := State.settle_of_stale h hn hd
  simp only [List.mem_cons, List.not_mem_nil, or_false] at hi
  rcases hi with rfl | rfl | rfl | rfl | rfl <;> exact congrArg Host.Outcome.next (by rw [hs])

end

/-! ## Landing slots filled (R104) -/

section
variable {s : State} {t : Tile} {i : Nat} {q : List Nat} {y : Slot}

/-- The fill requested first is the one that starts next. -/
theorem State.fillNext_of_head (hq : (s.tile t).fillQ = i :: q) (hy : mfind (s.tile t).slots i = some y)
    (hs : y.started = none) : s.fillNext t = some (i, y, (s.tile t).fillFrom y) := by
  unfold State.fillNext
  dsimp only
  rw [hq, List.filter_cons_of_pos (by rw [hy]; exact Option.isNone_iff_eq_none.mpr hs)]
  dsimp only
  rw [hy]

theorem TileSt.fillFrom_le {x : TileSt} {n : Nat} (hy : y.since ≤ n) (hl : ∀ m, x.lastFill = some m → m + 1024 ≤ n) :
    x.fillFrom y ≤ n := by
  unfold TileSt.fillFrom
  split
  · exact hy
  · next m hm => exact Nat.max_le.mpr ⟨hy, hl m hm⟩

/-- The fill requested first, once started, is the one that completes next. -/
theorem State.fillOpen_of_head {n : Nat} (hq : (s.tile t).fillQ = i :: q) (hy : mfind (s.tile t).slots i = some y)
    (hs : y.started = some n) (hf : y.filled = none) : s.fillOpen t = some (i, y, n + 2048) := by
  obtain ⟨run, since, started, filled⟩ := y
  subst hs hf
  unfold State.fillOpen
  dsimp only
  rw [hq, List.filter_cons_of_pos (by rw [hy]; rfl)]
  dsimp only
  rw [hy]

theorem exec_landingFillStart (h : s.fillNext t = some (i, y, (s.tile t).fillFrom y)) (hn : (s.tile t).fillFrom y ≤ s.now) :
    exec (.landingFillStart t) s = .next (s.setTile t { s.tile t with
      slots := mins (s.tile t).slots i { y with started := some s.now }, lastFill := some s.now }) := by
  refine congrArg Host.Outcome.next ?_
  rw [h]
  exact if_neg (Nat.not_lt.mpr hn)

theorem exec_landingFillComplete {n : Nat} (h : s.fillOpen t = some (i, y, n)) :
    exec (.landingFillComplete t) s = .next ((s.runUse y.run).setTile t { s.tile t with
      slots := mins (s.tile t).slots i { y with filled := some (Nat.min s.now n) }
      fillQ := (s.tile t).fillQ.filter (fun j => decide (j ≠ i)) }) := by
  refine congrArg Host.Outcome.next ?_
  rw [h]

/-- A context that ran on stays as it was as its landed run begins. -/
theorem Ctx.entered_of_fresh {x : Ctx} (hp : x.pos = .fresh) (hs : x.st = .running) : x.entered = x := by
  rw [Ctx.entered, if_pos hs, hp]
  dsimp only
  rw [← hs, ← hp]

theorem exec_landedRunStart {c n d : Nat} (hr : (s.tile t).running = some c) (hi : (s.tile t).item = .dead n d)
    (hn : n ≤ s.now) (hp : (s.ctx c).pos = .fresh) : exec (.landedRunStart t) s = .next (s.entering t c (n * Config.fine)) := by
  refine congrArg Host.Outcome.next ?_
  rw [hr, hi]
  exact (if_neg (Nat.not_lt.mpr hn)).trans (State.enter_of_between _ _ (by rw [hp]; rfl))

end

/-- Settles O36: the loss of the one catch, and the slot or the context that each of the three writes. -/
theorem catchesAreLostOrLand : Obligations.CatchesAreLostOrLand := by
  unfold Obligations.CatchesAreLostOrLand
  refine ⟨fun s t k r i hi h hn hd => ?_, fun s t => ⟨fun i q hq y hy hs hsince hlast => ?_,
    fun i q hq y hy n hs hf => ?_, fun c n d hr hitem hn hp hst => ?_⟩⟩
  · have hc := State.dropCatch_counts (s.setTile t { s.tile t with catches := [] }) t k r
    exact ⟨_, exec_commit_of_stale hi h hn hd, State.lost_writes, State.lost_becomes, hc⟩
  · exact ⟨_, exec_landingFillStart (State.fillNext_of_head hq hy hs) (TileSt.fillFrom_le hsince hlast), State.setTile_writes,
      State.tile_setTile _ _ _, fun j hj => State.tile_setTile_other _ _ hj⟩
  · have huse : s.writes (s.runUse y.run) [.mc] := State.runUse_moves.1
    have hfill : (s.tile t).fillQ.filter (fun j => decide (j ≠ i)) = q.filter (fun j => decide (j ≠ i)) := by
      rw [hq, List.filter_cons_of_neg (by simp)]
    have hexec := exec_landingFillComplete (State.fillOpen_of_head hq hy hs hf)
    rw [hfill] at hexec
    exact ⟨_, hexec, State.writes_of State.setTile_writes (by decide) (State.writes_mono huse (by decide)),
      State.tile_setTile _ _ _, fun j hj => (State.tile_setTile_other _ _ hj).trans (State.tile_of_writes huse (by decide) j)⟩
  · have hctx := s.entering_becomes t c (n * Config.fine)
    have htile := s.entering_tile t c (n * Config.fine)
    rw [Ctx.entered_of_fresh hp hst] at hctx
    rw [← hr] at htile
    exact ⟨_, exec_landedRunStart hr hitem hn hp, s.entering_writes t _, hctx, htile,
      fun j hj => s.entering_other t c _ hj⟩

end Sys2Proof.Machine
end

/-! # Event timers (R97) -/

section
namespace Sys2Proof.Machine

section
variable {α : Type} (m : SMap α) (k j : Nat) (a : α)

theorem mfind_mins : mfind (mins m k a) j = if j = k then some a else mfind m j := by
  split
  · next h => rw [h, mfind_mins_same]
  · next h => exact mfind_mins_other m a h

theorem mfind_mdel : mfind (mdel m k) j = if j = k then none else mfind m j := by
  split
  · next h => rw [h, mfind_mdel_same]
  · next h => exact mfind_mdel_other m h

end

section
variable (s : State) (n : TimerNo) (m : SMap Timer)

/-- s with the timers m, of which timer n runs where b is 1. -/
def State.timersAt (s : State) (n : Nat) (m : SMap Timer) (b : Nat) : State :=
  { s with evt := { s.evt with timers := m } }.put (Reg.EVT_TMR_CTRL_RUN n) b

theorem State.timersAt_writes (b : Nat) : s.writes (s.timersAt n m b) [.regs, .evt] :=
  State.writes_of State.put_moves.1 (by decide) (State.writes_mono (s.with_evt_writes _) (by decide))

theorem State.timersAt_sets {b : Nat} (hb : b < 2) : s.setsFields (s.timersAt n m b) [(Reg.EVT_TMR_CTRL_RUN n, b)] :=
  (State.setsFields_nil_of_regs (t := { s with evt := { s.evt with timers := m } }) rfl).put
    (Reg.EVT_TMR_CTRL_RUN n) b (of_decide_eq_true rfl) hb (by simp)

theorem State.timersAt_evt (b : Nat) : (s.timersAt n m b).evt = { s.evt with timers := m } :=
  State.put_moves.1 .evt (by decide)

theorem State.tmrStop_eq : s.tmrStop n = s.timersAt n (mdel s.evt.timers n) 0 := rfl

variable {s n} in
theorem State.tmrStart_of_zero (h : s.tmrPeriod n = 0) : s.tmrStart n = s.timersAt n (mdel s.evt.timers n) 0 := if_pos h

variable {s n} in
theorem State.tmrStart_of_period (h : s.tmrPeriod n ≠ 0) : s.tmrStart n = s.timersAt n (mins s.evt.timers n
    ⟨s.now + s.tmrPeriod n, decide (s.active (Reg.EVT_TMR_CTRL_PERIODIC n) = 0)⟩) 1 := if_neg h

theorem State.occur_writes (src cyc : Nat) (ts : Ts) : s.writes (s.occur src cyc ts) [.evt] := s.with_evt_writes _

theorem State.occur_evt (src cyc : Nat) (ts : Ts) :
    (s.occur src cyc ts).evt = { s.evt with occ := s.evt.occ ++ [⟨src, cyc, ts⟩] } := rfl

variable {s n} {tm : Timer} (h : mfind s.evt.timers n = some tm) (hn : tm.expiry ≤ s.now)
include h hn

theorem exec_timerExpiry : exec (.timerExpiry n) s = .next (
    let s1 := s.occur (0x0A5 + n.val) tm.expiry (s.tsAt tm.expiry)
    if tm.last ∨ s.active (Reg.EVT_TMR_CTRL_PERIODIC n) = 0 ∨ s.tmrPeriod n = 0 then s1.tmrStop n
    else { s1 with evt := { s1.evt with timers := mins s1.evt.timers n ⟨tm.expiry + s.tmrPeriod n, false⟩ } }) := by
  refine congrArg Host.Outcome.next ?_
  simp only [h]
  exact if_neg (Nat.not_lt.mpr hn)

/-- A timer that expires for the last time stops. -/
theorem timerExpiry_stops
    (hlast : tm.last ∨ s.active (Reg.EVT_TMR_CTRL_PERIODIC n) = 0 ∨ s.tmrPeriod n = 0) : exec (.timerExpiry n) s =
      .next ((s.occur (0x0A5 + n.val) tm.expiry (s.tsAt tm.expiry)).timersAt n (mdel s.evt.timers n) 0) :=
  (exec_timerExpiry h hn).trans (congrArg _ (if_pos hlast))

/-- A periodic timer expires next a PERIOD later. -/
theorem timerExpiry_repeats
    (hlast : ¬ (tm.last ∨ s.active (Reg.EVT_TMR_CTRL_PERIODIC n) = 0 ∨ s.tmrPeriod n = 0)) : exec (.timerExpiry n) s =
      .next { s with evt := { s.evt with
        timers := mins s.evt.timers n ⟨tm.expiry + s.tmrPeriod n, false⟩
        occ := s.evt.occ ++ [⟨0x0A5 + n.val, tm.expiry, s.tsAt tm.expiry⟩] } } :=
  (exec_timerExpiry h hn).trans (congrArg _ (if_neg hlast))

end

/-- Settles O37: by the timers that each command leaves. -/
theorem timersRunAndExpire : Obligations.TimersRunAndExpire := by
  unfold Obligations.TimersRunAndExpire
  refine fun s n => ⟨fun hp => ?_, fun i hi => ?_, fun tm htm hn => ?_⟩
  · have hevt := s.timersAt_evt n (mins s.evt.timers n
      ⟨s.now + s.tmrPeriod n, decide (s.active (Reg.EVT_TMR_CTRL_PERIODIC n) = 0)⟩) 1
    refine ⟨_, congrArg Host.Outcome.next (State.tmrStart_of_period hp), s.timersAt_writes n _ 1,
      s.timersAt_sets n _ (by decide), ?_, fun m => ?_⟩
    · rw [hevt]
    · rw [hevt]
      exact mfind_mins _ _ _ _
  · have hexec : exec i s = .next (s.timersAt n (mdel s.evt.timers n) 0) := by
      rcases hi with rfl | ⟨hp, rfl⟩
      · exact congrArg Host.Outcome.next (s.tmrStop_eq n)
      · exact congrArg Host.Outcome.next (State.tmrStart_of_zero hp)
    have hevt := s.timersAt_evt n (mdel s.evt.timers n) 0
    refine ⟨_, hexec, s.timersAt_writes n _ 0, s.timersAt_sets n _ (by decide), ?_, fun m => ?_⟩
    · rw [hevt]
    · rw [hevt]
      exact mfind_mdel _ _ _
  · have hocc := s.occur_writes (0x0A5 + n.val) tm.expiry (s.tsAt tm.expiry)
    have hoevt := s.occur_evt (0x0A5 + n.val) tm.expiry (s.tsAt tm.expiry)
    by_cases hlast : tm.last ∨ s.active (Reg.EVT_TMR_CTRL_PERIODIC n) = 0 ∨ s.tmrPeriod n = 0
    · have hexec := timerExpiry_stops htm hn hlast
      generalize s.occur (0x0A5 + n.val) tm.expiry (s.tsAt tm.expiry) = v at hocc hoevt hexec
      have hevt := v.timersAt_evt n (mdel s.evt.timers n) 0
      rw [hoevt] at hevt
      refine ⟨_, hexec, ?_, fun ⟨h1, h2, h3⟩ => absurd hlast (by simp [h1, h2, h3]), fun _ => ⟨?_, ?_, ?_⟩⟩
      · rw [hevt]
      · exact State.writes_of (v.timersAt_writes n _ 0) (by decide) (State.writes_mono hocc (by decide))
      · exact (State.setsFields_nil_of_regs (hocc .regs (by decide))).trans (v.timersAt_sets n _ (by decide)) (by simp)
      · rw [hevt]
        exact mfind_mdel_same _ _
    · refine ⟨_, timerExpiry_repeats htm hn hlast, rfl, fun _ => ⟨s.with_evt_writes _, mfind_mins_same _ _ _⟩,
        fun hl => absurd (.inl hl) hlast⟩

end Sys2Proof.Machine
end

/-! # What raises an event source (R96, R98, R192, R195, R227, R228) -/

section
namespace Sys2Proof.Machine

/-! ## What is claimed under a condition -/

section
variable {c : Instr} {s : State} {p : Prop} [Decidable p] {P Q : State → Prop}

theorem Answers.of_pos (h : p) (hP : Answers c s P) : Answers c s fun u => if p then P u else Q u := by
  obtain ⟨u, hu, hP⟩ := hP
  exact ⟨u, hu, by simpa only [if_pos h] using hP⟩

theorem Answers.of_neg (h : ¬ p) (hQ : Answers c s Q) : Answers c s fun u => if p then P u else Q u := by
  obtain ⟨u, hu, hQ⟩ := hQ
  exact ⟨u, hu, by simpa only [if_neg h] using hQ⟩

end

/-! ## Host messages and TRIG inputs -/

section
variable (s : State)

/-- The occurrences of the host message events below n that a word raises. -/
def hostRaises (s : State) (v : Word) (n : Nat) : List Occ :=
  ((upto n).filter (fun m => v.getLsbD m)).map (fun m => ⟨0x0F5 + m, s.now, s.tsAt s.now⟩)

theorem State.hostRaise_eq (v : Word) (n : Nat) :
    forUpto (fun u m => if v.getLsbD m then u.occur (0x0F5 + m) u.now (u.tsAt u.now) else u) n s =
      { s with evt := { s.evt with occ := s.evt.occ ++ hostRaises s v n } } := by
  induction n with
  | zero => simp [forUpto, hostRaises, upto]
  | succ n ih =>
    rw [forUpto, ih]
    by_cases hv : v.getLsbD n
    · simp only [hv, if_true, State.occur, hostRaises, upto, List.range_succ, List.filter_append, List.map_append,
        List.filter_cons_of_pos, List.filter_nil, List.map_cons, List.map_nil, List.append_assoc]
      rfl
    · simp [hv, hostRaises, upto, List.range_succ]

theorem exec_evtHostRaise (v : Word) : exec (.evtHostRaise v) s =
    .next { s with evt := { s.evt with occ := s.evt.occ ++ hostRaises s v 32 } } :=
  congrArg Host.Outcome.next (s.hostRaise_eq v 32)

theorem State.with_evt_xng_writes (x : Events) (y : Crossing) : s.writes { s with evt := x, xng := y } [.evt, .xng] :=
  fun p hp => by cases p <;> first | rfl | exact absurd (by decide) hp

/-- s after an edge of TRIG input n. -/
def State.trigged (s : State) (n : Nat) (rising : Bool) (fine : Nat) : Events :=
  { s.evt with
    trig := s.evt.trig.set n rising
    occ := s.evt.occ ++ (if s.trigSelects n rising then [⟨0x0A1 + n, s.now + 12, mkTs (s.sysTime s.now) fine⟩] else []) }

theorem State.trigEdge_of_change {n : Nat} {rising : Bool}
    (h : s.active (Reg.EVT_TRIG_CFG_EN n) ≠ 0 ∧ s.evt.trig.getD n false ≠ rising) (fine : Nat) :
    s.trigEdge n rising fine = { s with evt := s.trigged n rising fine } := by
  rw [State.trigEdge, if_neg (not_or.mpr h), State.trigged]
  by_cases hs : s.trigSelects n rising
  · simp only [hs, if_true]
    rfl
  · simp only [hs, Bool.false_eq_true, if_false, List.append_nil]

theorem State.trigEdge_of_same {n : Nat} {rising : Bool}
    (h : ¬ (s.active (Reg.EVT_TRIG_CFG_EN n) ≠ 0 ∧ s.evt.trig.getD n false ≠ rising)) (fine : Nat) :
    s.trigEdge n rising fine = s := by
  rw [State.trigEdge, if_pos (by rw [not_and_or, not_not, not_not] at h; exact h)]

end

/-! ## Thresholds -/

section
variable (s : State) (c : CapCh) (i : Fin 4) (q : Bool) (ts : Ts)

/-- Whether a change of Q to q raises the source of threshold i of channel c (R228). -/
def State.thrRaises (s : State) (c i : Nat) (q : Bool) : Prop :=
  s.active (Reg.TH_CFG_MODE c i) ≥ 2 ∨ (s.active (Reg.TH_CFG_MODE c i) = 0 ∧ q = true) ∨
    (s.active (Reg.TH_CFG_MODE c i) = 1 ∧ q = false)

theorem State.thrRaises_iff : s.thrRaises c i q ↔ s.active (Reg.TH_CFG_MODE c i) = 2 ∨ s.active (Reg.TH_CFG_MODE c i) = 3 ∨
    (s.active (Reg.TH_CFG_MODE c i) = 0 ∧ q = true) ∨ (s.active (Reg.TH_CFG_MODE c i) = 1 ∧ q = false) := by
  have hlt : s.active (Reg.TH_CFG_MODE c i) < 4 := fieldOf_lt _ _ 2
  rw [State.thrRaises]
  constructor
  · rintro (h | h)
    · omega
    · exact .inr (.inr h)
  · rintro (h | h | h)
    · omega
    · omega
    · exact .inr h

theorem State.setThr_writes (t : Thr) : s.writes (s.setThr c i t) [.cap] := State.setCapture_moves.1

theorem State.thr_setThr (t : Thr) : (s.setThr c i t).thr c i = t := by
  rw [State.thr, State.setThr, State.capture_setCapture]
  exact mget_mset_same _ _ _ _

/-- A channel's group delay turns on its registers and its taps. -/
theorem State.gdCc_congr {s u : State} {c : Nat} (hget : ∀ f, u.get f = s.get f) (hact : ∀ f, u.active f = s.active f)
    (htaps : (u.capture c).taps = (s.capture c).taps) : u.gdCc c = s.gdCc c := by
  have hget : u.get = s.get := funext hget
  have hact : u.active = s.active := funext hact
  have htap : u.firTap c = s.firTap c := by funext b i; rw [State.firTap, htaps, State.firTap]
  have hn : u.firTaps c = s.firTaps c := by funext b; rw [State.firTaps, hget, State.firTaps]
  have hsym : u.firSym c = s.firSym c := by funext b; rw [State.firSym, htap, hn, State.firSym]
  have hbank : u.gdBank c = s.gdBank c := by rw [State.gdBank, hsym, hn, hget, State.gdBank]
  have hcic : u.cicD c = s.cicD c := by rw [State.cicD, hact, State.cicD]
  have hcomp : u.compOn c = s.compOn c := by rw [State.compOn, hcic, hact, State.compOn]
  have hhb : u.hb1Rate c = s.hb1Rate c := by rw [State.hb1Rate, hact, State.hb1Rate]
  have hdec : u.decim c = s.decim c := by rw [State.decim, hact, State.decim]
  have hdelay : u.chainDelay c = s.chainDelay c := by
    rw [State.chainDelay, hcic, hcomp, hhb, hdec, hbank, hact, State.chainDelay]
  rw [State.gdCc, State.gdFine, hdelay, State.gdCc, State.gdFine]

theorem State.setThr_gdCc (t : Thr) : (s.setThr c i t).gdCc c = s.gdCc c := by
  have hw := s.setThr_writes c i t
  refine State.gdCc_congr (State.get_of_writes hw (by decide)) (State.active_of_writes hw (by decide)) ?_
  rw [State.setThr, State.capture_setCapture]

/-- s with a change of threshold i of channel c that raises its source. -/
def State.thrRaised (s : State) (c i : Nat) (q : Bool) (ts : Ts) : State :=
  ((s.setThr c i ⟨q, 0, false⟩).bump (Reg.TH_CNT c i)).occur (0x001 + (4 * c + i))
    (s.cycleOf (ts.toNat / 1024) + 20 + s.gdCc c) ts

theorem State.thrRaised_writes : s.writes (s.thrRaised c i q ts) [.regs, .evt, .cap] :=
  State.writes_of (State.occur_writes _ _ _ _) (by decide) <| State.writes_of State.bump_moves.1 (by decide)
    (State.writes_mono (s.setThr_writes c i _) (by decide))

theorem State.thrRaised_thr : (s.thrRaised c i q ts).thr c i = ⟨q, 0, false⟩ := by
  have hbump : (s.setThr c i ⟨q, 0, false⟩).writes (s.thrRaised c i q ts) [.regs, .evt] :=
    State.writes_of (State.occur_writes _ _ _ _) (by decide) (State.writes_mono State.bump_moves.1 (by decide))
  rw [State.thr, State.capture_of_writes hbump (by decide)]
  exact s.thr_setThr c i _

theorem State.thrRaised_sets : s.setsFields (s.thrRaised c i q ts)
    [(Reg.TH_CNT c i, min (s.get (Reg.TH_CNT c i) + 1) 0xFFFFFFFF)] := by
  have h := (State.setsFields_nil_of_regs (s := s) (s.setThr_writes c i ⟨q, 0, false⟩ .regs (by decide))).bumpAt
    (Reg.TH_CNT c i) 1 ⟨rfl, rfl⟩ (by simp)
  exact h.of_regs (State.occur_writes _ _ _ _ .regs (by decide))

theorem State.thrRaised_evt : (s.thrRaised c i q ts).evt = { s.evt with
    occ := s.evt.occ ++ [⟨0x001 + (4 * c.val + i.val), s.cycleOf (ts.toNat / 1024) + 20 + s.gdCc c, ts⟩] } := by
  have hbump : s.writes ((s.setThr c i ⟨q, 0, false⟩).bump (Reg.TH_CNT c i)) [.regs, .cap] :=
    State.writes_of State.bump_moves.1 (by decide) (State.writes_mono (s.setThr_writes c i _) (by decide))
  rw [State.thrRaised, State.occur_evt, show ((s.setThr c i ⟨q, 0, false⟩).bump (Reg.TH_CNT c i)).evt = s.evt from
    hbump .evt (by decide)]

variable {s c i q}

theorem State.thrChange_of_raises (h : s.thrRaises c i q) : s.thrChange c i q ts = s.thrRaised c i q ts := by
  rw [State.thrChange, if_pos ((s.thrRaises_iff c i q).mp h), State.setThr_gdCc, State.thrRaised]
  rfl

theorem State.thrChange_of_not (h : ¬ s.thrRaises c i q) : s.thrChange c i q ts = s.setThr c i ⟨q, 0, false⟩ := by
  rw [State.thrChange, if_neg (mt (s.thrRaises_iff c i q).mpr h)]

end
/-! ## Failing compares (R192) -/

section
variable (s : State) (g : Nat) (e : FailEnt)

/-- The fields that an entry of the fail log of group g may write. -/
def failLogFields (g : Nat) : List Fld :=
  [Reg.GRP_STATUS_FLOG_FULL g, Reg.GRP_STATUS_FLOG_WRAP g, Reg.GRP_FLOG_WR_FILL g, Reg.GRP_FLOG_WR_NEXT g]

/-- s with a failing vector cycle of group g entered in its fail log, as far as the log takes it. -/
def State.failLogged (s : State) (g : Nat) (e : FailEnt) : State :=
  let full := decide (s.get (Reg.GRP_FLOG_WR_FILL g) = 1024)
  if full && decide (s.active (Reg.GRP_CTRL_FLOG_STOP g) = 1) then s.put (Reg.GRP_STATUS_FLOG_FULL g) 1
  else
    let n := s.get (Reg.GRP_FLOG_WR_NEXT g)
    let s2 := if full then s.put (Reg.GRP_STATUS_FLOG_WRAP g) 1
      else s.put (Reg.GRP_FLOG_WR_FILL g) (s.get (Reg.GRP_FLOG_WR_FILL g) + 1)
    (s2.setGroup g { s2.group g with flog := mins (s2.group g).flog n e }).put (Reg.GRP_FLOG_WR_NEXT g) ((n + 1) % 1024)

/-- s with the failing vector cycle of group g counted. -/
def State.failCounted (s : State) (g : Nat) : State :=
  ((s.setGroup g { s.group g with failAt := some (s.vcyc g) }).bump (Reg.GRP_FAIL_CNT g)).put (Reg.GRP_STATUS_FAIL g) 1

theorem State.groupFail_eq : s.groupFail g e = (s.failCounted g).failLogged g e := rfl

theorem State.failCounted_writes : s.writes (s.failCounted g) [.regs, .grp] :=
  State.writes_of State.put_moves.1 (by decide) <| State.writes_of State.bump_moves.1 (by decide)
    (State.writes_mono State.setGroup_moves.1 (by decide))

theorem State.failCounted_sets : s.setsFields (s.failCounted g)
    [(Reg.GRP_FAIL_CNT g, min (s.get (Reg.GRP_FAIL_CNT g) + 1) 0xFFFFFFFF), (Reg.GRP_STATUS_FAIL g, 1)] :=
  (((State.setsFields_nil_of_regs (State.setGroup_moves.1 .regs (by decide))).bumpAt (Reg.GRP_FAIL_CNT g) 1 ⟨rfl, rfl⟩
    (by simp)).nextAt (Reg.GRP_STATUS_FAIL g) 1 (by simp [Fld.apart, Reg.GRP_FAIL_CNT, Reg.GRP_STATUS_FAIL]) rfl)

theorem State.failCounted_group : (s.failCounted g).group g = { s.group g with failAt := some (s.vcyc g) } := by
  have hw : (s.setGroup g { s.group g with failAt := some (s.vcyc g) }).writes (s.failCounted g) [.regs] :=
    State.writes_of State.put_moves.1 (by decide) State.bump_moves.1
  rw [State.group_of_writes hw (by decide), State.group_setGroup]

theorem State.failLogged_get {f : Fld} (hf : ∀ F ∈ failLogFields g, f.apart F) : (s.failLogged g e).get f = s.get f := by
  simp only [failLogFields, List.forall_mem_cons, List.not_mem_nil, false_imp_iff, implies_true, and_true] at hf
  obtain ⟨hfull, hwrap, hfill, hnext⟩ := hf
  have hgroup : ∀ (u : State) x, (u.setGroup g x).get f = u.get f := fun u x =>
    State.get_of_writes State.setGroup_moves.1 (by decide) f
  unfold State.failLogged
  dsimp only
  split
  · exact State.get_put_of_apart _ _ (of_decide_eq_true rfl) hfull
  · rw [State.get_put_of_apart _ _ (of_decide_eq_true rfl) hnext, hgroup]
    split
    · exact State.get_put_of_apart _ _ (of_decide_eq_true rfl) hwrap
    · exact State.get_put_of_apart _ _ (of_decide_eq_true rfl) hfill

theorem State.failLogged_writes : s.writes (s.failLogged g e) [.regs, .grp] := by
  unfold State.failLogged
  dsimp only
  split
  · exact State.writes_mono State.put_moves.1 (by decide)
  · refine State.writes_of State.put_moves.1 (by decide) (State.writes_of State.setGroup_moves.1 (by decide) ?_)
    split <;> exact State.writes_mono State.put_moves.1 (by decide)

theorem State.failLogged_failAt : ((s.failLogged g e).group g).failAt = (s.group g).failAt := by
  have hput : ∀ (u : State) f v, (u.put f v).group g = u.group g := fun u f v =>
    State.group_of_writes State.put_moves.1 (by decide) g
  unfold State.failLogged
  dsimp only
  split
  · rw [hput]
  · rw [hput, State.group_setGroup]
    split <;> rw [hput]

/-- While the log has room, the entry is the next one. -/
theorem State.failLogged_of_room (h : s.get (Reg.GRP_FLOG_WR_FILL g) < 1024) :
    (s.failLogged g e).get (Reg.GRP_FLOG_WR_FILL g) = s.get (Reg.GRP_FLOG_WR_FILL g) + 1 ∧
    mfind ((s.failLogged g e).group g).flog (s.get (Reg.GRP_FLOG_WR_NEXT g)) = some e := by
  have hfull : decide (s.get (Reg.GRP_FLOG_WR_FILL g) = 1024) = false := decide_eq_false (by omega)
  have hput : ∀ (u : State) f v, (u.put f v).group g = u.group g := fun u f v =>
    State.group_of_writes State.put_moves.1 (by decide) g
  have hgroup : ∀ (u : State) x f, (u.setGroup g x).get f = u.get f := fun u x f =>
    State.get_of_writes State.setGroup_moves.1 (by decide) f
  unfold State.failLogged
  simp only [hfull, Bool.false_and, Bool.false_eq_true, if_false]
  constructor
  · rw [State.get_put_of_apart _ _ (of_decide_eq_true rfl)
      (by simp [Fld.apart, Reg.GRP_FLOG_WR_FILL, Reg.GRP_FLOG_WR_NEXT]), hgroup, State.get_put _ _ _ (of_decide_eq_true rfl)]
    exact Nat.mod_eq_of_lt (by simp only [Reg.GRP_FLOG_WR_FILL] at h ⊢; omega)
  · rw [hput, State.group_setGroup]
    exact mfind_mins_same _ _ _

end

/-! ## A pin's failing compare (R192) -/

section
variable {s : State} {g : Grp} {k : Fin 8} {ts : Ts} (e : FailEnt)

/-- s with the fail of pin k of group g counted, and its source raised. -/
def State.pinFailed (s : State) (g k : Nat) (ts : Ts) : State :=
  (s.bump (Reg.PIN_FAIL_CNT g k)).occur (0x061 + (8 * g + k)) (s.cycleOf (ts.toNat / 1024) + 14) ts

theorem State.pinFailed_writes : s.writes (s.pinFailed g k ts) [.regs, .evt] :=
  State.writes_of (State.occur_writes _ _ _ _) (by decide) (State.writes_mono State.bump_moves.1 (by decide))

theorem State.pinFailed_evt : (s.pinFailed g k ts).evt = { s.evt with
    occ := s.evt.occ ++ [⟨0x061 + (8 * g.val + k.val), s.cycleOf (ts.toNat / 1024) + 14, ts⟩] } := by
  rw [State.pinFailed, State.occur_evt, show (s.bump (Reg.PIN_FAIL_CNT g k)).evt = s.evt from
    State.bump_moves.1 .evt (by decide)]

theorem State.pinFailed_sets : s.setsFields (s.pinFailed g k ts)
    [(Reg.PIN_FAIL_CNT g k, min (s.get (Reg.PIN_FAIL_CNT g k) + 1) 0xFFFFFFFF)] :=
  (s.setsFields_refl.bumpAt (Reg.PIN_FAIL_CNT g k) 1 ⟨rfl, rfl⟩ (by simp)).of_regs (State.occur_writes _ _ _ _ .regs (by decide))

/-- A pin's registers are apart from its group's first ones. -/
theorem State.pinFailed_get {f : Fld} {n : Nat} (hf : f.addr = 0x0D0000 + n + g.val * 0x1000) (hn : n < 0x200) :
    (s.pinFailed g k ts).get f = s.get f :=
  (State.pinFailed_sets (s := s) (g := g) (k := k) (ts := ts)).get_apart (by
    simp only [List.map_cons, List.map_nil, List.mem_singleton, forall_eq, Fld.apart, Reg.PIN_FAIL_CNT, hf]
    omega)

theorem State.pinFailed_vcyc : (s.pinFailed g k ts).vcyc g = s.vcyc g := by
  rw [State.vcyc, State.get64, State.pinFailed_get (n := 8) (by simp only [Reg.GRP_VCYC_LO]) (by decide),
    State.pinFailed_get (n := 0xC) (by simp only [Reg.GRP_VCYC_HI]) (by decide)]
  rfl

theorem exec_pinCompareFail {p : Pin} {tsel : BitVec 4} (hp : p.val = 8 * g.val + k.val) : exec (.pinCompareFail p ts tsel) s =
    .next (if s.get (Reg.PIN_CFG g k) = 1 then s else (s.pinFailed g k ts).failCycle g
      ⟨ts, BitVec.ofNat 8 (2 ^ k.val), tsel.toNat, s.bankOf (8 + g), BitVec.ofNat 32 (s.vcyc g)⟩) := by
  have hg : p.val / 8 = g.val := by omega
  have hk : p.val % 8 = k.val := by omega
  refine congrArg Host.Outcome.next ?_
  rw [hg, hk, State.pinFail]
  split <;> rfl

/-- A vector cycle that has failed already is not counted again. -/
theorem State.failCycle_writes_of_failed (h : (s.group g).failAt = some (s.vcyc g)) : s.writes (s.failCycle g e) [.grp] := by
  rw [State.failCycle, if_pos h]
  dsimp only
  split
  · split
    · exact State.setGroup_moves.1
    · exact State.writes_refl
  · exact State.writes_refl

theorem State.failCycle_of_new (h : (s.group g).failAt ≠ some (s.vcyc g)) :
    s.failCycle g e = (s.failCounted g).failLogged g e :=
  (if_neg h).trans (s.groupFail_eq g e)

/-- A pin's fail is counted with its vector cycle, once a cycle, and logged while there is room. -/
theorem State.pinFailed_failCycle :
    s.writes ((s.pinFailed g k ts).failCycle g e) [.regs, .evt, .grp] ∧
    ((s.pinFailed g k ts).failCycle g e).get (Reg.PIN_FAIL_CNT g k) = min (s.get (Reg.PIN_FAIL_CNT g k) + 1) 0xFFFFFFFF ∧
    ((s.pinFailed g k ts).failCycle g e).evt = { s.evt with
      occ := s.evt.occ ++ [⟨0x061 + (8 * g.val + k.val), s.cycleOf (ts.toNat / 1024) + 14, ts⟩] } ∧
    ((s.group g).failAt = some (s.vcyc g) →
      ((s.pinFailed g k ts).failCycle g e).get (Reg.GRP_FAIL_CNT g) = s.get (Reg.GRP_FAIL_CNT g)) ∧
    ((s.group g).failAt ≠ some (s.vcyc g) →
      ((s.pinFailed g k ts).failCycle g e).get (Reg.GRP_FAIL_CNT g) = min (s.get (Reg.GRP_FAIL_CNT g) + 1) 0xFFFFFFFF ∧
      ((s.pinFailed g k ts).failCycle g e).get (Reg.GRP_STATUS_FAIL g) = 1 ∧
      (((s.pinFailed g k ts).failCycle g e).group g).failAt = some (s.vcyc g) ∧
      (s.get (Reg.GRP_FLOG_WR_FILL g) < 1024 →
        ((s.pinFailed g k ts).failCycle g e).get (Reg.GRP_FLOG_WR_FILL g) = s.get (Reg.GRP_FLOG_WR_FILL g) + 1 ∧
        mfind (((s.pinFailed g k ts).failCycle g e).group g).flog (s.get (Reg.GRP_FLOG_WR_NEXT g)) = some e)) := by
  have hw := State.pinFailed_writes (s := s) (g := g) (k := k) (ts := ts)
  have hset := State.pinFailed_sets (s := s) (g := g) (k := k) (ts := ts)
  have hevt := State.pinFailed_evt (s := s) (g := g) (k := k) (ts := ts)
  have hv := State.pinFailed_vcyc (s := s) (g := g) (k := k) (ts := ts)
  have hcnt := State.pinFailed_get (s := s) (k := k) (ts := ts) (f := Reg.GRP_FAIL_CNT g) (n := 0x10) rfl (by decide)
  have hfill := State.pinFailed_get (s := s) (k := k) (ts := ts) (f := Reg.GRP_FLOG_WR_FILL g) (n := 0x14) rfl (by decide)
  have hnext := State.pinFailed_get (s := s) (k := k) (ts := ts) (f := Reg.GRP_FLOG_WR_NEXT g) (n := 0x14) rfl (by decide)
  generalize s.pinFailed g k ts = v at hw hset hevt hv hcnt hfill hnext
  have hfw : v.writes (v.failCycle g e) [.regs, .grp] := State.failCycle_moves.1
  have hgroup : v.group g = s.group g := State.group_of_writes hw (by decide) g
  refine ⟨State.writes_of hfw (by decide) (State.writes_mono hw (by decide)), ?_, (hfw .evt (by decide)).trans hevt, fun h => ?_,
    fun h => ?_⟩
  · by_cases h : (v.group g).failAt = some (v.vcyc g)
    · rw [State.get_of_writes (State.failCycle_writes_of_failed e h) (by decide)]
      exact hset.get (by simp)
    · rw [State.failCycle_of_new e h, State.failLogged_get _ _ _ (by
        simp [failLogFields, Fld.apart, Reg.PIN_FAIL_CNT, Reg.GRP_STATUS_FLOG_FULL, Reg.GRP_STATUS_FLOG_WRAP,
          Reg.GRP_FLOG_WR_FILL, Reg.GRP_FLOG_WR_NEXT]; omega),
        (v.failCounted_sets g).get_apart (by
          simp [Fld.apart, Reg.PIN_FAIL_CNT, Reg.GRP_FAIL_CNT, Reg.GRP_STATUS_FAIL]; omega)]
      exact hset.get (by simp)
  · rw [← hgroup, ← hv] at h
    rw [State.get_of_writes (State.failCycle_writes_of_failed e h) (by decide), hcnt]
  · rw [← hgroup, ← hv] at h
    have hc := v.failCounted_sets g
    have hcg := v.failCounted_group g
    rw [State.failCycle_of_new e h]
    generalize v.failCounted g = w at hc hcg
    rw [State.failLogged_get _ _ _ (by simp [failLogFields, Fld.apart, Reg.GRP_FAIL_CNT, Reg.GRP_STATUS_FLOG_FULL,
        Reg.GRP_STATUS_FLOG_WRAP, Reg.GRP_FLOG_WR_FILL, Reg.GRP_FLOG_WR_NEXT]),
      State.failLogged_get _ _ _ (by simp [failLogFields, Fld.apart, Reg.GRP_STATUS_FAIL, Reg.GRP_STATUS_FLOG_FULL,
        Reg.GRP_STATUS_FLOG_WRAP, Reg.GRP_FLOG_WR_FILL, Reg.GRP_FLOG_WR_NEXT]), State.failLogged_failAt, hcg, ← hcnt, ← hv]
    refine ⟨hc.get (by simp), hc.get (by simp), rfl, fun hroom => ?_⟩
    have hwfill : w.get (Reg.GRP_FLOG_WR_FILL g) = s.get (Reg.GRP_FLOG_WR_FILL g) := (hc.get_apart (by
      simp [Fld.apart, Reg.GRP_FLOG_WR_FILL, Reg.GRP_FAIL_CNT, Reg.GRP_STATUS_FAIL])).trans hfill
    have hwnext : w.get (Reg.GRP_FLOG_WR_NEXT g) = s.get (Reg.GRP_FLOG_WR_NEXT g) := (hc.get_apart (by
      simp [Fld.apart, Reg.GRP_FLOG_WR_NEXT, Reg.GRP_FAIL_CNT, Reg.GRP_STATUS_FAIL])).trans hnext
    have hlog := w.failLogged_of_room g e (by rw [hwfill]; exact hroom)
    rwa [hwfill, hwnext] at hlog

end

/-! ## Matchers (R195) -/

/-- A bit shifted into a matcher's history. -/
theorem shifted_eq (h : BitVec 64) (b : Bool) :
    BitVec.ofNat 64 (2 * h.toNat + bit b) = h <<< 1 ||| BitVec.ofNat 64 (bit b) := by
  have hor : (h <<< 1 ||| BitVec.ofNat 64 (bit b)) = h <<< 1 + BitVec.ofNat 64 (bit b) := by
    refine (BitVec.add_eq_or_of_and_eq_zero _ _ ?_).symm
    ext i hi
    cases b <;> cases i <;> simp [bit]
  rw [hor]
  apply BitVec.eq_of_toNat_eq
  simp [BitVec.toNat_add, BitVec.toNat_shiftLeft, Nat.shiftLeft_eq, Nat.mul_comm]

section
variable (s : State) (g m : Nat) (b : Bool)

/-- The history of matcher m of group g with a bit shifted in. -/
def State.matchHist (s : State) (g m : Nat) (b : Bool) : BitVec 64 :=
  mget (fun _ => 0) (s.group g).mhist m <<< 1 ||| BitVec.ofNat 64 (bit b)

/-- Whether a history matches (R195). -/
def State.matchHit (s : State) (g m : Nat) (h : BitVec 64) : Bool :=
  decide ((h ^^^ BitVec.ofNat 64 (s.active64 (Reg.MATCH_VAL_LO g m) (Reg.MATCH_VAL_HI g m))) &&&
    BitVec.ofNat 64 (s.active64 (Reg.MATCH_MASK_LO g m) (Reg.MATCH_MASK_HI g m)) = 0)

/-- s with a bit shifted into matcher m of group g. -/
def State.matchNoted (s : State) (g m : Nat) (b : Bool) : State :=
  s.setGroup g { s.group g with
    mhist := mset (fun _ => 0) (s.group g).mhist m (s.matchHist g m b)
    mmatch := mset (fun _ => false) (s.group g).mmatch m (s.matchHit g m (s.matchHist g m b)) }

theorem State.matchNoted_writes : s.writes (s.matchNoted g m b) [.grp] := State.setGroup_moves.1

theorem State.matchNoted_hist : mget (fun _ => 0) ((s.matchNoted g m b).group g).mhist m = s.matchHist g m b := by
  rw [State.matchNoted, State.group_setGroup]
  exact mget_mset_same _ _ _ _

theorem State.matchNoted_match :
    mget (fun _ => false) ((s.matchNoted g m b).group g).mmatch m = s.matchHit g m (s.matchHist g m b) := by
  rw [State.matchNoted, State.group_setGroup]
  exact mget_mset_same _ _ _ _

theorem State.matchShift_eq (cyc : Nat) (ts : Ts) : s.matchShift g m b cyc ts =
    if s.matchHit g m (s.matchHist g m b) = true ∧
        (mget (fun _ => false) (s.group g).mmatch m = false ∨ s.active (Reg.MATCH_CFG_EDGE g m) = 1) then
      (s.matchNoted g m b).occur (0x021 + (8 * g + m)) (cyc + 16) ts
    else s.matchNoted g m b := by
  unfold State.matchShift
  simp only [shifted_eq]
  change (if (s.matchHit g m (s.matchHist g m b) && (!mget (fun _ => false) (s.group g).mmatch m ||
    decide (s.active (Reg.MATCH_CFG_EDGE g m) = 1))) = true then
      (s.matchNoted g m b).occur (0x021 + (8 * g + m)) (cyc + 16) ts else s.matchNoted g m b) = _
  simp only [Bool.and_eq_true, Bool.or_eq_true, Bool.not_eq_true', decide_eq_true_eq]

end

/-- Settles O38: each source by what its command leaves of the events and of the block that it is in. -/
theorem sourcesOccur : Obligations.SourcesOccur := by
  unfold Obligations.SourcesOccur
  refine fun s => ⟨fun v => ?_, fun n => ?_, fun n rising fine => ?_, fun c i q ts h => ?_, fun c i q ts hen hheld hsettle hq => ?_,
    fun g k p ts tsel hp => ?_, fun g m b code ts h => ?_, fun g m b code ts h => ?_⟩
  · exact ⟨_, exec_evtHostRaise s v, s.with_evt_writes _, rfl⟩
  · by_cases h : s.xng.up = true ∧ n.val ∈ s.xng.raises
    · have hc : (s.xng.up && s.xng.raises.contains n.val) = true := by simpa using h
      exact .of_pos h ⟨_, congrArg Host.Outcome.next (if_pos hc), s.with_evt_xng_writes _ _, rfl, rfl⟩
    · have hc : ¬ (s.xng.up && s.xng.raises.contains n.val) = true := by simpa using h
      exact .of_neg h ⟨_, congrArg Host.Outcome.next (if_neg hc), rfl⟩
  · by_cases h : s.active (Reg.EVT_TRIG_CFG_EN n) ≠ 0 ∧ s.evt.trig.getD n false ≠ rising
    · exact .of_pos h ⟨_, congrArg Host.Outcome.next (s.trigEdge_of_change h fine.toNat), s.with_evt_writes _, rfl⟩
    · exact .of_neg h ⟨_, congrArg Host.Outcome.next (s.trigEdge_of_same h fine.toNat), rfl⟩
  · exact ⟨s, congrArg Host.Outcome.next (if_pos h), rfl⟩
  · have hno : ¬ (s.active (Reg.TH_CFG_EN c i) = 0 ∨ s.capHeld c = true ∨ s.settling c = true ∨ (s.thr c i).q = q) := by
      simp [hen, hheld, hsettle, hq]
    have hexec : exec (.thresholdChange c i q ts) s = .next (s.thrChange c i q ts) := congrArg Host.Outcome.next (if_neg hno)
    by_cases h : s.thrRaises c i q
    · rw [State.thrChange_of_raises ts h] at hexec
      refine ⟨_, hexec, s.thrRaised_thr c i q ts, ?_⟩
      rw [if_pos (show _ ≥ 2 ∨ _ from h)]
      exact ⟨s.thrRaised_writes c i q ts, s.thrRaised_sets c i q ts, s.thrRaised_evt c i q ts⟩
    · rw [State.thrChange_of_not ts h] at hexec
      refine ⟨_, hexec, s.thr_setThr c i _, ?_⟩
      rw [if_neg (show ¬ (_ ≥ 2 ∨ _) from h)]
      exact s.setThr_writes c i _
  · have hexec := exec_pinCompareFail (s := s) (ts := ts) (tsel := tsel) hp
    by_cases hm : s.get (Reg.PIN_CFG g k) = 1
    · rw [if_pos hm] at hexec
      exact .of_pos hm ⟨_, hexec, rfl⟩
    · rw [if_neg hm] at hexec
      exact .of_neg hm ⟨_, hexec, State.pinFailed_failCycle _⟩
  · exact ⟨s, congrArg Host.Outcome.next (if_neg (by rw [h]; decide)), rfl⟩
  · have hexec : exec (.matcherMatch g m b code ts) s = .next (s.matchShift g m b (s.cycleOf (ts.toNat / 1024)) ts) :=
      congrArg Host.Outcome.next (if_pos h)
    have hnote := s.matchNoted_writes g m b
    have hhist := s.matchNoted_hist g m b
    have hmatch := s.matchNoted_match g m b
    rw [State.matchShift_eq] at hexec
    by_cases hraise : s.matchHit g m (s.matchHist g m b) = true ∧
        (mget (fun _ => false) (s.group g).mmatch m = false ∨ s.active (Reg.MATCH_CFG_EDGE g m) = 1)
    · rw [if_pos hraise] at hexec
      generalize s.matchNoted g m b = v at hexec hnote hhist hmatch
      have hocc := State.occur_writes v (0x021 + (8 * g.val + m.val)) (s.cycleOf (ts.toNat / 1024) + 16) ts
      have hgrp := State.group_of_writes hocc (by decide) g.val
      refine ⟨_, hexec, State.writes_of hocc (by decide) (State.writes_mono hnote (by decide)), ?_, ?_, ?_⟩
      · rw [hgrp]; exact hhist
      · rw [hgrp]; exact hmatch
      · rw [State.occur_evt, show v.evt = s.evt from hnote .evt (by decide)]
        exact congrArg (s.evt.occ ++ ·) (if_pos hraise).symm
    · rw [if_neg hraise] at hexec
      refine ⟨_, hexec, State.writes_mono hnote (by decide), hhist, hmatch, ?_⟩
      rw [show (s.matchNoted g m b).evt = s.evt from hnote .evt (by decide)]
      exact ((congrArg (s.evt.occ ++ ·) (if_neg hraise)).trans (List.append_nil _)).symm

end Sys2Proof.Machine
end

/-! # Blocks played, underruns and diverts (R119 to R127) -/

section
namespace Sys2Proof.Machine

/-! ## Blocks of a STREAM (R120, R122, R124) -/

section
variable {s : State} {t : Tile} {c h sid e n counted b w pos p : Nat} {ph : BlockPhase}

theorem exec_blockPlayed (hr : (s.tile t).running = some c) (hd : (s.tile t).blockDone = false) (hg : (s.tile t).gapAt = none)
    (hi : (s.tile t).item = .stream h sid e n counted b w pos ph) (hp : s.blockEnd t = some p)
    (hn : (if t.val < 8 then ceilDiv p Config.fine - 1 else posCycle p) ≤ s.now) : exec (.blockPlayed t) s = .next (
      let own := decide (ph = .playing)
      let count' := if own || s.repeatCounts c then counted + 1 else counted
      let s1 := if own then
          (s.setStore sid { s.store sid with rd := Nat.max (s.store sid).rd (b + s.blockLen e) }).notePlayed c sid b
        else s
      s1.setTile t { s1.tile t with item := .stream h sid e n count' b w pos ph, blockDone := true }) := by
  refine congrArg Host.Outcome.next ?_
  simp only [hr, hi, State.leftCycle, hp, Option.map_some, hd, hg, Option.isSome_none, Bool.false_eq_true, or_false]
  exact if_neg (Nat.not_lt.mpr hn)

/-- s with a block of the ring read past, and noted as the last that context c played. -/
def State.blockRead (s : State) (c sid e b : Nat) : State :=
  (s.setStore sid { s.store sid with rd := Nat.max (s.store sid).rd (b + s.blockLen e) }).notePlayed c sid b

theorem State.blockRead_writes : s.writes (s.blockRead c sid e b) [.stores, .ctxs] :=
  State.writes_of State.setCtx_writes (by decide) (State.writes_mono State.setStore_moves.1 (by decide))

theorem State.blockRead_store :
    (s.blockRead c sid e b).store sid = { s.store sid with rd := max (s.store sid).rd (b + s.blockLen e) } := by
  rw [State.blockRead, State.notePlayed, State.store_of_writes State.setCtx_writes (by decide), State.store_setStore]

theorem State.blockRead_played :
    ((s.blockRead c sid e b).ctx c).played = (sid, b) :: (s.ctx c).played.filter (fun q => decide (q.1 ≠ sid)) := by
  rw [State.blockRead, State.notePlayed, State.ctx_setCtx, State.ctx_of_writes State.setStore_moves.1 (by decide)]

/-- The next block on a waveform tile follows at the end of the one before. -/
theorem State.nextBlock_of_more (ht : t.val < 8) (hi : (s.tile t).item = .stream h sid e n counted b w pos .playing)
    (hp : s.blockEnd t = some p) (hn : n = 0 ∨ counted < n) : s.nextBlock t = s.setTile t { s.tile t with
      item := .stream h sid e n counted (b + s.blockLen e) 0 p .playing, blockDone := false } := by
  simp only [State.nextBlock, hi, hp, if_neg (show ¬ (n ≠ 0 ∧ n ≤ counted) by omega), if_pos ht, if_true]

/-- After its last block a STREAM is over at the next whole cycle. -/
theorem State.nextBlock_of_last (ht : t.val < 8) (hi : (s.tile t).item = .stream h sid e n counted b w pos .playing)
    (hp : s.blockEnd t = some p) (h0 : n ≠ 0) (hn : n ≤ counted) : ((s.nextBlock t).tile t).item = .idle ∧
      ((s.nextBlock t).tile t).nextPos = ceilDiv p Config.fine * Config.fine := by
  have hover : s.nextBlock t = s.streamOver t p := by simp only [State.nextBlock, hi, hp, if_pos (And.intro h0 hn)]
  have hclosed : ((s.tile t).closed (ceilDiv p Config.fine * Config.fine)).item = .idle ∧
      ((s.tile t).closed (ceilDiv p Config.fine * Config.fine)).nextPos = ceilDiv p Config.fine * Config.fine := by
    rw [TileSt.closed, hi]
    exact ⟨rfl, rfl⟩
  rw [hover, State.streamOver, if_pos ht]
  dsimp only
  rw [State.closeItem_of_wave ht, TileSt.eq_of_slotless (State.gcSlots_relands _ t).tile, State.tile_setTile, State.tile_setTile]
  exact hclosed

theorem exec_holdRestart {br : Bool} {r : Nat} (hi : (s.tile t).item = .stream h sid e n counted b w pos (.held br))
    (hr : s.holdUntil t = some r) (hn : r ≤ s.now) : exec (.holdRestart t) s =
      .next (s.setTile t { s.tile t with item := .stream h sid e n counted b 0 (max pos (r * Config.fine)) .playing }) := by
  refine congrArg Host.Outcome.next ?_
  simp only [hi, hr]
  exact if_neg (Nat.not_lt.mpr hn)

theorem exec_ringFillResume {k : BitVec 24} {g : Seg} (hg : s.seg k.toNat = some g) (hroom : s.ringRoom g.sid ≠ 0) :
    exec (.ringFillResume k) s =
      .next (s.setSeg k.toNat { g with loads := g.loads.map (fun l => { l with waiting := false }) }) := by
  refine congrArg Host.Outcome.next ?_
  rw [hg]
  exact if_neg hroom

end

/-! ## An underrun counted and timed (R123) -/

section
variable (s : State) (t c e due reason : Nat)

/-- s with an underrun of entry e at a cycle counted and timed. -/
def State.urCounted (s : State) (t e due : Nat) : State :=
  (((s.bump (Reg.SLW_UR_CNT e)).put64 (Reg.SLW_UR_TIME_LO e) (Reg.SLW_UR_TIME_HI e) (s.sysTime due)).put
    Reg.EVT_STATUS_UNDERRUN 1).monMark (0x223 + 4 * t)

theorem State.underrunLog_eq : s.underrunLog t c e due reason =
    (s.urCounted t e due).logWrite ⟨s.tsAt due, e, t, 2, true, c, reason⟩ := rfl

theorem State.underrunLog_writes : s.writes (s.underrunLog t c e due reason) [.regs, .evt, .mon] := State.underrunLog_moves.1

theorem State.urCounted_sets : s.setsFields (s.urCounted t e due)
    [(Reg.SLW_UR_CNT e, min (s.get (Reg.SLW_UR_CNT e) + 1) 0xFFFFFFFF),
     (Reg.SLW_UR_TIME_LO e, s.sysTime due % 2 ^ 32), (Reg.SLW_UR_TIME_HI e, s.sysTime due / 2 ^ 32),
     (Reg.EVT_STATUS_UNDERRUN, 1)] := by
  have h := ((((s.setsFields_refl).bumpAt (Reg.SLW_UR_CNT e) 1 ⟨rfl, rfl⟩ (by simp)).put64At (Reg.SLW_UR_TIME_LO e)
    (Reg.SLW_UR_TIME_HI e) (v := s.sysTime due) (BitVec.isLt _) (by simp [Fld.apart, Reg.SLW_UR_CNT, Reg.SLW_UR_TIME_LO])
    (by simp [Fld.apart, Reg.SLW_UR_CNT, Reg.SLW_UR_TIME_LO, Reg.SLW_UR_TIME_HI]) ⟨rfl, rfl⟩
      ⟨rfl, rfl⟩).nextAt Reg.EVT_STATUS_UNDERRUN 1
      (by simp [Fld.apart, Reg.SLW_UR_CNT, Reg.SLW_UR_TIME_LO, Reg.SLW_UR_TIME_HI, Reg.EVT_STATUS_UNDERRUN]; omega) rfl)
  exact h.of_regs (State.monMark_moves.1 .regs (by decide))

theorem State.underrunLog_get {f : Fld} (hs : f.apart Reg.EVT_STATUS_LOG_WRAP) (hl : f.apart Reg.EVT_LOG_WR) :
    (s.underrunLog t c e due reason).get f = (s.urCounted t e due).get f := by
  rw [s.underrunLog_eq, State.logWrite_get_apart _ _ hs hl]

/-- What the registers say of an underrun of entry e at a cycle. -/
def State.tellsUnderrun (s u : State) (e due : Nat) : Prop :=
  u.get (Reg.SLW_UR_CNT e) = min (s.get (Reg.SLW_UR_CNT e) + 1) 0xFFFFFFFF ∧ u.get Reg.EVT_STATUS_UNDERRUN = 1 ∧
  u.get (Reg.SLW_UR_TIME_LO e) + 2 ^ 32 * u.get (Reg.SLW_UR_TIME_HI e) = s.sysTime due

theorem State.underrunLog_tells : s.tellsUnderrun (s.underrunLog t c e due reason) e due := by
  have hset := s.urCounted_sets t e due
  refine ⟨?_, ?_, ?_⟩
  · rw [s.underrunLog_get t c e due reason (.inl (by simp only [Reg.SLW_UR_CNT, Reg.EVT_STATUS_LOG_WRAP]; omega))
      (.inl (by simp only [Reg.SLW_UR_CNT, Reg.EVT_LOG_WR]; omega))]
    exact hset.get (by simp)
  · rw [s.underrunLog_get t c e due reason (by decide) (by decide)]
    exact hset.get (by simp)
  · rw [s.underrunLog_get t c e due reason (.inl (by simp only [Reg.SLW_UR_TIME_LO, Reg.EVT_STATUS_LOG_WRAP]; omega))
      (.inl (by simp only [Reg.SLW_UR_TIME_LO, Reg.EVT_LOG_WR]; omega)),
      s.underrunLog_get t c e due reason (.inl (by simp only [Reg.SLW_UR_TIME_HI, Reg.EVT_STATUS_LOG_WRAP]; omega))
      (.inl (by simp only [Reg.SLW_UR_TIME_HI, Reg.EVT_LOG_WR]; omega)),
      hset.get (f := Reg.SLW_UR_TIME_LO e) (v := s.sysTime due % 2 ^ 32) (by simp),
      hset.get (f := Reg.SLW_UR_TIME_HI e) (v := s.sysTime due / 2 ^ 32) (by simp)]
    exact Nat.mod_add_div _ _

variable {s} in
theorem State.tellsUnderrun.of_regs {u v : State} (h : s.tellsUnderrun u e due) (hr : v.regs = u.regs) :
    s.tellsUnderrun v e due := by
  obtain ⟨hcnt, hstatus, htime⟩ := h
  exact ⟨(State.get_congr hr _).trans hcnt, (State.get_congr hr _).trans hstatus,
    by rw [State.get_congr hr, State.get_congr hr, htime]⟩

end

/-! ## An underrun handled as under HOLD or REPEAT (R124, R125) -/

section
variable {s : State} {t : Nat} {c h sid e n counted b w pos : Nat} {ph : BlockPhase} (ht : t < 8)
  (hi : (s.tile t).item = .stream h sid e n counted b w pos ph)
include ht hi

/-- On a waveform tile an item that holds is all that HOLD leaves. -/
theorem State.holdBlock_of_wave (br : Bool) : s.holdBlock t br =
    s.setTile t { s.tile t with item := .stream h sid e n counted b 0 pos (.held br) } := by
  have hstop : s.stopVec t (posCycle pos * Config.fine) = s := if_pos ht
  have hbr : s.bridgePins t = s := if_pos ht
  simp only [State.holdBlock, hi, hstop, hbr, ite_self]
  rfl

/-- The phase that an underrun of policy UPOL puts the block in, with the last block of the ring that was played. -/
def underrunPhase (policy : Nat) (last : Option Nat) : BlockPhase :=
  if policy = 1 then match last with
    | some b' => .replaying b'
    | none => .held true
  else .held false

omit ht hi in
theorem underrunPhase_of_ne {policy : Nat} (hp : policy ≠ 1) (last : Option Nat) : underrunPhase policy last = .held false := by
  rw [underrunPhase.eq_def, if_neg hp]

/-- On a waveform tile an underrun is logged, and the block in play held or replaced. -/
theorem State.underrunPlain_of_wave (policy : Nat) : ∃ reason, s.underrunPlain t c e sid pos policy =
    (s.underrunLog t c e (posCycle pos) reason).setTile t { (s.underrunLog t c e (posCycle pos) reason).tile t with
      item := .stream h sid e n counted b 0 pos (underrunPhase policy ((s.ctx c).lastBlock sid)) } := by
  have hitem : ∀ r, ((s.underrunLog t c e (posCycle pos) r).tile t).item = .stream h sid e n counted b w pos ph := fun r =>
    (congrArg TileSt.item (State.tile_of_writes (s.underrunLog_writes t c e _ r) (by decide) t)).trans hi
  by_cases hp : policy = 1
  · subst hp
    cases hlast : (s.ctx c).lastBlock sid with
    | some b' =>
      refine ⟨0x12, ?_⟩
      simp only [State.underrunPlain, hlast, hi, s.closeVec_of_wave ht, underrunPhase, if_true, State.putItem]
    | none =>
      refine ⟨0x11, ?_⟩
      simp only [State.underrunPlain, hlast, State.holdBlock_of_wave ht (hitem _), underrunPhase, if_true]
  · refine ⟨0x11, ?_⟩
    have hplain : s.underrunPlain t c e sid pos policy = (s.underrunLog t c e (posCycle pos) 0x11).holdBlock t false := by
      unfold State.underrunPlain
      dsimp only
      split
      · exact absurd rfl hp
      · exact absurd rfl hp
      · rfl
    rw [hplain, State.holdBlock_of_wave ht (hitem _), underrunPhase_of_ne hp]

end

section
variable (s : State) (t c e : Nat)

/-- What is left by an underrun logged for a reason, with the item in play on tile t replaced. -/
theorem State.underrunLog_item (x : Item) (reason due : Nat) :
    let u := (s.underrunLog t c e due reason).setTile t { (s.underrunLog t c e due reason).tile t with item := x }
    s.writes u [.regs, .tiles, .evt, .mon] ∧ s.tellsUnderrun u e due ∧ s.tileBecomes u t { s.tile t with item := x } := by
  have hw := s.underrunLog_writes t c e due reason
  have htells := s.underrunLog_tells t c e due reason
  generalize s.underrunLog t c e due reason = v at hw htells
  refine ⟨State.writes_of State.setTile_writes (by decide) (State.writes_mono hw (by decide)), htells.of_regs _ _ rfl, ?_,
    fun k hk => ?_⟩
  · rw [State.tile_setTile, State.tile_of_writes hw (by decide)]
  · rw [State.tile_setTile_other _ _ hk, State.tile_of_writes hw (by decide)]

end

/-! ## An underrun due (R123 to R126) -/

section
variable {s : State} {t : Tile} {c e pos sid : Nat} (hr : (s.tile t).running = some c)
  (hu : s.underrunAt t = some (e, pos, sid)) (hn : posCycle pos ≤ s.now) (hd : (s.tile t).diverting = none)
include hr hu hn hd

theorem exec_underrun : exec (.underrun t) s = .next (
    if s.upol c ≠ 2 then s.underrunPlain t c e sid pos (s.upol c)
    else if (s.tile t).heldDue = some (posCycle pos) then (s.setTile t { s.tile t with heldDue := none }).holdBlock t false
    else match (s.tile t).divert with
      | some i =>
        if s.filledBy t i (posCycle pos - Config.L) then
          s.setTile t { s.tile t with diverting := some ⟨e, posCycle pos, i⟩ }
        else s.underrunPlain t c e sid pos 0
      | none => s.underrunPlain t c e sid pos 0) := by
  refine congrArg Host.Outcome.next ?_
  simp only [hr, hu, hd, Option.isSome_none, Bool.false_eq_true, or_false]
  exact if_neg (Nat.not_lt.mpr hn)

/-- Under HOLD and REPEAT, and under DIVERT where no handler has landed in time, the policy acts from the due cycle. -/
theorem underrun_plain (h : s.upol c ≠ 2 ∨ ((s.tile t).heldDue ≠ some (posCycle pos) ∧
    ∀ i, (s.tile t).divert = some i → s.filledBy t i (posCycle pos - Config.L) = false)) :
    ∃ policy, exec (.underrun t) s = .next (s.underrunPlain t c e sid pos policy) ∧ (s.upol c = 1 ↔ policy = 1) := by
  have hexec := exec_underrun hr hu hn hd
  by_cases hp : s.upol c = 2
  · obtain ⟨hdue, hlate⟩ := h.resolve_left (not_not_intro hp)
    rw [if_neg (not_not_intro hp), if_neg hdue] at hexec
    refine ⟨0, hexec.trans (congrArg _ ?_), by simp [hp]⟩
    cases hi : (s.tile t).divert with
    | none => rfl
    | some i => simp only [hlate i hi, Bool.false_eq_true, if_false]
  · exact ⟨s.upol c, hexec.trans (congrArg _ (if_pos hp)), Iff.rfl⟩

end

/-! ## A divert committed (R126) -/

section
variable {s : State} {t : Tile} {c : Nat} {d : Divert}

/-- s with the divert d of tile t logged as an underrun, and to be held no more. -/
def State.divertLogged (s : State) (t c : Nat) (d : Divert) : State :=
  let v := s.setTile t { s.tile t with diverting := none }
  let u := (v.underrunLog t c d.e d.due 0x13).monMark (0x220 + 4 * t)
  u.setTile t { u.tile t with heldDue := some d.due }

theorem State.divertLogged_writes : s.writes (s.divertLogged t c d) [.regs, .tiles, .evt, .mon] :=
  State.writes_of State.setTile_writes (by decide) <| State.writes_of State.monMark_moves.1 (by decide) <|
    State.writes_of State.underrunLog_moves.1 (by decide) (State.writes_mono State.setTile_writes (by decide))

theorem State.divertLogged_tile :
    (s.divertLogged t c d).tile t = { s.tile t with diverting := none, heldDue := some d.due } := by
  rw [State.divertLogged]
  dsimp only
  rw [State.tile_setTile, State.tile_of_writes State.monMark_moves.1 (by decide),
    State.tile_of_writes State.underrunLog_moves.1 (by decide), State.tile_setTile]

theorem State.divertLogged_tells : s.tellsUnderrun (s.divertLogged t c d) d.e d.due := by
  have h := (s.setTile t { s.tile t with diverting := none }).underrunLog_tells t c d.e d.due 0x13
  exact State.tellsUnderrun.of_regs _ _ h (State.monMark_moves.1 .regs (by decide))

theorem exec_divertCommit (hr : (s.tile t).running = some c) (hd : (s.tile t).diverting = some d) (hn : d.due ≤ s.now)
    (hc : (s.tile t).catches = []) (hroom : (s.ctx c).calls.length < 16) : exec (.divertCommit t) s = .next (
      let v := s.divertLogged t c d
      v.commitCallTo t c d.due false (v.divertTo c).1 (v.divertTo c).2 (some d.slot)) := by
  have hevent : s.eventAt t d.due = none := by rw [State.eventAt, hc]; rfl
  have hcalls : ((s.divertLogged t c d).ctx c).calls.length < 16 := by
    rw [State.ctx_of_writes State.divertLogged_writes (by decide)]
    exact hroom
  refine congrArg Host.Outcome.next ?_
  simp only [hr, hd, hevent, if_neg (Nat.not_lt.mpr hn)]
  rw [← hr]
  exact if_neg (Nat.not_le.mpr hcalls)

/-- An interruption writes registers of its tile alone. -/
theorem State.interrupted_get (s : State) (t : Tile) (c n : Nat) (b : Bool) {f : Fld} (hf : 0x0C0000 ≤ f.addr) :
    (s.interrupted t c n b).get f = s.get f := by
  have hctx : f.addr ≠ (Reg.SEQ_RESUME_CTX t).addr := by simp only [Reg.SEQ_RESUME_CTX]; omega
  have hstatus : f.addr ≠ (Reg.SEQ_STATUS_PARTIAL t).addr := by simp only [Reg.SEQ_STATUS_PARTIAL]; omega
  have hput : ∀ u : State, ∀ F v, f.addr ≠ F.addr → (u.put F v).get f = u.get f := fun u F v h => u.get_put_other v h
  unfold State.interrupted
  split
  · rfl
  · dsimp only
    split
    · rw [hput _ _ _ hstatus, hput _ (Reg.SEQ_RESUME_STEP t) _ hctx, hput _ (Reg.SEQ_RESUME_OPC t) _ hctx, hput _ _ _ hctx]
    · rw [hput _ (Reg.SEQ_RESUME_STEP t) _ hctx, hput _ (Reg.SEQ_RESUME_OPC t) _ hctx, hput _ _ _ hctx]

theorem State.divertLogged_divertTo (he : d.e < 256) : (s.divertLogged t c d).divertTo c = s.divertTo c := by
  have hget : ∀ f : Fld, 0x180000 ≤ f.addr → (s.divertLogged t c d).get f = s.get f := fun f hf => by
    have hlog := (s.setTile t { s.tile t with diverting := none }).underrunLog_get t c d.e d.due 0x13 (f := f)
      (.inl (by simp only [Reg.EVT_STATUS_LOG_WRAP]; omega)) (.inl (by simp only [Reg.EVT_LOG_WR]; omega))
    have hset := ((s.setTile t { s.tile t with diverting := none }).urCounted_sets t d.e d.due).get_apart (f := f) (by
      simp only [List.map_cons, List.map_nil, List.mem_cons, List.not_mem_nil, or_false, forall_eq_or_imp, forall_eq,
        Fld.apart, Reg.SLW_UR_CNT, Reg.SLW_UR_TIME_LO, Reg.SLW_UR_TIME_HI, Reg.EVT_STATUS_UNDERRUN]
      omega)
    exact (State.get_congr (State.monMark_moves.1 .regs (by decide)) f).trans (hlog.trans hset)
  rw [State.divertTo, hget _ (by simp only [Reg.CTX_DIVERT_HI_HANDLE]; omega),
    hget _ (by simp only [Reg.CTX_DIVERT_LO]; omega), hget _ (by simp only [Reg.CTX_DIVERT_HI_OFFSET_HI]; omega), State.divertTo]

/-- A new path waits for no divert. -/
theorem State.startDead_diverting (ht : t.val < 8) (n : Nat) (m : Nat) (slot : Option Nat) :
    ((s.startDead t n m slot).tile t).diverting = none := by
  rw [State.startDead, State.cutVec_of_wave s ht, State.tile_setTile]

/-- A divert calls its handler, with an entry pushed for where the STREAM stood. -/
theorem divertCommit_calls (ht : t.val < 8) (hr : (s.tile t).running = some c) (hd : (s.tile t).diverting = some d)
    (hn : d.due ≤ s.now) (he : d.e < 256) (hc : (s.tile t).catches = []) (hroom : (s.ctx c).calls.length < 16) {g : Seg}
    (hg : s.seg (s.divertTo c).1 = some g) : Answers (.divertCommit t) s fun u =>
      u.get (Reg.SLW_UR_CNT d.e) = min (s.get (Reg.SLW_UR_CNT d.e) + 1) 0xFFFFFFFF ∧
      (u.tile t).running = some c ∧ (u.tile t).diverting = none ∧ (u.tile t).item = .dead (d.due + Config.D) c ∧
      (u.ctx c).pc = ⟨(s.divertTo c).1, g.sid, (s.divertTo c).2⟩ ∧ (u.ctx c).pos = .fresh ∧
      ∃ e : CallEnt, (u.ctx c).calls = e :: (s.ctx c).calls ∧ e.depth = (s.ctx c).loops.length := by
  have hf := exec_divertCommit hr hd hn hc hroom
  have hw := State.divertLogged_writes (s := s) (t := t) (c := c) (d := d)
  have htile := State.divertLogged_tile (s := s) (t := t) (c := c) (d := d)
  have hto := State.divertLogged_divertTo (s := s) (t := t) (c := c) he
  obtain ⟨hcnt, -, -⟩ := State.divertLogged_tells (s := s) (t := t) (c := c) (d := d)
  dsimp only at hf
  rw [hto, State.commitCallTo_eq] at hf
  generalize s.divertLogged t c d = v at hf hw htile hcnt
  have hpw := v.callPushed_writes (t := t) (c := c) (n := d.due) (rewind := false)
  have hpctx := v.callPushed_ctx (t := t) (c := c) (n := d.due) (rewind := false)
  have hpcnt : (v.callPushed t c d.due false).get (Reg.SLW_UR_CNT d.e) = v.get (Reg.SLW_UR_CNT d.e) :=
    (State.get_of_writes State.setCtx_writes (by decide) _).trans
      (v.interrupted_get t c d.due false (by simp only [Reg.SLW_UR_CNT]; omega))
  generalize v.callPushed t c d.due false = p at hf hpw hpctx hpcnt
  obtain ⟨-, hrun, -, hitem, -⟩ := State.startDead_tile (s := p) ht c d.due (some d.slot)
  have hdiv := State.startDead_diverting (s := p) ht c d.due (some d.slot)
  have hdw := State.startDead_writes (s := p) ht c d.due (some d.slot)
  generalize p.startDead t c d.due (some d.slot) = q at hf hrun hitem hdiv hdw
  have hseg : p.seg (s.divertTo c).1 = some g :=
    (State.seg_of_writes hpw (by decide) _).trans ((State.seg_of_writes hw (by decide) _).trans hg)
  rw [State.aim_of_seg hseg] at hf
  have hland := q.landAt_ctx (t := t) (c := c) ⟨(s.divertTo c).1, g.sid, (s.divertTo c).2⟩
  rw [State.ctx_of_writes hdw (by decide), hpctx, State.ctx_of_writes hw (by decide)] at hland
  have htl := q.landAt_tile (t := t) (c := c) ⟨(s.divertTo c).1, g.sid, (s.divertTo c).2⟩
  have hlw : q.writes (q.landAt t c ⟨(s.divertTo c).1, g.sid, (s.divertTo c).2⟩) [.ctxs, .tiles] :=
    State.writes_of State.gcSlots_moves.1 (by decide) (State.writes_mono State.setCtx_writes (by decide))
  have hprun : (p.tile t).running = some c := by
    rw [State.tile_of_writes hpw (by decide), htile]
    exact hr
  generalize q.landAt t c ⟨(s.divertTo c).1, g.sid, (s.divertTo c).2⟩ = u at hf hland htl hlw
  have hurun := congrArg TileSt.running htl
  have hudiv := congrArg TileSt.diverting htl
  have huitem := congrArg TileSt.item htl
  have hdepth : (v.callEntry t c d.due false).depth = (s.ctx c).loops.length := by
    rw [State.callEntry, State.ctx_of_writes hw (by decide)]
  refine ⟨_, hf, ?_, hurun.trans (hrun.trans hprun), hudiv.trans hdiv, huitem.trans hitem, ?_, ?_,
    v.callEntry t c d.due false, ?_, hdepth⟩
  · rw [State.get_of_writes hlw (by decide), State.get_of_writes hdw (by decide), hpcnt, hcnt]
  all_goals rw [hland.eq]

end

/-- Settles O41: the blocks by the item of the tile that each leaves, an underrun by what its policy makes of it, a divert as
the commit of a CALL. -/
theorem streamsPlayBlocksOrUnderrun : Obligations.StreamsPlayBlocksOrUnderrun := by
  unfold Obligations.StreamsPlayBlocksOrUnderrun
  refine ⟨fun s t => ⟨fun c hr hd hg h sid e n counted b w pos ph hi p hp hn => ⟨fun hph => ?_, fun b' hph => ?_⟩,
    fun ht h sid e n counted b w pos hi p hp => ⟨fun hmore => ?_, fun h0 hlast => ?_⟩,
    fun h sid e n counted b w pos br hi r hr hn => ?_, fun h g hg hroom => ?_⟩,
    fun s t c ht hr => ⟨fun h sid e n counted b w pos hi hu he hn hd => ⟨fun hcase => ?_, fun hp hdue => ?_,
      fun i hp hdue hi' hfill => ?_⟩, fun d hd hn he hc hroom g hg => ?_⟩⟩
  · have hexec := exec_blockPlayed hr hd hg hi hp hn
    subst hph
    have hw := State.blockRead_writes (s := s) (c := c) (sid := sid) (e := e) (b := b)
    have hstore := State.blockRead_store (s := s) (c := c) (sid := sid) (e := e) (b := b)
    have hplayed := State.blockRead_played (s := s) (c := c) (sid := sid) (e := e) (b := b)
    simp only [decide_true, Bool.true_or, if_true] at hexec
    change exec _ s = .next ((s.blockRead c sid e b).setTile t { (s.blockRead c sid e b).tile t with
      item := .stream h sid e n (counted + 1) b w pos .playing, blockDone := true }) at hexec
    generalize s.blockRead c sid e b = v at hexec hw hstore hplayed
    refine ⟨_, hexec, State.writes_of State.setTile_writes (by decide) (State.writes_mono hw (by decide)), hstore, hplayed, ?_,
      fun k hk => ?_⟩
    · rw [State.tile_setTile, State.tile_of_writes hw (by decide)]
    · rw [State.tile_setTile_other _ _ hk, State.tile_of_writes hw (by decide)]
  · have hexec := exec_blockPlayed hr hd hg hi hp hn
    subst hph
    simp only [reduceCtorEq, decide_false, Bool.false_or, Bool.false_eq_true, if_false] at hexec
    exact ⟨_, hexec, State.setTile_writes, State.tile_setTile _ _ _, fun k hk => State.tile_setTile_other _ _ hk⟩
  · rw [State.nextBlock_of_more ht hi hp hmore]
    exact ⟨State.setTile_writes, State.tile_setTile _ _ _, fun k hk => State.tile_setTile_other _ _ hk⟩
  · exact State.nextBlock_of_last ht hi hp h0 hlast
  · exact ⟨_, exec_holdRestart hi hr hn, State.setTile_writes, State.tile_setTile _ _ _,
      fun k hk => State.tile_setTile_other _ _ hk⟩
  · exact ⟨_, exec_ringFillResume hg hroom, State.setSeg_moves.1, mfind_mins_same _ _ _, fun k hk => mfind_mins_other _ _ hk⟩
  · obtain ⟨policy, hexec, hpol⟩ := underrun_plain hr hu hn hd hcase
    obtain ⟨reason, hplain⟩ := State.underrunPlain_of_wave (c := c) ht hi policy
    obtain ⟨hw, ⟨hcnt, hstatus, htime⟩, htile⟩ := s.underrunLog_item t c e
      (.stream h sid e n counted b 0 pos (underrunPhase policy ((s.ctx c).lastBlock sid))) reason (posCycle pos)
    rw [hplain] at hexec
    refine ⟨_, hexec, hw, hcnt, hstatus, htime, fun h1 => ?_, fun h1 hl => ?_, fun b' h1 hl => ?_⟩
    · rw [underrunPhase_of_ne (mt hpol.mpr h1)] at htile ⊢
      exact htile
    · rw [hpol.mp h1, hl] at htile ⊢
      exact htile
    · rw [hpol.mp h1, hl] at htile ⊢
      exact htile
  · have hexec := exec_underrun hr hu hn hd
    rw [if_neg (not_not_intro hp), if_pos hdue, State.holdBlock_of_wave ht (by rw [State.tile_setTile]; exact hi),
      State.tile_setTile] at hexec
    exact ⟨_, hexec, State.writes_of State.setTile_writes (by decide) State.setTile_writes, State.tile_setTile _ _ _,
      fun k hk => (State.tile_setTile_other _ _ hk).trans (State.tile_setTile_other _ _ hk)⟩
  · have hexec := exec_underrun hr hu hn hd
    rw [if_neg (not_not_intro hp), if_neg hdue] at hexec
    simp only [hi', hfill, if_true] at hexec
    rw [← hi'] at hexec
    exact ⟨_, hexec, State.setTile_writes, State.tile_setTile _ _ _, fun k hk => State.tile_setTile_other _ _ hk⟩
  · exact divertCommit_calls ht hr hd hn he hc hroom hg

end Sys2Proof.Machine
end

/-! # What software has left in a register in a cycle is noted with the events (R331)

A write of a stored register notes the word that it leaves, for the writes of the same cycle that follow: `State.plainWrite`
writes the events' part of the state. -/

section
namespace Sys2Proof.Machine

/-- FORCE_SAFE of channel 0 written 1 after reset notes the word. -/
theorem forceSafe_began : (match exec (.wavForceSafeSet 0 0x200) State.reset with
    | .next u => u.evt.began
    | _ => []) ≠ State.reset.evt.began := by decide

/-- Refutes O43: FORCE_SAFE of channel 0 written 1 after reset changes the events' part of the state as well, which the
statement lists among those that stay. -/
theorem not_outputsAndStagingFollowTheRegisters : ¬ Obligations.OutputsAndStagingFollowTheRegisters := by
  unfold Obligations.OutputsAndStagingFollowTheRegisters
  rintro ⟨hwrites, -⟩
  obtain ⟨hforce, -⟩ := hwrites State.reset 0x200
  obtain ⟨u, hu, hw, -⟩ := hforce 0 (.wavForceSafeSet 0 0x200) (.inl rfl)
  have h := forceSafe_began
  rw [hu] at h
  exact h (congrArg Events.began (hw .evt (by decide)))

/-- A synchronising reset of channel 0 requested after reset, with an update group, notes the word. -/
theorem syncRequest_began : (match exec (.capSyncRequest 0 0x101) State.reset with
    | .next u => u.evt.began
    | _ => []) ≠ State.reset.evt.began := by decide

/-- Refutes O45: a synchronising reset of channel 0 requested after reset, with an update group written, changes the events'
part of the state as well, which the statement lists among those that stay. -/
theorem not_captureChainsRestart : ¬ Obligations.CaptureChainsRestart := by
  unfold Obligations.CaptureChainsRestart
  intro h
  obtain ⟨-, hsync, -⟩ := h State.reset 0
  obtain ⟨u, hu, hw, -⟩ := hsync 0x101 (by decide) (by decide)
  have hb := syncRequest_began
  rw [hu] at hb
  exact hb (congrArg Events.began (hw .evt (by decide)))

end Sys2Proof.Machine
end

/-! # A field that a write of its register stores (R317, R331) -/

section
namespace Sys2Proof.Machine

theorem wordWrite_append (b was : Nat) (l m : List FieldD) (old v : Nat) :
    wordWrite b was (l ++ m) old v = wordWrite b was m (wordWrite b was l old v) v := by
  induction l generalizing old with
  | nil => rfl
  | cons f l ih => exact ih _

/-- The fields that a write goes through leave the bits of no one of them. -/
theorem testBit_wordWrite_apart {b was i : Nat} {l : List FieldD} (h : ∀ f ∈ l, i < f.lo ∨ f.lo + f.n ≤ i) (old v : Nat) :
    (wordWrite b was l old v).testBit i = old.testBit i := by
  induction l generalizing old with
  | nil => rfl
  | cons f l ih =>
    rw [wordWrite, ih (fun g hg => h g (List.mem_cons_of_mem _ hg)),
      testBit_fieldWrite_apart _ _ _ _ _ (h f List.mem_cons_self)]

/-- A field that takes the value written, where the fields after it lie apart. -/
theorem fieldOf_wordWrite {b was : Nat} {l m : List FieldD} {f : FieldD}
    (hacc : f.acc = .rws ∨ (f.acc = .rw ∧ countsUp b f.lo = false))
    (hm : ∀ g ∈ m, g.lo + g.n ≤ f.lo ∨ f.lo + f.n ≤ g.lo) (old v : Nat) :
    fieldOf (wordWrite b was (l ++ f :: m) old v) f.lo f.n = fieldOf v f.lo f.n := by
  refine Nat.eq_of_testBit_eq fun i => ?_
  rw [testBit_fieldOf, testBit_fieldOf]
  by_cases hi : i < f.n
  · rw [wordWrite_append, wordWrite, testBit_wordWrite_apart (fun g hg => by have := hm g hg; omega),
      testBit_fieldWrite b was _ v f hi, if_pos hacc]
  · simp [hi]

theorem fieldOf_ofNat32 {lo n : Nat} (h : lo + n ≤ 32) (x : Nat) : fieldOf (BitVec.ofNat 32 x).toNat lo n = fieldOf x lo n := by
  refine Nat.eq_of_testBit_eq fun i => ?_
  rw [testBit_fieldOf, testBit_fieldOf, BitVec.toNat_ofNat, Nat.testBit_mod_two_pow]
  by_cases hi : i < n
  · simp [hi, show lo + i < 32 by omega]
  · simp [hi]

/-- Whether a field of a register takes the value that a write of the register gives it: the fields that the map lists after
it lie apart, and hardware does not count it up. -/
def takesWrite (a lo n : Nat) : Bool :=
  match regAt a with
  | none => false
  | some (d, _, _) =>
    match d.flds.dropWhile (fun f => !decide (f.lo = lo ∧ f.n = n)) with
    | [] => false
    | f :: m => (f.acc == .rws || (f.acc == .rw && !countsUp d.base f.lo)) && decide (lo + n ≤ 32) &&
        m.all (fun g => decide (g.lo + g.n ≤ lo ∨ lo + n ≤ g.lo))

/-- What a write leaves in a field that takes its value. -/
theorem State.plainWrite_get (s : State) {F : Fld} (h : takesWrite F.addr F.lo F.n = true) (v : Nat) :
    (s.plainWrite F.addr v).get F = fieldOf v F.lo F.n := by
  unfold takesWrite at h
  split at h
  next => cases h
  next d i j hreg =>
    split at h
    next => cases h
    next f m hdrop =>
      obtain ⟨l, hl⟩ : ∃ l, d.flds = l ++ f :: m := ⟨_, (hdrop ▸ List.takeWhile_append_dropWhile).symm⟩
      have hf : f.lo = F.lo ∧ f.n = F.n := by
        have := List.head_dropWhile_not (fun g : FieldD => !decide (g.lo = F.lo ∧ g.n = F.n)) (l := d.flds)
          (by rw [hdrop]; exact List.cons_ne_nil _ _)
        simp only [hdrop, List.head_cons] at this
        simpa using this
      obtain ⟨hlo, hn⟩ := hf
      simp only [Bool.and_eq_true, Bool.or_eq_true, beq_iff_eq, Bool.not_eq_eq_eq_not, Bool.not_true, decide_eq_true_eq,
        List.all_eq_true] at h
      obtain ⟨⟨hacc, h32⟩, hm⟩ := h
      rw [State.get, s.plainWrite_regWord hreg, fieldOf_ofNat32 h32, hl, ← hlo, ← hn]
      rw [← hlo, ← hn] at hm
      exact fieldOf_wordWrite hacc hm _ _

/-- A field of another register. -/
theorem State.plainWrite_get_other (s : State) {a : Nat} (ha : (regAt a).isSome = true) (v : Nat) {F : Fld} (hF : F.addr ≠ a) :
    (s.plainWrite a v).get F = s.get F := by
  obtain ⟨⟨d, i, j⟩, h⟩ := Option.isSome_iff_exists.mp ha
  exact congrArg (fun w : Word => fieldOf w.toNat F.lo F.n) (s.plainWrite_regWord_other h v hF)

end Sys2Proof.Machine
end

/-! # Buffer entries (R194, R230 to R232, R235) -/

section
namespace Sys2Proof.Machine

/-- What a capture channel or a pin group holds of the recordings of a buffer entry. -/
structure BufSt where
  recd : Option Recd
  drains : List Recd
  armed : Bool
  stopCyc : Option Nat

/-- What is held of the recordings of buffer entry b. -/
def State.buf (s : State) (b : Nat) : BufSt :=
  if b < 8 then ⟨(s.capture b).recd, (s.capture b).drains, (s.capture b).armed, (s.capture b).stopCyc⟩
  else ⟨(s.group (b - 8)).recd, (s.group (b - 8)).drains, (s.group (b - 8)).armed, (s.group (b - 8)).stopCyc⟩

section
variable (s : State) (b : Nat)

theorem State.recOf_eq : s.recOf b = (s.buf b).recd := by
  unfold State.recOf State.buf
  split <;> rfl

theorem State.drainsOf_eq : s.drainsOf b = (s.buf b).drains := by
  unfold State.drainsOf State.buf
  split <;> rfl

theorem State.armedOf_eq : s.armedOf b = (s.buf b).armed := by
  unfold State.armedOf State.buf
  split <;> rfl

theorem State.stoppedNow_eq : s.stoppedNow b = decide ((s.buf b).stopCyc = some s.now) := by
  unfold State.stoppedNow State.buf
  split <;> rfl

theorem State.buf_setRec (r : Option Recd) : (s.setRec b r).buf b = { s.buf b with recd := r } := by
  by_cases h : b < 8 <;> simp [State.setRec, State.buf, h]

theorem State.buf_setDrains (l : List Recd) : (s.setDrains b l).buf b = { s.buf b with drains := l } := by
  by_cases h : b < 8 <;> simp [State.setDrains, State.buf, h]

theorem State.buf_setArmed (a : Bool) : (s.setArmed b a).buf b = { s.buf b with armed := a } := by
  by_cases h : b < 8 <;> simp [State.setArmed, State.buf, h]

theorem State.buf_markStop : (s.markStop b).buf b = { s.buf b with stopCyc := some s.now } := by
  by_cases h : b < 8 <;> simp [State.markStop, State.buf, h]

end

theorem State.buf_congr {s t : State} (hcap : t.cap = s.cap) (hgrp : t.grp = s.grp) (b : Nat) : t.buf b = s.buf b := by
  simp only [State.buf, State.capture, State.group, hcap, hgrp]

theorem State.buf_of_writes {s t : State} {W : List Piece} (h : s.writes t W) (hW : .cap ∉ W ∧ .grp ∉ W) (b : Nat) :
    t.buf b = s.buf b :=
  State.buf_congr (h .cap hW.1) (h .grp hW.2) b

theorem State.buf_put (s : State) (b : Nat) (F : Fld) (v : Nat) : (s.put F v).buf b = s.buf b := State.buf_congr rfl rfl b

/-! ## What a start, an end and a stop leave -/

section
variable (s : State) (b : Nat)

/-- The fields that report the status of a recording of buffer entry b. -/
def statusFields (b x : Nat) : List (Fld × Nat) :=
  (Reg.CBUF_STATUS_STS b, x) :: if b < 8 then [] else [(Reg.PCAP_STATUS_STS (b - 8), x)]

theorem statusFields_apart {b x : Nat} {f : Fld} (h : f.apart (Reg.CBUF_STATUS_STS b))
    (hp : f.apart (Reg.PCAP_STATUS_STS (b - 8))) : ∀ g ∈ (statusFields b x).map Prod.fst, f.apart g := by
  unfold statusFields
  split <;> simp [h, hp]

theorem State.recStatus_setsFields (e : Sts) : s.setsFields (s.recStatus b e) (statusFields b e.code) := by
  have hput := s.setsFields_refl.put (Reg.CBUF_STATUS_STS b) e.code (by simp [Reg.CBUF_STATUS_STS]) (Sts.code_lt e) (by simp)
  unfold State.recStatus statusFields
  split
  · exact hput
  · refine hput.put _ _ (by simp [Reg.PCAP_STATUS_STS]) (Sts.code_lt e) ?_
    simp [Fld.apart, Reg.CBUF_STATUS_STS, Reg.PCAP_STATUS_STS]
    omega

theorem State.recStatus_get (e : Sts) : (s.recStatus b e).get (Reg.CBUF_STATUS_STS b) = e.code :=
  (s.recStatus_setsFields b e).get List.mem_cons_self

variable {s b}

theorem State.recState_lt (w : Nat) : s.recState b w < 2 ^ 3 := by
  unfold State.recState
  repeat' split
  all_goals decide

/-- A start whose checks pass: the recording before it goes on to drain. -/
theorem State.recStart_of_ok {sid : Nat} (h : s.recCheck b = .ok sid) :
    (s.recStart b).mc = s.memWake.mc ∧
    (s.recStart b).buf b = { s.buf b with
      recd := some ⟨s.recHandle b, sid, 0, 0, none, none, none, false, 0, [], s.now,
        (s.get (Reg.CBUF_STATUS_STS b), s.get (Reg.CBUF_STATUS_STATE b)), 0⟩
      drains := s.drainsOf b ++ (s.recOf b).toList } ∧
    (s.recStart b).get (Reg.CBUF_STATUS_STS b) = Sts.ok.code ∧
    (s.recStart b).get (Reg.CBUF_STATUS_STATE b) = s.recState b 0 := by
  simp only [State.recStart, h]
  generalize hrec : some (_ : Recd) = r
  generalize hd : s.drainsOf b ++ _ = l
  have hbuf : ((s.setDrains b l).setRec b r).buf b = { s.buf b with recd := r, drains := l } := by
    rw [State.buf_setRec, State.buf_setDrains]
  have hregs : ((s.setDrains b l).setRec b r).regs = s.regs :=
    (State.setRec_moves.1 .regs (by decide)).trans (State.setDrains_moves.1 .regs (by decide))
  have hmc : ((s.setDrains b l).setRec b r).mc = s.mc :=
    (State.setRec_moves.1 .mc (by decide)).trans (State.setDrains_moves.1 .mc (by decide))
  have hnow : ((s.setDrains b l).setRec b r).now = s.now :=
    (State.setRec_moves.1 .now (by decide)).trans (State.setDrains_moves.1 .now (by decide))
  generalize (s.setDrains b l).setRec b r = t at *
  have hsets := ((State.setsFields_nil_of_regs hregs).trans (t.recStatus_setsFields b .ok) (by simp)).put
    (Reg.CBUF_STATUS_STATE b) (s.recState b 0) (by simp [Reg.CBUF_STATUS_STATE]) (State.recState_lt 0) (by
      unfold statusFields
      split <;> simp [Fld.apart, Reg.CBUF_STATUS_STATE, Reg.CBUF_STATUS_STS, Reg.PCAP_STATUS_STS])
  have hw : t.writes ((t.recStatus b .ok).put (Reg.CBUF_STATUS_STATE b) (s.recState b 0)) [.regs] :=
    (State.moves_of State.put_moves (by decide) State.recStatus_moves).1
  generalize (t.recStatus b .ok).put (Reg.CBUF_STATUS_STATE b) (s.recState b 0) = u at *
  refine ⟨State.memWake_mc_congr ((hw .mc (by decide)).trans hmc) ((hw .now (by decide)).trans hnow)
    (hsets.get_apart ?_) (hsets.get_apart ?_), ?_, hsets.get (by simp [statusFields]), hsets.get (by simp)⟩
  · unfold statusFields
    split <;> simp [Fld.apart, Reg.MEM_SR_ACTIVE, Reg.CBUF_STATUS_STATE, Reg.CBUF_STATUS_STS, Reg.PCAP_STATUS_STS]
  · unfold statusFields
    split <;> simp [Fld.apart, Reg.GLB_STATE_PROFILE, Reg.CBUF_STATUS_STATE, Reg.CBUF_STATUS_STS, Reg.PCAP_STATUS_STS] <;>
      omega
  · exact (State.buf_of_writes hw (by decide) b).trans hbuf

/-- What an end of a recording with status e leaves. -/
structure State.Ends (s u : State) (b : Nat) (r : Recd) (e : Sts) : Prop where
  buf : u.buf b = { s.buf b with recd := some { r with ended := true, sts := e.code, endAt := s.now } }
  sts : u.get (Reg.CBUF_STATUS_STS b) = e.code
  recLen : (u.store r.sid).recLen = min (ceilDiv r.units 4) (s.store r.sid).len

/-- What was recorded, entered into the buffer's registers, a partial last word written. -/
def State.recCounts (s : State) (b : Nat) (r : Recd) : State :=
  let words := ceilDiv r.units 4
  let len := (s.store r.sid).len
  let s1 := if r.units % 4 = 0 then s else s.storeWord r.sid (s.recOffset b r.sid (r.units / 4)) r.acc
  let s2 := s1.put64 (Reg.CBUF_COUNT_LO b) (Reg.CBUF_COUNT_HI b) (Nat.min words len)
  let s3 := s2.put64 (Reg.CBUF_FIRST_LO b) (Reg.CBUF_FIRST_HI b) (if len < words then words % len else 0)
  match r.trig with
  | none => s3
  | some u =>
    (s3.put64 (Reg.CBUF_TRIG_LO b) (Reg.CBUF_TRIG_HI b) (s3.recOffset b r.sid (u / 4))).put (Reg.CBUF_STATUS_TSAMP b) (u % 4)

theorem State.recCounts_writes (s : State) (b : Nat) (r : Recd) : s.writes (s.recCounts b r) [.regs, .mem, .mc] := by
  have hword (o : Nat) : s.moves (if r.units % 4 = 0 then s else s.storeWord r.sid o r.acc) [.regs, .mem, .mc] := by
    split
    · exact State.moves_refl
    · exact State.moves_of State.storeWord_moves (by decide) State.moves_refl
  have hcount := fun n m => State.moves_of (State.put64_moves (x1 := Reg.CBUF_FIRST_LO b) (x2 := Reg.CBUF_FIRST_HI b) (x3 := m))
    (by decide) (State.moves_of (State.put64_moves (x1 := Reg.CBUF_COUNT_LO b) (x2 := Reg.CBUF_COUNT_HI b) (x3 := n))
      (by decide) (hword (s.recOffset b r.sid (r.units / 4))))
  unfold State.recCounts
  cases r.trig
  · exact (hcount _ _).1
  · exact (State.moves_of State.put_moves (by decide) (State.moves_of State.put64_moves (by decide) (hcount _ _))).1

theorem State.recEnd_ends {r : Recd} (h : s.recOf b = some r) (hr : r.ended = false) (e : Sts) :
    s.Ends (s.recEnd b e) b r e := by
  have heq : s.recEnd b e = (((s.recCounts b r).setStore r.sid { (s.recCounts b r).store r.sid with
      recLen := Nat.min (ceilDiv r.units 4) (s.store r.sid).len }).setRec b
        (some { r with ended := true, sts := e.code, endAt := s.now })).recStatus b e := by
    simp only [State.recEnd, h, hr, Bool.false_eq_true, if_false, State.recCounts] <;> cases r.trig <;> rfl
  have hw := s.recCounts_writes b r
  have hbuf := State.buf_of_writes hw (by decide) b
  have hstore := (State.buf_of_writes (State.setStore_moves (s := s.recCounts b r) (x1 := r.sid)
    (x2 := { (s.recCounts b r).store r.sid with recLen := Nat.min (ceilDiv r.units 4) (s.store r.sid).len })).1
    (by decide) b).trans hbuf
  rw [heq]
  refine ⟨?_, State.recStatus_get _ _ _, ?_⟩
  · rw [State.buf_of_writes State.recStatus_moves.1 (by decide), State.buf_setRec, hstore]
  · rw [State.store_of_writes State.recStatus_moves.1 (by decide), State.store_of_writes State.setRec_moves.1 (by decide),
      State.store_setStore]

theorem State.recOf_markStop : (s.markStop b).recOf b = s.recOf b := by
  rw [State.recOf_eq, State.buf_markStop, State.recOf_eq]

/-- A start and a stop of one cycle: nothing of the start remains (R202, R235). -/
theorem State.recHalt_of_now {r : Recd} (h : s.recOf b = some r) (hr : r.ended = false) (hn : r.from_ = s.now) :
    (s.recHalt b).buf b = { s.buf b with recd := none, stopCyc := some s.now } := by
  have hrec : ((s.markStop b).setRec b none).buf b = { s.buf b with recd := none, stopCyc := some s.now } := by
    rw [State.buf_setRec, State.buf_markStop]
  simp only [State.recHalt, State.recOf_markStop, h, hr, hn, Bool.not_false, decide_true, Bool.and_self, if_true]
  split <;> rw [← hrec] <;> simp [State.buf_put]

/-- A stop of a recording that did not start in its cycle. -/
theorem State.recHalt_of_earlier {r : Recd} (h : s.recOf b = some r) (hn : r.from_ ≠ s.now) :
    s.recHalt b = (s.markStop b).recStop b := by
  simp [State.recHalt, State.recOf_markStop, h, hn]

/-- A stop of a recording that takes no vector cycle in progress first. -/
theorem State.recStop_of_end {r : Recd} (h : s.recOf b = some r) (hr : r.ended = false)
    (hvc : 8 ≤ b → ∀ c, (s.group (b - 8)).vc = some c → c.taken = false) : s.recStop b = s.recEnd b .ok := by
  simp only [State.recStop, h, hr, Bool.false_eq_true, if_false]
  split
  · rfl
  · split
    next c hc => rw [hvc (by omega) c hc]; rfl
    next => rfl

/-- A stop of a pin group's recording lets the vector cycle in progress be recorded first. -/
theorem State.recStop_of_taken {r : Recd} (h : s.recOf b = some r) (hr : r.ended = false) (hb : 8 ≤ b) {c : VCyc}
    (hc : (s.group (b - 8)).vc = some c) (ht : c.taken = true) :
    s.recStop b = s.setRec b (some { r with stopAt := some s.now }) := by
  simp [State.recStop, h, hr, hc, ht, Nat.not_lt.mpr hb]

end

end Sys2Proof.Machine
end

/-! # A write of a recording's control (R194, R230, R235) -/

section
namespace Sys2Proof.Machine

theorem fieldOf_bit (v : Word) (i : Nat) : fieldOf v.toNat i 1 = bit (v.getLsbD i) := by
  simp only [fieldOf, BitVec.getLsbD, Nat.testBit_eq_decide_div_mod_eq, bit]
  split <;> simp_all

theorem recCtrl_regs : (∀ c : Fin 8, (regAt (Reg.CAP_REC_CTRL_START c).addr).isSome = true ∧
      takesWrite (Reg.CAP_REC_CTRL_START_SRC c).addr 8 2 = true) ∧
    ∀ g : Fin 8, (regAt (Reg.PCAP_CTRL_START g).addr).isSome = true ∧
      takesWrite (Reg.PCAP_CTRL_START_SRC g).addr 8 2 = true := by
  decide

theorem cbufCfg_regs : ∀ b : Fin 16, takesWrite (Reg.CBUF_CFG_TRIG_SRC b).addr 4 2 = true := by decide

/-- The commands that write the recording control of buffer entry b. -/
theorem exec_recCtrl {b : BufNo} {v : Word} {i : Instr} (s : State)
    (h : ((∃ c : CapCh, b.val = c.val ∧ i = .capRecordStart c v) ∨ ∃ g : Grp, b.val = 8 + g.val ∧ i = .pcapStart g v) ∨
      (∃ c : CapCh, b.val = c.val ∧ i = .capRecordStop c v) ∨ ∃ g : Grp, b.val = 8 + g.val ∧ i = .pcapStop g v) :
    exec i s = .next (s.recCtrlWrite b v) := by
  rcases h with (⟨c, hb, rfl⟩ | ⟨g, hb, rfl⟩) | ⟨c, hb, rfl⟩ | ⟨g, hb, rfl⟩ <;> rw [hb] <;> rfl

section
variable (s : State) (b : BufNo) (v : Word)

theorem State.recCtrl_startSrc : (s.plainWrite (recCtrl b).addr v.toNat).startSrc b = fieldOf v.toNat 8 2 := by
  unfold State.startSrc recCtrl
  split
  next h => exact s.plainWrite_get (F := Reg.CAP_REC_CTRL_START_SRC b) (recCtrl_regs.1 ⟨b, h⟩).2 _
  next h => exact s.plainWrite_get (F := Reg.PCAP_CTRL_START_SRC (b - 8)) (recCtrl_regs.2 ⟨b - 8, by omega⟩).2 _

theorem State.recCtrl_recHandle : (s.plainWrite (recCtrl b).addr v.toNat).recHandle b = s.recHandle b := by
  unfold State.recHandle recCtrl
  split
  next h => exact s.plainWrite_get_other (recCtrl_regs.1 ⟨b, h⟩).1 _ (by simp [Reg.CAP_HANDLE, Reg.CAP_REC_CTRL_START])
  next h => exact s.plainWrite_get_other (recCtrl_regs.2 ⟨b - 8, by omega⟩).1 _ (by simp [Reg.PCAP_HANDLE, Reg.PCAP_CTRL_START])

theorem State.plainWrite_buf (a n : Nat) : (s.plainWrite a n).buf b = s.buf b :=
  State.buf_of_writes State.plainWrite_moves.1 (by decide) b

theorem State.plainWrite_now (a n : Nat) : (s.plainWrite a n).now = s.now := State.plainWrite_moves.1 .now (by decide)

theorem State.setArmed_vc (k : Nat) (a : Bool) (g : Nat) : ((s.setArmed k a).group g).vc = (s.group g).vc := by
  unfold State.setArmed
  split
  · rfl
  · by_cases h : g = k - 8
    · subst h
      simp
    · rw [State.group_setGroup_other _ _ h]

theorem State.markStop_vc (k g : Nat) : ((s.markStop k).group g).vc = (s.group g).vc := by
  unfold State.markStop
  split
  · rfl
  · by_cases h : g = k - 8
    · subst h
      simp
    · rw [State.group_setGroup_other _ _ h]

variable {v}

theorem State.recCtrlWrite_start (h0 : v.getLsbD 0 = true) (h1 : v.getLsbD 1 = false) : s.recCtrlWrite b v =
    if fieldOf v.toNat 8 2 = 0 then (s.plainWrite (recCtrl b).addr v.toNat).recGo b
    else (s.plainWrite (recCtrl b).addr v.toNat).setArmed b true := by
  have hodd : v.toNat % 2 = 1 := by simpa [fieldOf, h0, bit] using fieldOf_bit v 0
  simp only [State.recCtrlWrite, State.recCtrl_startSrc]
  rw [if_neg (by rw [fieldOf_bit, h1]; decide), if_pos hodd]

theorem State.recGo_eq : (s.plainWrite (recCtrl b).addr v.toNat).recGo b =
    if s.stoppedNow b then s.plainWrite (recCtrl b).addr v.toNat else (s.plainWrite (recCtrl b).addr v.toNat).recStart b := by
  rw [State.recGo, State.stoppedNow_eq, State.stoppedNow_eq, s.plainWrite_buf, s.plainWrite_now]

/-- The state in which a stop of buffer entry b is taken. -/
def State.disarmed (s : State) (b : Nat) (v : Word) : State := (s.plainWrite (recCtrl b).addr v.toNat).setArmed b false

theorem State.recCtrlWrite_stop (h : v.getLsbD 1 = true) : s.recCtrlWrite b v = (s.disarmed b v).recHalt b := by
  simp only [State.recCtrlWrite, State.disarmed]
  rw [if_pos (by rw [fieldOf_bit, h]; rfl)]

theorem State.disarmed_writes : s.writes (s.disarmed b v) [.regs, .evt, .wrote, .grp, .cap] :=
  (State.moves_of State.setArmed_moves (by decide) (State.moves_mono State.plainWrite_moves (by decide))).1

theorem State.disarmed_buf : (s.disarmed b v).buf b = { s.buf b with armed := false } := by
  rw [State.disarmed, State.buf_setArmed, s.plainWrite_buf]

theorem State.disarmed_vc (g : Nat) : ((s.disarmed b v).group g).vc = (s.group g).vc := by
  rw [State.disarmed, State.setArmed_vc, State.group_of_writes State.plainWrite_moves.1 (by decide)]

theorem State.recTrigger_open {ts : Ts} {r : Recd} (h : s.recOf b = some r) (hr : r.ended = false) (ht : r.trigTs = none)
    (hs : r.stopAt = none) (ho : s.trigOpen b (r.units / 4) = true) :
    s.writes (s.recTrigger b ts) [.regs, .grp, .cap] ∧ s.setsFields (s.recTrigger b ts) [(Reg.CBUF_STATUS_STATE b, 3)] ∧
    (s.recTrigger b ts).recOf b = some { r with trigTs := some ts, trig := unitFrom ts r.insts } := by
  have heq : s.recTrigger b ts = (s.setRec b (some { r with trigTs := some ts, trig := unitFrom ts r.insts })).put
      (Reg.CBUF_STATUS_STATE b) 3 := by
    simp [State.recTrigger, h, hr, ht, hs, ho]
  rw [heq]
  refine ⟨State.writes_of State.put_writes (by decide) (State.writes_mono State.setRec_moves.1 (by decide)),
    (State.setsFields_nil_of_regs (State.setRec_moves.1 .regs (by decide))).next (Reg.CBUF_STATUS_STATE b) 3 rfl, ?_⟩
  rw [State.recOf_eq, State.buf_put, State.buf_setRec]

theorem State.recTrigger_early {ts : Ts} {r : Recd} (h : s.recOf b = some r) (hr : r.ended = false) (ht : r.trigTs = none)
    (hs : r.stopAt = none) (ho : s.trigOpen b (r.units / 4) = false) :
    s.setsOnly (s.recTrigger b ts) [(Reg.CBUF_STATUS_EARLY b, 1)] := by
  have heq : s.recTrigger b ts = s.put (Reg.CBUF_STATUS_EARLY b) 1 := by
    simp [State.recTrigger, h, hr, ht, hs, ho]
  rw [heq]
  exact s.setsOnly_refl.next (Reg.CBUF_STATUS_EARLY b) 1 rfl

end

/-! ## What the commands answer -/

section
variable {s : State} {b : BufNo} {v : Word} {i : Instr}

section
variable (h : ((∃ c : CapCh, b.val = c.val ∧ i = .capRecordStart c v) ∨ ∃ g : Grp, b.val = 8 + g.val ∧ i = .pcapStart g v) ∨
      (∃ c : CapCh, b.val = c.val ∧ i = .capRecordStop c v) ∨ ∃ g : Grp, b.val = 8 + g.val ∧ i = .pcapStop g v)
include h

section
variable (h0 : v.getLsbD 0 = true) (h1 : v.getLsbD 1 = false)
include h0 h1

theorem recCtrl_arms (hsrc : fieldOf v.toNat 8 2 ≠ 0) : Answers i s fun u =>
    (s.plainWrite (recCtrl b).addr v.toNat).writes u [.grp, .cap] ∧ u.armedOf b = true := by
  refine ⟨_, (exec_recCtrl s h).trans (congrArg _ ((s.recCtrlWrite_start b h0 h1).trans (if_neg hsrc))),
    State.setArmed_moves.1, ?_⟩
  rw [State.armedOf_eq, State.buf_setArmed]

theorem recCtrl_stopped (hsrc : fieldOf v.toNat 8 2 = 0) (hst : s.stoppedNow b = true) : Answers i s fun u =>
    u = s.plainWrite (recCtrl b).addr v.toNat :=
  ⟨_, (exec_recCtrl s h).trans (congrArg _ ((s.recCtrlWrite_start b h0 h1).trans (if_pos hsrc))),
    (s.recGo_eq b).trans (if_pos hst)⟩

theorem exec_recStart (hsrc : fieldOf v.toNat 8 2 = 0) (hst : s.stoppedNow b = false) :
    exec i s = .next ((s.plainWrite (recCtrl b).addr v.toNat).recStart b) :=
  (exec_recCtrl s h).trans (congrArg _ (((s.recCtrlWrite_start b h0 h1).trans (if_pos hsrc)).trans
    ((s.recGo_eq b).trans (if_neg (ne_true_of_eq_false hst)))))

end

theorem exec_recHalt (h1 : v.getLsbD 1 = true) : exec i s = .next ((s.disarmed b v).recHalt b) :=
  (exec_recCtrl s h).trans (congrArg _ (s.recCtrlWrite_stop b h1))

end

section
variable {r : Recd} (hrec : s.recOf b = some r)
include hrec

theorem State.disarmed_recOf : (s.disarmed b v).recOf b = some r := by
  rw [State.recOf_eq, s.disarmed_buf, ← State.recOf_eq, hrec]

theorem State.disarmed_halt_now (hr : r.ended = false) (hn : r.from_ = s.now) : let u := (s.disarmed b v).recHalt b
    u.armedOf b = false ∧ u.recOf b = none ∧ u.stoppedNow b = true := by
  have hnow : (s.disarmed b v).now = s.now := (s.disarmed_writes b) .now (by decide)
  have hbuf := State.recHalt_of_now (State.disarmed_recOf (v := v) hrec) hr (hn.trans hnow.symm)
  have hnow' : ((s.disarmed b v).recHalt b).now = (s.disarmed b v).now := State.recHalt_moves.1 .now (by decide)
  intro u
  rw [State.armedOf_eq, State.recOf_eq, State.stoppedNow_eq, hbuf, s.disarmed_buf, hnow']
  exact ⟨rfl, rfl, decide_eq_true rfl⟩

variable (hn : r.from_ ≠ s.now)
include hn

/-- The state in which a recording that did not start in this cycle stops. -/
theorem State.disarmed_halt : (s.disarmed b v).recHalt b = ((s.disarmed b v).markStop b).recStop b ∧
    ((s.disarmed b v).markStop b).recOf b = some r ∧
    ((s.disarmed b v).markStop b).buf b = { s.buf b with armed := false, stopCyc := some s.now } ∧
    s.writes ((s.disarmed b v).markStop b) [.regs, .evt, .wrote, .grp, .cap] := by
  have hnow : (s.disarmed b v).now = s.now := (s.disarmed_writes b) .now (by decide)
  have hrec' := State.disarmed_recOf (v := v) hrec
  refine ⟨State.recHalt_of_earlier hrec' (fun e => hn (e.trans hnow)), State.recOf_markStop.trans hrec', ?_,
    State.writes_of State.markStop_moves.1 (by decide) (s.disarmed_writes b)⟩
  rw [State.buf_markStop, s.disarmed_buf, hnow]

variable (hr : r.ended = false)
include hr

theorem State.disarmed_halt_ends (hvc : 8 ≤ b.val → ∀ c, (s.group (b.val - 8)).vc = some c → c.taken = false) :
    let u := (s.disarmed b v).recHalt b
    u.armedOf b = false ∧ u.recOf b = some { r with ended := true, sts := Sts.ok.code, endAt := s.now } ∧
      u.get (Reg.CBUF_STATUS_STS b) = Sts.ok.code ∧
      (u.store r.sid).recLen = min ((r.units + 3) / 4) (s.store r.sid).len := by
  obtain ⟨heq, hrec', hbuf, hw⟩ := State.disarmed_halt (v := v) hrec hn
  have hend := State.recEnd_ends hrec' hr .ok
  rw [← State.recStop_of_end hrec' hr (fun hb c hc => hvc hb c (by
    rwa [State.markStop_vc, s.disarmed_vc] at hc)), ← heq] at hend
  intro u
  refine ⟨?_, ?_, hend.sts, hend.recLen.trans ?_⟩
  · rw [State.armedOf_eq, hend.buf, hbuf]
  · rw [State.recOf_eq, hend.buf, hw .now (by decide)]
  · rw [State.store_of_writes hw (by decide)]
    rfl

theorem State.disarmed_halt_waits {c : VCyc} (hb : 8 ≤ b.val) (hc : (s.group (b.val - 8)).vc = some c)
    (ht : c.taken = true) : let u := (s.disarmed b v).recHalt b
    u.armedOf b = false ∧ u.recOf b = some { r with stopAt := some s.now } := by
  obtain ⟨heq, hrec', hbuf, hw⟩ := State.disarmed_halt (v := v) hrec hn
  have hc' : (((s.disarmed b v).markStop b).group (b.val - 8)).vc = some c := by
    rw [State.markStop_vc, s.disarmed_vc, hc]
  have hstop := heq.trans (State.recStop_of_taken hrec' hr hb hc' ht)
  intro u
  rw [State.armedOf_eq, State.recOf_eq, show u = _ from hstop, State.buf_setRec, hbuf, hw .now (by decide)]
  exact ⟨rfl, rfl⟩

end

/-- The recording has reached its end of itself. -/
theorem exec_recordingEnd {r : Recd} (hrec : s.recOf b = some r) (hr : r.ended = false) (hf : s.recFull b r = true) :
    exec (.recordingEnd b) s = .next (s.recEnd b .ok) := by
  refine congrArg Host.Outcome.next ?_
  simp [hrec, hr, hf]

/-- The last recording of a buffer entry has drained. -/
theorem recordingDrain_last {r : Recd} (hd : s.drainsOf b = []) (hrec : s.recOf b = some r) (hr : r.ended = true) :
    Answers (.recordingDrainComplete b) s fun u =>
      s.writes u [.regs, .grp, .cap] ∧ s.setsFields u [(Reg.CBUF_STATUS_STATE b, 4)] ∧ u.recOf b = none := by
  refine ⟨(s.setRec b none).put (Reg.CBUF_STATUS_STATE b) 4, congrArg Host.Outcome.next ?_,
    State.writes_of State.put_writes (by decide) (State.writes_mono State.setRec_moves.1 (by decide)),
    (State.setsFields_nil_of_regs (State.setRec_moves.1 .regs (by decide))).next (Reg.CBUF_STATUS_STATE b) 4 rfl, ?_⟩
  · simp [hd, hrec, hr]
  · rw [State.recOf_eq, State.buf_put, State.buf_setRec]

/-- A recording has drained behind a newer one. -/
theorem recordingDrain_first {r : Recd} {l : List Recd} (hd : s.drainsOf b = r :: l) :
    Answers (.recordingDrainComplete b) s fun u =>
      s.writes u [.grp, .cap] ∧ u.drainsOf b = l ∧ u.recOf b = s.recOf b := by
  refine ⟨s.setDrains b l, congrArg Host.Outcome.next ?_, State.setDrains_moves.1, ?_⟩
  · simp [hd]
  · rw [State.drainsOf_eq, State.recOf_eq, State.buf_setDrains, State.recOf_eq]
    exact ⟨rfl, rfl⟩

/-- A trigger of the register. -/
theorem exec_cbufTrig (h8 : v.getLsbD 8 = true) (hsrc : fieldOf v.toNat 4 2 = 1) : exec (.cbufTrig b v) s =
    .next ((s.plainWrite (Reg.CBUF_CFG_TRIG b).addr v.toNat).recTrigger b (s.tsAt s.now)) := by
  have hts : ∀ t : State, t.now = s.now → t.timeOff = s.timeOff → t.tsAt t.now = s.tsAt s.now := fun t h k => by
    simp only [State.tsAt, State.sysTime, h, k]
  refine congrArg Host.Outcome.next ?_
  have hsel := s.plainWrite_get (F := Reg.CBUF_CFG_TRIG_SRC b) (cbufCfg_regs b) v.toNat
  rw [← hts (s.plainWrite (Reg.CBUF_CFG_TRIG b).addr v.toNat) (s.plainWrite_now _ _)
    (State.plainWrite_moves.1 .timeOff (by decide))]
  exact if_pos ⟨by rw [fieldOf_bit, h8]; rfl, hsel.trans hsrc⟩

end

/-- Settles O44: what a start, an end, a stop and a trigger do on the state in which the recording's control is written. -/
theorem recordingsStartAndEnd : Obligations.RecordingsStartAndEnd := by
  unfold Obligations.RecordingsStartAndEnd
  intro s b v ends
  refine ⟨fun i hi h0 h1 => ?starts, fun i hi h1 r hrec hr => ?stops, fun r hrec hr hf => ?ends,
    fun r hd hrec hr => recordingDrain_last hd hrec hr, fun r l hd => recordingDrain_first hd,
    fun h8 hsrc r hrec hr ht hs => ?trig⟩
  case starts =>
    have hi := Or.inl (b := (∃ c : CapCh, b.val = c.val ∧ i = .capRecordStop c v) ∨
      ∃ g : Grp, b.val = 8 + g.val ∧ i = .pcapStop g v) hi
    refine ⟨recCtrl_arms hi h0 h1, recCtrl_stopped hi h0 h1, fun sid hsrc hst hc => ?_, fun e hsrc hst hc => ?_⟩
    · obtain ⟨hmc, hbuf, hsts, hstate⟩ := State.recStart_of_ok hc
      refine ⟨_, exec_recStart hi h0 h1 hsrc hst, State.recStart_moves.1, hmc, ?_, ?_, hsts, hstate⟩
      · rw [State.recOf_eq, hbuf, s.recCtrl_recHandle, s.plainWrite_now]
      · rw [State.drainsOf_eq, hbuf, State.drainsOf_eq, State.recOf_eq, s.plainWrite_buf, ← State.drainsOf_eq,
          ← State.recOf_eq]
    · have heq : (s.plainWrite (recCtrl b).addr v.toNat).recStart b = (s.plainWrite (recCtrl b).addr v.toNat).recStatus b e := by
        simp only [State.recStart, hc]
      exact ⟨_, (exec_recStart hi h0 h1 hsrc hst).trans (congrArg _ heq), State.recStatus_moves.1, State.recStatus_get _ _ _⟩
  case stops =>
    have hexec := exec_recHalt (i := i) (s := s) (.inr hi) h1
    exact ⟨fun hn => ⟨_, hexec, State.disarmed_halt_now hrec hr hn⟩,
      fun hn hvc => ⟨_, hexec, State.disarmed_halt_ends hrec hn hr hvc⟩,
      fun c hn hb hc ht => ⟨_, hexec, State.disarmed_halt_waits hrec hn hr hb hc ht⟩⟩
  case ends =>
    have hend := State.recEnd_ends hrec hr .ok
    refine ⟨_, exec_recordingEnd hrec hr hf, ?_, hend.sts, hend.recLen⟩
    rw [State.recOf_eq, hend.buf]
  case trig =>
    intro s1
    have hrec1 : s1.recOf b = some r := by rw [State.recOf_eq, s.plainWrite_buf, ← State.recOf_eq, hrec]
    refine ⟨_, exec_cbufTrig h8 hsrc, ?_⟩
    split
    next ho => exact State.recTrigger_open s1 b hrec1 hr ht hs ho
    next ho => exact State.recTrigger_early s1 b hrec1 hr ht hs (eq_false_of_ne_true ho)

end Sys2Proof.Machine
end

/-! # Swaps of the filter banks (R224 to R226) -/

section
namespace Sys2Proof.Machine

variable {s : State} {c : CapCh}

theorem fadeLen_isSome {k : Nat} : (fadeLen k).isSome = true ↔ k ≤ 4 := by
  unfold fadeLen
  split
  case h_6 h0 h1 h2 h3 h4 =>
    have : ¬ k ≤ 4 := by
      intro h
      interval_cases k <;> contradiction
    simpa using this
  all_goals decide

/-- The swap that a write of FIR_SWAP requests. -/
def swapAsked (v : Word) (n : Nat) : Swap := ⟨fieldOf v.toNat 30 2, fieldOf v.toNat 16 10, fieldOf v.toNat 8 3, n, n⟩

/-- What a request replaces is noted. -/
def State.swapNoted (s : State) (c : Nat) : State :=
  if (s.capture c).swap.isSome then s.put (Reg.FIR_STATUS_REPLACED c) 1 else s

theorem State.swapNoted_writes (s : State) (c : Nat) : s.writes (s.swapNoted c) [.regs] := by
  unfold State.swapNoted
  split
  · exact State.put_writes
  · exact State.writes_refl

theorem State.swapNoted_setsFields (s : State) (c : CapCh) : s.setsFields (s.swapNoted c)
    (if (s.capture c).swap.isSome then [(Reg.FIR_STATUS_REPLACED c, 1)] else []) := by
  unfold State.swapNoted
  split
  · exact s.setsFields_refl.next (Reg.FIR_STATUS_REPLACED c) 1 rfl
  · exact s.setsFields_refl

theorem firSwap_accepted {v : Word} (hv : v.getLsbD 0 = true) (hf : fieldOf v.toNat 8 3 ≤ 4)
    (hw : fieldOf v.toNat 30 2 ≠ 0) : Answers (.firSwap c v) s fun u =>
      s.writes u [.regs, .cap] ∧
      s.setsFields u ((if (s.capture c).swap.isSome then [(Reg.FIR_STATUS_REPLACED c, 1)] else []) ++
        [(Reg.FIR_STATUS_HELD c, 0), (Reg.FIR_STATUS_SSTS c, Sts.ok.code)]) ∧
      u.capture c = { s.capture c with swap := some (swapAsked v s.now), triggered := false } := by
  have hn := s.swapNoted_writes c
  have hcap : (s.swapNoted c).capture c = s.capture c := State.capture_of_writes hn (by decide) c
  refine ⟨(((s.swapNoted c).setCapture c { (s.swapNoted c).capture c with
    swap := some (swapAsked v s.now), triggered := false }).put (Reg.FIR_STATUS_HELD c) 0).put (Reg.FIR_STATUS_SSTS c)
      Sts.ok.code, congrArg Host.Outcome.next ?_, ?_, ?_, ?_⟩
  · have hlen : (fadeLen (fieldOf v.toNat 8 3)).isNone = false := by
      rw [Option.isNone_eq_false_iff, fadeLen_isSome]
      exact hf
    dsimp only
    rw [if_neg (by simp [hv]), hlen, if_neg (by decide), if_neg hw]
    rfl
  · exact State.writes_of State.put_writes (by decide) (State.writes_of State.put_writes (by decide)
      (State.writes_of State.setCapture_moves.1 (by decide) (State.writes_mono hn (by decide))))
  · have hL (F : Fld) (hF : (Reg.FIR_STATUS_REPLACED c).apart F) :
        ∀ p ∈ (if (s.capture c).swap.isSome then [(Reg.FIR_STATUS_REPLACED c, 1)] else []), p.1.apart F := by
      split <;> simp [hF]
    refine ((s.swapNoted_setsFields c).of_regs rfl).trans (M := [] ++ [(Reg.FIR_STATUS_HELD c, 0)] ++
      [(Reg.FIR_STATUS_SSTS c, Sts.ok.code)]) (((State.setsFields_refl _).next (Reg.FIR_STATUS_HELD c) 0 rfl).nextAt
        (Reg.FIR_STATUS_SSTS c) Sts.ok.code (by simp [Fld.apart, Reg.FIR_STATUS_HELD, Reg.FIR_STATUS_SSTS]) rfl) fun p hp => ?_
    simp only [List.map_cons, List.map_nil, List.nil_append, List.cons_append, List.forall_mem_cons]
    exact ⟨hL _ (by simp [Fld.apart, Reg.FIR_STATUS_HELD, Reg.FIR_STATUS_REPLACED]) p hp,
      hL _ (by simp [Fld.apart, Reg.FIR_STATUS_SSTS, Reg.FIR_STATUS_REPLACED]) p hp, by simp⟩
  · rw [State.capture_of_writes State.put_writes (by decide), State.capture_of_writes State.put_writes (by decide),
      State.capture_setCapture, hcap]

theorem firSwap_refused {v : Word} (hv : v.getLsbD 0 = true) (hf : 4 < fieldOf v.toNat 8 3) :
    Answers (.firSwap c v) s fun u => s.setsOnly u [(Reg.FIR_STATUS_SSTS c, Sts.range.code)] := by
  refine ⟨s.put (Reg.FIR_STATUS_SSTS c) Sts.range.code, congrArg Host.Outcome.next ?_,
    s.setsOnly_refl.next (Reg.FIR_STATUS_SSTS c) Sts.range.code rfl⟩
  have hlen : (fadeLen (fieldOf v.toNat 8 3)).isNone = true := by
    rw [Option.isNone_iff_eq_none, ← Option.not_isSome_iff_eq_none, fadeLen_isSome]
    omega
  dsimp only
  rw [if_neg (by simp [hv]), if_pos hlen]

theorem fadeStart_begins {w : Swap} {n : Nat} (hs : (s.capture c).swap = some w) (ht : (s.capture c).triggered = true)
    (ha : w.after < s.now) (hf : (s.capture c).fade = none) (hn : fadeLen w.fade = some n) :
    Answers (.fadeStart c) s fun u =>
      s.writes u [.regs, .cap] ∧
      s.setsFields u [(Reg.FIR_STATUS_ACTIVE c, 1 - s.get (Reg.FIR_STATUS_ACTIVE c)), (Reg.FIR_STATUS_HELD c, 0)] ∧
      u.capture c = { s.capture c with
        swap := none, triggered := false, fade := if n = 0 then none else some ⟨n, 0⟩ } := by
  refine ⟨((s.setCapture c { s.capture c with
    swap := none, triggered := false, fade := if n = 0 then none else some ⟨n, 0⟩ }).put (Reg.FIR_STATUS_ACTIVE c)
      (1 - s.get (Reg.FIR_STATUS_ACTIVE c))).put (Reg.FIR_STATUS_HELD c) 0, congrArg Host.Outcome.next ?_, ?_, ?_, ?_⟩
  · simp [State.fadeBegin, hs, ht, ha, hf, hn]
  · exact State.writes_of State.put_writes (by decide) (State.writes_of State.put_writes (by decide)
      (State.writes_mono State.setCapture_moves.1 (by decide)))
  · exact ((State.setsFields_nil_of_regs (t := s.setCapture c _) rfl).put (Reg.FIR_STATUS_ACTIVE c) _ (of_decide_eq_true rfl)
      (show 1 - _ < 2 by omega) (by simp)).nextAt (Reg.FIR_STATUS_HELD c) 0
        (by simp [Fld.apart, Reg.FIR_STATUS_ACTIVE, Reg.FIR_STATUS_HELD]) rfl
  · rw [State.capture_of_writes State.put_writes (by decide), State.capture_of_writes State.put_writes (by decide),
      State.capture_setCapture]

/-- Settles O46: a request, a trigger's fade and a fade's end each write the channel and its status. -/
theorem filterBanksSwap : Obligations.FilterBanksSwap := by
  unfold Obligations.FilterBanksSwap
  refine fun s c => ⟨fun v hv hf hw => firSwap_accepted hv hf hw, fun v hv hf => firSwap_refused hv hf,
    fun w n hs ht ha hf hn => fadeStart_begins hs ht ha hf hn, fun f hf hd => ?_⟩
  refine ⟨s.setCapture c { s.capture c with fade := none }, congrArg Host.Outcome.next ?_, State.setCapture_moves.1,
    State.capture_setCapture _ _ _⟩
  simp only [State.fadeFinish, hf, if_pos hd]

end Sys2Proof.Machine
end

/-! # Ranks taken out of service (R252, R253) -/

section
namespace Sys2Proof.Machine

/-- Fields that no command on ranks' service writes: outside the ranks' states and times, and beside the three flags of
MEM_STATUS that sum them up. -/
def offRanks (f : Fld) : Prop :=
  (f.addr < 0x178000 ∨ f.addr % 0x20 = 4 ∨ f.addr % 0x20 = 8) ∧ f.apart Reg.MEM_STATUS_RETIRING ∧
  f.apart Reg.MEM_STATUS_DEGRADED ∧ f.apart Reg.MEM_STATUS_NOSPARE

/-- What is kept of a state while ranks other than r change their service: fields off the ranks, the state of r, the error
log and the retirements to be recorded. -/
structure State.Reranks (s t : State) (r : Nat) : Prop where
  off : ∀ f, offRanks f → t.get f = s.get f
  word : t.regWord (Reg.RANK_STATE_STATE r).addr = s.regWord (Reg.RANK_STATE_STATE r).addr
  log : t.mc.log = s.mc.log
  records : t.mc.records = s.mc.records

section
variable {s t u : State} {r : Nat}

theorem State.Reranks.refl (s : State) (r : Nat) : s.Reranks s r := ⟨fun _ _ => rfl, rfl, rfl, rfl⟩

theorem State.Reranks.trans (h : s.Reranks t r) (k : t.Reranks u r) : s.Reranks u r :=
  ⟨fun f hf => (k.off f hf).trans (h.off f hf), k.word.trans h.word, k.log.trans h.log, k.records.trans h.records⟩

/-- What is read of the state of r. -/
theorem State.Reranks.get (h : s.Reranks t r) {f : Fld} (hf : f.addr = (Reg.RANK_STATE_STATE r).addr) :
    t.get f = s.get f := by
  rw [State.get, State.get, hf, h.word]

theorem State.Reranks.of_mc (h : s.Reranks t r) {x : MemSt} (hl : x.log = t.mc.log) (hr : x.records = t.mc.records) :
    s.Reranks { t with mc := x } r :=
  ⟨h.off, h.word, hl.trans h.log, hr.trans h.records⟩

/-- A field of another rank's state or times put. -/
theorem State.Reranks.put (h : s.Reranks t r) {F : Fld} (v : Nat) (hF : 0x178000 ≤ F.addr)
    (hw : F.addr % 0x20 = 0 ∨ F.addr % 0x20 = 0xC ∨ F.addr % 0x20 = 0x10) (hr : F.addr ≠ 0x178000 + r * 0x20) :
    s.Reranks (t.put F v) r := by
  refine h.trans ⟨fun f hf => State.get_put_other _ _ ?_, State.regWord_setRegWord_other _ _ (fun e => hr e.symm), rfl, rfl⟩
  obtain ⟨hf, -⟩ := hf
  intro e
  omega

/-- A flag of MEM_STATUS put. -/
theorem State.Reranks.flag (h : s.Reranks t r) {F : Fld} (v : Nat)
    (hF : F = Reg.MEM_STATUS_RETIRING ∨ F = Reg.MEM_STATUS_DEGRADED ∨ F = Reg.MEM_STATUS_NOSPARE) :
    s.Reranks (t.put F v) r := by
  have hlt : F.addr = 0x030004 ∧ F.lo + F.n ≤ 32 := by
    rcases hF with rfl | rfl | rfl <;> decide
  refine h.trans ⟨fun f hf => State.get_put_of_apart _ _ hlt.2 ?_, State.regWord_setRegWord_other _ _ ?_, rfl, rfl⟩
  · obtain ⟨-, h1, h2, h3⟩ := hf
    rcases hF with rfl | rfl | rfl
    exacts [h1, h2, h3]
  · rw [hlt.1]
    simp [Reg.RANK_STATE_STATE]
    omega

theorem State.Reranks.rankFlags (h : s.Reranks t r) : s.Reranks t.rankFlags r :=
  ((h.flag _ (.inl rfl)).flag _ (.inr (.inl rfl))).flag _ (.inr (.inr rfl))

/-- Another rank RETIRED. -/
theorem State.Reranks.rankRetired (h : s.Reranks t r) {q : Nat} (hq : q ≠ r) : s.Reranks (t.rankRetired q) r := by
  have hput := (h.of_mc (x := { t.mc with
    moving := t.mc.moving.filter (fun k => decide (k ≠ q)), retAt := mdel t.mc.retAt q }) rfl rfl)
  refine ((hput.put (F := Reg.RANK_STATE_STATE q) 3 ?_ ?_ ?_).put (F := Reg.RANK_RET_TIME_LO q) _ ?_ ?_ ?_).put
    (F := Reg.RANK_RET_TIME_HI q) _ ?_ ?_ ?_
  all_goals
    simp only [Reg.RANK_STATE_STATE, Reg.RANK_RET_TIME_LO, Reg.RANK_RET_TIME_HI]
    omega

/-! ## Targets of copies -/

/-- A rank to which an extent goes is in service or a spare. -/
theorem State.target_rankSt {e k q : Nat} (h : s.target e k = some q) : s.rankSt q = 0 ∨ s.rankSt q = 1 := by
  have hroom : 0 < s.rankFree q → s.rankSt q = 0 := fun h0 => by
    unfold State.rankFree at h0
    split at h0
    next hs => simpa [State.inService] using hs
    next => exact absurd h0 (by decide)
  have hspare : q ∈ s.spares → s.rankSt q = 1 := fun hm => by
    simpa [State.spares] using (List.mem_filter.mp hm).2
  unfold State.target at h
  dsimp only at h
  split at h
  next q' hq =>
    obtain rfl := Option.some.inj h
    have := List.find?_some hq
    simp only [Bool.and_eq_true, decide_eq_true_eq] at this
    exact .inl (hroom this.1)
  next =>
    split at h
    next q' hq =>
      obtain rfl := Option.some.inj h
      exact .inr (hspare (List.mem_of_find?_eq_some hq))
    next =>
      split at h
      next q' hq =>
        obtain rfl := Option.some.inj h
        exact .inr (hspare (List.mem_of_find?_eq_some hq))
      next =>
        have := List.find?_some h
        simp only [Bool.and_eq_true, decide_eq_true_eq] at this
        exact .inl (hroom this.1.1)

/-- The copy of an extent of a rank begun does not reach a rank that leaves service. -/
theorem State.Reranks.startCopy (h : s.Reranks t r) (hr : t.rankSt r = 2) (k : Nat) : s.Reranks (t.startCopy k) r := by
  unfold State.startCopy
  split
  · exact h
  · split
    · exact h
    next e x _ =>
      split
      · exact h
      next q hq =>
        have hne : q ≠ r := fun heq => by
          have := State.target_rankSt hq
          rw [heq, hr] at this
          omega
        have henl : s.Reranks (t.enlist q) r := by
          unfold State.enlist
          split
          · refine h.put _ ?_ ?_ ?_ <;> simp only [Reg.RANK_STATE_STATE] <;> omega
          · exact h
        refine State.Reranks.of_mc (t := (t.enlist q).extMore q) (henl.put _ ?_ ?_ ?_) rfl rfl <;>
          simp only [Reg.RANK_STATE_EXT_USED] <;> omega

/-! ## A rank out of service that holds no extent -/

/-- One rank's share in settling the ranks. -/
def State.settleRank (s : State) (q : Nat) : State :=
  if s.rankLeaving q && decide (s.get (Reg.RANK_STATE_EXT_USED q) = 0) then s.rankRetired q else s

theorem State.Reranks.settleRank (h : s.Reranks t r) {q : Nat} (hq : q ≠ r) : s.Reranks (t.settleRank q) r := by
  unfold State.settleRank
  split
  · exact h.rankRetired hq
  · exact h

theorem State.settleRanks_eq (s : State) : s.settleRanks = (forUpto State.settleRank 192 s).rankFlags := rfl

theorem State.Reranks.settle_below {n : Nat} (hn : n ≤ r) : s.Reranks (forUpto State.settleRank n s) r := by
  induction n with
  | zero => exact .refl s r
  | succ n ih => exact (ih (Nat.le_of_succ_le hn)).settleRank (by omega)

/-- Settling the ranks settles each from a state in which the others' share has left it alone. -/
theorem State.settle_rank {n : Nat} (hn : r < n) :
    ∃ t, s.Reranks t r ∧ (t.settleRank r).Reranks (forUpto State.settleRank n s) r := by
  induction n with
  | zero => exact absurd hn (Nat.not_lt_zero r)
  | succ n ih =>
    by_cases h : n = r
    · subst h
      exact ⟨_, State.Reranks.settle_below (Nat.le_refl n), .refl _ _⟩
    · obtain ⟨t, ht, hs⟩ := ih (by omega)
      exact ⟨t, ht, hs.settleRank h⟩

/-- What settling the ranks leaves of one of them. -/
theorem State.settleRanks_rank (hr : r < 192) : (∀ f, offRanks f → s.settleRanks.get f = s.get f) ∧
    s.settleRanks.mc.log = s.mc.log ∧ s.settleRanks.mc.records = s.mc.records ∧
    s.settleRanks.get (Reg.RANK_STATE_CAUSE r) = s.get (Reg.RANK_STATE_CAUSE r) ∧
    s.settleRanks.rankSt r = if s.rankLeaving r = true ∧ s.get (Reg.RANK_STATE_EXT_USED r) = 0 then 3 else s.rankSt r := by
  obtain ⟨t, ht, hs⟩ := State.settle_rank (s := s) hr
  have hflags := hs.rankFlags
  rw [← State.settleRanks_eq] at hflags
  have hst : t.rankSt r = s.rankSt r := ht.get rfl
  have hleave : t.rankLeaving r = s.rankLeaving r := by simp only [State.rankLeaving, hst]
  have hused : t.get (Reg.RANK_STATE_EXT_USED r) = s.get (Reg.RANK_STATE_EXT_USED r) := ht.get rfl
  have hcond : (t.rankLeaving r && decide (t.get (Reg.RANK_STATE_EXT_USED r) = 0)) = true ↔
      s.rankLeaving r = true ∧ s.get (Reg.RANK_STATE_EXT_USED r) = 0 := by
    rw [hleave, hused, Bool.and_eq_true, decide_eq_true_eq]
  by_cases h : s.rankLeaving r = true ∧ s.get (Reg.RANK_STATE_EXT_USED r) = 0
  · rw [State.settleRank, if_pos (hcond.mpr h)] at hflags
    have hsets := t.rankRetired_sets (r := r)
    refine ⟨fun f hf => (hflags.off f hf).trans ((hsets.get_apart ?_).trans (ht.off f hf)),
      hflags.log.trans ht.log, hflags.records.trans ht.records,
      (hflags.get (f := Reg.RANK_STATE_CAUSE r) rfl).trans ((hsets.get_apart ?_).trans (ht.get rfl)), ?_⟩
    · obtain ⟨haddr, -⟩ := hf
      simp only [List.map_cons, List.map_nil, List.forall_mem_cons, Fld.apart, Reg.RANK_STATE_STATE, Reg.RANK_RET_TIME_LO,
        Reg.RANK_RET_TIME_HI]
      refine ⟨.inl ?_, .inl ?_, .inl ?_, by simp⟩ <;> omega
    · simp [Fld.apart, Reg.RANK_STATE_CAUSE, Reg.RANK_STATE_STATE, Reg.RANK_RET_TIME_LO, Reg.RANK_RET_TIME_HI]
    · rw [if_pos h]
      exact (hflags.get rfl).trans (hsets.get (by simp))
  · rw [State.settleRank, if_neg (fun hc => h (hcond.mp hc))] at hflags
    have hall := ht.trans hflags
    refine ⟨hall.off, hall.log, hall.records, hall.get rfl, ?_⟩
    rw [if_neg h]
    exact hall.get rfl

/-! ## Copies to a rank that leaves service -/

/-- Copies to rank r counted off its extents. -/
theorem State.extLess_forEach {α : Type} (l : List α) (s : State) (r : Nat) (hused : s.get (Reg.RANK_STATE_EXT_USED r) < 4096) :
    let u := forEach (fun s _ => s.extLess r) l s
    u.mc = s.mc ∧ u.get (Reg.RANK_STATE_EXT_USED r) = s.get (Reg.RANK_STATE_EXT_USED r) - l.length ∧
    ∀ f, f.apart (Reg.RANK_STATE_EXT_USED r) → u.get f = s.get f := by
  induction l generalizing s with
  | nil => exact ⟨rfl, rfl, fun _ _ => rfl⟩
  | cons a l ih =>
    have hone : (s.extLess r).get (Reg.RANK_STATE_EXT_USED r) = s.get (Reg.RANK_STATE_EXT_USED r) - 1 := by
      rw [State.extLess, State.get_put _ _ _ (of_decide_eq_true rfl)]
      exact Nat.mod_eq_of_lt (show _ < 4096 by omega)
    obtain ⟨hmc, hget, hoth⟩ := ih (s.extLess r) (by omega)
    refine ⟨hmc, ?_, fun f hf => (hoth f hf).trans (State.get_put_of_apart _ _ (of_decide_eq_true rfl) hf)⟩
    rw [hone] at hget
    rw [List.length_cons, forEach, hget]
    omega

theorem State.Reranks.startCopies (h : s.Reranks t r) (hr : s.rankSt r = 2) (l : List Nat) :
    s.Reranks (forEach State.startCopy l t) r := by
  induction l generalizing t with
  | nil => exact h
  | cons k l ih => exact ih (h.startCopy ((show t.rankSt r = s.rankSt r from h.get rfl).trans hr) k)

theorem offRanks.apart {f : Fld} (hf : offRanks f) {F : Fld} (hF : F.addr = 0x178000 + r * 0x20) : f.apart F := by
  obtain ⟨haddr, -⟩ := hf
  exact .inl (by omega)

/-- What the copies to rank r, RETIRING, begun again leave of it. -/
theorem State.retarget_rank (hr : s.rankSt r = 2) : (∀ f, offRanks f → (s.retarget r).get f = s.get f) ∧
    (s.retarget r).mc.log = s.mc.log ∧ (s.retarget r).mc.records = s.mc.records ∧ (s.retarget r).rankSt r = 2 ∧
    (s.retarget r).get (Reg.RANK_STATE_CAUSE r) = s.get (Reg.RANK_STATE_CAUSE r) ∧
    (s.retarget r).get (Reg.RANK_STATE_EXT_USED r) = s.get (Reg.RANK_STATE_EXT_USED r) -
      (s.mc.copies.filter (fun p => decide (p.2.2 = r))).length := by
  obtain ⟨hmc, hused, hoth⟩ := State.extLess_forEach ((s.mc.copies.filter (fun p => decide (p.2.2 = r))).map Prod.fst)
    { s with mc := { s.mc with copies := s.mc.copies.filter (fun p => decide (p.2.2 ≠ r)) } } r (fieldOf_lt _ _ _)
  rw [List.length_map] at hused
  have hst := (hoth (Reg.RANK_STATE_STATE r) (by simp [Fld.apart, Reg.RANK_STATE_STATE, Reg.RANK_STATE_EXT_USED])).trans hr
  have hcopies := (State.Reranks.refl _ r).startCopies hst
    ((s.mc.copies.filter (fun p => decide (p.2.2 = r))).map Prod.fst)
  have hlog := congrArg MemSt.log hmc
  have hrecords := congrArg MemSt.records hmc
  refine ⟨fun f hf => (hcopies.off f hf).trans (hoth f (hf.apart rfl)), hcopies.log.trans hlog,
    hcopies.records.trans hrecords, (hcopies.get rfl).trans hst, (hcopies.get (f := Reg.RANK_STATE_CAUSE r) rfl).trans (hoth _ ?_),
    (hcopies.get (f := Reg.RANK_STATE_EXT_USED r) rfl).trans hused⟩
  simp [Fld.apart, Reg.RANK_STATE_CAUSE, Reg.RANK_STATE_EXT_USED]

/-! ## Retirement -/

/-- s with rank r RETIRING with its cause, its alarm sent and its retirement to be recorded. -/
def State.outOfService (s : State) (r cause : Nat) : State :=
  let s1 := ((s.put (Reg.RANK_STATE_STATE r) 2).put (Reg.RANK_STATE_CAUSE r) cause).alarm 0x0003 r
  { s1 with mc := { s1.mc with
      records := s1.mc.records.filter (fun (p : Nat × Nat) => decide (p.1 ≠ r)) ++ [(r, cause)]
      retAt := mins s1.mc.retAt r s1.now } }

theorem State.outOfService_sets {cause : Nat} (hc : cause < 16) : s.setsFields (s.outOfService r cause)
    [(Reg.RANK_STATE_STATE r, 2), (Reg.RANK_STATE_CAUSE r, cause)] :=
  ((s.setsFields_refl.nextAt (Reg.RANK_STATE_STATE r) 2 (by simp) rfl).put (Reg.RANK_STATE_CAUSE r) cause
    (of_decide_eq_true rfl) hc (by simp [Fld.apart, Reg.RANK_STATE_STATE, Reg.RANK_STATE_CAUSE])).of_regs
      (State.alarm_moves.1 .regs (by decide))

theorem State.outOfService_mc (s : State) (r cause : Nat) : (s.outOfService r cause).mc.log = s.mc.log ∧
    (s.outOfService r cause).mc.copies = s.mc.copies ∧ (r, cause) ∈ (s.outOfService r cause).mc.records := by
  have hmc : (((s.put (Reg.RANK_STATE_STATE r) 2).put (Reg.RANK_STATE_CAUSE r) cause).alarm 0x0003 r).mc = s.mc :=
    State.alarm_moves.1 .mc (by decide)
  have hlog := congrArg MemSt.log hmc
  have hcopies := congrArg MemSt.copies hmc
  exact ⟨hlog, hcopies, by simp [State.outOfService]⟩

/-- What a retirement leaves of the fields off the ranks and of the error log. -/
theorem State.retire_off (hr : r < 192) {cause : Nat} (hc : cause < 16) :
    (∀ f, offRanks f → (s.retire r cause).get f = s.get f) ∧ (s.retire r cause).mc.log = s.mc.log := by
  unfold State.retire
  split
  · exact ⟨fun _ _ => rfl, rfl⟩
  have hsets := State.outOfService_sets (s := s) (r := r) hc
  obtain ⟨hlog, -, -⟩ := s.outOfService_mc r cause
  obtain ⟨hoff, hlog', -⟩ := State.retarget_rank (s := s.outOfService r cause) (r := r) (hsets.get (by simp))
  obtain ⟨hoff', hlog'', -⟩ := State.settleRanks_rank (s := s.takeOut r 2 cause) hr
  refine ⟨fun f hf => (hoff' f hf).trans ((hoff f hf).trans (hsets.get_apart ?_)), hlog''.trans (hlog'.trans hlog)⟩
  simpa using ⟨hf.apart rfl, hf.apart rfl⟩

/-- A rank in service retired: RETIRED at once where it holds no extent but the targets of copies. -/
theorem State.retire_rank (hr : r < 192) {cause : Nat} (hc : cause < 16) (h0 : s.rankSt r = 0) :
    (s.retire r cause).rankSt r = (if s.get (Reg.RANK_STATE_EXT_USED r) ≤
      (s.mc.copies.filter (fun p => decide (p.2.2 = r))).length then 3 else 2) ∧
    (s.retire r cause).get (Reg.RANK_STATE_CAUSE r) = cause ∧ (r, cause) ∈ (s.retire r cause).mc.records := by
  have hsets := State.outOfService_sets (s := s) (r := r) hc
  obtain ⟨-, hcopies, hrec⟩ := s.outOfService_mc r cause
  obtain ⟨-, -, hrec', hst, hcause, hused⟩ :=
    State.retarget_rank (s := s.outOfService r cause) (r := r) (hsets.get (by simp))
  rw [hsets.get_apart (by simp [Fld.apart, Reg.RANK_STATE_EXT_USED, Reg.RANK_STATE_STATE, Reg.RANK_STATE_CAUSE]),
    hcopies] at hused
  obtain ⟨-, -, hrec'', hcause', hst'⟩ := State.settleRanks_rank (s := s.takeOut r 2 cause) hr
  have heq : s.retire r cause = (s.takeOut r 2 cause).settleRanks := by
    simp [State.retire, State.rankLeaving, h0]
  have htake : s.takeOut r 2 cause = (s.outOfService r cause).retarget r := rfl
  rw [heq]
  refine ⟨hst'.trans ?_, hcause'.trans ?_, ?_⟩
  · rw [htake, State.rankLeaving, hst, hused]
    simp only [Nat.sub_eq_zero_iff_le]
    simp
  · rw [htake, hcause]
    exact hsets.get (by simp)
  · rw [hrec'', htake, hrec']
    exact hrec

end

end Sys2Proof.Machine
end

/-! # Memory errors (R240, R241, R249 to R251, R259) -/

section
namespace Sys2Proof.Machine

section
variable (s : State) (r : Nat) (loc : BitVec 64)

theorem State.locUse_mc : (s.locUse r loc).mc.log = s.mc.log ∧ (s.locUse r loc).mc.copies = s.mc.copies := by
  unfold State.locUse State.rowUse
  split <;> exact ⟨rfl, rfl⟩

/-- A field that an entry of the error log does not write. -/
theorem State.memLog_get (e : MemEnt) {f : Fld} (hw : f.apart Reg.MEM_STATUS_LOG_WRAP) (hf : f.apart Reg.MEM_LOG_WR_FILL)
    (hn : f.apart Reg.MEM_LOG_WR_NEXT) : (s.memLog e).get f = s.get f := by
  unfold State.memLog
  dsimp only
  rw [State.get_put_of_apart _ _ (by decide) hn]
  split
  · exact State.get_put_of_apart _ _ (by decide) hw
  · exact State.get_put_of_apart _ _ (by decide) hf

theorem State.memLog_next (e : MemEnt) :
    (s.memLog e).get Reg.MEM_LOG_WR_NEXT = (s.get Reg.MEM_LOG_WR_NEXT + 1) % 256 := by
  unfold State.memLog
  dsimp only
  rw [State.get_put _ _ _ (by decide)]
  exact Nat.mod_mod _ _

theorem State.memLog_log (e : MemEnt) : (s.memLog e).mc.log = mins s.mc.log (s.get Reg.MEM_LOG_WR_NEXT) e := by
  unfold State.memLog
  dsimp only
  split <;> rfl

theorem State.memLog_copies (e : MemEnt) : (s.memLog e).mc.copies = s.mc.copies := by
  unfold State.memLog
  dsimp only
  split <;> rfl

end

/-- What an error counted and logged leaves: the counter of its kind and of its rank, its status and its entry. -/
structure State.Errs (s u : State) (cnt rankCnt status : Fld) (e : MemEnt) : Prop where
  cnt : u.get cnt = min (s.get cnt + 1) 0xFFFFFFFF
  rankCnt : u.get rankCnt = min (s.get rankCnt + 1) 0xFFFFFFFF
  status : u.get status = 1
  log : u.mc.log = mins s.mc.log (s.get Reg.MEM_LOG_WR_NEXT) e
  next : u.get Reg.MEM_LOG_WR_NEXT = (s.get Reg.MEM_LOG_WR_NEXT + 1) % 256

section
variable {s u v : State} {cnt rankCnt status : Fld} {e : MemEnt} {r : Nat}

theorem State.Errs.congr (h : s.Errs u cnt rankCnt status e) (hregs : ∀ f ∈ [cnt, rankCnt, status, Reg.MEM_LOG_WR_NEXT],
    v.get f = u.get f) (hlog : v.mc.log = u.mc.log) : s.Errs v cnt rankCnt status e :=
  ⟨(hregs _ (by simp)).trans h.cnt, (hregs _ (by simp)).trans h.rankCnt, (hregs _ (by simp)).trans h.status,
    hlog.trans h.log, (hregs _ (by simp)).trans h.next⟩

theorem State.Errs.of_writes (h : s.Errs u cnt rankCnt status e) {W : List Piece} (hw : u.writes v W)
    (hW : Piece.regs ∉ W ∧ Piece.mc ∉ W) : s.Errs v cnt rankCnt status e :=
  h.congr (fun f _ => State.get_of_writes hw hW.1 f) (congrArg MemSt.log (hw .mc hW.2))

theorem State.Errs.entry (h : s.Errs u cnt rankCnt status e) : mfind u.mc.log (s.get Reg.MEM_LOG_WR_NEXT) = some e := by
  rw [h.log, mfind_mins_same]

end

/-- s with an error on rank r at a place counted, shown and logged. -/
def State.errored (s : State) (cnt rankCnt status : Fld) (e : MemEnt) (r : Nat) (loc : BitVec 64) : State :=
  ((((s.locUse r loc).bump cnt).bump rankCnt).put status 1).memLog e

/-- Whether a counter and a bit of MEM_STATUS lie apart from each other and from what the error log and the ranks write. -/
def errFields (cnt status : Fld) : Bool :=
  decide ((cnt.lo = 0 ∧ cnt.n = 32) ∧ (status.lo + status.n ≤ 32 ∧ 1 < 2 ^ status.n) ∧ cnt.apart status ∧
    ∀ f ∈ [cnt, status], f.addr < 0x178000 ∧ ∀ g ∈ [Reg.MEM_STATUS_LOG_WRAP, Reg.MEM_LOG_WR_FILL, Reg.MEM_LOG_WR_NEXT,
      Reg.MEM_STATUS_RETIRING, Reg.MEM_STATUS_DEGRADED, Reg.MEM_STATUS_NOSPARE], f.apart g)

/-- Whether a field is the counter of corrected or of other errors of rank r. -/
def rankErr (r : Nat) (f : Fld) : Prop := f = Reg.RANK_CE_CNT r ∨ f = Reg.RANK_UE_CNT r

section
variable (s : State) {cnt rankCnt status : Fld} (r : Nat) (loc : BitVec 64) (hf : errFields cnt status = true)
  (hr : rankErr r rankCnt)

theorem rankErr.facts {r : Nat} {f : Fld} (h : rankErr r f) : (f.lo = 0 ∧ f.n = 32) ∧ 0x178000 ≤ f.addr ∧
    (f.addr % 0x20 = 4 ∨ f.addr % 0x20 = 8) := by
  rcases h with rfl | rfl <;> refine ⟨⟨rfl, rfl⟩, ?_⟩ <;> simp only [Reg.RANK_CE_CNT, Reg.RANK_UE_CNT] <;> omega

include hf

theorem errFields.off : offRanks cnt ∧ offRanks status := by
  simp only [errFields, decide_eq_true_eq, List.forall_mem_cons] at hf
  obtain ⟨-, -, -, ⟨hc, -, -, -, hc1, hc2, hc3, -⟩, ⟨hs, -, -, -, hs1, hs2, hs3, -⟩, -⟩ := hf
  exact ⟨⟨.inl hc, hc1, hc2, hc3⟩, .inl hs, hs1, hs2, hs3⟩

include hr

theorem State.errored_errs (e : MemEnt) : s.Errs (s.errored cnt rankCnt status e r loc) cnt rankCnt status e := by
  obtain ⟨hcnt, hstatus, hcs, hfields⟩ := of_decide_eq_true hf
  simp only [List.forall_mem_cons] at hfields
  obtain ⟨⟨hclt, hcw, hcfill, hcn, -⟩, ⟨hslt, hsw, hsfill, hsn, -⟩, -⟩ := hfields
  obtain ⟨hr32, hrge, -⟩ := hr.facts
  have hmem (f : Fld) (hlt : f.addr < 0x178000) : f.apart rankCnt := .inl (by omega)
  have hsets := (((State.setsFields_nil_of_regs (State.locUse_moves.1 .regs (by decide))).bumpAt (s := s)
    (t := s.locUse r loc) cnt 1 hcnt (by simp)).bumpAt rankCnt 1 hr32 (by simpa using hmem cnt hclt)).put status 1
      hstatus.1 hstatus.2 (by simpa using ⟨hcs, (hmem status hslt).symm⟩)
  have hlog : ((((s.locUse r loc).bump cnt).bump rankCnt).put status 1).get Reg.MEM_LOG_WR_NEXT =
      s.get Reg.MEM_LOG_WR_NEXT :=
    hsets.get_apart (by simpa using ⟨hcn.symm, hmem _ (by decide), hsn.symm⟩)
  refine ⟨(State.memLog_get _ _ hcw hcfill hcn).trans (hsets.get (by simp)),
    (State.memLog_get _ _ (.inl ?_) (.inl ?_) (.inl ?_)).trans (hsets.get (by simp)),
    (State.memLog_get _ _ hsw hsfill hsn).trans (hsets.get (by simp)), ?_, ?_⟩
  · exact fun h => by rw [h] at hrge; exact absurd hrge (by decide)
  · exact fun h => by rw [h] at hrge; exact absurd hrge (by decide)
  · exact fun h => by rw [h] at hrge; exact absurd hrge (by decide)
  · obtain ⟨hl, -⟩ := s.locUse_mc r loc
    rw [State.errored, State.memLog_log, hlog, State.put_mc, State.bump_mc, State.bump_mc, hl]
  · rw [State.errored, State.memLog_next, hlog]

/-- An error counted and logged leaves the state of its rank. -/
theorem State.errored_rank (e : MemEnt) {f : Fld} (hword : f.addr = 0x178000 + r * 0x20) :
    (s.errored cnt rankCnt status e r loc).get f = s.get f := by
  obtain ⟨-, -, -, hfields⟩ := of_decide_eq_true hf
  simp only [List.forall_mem_cons] at hfields
  obtain ⟨⟨hclt, -⟩, ⟨hslt, -⟩, -⟩ := hfields
  obtain ⟨-, hrge, hrw⟩ := hr.facts
  have hlt (g : Fld) (hg : g.addr < 0x178000) : f.apart g := .inl (by omega)
  rw [State.errored, State.memLog_get _ _ (hlt _ (by decide)) (hlt _ (by decide)) (hlt _ (by decide)),
    State.get_put_other _ _ (by omega), State.bump, State.get_put_other _ _ (by omega), State.bump,
    State.get_put_other _ _ (by omega), State.get_of_writes State.locUse_moves.1 (by decide)]

omit hf hr in
theorem State.errored_copies (e : MemEnt) : (s.errored cnt rankCnt status e r loc).mc.copies = s.mc.copies := by
  obtain ⟨-, hc⟩ := s.locUse_mc r loc
  rw [State.errored, State.memLog_copies, State.put_mc, State.bump_mc, State.bump_mc, hc]

end

theorem State.errored_writes (s : State) (cnt rankCnt status : Fld) (e : MemEnt) (r : Nat) (loc : BitVec 64) :
    s.writes (s.errored cnt rankCnt status e r loc) [.regs, .mc] :=
  (State.moves_of State.memLog_moves (by decide) (State.moves_of State.put_moves (by decide)
    (State.moves_of State.bump_moves (by decide) (State.moves_of State.bump_moves (by decide)
      (State.moves_mono State.locUse_moves (by decide)))))).1

/-! ## A rank taken out by an error -/

section
variable {s v : State} {r : RankNo} {cnt : Fld} {e : MemEnt} {loc : BitVec 64}
  (hf : errFields cnt Reg.MEM_STATUS_UE = true)
include hf

/-- An error that takes its rank out of service: v is the state with the error counted, whatever else but the registers and
the memory controller it has written. -/
theorem State.errored_retire {W : List Piece} (hW : Piece.regs ∉ W ∧ Piece.mc ∉ W)
    (hw : (s.errored cnt (Reg.RANK_UE_CNT r) Reg.MEM_STATUS_UE e r loc).writes v W) {cause : Nat} (hc : cause < 16) :
    s.Errs (v.retire r cause) cnt (Reg.RANK_UE_CNT r) Reg.MEM_STATUS_UE e ∧
    (s.rankSt r = 0 → (v.retire r cause).rankSt r = (if s.get (Reg.RANK_STATE_EXT_USED r) ≤
        (s.mc.copies.filter (fun p => decide (p.2.2 = r.val))).length then 3 else 2) ∧
      (v.retire r cause).get (Reg.RANK_STATE_CAUSE r) = cause ∧ (r.val, cause) ∈ (v.retire r cause).mc.records) := by
  have hr : rankErr r.val (Reg.RANK_UE_CNT r) := .inr rfl
  have herrs := (s.errored_errs r loc hf hr e).of_writes hw hW
  have hrank (f : Fld) (h : f.addr = 0x178000 + r.val * 0x20) : v.get f = s.get f :=
    (State.get_of_writes hw hW.1 f).trans (s.errored_rank r loc hf hr e h)
  have hcopies : v.mc.copies = s.mc.copies :=
    (congrArg MemSt.copies (hw .mc hW.2)).trans (s.errored_copies r loc e)
  obtain ⟨hoff, hlog⟩ := State.retire_off (s := v) r.isLt hc
  obtain ⟨hcnt, hstatus⟩ := errFields.off hf
  refine ⟨herrs.congr (List.forall_mem_cons.mpr ⟨hoff _ hcnt, List.forall_mem_cons.mpr ⟨hoff _ ?_,
    List.forall_mem_cons.mpr ⟨hoff _ hstatus, List.forall_mem_cons.mpr ⟨hoff _ ?_, by simp⟩⟩⟩⟩) hlog, fun h0 => ?_⟩
  · refine ⟨.inr (.inr ?_), .inl ?_, .inl ?_, .inl ?_⟩ <;>
      simp only [Reg.RANK_UE_CNT, Reg.MEM_STATUS_RETIRING, Reg.MEM_STATUS_DEGRADED, Reg.MEM_STATUS_NOSPARE] <;> omega
  · refine ⟨.inl ?_, .inl ?_, .inl ?_, .inl ?_⟩ <;> decide
  · have h := State.retire_rank (s := v) r.isLt hc ((hrank _ rfl).trans h0)
    rwa [hrank _ rfl, hcopies] at h

end

/-! ## The commands -/

section
variable (s : State) (r : RankNo) (loc : BitVec 64)

theorem lineVerdict_corrected {k n : Nat} : lineVerdict k n = .corrected ↔ n ≠ 0 ∧ n ≤ k := by
  unfold lineVerdict
  split
  · simp_all
  · split
    · simp_all
    · split <;> simp_all

/-- A corrected line counted, and noted as one to mend or written back. -/
theorem exec_correctedRead {n : BitVec 3} (h : lineVerdict (s.active Reg.MEM_ECC) n.toNat = .corrected) :
    exec (.correctedRead r n loc) s = .next (((s.errored Reg.MEM_CE_CNT (Reg.RANK_CE_CNT r) Reg.MEM_STATUS_CE
      ⟨s.tsAt s.now, r, 0, n.toNat, loc⟩ r loc).monMark 0x260).flaw r loc (decide (2 ≤ n.toNat))) := by
  refine congrArg Host.Outcome.next ?_
  rw [if_neg (not_not_intro h)]
  rfl

theorem State.flaw_mem (v : State) (k : Nat) (mended : Bool) :
    (k, loc.toNat % 2 ^ 32) ∈ (v.flaw k loc mended).mc.flaws ↔ mended = false := by
  cases mended <;> simp [State.flaw]

theorem State.memError_locUse (cnt : Fld) (kind : Nat) : (s.locUse r loc).memError cnt r kind loc =
    s.errored cnt (Reg.RANK_UE_CNT r) Reg.MEM_STATUS_UE ⟨s.tsAt s.now, r, kind, 0, loc⟩ r loc := by
  have hts : (s.locUse r loc).tsAt (s.locUse r loc).now = s.tsAt s.now := by
    have hnow : (s.locUse r loc).now = s.now := State.locUse_moves.1 .now (by decide)
    have hoff : (s.locUse r loc).timeOff = s.timeOff := State.locUse_moves.1 .timeOff (by decide)
    simp only [State.tsAt, State.sysTime, hnow, hoff]
  rw [State.memError, hts, State.errored]

theorem correctedRead_answers {n : BitVec 3} (h : lineVerdict (s.active Reg.MEM_ECC) n.toNat = .corrected) :
    Answers (.correctedRead r n loc) s fun u => s.writes u [.regs, .mon, .mc] ∧
      s.Errs u Reg.MEM_CE_CNT (Reg.RANK_CE_CNT r) Reg.MEM_STATUS_CE ⟨s.tsAt s.now, r, 0, n.toNat, loc⟩ ∧
      ((r.val, loc.toNat % 2 ^ 32) ∈ u.mc.flaws ↔ n.toNat < 2) := by
  have hce := s.errored_errs r loc (by decide : errFields Reg.MEM_CE_CNT Reg.MEM_STATUS_CE = true) (.inl rfl)
    ⟨s.tsAt s.now, r, 0, n.toNat, loc⟩
  have hmark := hce.of_writes (State.monMark_moves (x1 := 0x260)).1 (by decide)
  refine ⟨_, exec_correctedRead s r loc h, State.writes_of State.flaw_moves.1 (by decide)
    (State.writes_of State.monMark_moves.1 (by decide) (State.writes_mono (s.errored_writes _ _ _ _ _ _) (by decide))),
    hmark.congr (fun _ _ => rfl) rfl, (State.flaw_mem loc _ r _).trans ?_⟩
  rw [decide_eq_false_iff_not, Nat.not_le]

/-- An error that takes its rank out of service leaves it with its cause and its retirement to be recorded. -/
def State.leavesService (s u : State) (r : Nat) (cause : Nat) : Prop := s.rankSt r = 0 →
  u.rankSt r = (if s.get (Reg.RANK_STATE_EXT_USED r) ≤ (s.mc.copies.filter (fun p => decide (p.2.2 = r))).length then 3
    else 2) ∧ u.get (Reg.RANK_STATE_CAUSE r) = cause ∧ (r, cause) ∈ u.mc.records

theorem uncorrectableRead_answers {h : BitVec 24} (off : BitVec 34) {g : Seg} (hg : s.seg h.toNat = some g) :
    Answers (.uncorrectableRead r h off loc) s fun u =>
      s.Errs u Reg.MEM_UE_CNT (Reg.RANK_UE_CNT r) Reg.MEM_STATUS_UE ⟨s.tsAt s.now, r, 1, 0, loc⟩ ∧
      (g.sid, off.toNat / 7) ∈ u.poison ∧ s.leavesService u r 1 := by
  have hmark := (State.monMark_moves (s := s.errored Reg.MEM_UE_CNT (Reg.RANK_UE_CNT r) Reg.MEM_STATUS_UE
    ⟨s.tsAt s.now, r, 1, 0, loc⟩ r loc) (x1 := 0x261)).1
  have hseg : ((s.errored Reg.MEM_UE_CNT (Reg.RANK_UE_CNT r) Reg.MEM_STATUS_UE ⟨s.tsAt s.now, r, 1, 0, loc⟩ r loc).monMark
      0x261).seg h.toNat = some g := by
    rw [State.seg_of_writes hmark (by decide), State.seg_of_writes (s.errored_writes _ _ _ _ _ _) (by decide), hg]
  have hw := State.writes_of (W := [.mon, .segs, .poison]) (State.poisonLine_moves (x1 := g.sid) (x2 := off.toNat / 7)).1
    (by decide) (State.writes_mono hmark (by decide))
  obtain ⟨herrs, hleaves⟩ := State.errored_retire (cause := 1) (by decide) (by decide) hw (by decide)
  refine ⟨_, congrArg Host.Outcome.next ?_, herrs, ?_, hleaves⟩
  · rw [State.memError_locUse, hseg]
  · rw [State.retire_moves.1 .poison (by decide)]
    unfold State.poisonLine
    dsimp only
    split
    next hc => simpa using hc
    next => simp

theorem caParityError_answers : Answers (.caParityError r loc) s fun u =>
    s.Errs u Reg.MEM_PAR_CNT (Reg.RANK_UE_CNT r) Reg.MEM_STATUS_UE ⟨s.tsAt s.now, r, 2, 0, loc⟩ ∧
    s.leavesService u r 2 :=
  ⟨_, congrArg (fun v => Host.Outcome.next (State.retire v r 2)) (s.memError_locUse r loc Reg.MEM_PAR_CNT 2),
    State.errored_retire (W := []) (by decide) (by decide) State.writes_refl (by decide)⟩

theorem writeParityError_answers (failed : Bool) : Answers (.writeParityError r loc failed) s fun u =>
    s.Errs u Reg.MEM_PAR_CNT (Reg.RANK_UE_CNT r) Reg.MEM_STATUS_UE ⟨s.tsAt s.now, r, 3, 0, loc⟩ ∧
    if failed then s.leavesService u r 3 else s.writes u [.regs, .mc] := by
  refine ⟨_, congrArg (fun v => Host.Outcome.next (if failed then State.retire v r 3 else v))
    (s.memError_locUse r loc Reg.MEM_PAR_CNT 3), ?_⟩
  cases failed with
  | true => exact State.errored_retire (W := []) (by decide) (by decide) State.writes_refl (by decide)
  | false => exact ⟨s.errored_errs r loc (by decide) (.inr rfl) _, s.errored_writes _ _ _ _ _ _⟩

end

/-- Settles O48: each error is errored, then what its command adds, and errored_retire where its rank goes. -/
theorem memoryErrorsAreCounted : Obligations.MemoryErrorsAreCounted := by
  unfold Obligations.MemoryErrorsAreCounted
  intro s r loc up logged leaves
  refine ⟨fun n hn hle => ?_, fun n hn => ⟨s, congrArg Host.Outcome.next (if_pos fun h => ?_), rfl⟩, fun h off g hg => ?_, ?_,
    fun failed => ?_, ?_⟩
  · obtain ⟨u, hu, hw, he, hflaw⟩ := correctedRead_answers s r loc (n := n)
      (lineVerdict_corrected.mpr ⟨fun h => hn (BitVec.eq_of_toNat_eq h), hle⟩)
    exact ⟨u, hu, hw, he.cnt, he.rankCnt, he.status, ⟨he.entry, he.next⟩, hflaw⟩
  · obtain ⟨h0, hle⟩ := lineVerdict_corrected.mp h
    rcases hn with rfl | hn
    · exact h0 rfl
    · omega
  · obtain ⟨u, hu, he, hp, hl⟩ := uncorrectableRead_answers s r loc off hg
    exact ⟨u, hu, he.cnt, he.rankCnt, he.status, ⟨he.entry, he.next⟩, hp, hl⟩
  · obtain ⟨u, hu, he, hl⟩ := caParityError_answers s r loc
    exact ⟨u, hu, he.cnt, he.rankCnt, he.status, ⟨he.entry, he.next⟩, hl⟩
  · obtain ⟨u, hu, he, hl⟩ := writeParityError_answers s r loc failed
    exact ⟨u, hu, he.cnt, he.rankCnt, he.status, ⟨he.entry, he.next⟩, hl⟩
  · exact ⟨_, rfl, State.writes_of State.monMark_moves.1 (by decide) (State.writes_of State.put_writes (by decide)
      (State.writes_mono State.bump_moves.1 (by decide))),
      ((s.setsFields_refl.bump Reg.MEM_LATE_CNT 1 rfl rfl).next Reg.MEM_STATUS_LATE 1 rfl).of_regs
        (State.monMark_moves.1 .regs (by decide))⟩

end Sys2Proof.Machine
end

/-! # Refresh and self-refresh (R243, R244, R247) -/

section
namespace Sys2Proof.Machine

variable (s : State) (r : RankNo) (b : Fin 64)

theorem State.setOwes_same (n : Nat) : (s.setOwes r b n).owes r b = n := mget_mset_same _ _ _ _

theorem State.setOwes_other (n : Nat) {q c : Nat} (hc : c < 64) (h : q ≠ r.val ∨ c ≠ b.val) :
    (s.setOwes r b n).owes q c = s.owes q c :=
  mget_mset_other _ _ _ (by omega)

theorem State.setOwes_writes (n : Nat) : s.writes (s.setOwes r b n) [.mc] := s.with_mc_writes _

/-- A refresh of a bank: what it owes after it, its row closed, and what the other banks owe as before. -/
theorem State.refresh_bank (n : Nat) : s.writes (s.refresh r b n) [.mc] ∧ (s.refresh r b n).owes r b = n ∧
    mfind (s.refresh r b n).mc.rows (64 * r.val + b.val) = none ∧
    ∀ q c, c < 64 → (q ≠ r.val ∨ c ≠ b.val) → (s.refresh r b n).owes q c = s.owes q c :=
  ⟨State.refresh_moves.1, s.setOwes_same r b n, mfind_mdel_same _ _, fun _ _ hc h => s.setOwes_other r b n hc h⟩

theorem perBankRefresh_answers (idle : Bool) : Answers (.perBankRefresh r b idle) s fun u =>
    s.writes u [.mc] ∧ u.owes r b = (if idle then 0 else s.owes r b + 1) ∧
    (idle = true → mfind u.mc.rows (64 * r.val + b.val) = none) ∧
    (∀ q c, c < 64 → (q ≠ r.val ∨ c ≠ b.val) → u.owes q c = s.owes q c) := by
  refine ⟨_, rfl, ?_⟩
  cases idle with
  | true =>
    obtain ⟨hw, ho, hrow, hoth⟩ := s.refresh_bank r b 0
    exact ⟨hw, ho, fun _ => hrow, hoth⟩
  | false =>
    exact ⟨s.setOwes_writes r b _, s.setOwes_same r b _, fun h => absurd h (by decide),
      fun _ _ hc h => s.setOwes_other r b _ hc h⟩

theorem urgentRefresh_answers (h : 9 ≤ s.owes r b) : Answers (.urgentRefresh r b) s fun u =>
    s.writes u [.mc] ∧ u.owes r b = s.owes r b - 1 ∧ mfind u.mc.rows (64 * r.val + b.val) = none ∧
    (∀ q c, c < 64 → (q ≠ r.val ∨ c ≠ b.val) → u.owes q c = s.owes q c) :=
  ⟨_, congrArg Host.Outcome.next (if_pos h), s.refresh_bank r b _⟩

omit r b
variable {s}

theorem selfRefreshEntry_answers (he : s.active Reg.MEM_CTRL_SR_EN = 1) (hi : s.memIdle = true)
    (hb : s.mc.busyAt + s.microsec (s.active Reg.MEM_SR_IDLE) ≤ s.now) (hu : s.mc.urgentTill = none)
    (ha : s.get Reg.MEM_SR_ACTIVE = 0) : Answers .selfRefreshEntry s fun u =>
      s.writes u [.regs, .mc] ∧ s.setsFields u [(Reg.MEM_SR_ACTIVE, 0xF)] ∧
      u.mc = { s.mc with owed := [], rows := [], exitAt := none } := by
  refine ⟨s.selfRefresh, congrArg Host.Outcome.next (if_pos ?_), State.selfRefresh_moves.1,
    (s.setsFields_refl.next Reg.MEM_SR_ACTIVE 0xF rfl).of_regs (by rw [State.selfRefresh]), rfl⟩
  simp [State.selfDue, he, hi, hb, hu, ha]

theorem selfRefreshExit_answers (ha : s.get Reg.MEM_SR_ACTIVE ≠ 0) (hp : s.get Reg.GLB_STATE_PROFILE ≠ 3) :
    Answers .selfRefreshExit s fun u => s.writes u [.regs, .mc] ∧ s.setsFields u [(Reg.MEM_SR_ACTIVE, 0)] ∧
      u.mc = { s.mc with busyAt := s.now, exitAt := none } :=
  ⟨s.selfExit, congrArg Host.Outcome.next (if_neg (by simp [ha, hp])), State.selfExit_moves.1,
    (s.setsFields_refl.next Reg.MEM_SR_ACTIVE 0 rfl).of_regs rfl, rfl⟩

end Sys2Proof.Machine
end

/-! # Temperatures (R245, R246, R255) -/

section
namespace Sys2Proof.Machine

/-- The word of the four stacks' temperatures. -/
def tempWord (t0 t1 t2 t3 : BitVec 8) : Nat := t0.toNat + 256 * t1.toNat + 65536 * t2.toNat + 16777216 * t3.toNat

section
variable (t0 t1 t2 t3 : BitVec 8)

theorem tempWord_lt : tempWord t0 t1 t2 t3 < 2 ^ 32 := by
  have := t0.isLt
  have := t1.isLt
  have := t2.isLt
  have := t3.isLt
  unfold tempWord
  omega

/-- The temperatures of the stacks, as the word gives them. -/
theorem fieldOf_tempWord : [0, 1, 2, 3].map (fun k => fieldOf (tempWord t0 t1 t2 t3) (8 * k) 8) =
    [t0.toNat, t1.toNat, t2.toNat, t3.toNat] := by
  have := t0.isLt
  have := t1.isLt
  have := t2.isLt
  have := t3.isLt
  simp only [List.map_cons, List.map_nil, fieldOf, tempWord, List.cons.injEq, and_true]
  omega

theorem temps_mem {x : Nat} : x ∈ [t0.toNat, t1.toNat, t2.toNat, t3.toNat] ↔
    ∃ k < 4, fieldOf (tempWord t0 t1 t2 t3) (8 * k) 8 = x := by
  rw [← fieldOf_tempWord, List.mem_map]
  refine exists_congr fun k => and_congr_left fun _ => ?_
  simp
  omega

end

section
variable (s : State) (k : Nat)

/-- A field that the doubled rate's bursts do not write. -/
theorem State.rateOf_get {f : Fld} (hc : f.apart Reg.MEM_URGENT_CNT) (hu : f.apart Reg.MEM_STATUS_URGENT) :
    (s.rateOf k).get f = s.get f := by
  unfold State.rateOf State.startDouble
  split
  · split
    · rfl
    · dsimp only
      split
      · rfl
      · rw [State.get_of_writes State.monMark_moves.1 (by decide), State.get_put_of_apart _ _ (by decide) hu, State.bump,
          State.get_put_of_apart _ _ (by decide) hc]
        rfl
  · rfl

/-- A stack reports the doubled rate as its temperature says; the others as before. -/
theorem State.rateOf_double (j : Nat) : j ∈ (s.rateOf k).mc.double ↔
    if j = k then 85 ≤ s.stackTemp k else j ∈ s.mc.double := by
  unfold State.rateOf State.startDouble
  by_cases h85 : 85 ≤ s.stackTemp k
  · rw [if_pos h85]
    have hcons : j ∈ k :: s.mc.double ↔ if j = k then 85 ≤ s.stackTemp k else j ∈ s.mc.double := by
      by_cases h : j = k <;> simp [h, h85]
    split
    next hm =>
      by_cases h : j = k
      · subst h
        simpa [h85] using hm
      · simp [h]
    next =>
      dsimp only
      split
      · exact hcons
      · rw [State.monMark_moves.1 .mc (by decide), State.put_mc, State.bump_mc]
        exact hcons
  · rw [if_neg h85]
    by_cases h : j = k <;> simp [h, h85]

end

/-- The stacks that report the doubled rate once the rule has been applied to those below n. -/
theorem State.rateOf_forUpto (s : State) (n : Nat) : let u := forUpto State.rateOf n s
    (∀ f, f.apart Reg.MEM_URGENT_CNT → f.apart Reg.MEM_STATUS_URGENT → u.get f = s.get f) ∧
    ∀ j, j ∈ u.mc.double ↔ if j < n then 85 ≤ s.stackTemp j else j ∈ s.mc.double := by
  induction n with
  | zero => exact ⟨fun _ _ _ => rfl, fun _ => by simp [forUpto]⟩
  | succ n ih =>
    obtain ⟨hget, hdouble⟩ := ih
    have htemp : (forUpto State.rateOf n s).stackTemp n = s.stackTemp n := by
      simp only [State.stackTemp, hget Reg.MEM_TEMP (by decide) (by decide)]
    refine ⟨fun f hc hu => (State.rateOf_get _ _ hc hu).trans (hget f hc hu), fun j => ?_⟩
    rw [forUpto, State.rateOf_double, htemp, hdouble]
    by_cases h : j = n
    · simp [h]
    · rw [if_neg h]
      exact iff_of_eq (if_congr (by omega) rfl rfl)

/-! ## HOT (R246) -/

/-- Stack k is noted as hot: what its millisecond begins with. -/
def State.isHot (s : State) (k : Nat) : Prop := s.get Reg.MEM_STATUS_HOT = 1 ∧ s.now ∈ s.mc.hotAt ∧ k ∈ s.mc.hotStks

/-- What is kept while stacks get hot: fields apart from HOT, the stacks at the doubled rate, and the cycle. -/
structure State.Heats (s t : State) : Prop where
  get : ∀ f, f.apart Reg.MEM_STATUS_HOT → t.get f = s.get f
  double : t.mc.double = s.mc.double
  now : t.now = s.now

theorem State.Heats.trans {s t u : State} (h : s.Heats t) (k : t.Heats u) : s.Heats u :=
  ⟨fun f hf => (k.get f hf).trans (h.get f hf), k.double.trans h.double, k.now.trans h.now⟩

theorem State.Heats.temp {s t : State} (h : s.Heats t) (k : Nat) : t.stackTemp k = s.stackTemp k := by
  simp only [State.stackTemp, h.get Reg.MEM_TEMP (by decide)]

section
variable (s : State) (k : Nat)

/-- s with HOT set and stack k noted, before the alarm. -/
def State.heated : State := { s.put Reg.MEM_STATUS_HOT 1 with mc := { s.mc with
    hotAt := s.mc.hotAt ++ [s.now]
    hotStks := k :: s.mc.hotStks.filter (fun q => decide (q ≠ k)) } }

theorem State.heated_get (f : Fld) : (s.heated k).get f = (s.put Reg.MEM_STATUS_HOT 1).get f := rfl

theorem State.getsHot_writes : (s.heated k).writes (s.getsHot k) [.xng] := by
  unfold State.getsHot
  dsimp only
  split
  · exact State.writes_refl
  · exact State.alarm_moves.1

theorem State.getsHot_heats : s.Heats (s.getsHot k) := by
  have hw := s.getsHot_writes k
  have hdouble := congrArg MemSt.double (hw .mc (by decide))
  have hnow : (s.getsHot k).now = (s.heated k).now := hw .now (by decide)
  refine ⟨fun f hf => (State.get_of_writes hw (by decide) f).trans ?_, hdouble.trans rfl, hnow.trans rfl⟩
  rw [State.heated_get, State.get_put_of_apart _ _ (by decide) hf]

theorem State.getsHot_isHot (j : Nat) : (s.getsHot k).isHot j ↔ j = k ∨
    (s.now ∈ (s.getsHot k).mc.hotAt ∧ j ∈ s.mc.hotStks) := by
  have hw := s.getsHot_writes k
  have hhot : (s.getsHot k).get Reg.MEM_STATUS_HOT = 1 := by
    rw [State.get_of_writes hw (by decide), State.heated_get]
    exact (s.setsFields_refl.next Reg.MEM_STATUS_HOT 1 rfl).get (by simp)
  have hmc : (s.getsHot k).mc = (s.heated k).mc := hw .mc (by decide)
  have hnow : (s.getsHot k).now = s.now := (hw .now (by decide)).trans rfl
  rw [State.isHot, hhot, hmc, hnow]
  by_cases h : j = k <;> simp [State.heated, h]

end

/-- The stacks below n that were not hot before and are now have been noted. -/
theorem State.getsHot_forUpto (s old : State) (n : Nat) :
    let u := forUpto (fun s k => if 95 ≤ s.stackTemp k ∧ old.stackTemp k < 95 then s.getsHot k else s) n s
    s.Heats u ∧ ∀ k, k < n → 95 ≤ s.stackTemp k → old.stackTemp k < 95 → u.isHot k := by
  induction n with
  | zero => exact ⟨⟨fun _ _ => rfl, rfl, rfl⟩, fun k hk => absurd hk (Nat.not_lt_zero k)⟩
  | succ n ih =>
    obtain ⟨hheats, hhot⟩ := ih
    generalize hv : forUpto (fun s k => if 95 ≤ s.stackTemp k ∧ old.stackTemp k < 95 then s.getsHot k else s) n s = v at *
    simp only [forUpto, hv]
    split
    next hn =>
      refine ⟨hheats.trans (v.getsHot_heats n), fun k hk h95 hold => (State.getsHot_isHot _ _ _).mpr ?_⟩
      by_cases hkn : k = n
      · exact .inl hkn
      · obtain ⟨-, hat_, hstk⟩ := (v.getsHot_isHot n n).mpr (.inl rfl)
        obtain ⟨-, -, hk'⟩ := hhot k (by omega) h95 hold
        rw [(v.getsHot_heats n).now] at hat_
        exact .inr ⟨hat_, hk'⟩
    next hn =>
      refine ⟨hheats, fun k hk h95 hold => hhot k ?_ h95 hold⟩
      by_cases hkn : k = n
      · subst hkn
        exact absurd ⟨by rwa [hheats.temp], hold⟩ hn
      · omega

/-- s with no stack hot. -/
def State.cooled (s : State) : State := { s.put Reg.MEM_STATUS_HOT 0 with mc := { s.mc with
    hotAt := []
    hotStks := [] } }

theorem State.cooled_get (s : State) (f : Fld) : s.cooled.get f = (s.put Reg.MEM_STATUS_HOT 0).get f := rfl

theorem State.cooled_heats (s : State) : s.Heats s.cooled :=
  ⟨fun f hf => (s.cooled_get f).trans (State.get_put_of_apart _ _ (by decide) hf), rfl, rfl⟩

theorem State.cooled_hot (s : State) : s.cooled.get Reg.MEM_STATUS_HOT = 0 ∧ s.cooled.mc.hotAt = [] ∧
    s.cooled.mc.hotStks = [] :=
  ⟨(s.cooled_get _).trans ((s.setsFields_refl.next Reg.MEM_STATUS_HOT 0 rfl).get (by simp)), rfl, rfl⟩

/-- HOT as the temperatures make it. -/
theorem State.judgeHot_facts (s old : State) : let u := s.judgeHot old
    s.Heats u ∧ (∀ k, k < 4 → 95 ≤ s.stackTemp k → old.stackTemp k < 95 → u.isHot k) ∧
    ((∀ k, k < 4 → s.stackTemp k < 90) → u.get Reg.MEM_STATUS_HOT = 0 ∧ u.mc.hotAt = [] ∧ u.mc.hotStks = []) := by
  obtain ⟨hheats, hhot⟩ := s.getsHot_forUpto old 4
  generalize hv : forUpto (fun s k => if 95 ≤ s.stackTemp k ∧ old.stackTemp k < 95 then s.getsHot k else s) 4 s = v at *
  have hall : (upto 4).all (fun k => decide (v.stackTemp k < 90)) = true ↔ ∀ k, k < 4 → s.stackTemp k < 90 := by
    simp [upto, hheats.temp]
  simp only [State.judgeHot, hv]
  split
  next h =>
    exact ⟨hheats.trans v.cooled_heats, fun k hk h95 => absurd (hall.mp h k hk) (by omega), fun _ => v.cooled_hot⟩
  next h => exact ⟨hheats, hhot, fun hcold => absurd (hall.mpr hcold) h⟩

/-! ## A reading -/

/-- s with the temperatures read and the doubled rate applied, up to HOT. -/
def State.tempRead (s : State) (t0 t1 t2 t3 : BitVec 8) : State :=
  let s2 := forUpto State.rateOf 4 (s.put Reg.MEM_TEMP (tempWord t0 t1 t2 t3))
  s2.put Reg.MEM_STATUS_DOUBLE (bit (!s2.mc.double.isEmpty))

theorem hbmTempRead_answers (s : State) (t0 t1 t2 t3 : BitVec 8) : Answers (.hbmTempRead t0 t1 t2 t3) s fun u =>
    let temps := [t0.toNat, t1.toNat, t2.toNat, t3.toNat]
    u.get Reg.MEM_TEMP = tempWord t0 t1 t2 t3 ∧
    ((∃ x ∈ temps, 85 ≤ x) → u.get Reg.MEM_STATUS_DOUBLE = 1) ∧
    ((∀ x ∈ temps, x < 85) → (∀ k ∈ s.mc.double, k < 4) → u.get Reg.MEM_STATUS_DOUBLE = 0) ∧
    (∀ k, k < 4 → 95 ≤ u.stackTemp k → s.stackTemp k < 95 →
      u.get Reg.MEM_STATUS_HOT = 1 ∧ s.now ∈ u.mc.hotAt ∧ k ∈ u.mc.hotStks) ∧
    ((∀ x ∈ temps, x < 90) → u.get Reg.MEM_STATUS_HOT = 0 ∧ u.mc.hotAt = [] ∧ u.mc.hotStks = []) := by
  have hset := s.setsFields_refl.nextLt Reg.MEM_TEMP (tempWord t0 t1 t2 t3) (tempWord_lt t0 t1 t2 t3) rfl
  obtain ⟨hget, hdouble⟩ := (s.put Reg.MEM_TEMP (tempWord t0 t1 t2 t3)).rateOf_forUpto 4
  obtain ⟨hheats, hhot, hcold⟩ := (s.tempRead t0 t1 t2 t3).judgeHot_facts s
  obtain ⟨u, hu⟩ : ∃ u, u = (s.tempRead t0 t1 t2 t3).judgeHot s := ⟨_, rfl⟩
  rw [← hu] at hheats hhot hcold
  -- the temperatures that the stacks read from here on
  have htemp0 : (s.tempRead t0 t1 t2 t3).get Reg.MEM_TEMP = tempWord t0 t1 t2 t3 :=
    (State.get_put_other _ _ (by decide)).trans ((hget _ (by decide) (by decide)).trans (hset.get (by simp)))
  have hstk (k : Nat) : (s.tempRead t0 t1 t2 t3).stackTemp k = fieldOf (tempWord t0 t1 t2 t3) (8 * k) 8 := by
    rw [State.stackTemp, htemp0]
  have hold (k : Nat) : (s.put Reg.MEM_TEMP (tempWord t0 t1 t2 t3)).stackTemp k = fieldOf (tempWord t0 t1 t2 t3) (8 * k) 8 := by
    rw [State.stackTemp, hset.get (v := tempWord t0 t1 t2 t3) (by simp)]
  have hnow : (s.tempRead t0 t1 t2 t3).now = s.now :=
    writes_forUpto (W := [.regs, .mon, .mc]) State.writes_refl (fun _ _ _ => State.rateOf_moves.1) .now (by decide)
  have hflag : (s.tempRead t0 t1 t2 t3).get Reg.MEM_STATUS_DOUBLE =
      bit (!(forUpto State.rateOf 4 (s.put Reg.MEM_TEMP (tempWord t0 t1 t2 t3))).mc.double.isEmpty) :=
    ((State.setsFields_refl _).nextLt Reg.MEM_STATUS_DOUBLE _ (bit_lt _) rfl).get (by simp)
  -- a retrain that falls due touches none of it
  suffices h : ∀ v : State, (∀ f, f.apart Reg.MEM_STATUS_RETRAIN_DUE → v.get f = u.get f) → v.mc = u.mc →
      v.get Reg.MEM_TEMP = tempWord t0 t1 t2 t3 ∧
      ((∃ x ∈ [t0.toNat, t1.toNat, t2.toNat, t3.toNat], 85 ≤ x) → v.get Reg.MEM_STATUS_DOUBLE = 1) ∧
      ((∀ x ∈ [t0.toNat, t1.toNat, t2.toNat, t3.toNat], x < 85) → (∀ k ∈ s.mc.double, k < 4) →
        v.get Reg.MEM_STATUS_DOUBLE = 0) ∧
      (∀ k, k < 4 → 95 ≤ v.stackTemp k → s.stackTemp k < 95 →
        v.get Reg.MEM_STATUS_HOT = 1 ∧ s.now ∈ v.mc.hotAt ∧ k ∈ v.mc.hotStks) ∧
      ((∀ x ∈ [t0.toNat, t1.toNat, t2.toNat, t3.toNat], x < 90) →
        v.get Reg.MEM_STATUS_HOT = 0 ∧ v.mc.hotAt = [] ∧ v.mc.hotStks = []) by
    refine ⟨_, rfl, ?_⟩
    split
    · exact h _ (fun f hf => (State.get_put_of_apart _ _ (by decide) hf).trans (congrArg (fun w => State.get w f) hu.symm))
        ((State.put_mc _ _ _).trans (congrArg State.mc hu.symm))
    · exact h _ (fun f _ => congrArg (fun w => State.get w f) hu.symm) (congrArg State.mc hu.symm)
  intro v hv hmc
  have hvtemp : v.get Reg.MEM_TEMP = tempWord t0 t1 t2 t3 :=
    (hv _ (by decide)).trans ((hheats.get _ (by decide)).trans htemp0)
  have hvdouble : v.get Reg.MEM_STATUS_DOUBLE = _ := (hv _ (by decide)).trans ((hheats.get _ (by decide)).trans hflag)
  refine ⟨hvtemp, fun ⟨x, hx, h85⟩ => ?_, fun hlow h4 => ?_, fun k hk h95 hs => ?_, fun hlow => ?_⟩
  · obtain ⟨k, hk, rfl⟩ := (temps_mem t0 t1 t2 t3).mp hx
    have hmem := (hdouble k).mpr (by rw [if_pos hk, hold]; exact h85)
    rw [hvdouble, List.isEmpty_eq_false_iff.mpr (List.ne_nil_of_mem hmem)]
    rfl
  · have hnil : (forUpto State.rateOf 4 (s.put Reg.MEM_TEMP (tempWord t0 t1 t2 t3))).mc.double = [] := by
      refine List.eq_nil_iff_forall_not_mem.mpr fun j hj => ?_
      have hj' := (hdouble j).mp hj
      split at hj'
      next hj4 =>
        rw [hold] at hj'
        exact absurd (hlow _ ((temps_mem t0 t1 t2 t3).mpr ⟨j, hj4, rfl⟩)) (by omega)
      next hj4 => exact hj4 (h4 j hj')
    rw [hvdouble, hnil]
    rfl
  · rw [State.stackTemp, hvtemp, ← hstk] at h95
    obtain ⟨hh, ha, hs'⟩ := hhot k hk h95 hs
    rw [hheats.now, hnow] at ha
    exact ⟨(hv _ (by decide)).trans hh, by rwa [hmc], by rwa [hmc]⟩
  · rw [hv _ (by decide), hmc]
    refine hcold fun k hk => ?_
    rw [hstk]
    exact hlow _ ((temps_mem t0 t1 t2 t3).mpr ⟨k, hk, rfl⟩)

/-- A stack still at 95 °C or above a millisecond after one reached it: Ash. -/
theorem hotAshTimeout_answers (s : State) {n k : Nat} (hn : n ∈ s.mc.hotAt) (hd : n + s.microsec 1000 ≤ s.now) (hk : k < 4)
    (h95 : 95 ≤ s.stackTemp k) (hc : s.pw.change = none) (hp : s.get Reg.GLB_STATE_PROFILE < 3) :
    Answers .hotAshTimeout s fun u => s.EntersAsh u := by
  have hover : s.hotOver = true := List.any_eq_true.mpr ⟨n, hn, decide_eq_true hd⟩
  have hany : (upto 4).any (fun k => decide (95 ≤ s.stackTemp k)) = true :=
    List.any_eq_true.mpr ⟨k, List.mem_range.mpr hk, decide_eq_true h95⟩
  refine ⟨_, congrArg Host.Outcome.next ((if_neg (by rw [hover]; decide)).trans (if_pos hany)), ?_⟩
  have h := State.enterAsh_enters { s with mc := { s.mc with
    hotAt := s.mc.hotAt.filter (fun n => decide (s.now < n + s.microsec 1000)) } } hc (Nat.ne_of_lt hp)
  exact ⟨h.pw, h.busy, h.gated, h.tiles, h.safe⟩

end Sys2Proof.Machine
end

/-! # Retraining (R254 to R256) -/

section
namespace Sys2Proof.Machine

theorem autoRetrain_answers (s : State) (ha : s.active Reg.MEM_CTRL_AUTO_RETRAIN = 1)
    (hd : s.get Reg.MEM_STATUS_RETRAIN_DUE = 1) (hb : s.busyModule = false) (hr : s.mc.retrain = none)
    (hcal : s.cal.run = none) (hc : s.pw.change = none) (hp : s.get Reg.GLB_STATE_PROFILE ≠ 3) :
    Answers .autoRetrain s fun u =>
      let l := (upto 4).filter (fun k => s.drifted k)
      if l = [] then s.setsOnly u [(Reg.MEM_STATUS_RETRAIN_DUE, 0)]
      else s.writes u [.regs, .mc] ∧ s.setsFields u [(Reg.MEM_STATUS_TRAINING, 1)] ∧
        u.mc = { s.mc with retrain := some ⟨l, true, false⟩ } := by
  have hnow : s.retrainNow = true := by simp [State.retrainNow, ha, hd, hb, hr, hcal, hc, hp]
  refine ⟨s.dueRetrain, congrArg Host.Outcome.next (if_pos hnow), ?_⟩
  unfold State.dueRetrain
  dsimp only
  split
  next h =>
    rw [if_pos (List.isEmpty_iff.mpr h)]
    exact s.setsOnly_refl.next Reg.MEM_STATUS_RETRAIN_DUE 0 rfl
  next h =>
    rw [if_neg (by rwa [List.isEmpty_iff])]
    exact ⟨State.startRetrain_moves.1,
      (State.setsFields_nil_of_regs (s := s) (t := { s with mc := _ }) rfl).next Reg.MEM_STATUS_TRAINING 1 rfl, rfl⟩

section
variable (s : State) (k : StackNo) (temp : BitVec 8)

/-- A field that the eyes of the ranks measured do not write. -/
theorem State.measureEyes_get {f : Fld} (hf : f.addr < 0x178000 ∨ f.addr % 0x20 = 0) (n : Nat) :
    (forUpto (fun s i => s.measureEye (48 * k + i)) n s).get f = s.get f := by
  induction n with
  | zero => rfl
  | succ n ih =>
    rw [forUpto, ((State.measureEye_sets _ _).get_apart ?_), ih]
    simp only [List.map_cons, List.map_nil, List.forall_mem_cons, Fld.apart, Reg.RANK_EYE_WIDTH, Reg.RANK_EYE_UI]
    exact ⟨.inl (by omega), .inl (by omega), by simp⟩

/-- A stack trained: the temperature that it was trained at. -/
theorem State.trained_ref : (s.trained k temp).stackRef k = temp.toNat := by
  have hk := k.isLt
  rw [State.stackRef, State.trained, State.measureEyes_get _ _ (.inl (by decide)), State.get_put _ _ _ (by decide)]
  have hlt : withField (s.get Reg.MEM_TEMP_REF) (8 * k) 8 temp.toNat < 2 ^ 32 :=
    withField_lt _ (fieldOf_lt _ _ _) (by omega)
  rw [Nat.mod_eq_of_lt (show _ < 2 ^ Reg.MEM_TEMP_REF.n from hlt), fieldOf_withField_same]
  exact Nat.mod_eq_of_lt temp.isLt

theorem State.trained_get {f : Fld} (hf : f.addr < 0x178000 ∨ f.addr % 0x20 = 0) (hr : f.addr ≠ Reg.MEM_TEMP_REF.addr) :
    (s.trained k temp).get f = s.get f := by
  rw [State.trained, State.measureEyes_get _ _ hf, State.get_put_other _ _ hr]

end

section
variable {s : State} {k : StackNo} {temp : BitVec 8} {r : Retrain} (hr : s.mc.retrain = some r) (hk : k.val ∈ r.stks)
  (hcal : s.cal.run = none)

/-- The state in which stack k has been trained with no channel failing. -/
def State.retrained (s : State) (k : Nat) (temp : BitVec 8) : State := s.settleRanks.trained k temp

theorem State.retrained_writes (s : State) (k : Nat) (temp : BitVec 8) :
    s.writes (s.retrained k temp) [.free, .regs, .mc] :=
  State.writes_of State.trained_moves.1 (by decide) (State.writes_mono State.settleRanks_moves.1 (by decide))

theorem State.retrained_mc (s : State) (k : Nat) (temp : BitVec 8) : (s.retrained k temp).mc = s.settleRanks.mc :=
  State.trained_moves.1 .mc (by decide)

theorem State.stackRef_retraining (v : State) (x : Option Retrain) (k : Nat) :
    { v with mc := { v.mc with retrain := x } }.stackRef k = v.stackRef k := rfl

theorem State.mc_retraining (v : State) (x : Option Retrain) :
    { v with mc := { v.mc with retrain := x } }.mc.retrain = x := rfl

/-- A rank is under test after a training only where it was before. -/
theorem State.retrained_rankSt {q : Nat} (hq : q < 192) (h : s.rankSt q ≠ 4) : (s.retrained k temp).rankSt q ≠ 4 := by
  obtain ⟨-, -, -, -, hst⟩ := State.settleRanks_rank (s := s) hq
  have heq : (s.retrained k temp).rankSt q = s.settleRanks.rankSt q :=
    State.trained_get _ _ _ (.inr (by simp only [Reg.RANK_STATE_STATE]; omega))
      (by simp only [Reg.RANK_STATE_STATE, Reg.MEM_TEMP_REF]; omega)
  rw [heq, hst]
  split
  · decide
  · exact h

theorem State.judgeTraining_get (v : State) : v.judgeTraining.get Reg.MEM_STATUS_TRAINING =
    bit (v.mc.retrain.isSome || (upto 192).any (fun r => decide (v.rankSt r = 4))) :=
  (v.setsFields_refl.nextLt Reg.MEM_STATUS_TRAINING _ (bit_lt _) rfl).get (by simp)

/-- s, its retrain over, with what the ranks leave of TRAINING and whether another is due. -/
def State.trainedOut (s : State) : State :=
  let s1 := { s with mc := { s.mc with retrain := none } }.judgeTraining
  if (upto 4).any (fun k => s1.drifted k) then s1 else s1.put Reg.MEM_STATUS_RETRAIN_DUE 0

theorem State.trainedOut_facts (s : State) : (∀ k, s.trainedOut.stackRef k = s.stackRef k) ∧
    s.trainedOut.mc.retrain = none ∧ s.trainedOut.cal = s.cal ∧
    ((∀ q, q < 192 → s.rankSt q ≠ 4) → s.trainedOut.get Reg.MEM_STATUS_TRAINING = 0) := by
  obtain ⟨u, hu⟩ : ∃ u, u = { s with mc := { s.mc with retrain := none } }.judgeTraining := ⟨_, rfl⟩
  have hmc : u.mc.retrain = none := hu ▸ rfl
  have hcal : u.cal = s.cal := hu ▸ rfl
  have hget : ∀ f, f.apart Reg.MEM_STATUS_TRAINING → u.get f = s.get f := fun f hf =>
    hu ▸ (State.get_put_of_apart _ _ (by decide) hf)
  have htrain : (∀ q, q < 192 → s.rankSt q ≠ 4) → u.get Reg.MEM_STATUS_TRAINING = 0 := fun h => by
    have hany : (upto 192).any (fun r => decide (s.rankSt r = 4)) = false := by
      simpa [upto] using h
    rw [hu]
    exact (State.judgeTraining_get _).trans (congrArg bit hany)
  have heq : s.trainedOut = if (upto 4).any (fun k => u.drifted k) then u else u.put Reg.MEM_STATUS_RETRAIN_DUE 0 := by
    rw [hu]
    rfl
  rw [heq]
  split
  · exact ⟨fun k => by rw [State.stackRef, State.stackRef, hget _ (by decide)], hmc, hcal, htrain⟩
  · refine ⟨fun k => ?_, hmc, hcal, fun h => (State.get_put_of_apart _ _ (by decide) (by decide)).trans (htrain h)⟩
    rw [State.stackRef, State.stackRef, State.get_put_other _ _ (by decide), hget _ (by decide)]

theorem State.noteEyes_of_idle {v : State} (h : v.cal.run = none) (k : Nat) : v.noteEyes k = v := by
  unfold State.noteEyes
  rw [h]

theorem State.retrainOver_of_idle {v : State} (h : v.cal.run = none) (b : Bool) : v.retrainOver b = v.trainedOut := by
  obtain ⟨-, -, hc, -⟩ := v.trainedOut_facts
  have hrun : v.trainedOut.cal.run = none := by rw [hc, h]
  have hover : v.retrainOver b = match v.trainedOut.cal.run with
    | some r =>
      if r.op = 7 then
        forEach State.resumeAfter r.paused (((v.trainedOut.put Reg.CAL_QUAL_A r.a).put Reg.CAL_QUAL_B r.b).calOver r
          (if b then .trainfail else .ok))
      else v.trainedOut
    | none => v.trainedOut := rfl
  rw [hover, hrun]

include hr hk hcal

theorem exec_retrainComplete : exec (.retrainComplete k temp [] []) s =
    .next (if (r.stks.filter (fun q => decide (q ≠ k.val))).isEmpty then (s.retrained k temp).trainedOut
      else { s.retrained k temp with mc := { (s.retrained k temp).mc with
        retrain := some { r with stks := r.stks.filter (fun q => decide (q ≠ k.val)) } } }) := by
  have hcal' : (s.settleRanks.trained k temp).cal.run = none := by
    have hc : (s.settleRanks.trained k temp).cal = s.cal := s.retrained_writes k temp .cal (by decide)
    rw [hc, hcal]
  have hcont : r.stks.contains k.val = true := by simpa using hk
  refine congrArg Host.Outcome.next ?_
  simp only [hr, hcont, forEach, List.isEmpty_nil, Bool.not_true, Bool.or_self, Bool.or_false, Bool.false_eq_true, if_false,
    State.noteEyes_of_idle hcal', State.retrainOver_of_idle hcal', State.retrained]

theorem retrainComplete_answers : Answers (.retrainComplete k temp [] []) s fun u => u.stackRef k = temp.toNat ∧
    (let l := r.stks.filter (fun q => decide (q ≠ k.val))
     if l = [] then u.mc.retrain = none ∧ ((∀ q, q < 192 → s.rankSt q ≠ 4) → u.get Reg.MEM_STATUS_TRAINING = 0)
     else u.mc.retrain = some { r with stks := l }) := by
  refine ⟨_, exec_retrainComplete hr hk hcal, ?_⟩
  have hstk : (s.retrained k temp).stackRef k = temp.toNat := s.settleRanks.trained_ref k temp
  dsimp only
  split
  next h =>
    obtain ⟨href, hnone, -, htrain⟩ := (s.retrained k temp).trainedOut_facts
    rw [if_pos (List.isEmpty_iff.mp h)]
    exact ⟨(href k).trans hstk, hnone, fun h4 => htrain fun q hq => State.retrained_rankSt hq (h4 q hq)⟩
  next h =>
    rw [if_neg (fun e => h (List.isEmpty_iff.mpr e))]
    exact ⟨(State.stackRef_retraining _ _ _).trans hstk, State.mc_retraining _ _⟩

end

/-- Settles O49: each command by what it keeps of the banks, the temperatures and the retrain. -/
theorem theStacksAreKept : Obligations.TheStacksAreKept := by
  unfold Obligations.TheStacksAreKept
  refine ⟨fun s => ⟨perBankRefresh_answers s, urgentRefresh_answers s,
    fun r b h => ⟨s, congrArg Host.Outcome.next (if_neg (Nat.not_le.mpr h)), rfl⟩,
    selfRefreshEntry_answers, selfRefreshExit_answers,
    fun h => ⟨s, congrArg Host.Outcome.next (if_pos (.inr h)), rfl⟩⟩, fun s => ⟨hbmTempRead_answers s,
    fun n k hn hd hk h95 hc hp => ?_, autoRetrain_answers s, fun k temp r => retrainComplete_answers⟩⟩
  obtain ⟨u, hu, h⟩ := hotAshTimeout_answers s hn hd hk h95 hc hp
  exact ⟨u, hu, h.pw, h.busy, fun j hj => ⟨(h.tiles j hj).1, h.safe.1 j hj⟩⟩

end Sys2Proof.Machine
end

/-! # The root loop's state (R271 to R273) -/

section
namespace Sys2Proof.Machine

/-- The root loop beyond its registers, CLK_OUT left aside. -/
def ClkSt.core (c : ClkSt) : ClkSt :=
  { c with out := none, outNext := none, outSafe := ⟨false, false, false, false, false⟩ }

/-- The fields of the clock's registers that no change of the loop's state writes. -/
def loopKeeps (f : Fld) : Prop := f.addr < 0x030000 ∧ f.apart Reg.CLK_STATUS_STATE ∧ f.apart Reg.CLK_STATUS_FALLBACK ∧
  f.apart Reg.CLK_STATUS_INSTEP ∧ f.apart Reg.CLK_STATUS_GATED

section
variable (s : State)

theorem State.judgeOut_core : s.judgeOut.clk.core = s.clk.core := by
  unfold State.judgeOut
  dsimp only
  split
  · rfl
  · split <;> rfl

theorem State.latchAll_core (f : Latches → Latches) : (s.latchAll f).clk.core = s.clk.core := by
  have hclk : (forUpto (fun s t => s.latchOn t f) 16 s).clk = s.clk :=
    (moves_forUpto (W := [.wav, .grp, .latch]) (fun _ _ => State.latchOn_moves) State.moves_refl).1 .clk (by decide)
  have hcore := congrArg ClkSt.core hclk
  rw [State.latchAll, State.latchOut, State.judgeOut_core]
  exact hcore

/-- The end of a calibration writes MEM_STATUS and CAL_CMD_STATUS, and no other register. -/
theorem State.endCalWhere_keepsWords (p : CalRun → Bool) {K : Nat → Prop} (hm : ¬ K Reg.MEM_STATUS_TRAINING.addr)
    (hc : ¬ K Reg.CAL_CMD_STATUS_TAG.addr) : s.keepsWords (s.endCalWhere p) K := by
  unfold State.endCalWhere
  split
  next r _ =>
    dsimp only
    split
    · have h1 : s.keepsWords (if r.op = 7 then { s with mc := { s.mc with retrain := none } }.put Reg.MEM_STATUS_TRAINING 0
          else s) K := by
        split
        · exact ((s.keepsWords_refl _).of_regs rfl).put _ hm
        · exact s.keepsWords_refl _
      refine h1.trans ?_
      generalize (if r.op = 7 then { s with mc := { s.mc with retrain := none } }.put Reg.MEM_STATUS_TRAINING 0 else s) = v
      have hregs : ∀ w : State, w.regs = v.regs → v.keepsWords (w.calDrop r) K := fun w hw =>
        ((v.keepsWords_refl _).of_regs hw).of_writes State.calDrop_moves.1 (by decide)
      have hdrop := hregs { v with cal := { v.cal with run := none } } rfl
      unfold State.calOver State.calReport
      dsimp only
      split
      · exact hdrop
      · exact ((hdrop.put (F := Reg.CAL_CMD_STATUS_TAG) _ hc).put (F := Reg.CAL_CMD_STATUS_STS) _ hc).put
          (F := Reg.CAL_CMD_STATUS_BUSY) _ hc
    · exact s.keepsWords_refl _
  next => exact s.keepsWords_refl _

/-- s with the calibration procedure ended that leaving LOCKED ends (R364). -/
def State.unlocked (s : State) (n : Nat) : State := if s.loopSt = 0 ∧ n ≠ 0 then s.endCal else s

/-- s with the loop in state n, up to the band search. -/
def State.loopIn (s : State) (n : Nat) : State :=
  ((s.put Reg.CLK_STATUS_STATE n).put Reg.CLK_STATUS_FALLBACK (bit (decide (n = 2)))).restep

/-- What a change to state n makes of the loop beyond its registers. -/
def State.loopClk (s : State) (n : Nat) : ClkSt :=
  let c := if n = 4 then { s.clk with alignedAt := s.now } else s.clk
  let d := if n = 1 then c else { c with held := none }
  if n = 2 then { d with span := (s.fcwBase, s.fcwBase + s.rampDev) } else d

/-- s with the loop in state n and what it searches, at the rate before. -/
def State.loopBase (s : State) (n : Nat) : State :=
  { (s.unlocked n).loopIn n with clk := ((s.unlocked n).loopIn n).loopClk n }.reclock s.rate

theorem State.setLoop_eq {n : Nat} (h : n ≠ 0) :
    s.setLoop n = (s.loopBase n).regate.latchAll (fun l => { l with gated := true }) := by
  have hclk : ∀ t : State, (if n = 2 then (if n = 1 then (if n = 4 then { t with clk := { t.clk with alignedAt := t.now } } else t)
      else { (if n = 4 then { t with clk := { t.clk with alignedAt := t.now } } else t) with
        clk := { (if n = 4 then { t with clk := { t.clk with alignedAt := t.now } } else t).clk with held := none } }).search
      else (if n = 1 then (if n = 4 then { t with clk := { t.clk with alignedAt := t.now } } else t)
      else { (if n = 4 then { t with clk := { t.clk with alignedAt := t.now } } else t) with
        clk := { (if n = 4 then { t with clk := { t.clk with alignedAt := t.now } } else t).clk with held := none } })) =
      { t with clk := t.loopClk n } := fun t => by
    unfold State.loopClk State.search
    split <;> split <;> split <;> rfl
  unfold State.setLoop
  dsimp only
  rw [if_neg h, hclk]
  rfl

theorem State.reclock_core (v : State) (old : Nat) : (v.reclock old).clk = v.clk ∧ (v.reclock old).regs = v.regs :=
  ⟨State.reclock_moves.1 .clk (by decide), State.reclock_moves.1 .regs (by decide)⟩

/-! ## What a change of the loop's state leaves -/

theorem State.unlocked_get {f : Fld} (hf : f.addr < 0x030000) (n : Nat) : (s.unlocked n).get f = s.get f := by
  unfold State.unlocked
  split
  · exact (s.endCalWhere_keepsWords (K := (· < 0x030000)) _ (by decide) (by decide)).get hf
  · rfl

theorem State.unlocked_writes (n : Nat) : s.writes (s.unlocked n) [.regs, .wav, .grp, .cap, .latch, .mc, .cal] := by
  unfold State.unlocked
  split
  · exact State.endCal_moves.1
  · exact State.writes_refl

theorem State.loopIn_sets {n : Nat} (h : n < 8) : ∃ b, s.setsFields (s.loopIn n) [(Reg.CLK_STATUS_STATE, n),
    (Reg.CLK_STATUS_FALLBACK, bit (decide (n = 2))), (Reg.CLK_STATUS_INSTEP, bit b)] :=
  ⟨_, ((s.setsFields_refl.nextLt Reg.CLK_STATUS_STATE n h rfl).nextLt Reg.CLK_STATUS_FALLBACK _ (bit_lt _) rfl).nextLt
    Reg.CLK_STATUS_INSTEP _ (bit_lt _) rfl⟩

/-- The registers with the loop in another state. -/
theorem State.loopBase_get {n : Nat} (h : n < 8) : (s.loopBase n).get Reg.CLK_STATUS_STATE = n ∧
    ∀ f, loopKeeps f → (s.loopBase n).get f = s.get f := by
  obtain ⟨b, hsets⟩ := (s.unlocked n).loopIn_sets h
  have hget (f : Fld) : (s.loopBase n).get f = ((s.unlocked n).loopIn n).get f :=
    (State.get_of_writes State.reclock_moves.1 (by decide) f).trans rfl
  refine ⟨(hget _).trans (hsets.get (by simp)), fun f ⟨ha, hs, hf, hi, _⟩ => (hget f).trans ((hsets.get_apart ?_).trans
    (s.unlocked_get ha n))⟩
  simpa using ⟨hs, hf, hi⟩

/-- What a change to a state other than LOCKED leaves: its state, the clock's other registers, and every output safe. -/
theorem State.setLoop_get {n : Nat} (h0 : n ≠ 0) (h : n < 8) : (s.setLoop n).loopSt = n ∧
    (∀ f, loopKeeps f → (s.setLoop n).get f = s.get f) ∧ ∀ k, k < 16 → ((s.setLoop n).latches k).gated = true := by
  obtain ⟨hst, hget⟩ := s.loopBase_get h
  have hlatch (f : Fld) : (s.setLoop n).get f = (s.loopBase n).regate.get f := by
    rw [State.setLoop_eq s h0, State.get_of_writes (State.latchAll_writes _ _) (by decide)]
  refine ⟨(hlatch _).trans ((State.regate_get _ (by decide) (by decide)).trans hst), fun f hf => (hlatch f).trans
    ((State.regate_get _ ?_ hf.2.2.2.2).trans (hget f hf)), fun k hk => ?_⟩
  · have := hf.1
    omega
  · rw [State.setLoop_eq s h0]
    have hsafe := ((s.loopBase n).regate.latchAll_madeSafe (f := fun l => { l with gated := true }) (by simp [Latches.holdsOut]))
    exact congrArg Latches.gated (hsafe.1 k hk)

theorem ClkSt.core_eq {c d : ClkSt} (h : c.core = d.core) : c.ramp = d.ramp ∧ c.rampWait = d.rampWait ∧ c.cmd = d.cmd ∧
    c.alignedAt = d.alignedAt ∧ c.outOfStep = d.outOfStep ∧ c.qualified = d.qualified ∧ c.next = d.next ∧ c.span = d.span := by
  simp only [ClkSt.core, ClkSt.mk.injEq] at h
  obtain ⟨hramp, hwait, hcmd, halign, hstep, hqual, hnext, hspan, -⟩ := h
  exact ⟨hramp, hwait, hcmd, halign, hstep, hqual, hnext, hspan⟩

/-- What a change of the loop's state leaves of the loop beyond its registers. -/
theorem State.setLoop_clk {n : Nat} (h0 : n ≠ 0) : (s.setLoop n).clk.core = (s.loopClk n).core := by
  have hun : (s.unlocked n).clk = s.clk := (s.unlocked_writes n) .clk (by decide)
  have hnow : (s.unlocked n).now = s.now := (s.unlocked_writes n) .now (by decide)
  have hact : (s.unlocked n).act = s.act := (s.unlocked_writes n) .act (by decide)
  have hin : (s.unlocked n).writes ((s.unlocked n).loopIn n) [.regs] :=
    State.writes_of State.restep_moves.1 (by decide) (State.writes_of State.put_writes (by decide) State.put_writes)
  have hother (f : Fld) (hf : f.addr < 0x030000) (h : f.addr ≠ 0x020004) : ((s.unlocked n).loopIn n).get f = s.get f := by
    rw [State.loopIn, State.restep, State.get_put_other _ _ h, State.get_put_other _ _ h, State.get_put_other _ _ h,
      s.unlocked_get hf]
  have hbase : ((s.unlocked n).loopIn n).fcwBase = s.fcwBase := by
    simp only [State.fcwBase, State.get64, hother Reg.CLK_ROOT_FCW_ACT_LO (by decide) (by decide),
      hother Reg.CLK_ROOT_FCW_ACT_HI (by decide) (by decide)]
  have hdev : ((s.unlocked n).loopIn n).rampDev = s.rampDev := by
    have hact' : ((s.unlocked n).loopIn n).act = s.act := (hin .act (by decide)).trans hact
    simp only [State.rampDev, State.active64, State.active, State.actWord, hact']
  have hloop : ((s.unlocked n).loopIn n).loopClk n = s.loopClk n := by
    have h1 : ((s.unlocked n).loopIn n).clk = s.clk := (hin .clk (by decide)).trans hun
    have h2 : ((s.unlocked n).loopIn n).now = s.now := (hin .now (by decide)).trans hnow
    simp only [State.loopClk, hbase, hdev, h1, h2]
  have hre : (s.loopBase n).clk = ((s.unlocked n).loopIn n).loopClk n := State.reclock_moves.1 .clk (by decide)
  rw [State.setLoop_eq s h0, State.latchAll_core, State.regate_moves.1 .clk (by decide), hre, hloop]

end

end Sys2Proof.Machine
end

/-! # The root loop and its references (R264 to R266, R271, R272) -/

section
namespace Sys2Proof.Machine

section
variable (s : State)

/-- What a change of the loop's state makes of it beyond its registers, field by field. -/
theorem State.loopClk_facts (n : Nat) : (s.loopClk n).ramp = s.clk.ramp ∧ (s.loopClk n).cmd = s.clk.cmd ∧
    (s.loopClk n).qualified = s.clk.qualified ∧ (s.loopClk n).next = s.clk.next ∧
    (s.loopClk n).alignedAt = if n = 4 then s.now else s.clk.alignedAt := by
  unfold State.loopClk
  split <;> split <;> split <;> exact ⟨rfl, rfl, rfl, rfl, rfl⟩

/-! ## Losses -/

theorem State.dropRamp_clk : s.dropRamp.clk.ramp = none ∧ s.dropRamp.clk.qualified = s.clk.qualified ∧
    s.dropRamp.clk.cmd = s.clk.cmd ∧ s.dropRamp.clk.next = s.clk.next := by
  unfold State.dropRamp
  dsimp only
  split <;> exact ⟨rfl, rfl, rfl, rfl⟩

/-- The fields that the end of a ramp, and a report of the command that waits for it, do not write. -/
def rampKeeps (f : Fld) : Prop := f.addr ≠ 0x02001C ∧ f.apart Reg.CLK_STATUS_RAMPING

theorem State.clkReport_get {f : Fld} (hf : f.addr ≠ 0x02001C) (tag : Nat) (e : Sts) :
    (s.clkReport tag e).get f = s.get f := by
  rw [State.clkReport, State.get_put_other _ _ hf, State.get_put_other _ _ hf, State.get_put_other _ _ hf]

theorem State.clkReport_clk (tag : Nat) (e : Sts) : (s.clkReport tag e).clk = s.clk := by
  rw [State.clkReport, State.put_clk, State.put_clk, State.put_clk]

/-- A report of a command of the clock. -/
theorem State.clkReport_reports {tag : Nat} (ht : tag < 2 ^ 8) (e : Sts) :
    (s.clkReport tag e).get Reg.CLK_CMD_STATUS_TAG = tag ∧ (s.clkReport tag e).get Reg.CLK_CMD_STATUS_STS = e.code ∧
    (s.clkReport tag e).get Reg.CLK_CMD_STATUS_BUSY = 0 := by
  have hsets := ((s.setsFields_refl.nextLt Reg.CLK_CMD_STATUS_TAG tag ht rfl).nextLt Reg.CLK_CMD_STATUS_STS e.code
    (Sts.code_lt e) rfl).next Reg.CLK_CMD_STATUS_BUSY 0 rfl
  exact ⟨hsets.get (by simp), hsets.get (by simp), hsets.get (by simp)⟩

theorem State.dropRamp_get {f : Fld} (hf : rampKeeps f) : s.dropRamp.get f = s.get f := by
  obtain ⟨ha, hr⟩ := hf
  have hput : ∀ c : ClkSt, ({ s with clk := c }.put Reg.CLK_STATUS_RAMPING 0).get f = s.get f := fun c =>
    State.get_put_of_apart { s with clk := c } _ (by decide) hr
  unfold State.dropRamp
  dsimp only
  split
  · exact (State.clkReport_get _ ha _ _).trans (hput _)
  · exact hput _

theorem State.lossNote_sets {st cnt : Fld} (src : Nat) (h : errFields cnt st = true) : s.setsFields (s.lossNote st cnt src)
    [(st, 1), (cnt, min (s.get cnt + 1) 0xFFFFFFFF)] := by
  obtain ⟨hcnt, hst, hcs, -⟩ := of_decide_eq_true h
  have h1 := s.setsFields_refl.put st 1 hst.1 hst.2 (by simp)
  exact ((h1.bumpAt cnt 1 hcnt (by simpa using hcs.symm)).of_regs (State.monMark_moves.1 .regs (by decide))).of_regs
    (State.alarm_moves.1 .regs (by decide))

end

/-- What the loss of the active reference leaves. -/
structure State.LosesRef (s u : State) : Prop where
  refOk : u.get Reg.CLK_STATUS_REF_OK = 0
  lor : u.get Reg.CLK_STATUS_LOR = 1
  cnt : u.get Reg.CLK_LOR_CNT = min (s.get Reg.CLK_LOR_CNT + 1) 0xFFFFFFFF
  loop : u.loopSt = if s.loopSt = 2 then 2 else 1
  gated : s.loopSt ≠ 2 → ∀ k, k < 16 → (u.latches k).gated = true
  ramp : u.clk.ramp = none
  qualified : u.clk.qualified = s.clk.qualified

section
variable (s : State)

/-- s with the loss of its reference noted and its ramp dropped. -/
def State.refGone : State := ((s.lossNote Reg.CLK_STATUS_LOR Reg.CLK_LOR_CNT 0x265).dropRamp).put Reg.CLK_STATUS_REF_OK 0

theorem State.refGone_facts : s.refGone.get Reg.CLK_STATUS_REF_OK = 0 ∧ s.refGone.get Reg.CLK_STATUS_LOR = 1 ∧
    s.refGone.get Reg.CLK_LOR_CNT = min (s.get Reg.CLK_LOR_CNT + 1) 0xFFFFFFFF ∧ s.refGone.loopSt = s.loopSt ∧
    s.refGone.clk.ramp = none ∧ s.refGone.clk.qualified = s.clk.qualified := by
  have hsets := s.lossNote_sets (st := Reg.CLK_STATUS_LOR) (cnt := Reg.CLK_LOR_CNT) 0x265 (by decide)
  have hclk : (s.lossNote Reg.CLK_STATUS_LOR Reg.CLK_LOR_CNT 0x265).clk = s.clk := State.lossNote_moves.1 .clk (by decide)
  obtain ⟨hramp, hqual, -, -⟩ := (s.lossNote Reg.CLK_STATUS_LOR Reg.CLK_LOR_CNT 0x265).dropRamp_clk
  have hkeep (f : Fld) (hf : rampKeeps f) (ho : f.apart Reg.CLK_STATUS_REF_OK) :
      s.refGone.get f = (s.lossNote Reg.CLK_STATUS_LOR Reg.CLK_LOR_CNT 0x265).get f :=
    (State.get_put_of_apart _ _ (by decide) ho).trans (State.dropRamp_get _ hf)
  refine ⟨?_, ?_, ?_, ?_, hramp, hqual.trans (by rw [hclk])⟩
  · exact ((State.setsFields_refl _).next Reg.CLK_STATUS_REF_OK 0 rfl).get (by simp)
  · exact (hkeep _ ⟨by decide, by decide⟩ (by decide)).trans (hsets.get (by simp))
  · exact (hkeep _ ⟨by decide, by decide⟩ (by decide)).trans (hsets.get (by simp))
  · exact (hkeep _ ⟨by decide, by decide⟩ (by decide)).trans (hsets.get_other _ rfl)

/-- What the loss of the reference makes of the loop, its next reference left aside. -/
def State.refDown : State := if s.refGone.loopSt = 2 then s.refGone else s.refGone.setLoop 1

theorem State.refDown_facts : s.LosesRef s.refDown ∧ s.refDown.act = s.act := by
  obtain ⟨hok, hlor, hcnt, hst, hramp, hqual⟩ := s.refGone_facts
  have hact : s.refGone.act = s.act :=
    (State.put_act _ _ _).trans ((State.dropRamp_moves.1 .act (by decide)).trans (State.lossNote_moves.1 .act (by decide)))
  unfold State.refDown
  split
  next h =>
    exact ⟨⟨hok, hlor, hcnt, by rw [h, if_pos (hst.symm.trans h)], fun hn => absurd (hst.symm.trans h) hn, hramp, hqual⟩, hact⟩
  next h =>
    obtain ⟨hloop, hkeep, hgated⟩ := s.refGone.setLoop_get (n := 1) (by decide) (by decide)
    have hcore := s.refGone.setLoop_clk (n := 1) (by decide)
    obtain ⟨hr, -, -, -, -, hq, -⟩ := ClkSt.core_eq hcore
    refine ⟨⟨(hkeep _ (by unfold loopKeeps; decide)).trans hok, (hkeep _ (by unfold loopKeeps; decide)).trans hlor,
      (hkeep _ (by unfold loopKeeps; decide)).trans hcnt, ?_, fun _ => hgated, hr.trans hramp, hq.trans hqual⟩,
      (State.setLoop_moves.1 .act (by decide)).trans hact⟩
    rw [hloop, if_neg (fun e => h (hst.trans e))]

theorem State.loseRef_eq : s.loseRef none = { s.refDown with clk := { s.refDown.clk with
    next := if s.active Reg.CLK_CTRL_FALLBACK_EN = 1 then some 3 else none } } := by
  have hact : s.refDown.active Reg.CLK_CTRL_FALLBACK_EN = s.active Reg.CLK_CTRL_FALLBACK_EN := by
    simp only [State.active, State.actWord, s.refDown_facts.2]
  rw [← hact]
  rfl

theorem State.loseRef_loses : s.LosesRef (s.loseRef none) ∧
    (s.loseRef none).clk.next = if s.active Reg.CLK_CTRL_FALLBACK_EN = 1 then some 3 else none := by
  obtain ⟨h, -⟩ := s.refDown_facts
  rw [State.loseRef_eq]
  exact ⟨⟨h.refOk, h.lor, h.cnt, h.loop, h.gated, h.ramp, h.qualified⟩, rfl⟩

/-! ## A reference measured -/

/-- What a measurement of a source's frequency writes. -/
def refMeasured (src n : Nat) : List (Fld × Nat) := if src < 2 then [(Reg.CLK_REF_FERR, n % 2 ^ 32)] else []

theorem State.measureRef_facts (src : Nat) : s.setsFields (s.measureRef src) (refMeasured src s.drawFree.1.toNat) ∧
    s.writes (s.measureRef src) [.free, .regs] := by
  refine ⟨?_, State.measureRef_moves.1⟩
  unfold State.measureRef refMeasured
  split
  next h => rw [if_neg (by omega)]; exact s.setsFields_refl
  next h =>
    rw [if_pos (by omega)]
    exact (State.setsFields_nil_of_regs (s := s) (t := s.drawFree.2) rfl).nextMod Reg.CLK_REF_FERR 32 _ rfl rfl

theorem State.measureRef_get (src : Nat) {f : Fld} (hf : f.apart Reg.CLK_REF_FERR) : (s.measureRef src).get f = s.get f :=
  (s.measureRef_facts src).1.get_apart (by unfold refMeasured; split <;> simp [hf])

end

theorem refLoss_answers {s : State} (ha : s.get Reg.CLK_STATUS_REF_ACT ≠ 3) (ho : s.get Reg.CLK_STATUS_REF_OK = 1) :
    Answers .refLoss s fun u => s.LosesRef { u with clk := { u.clk with qualified := s.clk.qualified } } ∧
      u.clk.next = (if s.active Reg.CLK_CTRL_FALLBACK_EN = 1 then some 3 else none) ∧
      s.get Reg.CLK_STATUS_REF_ACT ∉ u.clk.qualified := by
  obtain ⟨v, hv⟩ : ∃ v, v = { s with clk := { s.clk with
    qualified := s.clk.qualified.filter (fun q => decide (q ≠ s.get Reg.CLK_STATUS_REF_ACT)) } }.measureRef
      (s.get Reg.CLK_STATUS_REF_ACT) := ⟨_, rfl⟩
  have hget (f : Fld) (hf : f.apart Reg.CLK_REF_FERR) : v.get f = s.get f := by
    rw [hv]
    exact State.measureRef_get _ _ hf
  have hclk : v.clk.qualified = s.clk.qualified.filter (fun q => decide (q ≠ s.get Reg.CLK_STATUS_REF_ACT)) := by
    have h := congrArg ClkSt.qualified ((State.measureRef_facts { s with clk := { s.clk with
      qualified := s.clk.qualified.filter (fun q => decide (q ≠ s.get Reg.CLK_STATUS_REF_ACT)) } }
      (s.get Reg.CLK_STATUS_REF_ACT)).2 .clk (by decide))
    rw [hv]
    exact h
  have hact : v.active Reg.CLK_CTRL_FALLBACK_EN = s.active Reg.CLK_CTRL_FALLBACK_EN := by
    rw [hv]
    exact State.active_of_writes (State.measureRef_facts _ _).2 (by decide) _
  obtain ⟨h, hnext⟩ := v.loseRef_loses
  refine ⟨v.loseRef none, congrArg Host.Outcome.next ?_, ⟨h.refOk, h.lor, ?_, ?_, fun hn => h.gated ?_, h.ramp, rfl⟩, ?_, ?_⟩
  · rw [if_neg (by simp [ha, ho]), hv]
  · exact h.cnt.trans (by rw [hget _ (by decide)])
  · exact h.loop.trans (by rw [State.loopSt, hget _ (by decide)]; rfl)
  · rwa [State.loopSt, hget _ (by decide)]
  · rw [hnext, hact]
  · rw [h.qualified, hclk]
    simp

/-! ## A reference qualified (R264 to R266) -/

section
variable (s : State)

theorem State.takeRef_facts {src : Nat} (h : src < 4) : s.setsFields (s.takeRef src)
    [(Reg.CLK_STATUS_REF_ACT, src), (Reg.CLK_STATUS_REF_OK, 1)] ∧ (s.takeRef src).clk = { s.clk with next := none } :=
  ⟨((State.setsFields_nil_of_regs (s := s) (t := { s with clk := { s.clk with next := none } }) rfl).nextLt
    Reg.CLK_STATUS_REF_ACT src h rfl).next Reg.CLK_STATUS_REF_OK 1 rfl, rfl⟩

/-- What the return on a source leaves, from a state other than LOCKED. -/
structure State.Returns (s u : State) (src : Nat) : Prop where
  qualified : u.clk.qualified = s.clk.qualified
  refAct : u.get Reg.CLK_STATUS_REF_ACT = src
  refOk : u.get Reg.CLK_STATUS_REF_OK = 1
  next : u.clk.next = none
  acquiring : s.loopSt = 2 → u.loopSt = 2 ∧ u.clk.span = (s.fcwBase, s.fcwBase + s.rampDev)
  holdover : s.loopSt ≠ 2 → (u.loopSt = 2 ∨ u.loopSt = 3) ∧ (s.active Reg.CLK_CTRL_RECOVER = 0 → u.loopSt = 2)

theorem State.takeRef_setLoop {src n : Nat} (h : src < 4) (h0 : n ≠ 0) (hn : n < 8) :
    let u := (s.takeRef src).setLoop n
    u.get Reg.CLK_STATUS_REF_ACT = src ∧ u.get Reg.CLK_STATUS_REF_OK = 1 ∧ u.loopSt = n ∧ u.clk.next = none ∧
      u.clk.qualified = s.clk.qualified := by
  obtain ⟨hsets, hclk⟩ := s.takeRef_facts h
  obtain ⟨hloop, hkeep, -⟩ := (s.takeRef src).setLoop_get h0 hn
  obtain ⟨-, -, -, -, -, hq, hnext, -⟩ := ClkSt.core_eq ((s.takeRef src).setLoop_clk h0)
  obtain ⟨-, -, hlq, hln, -⟩ := (s.takeRef src).loopClk_facts n
  refine ⟨(hkeep _ (by unfold loopKeeps; decide)).trans (hsets.get (by simp)),
    (hkeep _ (by unfold loopKeeps; decide)).trans (hsets.get (by simp)), hloop, ?_, ?_⟩
  · rw [hnext, hln, hclk]
  · rw [hq, hlq, hclk]

theorem State.returnFrom_returns {src : Nat} (h : src < 4) : s.Returns (s.returnFrom src) src := by
  unfold State.returnFrom
  split
  next h2 =>
    obtain ⟨hsets, hclk⟩ := s.takeRef_facts h
    have hget (f : Fld) : ((s.takeRef src).search).get f = (s.takeRef src).get f := rfl
    have hspan : (s.takeRef src).search.clk.span = (s.fcwBase, s.fcwBase + s.rampDev) := by
      have hdev : (s.takeRef src).rampDev = s.rampDev := rfl
      have hbase : (s.takeRef src).fcwBase = s.fcwBase := by
        simp only [State.fcwBase, State.get64, hsets.get_other Reg.CLK_ROOT_FCW_ACT_LO rfl, hsets.get_other Reg.CLK_ROOT_FCW_ACT_HI rfl]
      rw [← hdev, ← hbase]
      rfl
    exact ⟨rfl, (hget _).trans (hsets.get (by simp)), (hget _).trans (hsets.get (by simp)), rfl,
      fun _ => ⟨(hget _).trans ((hsets.get_other _ rfl).trans h2), hspan⟩, fun hn => absurd h2 hn⟩
  next h2 =>
    split
    next hs =>
      obtain ⟨ha, ho, hl, hn, hq⟩ := { s with free := s.free + 1 }.takeRef_setLoop h (n := 3) (by decide) (by decide)
      exact ⟨hq, ha, ho, hn, fun e => absurd e h2, fun _ => ⟨.inr hl, fun hr => absurd (hs.1.symm.trans hr) (by decide)⟩⟩
    next =>
      obtain ⟨ha, ho, hl, hn, hq⟩ := { s with free := s.free + 1 }.takeRef_setLoop h (n := 2) (by decide) (by decide)
      exact ⟨hq, ha, ho, hn, fun e => absurd e h2, fun _ => ⟨.inl hl, fun _ => hl⟩⟩

end

section
variable (s : State) (src : BitVec 2)

/-- s with source src qualified and measured. -/
def State.qualify : State := { s with clk := { s.clk with
  qualified := src.toNat :: s.clk.qualified.filter (fun q => decide (q ≠ src.toNat)) } }.measureRef src.toNat

theorem State.qualify_facts : s.writes (s.qualify src) [.regs, .free, .clk] ∧
    s.setsFields (s.qualify src) (refMeasured src.toNat s.drawFree.1.toNat) ∧ (s.qualify src).clk = { s.clk with
      qualified := src.toNat :: s.clk.qualified.filter (fun q => decide (q ≠ src.toNat)) } := by
  obtain ⟨hsets, hw⟩ := { s with clk := { s.clk with
    qualified := src.toNat :: s.clk.qualified.filter (fun q => decide (q ≠ src.toNat)) } }.measureRef_facts src.toNat
  refine ⟨State.writes_of hw (by decide) (State.writes_mono (s.with_clk_writes _) (by decide)),
    (State.setsFields_nil_of_regs (s := s) rfl).trans hsets (by simp), ?_⟩
  rw [State.qualify, hw .clk (by decide)]

theorem exec_refQualified_other (h : s.active Reg.CLK_CTRL_REF_SEL ≠ src.toNat ∨
    (s.get Reg.CLK_STATUS_REF_ACT = src.toNat ∧ s.get Reg.CLK_STATUS_REF_OK = 1)) :
    exec (.refQualified src) s = .next (s.qualify src) :=
  congrArg Host.Outcome.next (if_neg fun ⟨hs, ha⟩ => by
    rcases h with h | ⟨h1, h2⟩
    · exact h hs
    · rcases ha with ha | ha <;> simp_all)

theorem exec_refQualified_selected (hs : s.active Reg.CLK_CTRL_REF_SEL = src.toNat)
    (ha : s.get Reg.CLK_STATUS_REF_ACT ≠ src.toNat ∨ s.get Reg.CLK_STATUS_REF_OK = 0) :
    exec (.refQualified src) s = .next ((s.qualify src).changeRef src.toNat) :=
  congrArg Host.Outcome.next (if_pos ⟨hs, ha⟩)

end

/-- A change of the active reference in LOCKED: the loop leaves it, and the source follows. -/
theorem State.changeRef_locked {s : State} (h : s.loopSt = 0) (src : Nat) : (s.changeRef src).loopSt = 1 ∧
    (∀ k, k < 16 → ((s.changeRef src).latches k).gated = true) ∧ (s.changeRef src).clk.next = some src ∧
    (s.changeRef src).clk.qualified = s.clk.qualified := by
  obtain ⟨hloop, -, hgated⟩ := s.dropRamp.setLoop_get (n := 1) (by decide) (by decide)
  obtain ⟨-, -, -, -, -, hq, -⟩ := ClkSt.core_eq (s.dropRamp.setLoop_clk (n := 1) (by decide))
  obtain ⟨-, hq', -⟩ := s.dropRamp_clk
  rw [State.changeRef, if_pos h]
  exact ⟨hloop, hgated, rfl, hq.trans hq'⟩

theorem refQualified_selected {s : State} {src : BitVec 2} (hs : s.active Reg.CLK_CTRL_REF_SEL = src.toNat)
    (ha : s.get Reg.CLK_STATUS_REF_ACT ≠ src.toNat ∨ s.get Reg.CLK_STATUS_REF_OK = 0) :
    Answers (.refQualified src) s fun u => src.toNat ∈ u.clk.qualified ∧
      (s.loopSt = 0 → u.loopSt = 1 ∧ (∀ k, k < 16 → (u.latches k).gated = true) ∧ u.clk.next = some src.toNat) ∧
      (s.loopSt ≠ 0 → u.get Reg.CLK_STATUS_REF_ACT = src.toNat ∧ u.get Reg.CLK_STATUS_REF_OK = 1 ∧ u.clk.next = none) ∧
      (s.loopSt = 2 → u.loopSt = 2 ∧ u.clk.span = (s.fcwBase, s.fcwBase + s.rampDev)) ∧
      (s.loopSt = 1 → (u.loopSt = 2 ∨ u.loopSt = 3) ∧ (s.active Reg.CLK_CTRL_RECOVER = 0 → u.loopSt = 2)) := by
  obtain ⟨hw, hsets, hclk⟩ := s.qualify_facts src
  have hget (f : Fld) (hf : f.apart Reg.CLK_REF_FERR) : (s.qualify src).get f = s.get f :=
    hsets.get_apart (by unfold refMeasured; split <;> simp [hf])
  have hst : (s.qualify src).loopSt = s.loopSt := hget _ (by decide)
  have hmem : src.toNat ∈ (s.qualify src).clk.qualified := by
    rw [hclk]
    exact List.mem_cons_self
  refine ⟨_, exec_refQualified_selected s src hs ha, ?_⟩
  by_cases h0 : s.loopSt = 0
  · obtain ⟨hl, hg, hn, hq⟩ := State.changeRef_locked (hst.trans h0) src.toNat
    exact ⟨hq ▸ hmem, fun _ => ⟨hl, hg, hn⟩, fun h => absurd h0 h, fun h => absurd (h0.symm.trans h) (by decide),
      fun h => absurd (h0.symm.trans h) (by decide)⟩
  · have heq : (s.qualify src).changeRef src.toNat = (s.qualify src).returnFrom src.toNat := by
      rw [State.changeRef, if_neg (by rwa [hst])]
    have h := (s.qualify src).returnFrom_returns src.isLt
    have hbase : (s.qualify src).fcwBase = s.fcwBase := by
      simp only [State.fcwBase, State.get64, hget Reg.CLK_ROOT_FCW_ACT_LO (by decide), hget Reg.CLK_ROOT_FCW_ACT_HI (by decide)]
    have hact : (s.qualify src).act = s.act := hw .act (by decide)
    have hdev : (s.qualify src).rampDev = s.rampDev := by
      simp only [State.rampDev, State.active64, State.active, State.actWord, hact]
    rw [heq]
    refine ⟨h.qualified ▸ hmem, fun e => absurd e h0, fun _ => ⟨h.refAct, h.refOk, h.next⟩, fun h2 => ?_, fun h1 => ?_⟩
    · rw [← hbase, ← hdev]
      exact h.acquiring (hst.trans h2)
    · have hr := h.holdover (by rw [hst, h1]; decide)
      rwa [State.active_of_writes hw (by decide)] at hr

/-! ## The loop -/

section
variable {s : State}

theorem rootLockLoss_answers (h2 : s.loopSt ≠ 2) : Answers .rootLockLoss s fun u =>
    u.loopSt = 2 ∧ (∀ k, k < 16 → (u.latches k).gated = true) ∧ u.get Reg.CLK_STATUS_LOL = 1 ∧ u.clk.ramp = none ∧
    u.get Reg.CLK_LOL_CNT = min (s.get Reg.CLK_LOL_CNT + 1) 0xFFFFFFFF := by
  obtain ⟨v, hv⟩ : ∃ v, v = s.lossNote Reg.CLK_STATUS_LOL Reg.CLK_LOL_CNT 0x266 := ⟨_, rfl⟩
  have hsets := hv ▸ s.lossNote_sets (st := Reg.CLK_STATUS_LOL) (cnt := Reg.CLK_LOL_CNT) 0x266 (by decide)
  obtain ⟨hloop, hkeep, hgated⟩ := v.dropRamp.setLoop_get (n := 2) (by decide) (by decide)
  obtain ⟨hr, -⟩ := ClkSt.core_eq (v.dropRamp.setLoop_clk (n := 2) (by decide))
  obtain ⟨hr', -⟩ := v.dropRamp.loopClk_facts 2
  obtain ⟨hramp, -⟩ := v.dropRamp_clk
  refine ⟨v.dropRamp.setLoop 2, congrArg Host.Outcome.next ?_, hloop, hgated, ?_, hr.trans (hr'.trans hramp), ?_⟩
  · rw [if_neg h2, hv]
  · exact (hkeep _ (by unfold loopKeeps; decide)).trans ((State.dropRamp_get _ ⟨by decide, by decide⟩).trans
      (hsets.get (by simp)))
  · exact (hkeep _ (by unfold loopKeeps; decide)).trans ((State.dropRamp_get _ ⟨by decide, by decide⟩).trans
      (hsets.get (by simp)))

/-- ALIGNING begins. -/
theorem State.aligned (v : State) : (v.setLoop 4).loopSt = 4 ∧ (v.setLoop 4).clk.alignedAt = v.now ∧
    (v.setLoop 4).clk.cmd = v.clk.cmd ∧ ∀ f, loopKeeps f → (v.setLoop 4).get f = v.get f := by
  obtain ⟨hloop, hkeep, -⟩ := v.setLoop_get (n := 4) (by decide) (by decide)
  obtain ⟨-, -, hcmd, hal, -⟩ := ClkSt.core_eq (v.setLoop_clk (n := 4) (by decide))
  obtain ⟨-, hcmd', -, -, hal'⟩ := v.loopClk_facts 4
  exact ⟨hloop, hal.trans hal', hcmd.trans hcmd', hkeep⟩

/-- The end of a command of the clock: what it reports. -/
theorem State.endClkCmd_facts (v : State) : (∀ f : Fld, f.addr ≠ 0x02001C → v.endClkCmd.get f = v.get f) ∧
    v.endClkCmd.clk.alignedAt = v.clk.alignedAt ∧ v.endClkCmd.clk.cmd = none ∧
    ∀ tag, tag < 256 → v.clk.cmd = some tag → v.endClkCmd.get Reg.CLK_CMD_STATUS_TAG = tag ∧
      v.endClkCmd.get Reg.CLK_CMD_STATUS_STS = Sts.ok.code ∧ v.endClkCmd.get Reg.CLK_CMD_STATUS_BUSY = 0 := by
  cases h : v.clk.cmd with
  | none =>
    have heq : v.endClkCmd = v := by rw [State.endClkCmd, h]
    rw [heq]
    exact ⟨fun _ _ => rfl, rfl, h, fun tag _ e => absurd e (by simp)⟩
  | some tag =>
    have heq : v.endClkCmd = { v with clk := { v.clk with cmd := none } }.clkReport tag .ok := by rw [State.endClkCmd, h]
    obtain ⟨w, hw⟩ : ∃ w, w = { v with clk := { v.clk with cmd := none } } := ⟨_, rfl⟩
    have hal : w.clk.alignedAt = v.clk.alignedAt := by rw [hw]
    have hcmd : w.clk.cmd = none := by rw [hw]
    have hregs : w.regs = v.regs := by rw [hw]
    rw [heq, ← hw, State.clkReport_clk]
    refine ⟨fun f hf => (State.clkReport_get _ hf _ _).trans ?_, hal, hcmd, fun t ht e => ?_⟩
    · simp only [State.get, State.regWord, hregs]
    · obtain rfl := Option.some.inj e
      exact w.clkReport_reports (by omega) .ok

theorem lockAcquired_answers (band : BitVec 6) (h2 : s.loopSt = 2) (ho : s.get Reg.CLK_STATUS_REF_OK = 1) :
    Answers (.lockAcquired band) s fun u =>
      u.loopSt = 4 ∧ u.get Reg.CLK_STATUS_BAND = band.toNat ∧ u.clk.alignedAt = s.now ∧ u.clk.cmd = none ∧
      (∀ tag, tag < 256 → s.clk.cmd = some tag → u.get Reg.CLK_CMD_STATUS_TAG = tag ∧
        u.get Reg.CLK_CMD_STATUS_STS = Sts.ok.code ∧ u.get Reg.CLK_CMD_STATUS_BUSY = 0) := by
  obtain ⟨hloop, hal, hcmd, hkeep⟩ := (s.put Reg.CLK_STATUS_BAND band.toNat).aligned
  rw [State.put_now] at hal
  rw [State.put_clk] at hcmd
  obtain ⟨hget, hal', hnone, hrep⟩ := ((s.put Reg.CLK_STATUS_BAND band.toNat).setLoop 4).endClkCmd_facts
  have hband := (s.setsFields_refl.nextLt Reg.CLK_STATUS_BAND band.toNat band.isLt rfl).get (f := Reg.CLK_STATUS_BAND)
    (v := band.toNat) (by simp)
  refine ⟨_, congrArg Host.Outcome.next (if_neg (by simp [h2, ho])), (hget _ (by decide)).trans hloop,
    (hget _ (by decide)).trans ((hkeep _ (by unfold loopKeeps; decide)).trans hband), hal'.trans hal, hnone,
    fun tag ht hc => hrep tag ht (hcmd.trans hc)⟩

end

/-- Settles O50: what the loss, the return and the lock of the loop leave, over setLoop. -/
theorem theRootLoopFollowsItsReference : Obligations.TheRootLoopFollowsItsReference := by
  unfold Obligations.TheRootLoopFollowsItsReference
  intro s gated measured
  refine ⟨fun h => ⟨s, congrArg Host.Outcome.next (if_pos h), rfl⟩, fun ha ho => ?_, fun q => ?_, fun src h => ?_,
    fun src hs ha => refQualified_selected hs ha, rootLockLoss_answers, lockAcquired_answers, fun h => ?_⟩
  · obtain ⟨u, hu, h, hnext, hq⟩ := refLoss_answers ha ho
    exact ⟨u, hu, h.refOk, h.lor, h.cnt, h.loop, h.gated, h.ramp, hnext, hq⟩
  · simp [State.refsFail, or_assoc]
  · obtain ⟨hw, hsets, hclk⟩ := s.qualify_facts src
    exact ⟨_, exec_refQualified_other s src h, hw, hsets, hclk⟩
  · obtain ⟨hloop, hal, -⟩ := s.aligned
    exact ⟨_, congrArg Host.Outcome.next (if_pos h), hloop, hal⟩

end Sys2Proof.Machine
end

/-! # The clock's commands (R267, R269, R275, R277) -/

section
namespace Sys2Proof.Machine

/-- The base FCW that the root runs at. -/
def State.fcwRoot (s : State) : Nat := s.get64 Reg.CLK_ROOT_FCW_ACT_LO Reg.CLK_ROOT_FCW_ACT_HI

section
variable (s : State)

theorem State.fcwRoot_put64 {v : Nat} (h : v < 2 ^ 40) :
    (s.put64 Reg.CLK_ROOT_FCW_ACT_LO Reg.CLK_ROOT_FCW_ACT_HI v).fcwRoot = v := by
  have hsets := (s.setsFields_refl.nextLt Reg.CLK_ROOT_FCW_ACT_LO (v % 2 ^ 32) (Nat.mod_lt _ (by decide)) rfl).nextLt
    Reg.CLK_ROOT_FCW_ACT_HI (v / 2 ^ 32) (Nat.div_lt_of_lt_mul h) rfl
  rw [State.fcwRoot, State.get64, State.put64, hsets.get (v := v % 2 ^ 32) (by simp), hsets.get (v := v / 2 ^ 32) (by simp)]
  exact Nat.mod_add_div v (2 ^ 32)

theorem State.fcwRoot_congr {s t : State} (h : ∀ f : Fld, f.addr = 0x020010 ∨ f.addr = 0x020014 → t.get f = s.get f) :
    t.fcwRoot = s.fcwRoot := by
  rw [State.fcwRoot, State.get64, h _ (.inl rfl), h _ (.inr rfl)]
  rfl

theorem State.put64_get_other {f : Fld} (lo hi : Fld) (v : Nat) (hlo : f.addr ≠ lo.addr) (hhi : f.addr ≠ hi.addr) :
    (s.put64 lo hi v).get f = s.get f := by
  rw [State.put64, State.get_put_other _ _ hhi, State.get_put_other _ _ hlo]

theorem loopKeeps_of {f : Fld} (h : f.addr < 0x030000) (hne : f.addr ≠ 0x020004) : loopKeeps f :=
  ⟨h, .inl hne, .inl hne, .inl hne, .inl hne⟩

/-- The loop acquiring for a command. -/
theorem State.relock_facts {tag : Nat} : (s.relock tag).fcwRoot = s.fcwRoot ∧ (s.relock tag).loopSt = 2 ∧
    (s.relock tag).get Reg.CLK_CMD_STATUS_BUSY = 1 ∧ (s.relock tag).clk.cmd = some tag := by
  obtain ⟨v, hv⟩ : ∃ v, v = { s with clk := { s.clk with cmd := some tag } } := ⟨_, rfl⟩
  have hregs : v.regs = s.regs := by rw [hv]
  have hcmd : v.clk.cmd = some tag := by rw [hv]
  have heq : s.relock tag = (v.put Reg.CLK_CMD_STATUS_BUSY 1).setLoop 2 := by rw [hv]; rfl
  have hsets := (State.setsFields_nil_of_regs hregs).next Reg.CLK_CMD_STATUS_BUSY 1 rfl
  obtain ⟨hloop, hkeep, -⟩ := (v.put Reg.CLK_CMD_STATUS_BUSY 1).setLoop_get (n := 2) (by decide) (by decide)
  obtain ⟨-, -, hc, -⟩ := ClkSt.core_eq ((v.put Reg.CLK_CMD_STATUS_BUSY 1).setLoop_clk (n := 2) (by decide))
  obtain ⟨-, hc', -⟩ := (v.put Reg.CLK_CMD_STATUS_BUSY 1).loopClk_facts 2
  rw [State.put_clk] at hc'
  rw [heq]
  refine ⟨State.fcwRoot_congr fun f hf => ?_, hloop, (hkeep _ (loopKeeps_of (by decide) (by decide))).trans
    (hsets.get (by simp)), hc.trans (hc'.trans hcmd)⟩
  have hne : f.apart Reg.CLK_CMD_STATUS_BUSY := .inl (by rcases hf with hf | hf <;> rw [hf] <;> decide)
  exact (hkeep f (loopKeeps_of (by omega) (by omega))).trans (hsets.get_apart (by simpa using hne))

/-! ## Ramps -/

/-- s with a ramp over at an FCW. -/
theorem State.rampOver_facts (f : Int) : s.writes (s.rampOver f) [.regs, .clk] ∧ (s.rampOver f).clk.ramp = none ∧
    (s.rampOver f).get Reg.CLK_STATUS_RAMPING = 0 ∧ (0 ≤ f → f < 2 ^ 40 → ((s.rampOver f).fcwRoot : Int) = f) := by
  obtain ⟨v, hv⟩ : ∃ v, v = { s with clk := { s.clk with ramp := none } }.put Reg.CLK_STATUS_RAMPING 0 := ⟨_, rfl⟩
  have hramp : v.clk.ramp = none := by rw [hv, State.put_clk]
  have hzero : v.get Reg.CLK_STATUS_RAMPING = 0 := by
    rw [hv]
    exact ((State.setsFields_refl _).next Reg.CLK_STATUS_RAMPING 0 rfl).get (by simp)
  have heq : s.rampOver f = v.put64 Reg.CLK_ROOT_FCW_ACT_LO Reg.CLK_ROOT_FCW_ACT_HI f.toNat := by rw [hv]; rfl
  refine ⟨State.rampOver_moves.1, ?_, ?_, fun h0 h40 => ?_⟩
  · rw [heq, State.put64_clk, hramp]
  · rw [heq, State.put64_get_other _ _ _ _ (by decide) (by decide), hzero]
  · have hlt : f.toNat < 2 ^ 40 := by omega
    rw [heq, State.fcwRoot_put64 _ hlt]
    exact Int.toNat_of_nonneg h0

end

section
variable {s : State} (tag : BitVec 8) (hb : s.get Reg.CLK_CMD_STATUS_BUSY = 0)
include hb

/-- A command of the clock while none runs. -/
theorem State.clkCmd_of (f : State → State) : s.clkCmd f = f s := by
  rw [State.clkCmd, if_neg (by simp [hb])]

theorem retune_answers (hm : s.busyModule = false) (hr : s.clk.ramp = none) (hs : s.startAhead = false)
    (hl : fcwLegal (s.active64 Reg.CLK_ROOT_FCW_LO Reg.CLK_ROOT_FCW_HI : Nat) = true) : Answers (.retune tag) s fun u =>
      u.fcwRoot = s.active64 Reg.CLK_ROOT_FCW_LO Reg.CLK_ROOT_FCW_HI ∧ u.loopSt = 2 ∧
      u.get Reg.CLK_CMD_STATUS_BUSY = 1 ∧ u.clk.cmd = some tag.toNat := by
  obtain ⟨f, hf⟩ : ∃ f, f = s.active64 Reg.CLK_ROOT_FCW_LO Reg.CLK_ROOT_FCW_HI := ⟨_, rfl⟩
  obtain ⟨v, hv⟩ : ∃ v, v = (s.put64 Reg.CLK_ROOT_FCW_ACT_LO Reg.CLK_ROOT_FCW_ACT_HI f).reclock s.rate := ⟨_, rfl⟩
  have hlt : f < 2 ^ 40 := by
    have hlo := fieldOf_lt (s.actWord Reg.CLK_ROOT_FCW_LO.addr).toNat 0 32
    have hhi := fieldOf_lt (s.actWord Reg.CLK_ROOT_FCW_HI.addr).toNat 0 8
    rw [hf, State.active64, State.active, State.active]
    simp only [Reg.CLK_ROOT_FCW_LO, Reg.CLK_ROOT_FCW_HI] at hlo hhi ⊢
    omega
  have hact : v.fcwRoot = f := by
    rw [← s.fcwRoot_put64 hlt, hv]
    exact State.fcwRoot_congr fun g _ => State.get_of_writes State.reclock_moves.1 (by decide) g
  obtain ⟨h1, h2, h3, h4⟩ := v.relock_facts (tag := tag.toNat)
  refine ⟨v.relock tag.toNat, congrArg Host.Outcome.next ?_, ?_, h2, h3, h4⟩
  · rw [State.clkCmd_of hb]
    dsimp only
    rw [if_neg (by simp [hm, hs]), if_neg (by simp [hl]), if_neg (by simp [hr]), hv, hf]
  · rw [h1, hact, hf]

theorem relock_answers (hm : s.busyModule = false) (hr : s.clk.ramp = none) (h0 : s.loopSt = 0) :
    Answers (.relock tag) s fun u => u.fcwRoot = s.fcwRoot ∧ u.loopSt = 2 ∧ u.get Reg.CLK_CMD_STATUS_BUSY = 1 ∧
      u.clk.cmd = some tag.toNat := by
  refine ⟨s.relock tag.toNat, congrArg Host.Outcome.next ?_, s.relock_facts⟩
  rw [State.clkCmd_of hb, if_neg (by simp [hm, h0]), if_neg (by simp [hr])]

/-- What a ramp begun by a command leaves. -/
theorem rampStart_now (hc : s.rampCheck = none) : Answers (.rampStart tag 0) s fun u =>
    s.writes u [.regs, .clk] ∧ (u.get Reg.CLK_CMD_STATUS_TAG = tag.toNat ∧ u.get Reg.CLK_CMD_STATUS_STS = Sts.ok.code ∧
      u.get Reg.CLK_CMD_STATUS_BUSY = 0) ∧ u.get Reg.CLK_STATUS_RAMPING = 1 ∧ u.get Reg.CLK_STATUS_INSTEP = 0 ∧
    u.clk.ramp = some ⟨decide (s.active Reg.CLK_RAMP_CFG = 1), s.fcwBase, s.rampDev,
      (s.active Reg.CLK_RAMP_STEP : Nat), s.fcwBase, false, false, 0⟩ := by
  obtain ⟨v, hv⟩ : ∃ v, v = { s with clk := { s.clk with
      ramp := some ⟨decide (s.active Reg.CLK_RAMP_CFG = 1), s.fcwBase, s.rampDev,
        (s.active Reg.CLK_RAMP_STEP : Nat), s.fcwBase, false, false, 0⟩
      outOfStep := s.clk.outOfStep || !false } } := ⟨_, rfl⟩
  have hout : v.clk.outOfStep = true := by rw [hv, Bool.not_false, Bool.or_true]
  have hramp : v.clk.ramp = some ⟨decide (s.active Reg.CLK_RAMP_CFG = 1), s.fcwBase, s.rampDev,
        (s.active Reg.CLK_RAMP_STEP : Nat), s.fcwBase, false, false, 0⟩ := by rw [hv]
  have heq : s.rampBegin false = (v.put Reg.CLK_STATUS_RAMPING 1).put Reg.CLK_STATUS_INSTEP 0 := by
    have hstep : (v.put Reg.CLK_STATUS_RAMPING 1).restep = (v.put Reg.CLK_STATUS_RAMPING 1).put Reg.CLK_STATUS_INSTEP 0 := by
      rw [State.restep, State.put_clk, hout, Bool.not_true, Bool.and_false, Bool.false_and]
      rfl
    rw [← hstep, hv]
    rfl
  have hsets := (v.setsFields_refl.next Reg.CLK_STATUS_RAMPING 1 rfl).next Reg.CLK_STATUS_INSTEP 0 rfl
  refine ⟨(s.rampBegin false).clkReport tag.toNat .ok, congrArg Host.Outcome.next ?_,
    State.writes_of State.clkReport_moves.1 (by decide) State.rampBegin_moves.1, State.clkReport_reports _ tag.isLt _,
    ?_, ?_, ?_⟩
  · rw [State.clkCmd_of hb]
    dsimp only
    rw [if_neg (by decide), hc]
    rfl
  · rw [State.clkReport_get _ (by decide), heq, hsets.get (v := 1) (by simp)]
  · rw [State.clkReport_get _ (by decide), heq, hsets.get (v := 0) (by simp)]
  · rw [State.clkReport_clk, heq, State.put_clk, State.put_clk, hramp]

theorem rampStart_waits (hc : s.rampCheck = none) : Answers (.rampStart tag 1) s fun u =>
    s.writes u [.regs, .clk] ∧ s.setsFields u [(Reg.CLK_CMD_STATUS_BUSY, 1)] ∧
    u.clk = { s.clk with rampWait := some tag.toNat } := by
  obtain ⟨v, hv⟩ : ∃ v, v = { s with clk := { s.clk with rampWait := some tag.toNat } } := ⟨_, rfl⟩
  have hw : s.writes v [.clk] := hv ▸ s.with_clk_writes _
  have hclk : v.clk = { s.clk with rampWait := some tag.toNat } := by rw [hv]
  refine ⟨v.put Reg.CLK_CMD_STATUS_BUSY 1, congrArg Host.Outcome.next ?_,
    State.writes_of State.put_writes (by decide) (State.writes_mono hw (by decide)),
    (State.setsFields_nil_of_regs (hw .regs (by decide))).next Reg.CLK_CMD_STATUS_BUSY 1 rfl, by rw [State.put_clk, hclk]⟩
  rw [State.clkCmd_of hb, hv]
  dsimp only
  rw [if_neg (by decide), hc]
  rfl

theorem rampStop_none (hr : s.clk.ramp = none) (mode : BitVec 2) : exec (.rampStop tag mode) s =
    .next (s.clkReport tag.toNat .ok) := by
  refine congrArg Host.Outcome.next ?_
  rw [State.clkCmd_of hb, hr]

theorem rampStop_some {r : Ramp} (hr : s.clk.ramp = some r) (mode : BitVec 2) : exec (.rampStop tag mode) s =
    .next ((if r.triangle then { s with clk := { s.clk with ramp := some { r with stopping := true } } }
       else s.rampOver r.cur).clkReport tag.toNat .ok) := by
  refine congrArg Host.Outcome.next ?_
  rw [State.clkCmd_of hb, hr]

end

/-- What a ramp's end leaves. -/
structure State.RampEnds (s u : State) (f : Int) : Prop where
  ramp : u.clk.ramp = none
  ramping : u.get Reg.CLK_STATUS_RAMPING = 0
  root : 0 ≤ f → f < 2 ^ 40 → (u.fcwRoot : Int) = f

theorem State.rampOver_ends (s : State) (f : Int) : s.RampEnds (s.rampOver f) f := by
  obtain ⟨-, h1, h2, h3⟩ := s.rampOver_facts f
  exact ⟨h1, h2, h3⟩

/-- A report after a ramp's end. -/
theorem State.RampEnds.report {s u : State} {f : Int} (h : s.RampEnds u f) (tag : Nat) (e : Sts) :
    s.RampEnds (u.clkReport tag e) f := by
  refine ⟨by rw [State.clkReport_clk, h.ramp], by rw [State.clkReport_get _ (by decide), h.ramping], fun h0 h40 => ?_⟩
  rw [← h.root h0 h40]
  refine congrArg Nat.cast (State.fcwRoot_congr fun g hg => State.clkReport_get _ ?_ _ _)
  rcases hg with hg | hg <;> rw [hg] <;> decide

section
variable {s : State} (tag : BitVec 8) (hb : s.get Reg.CLK_CMD_STATUS_BUSY = 0) {r : Ramp} (hr : s.clk.ramp = some r)

include hb hr in
theorem rampStop_answers (mode : BitVec 2) : Answers (.rampStop tag mode) s fun u =>
    s.writes u [.regs, .clk] ∧ (u.get Reg.CLK_CMD_STATUS_TAG = tag.toNat ∧ u.get Reg.CLK_CMD_STATUS_STS = Sts.ok.code ∧
      u.get Reg.CLK_CMD_STATUS_BUSY = 0) ∧
    (if r.triangle then u.clk = { s.clk with ramp := some { r with stopping := true } } else s.RampEnds u r.cur) := by
  refine ⟨_, rampStop_some tag hb hr mode, ?_, State.clkReport_reports _ tag.isLt _, ?_⟩
  · refine State.writes_of State.clkReport_moves.1 (by decide) ?_
    split
    · exact State.writes_mono (s.with_clk_writes _) (by decide)
    · exact State.rampOver_moves.1
  · split
    · rw [State.clkReport_clk]
    · exact (s.rampOver_ends _).report _ _

include hr in
theorem clkRampEnd_answers (ht : r.triangle = false) (hc : r.cur = r.base + r.dev) : Answers .clkRampEnd s fun u =>
    s.writes u [.regs, .clk] ∧ s.RampEnds u r.cur := by
  refine ⟨s.rampOver r.cur, congrArg Host.Outcome.next ?_, State.rampOver_moves.1, s.rampOver_ends _⟩
  rw [hr]
  exact if_pos (by simp [ht, hc])

include hr in
theorem triangleReturn_answers (ht : r.triangle = true) (hs : r.stopping = true) (hc : r.cur = r.base) :
    Answers .triangleReturnToBase s fun u => s.writes u [.regs, .clk] ∧ s.RampEnds u r.cur := by
  refine ⟨s.rampOver r.base, congrArg Host.Outcome.next ?_, State.rampOver_moves.1, hc ▸ s.rampOver_ends _⟩
  rw [hr]
  exact if_pos (by simp [ht, hs, hc])

end

/-- Settles O51: the loop acquires by relock, and a ramp ends by rampOver. -/
theorem clockCommandsRetuneAndRamp : Obligations.ClockCommandsRetuneAndRamp := by
  unfold Obligations.ClockCommandsRetuneAndRamp
  intro s tag act reported ends
  have hends : ∀ (u : State) (r : Ramp), s.RampEnds u r.cur → ends u r := fun u r h => ⟨h.ramp, h.ramping, h.root⟩
  refine ⟨fun hb hm hr => ⟨retune_answers tag hb hm hr, relock_answers tag hb hm hr⟩,
    fun hb hc => ⟨rampStart_now tag hb hc, rampStart_waits tag hb hc⟩,
    fun hb hr mode => ⟨_, rampStop_none tag hb hr mode, State.clkReport_moves.1, State.clkReport_reports _ tag.isLt _⟩,
    fun hb r mode hr => ?_, fun r hr ht hc => ?_, fun r hr ht hs hc => ?_⟩
  · obtain ⟨u, hu, hw, hrep, h⟩ := rampStop_answers tag hb hr mode
    refine ⟨u, hu, hw, hrep, ?_⟩
    split
    next ht => rwa [if_pos ht] at h
    next ht =>
      rw [if_neg ht] at h
      exact hends u r h
  · obtain ⟨u, hu, hw, h⟩ := clkRampEnd_answers hr ht hc
    exact ⟨u, hu, hw, hends u r h⟩
  · obtain ⟨u, hu, hw, h⟩ := triangleReturn_answers hr ht hs hc
    exact ⟨u, hu, hw, hends u r h⟩

end Sys2Proof.Machine
end

/-! # The ports of the Terxa link (R279 to R284, R288 to R293) -/

section
namespace Sys2Proof.Machine

/-! ## What leaves the registers of the link alone -/

/-- The registers of the link that neither the end of a transfer nor the loss of the reference writes. -/
abbrev txlWord (a : Nat) : Prop := 0x050000 ≤ a ∧ a < 0x050200 ∧ a ≠ 0x050034 ∧ a ≠ 0x050038

section
variable (s : State)

/-- The registers that report the end of a LOAD. -/
def loadEndRegs : List Nat := [Reg.PLC_STATUS_TAG.addr, (Reg.PLC_RES 0).addr, (Reg.PLC_RES 1).addr, Reg.TXL_PEER_DONE_LO.addr,
  Reg.TXL_PEER_DONE_HI.addr]

section
variable {K : Nat → Prop} (hK : ∀ a ∈ loadEndRegs, ¬ K a)
include hK

theorem State.plcReport_keepsWords (tag : Nat) (e : Sts) (b : Bool) : s.keepsWords (s.plcReport tag e b) K := by
  have hstatus : ¬ K Reg.PLC_STATUS_TAG.addr := hK _ (by decide)
  have h := (((s.keepsWords_refl K).put (F := Reg.PLC_STATUS_TAG) tag hstatus).put (F := Reg.PLC_STATUS_STS) e.code
    hstatus).put (F := Reg.PLC_STATUS_LOAD_END) (bit b) hstatus
  unfold State.plcReport
  dsimp only
  split
  · exact h.of_writes State.signalVec_moves.1 (by decide)
  · exact h

theorem State.endLoad_keepsWords (h : Nat) (g : Seg) (l : OpenLoad) (e : Sts) (full : Bool) :
    s.keepsWords (s.endLoad h g l e full) K := by
  unfold State.endLoad
  dsimp only
  refine State.keepsWords.trans ?_ (State.plcReport_keepsWords _ hK _ _ _)
  refine State.keepsWords.put (F := Reg.PLC_RES 1) (State.keepsWords.put (F := Reg.PLC_RES 0) ?_ _ (hK _ (by decide))) _
    (hK _ (by decide))
  split
  · exact (((s.keepsWords_refl _).of_writes State.setSeg_moves.1 (by decide)).put _ (hK _ (by decide))).put _
      (hK _ (by decide))
  · exact (s.keepsWords_refl _).of_writes State.setSeg_moves.1 (by decide)

theorem State.endPeers_keepsWords (p : Nat) : s.keepsWords (s.endPeers p) K := by
  unfold State.endPeers
  dsimp only
  refine State.keepsWords.forEach ((s.keepsWords_refl _).forEach fun u q => ?_) fun u q =>
    (u.keepsWords_refl _).of_writes State.setGuest_moves.1 (by decide)
  split
  · exact u.endLoad_keepsWords hK _ _ _ _ _
  · exact u.keepsWords_refl _

end

theorem loadEndRegs_not_txlWord : ∀ a ∈ loadEndRegs, ¬ txlWord a := by decide

theorem State.setLoop_getTxl {n : Nat} (h0 : n ≠ 0) {f : Fld} (hf : txlWord f.addr) : (s.setLoop n).get f = s.get f := by
  have hapart (g : Fld) (hg : g.addr = 0x020004) : f.addr ≠ g.addr := by omega
  have hun : (s.unlocked n).get f = s.get f := by
    unfold State.unlocked
    split
    · exact (s.endCalWhere_keepsWords (K := txlWord) _ (by decide) (by decide)).get hf
    · rfl
  have hbase : (s.loopBase n).get f = ((s.unlocked n).loopIn n).get f :=
    (State.get_of_writes State.reclock_moves.1 (by decide) f).trans rfl
  rw [State.setLoop_eq s h0, State.get_of_writes (State.latchAll_writes _ _) (by decide),
    State.regate_get _ (by omega) (.inl (hapart _ rfl)), hbase, State.loopIn, State.restep,
    State.get_put_other _ _ (hapart _ rfl), State.get_put_other _ _ (hapart _ rfl), State.get_put_other _ _ (hapart _ rfl), hun]

theorem State.loseRef_getTxl {f : Fld} (hf : txlWord f.addr) : (s.loseRef none).get f = s.get f := by
  have hap (g : Fld) (hg : g.addr < 0x050000) : f.apart g := .inl (by omega)
  have hgone : s.refGone.get f = s.get f := by
    have hn := (s.lossNote_sets (st := Reg.CLK_STATUS_LOR) (cnt := Reg.CLK_LOR_CNT) 0x265 (by decide)).get_apart (f := f)
      (by simpa using ⟨hap Reg.CLK_STATUS_LOR (by decide), hap Reg.CLK_LOR_CNT (by decide)⟩)
    rw [State.refGone, State.get_put_of_apart _ _ (by decide) (hap _ (by decide)),
      State.dropRamp_get _ ⟨by omega, hap _ (by decide)⟩, hn]
  rw [State.loseRef_eq]
  refine Eq.trans (b := s.refDown.get f) rfl ?_
  unfold State.refDown
  split
  · exact hgone
  · exact (State.setLoop_getTxl _ (by decide) hf).trans hgone

end

/-! ## The system left (R288) -/

/-- What leaving the system leaves. -/
structure State.Leaves (s u : State) : Prop where
  joined : u.get Reg.TXL_STATUS_JOINED = 0
  loss : u.get Reg.TXL_STATUS_LOSS = 1
  syslost : u.get Reg.TXL_STATUS_SYSLOST = 1
  reference : 2 ∉ u.clk.qualified
  txl : u.txl = s.forgetUp.txl
  get : ∀ f, txlWord f.addr → f.addr ≠ 0x050008 → u.get f = s.get f

section
variable (s : State)

theorem State.forgetUp_unlocked : s.forgetUp.txl.unlocked = s.txl.unlocked := rfl

/-- s with what came down the upstream port forgotten and a member's alarm sent. -/
def State.unjoined : State :=
  if s.forgetUp.get Reg.TXL_STATUS_JOINED = 1 then (s.forgetUp.put Reg.TXL_STATUS_JOINED 0).alarm 0x0002 0 else s.forgetUp

/-- s out of the system, its reference left aside. -/
def State.outOfSystem : State := (s.unjoined.put Reg.TXL_STATUS_LOSS 1).put Reg.TXL_STATUS_SYSLOST 1

theorem State.unjoined_facts : s.unjoined.get Reg.TXL_STATUS_JOINED = 0 ∧ s.unjoined.clk = s.forgetUp.clk ∧
    s.unjoined.txl = s.forgetUp.txl ∧ ∀ f, f.addr ≠ 0x050008 → s.unjoined.get f = s.get f := by
  obtain ⟨v, hv⟩ : ∃ v, v = s.forgetUp := ⟨_, rfl⟩
  have hget (f : Fld) : v.get f = s.get f := by
    rw [hv]
    exact State.get_of_writes State.forgetUp_moves.1 (by decide) f
  unfold State.unjoined
  rw [← hv]
  split
  next =>
    have hregs : ((v.put Reg.TXL_STATUS_JOINED 0).alarm 0x0002 0).regs = (v.put Reg.TXL_STATUS_JOINED 0).regs :=
      State.alarm_moves.1 .regs (by decide)
    have hsets := (v.setsFields_refl.next Reg.TXL_STATUS_JOINED 0 rfl).of_regs hregs
    refine ⟨hsets.get (by simp), ?_, ?_, fun f hf => (hsets.get_apart (by simpa using .inl hf)).trans (hget f)⟩
    · exact (State.alarm_moves.1 .clk (by decide)).trans (State.put_clk _ _ _)
    · exact (State.alarm_moves.1 .txl (by decide)).trans (State.put_txl _ _ _)
  next h =>
    refine ⟨?_, rfl, rfl, fun f _ => hget f⟩
    have hlt : v.get Reg.TXL_STATUS_JOINED < 2 ^ 1 := fieldOf_lt _ _ _
    omega

theorem State.outOfSystem_leaves : s.Leaves s.outOfSystem := by
  obtain ⟨hj, hclk, htxl, hget⟩ := s.unjoined_facts
  have hsets := (s.unjoined.setsFields_refl.next Reg.TXL_STATUS_LOSS 1 rfl).next Reg.TXL_STATUS_SYSLOST 1 rfl
  refine ⟨(hsets.get_apart (by decide)).trans hj, hsets.get (by simp), hsets.get (by simp), ?_, ?_, fun f _ ha =>
    (hsets.get_apart (by simpa using ⟨.inl ha, .inl ha⟩)).trans (hget f ha)⟩
  · rw [State.outOfSystem, State.put_clk, State.put_clk, hclk]
    simp [State.forgetUp]
  · rw [State.outOfSystem, State.put_txl, State.put_txl, htxl]

theorem State.leaveSystem_leaves : s.Leaves s.leaveSystem := by
  have h := s.outOfSystem_leaves
  have heq : s.leaveSystem = if s.outOfSystem.get Reg.CLK_STATUS_REF_ACT = 2 ∧ s.outOfSystem.get Reg.CLK_STATUS_REF_OK = 1
      then s.outOfSystem.loseRef none else s.outOfSystem := rfl
  rw [heq]
  split
  · have hget (f : Fld) (hf : txlWord f.addr) := s.outOfSystem.loseRef_getTxl hf
    exact ⟨(hget _ (by decide)).trans h.joined, (hget _ (by decide)).trans h.loss, (hget _ (by decide)).trans h.syslost,
      s.outOfSystem.loseRef_loses.1.qualified ▸ h.reference, (State.loseRef_moves.1 .txl (by decide)).trans h.txl,
      fun f hf ha => (hget f hf).trans (h.get f hf ha)⟩
  · exact h

end

/-! ## A port dropped (R283, R288, R289, R292) -/

theorem State.setPort_sets (s : State) (p : Nat) {n : Nat} (hn : n < 8) : s.setsFields (s.setPort p n)
    ((Reg.TXL_PSTATUS_STATE p, n) :: if n = 1 ∧ s.portSt p ≠ 1 then
      [(Reg.TXL_DOWN_CNT p, min (s.get (Reg.TXL_DOWN_CNT p) + 1) 0xFFFFFFFF)] else []) := by
  have h := s.setsFields_refl.nextLt (Reg.TXL_PSTATUS_STATE p) n hn rfl
  unfold State.setPort
  dsimp only
  split
  · exact h.bumpAt (Reg.TXL_DOWN_CNT p) 1 ⟨rfl, rfl⟩
      (by simp [Fld.apart, Reg.TXL_PSTATUS_STATE, Reg.TXL_DOWN_CNT])
  · exact h

theorem State.setPort_portSt (s : State) (p : Nat) {n : Nat} (hn : n < 8) : (s.setPort p n).portSt p = n :=
  (s.setPort_sets p hn).get (by simp)

/-- What a port taken to state n leaves: the port itself, and what was lost with an UP port. -/
structure State.Drops (s u : State) (p n : Nat) (up : Bool) : Prop where
  portSt : u.portSt p = n
  downs : n = 1 → s.portSt p ≠ 1 → u.get (Reg.TXL_DOWN_CNT p) = min (s.get (Reg.TXL_DOWN_CNT p) + 1) 0xFFFFFFFF
  misses : u.get (Reg.TXL_KA_MISS_CNT p) = s.get (Reg.TXL_KA_MISS_CNT p)
  locked : p ∉ u.txl.unlocked
  system : s.portSt p = 4 → up = true → u.get Reg.TXL_STATUS_SYSLOST = 1 ∧ u.txl.sync = none ∧ u.txl.ready = false ∧
    u.get Reg.TXL_STATUS_JOINED = 0 ∧ u.get Reg.TXL_STATUS_LOSS = 1 ∧ 2 ∉ u.clk.qualified
  subtree : s.portSt p = 4 → up = false → u.get Reg.TXL_STATUS_SUBLOST = 1 ∧ u.get (Reg.TXL_PMODS p) = 0 ∧
    ∀ m ∈ u.txl.members, m.1 ≠ p

section
variable (s : State) (p n : Nat)

/-- s with port p in state n, its lock forgotten. -/
def State.portDown : State :=
  { s.setPort p n with txl := { (s.setPort p n).txl with
    unlocked := (s.setPort p n).txl.unlocked.filter (fun q => decide (q ≠ p)) } }

/-- What ends with an UP port, whichever its role. -/
def State.portEnded : State :=
  let v := ((s.portDown p n).endCalWhere (fun r => decide (r.op = 6 ∧ r.cur = p))).endPeers p
  { v with cal := { v.cal with plat := mdel v.cal.plat p } }

theorem State.dropPort_eq (up : Bool) : s.dropPort p n up = if s.portSt p = 4 then
    (if up then (s.portEnded p n).leaveSystem else (s.portEnded p n).loseSubtree p) else s.portDown p n := rfl

variable {p n} (hp : p < 4) (hn : n < 8)

theorem State.portDown_facts : s.writes (s.portDown p n) [.regs, .txl] ∧ (s.portDown p n).txl =
    { s.txl with unlocked := s.txl.unlocked.filter (fun q => decide (q ≠ p)) } := by
  have hw : s.writes (s.setPort p n) [.regs] := State.setPort_moves.1
  refine ⟨State.writes_of (State.with_txl_writes _ _) (by decide) (State.writes_mono hw (by decide)), ?_⟩
  have h := hw .txl (by decide)
  rw [State.portDown, h]

theorem State.portEnded_facts : (s.portEnded p n).txl = (s.portDown p n).txl ∧
    ∀ f, txlWord f.addr → (s.portEnded p n).get f = (s.setPort p n).get f := by
  obtain ⟨v, hv⟩ : ∃ v, v = ((s.portDown p n).endCalWhere (fun r => decide (r.op = 6 ∧ r.cur = p))).endPeers p := ⟨_, rfl⟩
  have htxl : v.txl = (s.portDown p n).txl := by
    rw [hv]
    exact (State.endPeers_moves.1 .txl (by decide)).trans (State.endCalWhere_moves.1 .txl (by decide))
  have hkeep : (s.portDown p n).keepsWords v txlWord := by
    rw [hv]
    exact (State.endCalWhere_keepsWords _ _ (by decide) (by decide)).trans
      (State.endPeers_keepsWords _ loadEndRegs_not_txlWord _)
  have heq : s.portEnded p n = { v with cal := { v.cal with plat := mdel v.cal.plat p } } := by
    rw [hv]
    rfl
  have hw := v.with_cal_writes { v.cal with plat := mdel v.cal.plat p }
  rw [heq]
  exact ⟨(hw .txl (by decide)).trans htxl, fun f hf => (State.get_of_writes hw (by decide) f).trans (hkeep.get hf)⟩

theorem State.loseSubtree_facts : (s.loseSubtree p).get Reg.TXL_STATUS_SUBLOST = 1 ∧ (s.loseSubtree p).get (Reg.TXL_PMODS p) = 0 ∧
    (∀ m ∈ (s.loseSubtree p).txl.members, m.1 ≠ p) ∧ (s.loseSubtree p).txl.unlocked = s.txl.unlocked ∧
    ∀ f : Fld, f.addr ≠ 0x050008 → f.addr ≠ (Reg.TXL_PMODS p).addr → (s.loseSubtree p).get f = s.get f := by
  obtain ⟨v, hv⟩ : ∃ v, v = { s with txl := { s.txl with
    members := s.txl.members.filter (fun m => decide (m.1 ≠ p))
    reports := s.txl.reports.filter (fun m => decide (m.1 ≠ p))
    joined := s.txl.joined.filter (fun q => decide (q ≠ p)) } } := ⟨_, rfl⟩
  have hsub : s.loseSubtree p = ((v.put (Reg.TXL_PMODS p) 0).put Reg.TXL_STATUS_SUBLOST 1).alarm 0x0001 p := by
    rw [hv]
    rfl
  have hregs : v.regs = s.regs := by rw [hv]
  have hmem : v.txl.members = s.txl.members.filter (fun m => decide (m.1 ≠ p)) := by rw [hv]
  have hun : v.txl.unlocked = s.txl.unlocked := by rw [hv]
  have hsets := (((State.setsFields_nil_of_regs hregs).nextAt (Reg.TXL_PMODS p) 0 (by simp) rfl).put Reg.TXL_STATUS_SUBLOST 1
    (by decide) (by decide) (by simp [Fld.apart, Reg.TXL_PMODS, Reg.TXL_STATUS_SUBLOST]; omega)).of_regs
    (State.alarm_moves (x1 := 0x0001) (x2 := p).1 .regs (by decide))
  have htxl : (((v.put (Reg.TXL_PMODS p) 0).put Reg.TXL_STATUS_SUBLOST 1).alarm 0x0001 p).txl = v.txl :=
    (State.alarm_moves.1 .txl (by decide)).trans ((State.put_txl _ _ _).trans (State.put_txl _ _ _))
  rw [hsub, htxl, hmem, hun]
  exact ⟨hsets.get (by simp), hsets.get (by simp), by simp, rfl, fun f h1 h2 =>
    hsets.get_apart (by simpa using ⟨.inl h2, .inl h1⟩)⟩

include hp hn

theorem State.dropPort_drops (up : Bool) : s.Drops (s.dropPort p n up) p n up := by
  have hsets := s.setPort_sets p hn
  have hst : (s.setPort p n).portSt p = n := s.setPort_portSt p hn
  have hdown (h1 : n = 1) (h : s.portSt p ≠ 1) :
      (s.setPort p n).get (Reg.TXL_DOWN_CNT p) = min (s.get (Reg.TXL_DOWN_CNT p) + 1) 0xFFFFFFFF :=
    hsets.get (by simp [h1, h])
  have hmiss : (s.setPort p n).get (Reg.TXL_KA_MISS_CNT p) = s.get (Reg.TXL_KA_MISS_CNT p) := hsets.get_apart (by
    split <;> simp [Fld.apart, Reg.TXL_KA_MISS_CNT, Reg.TXL_PSTATUS_STATE, Reg.TXL_DOWN_CNT])
  have hlock : p ∉ (s.portDown p n).txl.unlocked := by
    rw [s.portDown_facts.2]
    simp
  have hword (a : Nat) (h1 : 0x050100 ≤ a) (h2 : a < 0x050200) : txlWord a := ⟨by omega, h2, by omega, by omega⟩
  obtain ⟨htxl, hget⟩ := s.portEnded_facts (p := p) (n := n)
  rw [State.dropPort_eq]
  split
  next h4 =>
    cases up with
    | true =>
      rw [if_pos rfl]
      have h := (s.portEnded p n).leaveSystem_leaves
      have hkeep (f : Fld) (h1 : 0x050100 ≤ f.addr) (h2 : f.addr < 0x050200) :
          (s.portEnded p n).leaveSystem.get f = (s.setPort p n).get f :=
        (h.get f (hword _ h1 h2) (by omega)).trans (hget f (hword _ h1 h2))
      refine ⟨(hkeep _ ?_ ?_).trans hst, fun h1 h => (hkeep _ ?_ ?_).trans (hdown h1 h), (hkeep _ ?_ ?_).trans hmiss, ?_,
        fun _ _ => ⟨h.syslost, ?_, ?_, h.joined, h.loss, h.reference⟩, fun _ e => by simp at e⟩
      case refine_7 =>
        rw [h.txl, State.forgetUp_unlocked, htxl]
        exact hlock
      case refine_8 => rw [h.txl]; rfl
      case refine_9 => rw [h.txl]; rfl
      all_goals simp [Reg.TXL_PSTATUS_STATE, Reg.TXL_DOWN_CNT, Reg.TXL_KA_MISS_CNT] <;> omega
    | false =>
      rw [if_neg (by decide)]
      obtain ⟨hsub, hmods, hmem, hun, hother⟩ := (s.portEnded p n).loseSubtree_facts (p := p)
      have hkeep (f : Fld) (h1 : 0x050100 ≤ f.addr) (h2 : f.addr < 0x050200) (h3 : f.addr ≠ (Reg.TXL_PMODS p).addr) :
          ((s.portEnded p n).loseSubtree p).get f = (s.setPort p n).get f :=
        (hother f (by omega) h3).trans (hget f (hword _ h1 h2))
      refine ⟨(hkeep _ ?_ ?_ ?_).trans hst, fun h1 h => (hkeep _ ?_ ?_ ?_).trans (hdown h1 h), (hkeep _ ?_ ?_ ?_).trans hmiss,
        ?_, fun _ e => by simp at e, fun _ _ => ⟨hsub, hmods, hmem⟩⟩
      case refine_10 =>
        rw [hun, htxl]
        exact hlock
      all_goals simp [Reg.TXL_PSTATUS_STATE, Reg.TXL_DOWN_CNT, Reg.TXL_KA_MISS_CNT, Reg.TXL_PMODS] <;> omega
  next h4 => exact ⟨hst, hdown, hmiss, hlock, fun e => absurd e h4, fun e => absurd e h4⟩

end

/-! ## Light, training and calibration -/

section
variable (s : State) (p : PortNo)

/-- s with light at port p, whose far end has the upstream role or not. -/
def State.lit (partner : Bool) : State :=
  { s.put (Reg.TXL_PSTATUS_LIGHT p) 1 with txl := { s.txl with
    facing := (if partner then [p.val] else []) ++ s.txl.facing.filter (fun q => decide (q ≠ p.val)) } }

theorem State.lit_facts (partner : Bool) : s.writes (s.lit p partner) [.regs, .txl] ∧
    s.setsFields (s.lit p partner) [(Reg.TXL_PSTATUS_LIGHT p, 1)] ∧
    (p.val ∈ (s.lit p partner).txl.facing ↔ partner = true) := by
  refine ⟨State.writes_of (State.with_txl_writes _ _) (by decide) (State.writes_mono State.put_writes (by decide)),
    (s.setsFields_refl.next (Reg.TXL_PSTATUS_LIGHT p) 1 rfl).of_regs rfl, ?_⟩
  have h : (s.lit p partner).txl.facing =
      (if partner then [p.val] else []) ++ s.txl.facing.filter (fun q => decide (q ≠ p.val)) := rfl
  rw [h]
  cases partner <;> simp

variable {p}

theorem exec_lightPresent {s : State} (h : s.portSt p = 1) (partner : Bool) :
    exec (.lightPresent p partner) s = .next ((s.lit p partner).tryTrain p) := by
  have hst : (s.lit p partner).portSt p = 1 := ((s.lit_facts p partner).2.1.get_apart (by
    simp [Fld.apart, Reg.TXL_PSTATUS_LIGHT, Reg.TXL_PSTATUS_STATE])).trans h
  have heq : (if s.portSt p = 5 ∧ s.get (Reg.TXL_PSTATUS_LIGHT p) = 0 then (s.lit p partner).setPort p 1
      else s.lit p partner) = s.lit p partner := if_neg (by omega)
  have hexec : exec (.lightPresent p partner) s = .next (
      let s1 := if s.portSt p = 5 ∧ s.get (Reg.TXL_PSTATUS_LIGHT p) = 0 then (s.lit p partner).setPort p 1 else s.lit p partner
      if s1.portSt p ≠ 1 then s1 else s1.tryTrain p) := rfl
  rw [hexec]
  dsimp only
  rw [heq, if_neg (by simp [hst])]

/-- Whether a DOWN port with light faces a port of its own role. -/
theorem State.lit_faces (partner : Bool) :
    ((s.lit p partner).txl.facing.contains p.val = decide ((s.lit p partner).upPort = p.val)) ↔
      partner = decide (s.upPort = p.val) := by
  have hup : (s.lit p partner).upPort = s.upPort := State.active_of_writes (s.lit_facts p partner).1 (by decide) _
  have hmem : (s.lit p partner).txl.facing.contains p.val = partner := by
    rw [Bool.eq_iff_iff, List.contains_iff_mem]
    exact (s.lit_facts p partner).2.2
  rw [hup, hmem]

variable {s}

theorem lightPresent_trains {partner : Bool} (h : s.portSt p = 1) (hr : partner ≠ decide (s.upPort = p.val)) :
    Answers (.lightPresent p partner) s fun u => s.writes u [.regs, .txl] ∧
      s.setsFields u [(Reg.TXL_PSTATUS_LIGHT p, 1), (Reg.TXL_PSTATUS_STATE p, 2)] ∧ (p.val ∈ u.txl.facing ↔ partner = true) := by
  obtain ⟨hw, hsets, hfacing⟩ := s.lit_facts p partner
  refine ⟨(s.lit p partner).put (Reg.TXL_PSTATUS_STATE p) 2, ?_, State.writes_of State.put_writes (by decide) hw,
    hsets.nextAt (Reg.TXL_PSTATUS_STATE p) 2 (by simp [Fld.apart, Reg.TXL_PSTATUS_LIGHT, Reg.TXL_PSTATUS_STATE]) rfl, ?_⟩
  · rw [exec_lightPresent h, State.tryTrain, if_neg (fun e => hr ((s.lit_faces partner).mp e))]
    rfl
  · rwa [State.put_txl]

theorem lightPresent_stays {partner : Bool} (h : s.portSt p = 1) (hr : partner = decide (s.upPort = p.val)) :
    Answers (.lightPresent p partner) s fun u => s.writes u [.regs, .txl] ∧
      s.setsFields u [(Reg.TXL_PSTATUS_LIGHT p, 1), (Reg.TXL_PSTATUS_STS p, Sts.precond.code)] := by
  obtain ⟨hw, hsets, -⟩ := s.lit_facts p partner
  refine ⟨(s.lit p partner).put (Reg.TXL_PSTATUS_STS p) Sts.precond.code, ?_, State.writes_of State.put_writes (by decide) hw,
    hsets.nextAt (Reg.TXL_PSTATUS_STS p) _ (by simp [Fld.apart, Reg.TXL_PSTATUS_LIGHT, Reg.TXL_PSTATUS_STS]) rfl⟩
  rw [exec_lightPresent h, State.tryTrain, if_pos ((s.lit_faces partner).mpr hr)]

variable (s p)

theorem laneAligned_answers : Answers (.laneAligned p) s fun u => s.writes u [.regs, .txl] ∧
    u.txl = { s.txl with unlocked := s.txl.unlocked.filter (fun q => decide (q ≠ p.val)) } ∧
    s.setsFields u (if s.portSt p = 2 then [(Reg.TXL_PSTATUS_STATE p, 3)] else []) := by
  obtain ⟨v, hv⟩ : ∃ v, v = { s with txl := { s.txl with unlocked := s.txl.unlocked.filter (fun q => decide (q ≠ p.val)) } } :=
    ⟨_, rfl⟩
  have hw : s.writes v [.regs, .txl] := hv ▸ State.writes_mono (s.with_txl_writes _) (by decide)
  have htxl : v.txl = { s.txl with unlocked := s.txl.unlocked.filter (fun q => decide (q ≠ p.val)) } := by rw [hv]
  have hsets : s.setsFields v [] := State.setsFields_nil_of_regs (by rw [hv])
  have hexec : exec (.laneAligned p) s = .next (if s.portSt p = 2 then v.put (Reg.TXL_PSTATUS_STATE p) 3 else v) := by
    rw [hv]
    rfl
  rw [← htxl]
  refine ⟨_, hexec, ?_⟩
  split
  · exact ⟨State.writes_of State.put_writes (by decide) hw, State.put_txl _ _ _, hsets.next (Reg.TXL_PSTATUS_STATE p) 3 rfl⟩
  · exact ⟨hw, rfl, hsets⟩

theorem trainingTimeout_answers (h : s.portSt p = 2) : Answers (.trainingTimeout p) s fun u =>
    s.setsOnly u [(Reg.TXL_PSTATUS_STATE p, 5), (Reg.TXL_PSTATUS_STS p, Sts.trainfail.code)] :=
  ⟨(s.put (Reg.TXL_PSTATUS_STATE p) 5).put (Reg.TXL_PSTATUS_STS p) Sts.trainfail.code, congrArg Host.Outcome.next (if_pos h),
    State.writes_of State.put_writes (by decide) State.put_writes,
    (s.setsFields_refl.next (Reg.TXL_PSTATUS_STATE p) 5 rfl).nextAt (Reg.TXL_PSTATUS_STS p) _
      (by simp [Fld.apart, Reg.TXL_PSTATUS_STATE, Reg.TXL_PSTATUS_STS]) rfl⟩

theorem portCalibrationDone_answers (rtt turn resid : BitVec 32) (h : s.portSt p = 3) :
    Answers (.portCalibrationDone p rtt turn resid) s fun u =>
      s.setsOnly u [(Reg.TXL_PLAT p, unsignedOf 32 (((rtt.toNat : Int) - turn.toNat) / 2 +
          signedOf 16 (s.active (Reg.TXL_ASYM p)))),
        (Reg.TXL_PRES p, min resid.toNat 0xFFFF), (Reg.TXL_PSTATUS_STS p, Sts.ok.code), (Reg.TXL_PSTATUS_STATE p, 4)] := by
  have hplat := s.setsFields_refl.nextLt (Reg.TXL_PLAT p)
    (unsignedOf 32 (((rtt.toNat : Int) - turn.toNat) / 2 + signedOf 16 (s.active (Reg.TXL_ASYM p)))) (unsignedOf_lt 32 _) rfl
  have hres := hplat.put (Reg.TXL_PRES p) (min resid.toNat 0xFFFF) (by simp [Reg.TXL_PRES])
    (Nat.lt_of_le_of_lt (Nat.min_le_right _ _) (by simp [Reg.TXL_PRES])) (by simp [Fld.apart, Reg.TXL_PLAT, Reg.TXL_PRES])
  have hsts := hres.nextAt (Reg.TXL_PSTATUS_STS p) Sts.ok.code
    (by simp [Fld.apart, Reg.TXL_PLAT, Reg.TXL_PRES, Reg.TXL_PSTATUS_STS]) rfl
  have hst := hsts.nextAt (Reg.TXL_PSTATUS_STATE p) 4
    (by simp [Fld.apart, Reg.TXL_PLAT, Reg.TXL_PRES, Reg.TXL_PSTATUS_STS, Reg.TXL_PSTATUS_STATE]) rfl
  refine ⟨_, congrArg Host.Outcome.next (if_neg (by simp [h])), ?_, hst⟩
  exact State.writes_of State.put_writes (by decide) (State.writes_of State.put_writes (by decide)
    (State.writes_of State.put_writes (by decide) State.put_writes))

end

/-! ## Ports lost -/

section
variable (s : State) (p : PortNo)

/-- s with light gone from port p's lanes. -/
def State.unlit : State := s.put (Reg.TXL_PSTATUS_LIGHT p) 0

theorem State.unlit_portSt : (s.unlit p).portSt p = s.portSt p :=
  State.get_put_of_apart s 0 (by simp [Reg.TXL_PSTATUS_LIGHT])
    (by simp [Fld.apart, Reg.TXL_PSTATUS_LIGHT, Reg.TXL_PSTATUS_STATE])

theorem State.unlit_get {f : Fld} (hf : f.addr ≠ (Reg.TXL_PSTATUS_LIGHT p).addr) : (s.unlit p).get f = s.get f :=
  State.get_put_other s 0 hf

variable {s p}

theorem exec_lightLoss (h : 2 ≤ s.portSt p ∧ s.portSt p ≤ 4) :
    exec (.lightLoss p) s = .next ((s.unlit p).dropPort p 1 (decide (s.upPort = p.val))) :=
  congrArg Host.Outcome.next (if_pos h)

theorem lightLoss_training (h : s.portSt p = 2 ∨ s.portSt p = 3) : Answers (.lightLoss p) s fun u =>
    s.writes u [.regs, .txl] ∧ s.setsFields u [(Reg.TXL_PSTATUS_LIGHT p, 0), (Reg.TXL_PSTATUS_STATE p, 1),
      (Reg.TXL_DOWN_CNT p, min (s.get (Reg.TXL_DOWN_CNT p) + 1) 0xFFFFFFFF)] := by
  have hst := s.unlit_portSt p
  have hsets : s.setsFields (s.unlit p) [(Reg.TXL_PSTATUS_LIGHT p, 0)] := s.setsFields_refl.next (Reg.TXL_PSTATUS_LIGHT p) 0 rfl
  have hdown := (hsets.nextAt (Reg.TXL_PSTATUS_STATE p) 1
    (by simp [Fld.apart, Reg.TXL_PSTATUS_LIGHT, Reg.TXL_PSTATUS_STATE]) rfl).bumpAt (Reg.TXL_DOWN_CNT p) 1 ⟨rfl, rfl⟩
    (by simp [Fld.apart, Reg.TXL_PSTATUS_LIGHT, Reg.TXL_PSTATUS_STATE, Reg.TXL_DOWN_CNT])
  have hport : (s.unlit p).setPort p 1 = ((s.unlit p).put (Reg.TXL_PSTATUS_STATE p) 1).bump (Reg.TXL_DOWN_CNT p) :=
    if_pos ⟨rfl, by rw [hst]; omega⟩
  refine ⟨_, exec_lightLoss (by omega), ?_⟩
  rw [State.dropPort_eq, if_neg (by rw [hst]; omega)]
  refine ⟨State.writes_of (State.portDown_facts _).1 (by decide) (State.writes_mono State.put_writes (by decide)), ?_⟩
  rw [← hport] at hdown
  exact hdown.of_regs rfl

/-- What the loss of an UP port leaves. -/
theorem upPort_lost {i : Instr} (h4 : s.portSt p = 4) (hi : i = .lightLoss p ∨ i = .keepaliveTimeout p) : Answers i s fun u =>
    u.portSt p = 1 ∧ u.get (Reg.TXL_DOWN_CNT p) = min (s.get (Reg.TXL_DOWN_CNT p) + 1) 0xFFFFFFFF ∧
    p.val ∉ u.txl.unlocked ∧
    (i = .keepaliveTimeout p → u.get (Reg.TXL_KA_MISS_CNT p) = min (s.get (Reg.TXL_KA_MISS_CNT p) + 3) 0xFFFFFFFF) ∧
    (s.upPort = p.val → u.get Reg.TXL_STATUS_SYSLOST = 1 ∧ u.txl.sync = none ∧ u.txl.ready = false ∧
      u.get Reg.TXL_STATUS_JOINED = 0 ∧ u.get Reg.TXL_STATUS_LOSS = 1 ∧ 2 ∉ u.clk.qualified) ∧
    (s.upPort ≠ p.val → u.get Reg.TXL_STATUS_SUBLOST = 1 ∧ u.get (Reg.TXL_PMODS p) = 0 ∧
      ∀ m ∈ u.txl.members, m.1 ≠ p.val) := by
  rcases hi with rfl | rfl
  · have hst := (s.unlit_portSt p).trans h4
    have h := (s.unlit p).dropPort_drops p.isLt (n := 1) (by decide) (decide (s.upPort = p.val))
    refine ⟨_, exec_lightLoss (by omega), h.portSt, ?_, h.locked, (fun e => by cases e),
      fun e => h.system hst (by simp [e]), fun e => h.subtree hst (by simp [e])⟩
    rw [h.downs rfl (by omega), s.unlit_get p (by simp [Reg.TXL_PSTATUS_LIGHT, Reg.TXL_DOWN_CNT])]
  · have hmiss := s.setsFields_refl.bumpAt (Reg.TXL_KA_MISS_CNT p) 3 ⟨rfl, rfl⟩ (by simp)
    have hst : (s.bump (Reg.TXL_KA_MISS_CNT p) 3).portSt p = 4 := (hmiss.get_apart (by
      simp [Fld.apart, Reg.TXL_PSTATUS_STATE, Reg.TXL_KA_MISS_CNT])).trans h4
    have h := (s.bump (Reg.TXL_KA_MISS_CNT p) 3).dropPort_drops p.isLt (n := 1) (by decide) (decide (s.upPort = p.val))
    refine ⟨_, congrArg Host.Outcome.next (if_pos h4), h.portSt, ?_, h.locked, fun _ => ?_,
      fun e => h.system hst (by simp [e]), fun e => h.subtree hst (by simp [e])⟩
    · rw [h.downs rfl (by omega), hmiss.get_apart (by simp [Fld.apart, Reg.TXL_DOWN_CNT, Reg.TXL_KA_MISS_CNT])]
    · exact h.misses.trans (hmiss.get (by simp))

variable (s p)

theorem blockLockLoss_port : Answers (.blockLockLoss (some p)) s fun u => s.writes u [.regs, .txl] ∧
    s.setsFields u [(Reg.TXL_BLK_ERR_CNT p, min (s.get (Reg.TXL_BLK_ERR_CNT p) + 16) 0xFFFFFFFF)] ∧
    p.val ∈ u.txl.unlocked ∧ u.portTalks p = false := by
  obtain ⟨v, hv⟩ : ∃ v, v = { s.bump (Reg.TXL_BLK_ERR_CNT p) 16 with txl := { s.txl with
    unlocked := p.val :: s.txl.unlocked.filter (fun q => decide (q ≠ p.val)) } } := ⟨_, rfl⟩
  have hmem : p.val ∈ v.txl.unlocked := by
    have h : v.txl.unlocked = p.val :: s.txl.unlocked.filter (fun q => decide (q ≠ p.val)) := by rw [hv]
    rw [h]
    exact List.mem_cons_self
  refine ⟨v, congrArg Host.Outcome.next hv.symm, ?_, ?_, hmem, ?_⟩
  · rw [hv]
    exact State.writes_of (State.with_txl_writes _ _) (by decide) (State.writes_mono State.put_writes (by decide))
  · exact (s.setsFields_refl.bumpAt (Reg.TXL_BLK_ERR_CNT p) 16 ⟨rfl, rfl⟩ (by simp)).of_regs (by rw [hv])
  · simp [State.portTalks, hmem]

theorem blockLockLoss_crossing : Answers (.blockLockLoss none) s fun u =>
    s.writes u [.xng] ∧ u.xng = { s.xng with up := false } :=
  ⟨{ s with xng := { s.xng with up := false } }, rfl, s.with_xng_writes _, rfl⟩

end

/-! ## Port commands (R283, R293) -/

section
variable {s : State} {p : PortNo}

/-- A report of a port command. -/
theorem State.txlReport_sets (v : State) (tag : BitVec 8) (e : Sts) : v.setsFields (v.txlReport tag.toNat e)
    [(Reg.TXL_CMD_STATUS_TAG, tag.toNat), (Reg.TXL_CMD_STATUS_STS, e.code), (Reg.TXL_CMD_STATUS_BUSY, 0)] :=
  ((v.setsFields_refl.nextLt Reg.TXL_CMD_STATUS_TAG tag.toNat tag.isLt rfl).nextLt Reg.TXL_CMD_STATUS_STS e.code
    (Sts.code_lt e) rfl).next Reg.TXL_CMD_STATUS_BUSY 0 rfl

theorem State.txlReport_portSt (v : State) (tag : BitVec 8) (e : Sts) : (v.txlReport tag.toNat e).portSt p = v.portSt p :=
  (v.txlReport_sets tag e).get_apart (by
    simp [Fld.apart, Reg.TXL_CMD_STATUS_TAG, Reg.TXL_CMD_STATUS_STS, Reg.TXL_CMD_STATUS_BUSY, Reg.TXL_PSTATUS_STATE]; omega)

/-- A port command completed with a status. -/
def State.portReports (u : State) (tag : BitVec 8) (e : Sts) : Prop := u.get Reg.TXL_CMD_STATUS_TAG = tag.toNat ∧
  u.get Reg.TXL_CMD_STATUS_STS = e.code ∧ u.get Reg.TXL_CMD_STATUS_BUSY = 0

theorem State.txlReport_reports (v : State) (tag : BitVec 8) (e : Sts) : (v.txlReport tag.toNat e).portReports tag e :=
  ⟨(v.txlReport_sets tag e).get (by simp), (v.txlReport_sets tag e).get (by simp), (v.txlReport_sets tag e).get (by simp)⟩

theorem txlRetrain_on (tag : BitVec 8) (h : s.portOn p = true) :
    Answers (.txlRetrain tag p) s fun u => u.portSt p = 1 ∧ u.portReports tag .ok :=
  ⟨_, congrArg Host.Outcome.next (if_neg (by simp [h])),
    (State.txlReport_portSt _ _ _).trans (s.dropPort_drops p.isLt (by decide) _).portSt, State.txlReport_reports _ _ _⟩

theorem txlRetrain_off (tag : BitVec 8) (h : s.portOn p = false) : Answers (.txlRetrain tag p) s fun u =>
    s.writes u [.regs] ∧ u.portSt p = s.portSt p ∧ u.portReports tag .state :=
  ⟨_, congrArg Host.Outcome.next (if_pos (by simp [h])),
    State.writes_of State.put_writes (by decide) (State.writes_of State.put_writes (by decide) State.put_writes),
    State.txlReport_portSt _ _ _, State.txlReport_reports _ _ _⟩

theorem txlDown_answers (tag : BitVec 8) : Answers (.txlDown tag p) s fun u => u.portSt p = 0 ∧ u.portReports tag .ok :=
  ⟨_, rfl, (State.txlReport_portSt _ _ _).trans (s.dropPort_drops p.isLt (by decide) _).portSt, State.txlReport_reports _ _ _⟩

theorem txlIdWrite_taken (v : Word) (h : ∀ q, q < 4 → s.portSt q ≠ 4) : Answers (.txlIdWrite v) s fun u =>
    s.setsOnly u [(Reg.TXL_ID, v.toNat % 2 ^ 9)] := by
  have hup : (upto 4).any (fun p => decide (s.portSt p = 4)) = false := by simpa [upto] using h
  exact ⟨_, congrArg Host.Outcome.next (if_neg (by simp [hup])), State.put_writes, s.setsFields_refl.nextMod Reg.TXL_ID 9 _ rfl rfl⟩

theorem txlIdWrite_ignored (v : Word) (h : s.portSt p = 4) : Answers (.txlIdWrite v) s fun u =>
    s.setsOnly u [(Reg.TXL_STATUS_ID_IGNORED, 1)] := by
  have hup : (upto 4).any (fun p => decide (s.portSt p = 4)) = true :=
    List.any_eq_true.mpr ⟨p.val, List.mem_range.mpr p.isLt, by simpa using h⟩
  exact ⟨_, congrArg Host.Outcome.next (if_pos hup), State.put_writes, s.setsFields_refl.next Reg.TXL_STATUS_ID_IGNORED 1 rfl⟩

end

/-! ## Keepalives (R282, R288, R290) -/

section
variable (s : State) (p : PortNo)

/-- s with what a keepalive from downstream brings. -/
def State.heardDown (joined : Bool) (ready : List (BitVec 9)) : State := { s with txl := { s.txl with
  joined := (if joined then [p.val] else []) ++ s.txl.joined.filter (fun q => decide (q ≠ p.val))
  reports := ready.map (fun m => (p.val, m.toNat)) ++ s.txl.reports.filter (fun m => decide (m.1 ≠ p.val)) } }

theorem State.heardDown_facts (joined : Bool) (ready : List (BitVec 9)) :
    s.writes (s.heardDown p joined ready) [.regs, .txl] ∧ s.setsFields (s.heardDown p joined ready) [] ∧
    (p.val ∈ (s.heardDown p joined ready).txl.joined ↔ joined = true) ∧
    (∀ n, (p.val, n) ∈ (s.heardDown p joined ready).txl.reports ↔ ∃ m ∈ ready, m.toNat = n) ∧
    ∀ q n, q ≠ p.val → ((q, n) ∈ (s.heardDown p joined ready).txl.reports ↔ (q, n) ∈ s.txl.reports) := by
  have hj : (s.heardDown p joined ready).txl.joined =
    (if joined then [p.val] else []) ++ s.txl.joined.filter (fun q => decide (q ≠ p.val)) := rfl
  have hr : (s.heardDown p joined ready).txl.reports =
    ready.map (fun m => (p.val, m.toNat)) ++ s.txl.reports.filter (fun m => decide (m.1 ≠ p.val)) := rfl
  refine ⟨State.writes_mono (s.with_txl_writes _) (by decide), State.setsFields_nil_of_regs rfl, ?_, fun n => ?_,
    fun q n hq => ?_⟩
  · rw [hj]
    cases joined <;> simp
  · simp [hr]
  · rw [hr]
    simp only [List.mem_append, List.mem_map, List.mem_filter, Prod.mk.injEq, decide_eq_true_eq]
    exact ⟨fun h => h.elim (fun ⟨_, _, e, _⟩ => absurd e.symm hq) And.left, fun h => .inr ⟨h, hq⟩⟩

variable {s p}

theorem keepalive_down {time : BitVec 64} {trace joined : Bool} {depth : BitVec 4} {ready : List (BitVec 9)}
    (ht : s.portTalks p = true) (hup : s.upPort ≠ p.val) :
    Answers (.keepaliveMessage p time trace joined depth ready) s fun u =>
      s.writes u [.regs, .txl] ∧ (p.val ∈ u.txl.joined ↔ joined = true) ∧
      s.setsFields u (if joined = false ∧ 8 < depth.toNat then [(Reg.TXL_PSTATUS_STS p, Sts.range.code)] else []) ∧
      (∀ n, (p.val, n) ∈ u.txl.reports ↔ ∃ m ∈ ready, m.toNat = n) ∧
      (∀ q n, q ≠ p.val → ((q, n) ∈ u.txl.reports ↔ (q, n) ∈ s.txl.reports)) := by
  obtain ⟨hw, hsets, hj, hr, ho⟩ := s.heardDown_facts p joined ready
  have hexec : exec (.keepaliveMessage p time trace joined depth ready) s = .next
      (if !joined ∧ 8 < depth.toNat then (s.heardDown p joined ready).put (Reg.TXL_PSTATUS_STS p) Sts.range.code
        else s.heardDown p joined ready) :=
    congrArg Host.Outcome.next ((if_neg (by simp [ht])).trans (if_neg hup))
  refine ⟨_, hexec, ?_⟩
  by_cases hd : joined = false ∧ 8 < depth.toNat
  · rw [if_pos hd, if_pos (by simp [hd])]
    beta_reduce
    rw [State.put_txl]
    exact ⟨State.writes_of State.put_writes (by decide) hw, hj, hsets.next (Reg.TXL_PSTATUS_STS p) _ rfl, hr, ho⟩
  · rw [if_neg hd, if_neg (by simpa using hd)]
    exact ⟨hw, hj, hsets, hr, ho⟩

variable (s p)

/-- s with what a keepalive from upstream brings of the trace. -/
def State.heardUp (trace : Bool) (depth : BitVec 4) : State :=
  { s with txl := { s.txl with traceUp := trace, depthUp := depth.toNat } }

/-- Judging READY notes the depth, a refusal, and READY. -/
theorem State.judgeReady_facts : s.writes s.judgeReady [.regs, .txl] ∧
    s.judgeReady.get Reg.TXL_STATUS_DEPTH = (s.txl.depthUp + 1) % 2 ^ 4 ∧ s.judgeReady.txl.traceUp = s.txl.traceUp ∧
    s.judgeReady.txl.depthUp = s.txl.depthUp ∧ s.judgeReady.txl.heard = s.txl.heard := by
  obtain ⟨v, hv⟩ : ∃ v, v = s.put Reg.TXL_STATUS_DEPTH (s.txl.depthUp + 1) := ⟨_, rfl⟩
  have hsets := hv ▸ s.setsFields_refl.nextMod Reg.TXL_STATUS_DEPTH 4 (s.txl.depthUp + 1) rfl rfl
  have hw : s.writes v [.regs, .txl] := hv ▸ State.writes_mono State.put_writes (by decide)
  have htxl : v.txl = s.txl := by rw [hv, State.put_txl]
  have hsts (e : Sts) : let u := v.put Reg.TXL_STATUS_JOIN_STS e.code
      s.writes u [.regs, .txl] ∧ u.get Reg.TXL_STATUS_DEPTH = (s.txl.depthUp + 1) % 2 ^ 4 ∧ u.txl.traceUp = s.txl.traceUp ∧
        u.txl.depthUp = s.txl.depthUp ∧ u.txl.heard = s.txl.heard := by
    dsimp only
    rw [State.put_txl, htxl]
    exact ⟨State.writes_of State.put_writes (by decide) hw, (hsets.nextLt Reg.TXL_STATUS_JOIN_STS e.code (Sts.code_lt e) rfl).get
      (by simp), rfl, rfl, rfl⟩
  unfold State.judgeReady
  dsimp only
  rw [← hv]
  split
  · exact hsts .range
  · split
    · exact hsts .precond
    · split
      · rw [htxl]
        exact ⟨State.writes_of (State.with_txl_writes _ _) (by decide) hw, (hsets.of_regs rfl).get (by simp), rfl, rfl, rfl⟩
      · rw [htxl]
        exact ⟨hw, hsets.get (by simp), rfl, rfl, rfl⟩

variable {s p}

theorem keepalive_up {time : BitVec 64} {joined : Bool} {depth : BitVec 4} {ready : List (BitVec 9)}
    (ht : s.portTalks p = true) (hup : s.upPort = p.val) :
    Answers (.keepaliveMessage p time true joined depth ready) s fun u =>
      s.writes u [.regs, .txl] ∧ u.txl.traceUp = true ∧ u.txl.depthUp = depth.toNat ∧
      u.txl.heard = some (s.now, time.toNat + s.get (Reg.TXL_PLAT p) / Config.fine) ∧
      u.get Reg.TXL_STATUS_DEPTH = (depth.toNat + 1) % 2 ^ 4 := by
  obtain ⟨ok, hok⟩ : ∃ ok, ok = match (s.heardUp true depth).txl.heard with
    | some (n, u) => decide (time.toNat + s.get (Reg.TXL_PLAT p) / Config.fine = u + ((s.heardUp true depth).now - n))
    | none => false := ⟨_, rfl⟩
  obtain ⟨v, hv⟩ : ∃ v, v = { s.heardUp true depth with txl := { (s.heardUp true depth).txl with
    heard := some ((s.heardUp true depth).now, time.toNat + s.get (Reg.TXL_PLAT p) / Config.fine), timeOk := ok } } := ⟨_, rfl⟩
  have htrace : v.txl.traceUp = true := by rw [hv]; rfl
  have hdepth : v.txl.depthUp = depth.toNat := by rw [hv]; rfl
  have hheard : v.txl.heard = some (s.now, time.toNat + s.get (Reg.TXL_PLAT p) / Config.fine) := by rw [hv]; rfl
  have hw : s.writes v [.regs, .txl] := by
    rw [hv]
    exact State.writes_of (State.with_txl_writes _ _) (by decide) (State.writes_mono (s.with_txl_writes _) (by decide))
  obtain ⟨hj, hd, h1, h2, h3⟩ := v.judgeReady_facts
  refine ⟨v.judgeReady, ?_, State.writes_of hj (by decide) hw, h1.trans htrace, h2.trans hdepth, h3.trans hheard, ?_⟩
  · rw [hv, hok]
    exact congrArg Host.Outcome.next ((if_neg (by simp [ht])).trans (if_pos hup))
  · rw [hd, hdepth]

theorem keepalive_untraced {time : BitVec 64} {joined : Bool} {depth : BitVec 4} {ready : List (BitVec 9)}
    (ht : s.portTalks p = true) (hup : s.upPort = p.val) :
    Answers (.keepaliveMessage p time false joined depth ready) s fun u =>
      u.txl.traceUp = false ∧ u.get Reg.TXL_STATUS_SYSLOST = 1 ∧ u.get Reg.TXL_STATUS_JOINED = 0 ∧
      u.get Reg.TXL_STATUS_LOSS = 1 ∧ 2 ∉ u.clk.qualified := by
  have h := (s.heardUp false depth).leaveSystem_leaves
  refine ⟨(s.heardUp false depth).leaveSystem, congrArg Host.Outcome.next ?_, ?_, h.syslost, h.joined, h.loss, h.reference⟩
  · exact (if_neg (by simp [ht])).trans (if_pos hup)
  · rw [h.txl]
    rfl

end

/-- Settles O52: a port's states are fields of its own register; taking a port down writes it, forgets what hung on it,
and, through the loss of the system, the reference, none of which writes a port's registers. -/
theorem portsTrainFallAndReport : Obligations.PortsTrainFallAndReport := by
  unfold Obligations.PortsTrainFallAndReport
  refine ⟨fun s p => ⟨fun _ => lightPresent_trains, fun _ => lightPresent_stays, laneAligned_answers s p,
      trainingTimeout_answers s p, portCalibrationDone_answers s p, lightLoss_training, fun _ => upPort_lost,
      blockLockLoss_port s p, blockLockLoss_crossing s⟩,
    fun s p => ⟨txlRetrain_on, txlRetrain_off, txlDown_answers, fun v => ⟨txlIdWrite_taken v, txlIdWrite_ignored v⟩,
      ⟨s, rfl, rfl⟩, fun _ _ _ _ _ => keepalive_down, fun _ _ _ _ ht hup => ⟨keepalive_up ht hup, keepalive_untraced ht hup⟩⟩⟩

end Sys2Proof.Machine
end

/-! # Syncs and the pulse (R282, R285, R286, R290) -/

section
namespace Sys2Proof.Machine

/-! ## A sync issued -/

section
variable (s : State)

theorem dvd_ceilDiv_mul (a b : Nat) : b ∣ ceilDiv a b * b := Nat.dvd_mul_left _ _

theorem le_ceilDiv_mul (a : Nat) {b : Nat} (hb : 0 < b) : a ≤ ceilDiv a b * b := by
  unfold ceilDiv
  have h := Nat.div_add_mod (a + (b - 1)) b
  have hm := Nat.mod_lt (a + (b - 1)) hb
  rw [Nat.mul_comm] at h
  omega

/-- The sync that the timekeeper issues with worst path w to some members. -/
def State.issued (s : State) (w : Nat) (grants members : List Nat) : SyncMsg :=
  let soon := s.now + w + 64
  let ts := if s.txl.started then ceilDiv (s.sysTime soon) s.syncPer * s.syncPer else 0
  ⟨if s.txl.started then soon + (ts - s.sysTime soon) else soon, ts, w, grants, members⟩

theorem State.issued_facts (w : Nat) (grants members : List Nat) :
    let m := s.issued w grants members
    m.worst = w ∧ s.now + m.worst + 64 ≤ m.due ∧ (s.txl.started = false → m.ts = 0 ∧ m.due = s.now + m.worst + 64) ∧
      (s.txl.started = true → 0 < s.syncPer → s.syncPer ∣ m.ts ∧
        s.sysTime (s.now + m.worst + 64) + (m.due - (s.now + m.worst + 64)) = m.ts) ∧ m.members = members := by
  unfold State.issued
  cases hst : s.txl.started with
  | false => simp
  | true =>
    have hle (h : 0 < s.syncPer) := le_ceilDiv_mul (s.sysTime (s.now + w + 64)) h
    simp only [if_true]
    refine ⟨trivial, by omega, fun h => by simp at h, fun _ h => ⟨dvd_ceilDiv_mul _ _, ?_⟩, trivial⟩
    have := hle h
    omega

theorem State.refuseDup_id : s.refuseDup.get Reg.TXL_ID = s.get Reg.TXL_ID := by
  have h : s.keepsWords s.refuseDup (· = 0x050004) := by
    unfold State.refuseDup
    refine (s.keepsWords_refl _).forEach fun u m => ?_
    split
    · exact u.keepsWords_refl _
    · exact ((u.keepsWords_refl _).put _ (by decide)).put _ (by simp [Reg.TXL_PSTATUS_STS]; omega)
  exact h.get rfl

variable {s}

theorem syncIssue_answers (hup : s.upPort = 4) (hs : s.txl.sync = none) (hst : s.txl.started = true ∨ s.loopSt = 4) :
    Answers .syncIssue s fun u =>
      ∃ m, u.txl.sync = some m ∧ u.txl = { s.txl with sync := some m } ∧ s.now + m.worst + 64 ≤ m.due ∧
        (s.txl.started = false → m.ts = 0 ∧ m.due = s.now + m.worst + 64) ∧
        (s.txl.started = true → 0 < s.syncPer → s.syncPer ∣ m.ts ∧
          s.sysTime (s.now + m.worst + 64) + (m.due - (s.now + m.worst + 64)) = m.ts) ∧
        s.get Reg.TXL_ID ∈ m.members := by
  obtain ⟨v, hv⟩ : ∃ v, v = s.refuseDup := ⟨_, rfl⟩
  have hw : s.writes v [.regs] := hv ▸ State.refuseDup_moves.1
  have hid : v.get Reg.TXL_ID = s.get Reg.TXL_ID := hv ▸ s.refuseDup_id
  have htxl : v.txl = s.txl := hw .txl (by decide)
  have hper : v.syncPer = s.syncPer := by
    simp only [State.syncPer, State.active_of_writes hw (by decide)]
  obtain ⟨m, hm⟩ : ∃ m, m = v.issued v.worstPath (v.grantable.map (fun m => m.2))
    (v.get Reg.TXL_ID :: (v.txl.members ++ v.grantable).map (fun m => m.2)) := ⟨_, rfl⟩
  obtain ⟨-, hdue, hfirst, hnext, hmem⟩ := v.issued_facts v.worstPath (v.grantable.map (fun m => m.2))
    (v.get Reg.TXL_ID :: (v.txl.members ++ v.grantable).map (fun m => m.2))
  rw [← hm, hw .now (by decide)] at hdue hfirst hnext
  rw [← hm] at hmem
  rw [htxl] at hfirst hnext
  have htime : v.timeOff = s.timeOff := hw .timeOff (by decide)
  have hsys (n : Nat) : v.sysTime n = s.sysTime n := by simp only [State.sysTime, htime]
  rw [hper, hsys] at hnext
  obtain ⟨fr, hfr⟩ : ∃ fr, fr = if (upto 4).all (fun p => decide (countIf (fun m => decide (m.1 = p)) v.txl.members ≤ 1))
    then v.free else v.free + 1 := ⟨_, rfl⟩
  refine ⟨{ v with free := fr, txl := { v.txl with sync := some m } }, congrArg Host.Outcome.next ?_, m, rfl, ?_, hdue,
    hfirst, hnext, ?_⟩
  · rw [if_neg (by simp [hup, hs]), if_neg (by rcases hst with h | h <;> simp [h]), hm, hfr, hv]
    rfl
  · rw [htxl]
  · rw [hmem, hid]
    exact List.mem_cons_self

/-! ## A sync heard -/

theorem syncMessage_answers {p : PortNo} (ts : BitVec 64) (worst : BitVec 32) (grants members : List (BitVec 9))
    (hup : s.upPort = p.val) (ht : s.portTalks p = true) (hj : s.get Reg.TXL_STATUS_JOINED = 1) (hr : s.txl.ready = false) :
    Answers (.syncMessage p ts worst grants members) s fun u => s.writes u [.txl] ∧
      u.txl = { s.txl with sync := some ⟨s.cycleOf ts.toNat, ts.toNat, worst.toNat, grants.map (fun m => m.toNat),
        members.map (fun m => m.toNat)⟩ } := by
  have hdue : (match s.txl.heard with
      | some (n, t) => if (s.txl.ready && (grants.map (fun m => m.toNat)).contains (s.get Reg.TXL_ID)) = true
          then n + (ts.toNat - t) else s.cycleOf ts.toNat
      | none => s.cycleOf ts.toNat) = s.cycleOf ts.toNat := by
    cases s.txl.heard <;> simp [hr]
  refine ⟨{ s with txl := { s.txl with sync := some ⟨s.cycleOf ts.toNat, ts.toNat, worst.toNat,
    grants.map (fun m => m.toNat), members.map (fun m => m.toNat)⟩ } }, ?_, s.with_txl_writes _, rfl⟩
  rw [← hdue]
  exact congrArg Host.Outcome.next (if_neg (by simp [hup, ht, hj]))

end

/-! ## The pulse -/

section
variable (s : State)

/-- The words that the loop in LOCKED leaves: the registers below the tiles' windows but CLK_STATUS. -/
abbrev lockKeeps (a : Nat) : Prop := a < 0x080000 ∧ a ≠ 0x020004

theorem State.setLoop_zero_eq : s.setLoop 0 = (s.loopBase 0).regate.unlatchAll (fun l => { l with gated := false }) := by
  have h : s.unlocked 0 = s := if_neg (by simp)
  have hc (t : State) : { t with clk := t.loopClk 0 } = { t with clk := { t.clk with held := none } } := rfl
  unfold State.setLoop State.loopBase
  rw [h, hc]
  simp only [ne_eq, not_true_eq_false, and_false, if_false, if_true, Nat.reduceEqDiff, OfNat.zero_ne_ofNat]
  rfl

theorem State.setLoop_zero : (s.setLoop 0).loopSt = 0 ∧ ∀ f, lockKeeps f.addr → (s.setLoop 0).get f = s.get f := by
  have hlatch (f : Fld) : (s.setLoop 0).get f = (s.loopBase 0).regate.get f := by
    rw [State.setLoop_zero_eq, State.get_of_writes State.unlatchAll_moves.1 (by decide)]
  obtain ⟨hst, -⟩ := s.loopBase_get (n := 0) (by decide)
  refine ⟨(hlatch _).trans ((State.regate_get _ (by decide) (by decide)).trans hst), fun f ⟨ha, hc⟩ => ?_⟩
  have hun : s.unlocked 0 = s := if_neg (by simp)
  have hbase : (s.loopBase 0).get f = (s.loopIn 0).get f := by
    rw [State.loopBase, hun]
    exact (State.get_of_writes State.reclock_moves.1 (by decide) f).trans rfl
  rw [hlatch, State.regate_get _ ha (.inl hc), hbase, State.loopIn, State.restep, State.get_put_other _ _ hc,
    State.get_put_other _ _ hc, State.get_put_other _ _ hc]

/-- s with the system joined at sync m. -/
def State.joinedAt (m : SyncMsg) : State :=
  let v := (((s.loadTime m.ts).setLoop 0).put Reg.TXL_STATUS_JOINED 1).put Reg.TXL_STATUS_SYSLOST 0
  let u := v.put Reg.TXL_STATUS_JOIN_STS Sts.ok.code
  { u with txl := { u.txl with ready := false } }

theorem State.joinedAt_facts (m : SyncMsg) : (s.joinedAt m).loopSt = 0 ∧ (s.joinedAt m).get Reg.TXL_STATUS_JOINED = 1 ∧
    (s.joinedAt m).timeOff = BitVec.ofNat 64 m.ts - BitVec.ofNat 64 s.now ∧
    ∀ f, lockKeeps f.addr → f.addr ≠ 0x050008 → (s.joinedAt m).get f = s.get f := by
  obtain ⟨w, hw⟩ : ∃ w, w = (s.loadTime m.ts).setLoop 0 := ⟨_, rfl⟩
  obtain ⟨hst, hget⟩ := (s.loadTime m.ts).setLoop_zero
  have hoff : w.timeOff = BitVec.ofNat 64 m.ts - BitVec.ofNat 64 s.now := by
    have h1 : (s.loadTime m.ts).timeOff = BitVec.ofNat 64 m.ts - BitVec.ofNat 64 s.now := by
      unfold State.loadTime
      dsimp only
    rw [hw]
    exact (State.setLoop_moves.1 .timeOff (by decide)).trans h1
  rw [← hw] at hst hget
  have hsets := (((w.setsFields_refl.next Reg.TXL_STATUS_JOINED 1 rfl).next Reg.TXL_STATUS_SYSLOST 0 rfl).next
    Reg.TXL_STATUS_JOIN_STS Sts.ok.code rfl)
  obtain ⟨u, hu⟩ : ∃ u, u = ((w.put Reg.TXL_STATUS_JOINED 1).put Reg.TXL_STATUS_SYSLOST 0).put
    Reg.TXL_STATUS_JOIN_STS Sts.ok.code := ⟨_, rfl⟩
  rw [← hu] at hsets
  have heq : s.joinedAt m = { u with txl := { u.txl with ready := false } } := by
    rw [hu, hw]
    rfl
  have huoff : u.timeOff = w.timeOff := by
    rw [hu]
    exact (State.put_writes .timeOff (by decide)).trans ((State.put_writes .timeOff (by decide)).trans
      (State.put_writes .timeOff (by decide)))
  have hall := hsets.of_regs (u := { u with txl := { u.txl with ready := false } }) rfl
  rw [heq]
  refine ⟨(hall.get_apart (by decide)).trans hst, hall.get (by simp), huoff.trans hoff, fun f hf h8 => ?_⟩
  refine (hall.get_apart (by simpa using ⟨.inl h8, .inl h8, .inl h8⟩)).trans ((hget f hf).trans ?_)
  exact State.get_of_writes State.loadTime_moves.1 (by decide) f

theorem State.joinAt_eq (m : SyncMsg) : s.joinAt m = if s.loopSt = 4 ∧ s.clk.alignedAt < s.now ∧
    (s.upPort = 4 ∨ s.get Reg.TXL_STATUS_JOINED = 1 ∨ m.grants.contains (s.get Reg.TXL_ID)) then s.joinedAt m else s := rfl

theorem State.joinAt_get (m : SyncMsg) {f : Fld} (hf : lockKeeps f.addr) (h8 : f.addr ≠ 0x050008) :
    (s.joinAt m).get f = s.get f := by
  rw [State.joinAt_eq]
  split
  · exact (s.joinedAt_facts m).2.2.2 f hf h8
  · rfl

/-- s with an out-of-step ramp that is over cleared. -/
def State.inStep : State :=
  if s.clk.ramp.isNone then { s with clk := { s.clk with outOfStep := false } }.restep else s

theorem State.inStep_facts : s.writes s.inStep [.regs, .clk] ∧ ∀ f, f.apart Reg.CLK_STATUS_INSTEP → s.inStep.get f = s.get f := by
  unfold State.inStep
  split
  · exact ⟨State.writes_of State.restep_moves.1 (by decide) (State.writes_mono (s.with_clk_writes _) (by decide)),
      fun f hf => (State.get_put_of_apart _ _ (by decide) hf).trans (State.get_of_writes (s.with_clk_writes _) (by decide) f)⟩
  · exact ⟨State.writes_refl, fun _ _ => rfl⟩

/-- The membership of a sync in force. -/
theorem State.syncMembers_facts (m : SyncMsg) : s.writes (s.syncMembers m) [.regs, .txl] ∧ (s.syncMembers m).txl.sync = none ∧
    (s.syncMembers m).txl.started = true ∧ (s.syncMembers m).get Reg.TXL_WORST = m.worst % 2 ^ 32 ∧
    ∀ f, f.addr < 0x050014 → (s.syncMembers m).get f = s.get f := by
  obtain ⟨x, hs, hstart, hx⟩ : ∃ x : TxlSt, x.sync = none ∧ x.started = true ∧ s.syncMembers m =
    (({ s with txl := x }.put Reg.TXL_WORST m.worst).put Reg.TXL_MEMBERS m.members.length).countMods :=
    ⟨_, rfl, rfl, rfl⟩
  obtain ⟨v, hv⟩ : ∃ v, v = { s with txl := x } := ⟨_, rfl⟩
  have hvw : s.writes v [.regs, .txl] := hv ▸ State.writes_mono (s.with_txl_writes x) (by decide)
  have hvx : v.txl = x := by rw [hv]
  have hsets := ((State.setsFields_nil_of_regs (s := s) (t := v) (by rw [hv])).nextMod Reg.TXL_WORST 32 m.worst rfl rfl).nextMod
    Reg.TXL_MEMBERS 10 m.members.length rfl rfl
  rw [hx, ← hv]
  generalize hu : (v.put Reg.TXL_WORST m.worst).put Reg.TXL_MEMBERS m.members.length = u at hsets ⊢
  have huw : v.writes u [.regs] := by
    rw [← hu]
    exact State.writes_of State.put_writes (by decide) State.put_writes
  have hmods : u.keepsWords u.countMods (· < 0x050100) := (u.keepsWords_refl _).forUpto fun t k _ =>
    (t.keepsWords_refl _).put _ (by simp [Reg.TXL_PMODS]; omega)
  have htxl : u.countMods.txl = x := (State.countMods_moves.1 .txl (by decide)).trans ((huw .txl (by decide)).trans hvx)
  rw [htxl]
  refine ⟨State.writes_of State.countMods_moves.1 (by decide) (State.writes_of huw (by decide) hvw), hs, hstart,
    (hmods.get (by decide)).trans (hsets.get (by simp)), fun f hf => (hmods.get (by omega)).trans (hsets.get_apart ?_)⟩
  have h14 : f.addr ≠ 0x050014 ∧ f.addr ≠ 0x050018 := ⟨by omega, by omega⟩
  simpa using ⟨.inl h14.1, .inl h14.2⟩

/-- s with what waits for a pulse released, the strobes left aside. -/
def State.pulsed : State :=
  forUpto (fun s c => (s.syncWhen c 1).swapWhen c 1 0) 8 (forUpto (fun s t => s.pulseTile t) 16 s)

theorem State.pulsed_facts : s.writes s.pulsed [.tiles, .regs, .cap] ∧ s.keepsWords s.pulsed (· < 0x080000) := by
  have htiles : s.writes (forUpto (fun s t => s.pulseTile t) 16 s) [.tiles] :=
    (moves_forUpto (fun _ _ => State.pulseTile_moves) State.moves_refl).1
  have hcaps (u : State) : u.writes (forUpto (fun s c => (s.syncWhen c 1).swapWhen c 1 0) 8 u) [.regs, .cap] :=
    (moves_forUpto (fun _ _ => State.moves_of State.swapWhen_moves (by decide) State.syncWhen_moves) State.moves_refl).1
  have hsync (u : State) (c : Nat) : u.keepsWords (u.syncWhen c 1) (· < 0x080000) := by
    unfold State.syncWhen
    split
    · exact ((u.keepsWords_refl _).of_writes State.syncReset_moves.1 (by decide)).put _
        (by simp [Reg.CAP_STATUS_SYNC_PEND]; omega)
    · exact u.keepsWords_refl _
  have hswap (u : State) (c : Nat) : u.keepsWords (u.swapWhen c 1 0) (· < 0x080000) := by
    unfold State.swapWhen State.swapTrigger
    split
    · split
      · split
        · have h (x : CapSt) := (u.keepsWords_refl (· < 0x080000)).of_writes (State.setCapture_moves (x1 := c) (x2 := x)).1
            (by decide)
          dsimp only
          split
          · exact (h _).put _ (by simp [Reg.FIR_STATUS_HELD]; omega)
          · exact h _
        · exact u.keepsWords_refl _
      · exact u.keepsWords_refl _
    · exact u.keepsWords_refl _
  refine ⟨State.writes_of (hcaps _) (by decide) (State.writes_mono htiles (by decide)), ?_⟩
  exact ((s.keepsWords_refl _).of_writes htiles (by decide)).trans ((State.keepsWords_refl _ _).forUpto fun u c _ =>
    (hsync u c).trans (hswap _ c))

end

section
variable {s : State}

theorem State.strobeFrom_none {kind n : Nat} (h : ∀ g, g < 16 → s.get (Reg.GLB_UPD_SRC_SRC g) ≠ kind) :
    s.strobeFrom kind n = s := forUpto_id fun g hg => if_neg fun e => h g hg e.1

theorem syncPulse_answers {m : SyncMsg} (hs : s.txl.sync = some m) (hdue : m.due ≤ s.now) (hup : s.upPort = 4)
    (hsrc : ∀ g, g < 16 → s.get (Reg.GLB_UPD_SRC_SRC g) ≠ 2) : Answers .syncPulse s fun u =>
      u.txl.sync = none ∧ u.txl.started = true ∧ u.get Reg.TXL_WORST = m.worst % 2 ^ 32 ∧
      mfind u.evt.strobes 16 = some s.now ∧
      (s.loopSt = 4 → s.clk.alignedAt < s.now → u.loopSt = 0 ∧ u.get Reg.TXL_STATUS_JOINED = 1 ∧
        u.sysTime s.now = m.ts % 2 ^ 64) := by
  obtain ⟨a, ha⟩ : ∃ a, a = (s.joinAt m).inStep := ⟨_, rfl⟩
  obtain ⟨b, hb⟩ : ∃ b, b = (a.syncMembers m).put Reg.TXL_STATUS_TK (bit (decide ((a.syncMembers m).upPort = 4))) := ⟨_, rfl⟩
  obtain ⟨c, hc⟩ : ∃ c, c = { b with evt := { b.evt with strobes := mins b.evt.strobes 16 b.now } } := ⟨_, rfl⟩
  obtain ⟨hiw, higet⟩ := (s.joinAt m).inStep_facts
  obtain ⟨hmw, hsync, hstart, hworst, hmget⟩ := a.syncMembers_facts m
  obtain ⟨hpw, hpget⟩ := c.pulsed_facts
  have hcb : c.txl = b.txl ∧ c.regs = b.regs ∧ c.timeOff = b.timeOff := by
    rw [hc]
    exact ⟨rfl, rfl, rfl⟩
  have hput := (a.syncMembers m).setsFields_refl.nextLt Reg.TXL_STATUS_TK (bit (decide ((a.syncMembers m).upPort = 4)))
    (bit_lt _) rfl
  rw [← hb] at hput
  have hbw : (a.syncMembers m).writes b [.regs] := hb ▸ State.put_writes
  have hget (f : Fld) (hf : f.addr < 0x080000) (hk : f.apart Reg.TXL_STATUS_TK) :
      c.pulsed.get f = (a.syncMembers m).get f :=
    (hpget.get hf).trans ((hput.of_regs hcb.2.1).get_apart (by simpa using hk))
  have hbnow : b.now = s.now := (hbw .now (by decide)).trans ((hmw .now (by decide)).trans (ha ▸ (hiw .now (by decide)).trans
    (State.joinAt_moves.1 .now (by decide))))
  have htxl : c.pulsed.txl = (a.syncMembers m).txl :=
    (hpw .txl (by decide)).trans (hcb.1.trans (hbw .txl (by decide)))
  have hnone : c.pulsed.strobeFrom 2 0 = c.pulsed := State.strobeFrom_none fun g hg e => hsrc g hg (by
    rw [← e, hget _ (by simp [Reg.GLB_UPD_SRC_SRC]; omega)
      (.inl (by simp [Reg.GLB_UPD_SRC_SRC, Reg.TXL_STATUS_TK]; omega)),
      hmget _ (by simp [Reg.GLB_UPD_SRC_SRC]; omega), ha,
      higet _ (.inl (by simp [Reg.GLB_UPD_SRC_SRC, Reg.CLK_STATUS_INSTEP]; omega)),
      State.joinAt_get _ _ (by simp [Reg.GLB_UPD_SRC_SRC]; omega) (by simp [Reg.GLB_UPD_SRC_SRC]; omega)])
  refine ⟨c.pulsed, ?_, ?_, ?_, (hget _ (by decide) (by decide)).trans hworst, ?_, fun h4 hal => ?_⟩
  · rw [← hnone, hc, hb, ha]
    have hexec : exec .syncPulse s = .next (match s.txl.sync with
      | none => s
      | some m =>
        if s.now < m.due then s
        else
          let s1 := s.joinAt m
          let s2 := if s1.clk.ramp.isNone then
              { s1 with clk := { s1.clk with outOfStep := false } }.restep else s1
          let s3 := s2.syncMembers m
          let s4 := s3.put Reg.TXL_STATUS_TK (bit (decide (s3.upPort = 4)))
          let s5 := { s4 with evt := { s4.evt with strobes := mins s4.evt.strobes 16 s4.now } }
          let s6 := forUpto (fun s t => s.pulseTile t) 16 s5
          let s7 := forUpto (fun s c => (s.syncWhen c 1).swapWhen c 1 0) 8 s6
          s7.strobeFrom 2 0) := rfl
    rw [hexec, hs]
    dsimp only
    rw [if_neg (by omega)]
    rfl
  · rw [htxl, hsync]
  · rw [htxl, hstart]
  · have hevt : c.pulsed.evt = c.evt := hpw .evt (by decide)
    have hstr : c.evt.strobes = mins b.evt.strobes 16 b.now := by rw [hc]
    rw [hevt, hstr, mfind_mins_same, hbnow]
  · have hjoin : s.joinAt m = s.joinedAt m := if_pos ⟨h4, hal, .inl hup⟩
    obtain ⟨hst, hj, hoff, -⟩ := s.joinedAt_facts m
    rw [← hjoin] at hst hj hoff
    have hkeep (f : Fld) (hf : f.addr < 0x050014) (hk : f.apart Reg.TXL_STATUS_TK) (hi : f.apart Reg.CLK_STATUS_INSTEP) :
        c.pulsed.get f = (s.joinAt m).get f := by
      rw [hget f (by omega) hk, hmget f hf, ha, higet f hi]
    have htime : c.pulsed.timeOff = BitVec.ofNat 64 m.ts - BitVec.ofNat 64 s.now :=
      (hpw .timeOff (by decide)).trans (hcb.2.2.trans ((hbw .timeOff (by decide)).trans ((hmw .timeOff (by decide)).trans
        (ha ▸ (hiw .timeOff (by decide)).trans hoff))))
    refine ⟨(hkeep _ (by decide) (by decide) (by decide)).trans hst, (hkeep _ (by decide) (by decide) (by decide)).trans hj, ?_⟩
    rw [State.sysTime, htime]
    have hsub : BitVec.ofNat 64 s.now + (BitVec.ofNat 64 m.ts - BitVec.ofNat 64 s.now) = BitVec.ofNat 64 m.ts := by
      rw [BitVec.add_comm, BitVec.sub_add_cancel]
    rw [hsub, BitVec.toNat_ofNat]

end

/-- Settles O53: the timekeeper rounds the first time it may name up to the sync period; at the pulse the loop in LOCKED, the
membership and the strobes are written in turn, none writing what the one before wrote. -/
theorem syncsAreIssuedAndTaken : Obligations.SyncsAreIssuedAndTaken := by
  unfold Obligations.SyncsAreIssuedAndTaken
  exact fun s => ⟨syncIssue_answers, fun _ => syncMessage_answers, fun _ => syncPulse_answers⟩

end Sys2Proof.Machine
end

/-! # A pending start discarded by a host-absent policy (R88, R105, R302) -/

section
namespace Sys2Proof.Machine

/-- A state in which a start is pending on tile 0, holding landing slot 0 for an arm resolved ahead of it, and context 2 holds a
SWITCH arm that has found no slot for its target, context 3; the policy is PAUSE. -/
def pendingStart : State :=
  let s1 := { State.reset.put Reg.XNG_ABSENT_POLICY 1 with pw := { State.reset.pw with fieldOn := true, rstN := false } }
  let s2 := s1.setTile 0 { s1.tile 0 with
    start := some ⟨1, false, 0, some 40, 40⟩
    slots := [(0, ⟨⟨[(5, 0, 7)], []⟩, 0, none, none⟩)]
    ahead := some ⟨1, ⟨5, 5, 1⟩, [], [], 0, 0, [⟨5, 0, none, some (.slot 0)⟩], 0, false⟩ }
  let s3 := s2.setCtx 2 { s2.ctx 2 with st := .paused, arms := [(0, ⟨true, 5, .switch, 0, 3, false, false, none, 0, 0⟩)] }
  s3.setCtx 3 { s3.ctx 3 with st := .paused, pos := .steps 1 }

/-- The start gives its slot up, and the SWITCH arm takes it. -/
theorem pendingStart_switch : (match exec .hostAbsenceTimeout pendingStart with
    | .next u => ((u.ctx 2).arm 0).slot
    | _ => none) = some 0 := by decide

/-- Refutes O54: the policy discards a pending start, with it the landing slots resolved for it, and a SWITCH arm that waited for
a slot is landed; the statement lists the contexts among the parts of the state that stay. -/
theorem not_heartbeatsAndAbsence : ¬ Obligations.HeartbeatsAndAbsence := by
  unfold Obligations.HeartbeatsAndAbsence
  intro h
  obtain ⟨-, -, -, -, -, -, -, -, -, habsent⟩ := h pendingStart
  obtain ⟨u, hu, hw, -⟩ := habsent (by decide) (by decide)
  have hrun := pendingStart_switch
  rw [hu] at hrun
  have hslot : ((u.ctx 2).arm 0).slot = some 0 := hrun
  have hctx : u.ctx 2 = pendingStart.ctx 2 := State.ctx_of_writes hw (by decide) 2
  have hnone : ((pendingStart.ctx 2).arm 0).slot = none := by decide
  rw [← hctx, hslot] at hnone
  exact absurd hnone (by decide)

end Sys2Proof.Machine
end

/-! # Messages across the Crossing, and the resets of the host side (R302 to R304, R310, R311, R314, R335) -/

section
namespace Sys2Proof.Machine

/-! ## Signals to the host (R310) -/

section
variable (s : State)

/-- A vector signalled changes the count of its signals only. -/
theorem State.msix_facts (v : Nat) : s.writes (s.msix v) [.xng] ∧ (s.msix v).xng = { s.xng with irqs := (s.msix v).xng.irqs } := by
  unfold State.msix
  split
  · exact ⟨State.writes_refl, rfl⟩
  · exact ⟨State.signalVec_moves.1, rfl⟩

/-- A bit of XNG_HALERT set. -/
theorem State.halert_facts (f en : Fld) (hf : f.lo + f.n ≤ 32) (h1 : 1 < 2 ^ f.n) :
    s.writes (s.halert f en) [.regs, .xng] ∧ s.setsFields (s.halert f en) [(f, 1)] ∧
      (s.halert f en).xng = { s.xng with irqs := (s.halert f en).xng.irqs } := by
  obtain ⟨v, hv⟩ : ∃ v, v = s.put f 1 := ⟨_, rfl⟩
  have hsets : s.setsFields v [(f, 1)] := hv ▸ s.setsFields_refl.put f 1 hf h1 (by simp)
  have hw : s.writes v [.regs, .xng] := hv ▸ State.writes_mono State.put_writes (by decide)
  have hx : v.xng = s.xng := by rw [hv, State.put_xng]
  obtain ⟨hmw, hmx⟩ := v.msix_facts 0
  unfold State.halert
  dsimp only
  rw [← hv]
  split
  · refine ⟨State.writes_of hmw (by decide) hw, hsets.of_regs (hmw .regs (by decide)), ?_⟩
    rw [← hx]
    exact hmx
  · exact ⟨hw, hsets, by rw [hx]⟩

end

/-! ## Raises, alarms and notifications -/

section
variable {s : State}

theorem xngRaise_answers (v : Word) (h : s.get Reg.XNG_HSTATUS_FIELD_ABSENT = 0) : Answers (.xngRaise v) s fun u =>
    s.writes u [.xng] ∧ (∀ n, n ∈ u.xng.raises ↔ n ∈ s.xng.raises ∨ n < 32 ∧ v.getLsbD n = true) ∧
      u.xng = { s.xng with raises := u.xng.raises } := by
  refine ⟨{ s with xng := { s.xng with
    raises := s.xng.raises ++ (upto 32).filter (fun n => v.getLsbD n && !s.xng.raises.contains n) } },
    congrArg Host.Outcome.next (if_neg (by simp [h])), s.with_xng_writes _, fun n => ?_, rfl⟩
  simp only [upto, List.mem_append, List.mem_filter, List.mem_range, Bool.and_eq_true, Bool.not_eq_eq_eq_not, Bool.not_true,
    List.contains_eq_mem, decide_eq_false_iff_not]
  by_cases hn : n ∈ s.xng.raises <;> simp [hn]

/-- s with the oldest alarm taken from the field side, with the count of those dropped there. -/
def State.alarmTaken (s : State) (rest : List Alarm) : State :=
  { s with xng := { s.xng with fAlarms := rest, fAlarmLost := 0 } }.loseAlarms s.xng.fAlarmLost

theorem State.loseAlarms_sets {v : State} {L : List (Fld × Nat)} (h : s.setsFields v L)
    (hL : ∀ p ∈ L, p.1.apart Reg.XNG_ALARM_STAT_LOST) (n : Nat) :
    s.setsFields (v.loseAlarms n) (L ++ [(Reg.XNG_ALARM_STAT_LOST, min (s.get Reg.XNG_ALARM_STAT_LOST + n) 0xFFFF)]) := by
  have hget : v.get Reg.XNG_ALARM_STAT_LOST = s.get Reg.XNG_ALARM_STAT_LOST := h.get_apart fun f hf => by
    obtain ⟨p, hp, rfl⟩ := List.mem_map.mp hf
    rcases hL p hp with e | e | e
    · exact .inl (Ne.symm e)
    · exact .inr (.inr e)
    · exact .inr (.inl e)
  rw [State.loseAlarms, hget]
  exact h.put Reg.XNG_ALARM_STAT_LOST _ (by decide) (Nat.lt_of_le_of_lt (Nat.min_le_right _ _) (by decide)) hL

theorem State.loseAlarms_facts (n : Nat) : s.writes (s.loseAlarms n) [.regs] ∧ (s.loseAlarms n).xng = s.xng := by
  unfold State.loseAlarms
  exact ⟨State.put_writes, State.put_xng _ _ _⟩

theorem State.alarmTaken_facts (rest : List Alarm) : s.writes (s.alarmTaken rest) [.regs, .xng] ∧
    (s.alarmTaken rest).xng = { s.xng with fAlarms := rest, fAlarmLost := 0 } ∧ s.setsFields (s.alarmTaken rest)
      [(Reg.XNG_ALARM_STAT_LOST, min (s.get Reg.XNG_ALARM_STAT_LOST + s.xng.fAlarmLost) 0xFFFF)] := by
  obtain ⟨v, hv⟩ : ∃ v, v = { s with xng := { s.xng with fAlarms := rest, fAlarmLost := 0 } } := ⟨_, rfl⟩
  have hw : s.writes v [.regs, .xng] := hv ▸ State.writes_mono (s.with_xng_writes _) (by decide)
  have hx : v.xng = { s.xng with fAlarms := rest, fAlarmLost := 0 } := by rw [hv]
  have hsets : s.setsFields v [] := State.setsFields_nil_of_regs (by rw [hv])
  have heq : s.alarmTaken rest = v.loseAlarms s.xng.fAlarmLost := by rw [hv]; rfl
  rw [heq]
  obtain ⟨hlw, hlx⟩ := v.loseAlarms_facts s.xng.fAlarmLost
  exact ⟨State.writes_of hlw (by decide) hw, hlx.trans hx, State.loseAlarms_sets hsets (by simp) _⟩

theorem exec_alarmMessage {a : Alarm} {rest : List Alarm} (h : s.xng.fAlarms = a :: rest) (hup : s.xng.up = true)
    (hp : s.xng.perst = false) (hon : s.pw.hostOn = true) : exec .alarmMessage s = .next (
      let s1 := s.alarmTaken rest
      if 64 ≤ s1.xng.hAlarms.length then s1.loseAlarms 1
      else
        let s2 := { s1 with xng := { s1.xng with hAlarms := s1.xng.hAlarms ++ [a] } }
        if s1.xng.hAlarms.isEmpty then s2.halert Reg.XNG_HALERT_ALARM Reg.XNG_HALERT_EN_ALARM else s2) := by
  have hexec : exec .alarmMessage s = .next (match s.xng.fAlarms with
    | [] => s
    | a :: rest =>
      if !s.carries ∨ !s.pw.hostOn then s
      else
        let s1 := s.alarmTaken rest
        if 64 ≤ s1.xng.hAlarms.length then s1.loseAlarms 1
        else
          let s2 := { s1 with xng := { s1.xng with hAlarms := s1.xng.hAlarms ++ [a] } }
          if s1.xng.hAlarms.isEmpty then s2.halert Reg.XNG_HALERT_ALARM Reg.XNG_HALERT_EN_ALARM else s2) := rfl
  rw [hexec, h]
  exact congrArg Host.Outcome.next (if_neg (by simp [State.carries, hup, hp, hon]))

theorem alarmMessage_answers {a : Alarm} {rest : List Alarm} (h : s.xng.fAlarms = a :: rest) (hup : s.xng.up = true)
    (hp : s.xng.perst = false) (hon : s.pw.hostOn = true) : Answers .alarmMessage s fun u =>
      s.writes u [.regs, .xng] ∧ u.xng.fAlarms = rest ∧ u.xng.fAlarmLost = 0 ∧
        (s.xng.hAlarms.length < 64 → u.xng.hAlarms = s.xng.hAlarms ++ [a] ∧
          u.get Reg.XNG_ALARM_STAT_LOST = min (s.get Reg.XNG_ALARM_STAT_LOST + s.xng.fAlarmLost) 0xFFFF ∧
          (s.xng.hAlarms = [] → u.get Reg.XNG_HALERT_ALARM = 1)) ∧
        (64 ≤ s.xng.hAlarms.length → u.xng.hAlarms = s.xng.hAlarms ∧
          u.get Reg.XNG_ALARM_STAT_LOST = min (s.get Reg.XNG_ALARM_STAT_LOST + s.xng.fAlarmLost + 1) 0xFFFF) := by
  refine ⟨_, exec_alarmMessage h hup hp hon, ?_⟩
  obtain ⟨hw, hx, hsets⟩ := s.alarmTaken_facts (rest := rest)
  generalize s.alarmTaken rest = v at hw hx hsets
  have hlost : v.get Reg.XNG_ALARM_STAT_LOST = min (s.get Reg.XNG_ALARM_STAT_LOST + s.xng.fAlarmLost) 0xFFFF :=
    hsets.get (by simp)
  have hlen : v.xng.hAlarms = s.xng.hAlarms := by rw [hx]
  dsimp only
  rw [hlen]
  by_cases hfull : 64 ≤ s.xng.hAlarms.length
  · rw [if_pos hfull]
    obtain ⟨hlw, hxu⟩ := v.loseAlarms_facts 1
    have hget : (v.loseAlarms 1).get Reg.XNG_ALARM_STAT_LOST = min (v.get Reg.XNG_ALARM_STAT_LOST + 1) 0xFFFF :=
      (State.loseAlarms_sets v.setsFields_refl (by simp) 1).get (by simp)
    rw [hxu, hx]
    refine ⟨State.writes_of hlw (by decide) hw, rfl, rfl, fun hlt => by omega, fun _ => ⟨rfl, ?_⟩⟩
    rw [hget, hlost]
    omega
  · rw [if_neg hfull]
    obtain ⟨t, ht⟩ : ∃ t, t = { v with xng := { v.xng with hAlarms := s.xng.hAlarms ++ [a] } } := ⟨_, rfl⟩
    have htw : s.writes t [.regs, .xng] := by
      rw [ht]
      exact State.writes_of (v.with_xng_writes _) (by decide) hw
    have htx : t.xng = { s.xng with fAlarms := rest, fAlarmLost := 0, hAlarms := s.xng.hAlarms ++ [a] } := by
      rw [ht, hx]
    have htl : t.get Reg.XNG_ALARM_STAT_LOST = min (s.get Reg.XNG_ALARM_STAT_LOST + s.xng.fAlarmLost) 0xFFFF :=
      (hsets.of_regs (by rw [ht])).get (by simp)
    rw [← ht]
    by_cases hempty : s.xng.hAlarms.isEmpty = true
    · rw [if_pos hempty]
      obtain ⟨haw, has, hax⟩ := t.halert_facts Reg.XNG_HALERT_ALARM Reg.XNG_HALERT_EN_ALARM (by decide) (by decide)
      rw [hax, htx]
      exact ⟨State.writes_of haw (by decide) htw, rfl, rfl, fun _ => ⟨rfl, (has.get_apart (by decide)).trans htl,
        fun _ => has.get (by simp)⟩, fun hle => absurd hle hfull⟩
    · rw [if_neg hempty, htx]
      exact ⟨htw, rfl, rfl, fun _ => ⟨rfl, htl, fun he => absurd (by simp [he]) hempty⟩, fun hle => absurd hle hfull⟩

/-- s with the oldest notification taken from the field side, with the count of those dropped there. -/
def State.noteTaken (s : State) (rest : List Note) : State :=
  { s with xng := { s.xng with fNotes := rest, fNoteLost := 0 } }.bump Reg.XNG_NOTE_LOST_CNT s.xng.fNoteLost

theorem State.noteTaken_facts (rest : List Note) : s.writes (s.noteTaken rest) [.regs, .xng] ∧
    (s.noteTaken rest).xng = { s.xng with fNotes := rest, fNoteLost := 0 } ∧ s.setsFields (s.noteTaken rest)
      [(Reg.XNG_NOTE_LOST_CNT, min (s.get Reg.XNG_NOTE_LOST_CNT + s.xng.fNoteLost) 0xFFFFFFFF)] := by
  obtain ⟨v, hv⟩ : ∃ v, v = { s with xng := { s.xng with fNotes := rest, fNoteLost := 0 } } := ⟨_, rfl⟩
  have hw : s.writes v [.regs, .xng] := hv ▸ State.writes_mono (s.with_xng_writes _) (by decide)
  have hx : v.xng = { s.xng with fNotes := rest, fNoteLost := 0 } := by rw [hv]
  have hsets : s.setsFields v [] := State.setsFields_nil_of_regs (by rw [hv])
  have heq : s.noteTaken rest = v.bump Reg.XNG_NOTE_LOST_CNT s.xng.fNoteLost := by rw [hv]; rfl
  rw [heq]
  exact ⟨State.writes_of State.bump_moves.1 (by decide) hw, (State.bump_moves.1 .xng (by decide)).trans hx,
    hsets.bump Reg.XNG_NOTE_LOST_CNT _ rfl rfl⟩

theorem exec_notificationMessage {a : Note} {rest : List Note} (h : s.xng.fNotes = a :: rest) (hup : s.xng.up = true)
    (hp : s.xng.perst = false) (hon : s.pw.hostOn = true) : exec .notificationMessage s = .next (
      let s1 := s.noteTaken rest
      if 256 ≤ s1.xng.hNotes.length then s1.bump Reg.XNG_NOTE_LOST_CNT
      else
        let s2 := { s1 with xng := { s1.xng with hNotes := s1.xng.hNotes ++ [a] } }
        if s1.xng.hNotes.isEmpty then s2.msix 1 else s2) := by
  have hexec : exec .notificationMessage s = .next (match s.xng.fNotes with
    | [] => s
    | a :: rest =>
      if !s.carries ∨ !s.pw.hostOn then s
      else
        let s1 := s.noteTaken rest
        if 256 ≤ s1.xng.hNotes.length then s1.bump Reg.XNG_NOTE_LOST_CNT
        else
          let s2 := { s1 with xng := { s1.xng with hNotes := s1.xng.hNotes ++ [a] } }
          if s1.xng.hNotes.isEmpty then s2.msix 1 else s2) := rfl
  rw [hexec, h]
  exact congrArg Host.Outcome.next (if_neg (by simp [State.carries, hup, hp, hon]))

theorem notificationMessage_answers {a : Note} {rest : List Note} (h : s.xng.fNotes = a :: rest) (hup : s.xng.up = true)
    (hp : s.xng.perst = false) (hon : s.pw.hostOn = true) : Answers .notificationMessage s fun u =>
      s.writes u [.regs, .xng] ∧ u.xng.fNotes = rest ∧ u.xng.fNoteLost = 0 ∧
        (s.xng.hNotes.length < 256 → u.xng.hNotes = s.xng.hNotes ++ [a] ∧
          u.get Reg.XNG_NOTE_LOST_CNT = min (s.get Reg.XNG_NOTE_LOST_CNT + s.xng.fNoteLost) 0xFFFFFFFF) ∧
        (256 ≤ s.xng.hNotes.length → u.xng.hNotes = s.xng.hNotes ∧
          u.get Reg.XNG_NOTE_LOST_CNT = min (s.get Reg.XNG_NOTE_LOST_CNT + s.xng.fNoteLost + 1) 0xFFFFFFFF) := by
  refine ⟨_, exec_notificationMessage h hup hp hon, ?_⟩
  obtain ⟨hw, hx, hsets⟩ := s.noteTaken_facts (rest := rest)
  generalize s.noteTaken rest = v at hw hx hsets
  have hlost : v.get Reg.XNG_NOTE_LOST_CNT = min (s.get Reg.XNG_NOTE_LOST_CNT + s.xng.fNoteLost) 0xFFFFFFFF :=
    hsets.get (by simp)
  have hlen : v.xng.hNotes = s.xng.hNotes := by rw [hx]
  dsimp only
  rw [hlen]
  by_cases hfull : 256 ≤ s.xng.hNotes.length
  · rw [if_pos hfull]
    have hxu : (v.bump Reg.XNG_NOTE_LOST_CNT).xng = v.xng := State.bump_moves.1 .xng (by decide)
    have hget : (v.bump Reg.XNG_NOTE_LOST_CNT).get Reg.XNG_NOTE_LOST_CNT = min (v.get Reg.XNG_NOTE_LOST_CNT + 1) 0xFFFFFFFF :=
      (v.setsFields_refl.bump Reg.XNG_NOTE_LOST_CNT 1 rfl rfl).get (by simp)
    rw [hxu, hx]
    refine ⟨State.writes_of State.bump_moves.1 (by decide) hw, rfl, rfl, fun hlt => by omega, fun _ => ⟨rfl, ?_⟩⟩
    rw [hget, hlost]
    omega
  · rw [if_neg hfull]
    obtain ⟨t, ht⟩ : ∃ t, t = { v with xng := { v.xng with hNotes := s.xng.hNotes ++ [a] } } := ⟨_, rfl⟩
    have htw : s.writes t [.regs, .xng] := by
      rw [ht]
      exact State.writes_of (v.with_xng_writes _) (by decide) hw
    have htx : t.xng = { s.xng with fNotes := rest, fNoteLost := 0, hNotes := s.xng.hNotes ++ [a] } := by
      rw [ht, hx]
    have htl : t.get Reg.XNG_NOTE_LOST_CNT = min (s.get Reg.XNG_NOTE_LOST_CNT + s.xng.fNoteLost) 0xFFFFFFFF :=
      (hsets.of_regs (by rw [ht])).get (by simp)
    rw [← ht]
    split
    · obtain ⟨hmw, hmx⟩ := t.msix_facts 1
      rw [hmx, htx]
      exact ⟨State.writes_of hmw (by decide) htw, rfl, rfl,
        fun _ => ⟨rfl, (State.get_of_writes hmw (by decide) _).trans htl⟩, fun hle => absurd hle hfull⟩
    · rw [htx]
      exact ⟨htw, rfl, rfl, fun _ => ⟨rfl, htl⟩, fun hle => absurd hle hfull⟩

/-- The entries that a write of XNG_POP takes away. -/
theorem State.popWrite_facts (s : State) (v : Word) : s.writes (s.popWrite v) [.xng] ∧ (s.popWrite v).xng = { s.xng with
    hAlarms := if v.getLsbD 0 then s.xng.hAlarms.tail else s.xng.hAlarms
    hNotes := if v.getLsbD 1 then s.xng.hNotes.tail else s.xng.hNotes } := by
  refine ⟨State.popWrite_moves.1, ?_⟩
  unfold State.popWrite
  cases v.getLsbD 0 <;> cases v.getLsbD 1 <;> rfl

theorem xngPop_answers {v : Word} {i : Instr} (hi : i = .xngPopAlarm v ∨ i = .xngPopNote v) : Answers i s fun u =>
    s.writes u [.xng] ∧ u.xng = { s.xng with
      hAlarms := if v.getLsbD 0 then s.xng.hAlarms.tail else s.xng.hAlarms
      hNotes := if v.getLsbD 1 then s.xng.hNotes.tail else s.xng.hNotes } := by
  rcases hi with rfl | rfl <;> exact ⟨s.popWrite v, rfl, s.popWrite_facts v⟩

end

/-! ## The safe latch ended (R302) -/

section
variable (s : State)

theorem State.absHold_capture (on : Bool) {n c : Nat} (hc : c < n) :
    ((forUpto (fun s c => s.setCapture c { s.capture c with absHeld := on }) n s).capture c).absHeld = on := by
  induction n with
  | zero => omega
  | succ n ih =>
    rw [forUpto]
    by_cases h : c = n
    · subst h
      rw [State.capture_setCapture]
    · rw [State.capture_setCapture_other _ _ h]
      exact ih (by omega)

/-- A synchronising reset of the channels that are held no more holds none. -/
theorem State.freeCaps_absHeld (n c : Nat) :
    ((forUpto (fun s c => if s.capHeld c then s else s.syncReset c) n s).capture c).absHeld = (s.capture c).absHeld := by
  induction n with
  | zero => rfl
  | succ n ih =>
    rw [forUpto, ← ih]
    split
    · rfl
    · unfold State.syncReset
      by_cases h : c = n
      · subst h
        rw [State.capture_setCapture]
      · rw [State.capture_setCapture_other _ _ h]

/-- s with HOST_BACK cleared where v says so. -/
def State.hostBackCleared (v : Word) : State := if v.getLsbD 1 then s.put Reg.XNG_FSTATUS_HOST_BACK 0 else s

theorem State.hostBackCleared_facts (v : Word) : s.writes (s.hostBackCleared v) [.regs] ∧
    s.setsFields (s.hostBackCleared v) (if v.getLsbD 1 then [(Reg.XNG_FSTATUS_HOST_BACK, 0)] else []) := by
  unfold State.hostBackCleared
  cases v.getLsbD 1
  · exact ⟨State.writes_refl, s.setsFields_refl⟩
  · exact ⟨State.put_writes, s.setsFields_refl.next Reg.XNG_FSTATUS_HOST_BACK 0 rfl⟩

variable {s}

theorem safeLatchClear_ends {v : Word} (ha : s.get Reg.XNG_FSTATUS_HOST_ABSENT = 0) (hv : v.getLsbD 2 = true)
    (hl : s.get Reg.XNG_FSTATUS_SAFE_LATCH = 1) : Answers (.safeLatchClear v) s fun u =>
      s.setsFields u ((if v.getLsbD 1 then [(Reg.XNG_FSTATUS_HOST_BACK, 0)] else []) ++ [(Reg.XNG_FSTATUS_SAFE_LATCH, 0)]) ∧
      (∀ k, k < 16 → u.latches k = { s.latches k with absent := false }) ∧
      (∀ c, c < 8 → (u.capture c).absHeld = false) := by
  obtain ⟨hw, hsets⟩ := s.hostBackCleared_facts v
  obtain ⟨t, ht⟩ : ∃ t, t = s.hostBackCleared v := ⟨_, rfl⟩
  rw [← ht] at hw hsets
  have hlatch : t.get Reg.XNG_FSTATUS_SAFE_LATCH = 1 := (hsets.get_apart (by
    split <;> simp [Fld.apart, Reg.XNG_FSTATUS_SAFE_LATCH, Reg.XNG_FSTATUS_HOST_BACK])).trans hl
  obtain ⟨a, hac⟩ : ∃ a, a = ((t.put Reg.XNG_FSTATUS_SAFE_LATCH 0).absHold false).freeCaps := ⟨_, rfl⟩
  have haw : (t.put Reg.XNG_FSTATUS_SAFE_LATCH 0).writes a [.cap] := by
    rw [hac]
    exact State.writes_of State.freeCaps_moves.1 (by decide) State.absHold_moves.1
  have huw := (State.unlatchAll_moves (s := a) (x1 := fun l => { l with absent := false })).1
  refine ⟨a.unlatchAll (fun l => { l with absent := false }), congrArg Host.Outcome.next ?_, ?_, fun k hk => ?_, fun c hc => ?_⟩
  · rw [hac, ht]
    rw [ht] at hlatch
    have hcond : (v.getLsbD 2 && decide ((s.hostBackCleared v).get Reg.XNG_FSTATUS_SAFE_LATCH = 1)) = true := by
      rw [hv, hlatch]
      rfl
    exact (if_neg (by rw [ha]; decide)).trans (if_pos hcond)
  · have hput := hsets.put Reg.XNG_FSTATUS_SAFE_LATCH 0 (by decide) (by decide) (by
    split <;> simp [Fld.apart, Reg.XNG_FSTATUS_SAFE_LATCH, Reg.XNG_FSTATUS_HOST_BACK])
    exact (hput.of_regs (haw .regs (by decide))).of_regs (huw .regs (by decide))
  · rw [(a.unlatchAll_lets _).1 k hk, State.latches_of_writes haw (by decide), State.latches_of_writes State.put_writes (by decide),
      State.latches_of_writes hw (by decide)]
  · rw [State.capture_of_writes huw (by decide), hac, State.freeCaps, State.freeCaps_absHeld, State.absHold]
    exact State.absHold_capture _ _ hc

theorem safeLatchClear_absent (v : Word) (ha : s.get Reg.XNG_FSTATUS_HOST_ABSENT = 1) :
    Answers (.safeLatchClear v) s fun u => u = s := ⟨s, congrArg Host.Outcome.next (if_pos ha), rfl⟩

end

/-! ## The host side reset (R311, R335, R351) -/

/-- The bridge with its rings and queues empty. -/
def State.bridgeCleared (u : State) : Prop := u.xng.hAlarms = [] ∧ u.xng.hNotes = [] ∧ u.xng.rings = [] ∧ u.xng.waiting = [] ∧
  u.xng.irqs = [] ∧ u.xng.mbx = [] ∧ u.xng.pcie = Pcie.init

section
variable (s : State)

theorem State.perstClear_facts : s.writes s.perstClear [.regs, .xng] ∧ s.perstClear.bridgeCleared ∧
    (∀ a, perstReg a = true → s.perstClear.regWord a = resetWord a) ∧
    (∀ a, perstReg a = false → s.perstClear.regWord a = s.regWord a) := by
  have hword (a : Nat) : s.perstClear.regWord a = if !perstReg a then s.regWord a else resetWord a :=
    mget_mfilter resetWord (fun a => !perstReg a) s.regs a
  refine ⟨fun p hp => ?_, ⟨rfl, rfl, rfl, rfl, rfl, rfl, rfl⟩, fun a ha => ?_, fun a ha => ?_⟩
  · cases p <;> first | rfl | exact absurd (by decide) hp
  · rw [hword, ha]
    rfl
  · rw [hword, ha]
    rfl

theorem State.attended_of_perst {s : State} (h : s.xng.perst = true) : bit s.attended = 0 := by
  rw [State.attended, h]
  rfl

/-- s with PERST_N asserted, its registers reset. -/
def State.perstOn : State :=
  { s.perstClear with xng := { s.perstClear.xng with perst := true, hbHost := s.xng.hbHost } }

theorem State.perstOn_facts : s.writes s.perstOn [.regs, .xng] ∧ s.perstOn.bridgeCleared ∧ s.perstOn.xng.perst = true ∧
    s.perstOn.regs = s.perstClear.regs := by
  obtain ⟨v, hv⟩ : ∃ v, v = s.perstClear := ⟨_, rfl⟩
  obtain ⟨hw, hc, -⟩ := s.perstClear_facts
  rw [← hv] at hw hc
  obtain ⟨h1, h2, h3, h4, h5, h6, h7⟩ := hc
  unfold State.perstOn
  rw [← hv]
  exact ⟨State.writes_of (v.with_xng_writes _) (by decide) hw, ⟨h1, h2, h3, h4, h5, h6, h7⟩, rfl, rfl⟩

/-- What XNG_HSTATUS goes on reporting of the field side. -/
def State.fieldReported (v : State) : State :=
  ((v.put Reg.XNG_HSTATUS_FSTATE (s.get Reg.XNG_HSTATUS_FSTATE)).put Reg.XNG_HSTATUS_FIELD_PWR
    (s.get Reg.XNG_HSTATUS_FIELD_PWR)).put Reg.XNG_HSTATUS_FIELD_ABSENT (s.get Reg.XNG_HSTATUS_FIELD_ABSENT)

theorem perstNAssert_answers : Answers .perstNAssert s fun u =>
    s.writes u [.regs, .xng] ∧ u.bridgeCleared ∧ u.xng.perst = true ∧ u.get Reg.XNG_HSTATUS_ATTENDED = 0 ∧
    (∀ f ∈ [Reg.XNG_HSTATUS_FSTATE, Reg.XNG_HSTATUS_FIELD_PWR, Reg.XNG_HSTATUS_FIELD_ABSENT], u.get f = s.get f) ∧
    (∀ a, perstReg a = true → a ≠ Reg.XNG_HSTATUS_ATTENDED.addr → u.regWord a = State.reset.regWord a) ∧
    (∀ a, perstReg a = false → u.regWord a = s.regWord a) := by
  obtain ⟨hw, hc, hp, hregs⟩ := s.perstOn_facts
  obtain ⟨-, -, hreset, hkept⟩ := s.perstClear_facts
  obtain ⟨v, hv⟩ : ∃ v, v = s.perstOn := ⟨_, rfl⟩
  rw [← hv] at hw hc hp hregs
  obtain ⟨t, ht⟩ : ∃ t, t = s.fieldReported v := ⟨_, rfl⟩
  have htw : v.writes t [.regs] := by
    rw [ht]
    exact State.writes_of State.put_writes (by decide) (State.writes_of State.put_writes (by decide) State.put_writes)
  have htx : t.xng = v.xng := htw .xng (by decide)
  have hux : t.putAttended.xng = v.xng := (State.put_xng _ _ _).trans htx
  have hsets := ((v.setsFields_refl.nextLt Reg.XNG_HSTATUS_FSTATE _ (s.get_lt Reg.XNG_HSTATUS_FSTATE) rfl).nextLt
    Reg.XNG_HSTATUS_FIELD_PWR _ (s.get_lt Reg.XNG_HSTATUS_FIELD_PWR) rfl).nextLt Reg.XNG_HSTATUS_FIELD_ABSENT _
    (s.get_lt Reg.XNG_HSTATUS_FIELD_ABSENT) rfl
  have hall := hsets.nextLt Reg.XNG_HSTATUS_ATTENDED (bit t.attended) (bit_lt _) rfl
  have hatt : bit t.attended = 0 := State.attended_of_perst (by rw [htx, hp])
  have heq : (((v.put Reg.XNG_HSTATUS_FSTATE (s.get Reg.XNG_HSTATUS_FSTATE)).put Reg.XNG_HSTATUS_FIELD_PWR
      (s.get Reg.XNG_HSTATUS_FIELD_PWR)).put Reg.XNG_HSTATUS_FIELD_ABSENT (s.get Reg.XNG_HSTATUS_FIELD_ABSENT)).put
      Reg.XNG_HSTATUS_ATTENDED (bit t.attended) = t.putAttended := by
    rw [State.putAttended, ht]
    rfl
  rw [heq] at hall
  have hother (a : Nat) (ha : a ≠ 0x010000) : t.putAttended.regWord a = s.perstClear.regWord a := by
    have h0 : v.regWord a = s.perstClear.regWord a := congrArg (mget resetWord · a) hregs
    rw [← h0, ← heq]
    exact (State.regWord_setRegWord_other _ _ ha).trans ((State.regWord_setRegWord_other _ _ ha).trans
      ((State.regWord_setRegWord_other _ _ ha).trans (State.regWord_setRegWord_other _ _ ha)))
  refine ⟨t.putAttended, ?_, State.writes_of State.put_writes (by decide) (State.writes_of htw (by decide) hw), ?_, ?_, ?_,
    ?_, fun a ha hne => (hother a hne).trans (hreset a ha), fun a ha => (hother a ?_).trans (hkept a ha)⟩
  · rw [ht, hv]
    rfl
  · rw [State.bridgeCleared, hux]
    exact hc
  · rw [hux, hp]
  · rw [hall.get (f := Reg.XNG_HSTATUS_ATTENDED) (v := bit t.attended) (by simp), hatt]
  · simp only [List.forall_mem_cons, List.not_mem_nil, false_imp_iff, implies_true, and_true]
    exact ⟨hall.get (by simp), hall.get (by simp), hall.get (by simp)⟩
  · rintro rfl
    exact absurd ha (by decide)

theorem perstNRelease_answers : Answers .perstNRelease s fun u =>
    s.writes u [.regs, .xng] ∧ u.xng = { s.xng with perst := false } ∧
    s.setsFields u [(Reg.XNG_HSTATUS_ATTENDED, bit (decide (s.get Reg.XNG_HSTATUS_WDOG_EXP = 0)))] := by
  obtain ⟨v, hv⟩ : ∃ v, v = { s with xng := { s.xng with perst := false } } := ⟨_, rfl⟩
  have hx : v.xng = { s.xng with perst := false } := by rw [hv]
  have hregs : v.regs = s.regs := by rw [hv]
  have hatt : v.attended = decide (s.get Reg.XNG_HSTATUS_WDOG_EXP = 0) := by
    rw [State.attended, hx, State.get_congr hregs]
    rfl
  have hw : s.writes v [.regs, .xng] := hv ▸ State.writes_mono (s.with_xng_writes _) (by decide)
  refine ⟨v.putAttended, by rw [hv]; rfl, State.writes_of State.put_writes (by decide) hw, (State.put_xng _ _ _).trans hx, ?_⟩
  rw [← hatt]
  exact (State.setsFields_nil_of_regs hregs).nextLt Reg.XNG_HSTATUS_ATTENDED _ (bit_lt _) rfl

theorem hostSidePowerUp_answers (h : s.pw.hostOn = false) : Answers .hostSidePowerUp s fun u =>
    s.writes u [.regs, .xng, .pw] ∧ u.pw = { s.pw with hostOn := true } ∧ u.bridgeCleared ∧
    (∀ a, perstReg a = false → u.regWord a = s.regWord a) := by
  obtain ⟨hw, hc, -, hkept⟩ := s.perstClear_facts
  obtain ⟨v, hv⟩ : ∃ v, v = s.perstClear := ⟨_, rfl⟩
  rw [← hv] at hw hc hkept
  obtain ⟨t, ht⟩ : ∃ t, t = { v with pw := { s.pw with hostOn := true } } := ⟨_, rfl⟩
  have htw : s.writes t [.regs, .xng, .pw] := by
    rw [ht]
    exact State.writes_of (v.with_pw_writes _) (by decide) (State.writes_mono hw (by decide))
  have htp : t.pw = { s.pw with hostOn := true } := by rw [ht]
  have htx : t.xng = v.xng := by rw [ht]
  have htr : t.regs = v.regs := by rw [ht]
  refine ⟨t.putAttended, ?_, State.writes_of State.put_writes (by decide) htw, (State.put_pw _ _ _).trans htp, ?_,
    fun a ha => ?_⟩
  · rw [ht, hv]
    exact congrArg Host.Outcome.next (if_neg (by simp [h]))
  · rw [State.bridgeCleared, State.putAttended, State.put_xng, htx]
    exact hc
  · have hne : a ≠ 0x010000 := by
      rintro rfl
      exact absurd ha (by decide)
    rw [← hkept a ha]
    exact (State.regWord_setRegWord_other _ _ hne).trans (congrArg (mget resetWord · a) htr)

/-- The field side without power, as the host side's loss leaves it. -/
def State.fieldLost : State := if s.pw.fieldOn then s.fieldOff none else s

theorem State.fieldLost_off : s.fieldLost.pw.fieldOn = false := by
  unfold State.fieldLost
  cases h : s.pw.fieldOn
  · exact h
  · rw [if_pos rfl, State.fieldOff]
    exact (congrArg Power.fieldOn (State.put_pw _ _ _)).trans (congrArg Power.fieldOn (State.put_pw _ _ _))

theorem hostSidePowerLoss_answers : Answers .hostSidePowerLoss s fun u =>
    u.pw.hostOn = false ∧ u.pw.fieldOn = false ∧ u.bridgeCleared ∧ u.xng.beatHost = none ∧ u.xng.beatField = none ∧
    u.xng.raises = [] ∧ u.xng.dormant = false := by
  obtain ⟨a, ha⟩ : ∃ a, a = s.fieldLost := ⟨_, rfl⟩
  have hoff : a.pw.fieldOn = false := ha ▸ s.fieldLost_off
  obtain ⟨-, hc, -⟩ := a.perstClear_facts
  obtain ⟨v, hv⟩ : ∃ v, v = a.perstClear := ⟨_, rfl⟩
  rw [← hv] at hc
  obtain ⟨h1, h2, h3, h4, h5, h6, h7⟩ := hc
  refine ⟨{ v with
    pw := { a.pw with hostOn := false }
    xng := { v.xng with beatHost := none, beatField := none, raises := [], dormant := false } }, ?_, rfl, hoff,
    ⟨h1, h2, h3, h4, h5, h6, h7⟩, rfl, rfl, rfl, rfl⟩
  rw [hv, ha]
  rfl

end

/-- Settles O55: a message taken moves from one side's queue to the other's; the reset of the host side leaves what is not of
its domain, and XNG_HSTATUS is written with what it reported of the field side. -/
theorem messagesCrossAndTheHostSideResets : Obligations.MessagesCrossAndTheHostSideResets := by
  unfold Obligations.MessagesCrossAndTheHostSideResets
  exact ⟨fun s => ⟨xngRaise_answers, fun _ _ => alarmMessage_answers, fun _ _ => notificationMessage_answers,
      fun _ _ => xngPop_answers, fun _ => safeLatchClear_ends, safeLatchClear_absent⟩,
    fun s => ⟨perstNAssert_answers s, perstNRelease_answers s, hostSidePowerUp_answers s, hostSidePowerLoss_answers s⟩⟩

end Sys2Proof.Machine
end

/-! # Ferries and peer transfers (R291, R305 to R307) -/

section
namespace Sys2Proof.Machine

/-! ## Descriptors -/

section
variable (s : State)

theorem State.desc_setDesc (r i : Nat) (d : Desc) : (s.setDesc r i d).desc r i = d := mget_mset_same _ _ _ _

theorem State.desc_setDesc_other {r i q j : Nat} (d : Desc) (h : 256 * q + j ≠ 256 * r + i) :
    (s.setDesc r i d).desc q j = s.desc q j := mget_mset_other _ _ _ h

theorem State.setDesc_facts (r i : Nat) (d : Desc) : s.writes (s.setDesc r i d) [.xng] ∧
    (s.setDesc r i d).xng = { s.xng with rings := (s.setDesc r i d).xng.rings } := ⟨State.setDesc_moves.1, rfl⟩

/-- Descriptors depend on the rings only. -/
theorem State.desc_congr {s t : State} (h : t.xng.rings = s.xng.rings) (r i : Nat) : t.desc r i = s.desc r i := by
  rw [State.desc, State.desc, h]

theorem xngRingTail_answers (r : RingNo) (v : Word) (d : BitVec 256) : Answers (.xngRingTail r v [d]) s fun u =>
    s.writes u [.regs, .xng] ∧ s.setsFields u [(Reg.XNG_RING_TAIL r, v.toNat % 256)] ∧
    u.desc r (s.get (Reg.XNG_RING_TAIL r)) = Desc.ofBytes d ∧
    (∀ q i, i < 256 → (q ≠ r.val ∨ i ≠ s.get (Reg.XNG_RING_TAIL r)) → u.desc q i = s.desc q i) := by
  have ht : s.get (Reg.XNG_RING_TAIL r) < 256 := s.get_lt _
  obtain ⟨i, hi⟩ : ∃ i, i = s.get (Reg.XNG_RING_TAIL r) := ⟨_, rfl⟩
  rw [← hi] at ht ⊢
  obtain ⟨t, hw⟩ : ∃ t, t = s.setDesc r i (Desc.ofBytes d) := ⟨_, rfl⟩
  have hdesc (q j : Nat) : (t.put (Reg.XNG_RING_TAIL r) (v.toNat % 256)).desc q j = t.desc q j :=
    State.desc_congr (by rw [State.put_xng]) q j
  refine ⟨t.put (Reg.XNG_RING_TAIL r) (v.toNat % 256), ?_, ?_, ?_, ?_, fun q j hj hne => ?_⟩
  · rw [hw]
    have hexec : exec (.xngRingTail r v [d]) s = .next ((s.setDesc r (s.get (Reg.XNG_RING_TAIL r) % 256) (Desc.ofBytes d)).put
        (Reg.XNG_RING_TAIL r) (fieldOf v.toNat 0 8)) := rfl
    rw [hexec, ← hi, Nat.mod_eq_of_lt ht]
    simp [fieldOf]
  · exact State.writes_of State.put_writes (by decide) (hw ▸ State.writes_mono State.setDesc_moves.1 (by decide))
  · have hregs : t.regs = s.regs := by rw [hw]; rfl
    exact (State.setsFields_nil_of_regs hregs).nextLt (Reg.XNG_RING_TAIL r) _ (Nat.mod_lt _ (by decide)) rfl
  · rw [hdesc, hw, State.desc_setDesc]
  · rw [hdesc, hw, State.desc_setDesc_other _ _ (by omega)]

end

/-! ## Frames (R307) -/

section
variable {s : State} {r : RingNo} {words : List Word72} {g : Seg} {l : OpenLoad}

/-- The transfer of ring r in progress, or one about to begin. -/
def State.xfer (s : State) (r : Nat) : Xfer := (mfind s.xng.xfers r).getD ⟨none, 0⟩

theorem State.xfer_sts (h : ∀ x, mfind s.xng.xfers r.val = some x → x.sts = none) : (s.xfer r).sts = none := by
  unfold State.xfer
  cases hx : mfind s.xng.xfers r.val with
  | none => rfl
  | some x => exact h x hx

theorem exec_ferryFrame (ho : s.ringOpen r = true) (hup : s.xng.up = true) (hlive : s.fieldLive = true)
    (hx : ∀ x, mfind s.xng.xfers r.val = some x → x.sts = none) (hlen : words.length ≤ 455)
    (hd : (s.headDesc r).done + words.length ≤ (s.headDesc r).count) (hm : s.ferryMatch (s.headDesc r) = .ok (g, l))
    (hot : s.tooHot g.sid = false) (hl : l.done + words.length ≤ l.count) :
    exec (.ferryFrame r words) s = .next (s.ferryMove r (s.headDesc r) g l (s.xfer r) words) := by
  have hexec : exec (.ferryFrame r words) s = .next (
    if !s.ringOpen r ∨ !s.xng.up ∨ !s.fieldLive ∨ (s.xfer r).sts.isSome ∨ 455 < words.length ∨
        (s.headDesc r).count < (s.headDesc r).done + words.length then s
    else match s.ferryMatch (s.headDesc r) with
      | .error _ => s
      | .ok (g, l) => if l.count < l.done + words.length ∨ s.tooHot g.sid then s
        else s.ferryMove r (s.headDesc r) g l (s.xfer r) words) := rfl
  rw [hexec, hm]
  refine congrArg Host.Outcome.next ((if_neg ?_).trans (if_neg ?_))
  · simp only [ho, hup, hlive, State.xfer_sts hx, Bool.not_true, Option.isSome_none, Bool.false_eq_true, false_or]
    omega
  · simp only [hot, Bool.false_eq_true, or_false]
    omega

theorem ferryFrame_ignored (h : s.ringOpen r = false ∨ 455 < words.length) :
    Answers (.ferryFrame r words) s fun u => u = s := by
  refine ⟨s, congrArg Host.Outcome.next (if_pos ?_), rfl⟩
  rcases h with h | h
  · exact .inl (by rw [h]; rfl)
  · exact .inr (.inr (.inr (.inr (.inl h))))

/-- A frame to the host. -/
theorem State.ferryMove_host (s : State) (r : RingNo) {d : Desc} (hd : d.toHost = true) (g : Seg) (hg : g.loads = [l])
    (x : Xfer) (words : List Word72) : let u := s.ferryMove r d g l x words
    s.writes u [.segs, .xng, .mc] ∧ u.desc r (s.get (Reg.XNG_RING_HEAD r)) = { d with done := d.done + words.length } ∧
    u.xng.ferried = (upto words.length).map (fun j => s.delivered g.sid (l.off + l.done + j)) ∧
    u.seg d.handle = some { g with loads := [{ l with
      done := l.done + words.length
      poisoned := l.poisoned + s.poisonedIn g.sid (l.off + l.done) words.length }] } := by
  obtain ⟨l1, hl1⟩ : ∃ l1 : OpenLoad, l1 = { l with
    done := l.done + words.length
    poisoned := l.poisoned + s.poisonedIn g.sid (l.off + l.done) words.length } := ⟨_, rfl⟩
  obtain ⟨a, ha⟩ : ∃ a, a = (s.wordsUse g.sid (l.off + l.done) words.length).setSeg d.handle { g with loads := [l1] } := ⟨_, rfl⟩
  obtain ⟨b, hb⟩ : ∃ b, b = a.setDesc r (s.get (Reg.XNG_RING_HEAD r)) { d with done := d.done + words.length } := ⟨_, rfl⟩
  obtain ⟨out, hout⟩ : ∃ out, out = (upto words.length).map (fun j => s.delivered g.sid (l.off + l.done + j)) := ⟨_, rfl⟩
  obtain ⟨y, hy⟩ : ∃ y : Crossing, y.rings = b.xng.rings ∧ y.ferried = out ∧
      s.ferryMove r d g l x words = { b with xng := y } := by
    refine ⟨{ b.xng with
      xfers := mins b.xng.xfers r { x with poisoned := x.poisoned + s.poisonedIn g.sid (l.off + l.done) words.length }
      ferried := out }, rfl, rfl, ?_⟩
    unfold State.ferryMove
    rw [if_pos hd, hb, ha, hl1, hout, hg]
    simp only [List.map_cons, List.map_nil, if_true]
  obtain ⟨hrings, hferried, heq⟩ := hy
  have haw : s.writes a [.segs, .mc] := by
    rw [ha]
    exact State.writes_of State.setSeg_moves.1 (by decide) (State.writes_mono State.wordsUse_moves.1 (by decide))
  have hbw : a.writes b [.xng] := hb ▸ State.setDesc_moves.1
  have huw : b.writes { b with xng := y } [.xng] := b.with_xng_writes y
  dsimp only
  rw [heq, ← hl1, ← hout]
  refine ⟨State.writes_of huw (by decide) (State.writes_of hbw (by decide) (State.writes_mono haw (by decide))), ?_, hferried, ?_⟩
  · rw [State.desc_congr (s := b) hrings, hb, State.desc_setDesc]
  · rw [State.seg_of_writes huw (by decide), State.seg_of_writes hbw (by decide), ha, State.seg_setSeg]

/-- A frame from the host. -/
theorem State.ferryMove_field (s : State) (r : RingNo) {d : Desc} (hd : d.toHost = false) (g : Seg) (x : Xfer)
    (words : List Word72) : (s.ferryMove r d g l x words).desc r (s.get (Reg.XNG_RING_HEAD r)) =
      { d with done := d.done + (s.loadTakes l words).length } := by
  unfold State.ferryMove
  rw [if_neg (by simp [hd])]
  exact (State.desc_congr rfl _ _).trans (State.desc_setDesc _ _ _ _)

/-! ## Descriptors completed (R307) -/

/-- s with the descriptor at the head of ring r written back. -/
def State.written (s : State) (r e : Nat) : State :=
  (s.setDesc r (s.get (Reg.XNG_RING_HEAD r)) { s.headDesc r with sts := e }).put (Reg.XNG_RING_HEAD r)
    ((s.get (Reg.XNG_RING_HEAD r) + 1) % 256)

theorem State.ferryEnd_facts (s : State) (r : RingNo) (e : Nat) : s.writes (s.ferryEnd r e) [.regs, .xng] ∧
    s.setsFields (s.ferryEnd r e) [(Reg.XNG_RING_HEAD r, (s.get (Reg.XNG_RING_HEAD r) + 1) % 256)] ∧
    (s.ferryEnd r e).desc r (s.get (Reg.XNG_RING_HEAD r)) = { s.headDesc r with sts := e } ∧
    mfind (s.ferryEnd r e).xng.xfers r.val = none := by
  obtain ⟨a, ha⟩ : ∃ a, a = s.setDesc r (s.get (Reg.XNG_RING_HEAD r)) { s.headDesc r with sts := e } := ⟨_, rfl⟩
  obtain ⟨b, hb⟩ : ∃ b, b = a.put (Reg.XNG_RING_HEAD r) ((s.get (Reg.XNG_RING_HEAD r) + 1) % 256) := ⟨_, rfl⟩
  obtain ⟨c, hc⟩ : ∃ c, c = { b with xng := { b.xng with xfers := mdel b.xng.xfers r } } := ⟨_, rfl⟩
  have haw : s.writes a [.xng] := ha ▸ State.setDesc_moves.1
  have hbx : b.xng = a.xng := by rw [hb, State.put_xng]
  have hsets : s.setsFields b [(Reg.XNG_RING_HEAD r, (s.get (Reg.XNG_RING_HEAD r) + 1) % 256)] :=
    hb ▸ (State.setsFields_nil_of_regs (haw .regs (by decide))).nextLt (Reg.XNG_RING_HEAD r) _ (Nat.mod_lt _ (by decide)) rfl
  have hcw : s.writes c [.regs, .xng] := by
    rw [hc, hb]
    exact State.writes_of (State.with_xng_writes _ _) (by decide) (State.writes_of State.put_writes (by decide)
      (State.writes_mono haw (by decide)))
  have hcr : c.regs = b.regs := by rw [hc]
  have hrings : c.xng.rings = a.xng.rings := by rw [hc, ← hbx]
  have hxfers : c.xng.xfers = mdel b.xng.xfers r := by rw [hc]
  have hend : s.ferryEnd r e = if (s.headDesc r).irq then c.msix (4 + r) else c := by
    rw [hc, hb, ha]
    rfl
  have hdesc : c.desc r (s.get (Reg.XNG_RING_HEAD r)) = { s.headDesc r with sts := e } := by
    rw [State.desc_congr hrings, ha, State.desc_setDesc]
  have hgone : mfind c.xng.xfers r.val = none := by rw [hxfers, mfind_mdel_same]
  obtain ⟨hmw, hmx⟩ := c.msix_facts (4 + r)
  rw [hend]
  split
  · refine ⟨State.writes_of hmw (by decide) hcw, (hsets.of_regs hcr).of_regs (hmw .regs (by decide)), ?_, ?_⟩
    · rw [State.desc_congr (s := c) (by rw [hmx]), hdesc]
    · rw [hmx]
      exact hgone
  · exact ⟨hcw, hsets.of_regs hcr, hdesc, hgone⟩

theorem ferryDescriptorComplete_done {x : Xfer} (ho : s.ringOpen r = true) (hx : mfind s.xng.xfers r.val = some x)
    (hsts : x.sts = none) (hd : (s.headDesc r).done = (s.headDesc r).count) : exec (.ferryDescriptorComplete r) s =
      .next (s.ferryEnd r (if 0 < x.poisoned then Sts.poison.code else Sts.ok.code)) := by
  refine congrArg Host.Outcome.next ((if_neg (by simp [ho])).trans ?_)
  rw [hx]
  dsimp only
  rw [hsts]
  exact if_pos hd

theorem ferryDescriptorComplete_refused {e : Sts} (ho : s.ringOpen r = true) (hup : s.xng.up = true)
    (hlive : s.fieldLive = true) (hx : mfind s.xng.xfers r.val = none) (hm : s.ferryMatch (s.headDesc r) = .error e) :
    exec (.ferryDescriptorComplete r) s = .next (s.ferryEnd r e.code) := by
  refine congrArg Host.Outcome.next ((if_neg (by simp [ho])).trans ?_)
  rw [hx]
  dsimp only
  rw [if_neg (by simp [hup, hlive]), hm]

end

/-! ## Words written to memory -/

section
variable (s : State)

theorem State.readWord_of_mem {s t : State} (h : t.mem = s.mem) (sid off : Nat) : t.readWord sid off = s.readWord sid off := by
  have hbytes (n : Nat) : t.readBytes sid off n = s.readBytes sid off n := by
    induction n with
    | zero => simp only [State.readBytes]
    | succ n ih => simp only [State.readBytes, State.readByte, h, ih]
  simp only [State.readWord, hbytes]

theorem State.readWord_storeWord (sid off : Nat) (w : Word72) : (s.storeWord sid off w).readWord sid off = w := by
  rw [State.storeWord, State.readWord_of_mem (s := s.writeWord sid off w) (State.lineUse_moves.1 .mem (by decide)),
    State.readWord_writeWord]

theorem State.readWord_storeWord_other {sid off j : Nat} (w : Word72) (h : j ≠ off) :
    (s.storeWord sid off w).readWord sid j = s.readWord sid j := by
  rw [State.storeWord, State.readWord_of_mem (s := s.writeWord sid off w) (State.lineUse_moves.1 .mem (by decide)),
    State.readWord_writeWord_other _ _ (by omega)]

theorem State.readWord_writeWords_before {sid off j : Nat} (ws : List Word72) (h : j < off) :
    (s.writeWords sid off ws).readWord sid j = s.readWord sid j := by
  induction ws generalizing s off with
  | nil => rfl
  | cons w ws ih => rw [State.writeWords, ih _ (by omega), State.readWord_storeWord_other _ _ (by omega)]

/-- Words written read as they were written. -/
theorem State.readWord_writeWords {sid off i : Nat} (ws : List Word72) (hi : i < ws.length) :
    (s.writeWords sid off ws).readWord sid (off + i) = ws[i] := by
  induction ws generalizing s off i with
  | nil => simp at hi
  | cons w ws ih =>
    rw [State.writeWords]
    cases i with
    | zero => rw [State.readWord_writeWords_before _ _ (by omega), Nat.add_zero, State.readWord_storeWord, List.getElem_cons_zero]
    | succ i =>
      have hlt : i < ws.length := by simpa using hi
      rw [show off + (i + 1) = (off + 1) + i by omega, ih _ hlt, List.getElem_cons_succ]

theorem State.readWord_fillWords {sid off i : Nat} (ws : List Word72) (hi : i < ws.length) :
    (s.fillWords sid off off [] ws).readWord sid (off + i) = ws[i] := by
  rw [State.fillWords, State.readWord_of_mem (s := s.writeWords sid off ws) (State.clearPoison_moves.1 .mem (by decide)),
    s.readWord_writeWords ws hi]

end

/-! ## Peer frames (R291) -/

section
variable {s : State} {p : PortNo} {h : BitVec 24} {off : BitVec 34} {words : List Word72} {g : Seg}

/-- The peer has taken words of a push of this module. -/
theorem peerDataFrame_taken {l : OpenLoad} (ht : s.portTalks p = true) (hg : s.seg h.toNat = some g)
    (hot : s.tooHot g.sid = false) (hl : g.loads = [l]) (hsrc : l.src = p.val + 1) (hr : l.read = true)
    (ho : l.off + l.done = off.toNat) (hw : words ≠ []) (hc : l.done + words.length ≤ l.count) :
    Answers (.peerDataFrame p 1 h off words []) s fun u =>
      s.writes u [.segs, .mc] ∧ u.seg h.toNat = some { g with loads := [{ l with done := l.done + words.length }] } := by
  have hends : (words.isEmpty && decide ((1 : BitVec 2) = 0 ∨ ((1 : BitVec 2) = 1 ∧ off ≠ 0))) = false := by
    rw [List.isEmpty_eq_false_iff.mpr hw, Bool.false_and]
  have hfind : g.peerLoad p off.toNat true = some l := by
    unfold Seg.peerLoad
    rw [hl]
    simp [hsrc, hr, ho]
  have hexec : exec (.peerDataFrame p 1 h off words []) s = .next ((s.wordsUse l.sid (l.off + l.done) words.length).setSeg h.toNat
      { g with loads := g.loads.map (fun x => if x = l then { x with done := x.done + words.length } else x) }) := by
    refine congrArg Host.Outcome.next ((if_neg (by simp [ht])).trans ?_)
    rw [hg]
    dsimp only
    rw [if_neg (by simp [hot]), if_neg (by rw [hends]; decide), if_neg (by decide), if_pos rfl, hfind]
    exact if_neg (by omega)
  refine ⟨_, hexec, State.writes_of State.setSeg_moves.1 (by decide) (State.writes_mono State.wordsUse_moves.1 (by decide)), ?_⟩
  rw [State.seg_setSeg, hl]
  simp

/-- A push of another module with all its words. -/
def pushed (p off n : Nat) (sid : Nat) : Guest := ⟨p, false, false, sid, off, n, []⟩

/-- A segment with another module's push open on it, into which nothing had been done before. -/
def Seg.pushOpen (g : Seg) (l : Guest) : Seg :=
  { g with guests := [l], loading := true, finalDone := if !g.loading then false else g.finalDone }

theorem State.openGuest_push (s : State) (h p off : Nat) (g : Seg) (hk : (s.store g.sid).kind ≠ .slipway) (hn : g.guests = []) :
    s.openGuest h g p false off = (pushed p off 0 g.sid, s.setSeg h (g.pushOpen (pushed p off 0 g.sid))) := by
  simp [State.openGuest, pushed, Seg.pushOpen, hk, hn]

/-- The words of the one frame of a push. -/
theorem State.pushFrame_words (s : State) (h p off sid : Nat) (g : Seg) (words : List Word72) :
    (s.setSeg h (g.pushOpen (pushed p off 0 sid))).pushFrame h (pushed p off 0 sid) words [] =
      ((s.setSeg h (g.pushOpen (pushed p off 0 sid))).fillWords sid off off [] words).setSeg h
        (g.pushOpen (pushed p off words.length sid)) := by
  have hseg : ((s.setSeg h (g.pushOpen (pushed p off 0 sid))).fillWords sid off off [] words).seg h =
      some (g.pushOpen (pushed p off 0 sid)) := by
    rw [State.seg_of_writes State.fillWords_moves.1 (by decide), State.seg_setSeg]
  have hset : (s.setSeg h (g.pushOpen (pushed p off 0 sid))).pushFrame h (pushed p off 0 sid) words [] =
      ((s.setSeg h (g.pushOpen (pushed p off 0 sid))).fillWords sid off off [] words).setGuest h
        (pushed p off (0 + words.length) sid) false := rfl
  rw [hset, State.setGuest, hseg]
  simp [pushed, Seg.pushOpen]

/-- FINAL ends a push. -/
theorem State.endGuest_push (s : State) (h p off n sid : Nat) (g : Seg) (hn : g.guests = []) :
    (((s.setSeg h (g.pushOpen (pushed p off n sid))).endGuest h (pushed p off n sid) true).seg h =
      some { g with finalDone := true, loading := g.loads.any (fun l => l.writes) }) ∧
    (s.setSeg h (g.pushOpen (pushed p off n sid))).writes
      ((s.setSeg h (g.pushOpen (pushed p off n sid))).endGuest h (pushed p off n sid) true) [.segs] := by
  obtain ⟨v, hv⟩ : ∃ v, v = s.setSeg h (g.pushOpen (pushed p off n sid)) := ⟨_, rfl⟩
  have hseg : v.seg h = some (g.pushOpen (pushed p off n sid)) := by rw [hv, State.seg_setSeg]
  have hgone : v.setGuest h (pushed p off n sid) true =
      v.setSeg h { g.pushOpen (pushed p off n sid) with guests := [] } := by
    rw [State.setGuest, hseg]
    simp [pushed, Seg.pushOpen]
  have hend : v.endGuest h (pushed p off n sid) true = (v.setGuest h (pushed p off n sid) true).setSeg h
      { g with finalDone := true, loading := g.loads.any (fun l => l.writes) } := by
    unfold State.endGuest
    rw [hgone]
    simp [State.seg_setSeg, pushed, Seg.pushOpen, hn]
  rw [← hv, hend, State.seg_setSeg]
  exact ⟨rfl, State.writes_of State.setSeg_moves.1 (by decide) State.setGuest_moves.1⟩

/-- A push of another module in one frame with FINAL. -/
theorem peerDataFrame_pushed (ht : s.portTalks p = true) (hg : s.seg h.toNat = some g) (hot : s.tooHot g.sid = false)
    (hcap : (s.store g.sid).kind ≠ .capture) (hslip : (s.store g.sid).kind ≠ .slipway)
    (hlen : off.toNat + words.length ≤ (s.store g.sid).len) (hlive : s.liveNow h.toNat = false) (hn : g.guests = [])
    (hprof : s.get Reg.GLB_STATE_PROFILE ≠ 3) (hch : s.pw.change ≠ some 3) :
    Answers (.peerDataFrame p 3 h off words []) s fun u =>
      (∀ i (hi : i < words.length), u.readWord g.sid (off.toNat + i) = words[i]) ∧
      u.seg h.toNat = some { g with finalDone := true, loading := g.loads.any (fun l => l.writes) } := by
  obtain ⟨v, hv⟩ : ∃ v, v = (s.setSeg h.toNat (g.pushOpen (pushed p off.toNat 0 g.sid))).fillWords g.sid off.toNat off.toNat []
    words := ⟨_, rfl⟩
  obtain ⟨t, htt⟩ : ∃ t, t = v.setSeg h.toNat (g.pushOpen (pushed p off.toNat words.length g.sid)) := ⟨_, rfl⟩
  obtain ⟨hseg, hsegw⟩ := v.endGuest_push h.toNat p off.toNat words.length g.sid g hn
  rw [← htt] at hseg hsegw
  have hguest : (g.pushOpen (pushed p off.toNat words.length g.sid)).guest p false =
      some (pushed p off.toNat words.length g.sid) := by
    simp [Seg.guest, Seg.pushOpen, pushed]
  have hnone : g.guest p false = none := by simp [Seg.guest, hn]
  have hmay : s.guestMay h.toNat g false false = true := by simp [State.guestMay, hprof, hch, hcap, hlive]
  have hpush : (s.setSeg h.toNat (g.pushOpen (pushed p off.toNat 0 g.sid))).pushFrame h.toNat (pushed p off.toNat 0 g.sid)
      words [] = t := by
    rw [State.pushFrame_words, htt, hv]
  have hframe : s.guestFrame p h.toNat g false true off.toNat words [] = t.endGuest h.toNat
      (pushed p off.toNat words.length g.sid) true := by
    have htseg : t.seg h.toNat = some (g.pushOpen (pushed p off.toNat words.length g.sid)) := by rw [htt, State.seg_setSeg]
    unfold State.guestFrame
    dsimp only
    rw [hnone]
    dsimp only
    rw [State.openGuest_push _ _ _ _ _ hslip hn]
    dsimp only
    have hring : (pushed p off.toNat 0 g.sid).ring = false := rfl
    rw [hring, if_neg (by simp [hmay]; omega), if_neg (by decide), hpush, if_pos (.inl rfl), htseg]
    dsimp only [Option.bind_some]
    rw [hguest]
  have hexec : exec (.peerDataFrame p 3 h off words []) s = .next (t.endGuest h.toNat
      (pushed p off.toNat words.length g.sid) true) := by
    rw [← hframe]
    refine congrArg Host.Outcome.next ((if_neg (by simp [ht])).trans ?_)
    rw [hg]
    dsimp only
    rw [if_neg (by simp [hot]), if_neg (by simp), if_neg (by decide), if_neg (by decide)]
    rfl
  refine ⟨_, hexec, fun i hi => ?_, hseg⟩
  have hmem : t.mem = v.mem := by rw [htt]; rfl
  rw [State.readWord_of_mem (hsegw .mem (by decide)), State.readWord_of_mem hmem, hv,
    State.readWord_fillWords _ words hi]

end

/-- Settles O56: a descriptor is an entry of its ring, and the head moves past it; a frame writes the words at the offset that
the transfer has reached, and FINAL closes it. -/
theorem ferriesAndPeersMoveWords : Obligations.FerriesAndPeersMoveWords := by
  unfold Obligations.FerriesAndPeersMoveWords
  refine ⟨fun s r => ⟨xngRingTail_answers s r, fun words g l ho hup hlive hx hlen hd hm hot hl => ⟨fun hhost hg => ?_,
      fun hfield => ?_⟩, fun _ => ferryFrame_ignored, fun ho hup hlive => ⟨fun x hx hsts hd => ?_, fun e hx hm => ?_⟩⟩,
    fun s p h off words g ht hg hot => ⟨fun l hl hsrc hr ho hw hc => peerDataFrame_taken ht hg hot hl hsrc hr ho hw hc,
      peerDataFrame_pushed ht hg hot⟩⟩
  · exact ⟨_, exec_ferryFrame ho hup hlive hx hlen hd hm hot hl, s.ferryMove_host r hhost g hg _ words⟩
  · exact ⟨_, exec_ferryFrame ho hup hlive hx hlen hd hm hot hl, s.ferryMove_field r hfield g _ words⟩
  · exact ⟨_, ferryDescriptorComplete_done ho hx hsts hd, s.ferryEnd_facts r _⟩
  · obtain ⟨hw, hsets, hdesc, -⟩ := s.ferryEnd_facts r e.code
    exact ⟨_, ferryDescriptorComplete_refused ho hup hlive hx hm, hw, hsets, hdesc⟩

end Sys2Proof.Machine
end

/-! # The image written, and the boot's stages (R344, R352) -/

section
namespace Sys2Proof.Machine

/-! ## Bytes of MRAM -/

section
variable (s : State)

theorem State.mramAt_putMram_out (d : Nat) {a j : Nat} (l : List (BitVec 8)) (h : j < a ∨ a + l.length ≤ j) :
    (s.putMram d a l).mramAt d j = s.mramAt d j := by
  induction l generalizing s a with
  | nil => rfl
  | cons b l ih =>
    have hlen : (b :: l).length = l.length + 1 := rfl
    have hfind : mfind (mins s.mram (d * 2 ^ 24 + a) b) (d * 2 ^ 24 + j) = mfind s.mram (d * 2 ^ 24 + j) :=
      mfind_mins_other _ _ (by omega)
    rw [State.putMram, ih _ (by omega), State.mramAt, hfind, State.mramAt]

/-- Bytes written read as they were written. -/
theorem State.mramAt_putMram (d a : Nat) {i : Nat} {l : List (BitVec 8)} {b : BitVec 8} (h : l[i]? = some b) :
    (s.putMram d a l).mramAt d (a + i) = b := by
  induction l generalizing s a i with
  | nil => simp at h
  | cons c l ih =>
    rw [State.putMram]
    cases i with
    | zero =>
      have hc : c = b := by simpa using h
      have hfind : mfind (mins s.mram (d * 2 ^ 24 + a) c) (d * 2 ^ 24 + a) = some c := mfind_mins_same _ _ _
      rw [State.mramAt_putMram_out _ _ _ (by omega), State.mramAt, show a + 0 = a from rfl, hfind, hc]
      rfl
    | succ i =>
      rw [show a + (i + 1) = (a + 1) + i by omega]
      exact ih _ _ (by simpa using h)

theorem State.mramAt_of_mram {s t : State} (h : t.mram = s.mram) (d a : Nat) : t.mramAt d a = s.mramAt d a := by
  rw [State.mramAt, State.mramAt, h]

end

/-- Byte j of a 32-bit value as four bytes. -/
theorem leBytes_getElem? (v : Nat) {j : Nat} (hj : j < 4) : (leBytes 4 v)[j]? = some (BitVec.ofNat 8 (v / 256 ^ j)) := by
  have hcases : j = 0 ∨ j = 1 ∨ j = 2 ∨ j = 3 := by omega
  rcases hcases with rfl | rfl | rfl | rfl <;> simp [leBytes, Nat.div_div_eq_div_mul]

/-- Bytes of values laid out four bytes each. -/
theorem flatMap_leBytes (f : Nat → Nat) (n : Nat) : ((upto n).flatMap (fun i => leBytes 4 (f i))).length = 4 * n ∧
    ∀ i j, i < n → j < 4 →
      ((upto n).flatMap (fun i => leBytes 4 (f i)))[4 * i + j]? = some (BitVec.ofNat 8 (f i / 256 ^ j)) := by
  induction n with
  | zero => exact ⟨rfl, fun i _ hi => absurd hi (Nat.not_lt_zero i)⟩
  | succ n ih =>
    obtain ⟨hlen, hget⟩ := ih
    have hsucc : (upto (n + 1)).flatMap (fun i => leBytes 4 (f i)) =
        (upto n).flatMap (fun i => leBytes 4 (f i)) ++ leBytes 4 (f n) := by
      simp [upto, List.range_succ]
    have h4 : (leBytes 4 (f n)).length = 4 := rfl
    rw [hsucc]
    refine ⟨by rw [List.length_append, hlen, h4]; omega, fun i j hi hj => ?_⟩
    by_cases hin : i < n
    · rw [List.getElem?_append_left (by omega)]
      exact hget i j hin hj
    · obtain rfl : i = n := by omega
      rw [List.getElem?_append_right (by omega), hlen, show 4 * i + j - 4 * i = j by omega]
      exact leBytes_getElem? _ hj

/-! ## Image commands (R352) -/

section
variable {s : State} {tag : BitVec 8}

theorem nvWriteEnable_answers (v : Word) (h : s.get Reg.GLB_STATE_UNLOCKED = 1) : Answers (.nvWriteEnable v) s fun u =>
    s.setsOnly u [(Reg.GLB_STATE_UNLOCKED, 0), (Reg.NVS_NV_CTRL_WE, bit (v.getLsbD 0))] :=
  ⟨_, congrArg Host.Outcome.next (State.guarded_of_unlocked h _), State.writes_of State.put_writes (by decide) State.put_writes,
    (s.setsFields_refl.next Reg.GLB_STATE_UNLOCKED 0 rfl).nextLt Reg.NVS_NV_CTRL_WE _ (bit_lt _) rfl⟩

theorem State.imgCmd_accepted (hb : s.get Reg.NVS_IMG_STATUS_BUSY = 0) (hw : s.get Reg.NVS_NV_CTRL_WE = 1)
    (hn : s.get Reg.NVS_SUPPLY_NV_BLOCK = 0) (t : Nat) (f : State → State) :
    s.imgCmd t true f = (f s).put Reg.NVS_IMG_STATUS_BUSY 1 := by
  rw [State.imgCmd, if_neg (by simp [hb]), if_neg (by simp [hw]), if_neg (by simp), if_neg (by simp [hn])]

/-- s with the staging window at byte a of the inactive bank, whose commit record is gone. -/
def State.blockWritten (s : State) (a : Nat) : State :=
  ((s.putMram s.inactive bankBytes (List.replicate 16 0)).put Reg.NVS_NV_CTRL_INACT_VALID 0).putMram s.inactive
    a ((upto 1024).flatMap (fun i => leBytes 4 (s.get (Reg.NVS_STAGE i))))

theorem State.startWrite_facts (s : State) (w : NvWrite) : s.writes (s.startWrite w) [.pw] ∧
    (s.startWrite w).pw = { s.pw with writing := s.pw.writing ++ [w] } := ⟨s.with_pw_writes _, rfl⟩

/-- The window's bytes, and the bytes around them. -/
theorem State.blockWritten_mram (s : State) {a : Nat} (hlen : a + 4096 ≤ bankBytes) :
    (∀ i, i < 16 → (s.blockWritten a).mramAt s.inactive (bankBytes + i) = 0) ∧
    (∀ i j, i < 1024 → j < 4 → (s.blockWritten a).mramAt s.inactive (a + 4 * i + j) =
      BitVec.ofNat 8 (s.get (Reg.NVS_STAGE i) / 256 ^ j)) ∧
    (∀ i, i < bankBytes → (i < a ∨ a + 4096 ≤ i) → (s.blockWritten a).mramAt s.inactive i = s.mramAt s.inactive i) := by
  obtain ⟨v, hv⟩ : ∃ v, v = (s.putMram s.inactive bankBytes (List.replicate 16 0)).put Reg.NVS_NV_CTRL_INACT_VALID 0 := ⟨_, rfl⟩
  obtain ⟨hbytes, hget⟩ := flatMap_leBytes (fun i => s.get (Reg.NVS_STAGE i)) 1024
  have hv1 (d a : Nat) : v.mramAt d a = (s.putMram s.inactive bankBytes (List.replicate 16 0)).mramAt d a := by
    rw [hv]
    exact State.mramAt_of_mram (State.put_writes .mram (by decide)) d a
  rw [State.blockWritten, ← hv]
  refine ⟨fun i hi => ?_, fun i j hi hj => ?_, fun i hi ho => ?_⟩
  · rw [State.mramAt_putMram_out _ _ _ (by omega), hv1]
    exact State.mramAt_putMram _ _ _ (by rw [List.getElem?_replicate, if_pos hi])
  · rw [Nat.add_assoc]
    exact State.mramAt_putMram _ _ _ (hget i j hi hj)
  · rw [State.mramAt_putMram_out _ _ _ (by omega), hv1, State.mramAt_putMram_out _ _ _ (by omega)]

theorem imgWriteBlock_answers (hb : s.get Reg.NVS_IMG_STATUS_BUSY = 0) (hw : s.get Reg.NVS_NV_CTRL_WE = 1)
    (hn : s.get Reg.NVS_SUPPLY_NV_BLOCK = 0) (ha : s.get Reg.NVS_IMG_ADDR % 4096 = 0)
    (hlen : s.get Reg.NVS_IMG_ADDR + 4096 ≤ bankBytes) : Answers (.imgWriteBlock tag) s fun u =>
      s.writes u [.regs, .pw, .mram] ∧
      s.setsFields u [(Reg.NVS_NV_CTRL_INACT_VALID, 0), (Reg.NVS_IMG_STATUS_BUSY, 1)] ∧
      u.pw = { s.pw with writing := s.pw.writing ++ [.block tag.toNat] } ∧
      (∀ i, i < 16 → u.mramAt s.inactive (bankBytes + i) = 0) ∧
      (∀ i j, i < 1024 → j < 4 → u.mramAt s.inactive (s.get Reg.NVS_IMG_ADDR + 4 * i + j) =
        BitVec.ofNat 8 (s.get (Reg.NVS_STAGE i) / 256 ^ j)) ∧
      (∀ i, i < bankBytes → (i < s.get Reg.NVS_IMG_ADDR ∨ s.get Reg.NVS_IMG_ADDR + 4096 ≤ i) →
        u.mramAt s.inactive i = s.mramAt s.inactive i) := by
  obtain ⟨h1, h2, h3⟩ := s.blockWritten_mram hlen
  obtain ⟨a, hat⟩ : ∃ a, a = s.blockWritten (s.get Reg.NVS_IMG_ADDR) := ⟨_, rfl⟩
  obtain ⟨m, hm⟩ : ∃ m, m = s.putMram s.inactive bankBytes (List.replicate 16 0) := ⟨_, rfl⟩
  have hmw : s.writes m [.mram] := hm ▸ State.putMram_moves.1
  have ham : a = (m.put Reg.NVS_NV_CTRL_INACT_VALID 0).putMram s.inactive (s.get Reg.NVS_IMG_ADDR)
      ((upto 1024).flatMap (fun i => leBytes 4 (s.get (Reg.NVS_STAGE i)))) := by
    rw [hat, hm]
    rfl
  have haw : (m.put Reg.NVS_NV_CTRL_INACT_VALID 0).writes a [.mram] := ham ▸ State.putMram_moves.1
  have hsaw : s.writes a [.regs, .pw, .mram] :=
    State.writes_of haw (by decide) (State.writes_of State.put_writes (by decide) (State.writes_mono hmw (by decide)))
  have hsets := ((State.setsFields_nil_of_regs (hmw .regs (by decide))).next Reg.NVS_NV_CTRL_INACT_VALID 0 rfl).of_regs
    (haw .regs (by decide))
  obtain ⟨hsw, hpw⟩ := a.startWrite_facts (.block tag.toNat)
  obtain ⟨b, hbt⟩ : ∃ b, b = a.startWrite (.block tag.toNat) := ⟨_, rfl⟩
  rw [← hbt] at hsw hpw
  have hmram (d j : Nat) : (b.put Reg.NVS_IMG_STATUS_BUSY 1).mramAt d j =
      (s.blockWritten (s.get Reg.NVS_IMG_ADDR)).mramAt d j := by
    rw [← hat]
    exact State.mramAt_of_mram ((State.put_writes .mram (by decide)).trans (hsw .mram (by decide))) d j
  refine ⟨b.put Reg.NVS_IMG_STATUS_BUSY 1, ?_, State.writes_of State.put_writes (by decide) (State.writes_of hsw (by decide) hsaw),
    (hsets.of_regs (hsw .regs (by decide))).next Reg.NVS_IMG_STATUS_BUSY 1 rfl, ?_, fun i hi => (hmram _ _).trans (h1 i hi),
    fun i j hi hj => (hmram _ _).trans (h2 i j hi hj), fun i hi ho => (hmram _ _).trans (h3 i hi ho)⟩
  · have hexec : exec (.imgWriteBlock tag) s = .next (s.imgCmd tag.toNat
        (decide (s.get Reg.NVS_IMG_ADDR % 4096 = 0 ∧ s.get Reg.NVS_IMG_ADDR + 4096 ≤ bankBytes))
        fun v => (v.blockWritten (s.get Reg.NVS_IMG_ADDR)).startWrite (.block tag.toNat)) := rfl
    rw [hexec, decide_eq_true ⟨ha, hlen⟩, State.imgCmd_accepted hb hw hn, hbt, hat]
  · rw [State.put_pw, hpw]
    have hapw : a.pw = s.pw := (haw .pw (by decide)).trans ((State.put_pw _ _ _).trans (hmw .pw (by decide)))
    rw [hapw]

theorem imgCommit_answers (hb : s.get Reg.NVS_IMG_STATUS_BUSY = 0) (hw : s.get Reg.NVS_NV_CTRL_WE = 1)
    (hn : s.get Reg.NVS_SUPPLY_NV_BLOCK = 0) (hlen : s.get Reg.NVS_IMG_ADDR ≤ bankBytes) :
    Answers (.imgCommit tag) s fun u => s.writes u [.regs, .pw] ∧ s.setsFields u [(Reg.NVS_IMG_STATUS_BUSY, 1)] ∧
      u.pw = { s.pw with writing := s.pw.writing ++ [.commit tag.toNat (s.get Reg.NVS_IMG_ADDR)] } := by
  obtain ⟨hsw, hpw⟩ := s.startWrite_facts (.commit tag.toNat (s.get Reg.NVS_IMG_ADDR))
  refine ⟨(s.startWrite (.commit tag.toNat (s.get Reg.NVS_IMG_ADDR))).put Reg.NVS_IMG_STATUS_BUSY 1, ?_,
    State.writes_of State.put_writes (by decide) (State.writes_mono hsw (by decide)),
    (State.setsFields_nil_of_regs (hsw .regs (by decide))).next Reg.NVS_IMG_STATUS_BUSY 1 rfl, (State.put_pw _ _ _).trans hpw⟩
  have hexec : exec (.imgCommit tag) s = .next (s.imgCmd tag.toNat (decide (s.get Reg.NVS_IMG_ADDR ≤ bankBytes))
      fun v => v.startWrite (.commit tag.toNat (s.get Reg.NVS_IMG_ADDR))) := rfl
  rw [hexec, decide_eq_true hlen, State.imgCmd_accepted hb hw hn]

end

/-! ## Image commands completed -/

/-- An image command reported as over. -/
def State.imageDone (u : State) (n : Nat) (e : Sts) : Prop := u.get Reg.NVS_IMG_STATUS_TAG = n % 256 ∧
  u.get Reg.NVS_IMG_STATUS_STS = e.code ∧ u.get Reg.NVS_IMG_STATUS_BUSY = 0

section
variable (s : State)

theorem State.imgDone_facts (n : Nat) (e : Sts) : s.writes (s.imgDone n e) [.regs] ∧ (s.imgDone n e).imageDone n e ∧
    ∀ f : Fld, f.addr ≠ 0x07030C → (s.imgDone n e).get f = s.get f := by
  have hsets := ((s.setsFields_refl.nextMod Reg.NVS_IMG_STATUS_TAG 8 n rfl rfl).nextLt Reg.NVS_IMG_STATUS_STS e.code
    (Sts.code_lt e) rfl).next Reg.NVS_IMG_STATUS_BUSY 0 rfl
  exact ⟨State.writes_of State.put_writes (by decide) (State.writes_of State.put_writes (by decide) State.put_writes),
    ⟨hsets.get (by simp), hsets.get (by simp), hsets.get (by simp)⟩, fun f hf =>
      hsets.get_apart (by simpa using ⟨.inl hf, .inl hf, .inl hf⟩)⟩

/-- A COMMIT over: what the verification found, and a bank made valid by it. -/
theorem State.commitDone_facts (n len : Nat) : s.writes (s.commitDone n len) [.regs, .mram] ∧
    (s.commitDone n len).imageDone n (s.verifyBank s.inactive) ∧
    (s.verifyBank s.inactive = .ok → (s.commitDone n len).get Reg.NVS_NV_CTRL_INACT_VALID = 1) := by
  obtain ⟨e, he⟩ : ∃ e, e = s.verifyBank s.inactive := ⟨_, rfl⟩
  unfold State.commitDone
  dsimp only
  rw [← he]
  split
  · obtain ⟨v, hv⟩ : ∃ v, v = s.putMram s.inactive bankBytes (commitRecord (s.bankSeq (1 - s.inactive) + 1) len) := ⟨_, rfl⟩
    have hvw : s.writes v [.mram] := hv ▸ State.putMram_moves.1
    rw [← hv]
    obtain ⟨hw, hdone, hget⟩ := (v.put Reg.NVS_NV_CTRL_INACT_VALID 1).imgDone_facts n .ok
    exact ⟨State.writes_of hw (by decide) (State.writes_of State.put_writes (by decide) (State.writes_mono hvw (by decide))),
      hdone, fun _ => (hget _ (by decide)).trans ((v.setsFields_refl.next Reg.NVS_NV_CTRL_INACT_VALID 1 rfl).get (by simp))⟩
  next hne =>
    obtain ⟨hw, hdone, -⟩ := s.imgDone_facts n e
    exact ⟨State.writes_mono hw (by decide), hdone, fun h => absurd h hne⟩

theorem State.verifyBank_of_pw (x : Power) (b : Nat) : { s with pw := x }.verifyBank b = s.verifyBank b := rfl

variable {s}

/-- The end of the one write in progress of the image. -/
theorem State.endWrite_image {w : NvWrite} (hw : s.pw.writing = [w]) (hq : s.pw.wanted = none) :
    (∀ n, w = .block n → (s.endWrite w).pw = { s.pw with writing := [] } ∧ (s.endWrite w).imageDone n .ok) ∧
    (∀ n len, w = .commit n len → (s.endWrite w).pw = { s.pw with writing := [] } ∧
      (s.endWrite w).imageDone n (s.verifyBank s.inactive) ∧
      (s.verifyBank s.inactive = .ok → (s.endWrite w).get Reg.NVS_NV_CTRL_INACT_VALID = 1)) := by
  obtain ⟨v, hv⟩ : ∃ v, v = { s with pw := { s.pw with writing := s.pw.writing.erase w } } := ⟨_, rfl⟩
  have hpw : v.pw = { s.pw with writing := [] } := by rw [hv, hw]; simp
  have hver : v.verifyBank v.inactive = s.verifyBank s.inactive := by
    rw [hv]
    exact s.verifyBank_of_pw _ _
  have hstay {t : State} {W : List Piece} (ht : v.writes t W) (hW : Piece.pw ∉ W) : (match t.pw.wanted with
      | some q => if t.pw.writing.isEmpty && t.pw.fieldOn then { t with pw := { t.pw with wanted := none } }.actOn q else t
      | none => t) = t := by
    have h : t.pw.wanted = none := by rw [(ht .pw hW : t.pw = v.pw), hpw, hq]
    rw [h]
  refine ⟨fun n e => ?_, fun n len e => ?_⟩
  · obtain ⟨hdw, hdone, -⟩ := v.imgDone_facts n .ok
    have heq : s.endWrite w = v.imgDone n .ok := by
      rw [← hstay hdw (by decide), hv, e]
      rfl
    rw [heq]
    exact ⟨(hdw .pw (by decide)).trans hpw, hdone⟩
  · obtain ⟨hdw, hdone, hvalid⟩ := v.commitDone_facts n len
    have heq : s.endWrite w = v.commitDone n len := by
      rw [← hstay hdw (by decide), hv, e]
      rfl
    rw [hver] at hdone hvalid
    rw [heq]
    exact ⟨(hdw .pw (by decide)).trans hpw, hdone, hvalid⟩

theorem imageCommand_completes {w : NvWrite} (hw : s.pw.writing = [w]) (hq : s.pw.wanted = none) {i : Instr}
    (hi : i = .mramWriteComplete ∨ i = .imgCommandComplete) : Answers i s fun u =>
      (∀ n, w = .block n → u.pw = { s.pw with writing := [] } ∧ u.imageDone n .ok) ∧
      (∀ n len, w = .commit n len → u.pw = { s.pw with writing := [] } ∧ u.imageDone n (s.verifyBank s.inactive) ∧
        (s.verifyBank s.inactive = .ok → u.get Reg.NVS_NV_CTRL_INACT_VALID = 1)) := by
  rcases hi with rfl | rfl
  · refine ⟨s.endWrite w, congrArg Host.Outcome.next ?_, State.endWrite_image hw hq⟩
    rw [hw]
  · cases w with
    | cal n b => exact ⟨_, rfl, fun _ e => (by cases e), fun _ _ e => (by cases e)⟩
    | block n =>
      refine ⟨s.endWrite (.block n), congrArg Host.Outcome.next ?_, State.endWrite_image hw hq⟩
      rw [hw]
      rfl
    | commit n len =>
      refine ⟨s.endWrite (.commit n len), congrArg Host.Outcome.next ?_, State.endWrite_image hw hq⟩
      rw [hw]
      rfl

end

/-! ## Stages of the boot (R344) -/

section
variable {s : State} {temps : BitVec 32} {fails : List (Fin 64)}

/-- The Crossing carries messages, where no Dormant request waits. -/
theorem State.crossUp_facts (h : s.get Reg.XNG_PWR_DORMANT = 0) : s.crossUp = { s with xng := { s.xng with up := true } } := by
  have hc : (!s.xng.up && decide (s.get Reg.XNG_PWR_DORMANT = 1) && !s.xng.dormant) = false := by simp [h]
  unfold State.crossUp
  rw [hc]
  rfl

section
variable (hl : s.fieldLive = true) (hs : s.stopped = false)
include hl hs

theorem boot_goes_on : ¬ ((!s.fieldLive) = true ∨ s.stopped = true) := by simp [hl, hs]

theorem bootStage1_answers (h1 : s.get Reg.NVS_BOOT_STAGE = 1) (hd : s.get Reg.XNG_PWR_DORMANT = 0) :
    Answers (.bootStageComplete temps fails) s fun u => s.writes u [.regs, .xng] ∧ u.xng = { s.xng with up := true } ∧
      s.setsFields u [(Reg.CLK_STATUS_SVC_LOCK, 1), (Reg.NVS_BOOT_STAGE, 2)] := by
  obtain ⟨v, hv⟩ : ∃ v, v = (s.put Reg.CLK_STATUS_SVC_LOCK 1).put Reg.NVS_BOOT_STAGE 2 := ⟨_, rfl⟩
  have hsets : s.setsFields v _ := hv ▸ (s.setsFields_refl.next Reg.CLK_STATUS_SVC_LOCK 1 rfl).next Reg.NVS_BOOT_STAGE 2 rfl
  have hw : s.writes v [.regs] := hv ▸ State.writes_of State.put_writes (by decide) State.put_writes
  have hx : v.xng = s.xng := hw .xng (by decide)
  refine ⟨{ v with xng := { v.xng with up := true } }, ?_, State.writes_of (v.with_xng_writes _) (by decide)
    (State.writes_mono hw (by decide)), by rw [hx], hsets.of_regs rfl⟩
  refine congrArg Host.Outcome.next ((if_neg (boot_goes_on hl hs)).trans ?_)
  rw [h1, ← State.crossUp_facts ((hsets.get_apart (by decide)).trans hd), hv]
  rfl

theorem bootStage2_answers (h2 : s.get Reg.NVS_BOOT_STAGE = 2) (hd : s.get Reg.XNG_PWR_DORMANT = 0) :
    Answers (.bootStageComplete temps fails) s fun u => s.writes u [.regs, .xng] ∧
      s.setsFields u [(Reg.CLK_STATUS_SVC_LOCK, 1), (Reg.NVS_BOOT_STAGE, 3), (Reg.NVS_BOOT_BANK, s.bankOrder.headD 0 % 2)] := by
  obtain ⟨v, hv⟩ : ∃ v, v = ((s.put Reg.CLK_STATUS_SVC_LOCK 1).put Reg.NVS_BOOT_BANK (s.bankOrder.headD 0)).put
    Reg.NVS_BOOT_STAGE 3 := ⟨_, rfl⟩
  have hsets : s.setsFields v _ := hv ▸ ((s.setsFields_refl.next Reg.CLK_STATUS_SVC_LOCK 1 rfl).nextMod Reg.NVS_BOOT_BANK 1
    (s.bankOrder.headD 0) rfl rfl).next Reg.NVS_BOOT_STAGE 3 rfl
  have hw : s.writes v [.regs] :=
    hv ▸ State.writes_of State.put_writes (by decide) (State.writes_of State.put_writes (by decide) State.put_writes)
  refine ⟨{ v with xng := { v.xng with up := true } }, ?_, State.writes_of (v.with_xng_writes _) (by decide)
    (State.writes_mono hw (by decide)), (hsets.of_regs rfl).congr (by simp) (by simp)⟩
  refine congrArg Host.Outcome.next ((if_neg (boot_goes_on hl hs)).trans ?_)
  rw [h2, ← State.crossUp_facts ((hsets.get_apart (of_decide_eq_true rfl)).trans hd), hv]
  rfl

theorem bootStage5_answers (h5 : s.get Reg.NVS_BOOT_STAGE = 5) (hok : s.get Reg.CLK_STATUS_REF_OK = 1)
    (hact : s.get Reg.CLK_STATUS_REF_ACT = s.active Reg.CLK_CTRL_REF_SEL) : Answers (.bootStageComplete temps fails) s fun u =>
      s.setsOnly u [(Reg.NVS_BOOT_STAGE, 6), (Reg.MEM_STATUS_TRAINING, 1)] := by
  have hready : s.clockReady = s := if_pos ⟨hok, hact⟩
  refine ⟨(s.bootAt 6).put Reg.MEM_STATUS_TRAINING 1, ?_, State.writes_of State.put_writes (by decide) State.put_writes,
    (s.setsFields_refl.next Reg.NVS_BOOT_STAGE 6 rfl).next Reg.MEM_STATUS_TRAINING 1 rfl⟩
  refine congrArg Host.Outcome.next ((if_neg (boot_goes_on hl hs)).trans ?_)
  rw [h5]
  exact congrArg (fun t : State => (t.bootAt 6).put Reg.MEM_STATUS_TRAINING 1) hready

theorem bootStage7_answers (h7 : s.get Reg.NVS_BOOT_STAGE = 7) (hc : s.cal.run = none) :
    Answers (.bootStageComplete temps fails) s fun u => s.setsOnly u [(Reg.NVS_BOOT_STAGE, 8)] := by
  refine ⟨s.bootAt 8, ?_, State.put_writes, s.setsFields_refl.next Reg.NVS_BOOT_STAGE 8 rfl⟩
  refine congrArg Host.Outcome.next ((if_neg (boot_goes_on hl hs)).trans ?_)
  rw [h7]
  exact if_neg (by simp [hc])

end

end

/-- Settles O57: the zeros of the commit record and the window's bytes lie apart, and the boot's stages that only pass on write
their stage and what they leave. -/
theorem theImageIsWrittenAndBooted : Obligations.TheImageIsWrittenAndBooted := by
  unfold Obligations.TheImageIsWrittenAndBooted
  exact ⟨fun s tag => ⟨nvWriteEnable_answers, fun hb hw hn => ⟨imgWriteBlock_answers hb hw hn, imgCommit_answers hb hw hn⟩,
      fun _ hw hq _ => imageCommand_completes hw hq⟩,
    fun s temps fails hl hs => ⟨bootStage1_answers hl hs, bootStage2_answers hl hs, bootStage5_answers hl hs,
      bootStage7_answers hl hs⟩⟩

end Sys2Proof.Machine
end

/-! # Calibration procedures and the calibration store (R359 to R369, R391) -/

section
namespace Sys2Proof.Machine

/-! ## A target taken (R362) -/

section
variable (s : State)

theorem State.setRec_calHeld (b c : Nat) (r : Option Recd) : ((s.setRec b r).capture c).calHeld = (s.capture c).calHeld := by
  unfold State.setRec
  split
  · by_cases h : c = b
    · subst h
      rw [State.capture_setCapture]
    · rw [State.capture_setCapture_other _ _ h]
  · rfl

theorem State.recEnd_calHeld (b c : Nat) (e : Sts) : ((s.recEnd b e).capture c).calHeld = (s.capture c).calHeld := by
  unfold State.recEnd
  split
  · rfl
  · split
    · rfl
    · extract_lets words len s1 count s2 s3 s4 x s5
      have h1 : s1.capture c = s.capture c := by
        unfold s1
        split
        · rfl
        · exact State.capture_of_writes State.storeWord_moves.1 (by decide) c
      have h3 : s3.capture c = s1.capture c :=
        (State.capture_of_writes State.put64_moves.1 (by decide) c).trans
          (State.capture_of_writes State.put64_moves.1 (by decide) c)
      have h4 : s4.capture c = s3.capture c := by
        unfold s4
        split
        · rfl
        · exact (State.capture_of_writes State.put_writes (by decide) c).trans
            (State.capture_of_writes State.put64_moves.1 (by decide) c)
      have h5 : s5.capture c = s4.capture c := State.capture_of_writes State.setStore_moves.1 (by decide) c
      rw [State.capture_of_writes State.recStatus_moves.1 (by decide), State.setRec_calHeld, h5, h4, h3, h1]

/-- The end of a recording by a hold leaves the holds. -/
theorem State.recHold_calHeld (b c : Nat) : ((s.recHold b).capture c).calHeld = (s.capture c).calHeld := by
  unfold State.recHold
  split
  · split
    · rw [State.capture_of_writes State.recStatus_moves.1 (by decide), State.setRec_calHeld]
    · exact s.recEnd_calHeld _ _ _
  · rfl

/-- The outputs of some tiles held safe for a procedure. -/
theorem State.latchCal (l : List Nat) {k : Nat} (hk : k ∈ l ∨ (s.latches k).cal = true) :
    ((forEach (fun s t => s.latchOn t (fun l => { l with cal := true })) l s).latches k).cal = true := by
  induction l generalizing s with
  | nil => exact hk.resolve_left (by simp)
  | cons t l ih =>
    rw [forEach]
    refine ih _ ?_
    by_cases h : k = t
    · refine .inr ?_
      rw [State.latchOn_latches, if_pos h]
    · rw [State.latchOn_latches, if_neg h]
      exact hk.imp_left fun hm => (List.mem_cons.mp hm).resolve_left h

theorem State.calTake_facts (r : CalRun) : (∀ k ∈ r.safes, ((s.calTake r).latches k).cal = true) ∧
    (r.op = 3 → ((s.calTake r).capture r.cur).calHeld = true) := by
  obtain ⟨v, hv⟩ : ∃ v, v = forEach (fun s t => s.latchOn t (fun l => { l with cal := true })) r.safes s := ⟨_, rfl⟩
  have hlatch (k : Nat) (hk : k ∈ r.safes) : (v.latches k).cal = true := hv ▸ s.latchCal r.safes (.inl hk)
  unfold State.calTake
  dsimp only
  rw [← hv]
  split
  · refine ⟨fun k hk => ?_, fun _ => ?_⟩
    · rw [State.latches_of_writes State.holdCap_moves.1 (by decide), State.latches_of_writes State.setCapture_moves.1 (by decide)]
      exact hlatch k hk
    · rw [State.holdCap, State.recHold_calHeld, State.capture_setCapture]
  next h => exact ⟨hlatch, fun e => absurd e h⟩

theorem State.calStart_facts (r : CalRun) : (s.calStart r).cal = { s.cal with run := some r } ∧
    (∀ k ∈ r.safes, ((s.calStart r).latches k).cal = true) ∧
    (r.op = 3 → ((s.calStart r).capture r.cur).calHeld = true) := by
  obtain ⟨v, hv⟩ : ∃ v, v = { s with cal := { s.cal with run := some r } } := ⟨_, rfl⟩
  have hcal : v.cal = { s.cal with run := some r } := by rw [hv]
  rw [State.calStart, ← hv, ← hcal]
  exact ⟨State.calTake_moves.1 .cal (by decide), v.calTake_facts r⟩

end

/-! ## Procedures accepted (R360) -/

section
variable {s : State} {tag target : BitVec 8} {op : Nat}

theorem State.calCmd_accepted (hb : s.get Reg.CAL_CMD_STATUS_BUSY = 0) (hr : s.cal.run = none) (haway : s.calAway = false)
    {tgt : Nat} (ht : calTarget op tgt = true) (hn : ∀ c ∈ calTargets op tgt, s.calBlocked op c = false) (t : Nat)
    (f : State → State) : s.calCmd op t tgt f = (f s).put Reg.CAL_CMD_STATUS_BUSY 1 := by
  have hany : (calTargets op tgt).any (fun c => s.calBlocked op c) = false := by
    rw [List.any_eq_false]
    exact fun c hc => by rw [hn c hc]; decide
  rw [State.calCmd, if_neg (by simp [hb, hr]), if_neg (by simp [ht]), haway, hany]
  rfl

/-- What a procedure begun leaves. -/
def State.calBegun (s u : State) (op : Nat) (tag target : BitVec 8) : Prop :=
  let r := CalRun.start op tag.toNat target.toNat false false
  u.cal = { s.cal with run := some r } ∧ u.get Reg.CAL_CMD_STATUS_BUSY = 1 ∧
  (∀ k ∈ r.safes, (u.latches k).cal = true) ∧ (op = 3 → (u.capture r.cur).calHeld = true)

theorem State.calStart_begun (s : State) (op : Nat) (tag target : BitVec 8) : s.calBegun
    ((s.calStart (CalRun.start op tag.toNat target.toNat false false)).put Reg.CAL_CMD_STATUS_BUSY 1) op tag target := by
  obtain ⟨hcal, hsafe, hheld⟩ := s.calStart_facts (CalRun.start op tag.toNat target.toNat false false)
  obtain ⟨v, hv⟩ : ∃ v, v = s.calStart (CalRun.start op tag.toNat target.toNat false false) := ⟨_, rfl⟩
  rw [← hv] at hcal hsafe hheld ⊢
  exact ⟨(State.put_cal _ _ _).trans hcal, (v.setsFields_refl.next Reg.CAL_CMD_STATUS_BUSY 1 rfl).get (by simp),
    fun k hk => (congrArg Latches.cal (State.latches_of_writes State.put_writes (by decide) k)).trans (hsafe k hk),
    fun h => (congrArg CapSt.calHeld (State.capture_of_writes State.put_writes (by decide) _)).trans (hheld h)⟩

theorem calProcedure_begins (hb : s.get Reg.CAL_CMD_STATUS_BUSY = 0) (hr : s.cal.run = none) (haway : s.calAway = false)
    {i : Instr} (hi : (op, i) ∈ [(1, Instr.dacLinearity tag target), (2, .dacMarkerTiming tag target),
      (3, .adcCalibration tag target), (4, .pinLevels tag target), (5, .pinDeskew tag target false),
      (6, .terxaSkew tag target)]) (ht : calTarget op target.toNat = true)
    (hn : ∀ c ∈ calTargets op target.toNat, s.calBlocked op c = false) : Answers i s fun u => s.calBegun u op tag target := by
  have hexec : exec i s = .next (s.calCmd op tag.toNat target.toNat fun s =>
      s.calStart (CalRun.start op tag.toNat target.toNat false false)) := by
    simp only [List.mem_cons, Prod.mk.injEq, List.not_mem_nil, or_false] at hi
    rcases hi with ⟨rfl, rfl⟩ | ⟨rfl, rfl⟩ | ⟨rfl, rfl⟩ | ⟨rfl, rfl⟩ | ⟨rfl, rfl⟩ | ⟨rfl, rfl⟩ <;> rfl
  refine ⟨_, hexec, ?_⟩
  rw [State.calCmd_accepted hb hr haway ht hn]
  exact s.calStart_begun op tag target

/-! ## A retrain (R363) -/

/-- The context that runs on tile t, with its tile. -/
def State.runningOn (s : State) (t : Nat) : List (Nat × Nat) :=
  match (s.tile t).running with
  | some c => [(t, c)]
  | none => []

/-- The contexts that run on some tiles are each asked to pause once. -/
theorem State.pauseRunning_tile (s v : State) {ts : List Nat} (hts : ts.Nodup) {t c : Nat} (hc : (s.tile t).running = some c) :
    (v.pauseRunning (ts.flatMap s.runningOn)).tile t =
      if t ∈ ts then { v.tile t with pauses := (v.tile t).pauses ++ [⟨c, v.now + Config.L, true⟩] } else v.tile t := by
  induction ts generalizing v with
  | nil => rfl
  | cons k ts ih =>
    obtain ⟨hk, hnodup⟩ := List.nodup_cons.mp hts
    rw [List.flatMap_cons]
    have hstep : (v.pauseRunning (s.runningOn k ++ ts.flatMap s.runningOn)).tile t =
        ((match (s.tile k).running with
          | some d => v.pauseReq k ⟨d, v.now + Config.L, true⟩
          | none => v).pauseRunning (ts.flatMap s.runningOn)).tile t := by
      unfold State.runningOn
      cases (s.tile k).running <;> rfl
    rw [hstep]
    by_cases htk : t = k
    · subst htk
      rw [hc]
      dsimp only
      rw [ih _ hnodup, if_neg hk, if_pos List.mem_cons_self, State.pauseReq, State.tile_setTile]
    · have hother : (match (s.tile k).running with
          | some d => v.pauseReq k ⟨d, v.now + Config.L, true⟩
          | none => v).tile t = v.tile t := by
        cases (s.tile k).running with
        | none => rfl
        | some d => exact State.tile_setTile_other _ _ htk
      have hnow : (match (s.tile k).running with
          | some d => v.pauseReq k ⟨d, v.now + Config.L, true⟩
          | none => v).now = v.now := by
        cases (s.tile k).running <;> rfl
      rw [ih _ hnodup, hother, hnow]
      by_cases hmem : t ∈ ts <;> simp [hmem, htk]

theorem State.runningCtxs_eq (s : State) : s.runningCtxs = (upto 16).flatMap s.runningOn := rfl

theorem hbmRetrain_begins (hb : s.get Reg.CAL_CMD_STATUS_BUSY = 0) (hr : s.cal.run = none) (haway : s.calAway = false)
    (ht : calTarget 7 target.toNat = true) (hn : ∀ c ∈ calTargets 7 target.toNat, s.calBlocked 7 c = false) :
    Answers (.hbmRetrain tag target) s fun u => s.writes u [.regs, .tiles, .mc, .cal] ∧
      s.setsFields u [(Reg.MEM_STATUS_TRAINING, 1), (Reg.CAL_CMD_STATUS_BUSY, 1)] ∧
      u.mc = { s.mc with retrain := some ⟨calTargets 7 target.toNat, false, false⟩ } ∧
      (∀ t c, t < 16 → (s.tile t).running = some c →
        u.tile t = { s.tile t with pauses := (s.tile t).pauses ++ [⟨c, s.now + Config.L, true⟩] }) := by
  obtain ⟨r, hrr⟩ : ∃ r : CalRun, r = { CalRun.start 7 tag.toNat target.toNat false false with paused := s.runningCtxs } :=
    ⟨_, rfl⟩
  obtain ⟨a, ha⟩ : ∃ a, a = s.pauseRunning s.runningCtxs := ⟨_, rfl⟩
  obtain ⟨b, hbb⟩ : ∃ b, b = { a with mc := { a.mc with retrain := some ⟨calTargets 7 target.toNat, false, false⟩ } } :=
    ⟨_, rfl⟩
  obtain ⟨d, hd⟩ : ∃ d, d = b.put Reg.MEM_STATUS_TRAINING 1 := ⟨_, rfl⟩
  obtain ⟨e, he⟩ : ∃ e, e = { d with cal := { d.cal with run := some r } } := ⟨_, rfl⟩
  have haw : s.writes a [.tiles] := ha ▸ State.pauseRunning_moves.1
  have hbw : a.writes b [.mc] := hbb ▸ a.with_mc_writes _
  have hdw : b.writes d [.regs] := hd ▸ State.put_writes
  have hew : d.writes e [.cal] := he ▸ d.with_cal_writes _
  have hsw : s.writes e [.regs, .tiles, .mc, .cal] := State.writes_of hew (by decide) (State.writes_of hdw (by decide)
    (State.writes_of hbw (by decide) (State.writes_mono haw (by decide))))
  have hstart : d.calStart r = e := by
    rw [State.calStart, he, hrr]
    rfl
  have hbr : b.regs = s.regs := (hbw .regs (by decide)).trans (haw .regs (by decide))
  have hsets := ((hd ▸ (State.setsFields_nil_of_regs hbr).next Reg.MEM_STATUS_TRAINING 1 rfl : s.setsFields d _).of_regs
    (hew .regs (by decide))).next Reg.CAL_CMD_STATUS_BUSY 1 rfl
  have hbm : b.mc = { s.mc with retrain := some ⟨calTargets 7 target.toNat, false, false⟩ } := by
    have ham : a.mc = s.mc := haw .mc (by decide)
    rw [hbb, ham]
  have hue : e.writes (e.put Reg.CAL_CMD_STATUS_BUSY 1) [.regs] := State.put_writes
  refine ⟨e.put Reg.CAL_CMD_STATUS_BUSY 1, ?_, State.writes_of hue (by decide) hsw, hsets, ?_, fun t c htt hc => ?_⟩
  · have hexec : exec (.hbmRetrain tag target) s = .next (s.calCmd 7 tag.toNat target.toNat fun s =>
        ((s.pauseRunning s.runningCtxs).startRetrain (calTargets 7 target.toNat) false).calStart
          { CalRun.start 7 tag.toNat target.toNat false false with paused := s.runningCtxs }) := rfl
    rw [hexec, State.calCmd_accepted hb hr haway ht hn, ← hrr, ← ha, ← hstart, hd, hbb]
    rfl
  · exact (hue .mc (by decide)).trans ((hew .mc (by decide)).trans ((hdw .mc (by decide)).trans hbm))
  · have hmem : t ∈ upto 16 := List.mem_range.mpr htt
    rw [State.tile_of_writes hue (by decide), State.tile_of_writes hew (by decide), State.tile_of_writes hdw (by decide),
      State.tile_of_writes hbw (by decide), ha, State.runningCtxs_eq, State.pauseRunning_tile s s (ts := upto 16) List.nodup_range hc,
      if_pos hmem]

end

/-! ## Procedures over (R361) -/

/-- A calibration command reported as over. -/
def State.calEnds (u : State) (n : Nat) (e : Sts) : Prop := u.get Reg.CAL_CMD_STATUS_TAG = n ∧
  u.get Reg.CAL_CMD_STATUS_STS = e.code ∧ u.get Reg.CAL_CMD_STATUS_BUSY = 0

section
variable (s : State)

theorem State.calReport_facts {n : Nat} (hn : n < 256) (e : Sts) : s.writes (s.calReport n e) [.regs] ∧
    (s.calReport n e).calEnds n e ∧ ∀ f : Fld, f.addr ≠ 0x070004 → (s.calReport n e).get f = s.get f := by
  have hsets := ((s.setsFields_refl.nextLt Reg.CAL_CMD_STATUS_TAG n hn rfl).nextLt Reg.CAL_CMD_STATUS_STS e.code
    (Sts.code_lt e) rfl).next Reg.CAL_CMD_STATUS_BUSY 0 rfl
  exact ⟨State.writes_of State.put_writes (by decide) (State.writes_of State.put_writes (by decide) State.put_writes),
    ⟨hsets.get (by simp), hsets.get (by simp), hsets.get (by simp)⟩, fun f hf =>
      hsets.get_apart (by simpa using ⟨.inl hf, .inl hf, .inl hf⟩)⟩

/-- A command's procedure over. -/
theorem State.calOver_facts {r : CalRun} (hb : r.boot = false) (hn : r.tag < 256) (e : Sts) :
    (s.calOver r e).cal.run = none ∧ (s.calOver r e).calEnds r.tag e ∧
    ∀ f : Fld, f.addr ≠ 0x070004 → (s.calOver r e).get f = s.get f := by
  obtain ⟨v, hv⟩ : ∃ v, v = { s with cal := { s.cal with run := none } } := ⟨_, rfl⟩
  have hcal : v.cal = { s.cal with run := none } := by rw [hv]
  have hregs : v.regs = s.regs := by rw [hv]
  have hdrop : v.writes (v.calDrop r) [.wav, .grp, .cap, .latch] := State.calDrop_moves.1
  obtain ⟨hw, hends, hget⟩ := (v.calDrop r).calReport_facts hn e
  have heq : s.calOver r e = (v.calDrop r).calReport r.tag e := by
    rw [hv]
    exact if_neg (by simp [hb])
  have hrun : ((v.calDrop r).calReport r.tag e).cal = v.cal := (hw .cal (by decide)).trans (hdrop .cal (by decide))
  rw [heq, hrun, hcal]
  exact ⟨rfl, hends, fun f hf => (hget f hf).trans ((State.get_of_writes hdrop (by decide) f).trans (State.get_congr hregs f))⟩

variable {s} {r : CalRun}

/-- The procedure in progress is one of a command, at its only target. -/
structure CalRun.single (r : CalRun) : Prop where
  least : 1 ≤ r.op
  most : r.op ≤ 6
  boot : r.boot = false
  target : r.target ≠ 15
  tag : r.tag < 256

theorem exec_calProcedureComplete (hr : s.cal.run = some r) (h : r.single) (hv : s.calHvDown r = false) (ok : Bool)
    (a b : BitVec 16) (lat : BitVec 32) : exec (.calProcedureComplete ok a b lat) s =
      .next (if ok then s.calPass r a.toNat (figureB r.op b.toNat) lat else s.calFail r) := by
  have hne : r.op ≠ 7 := by have := h.most; omega
  refine congrArg Host.Outcome.next ?_
  rw [hr]
  dsimp only
  rw [if_neg hne, hv]
  cases ok <;> rfl

theorem calFailed_answers (hr : s.cal.run = some r) (h : r.single) (hv : s.calHvDown r = false) (a b : BitVec 16)
    (lat : BitVec 32) : Answers (.calProcedureComplete false a b lat) s fun u =>
      u.cal.run = none ∧ u.calEnds r.tag .precond ∧ u.get Reg.CAL_QUAL_A = 0xFFFF ∧ u.get Reg.CAL_QUAL_B = 0xFFFF := by
  have hsets := (s.setsFields_refl.next Reg.CAL_QUAL_A 0xFFFF rfl).next Reg.CAL_QUAL_B 0xFFFF rfl
  obtain ⟨hrun, hends, hget⟩ := ((s.put Reg.CAL_QUAL_A 0xFFFF).put Reg.CAL_QUAL_B 0xFFFF).calOver_facts h.boot h.tag .precond
  refine ⟨_, exec_calProcedureComplete hr h hv false a b lat, ?_⟩
  have heq : s.calFail r = ((s.put Reg.CAL_QUAL_A 0xFFFF).put Reg.CAL_QUAL_B 0xFFFF).calOver r .precond :=
    if_neg (by simp [h.boot])
  rw [if_neg (by decide), heq]
  exact ⟨hrun, hends, (hget _ (by decide)).trans (hsets.get (by simp)), (hget _ (by decide)).trans (hsets.get (by simp))⟩

/-- s with figures a and b in the CAL_Q word of a procedure's target. -/
def State.quality (s : State) (r : CalRun) (a b : Nat) : State :=
  match calEntry r.op r.cur with
  | some n => (s.put (Reg.CAL_Q_A n) a).put (Reg.CAL_Q_B n) b
  | none => s

theorem State.quality_get (s : State) (r : CalRun) {a b : Nat} (ha : a < 65536) (hb : b < 65536) {n : Nat}
    (hn : calEntry r.op r.cur = some n) :
    (s.quality r a b).get (Reg.CAL_Q_A n) = a ∧ (s.quality r a b).get (Reg.CAL_Q_B n) = b := by
  have hsets := (s.setsFields_refl.nextLt (Reg.CAL_Q_A n) a ha rfl).put (Reg.CAL_Q_B n) b (by simp [Reg.CAL_Q_B]) hb
    (by simp [Fld.apart, Reg.CAL_Q_A, Reg.CAL_Q_B])
  rw [State.quality, hn]
  exact ⟨hsets.get (by simp), hsets.get (by simp)⟩

/-- r with the figures of one more target. -/
def CalRun.worse (r : CalRun) (a b : Nat) : CalRun := { r with a := worseA r.op r.a a, b := Nat.max r.b b }

theorem State.calPass_single (s : State) (h : r.single) (a b : Nat) (lat : BitVec 32) : ∃ v : State,
    v.regs = ((s.calApply r a lat).quality r a b).regs ∧ s.calPass r a b lat =
      ((v.put Reg.CAL_QUAL_A (worseA r.op r.a a)).put Reg.CAL_QUAL_B (Nat.max r.b b)).calOver (r.worse a b) .ok := by
  refine ⟨{ (s.calApply r a lat).quality r a b with cal := { ((s.calApply r a lat).quality r a b).cal with
    run := some (r.worse a b) } }, rfl, ?_⟩
  have hnext : (r.worse a b).cmdNext = none := if_neg fun e => h.target e.1
  have hpass : s.calPass r a b lat = if r.boot then _ else (({ (s.calApply r a lat).quality r a b with
      cal := { ((s.calApply r a lat).quality r a b).cal with run := some (r.worse a b) } }.put Reg.CAL_QUAL_A
        (worseA r.op r.a a)).put Reg.CAL_QUAL_B (Nat.max r.b b)).calAdvance (r.worse a b) (r.worse a b).cmdNext := rfl
  rw [hpass, if_neg (by simp [h.boot]), hnext]
  rfl

theorem worseA_lt {op a b : Nat} (ha : a < 65536) (hb : b < 65536) : worseA op a b < 65536 := by
  unfold worseA
  split
  · exact Nat.lt_of_le_of_lt (Nat.min_le_left _ _) ha
  · exact Nat.max_lt.mpr ⟨ha, hb⟩

theorem figureB_lt (op : Nat) (b : BitVec 16) : figureB op b.toNat < 65536 := by
  unfold figureB
  split
  · exact b.isLt
  · decide

theorem calPassed_answers (hr : s.cal.run = some r) (h : r.single) (ha : r.a < 65536) (hb : r.b < 65536)
    (hv : s.calHvDown r = false) (a b : BitVec 16) (lat : BitVec 32) : Answers (.calProcedureComplete true a b lat) s fun u =>
      u.cal.run = none ∧ u.calEnds r.tag .ok ∧ u.get Reg.CAL_QUAL_A = worseA r.op r.a a.toNat ∧
      u.get Reg.CAL_QUAL_B = max r.b (figureB r.op b.toNat) ∧
      (∀ n, calEntry r.op r.cur = some n → u.get (Reg.CAL_Q_A n) = a.toNat ∧
        u.get (Reg.CAL_Q_B n) = figureB r.op b.toNat) := by
  obtain ⟨v, hregs, heq⟩ := s.calPass_single h a.toNat (figureB r.op b.toNat) lat
  have hsets := (v.setsFields_refl.nextLt Reg.CAL_QUAL_A (worseA r.op r.a a.toNat) (worseA_lt ha a.isLt) rfl).nextLt Reg.CAL_QUAL_B
    (Nat.max r.b (figureB r.op b.toNat)) (Nat.max_lt.mpr ⟨hb, figureB_lt _ b⟩) rfl
  obtain ⟨t, ht⟩ : ∃ t, t = (v.put Reg.CAL_QUAL_A (worseA r.op r.a a.toNat)).put Reg.CAL_QUAL_B
    (Nat.max r.b (figureB r.op b.toNat)) := ⟨_, rfl⟩
  rw [← ht] at hsets heq
  obtain ⟨hrun, hends, hget⟩ := t.calOver_facts (r := r.worse a.toNat (figureB r.op b.toNat)) h.boot h.tag .ok
  refine ⟨_, exec_calProcedureComplete hr h hv true a b lat, ?_⟩
  rw [if_pos rfl, heq]
  refine ⟨hrun, hends, (hget _ (by decide)).trans (hsets.get (by simp)), (hget _ (by decide)).trans (hsets.get (by simp)),
    fun n hn => ?_⟩
  obtain ⟨hqa, hqb⟩ := (s.calApply r a.toNat lat).quality_get r a.isLt (figureB_lt _ b) hn
  have hkeep (f : Fld) (hf : f.addr = 0x070040 + n * 4) :
      (t.calOver (r.worse a.toNat (figureB r.op b.toNat)) .ok).get f =
        ((s.calApply r a.toNat lat).quality r a.toNat (figureB r.op b.toNat)).get f := by
    have h8 : f.addr ≠ 0x070008 := by omega
    rw [hget f (by omega), hsets.get_apart (by simpa using ⟨.inl h8, .inl h8⟩), State.get_congr hregs]
  exact ⟨(hkeep _ (by simp [Reg.CAL_Q_A])).trans hqa, (hkeep _ (by simp [Reg.CAL_Q_B])).trans hqb⟩

end

/-! ## The calibration store written (R368) -/

section
variable {s : State} {tag : BitVec 8}

theorem State.putStore_facts (s : State) : s.writes s.putStore [.regs] ∧
    ∀ f : Fld, f.addr ≠ 0x07000C → f.addr ≠ 0x070010 → f.addr ≠ 0x070014 → s.putStore.get f = s.get f := by
  refine ⟨State.putStore_moves.1, fun f h1 h2 h3 => ?_⟩
  rw [State.putStore, State.get_put_other _ _ h3, State.get_put_other _ _ h2, State.get_put_other _ _ h1,
    State.get_put_other _ _ h1]

theorem calCommit_answers (hu : s.get Reg.GLB_STATE_UNLOCKED = 1) (hb : s.get Reg.CAL_CMD_STATUS_BUSY = 0)
    (hr : s.cal.run = none) (haway : s.calAway = false) (hn : s.get Reg.NVS_SUPPLY_NV_BLOCK = 0) :
    Answers (.calCommit tag 0) s fun u => u.get Reg.GLB_STATE_UNLOCKED = 0 ∧ u.get Reg.CAL_CMD_STATUS_BUSY = 1 ∧
      u.pw = { s.pw with writing := s.pw.writing ++ [.cal tag.toNat s.olderSlot] } ∧ s.writes u [.regs, .pw, .mram] := by
  obtain ⟨v, hv⟩ : ∃ v, v = s.put Reg.GLB_STATE_UNLOCKED 0 := ⟨_, rfl⟩
  have hvs : s.setsFields v [(Reg.GLB_STATE_UNLOCKED, 0)] := hv ▸ s.setsFields_refl.next Reg.GLB_STATE_UNLOCKED 0 rfl
  have hvw : s.writes v [.regs] := hv ▸ State.put_writes
  have hvcal : v.cal = s.cal := hvw .cal (by decide)
  have hvpw : v.pw = s.pw := hvw .pw (by decide)
  have hvaway : v.calAway = false := by
    rw [← haway, State.calAway, State.calAway, State.stopped, State.stopped, hvpw, hvs.get_apart (by decide),
      hvs.get_apart (by decide)]
  have hold : v.olderSlot = s.olderSlot := by rw [hv]; rfl
  obtain ⟨m, hm⟩ : ∃ m, m = v.putMram (bit v.olderSlot) (slotBase + 64) v.calPayload := ⟨_, rfl⟩
  have hmw : v.writes m [.mram] := hm ▸ State.putMram_moves.1
  obtain ⟨hww, hwpw⟩ := m.startWrite_facts (.cal tag.toNat v.olderSlot)
  obtain ⟨w, hw⟩ : ∃ w, w = m.startWrite (.cal tag.toNat v.olderSlot) := ⟨_, rfl⟩
  rw [← hw] at hww hwpw
  obtain ⟨hpw, hpget⟩ := w.putStore_facts
  have hmpw : m.pw = s.pw := (hmw .pw (by decide)).trans hvpw
  have hunlock : w.putStore.get Reg.GLB_STATE_UNLOCKED = 0 := by
    rw [hpget _ (by decide) (by decide) (by decide), State.get_of_writes hww (by decide), State.get_of_writes hmw (by decide)]
    exact hvs.get (by simp)
  refine ⟨w.putStore.put Reg.CAL_CMD_STATUS_BUSY 1, ?_, ?_, ?_, ?_, ?_⟩
  · have hexec : exec (.calCommit tag 0) s = .next (s.guarded fun s =>
        if s.get Reg.CAL_CMD_STATUS_BUSY = 0 ∧ (0 : BitVec 8) = 0 ∧ !s.calAway ∧ s.get Reg.NVS_SUPPLY_NV_BLOCK = 1 then
          s.calReport tag.toNat .sag
        else s.calCmd 8 tag.toNat (0 : BitVec 8).toNat fun s =>
          ((s.putMram (bit s.olderSlot) (slotBase + 64) s.calPayload).startWrite (.cal tag.toNat s.olderSlot)).putStore) := rfl
    have hblock : v.get Reg.NVS_SUPPLY_NV_BLOCK = 0 := (hvs.get_apart (by decide)).trans hn
    rw [hexec, State.guarded_of_unlocked hu, ← hv, if_neg (by simp [hblock]), State.calCmd_accepted
      ((hvs.get_apart (by decide)).trans hb) (by rw [hvcal, hr]) hvaway (by decide) (by simp [calTargets, State.calBlocked]),
      hw, hm]
  · exact (State.get_put_other _ _ (by decide)).trans hunlock
  · exact (w.putStore.setsFields_refl.next Reg.CAL_CMD_STATUS_BUSY 1 rfl).get (by simp)
  · rw [State.put_pw, (hpw .pw (by decide) : w.putStore.pw = w.pw), hwpw, hmpw, hold]
  · exact State.writes_of State.put_writes (by decide) (State.writes_of hpw (by decide) (State.writes_of hww (by decide)
      (State.writes_of hmw (by decide) (State.writes_mono hvw (by decide)))))

theorem calCommitComplete_answers {n : Nat} {b : Bool} (hn : n < 256) (hw : s.pw.writing = [.cal n b])
    (hq : s.pw.wanted = none) : Answers .calCommitComplete s fun u =>
      u.pw = { s.pw with writing := [] } ∧ u.calEnds n .ok ∧ s.writes u [.regs, .pw, .mram] := by
  obtain ⟨v, hv⟩ : ∃ v, v = { s with pw := { s.pw with writing := s.pw.writing.erase (.cal n b) } } := ⟨_, rfl⟩
  have hvw : s.writes v [.pw] := hv ▸ s.with_pw_writes _
  have hpw : v.pw = { s.pw with writing := [] } := by rw [hv, hw]; simp
  obtain ⟨l, hl⟩ : ∃ l, v.calCommitted n b = ((v.putMram (bit b) slotBase l).putStore).calReport n .ok := ⟨_, rfl⟩
  obtain ⟨hrw, hends, -⟩ := ((v.putMram (bit b) slotBase l).putStore).calReport_facts hn .ok
  rw [← hl] at hrw hends
  have hcw : v.writes (v.calCommitted n b) [.regs, .mram] := State.writes_of hrw (by decide)
    (State.writes_of (State.putStore_facts _).1 (by decide) (State.writes_mono State.putMram_moves.1 (by decide)))
  have hcpw : (v.calCommitted n b).pw = v.pw := hcw .pw (by decide)
  have hstay : (match (v.calCommitted n b).pw.wanted with
      | some q => if (v.calCommitted n b).pw.writing.isEmpty && (v.calCommitted n b).pw.fieldOn then
          { v.calCommitted n b with pw := { (v.calCommitted n b).pw with wanted := none } }.actOn q else v.calCommitted n b
      | none => v.calCommitted n b) = v.calCommitted n b := by
    have h : (v.calCommitted n b).pw.wanted = none := by rw [hcpw, hpw, hq]
    rw [h]
  have hend : s.endWrite (.cal n b) = v.calCommitted n b := by
    rw [← hstay, hv]
    rfl
  refine ⟨v.calCommitted n b, congrArg Host.Outcome.next ?_, hcpw.trans hpw, hends, State.writes_of hcw (by decide)
    (State.writes_mono hvw (by decide))⟩
  rw [hw]
  exact hend

end

/-! ## The DAC dies' temperatures (R366, R391) -/

section

theorem mfind_tempsRead (temps : List (BitVec 8)) (m : SMap (BitVec 8)) (n w : Nat) :
    mfind ((upto n).foldl (fun m w => mins m w (temps.getD w 0)) m) w =
      if w < n then some (temps.getD w 0) else mfind m w := by
  induction n with
  | zero => rfl
  | succ n ih =>
    rw [upto, List.range_succ, List.foldl_append, List.foldl_cons, List.foldl_nil, mfind_mins]
    split
    · next h => rw [if_pos (by omega), h]
    · next h =>
      exact ih.trans (if_congr (by omega) rfl rfl)

variable (s : State) (w : Nat)

/-- Channel w's die has moved from its calibration by more than the profile allows. -/
def State.dacMoved : Prop := ∃ t, mfind s.cal.dacRef w = some t ∧
  (if s.ivory then 2 else 5) < ((tempOf s.cal.dacTemp w).toInt - t.toInt).natAbs

variable {s w}

theorem State.dacMoved_congr {t : State} (hc : t.cal = s.cal) (hi : t.ivory = s.ivory) (h : s.dacMoved w) : t.dacMoved w := by
  unfold State.dacMoved
  rw [hc, hi]
  exact h

theorem State.judgeDac_of_moved (h : s.dacMoved w) :
    s.judgeDac w = s.put Reg.CAL_DUE (withField (s.get Reg.CAL_DUE) w 1 1) := by
  obtain ⟨t, ht, hlim⟩ := h
  rw [State.judgeDac, ht]
  exact if_pos hlim

theorem State.judgeDac_cases (s : State) (w : Nat) :
    s.judgeDac w = s ∨ s.judgeDac w = s.put Reg.CAL_DUE (withField (s.get Reg.CAL_DUE) w 1 1) := by
  unfold State.judgeDac
  split
  · next t h =>
    by_cases hlim : (if s.ivory then 2 else 5) < ((tempOf s.cal.dacTemp w).toInt - t.toInt).natAbs
    · exact .inr (if_pos hlim)
    · exact .inl (if_neg hlim)
  · exact .inl rfl

theorem State.judgeDac_keeps (s : State) (w : Nat) : (s.judgeDac w).cal = s.cal ∧ (s.judgeDac w).ivory = s.ivory := by
  refine ⟨State.judgeDac_moves.1 .cal (by decide), ?_⟩
  obtain h | h := s.judgeDac_cases w
  · rw [h]
  · rw [h, State.ivory, State.ivory, State.get_put_other _ _ (by decide)]

theorem State.due_put (s : State) (w i : Nat) (hi : i < 8) :
    ((s.put Reg.CAL_DUE (withField (s.get Reg.CAL_DUE) w 1 1)).get Reg.CAL_DUE).testBit i =
      (decide (i = w) || (s.get Reg.CAL_DUE).testBit i) := by
  rw [State.get_put _ _ _ (by decide), Nat.testBit_mod_two_pow, testBit_withField]
  by_cases h : i = w
  · simp [h, Reg.CAL_DUE, h ▸ hi]
  · rw [if_neg (by omega)]
    simp [h, Reg.CAL_DUE, hi]

theorem State.judgeDac_due {i : Nat} (hi : i < 8) (h : (s.get Reg.CAL_DUE).testBit i = true ∨ (i = w ∧ s.dacMoved w)) :
    ((s.judgeDac w).get Reg.CAL_DUE).testBit i = true := by
  obtain h | ⟨rfl, hm⟩ := h
  · obtain e | e := s.judgeDac_cases w
    · rw [e, h]
    · rw [e, s.due_put w i hi, h, Bool.or_true]
  · rw [State.judgeDac_of_moved hm, s.due_put i i hi]
    simp

/-- Judging the first n channels marks those of them that have moved. -/
theorem State.judgeDacs_facts (s : State) (n : Nat) : let u := forUpto State.judgeDac n s
    u.cal = s.cal ∧ u.ivory = s.ivory ∧
      ∀ i, i < n → i < 8 → s.dacMoved i → (u.get Reg.CAL_DUE).testBit i = true := by
  induction n with
  | zero => exact ⟨rfl, rfl, fun i hi => absurd hi (by omega)⟩
  | succ n ih =>
    obtain ⟨hc, hv, hdue⟩ := ih
    obtain ⟨hjc, hji⟩ := (forUpto State.judgeDac n s).judgeDac_keeps n
    refine ⟨hjc.trans hc, hji.trans hv, fun i hi h8 hm => State.judgeDac_due h8 ?_⟩
    rcases Nat.lt_succ_iff_lt_or_eq.mp hi with hlt | rfl
    · exact .inl (hdue i hlt h8 hm)
    · exact .inr ⟨rfl, State.dacMoved_congr hc hv hm⟩

theorem dacTempRead_answers {temps : List (BitVec 8)} (hl : temps.length = 8) : Answers (.dacTempRead temps) s fun u =>
    s.writes u [.regs, .free, .cal] ∧ (∀ w, w < 8 → mfind u.cal.dacTemp w = temps[w]?) ∧
    (∀ w t, w < 8 → mfind s.cal.dacRef w = some t →
      (if s.ivory then 2 else 5) < (((temps.getD w 0).toInt - t.toInt).natAbs) → (u.get Reg.CAL_DUE).testBit w = true) := by
  obtain ⟨v, hv⟩ : ∃ v, v = { s with cal := { s.cal with
    dacTemp := (upto 8).foldl (fun m w => mins m w (temps.getD w 0)) s.cal.dacTemp } } := ⟨_, rfl⟩
  have hvw : s.writes v [.cal] := hv ▸ s.with_cal_writes _
  have htemp (w : Nat) (hw : w < 8) : mfind v.cal.dacTemp w = some (temps.getD w 0) := by
    rw [hv]
    exact (mfind_tempsRead temps s.cal.dacTemp 8 w).trans (if_pos hw)
  obtain ⟨p, hp⟩ : ∃ p, p = v.put Reg.NVS_TEMP_DAC_MAX (temps.foldl (fun a t => Nat.max a t.toInt.toNat) 0) := ⟨_, rfl⟩
  have hpw : v.writes p [.regs] := hp ▸ State.put_writes
  have hrw : p.writes p.readTemps [.free, .regs] := State.readTemps_moves.1
  have hrc : p.readTemps.cal = v.cal := (hrw .cal (by decide)).trans (hpw .cal (by decide))
  have hri : p.readTemps.ivory = s.ivory := by
    rw [State.ivory, State.ivory, State.readTemps, State.get_put_other _ _ (by decide), State.get_put_other _ _ (by decide),
      State.get_put_other _ _ (by decide), State.get_of_writes (State.drawFree_moves2 (s := p)).1 (by decide), hp,
      State.get_put_other _ _ (by decide), State.get_of_writes hvw (by decide)]
  obtain ⟨hjc, -, hdue⟩ := p.readTemps.judgeDacs_facts 8
  refine ⟨forUpto State.judgeDac 8 p.readTemps, by rw [hp, hv]; rfl, ?_, fun w hw => ?_, fun w t hw ht hlim => ?_⟩
  · exact writes_forUpto (State.writes_of hrw (by decide) (State.writes_of hpw (by decide) (State.writes_mono hvw (by decide))))
      (fun u k _ => State.writes_mono (State.judgeDac_moves (s := u) (x1 := k)).1 (by decide))
  · rw [hjc, hrc, htemp w hw, List.getD_eq_getElem?_getD, List.getElem?_eq_getElem (by omega), Option.getD_some]
  · refine hdue w hw hw ⟨t, ?_, ?_⟩
    · rw [hrc, hv]
      exact ht
    · rw [hri, hrc, tempOf, htemp w hw]
      exact hlim

end

/-! ## The obligation -/

/-- Settles O58: each command runs its checks and its procedure in turn, so the clauses are the outcomes of `State.calCmd`,
`State.calAdvance` and `State.judgeDac`. -/
theorem calibrationsBeginAndEnd : Obligations.CalibrationsBeginAndEnd := by
  unfold Obligations.CalibrationsBeginAndEnd
  refine ⟨fun s tag target hb hr haway => ⟨fun op i hi ht hn => calProcedure_begins hb hr haway hi ht hn,
    fun ht hn => hbmRetrain_begins hb hr haway ht hn⟩, fun s => ⟨fun r hr h1 h6 hboot h15 htag ha hbb hv a b lat => ?_,
    fun tag hu hb hr haway hn => calCommit_answers hu hb hr haway hn, fun n b hn hw hq => calCommitComplete_answers hn hw hq,
    fun temps hl => dacTempRead_answers hl⟩⟩
  have h : r.single := ⟨h1, h6, hboot, h15, htag⟩
  exact ⟨calPassed_answers hr h ha hbb hv a b lat, calFailed_answers hr h hv a b lat⟩

end Sys2Proof.Machine
end

/-! # The SMBus port and the event counters (R313, R370, R371) -/

section
namespace Sys2Proof.Machine

/-! ## The SMBus port -/

/-- The bits of a status byte. -/
theorem statusByte_bits : ∀ a b c d : Bool, let v := BitVec.ofNat 8 (bit a + 2 * bit b + 4 * bit c + 8 * bit d)
    v.getLsbD 0 = a ∧ v.getLsbD 1 = b ∧ v.getLsbD 2 = c ∧ v.getLsbD 3 = d ∧ v.toNat < 16 := by decide

theorem bit_decide_eq_one {n : Nat} (h : n < 2) : bit (decide (n = 1)) = n := by
  interval_cases n <;> rfl

section
variable (s : State)

theorem smbusEepromRead_answers (addr : BitVec 11) (n : Nat) : Answers (.smbusEepromRead addr n) s fun u => s.writes u [.xng] ∧
    u.xng = { s.xng with smbus := u.xng.smbus } ∧ u.xng.smbus.length = n ∧
    (∀ i, i < n → u.xng.smbus[i]? = some (eeprom ((addr.toNat + i) % 2048))) := by
  refine ⟨_, rfl, s.with_xng_writes _, rfl, by simp [upto], fun i hi => ?_⟩
  simp [upto, List.getElem?_range hi]

theorem smbusStatusRead_answers : Answers .smbusStatusRead s fun u => s.writes u [.xng] ∧
    ∃ b : BitVec 8, u.xng = { s.xng with smbus := [b] } ∧
      b.getLsbD 0 = s.pw.fieldOn ∧ b.getLsbD 1 = decide (s.get Reg.XNG_HSTATUS_FIELD_ABSENT = 0) ∧
      b.getLsbD 2 = decide (s.get Reg.GLB_STATE_LISTED = 1) ∧ b.getLsbD 3 = s.alertLow ∧ b.toNat < 16 := by
  have hl : s.smbusStatus = bit s.pw.fieldOn + 2 * bit (decide (s.get Reg.XNG_HSTATUS_FIELD_ABSENT = 0)) +
      4 * bit (decide (s.get Reg.GLB_STATE_LISTED = 1)) + 8 * bit s.alertLow := by
    rw [bit_decide_eq_one (s.get_lt Reg.GLB_STATE_LISTED), State.smbusStatus]
  refine ⟨_, rfl, s.with_xng_writes _, _, rfl, ?_⟩
  rw [hl]
  exact statusByte_bits _ _ _ _

end

/-! ## The event counters -/

section
variable (s : State)

theorem State.get64_put64 {lo hi : Fld} {v n : Nat} (hl : lo.lo = 0 ∧ lo.n = 32) (hh : hi.lo = 0) (hn : hi.n = n)
    (hn32 : n ≤ 32) (hv : v < 2 ^ 32 * 2 ^ n) (hne : lo.addr ≠ hi.addr) : (s.put64 lo hi v).get64 lo hi = v := by
  obtain ⟨hl0, hl32⟩ := hl
  rw [State.get64, State.put64, State.get_put _ _ _ (by omega), State.get_put_other _ _ hne, State.get_put _ _ _ (by omega),
    hl32, hn, Nat.mod_mod, Nat.mod_eq_of_lt (Nat.div_lt_of_lt_mul hv)]
  exact Nat.mod_add_div v (2 ^ 32)

variable (n : Nat)

theorem State.monCount_lt : s.monCount n < 2 ^ 32 * 2 ^ 16 := by
  have hlo : s.get (Reg.MON_COUNT_LO n) < 2 ^ 32 := s.get_lt _
  have hhi : s.get (Reg.MON_COUNT_HI n) < 2 ^ 16 := s.get_lt _
  rw [State.monCount, State.get64]
  omega

theorem State.sysTime_lt (c : Nat) : s.sysTime c < 2 ^ 32 * 2 ^ 32 := by
  rw [← Nat.pow_add]
  exact BitVec.isLt _

theorem State.setMonCount_zero : (s.setMonCount n 0).monCount n = 0 :=
  s.get64_put64 (n := 16) ⟨rfl, rfl⟩ rfl rfl (by decide) (by decide) (by simp [Reg.MON_COUNT_LO, Reg.MON_COUNT_HI])

theorem State.put64_get64_other {lo hi f g : Fld} (v : Nat) (hf : f.addr ≠ lo.addr ∧ f.addr ≠ hi.addr)
    (hg : g.addr ≠ lo.addr ∧ g.addr ≠ hi.addr) : (s.put64 lo hi v).get64 f g = s.get64 f g := by
  rw [State.get64, s.put64_get_other lo hi v hf.1 hf.2, s.put64_get_other lo hi v hg.1 hg.2, State.get64]

theorem State.setMonCount_writes (v : Nat) : s.writes (s.setMonCount n v) [.regs] :=
  State.writes_of State.put_writes (by decide) State.put_writes

/-- s with counter n's start noted and the counter running. -/
def State.monRuns : State := { s with monBegun := mins s.monBegun n (s.monCount n) }.put (Reg.MON_CFG_RUN n) 1

theorem State.monRuns_facts : s.writes (s.monRuns n) [.regs, .monBegun] ∧ (s.monRuns n).get (Reg.MON_CFG_RUN n) = 1 ∧
    (s.monRuns n).monCount n = s.monCount n := by
  obtain ⟨v, hv⟩ : ∃ v, v = { s with monBegun := mins s.monBegun n (s.monCount n) } := ⟨_, rfl⟩
  have hw : s.writes v [.monBegun] := fun p hp => by rw [hv]; cases p <;> first | rfl | exact absurd (by decide) hp
  have hruns : s.monRuns n = v.put (Reg.MON_CFG_RUN n) 1 := by rw [hv]; rfl
  rw [hruns]
  refine ⟨State.writes_of State.put_writes (by decide) (State.writes_mono hw (by decide)),
    State.get_put _ _ _ (of_decide_eq_true rfl), ?_⟩
  rw [State.monCount, State.get64, State.get_put_other _ _ (by simp [Reg.MON_COUNT_LO, Reg.MON_CFG_RUN]),
    State.get_put_other _ _ (by simp [Reg.MON_COUNT_HI, Reg.MON_CFG_RUN]), State.get_of_writes hw (by decide),
    State.get_of_writes hw (by decide)]
  rfl

variable {s} {n : MonNo}

theorem monStart_answers (hr : s.get (Reg.MON_CFG_RUN n) = 0) (he : n.val ∉ s.monEnded) : Answers (.monStart n) s fun u =>
    s.writes u [.regs, .monBegun] ∧ u.get (Reg.MON_CFG_RUN n) = 1 ∧
    u.monCount n = (if s.active (Reg.MON_CFG_CLR n) = 1 then 0 else s.monCount n) := by
  obtain ⟨hw, hrun, hcount⟩ := s.monRuns_facts n
  have hstart : s.monStart n = if s.active (Reg.MON_CFG_CLR n) = 1 then (s.monRuns n).setMonCount n 0 else s.monRuns n := by
    have hactive : (s.monRuns n).active (Reg.MON_CFG_CLR n) = s.active (Reg.MON_CFG_CLR n) :=
      State.active_of_writes hw (by decide) _
    rw [← hactive]
    exact if_neg (by simp [hr, he])
  refine ⟨_, congrArg Host.Outcome.next hstart, ?_⟩
  split
  · exact ⟨State.writes_of ((s.monRuns n).setMonCount_writes n 0) (by decide) hw,
      ((s.monRuns n).put64_get_other _ _ _ (by simp [Reg.MON_CFG_RUN, Reg.MON_COUNT_LO])
        (by simp [Reg.MON_CFG_RUN, Reg.MON_COUNT_HI])).trans hrun, State.setMonCount_zero _ _⟩
  · exact ⟨hw, hrun, hcount⟩

theorem monStop_answers (hb : mfind s.monBegun n = none) : Answers (.monStop n) s fun u =>
    s.writes u [.regs, .monEnded] ∧ s.setsFields u [(Reg.MON_CFG_RUN n, 0)] ∧ n.val ∈ u.monEnded := by
  obtain ⟨v, hv⟩ : ∃ v, v = { s with monEnded := n.val :: s.monEnded.filter (fun m => decide (m ≠ n.val)) } := ⟨_, rfl⟩
  have hw : s.writes v [.monEnded] := fun p hp => by rw [hv]; cases p <;> first | rfl | exact absurd (by decide) hp
  have hput : v.writes (v.put (Reg.MON_CFG_RUN n) 0) [.regs] := State.put_writes
  have hnone : mfind (v.put (Reg.MON_CFG_RUN n) 0).monBegun n = none := by
    rw [hput .monBegun (by decide), hw .monBegun (by decide)]
    exact hb
  have hstop : s.monStop n = v.put (Reg.MON_CFG_RUN n) 0 := by
    rw [hv] at hnone ⊢
    unfold State.monStop
    extract_lets s1
    rw [show mfind s1.monBegun n = none from hnone]
  have hsets : s.setsFields (v.put (Reg.MON_CFG_RUN n) 0) [(Reg.MON_CFG_RUN n, 0)] :=
    (hv ▸ State.setsFields_nil_of_regs rfl : s.setsFields v []).nextAt (Reg.MON_CFG_RUN n) 0 (by simp) rfl
  refine ⟨_, congrArg Host.Outcome.next hstop, State.writes_of hput (by decide) (State.writes_mono hw (by decide)), hsets, ?_⟩
  rw [hput .monEnded (by decide), hv]
  exact List.mem_cons_self

theorem monSnapshot_answers (hb : mfind s.monBegun n = none) : Answers (.monSnapshot n) s fun u => s.writes u [.regs] ∧
    u.get64 (Reg.MON_SNAP_LO n) (Reg.MON_SNAP_HI n) = s.monCount n ∧
    u.get64 (Reg.MON_SNAP_TIME_LO n) (Reg.MON_SNAP_TIME_HI n) = s.sysTime s.now ∧ u.monCount n = s.monCount n := by
  obtain ⟨v, hv⟩ : ∃ v, v = s.put64 (Reg.MON_SNAP_LO n) (Reg.MON_SNAP_HI n) (s.monCount n) := ⟨_, rfl⟩
  have hw : s.writes v [.regs] := hv ▸ State.writes_of State.put_writes (by decide) State.put_writes
  have hsnap : s.monSnap n = v.put64 (Reg.MON_SNAP_TIME_LO n) (Reg.MON_SNAP_TIME_HI n) (s.sysTime s.now) := by
    rw [State.monSnap, hb, Option.getD_none, hv]
  refine ⟨_, congrArg Host.Outcome.next hsnap, State.writes_of State.put_writes (by decide)
    (State.writes_of State.put_writes (by decide) hw), ?_, ?_, ?_⟩
  · rw [v.put64_get64_other _ (by simp [Reg.MON_SNAP_LO, Reg.MON_SNAP_TIME_LO, Reg.MON_SNAP_TIME_HI])
      (by simp [Reg.MON_SNAP_HI, Reg.MON_SNAP_TIME_LO, Reg.MON_SNAP_TIME_HI]), hv]
    exact s.get64_put64 (n := 16) ⟨rfl, rfl⟩ rfl rfl (by decide) (s.monCount_lt n) (by simp [Reg.MON_SNAP_LO, Reg.MON_SNAP_HI])
  · exact v.get64_put64 (n := 32) ⟨rfl, rfl⟩ rfl rfl (by decide) (s.sysTime_lt s.now)
      (by simp [Reg.MON_SNAP_TIME_LO, Reg.MON_SNAP_TIME_HI])
  · rw [State.monCount, v.put64_get64_other _ (by simp [Reg.MON_COUNT_LO, Reg.MON_SNAP_TIME_LO, Reg.MON_SNAP_TIME_HI])
      (by simp [Reg.MON_COUNT_HI, Reg.MON_SNAP_TIME_LO, Reg.MON_SNAP_TIME_HI]), hv, s.put64_get64_other _
      (by simp [Reg.MON_COUNT_LO, Reg.MON_SNAP_LO, Reg.MON_SNAP_HI])
      (by simp [Reg.MON_COUNT_HI, Reg.MON_SNAP_LO, Reg.MON_SNAP_HI]), State.monCount]

end

/-! ## The obligation -/

/-- Settles O59: the SMBus reads by the bytes they give, the counters' commands by the register pairs they write. -/
theorem smbusAnswersAndCountersCount : Obligations.SmbusAnswersAndCountersCount := by
  unfold Obligations.SmbusAnswersAndCountersCount
  exact fun s => ⟨smbusEepromRead_answers s, smbusStatusRead_answers s, fun n =>
    ⟨monStart_answers, monStop_answers, monSnapshot_answers⟩⟩

end Sys2Proof.Machine
end

/-! # What a strobe leaves alone (R321 to R323) -/

section
namespace Sys2Proof.Machine

/-- CLK_CTRL, MEM_CTRL, EVT_CTRL, EVT_STATUS, EVT_SYS_BUDGET and EVT_SYS_LATE_CNT: no strobe writes them. -/
abbrev fabricReg (a : Nat) : Prop := a ∈ [0x020000, 0x030000, 0x040000, 0x040004, 0x040008, 0x04000C]

theorem not_fabricReg {a : Nat} (h : 0x040010 ≤ a) : ¬ fabricReg a := by
  simp only [fabricReg, List.mem_cons, List.not_mem_nil, or_false]
  omega

theorem lt_of_fabricReg {a : Nat} (h : fabricReg a) : a < 0x080000 := by
  by_contra hlt
  exact not_fabricReg (by omega) h

theorem State.keepsWords.mono {s t : State} {K M : Nat → Prop} (h : s.keepsWords t M) (hK : ∀ a, K a → M a) :
    s.keepsWords t K :=
  fun a ha => h a (hK a ha)

theorem State.keepsWords.ite {s t u : State} {K : Nat → Prop} {c : Prop} [Decidable c] (ht : s.keepsWords t K)
    (hu : s.keepsWords u K) : s.keepsWords (if c then t else u) K := by
  split
  · exact ht
  · exact hu

/-! ## Pattern groups and waveform channels -/

section
variable (s : State)

theorem State.commitSet_keepsFabric (g n : Nat) (rows : SMap Word72) : s.keepsWords (s.commitSet g n rows) fabricReg := by
  unfold State.commitSet
  exact ((s.keepsWords_refl _).of_writes State.setGroup_moves.1 (by decide)).put _
    (not_fabricReg (by dsimp only [Reg.GRP_PMIN]; omega))

theorem State.hostCommit_keepsFabric (g : Nat) : s.keepsWords (s.hostCommit g) fabricReg := by
  have hsts : ¬ fabricReg (Reg.TS_HCOMMIT_STS g).addr := not_fabricReg (by dsimp only [Reg.TS_HCOMMIT_STS]; omega)
  unfold State.hostCommit
  split
  · exact s.keepsWords_refl _
  · extract_lets s1 x s2
    have h1 : s.keepsWords s1 fabricReg := (s.keepsWords_refl _).put _ (not_fabricReg (by dsimp only [Reg.TS_HCOMMIT_PEND]; omega))
    have h2 : s.keepsWords s2 fabricReg := h1.of_writes State.setGroup_moves.1 (by decide)
    exact .ite ((h2.trans (s2.commitSet_keepsFabric _ _ _)).put _ hsts) (h2.put _ hsts)

theorem State.setFtw_keepsFabric (w e v : Nat) : s.keepsWords (s.setFtw w e v) fabricReg :=
  ((s.keepsWords_refl _).of_writes State.setPhase_moves.1 (by decide)).put64 _
    (not_fabricReg (by dsimp only [Reg.NCO_FTW_ACT_LO]; omega)) (not_fabricReg (by dsimp only [Reg.NCO_FTW_ACT_HI]; omega))

theorem State.wavXfr_keepsFabric (g : Nat) (l all : List Xfr) (w : Nat) : s.keepsWords (s.wavXfr g l all w) fabricReg := by
  unfold State.wavXfr
  extract_lets s1 s2 s3 s4 x s5
  have h1 : s.keepsWords s1 fabricReg :=
    .ite ((s.keepsWords_refl _).of_writes State.waveClear_moves.1 (by decide)) (s.keepsWords_refl _)
  have h2 : s.keepsWords s2 fabricReg := .ite (h1.put _ (not_fabricReg (by dsimp only [Reg.WAV_GAIN_ACT]; omega))) h1
  have h3 : s.keepsWords s3 fabricReg := .ite (h2.put _ (not_fabricReg (by dsimp only [Reg.WAV_OFFSET_ACT]; omega))) h2
  have h4 : s.keepsWords s4 fabricReg := .ite (h3.trans (s3.setFtw_keepsFabric _ _ _)) h3
  have h5 : s.keepsWords s5 fabricReg := .ite (h4.of_writes State.setWave_moves.1 (by decide)) h4
  exact .ite (h5.put _ (not_fabricReg (by dsimp only [Reg.WAV_STATUS_DEFERRED]; omega))) h5

theorem State.grpXfr_keepsFabric (l all : List Xfr) (g : Nat) : s.keepsWords (s.grpXfr l all g) fabricReg := by
  unfold State.grpXfr
  refine State.keepsWords.forEach ((s.keepsWords_refl _).forUpto fun u m _ => .ite
    ((u.keepsWords_refl _).of_writes State.setGroup_moves.1 (by decide)) (u.keepsWords_refl _)) fun u x => ?_
  have hrefl := u.keepsWords_refl fabricReg
  split
  · exact .ite hrefl (.ite (hrefl.put _ (not_fabricReg (by dsimp only [Reg.PIN_STATUS_LVL_REFUSED]; omega)))
      (.ite (hrefl.put _ (not_fabricReg (by dsimp only [Reg.PIN_STATUS_CLAMPED]; omega))) hrefl))
  · exact hrefl

end

/-! ## Capture channels and recordings -/

section
variable (s : State)

theorem State.capXfr_keepsFabric (g : Nat) (l all : List Xfr) (c : Nat) : s.keepsWords (s.capXfr g l all c) fabricReg := by
  unfold State.capXfr
  extract_lets mine s1 s2 s3 x s4
  have h1 : s.keepsWords s1 fabricReg :=
    .ite ((s.keepsWords_refl _).put _ (not_fabricReg (by dsimp only [Reg.CAP_STATUS_DEFERRED]; omega))) (s.keepsWords_refl _)
  have h2 : s.keepsWords s2 fabricReg := .ite (h1.put _ (not_fabricReg (by dsimp only [Reg.CAP_STATUS_CFG_REFUSED]; omega))) h1
  have h3 : s.keepsWords s3 fabricReg := .ite (h2.of_writes State.syncReset_moves.1 (by decide)) h2
  have h4 : s.keepsWords s4 fabricReg := .ite ((h3.of_writes State.setCapture_moves.1 (by decide)).put _
    (not_fabricReg (by dsimp only [Reg.CAP_STATUS_RNG_SETTLE]; omega))) h3
  exact h4.forUpto fun u i _ => .ite ((u.keepsWords_refl _).of_writes State.setCapture_moves.1 (by decide)) (u.keepsWords_refl _)

theorem State.syncWhen_keepsFabric (c kind : Nat) : s.keepsWords (s.syncWhen c kind) fabricReg := by
  unfold State.syncWhen
  exact .ite (((s.keepsWords_refl _).of_writes State.syncReset_moves.1 (by decide)).put _
    (not_fabricReg (by dsimp only [Reg.CAP_STATUS_SYNC_PEND]; omega))) (s.keepsWords_refl _)

theorem State.swapTrigger_keepsFabric (c : Nat) : s.keepsWords (s.swapTrigger c) fabricReg := by
  unfold State.swapTrigger
  split
  · have h1 := fun x => (s.keepsWords_refl fabricReg).of_writes (State.setCapture_moves (s := s) (x1 := c) (x2 := x)).1 (by decide)
    exact .ite ((h1 _).put _ (not_fabricReg (by dsimp only [Reg.FIR_STATUS_HELD]; omega))) (h1 _)
  · exact s.keepsWords_refl _

theorem State.swapWhen_keepsFabric (c kind evt : Nat) : s.keepsWords (s.swapWhen c kind evt) fabricReg := by
  unfold State.swapWhen
  split
  · exact .ite (s.swapTrigger_keepsFabric c) (s.keepsWords_refl _)
  · exact s.keepsWords_refl _

theorem recordAddrs_not_fabricReg (b : Nat) : ∀ a ∈ recordAddrs b, ¬ fabricReg a := by
  intro a ha
  apply not_fabricReg
  unfold recordAddrs at ha
  split at ha <;> simp [Reg.CBUF_COUNT_LO, Reg.CBUF_COUNT_HI, Reg.CBUF_FIRST_LO, Reg.CBUF_FIRST_HI, Reg.CBUF_TRIG_LO,
    Reg.CBUF_TRIG_HI, Reg.CBUF_STATUS_STS, Reg.PCAP_STATUS_STS] at ha <;> omega

theorem State.recEnd_keepsFabric (b : Nat) (e : Sts) : s.keepsWords (s.recEnd b e) fabricReg :=
  s.recEnd_keepsWords (recordAddrs_not_fabricReg b) e

theorem State.recStatus_keepsFabric (b : Nat) (e : Sts) : s.keepsWords (s.recStatus b e) fabricReg :=
  s.recStatus_keepsWords (recordAddrs_not_fabricReg b) e

theorem not_fabricReg_cbufState (b : Nat) : ¬ fabricReg (Reg.CBUF_STATUS_STATE b).addr :=
  not_fabricReg (by dsimp only [Reg.CBUF_STATUS_STATE]; omega)

theorem State.recStart_keepsFabric (b : Nat) : s.keepsWords (s.recStart b) fabricReg := by
  unfold State.recStart
  split
  · exact s.recStatus_keepsFabric b _
  · have h1 := fun l r => ((s.keepsWords_refl fabricReg).of_writes (State.setDrains_moves (s := s) (x1 := b) (x2 := l)).1
      (by decide)).of_writes (State.setRec_moves (s := s.setDrains b l) (x1 := b) (x2 := r)).1 (by decide)
    exact (((h1 _ _).trans (State.recStatus_keepsFabric _ b _)).put _ (not_fabricReg_cbufState b)).of_writes
      State.memWake_moves.1 (by decide)

theorem State.recGo_keepsFabric (b : Nat) : s.keepsWords (s.recGo b) fabricReg := by
  unfold State.recGo
  exact .ite (s.keepsWords_refl _) (s.recStart_keepsFabric b)

theorem State.recStop_keepsFabric (b : Nat) : s.keepsWords (s.recStop b) fabricReg := by
  unfold State.recStop
  split
  · exact s.keepsWords_refl _
  · refine .ite (s.keepsWords_refl _) (.ite (s.recEnd_keepsFabric b _) ?_)
    split
    · exact .ite ((s.keepsWords_refl _).of_writes State.setRec_moves.1 (by decide)) (s.recEnd_keepsFabric b _)
    · exact s.recEnd_keepsFabric b _

theorem State.recHalt_keepsFabric (b : Nat) : s.keepsWords (s.recHalt b) fabricReg := by
  have h1 : s.keepsWords (s.markStop b) fabricReg := (s.keepsWords_refl _).of_writes State.markStop_moves.1 (by decide)
  have hsts : ¬ fabricReg (Reg.CBUF_STATUS_STS b).addr := recordAddrs_not_fabricReg b _ (by simp [recordAddrs])
  unfold State.recHalt
  dsimp only
  split
  · next r _ =>
    refine .ite ?_ (h1.trans (State.recStop_keepsFabric _ b))
    have h3 := (((h1.of_writes (State.setRec_moves (s := s.markStop b) (x1 := b) (x2 := none)).1 (by decide)).put r.was.2
      (not_fabricReg_cbufState b)).put r.was.1 hsts)
    exact .ite h3 (h3.put _ (not_fabricReg (by dsimp only [Reg.PCAP_STATUS_STS]; omega)))
  · exact h1

theorem State.recTrigger_keepsFabric (b : Nat) (ts : Ts) : s.keepsWords (s.recTrigger b ts) fabricReg := by
  unfold State.recTrigger
  split
  · exact s.keepsWords_refl _
  · exact .ite (s.keepsWords_refl _) (.ite (((s.keepsWords_refl _).of_writes State.setRec_moves.1 (by decide)).put _
      (not_fabricReg_cbufState b)) ((s.keepsWords_refl _).put _ (not_fabricReg (by dsimp only [Reg.CBUF_STATUS_EARLY]; omega))))

theorem State.recAt_keepsFabric (b : Nat) (start stop trig : Bool) (ts : Ts) :
    s.keepsWords (s.recAt b start stop trig ts) fabricReg := by
  have harm : s.keepsWords (s.setArmed b false) fabricReg := (s.keepsWords_refl _).of_writes State.setArmed_moves.1 (by decide)
  unfold State.recAt
  extract_lets s1
  have h1 : s.keepsWords s1 fabricReg :=
    .ite (.ite harm (harm.trans (State.recGo_keepsFabric _ b))) (s.keepsWords_refl _)
  exact .ite (h1.trans (s1.recHalt_keepsFabric b)) (.ite (h1.trans (s1.recTrigger_keepsFabric b ts)) h1)

end

/-! ## The event counters -/

section
variable (s : State)

theorem State.setMonCount_keepsFabric (n v : Nat) : s.keepsWords (s.setMonCount n v) fabricReg :=
  (s.keepsWords_refl _).put64 _ (not_fabricReg (by dsimp only [Reg.MON_COUNT_LO]; omega))
    (not_fabricReg (by dsimp only [Reg.MON_COUNT_HI]; omega))

theorem State.monSnap_keepsFabric (n : Nat) : s.keepsWords (s.monSnap n) fabricReg :=
  ((s.keepsWords_refl _).put64 _ (not_fabricReg (by dsimp only [Reg.MON_SNAP_LO]; omega))
    (not_fabricReg (by dsimp only [Reg.MON_SNAP_HI]; omega))).put64 _ (not_fabricReg (by dsimp only [Reg.MON_SNAP_TIME_LO]; omega))
    (not_fabricReg (by dsimp only [Reg.MON_SNAP_TIME_HI]; omega))

theorem State.monStart_keepsFabric (n : Nat) : s.keepsWords (s.monStart n) fabricReg := by
  have h1 := ((s.keepsWords_refl fabricReg).of_regs (u := { s with monBegun := mins s.monBegun n (s.monCount n) }) rfl).put
    (F := Reg.MON_CFG_RUN n) 1 (not_fabricReg (by dsimp only [Reg.MON_CFG_RUN]; omega))
  unfold State.monStart
  exact .ite (s.keepsWords_refl _) (.ite (h1.trans (State.setMonCount_keepsFabric _ _ _)) h1)

theorem State.monStop_keepsFabric (n : Nat) : s.keepsWords (s.monStop n) fabricReg := by
  unfold State.monStop
  extract_lets s1
  have h1 : s.keepsWords s1 fabricReg := ((s.keepsWords_refl _).of_regs rfl).put _
    (not_fabricReg (by dsimp only [Reg.MON_CFG_RUN]; omega))
  clear_value s1
  split
  · have h2 : s.keepsWords { s1 with monBegun := mdel s1.monBegun n } fabricReg := h1
    exact h2.trans (State.setMonCount_keepsFabric _ _ _)
  · exact h1

theorem State.monSelect_keepsFabric (kind x : Nat) : s.keepsWords (s.monSelect kind x) fabricReg := by
  unfold State.monSelect
  refine (s.keepsWords_refl _).forUpto fun u n _ => ?_
  extract_lets s1 s2
  have h1 : u.keepsWords s1 fabricReg := .ite (u.monSnap_keepsFabric n) (u.keepsWords_refl _)
  have h2 : u.keepsWords s2 fabricReg := .ite (h1.trans (s1.monStart_keepsFabric n)) h1
  exact .ite (h2.trans (s2.monStop_keepsFabric n)) h2

end

end Sys2Proof.Machine
end

/-! # What a strobe leaves alone: the clock and the link (R271 to R273, R281 to R289) -/

section
namespace Sys2Proof.Machine

/-! ## The root loop -/

section
variable (s : State)

theorem State.restep_keepsFabric : s.keepsWords s.restep fabricReg := (s.keepsWords_refl _).put _ (by decide)

theorem State.clkReport_keepsFabric (tag : Nat) (e : Sts) : s.keepsWords (s.clkReport tag e) fabricReg :=
  (((s.keepsWords_refl _).put _ (by decide)).put _ (by decide)).put _ (by decide)

theorem State.regate_keepsFabric : s.keepsWords s.regate fabricReg := by
  have hput := fun v => (s.keepsWords_refl fabricReg).put (F := Reg.CLK_STATUS_GATED) v (by decide)
  unfold State.regate
  refine .ite (.ite (s.keepsWords_refl _) ?_) (.ite (s.keepsWords_refl _) ?_)
  · exact ((hput 1).of_writes (State.holdPhases_writes _ 8) (by decide)).trans
      ((State.holdCaps_keepsWords _).mono fun _ => lt_of_fabricReg)
  · exact ((hput 0).of_writes (writes_forUpto State.writes_refl fun _ _ _ => State.freePhase_moves.1) (by decide)).of_writes
      State.freeCaps_moves.1 (by decide)

theorem State.setLoop_keepsFabric (n : Nat) : s.keepsWords (s.setLoop n) fabricReg := by
  unfold State.setLoop
  extract_lets s0 s1 x s2 y s3 s4
  have h0 : s.keepsWords s0 fabricReg :=
    .ite (State.endCalWhere_keepsWords _ _ (by decide) (by decide)) (s.keepsWords_refl _)
  have h1 : s.keepsWords s1 fabricReg := ((h0.put _ (by decide)).put _ (by decide)).trans (State.restep_keepsFabric _)
  clear_value s1
  have h2 : s.keepsWords s2 fabricReg := .ite (h1.of_regs rfl) h1
  clear_value s2
  have h3 : s.keepsWords s3 fabricReg := .ite h2 (h2.of_regs rfl)
  clear_value s3
  have hband : s.keepsWords (if n = 2 then s3.search else s3) fabricReg := .ite (h3.of_regs rfl) h3
  have h4 : s.keepsWords s4 fabricReg := hband.of_writes State.reclock_moves.1 (by decide)
  have hgate := h4.trans s4.regate_keepsFabric
  exact .ite (hgate.of_writes State.unlatchAll_moves.1 (by decide)) (hgate.of_writes State.latchAll_moves.1 (by decide))

theorem State.dropRamp_keepsFabric : s.keepsWords s.dropRamp fabricReg := by
  unfold State.dropRamp
  extract_lets x s1
  have h1 : s.keepsWords s1 fabricReg := ((s.keepsWords_refl _).of_regs rfl).put _ (by decide)
  clear_value s1
  split
  · exact h1.trans (s1.clkReport_keepsFabric _ _)
  · exact h1

theorem State.loseRef_keepsFabric (next : Option Nat) : s.keepsWords (s.loseRef next) fabricReg := by
  have hnote : s.keepsWords (s.lossNote Reg.CLK_STATUS_LOR Reg.CLK_LOR_CNT 0x265) fabricReg :=
    ((((s.keepsWords_refl _).put _ (by decide)).put _ (by decide)).of_writes State.monMark_moves.1 (by decide)).of_writes
      State.alarm_moves.1 (by decide)
  unfold State.loseRef
  extract_lets s1 s2
  have h1 : s.keepsWords s1 fabricReg := (hnote.trans (State.dropRamp_keepsFabric _)).put _ (by decide)
  clear_value s1
  have h2 : s.keepsWords s2 fabricReg := .ite h1 (h1.trans (s1.setLoop_keepsFabric 1))
  exact h2.of_regs rfl

theorem State.refSelected_keepsFabric : s.keepsWords s.refSelected fabricReg := by
  unfold State.refSelected
  exact .ite s.restep_keepsFabric (s.loseRef_keepsFabric _)

theorem State.rampBegin_keepsFabric (applied : Bool) : s.keepsWords (s.rampBegin applied) fabricReg := by
  unfold State.rampBegin
  exact (((s.keepsWords_refl _).of_regs rfl).put _ (by decide)).trans (State.restep_keepsFabric _)

theorem State.rampStrobe_keepsFabric (applied : Bool) : s.keepsWords (s.rampStrobe applied) fabricReg := by
  unfold State.rampStrobe
  split
  · extract_lets x s1
    have h1 : s.keepsWords s1 fabricReg := (s.keepsWords_refl _).of_regs rfl
    clear_value s1
    split
    · exact h1.trans (s1.clkReport_keepsFabric _ _)
    · exact (h1.trans (s1.rampBegin_keepsFabric _)).trans (State.clkReport_keepsFabric _ _ _)
  · exact s.keepsWords_refl _

end

/-! ## The ports of the link -/

section
variable (s : State)

theorem loadEndRegs_not_fabricReg : ∀ a ∈ loadEndRegs, ¬ fabricReg a := by decide

theorem State.setPort_keepsFabric (p n : Nat) : s.keepsWords (s.setPort p n) fabricReg := by
  unfold State.setPort
  have h1 := (s.keepsWords_refl fabricReg).put (F := Reg.TXL_PSTATUS_STATE p) n
    (not_fabricReg (by dsimp only [Reg.TXL_PSTATUS_STATE]; omega))
  exact .ite (h1.put _ (not_fabricReg (by dsimp only [Reg.TXL_DOWN_CNT]; omega))) h1

theorem State.leaveSystem_keepsFabric : s.keepsWords s.leaveSystem fabricReg := by
  unfold State.leaveSystem
  extract_lets s1 s2 s3
  have h1 : s.keepsWords s1 fabricReg := (s.keepsWords_refl _).of_writes State.forgetUp_moves.1 (by decide)
  clear_value s1
  have h2 : s.keepsWords s2 fabricReg := .ite ((h1.put _ (by decide)).of_writes State.alarm_moves.1 (by decide)) h1
  have h3 : s.keepsWords s3 fabricReg := (h2.put _ (by decide)).put _ (by decide)
  exact .ite (h3.trans (s3.loseRef_keepsFabric _)) h3

theorem State.loseSubtree_keepsFabric (p : Nat) : s.keepsWords (s.loseSubtree p) fabricReg := by
  unfold State.loseSubtree
  extract_lets x s1
  have h1 : s.keepsWords s1 fabricReg := (s.keepsWords_refl _).of_regs rfl
  clear_value s1
  exact ((h1.put _ (not_fabricReg (by dsimp only [Reg.TXL_PMODS]; omega))).put _
    (by decide)).of_writes State.alarm_moves.1 (by decide)

theorem State.dropPort_keepsFabric (p n : Nat) (up : Bool) : s.keepsWords (s.dropPort p n up) fabricReg := by
  unfold State.dropPort
  extract_lets was s1 x s2 s3 y s4
  have h2 : s.keepsWords s2 fabricReg := (s.setPort_keepsFabric p n).of_regs rfl
  clear_value s2
  have h3 : s.keepsWords s3 fabricReg := (h2.trans (State.endCalWhere_keepsWords _ _ (by decide) (by decide))).trans
    (State.endPeers_keepsWords _ loadEndRegs_not_fabricReg _)
  clear_value s3
  have h4 : s.keepsWords s4 fabricReg := h3.of_regs rfl
  clear_value s4
  exact .ite (.ite (h4.trans s4.leaveSystem_keepsFabric) (h4.trans (s4.loseSubtree_keepsFabric p))) h2

theorem State.portCfg_keepsFabric (up0 : Nat) (was : Bool) (p : Nat) : s.keepsWords (s.portCfg up0 was p) fabricReg := by
  unfold State.portCfg
  extract_lets role s1 s2
  have h1 : s.keepsWords s1 fabricReg := (s.keepsWords_refl _).put _ (not_fabricReg (by dsimp only [Reg.TXL_PSTATUS_ROLE]; omega))
  have h2 : s.keepsWords s2 fabricReg := h1.trans (s1.dropPort_keepsFabric _ _ _)
  exact .ite (.ite h1 (h1.trans (s1.dropPort_keepsFabric _ _ _))) (.ite (h1.trans (s1.setPort_keepsFabric _ _))
    (.ite (.ite h2 (.ite (h2.put _ (not_fabricReg (by dsimp only [Reg.TXL_PSTATUS_STS]; omega)))
      (h2.trans (s2.setPort_keepsFabric _ _)))) h1))

theorem State.txlConfigured_keepsFabric (up0 en0 : Nat) : s.keepsWords (s.txlConfigured up0 en0) fabricReg := by
  unfold State.txlConfigured
  extract_lets s1 tk s2
  have h1 : s.keepsWords s1 fabricReg := (s.keepsWords_refl _).forUpto fun u p _ => u.portCfg_keepsFabric _ _ p
  have h2 : s.keepsWords s2 fabricReg := h1.put _ (by decide)
  exact .ite h2 (.ite (((h2.put _ (by decide)).put _ (by decide)).put _ (by decide)) ((h2.put _ (by decide)).put _ (by decide)))

end

end Sys2Proof.Machine
end

/-! # What a strobe leaves alone: the event fabric's records (R96, R321, R322) -/

section
namespace Sys2Proof.Machine

/-- t has the registers of `fabricReg` as s has, its last registrations, its strobes, the words of its writes and its cycle. -/
structure State.Fabric (s t : State) : Prop where
  words : s.keepsWords t fabricReg
  lasts : t.evt.lasts = s.evt.lasts
  strobes : t.evt.strobes = s.evt.strobes
  wrote : t.wrote = s.wrote
  now : t.now = s.now

theorem State.Fabric.refl (s : State) : s.Fabric s := ⟨s.keepsWords_refl _, rfl, rfl, rfl, rfl⟩

section
variable {s t u : State} (h : s.Fabric t)
include h

theorem State.Fabric.trans (k : t.Fabric u) : s.Fabric u :=
  ⟨h.words.trans k.words, k.lasts.trans h.lasts, k.strobes.trans h.strobes, k.wrote.trans h.wrote, k.now.trans h.now⟩

theorem State.Fabric.of_keeps {W : List Piece} (hw : t.writes u W) (hW : ∀ p ∈ [Piece.evt, .wrote, .now], p ∉ W)
    (hk : t.keepsWords u fabricReg) : s.Fabric u := by
  have hevt : u.evt = t.evt := hw .evt (hW _ (by decide))
  exact h.trans ⟨hk, by rw [hevt], by rw [hevt], hw .wrote (hW _ (by decide)), hw .now (hW _ (by decide))⟩

theorem State.Fabric.of_writes {W : List Piece} (hw : t.writes u W) (hW : ∀ p ∈ [Piece.evt, .wrote, .now, .regs], p ∉ W) :
    s.Fabric u :=
  h.of_keeps hw (fun p hp => hW p (by revert p; decide)) ((t.keepsWords_refl _).of_writes hw (hW _ (by decide)))

theorem State.Fabric.put {F : Fld} (v : Nat) (hF : ¬ fabricReg F.addr) : s.Fabric (t.put F v) :=
  h.of_keeps State.put_writes (by decide) ((t.keepsWords_refl _).put v hF)

theorem State.Fabric.of_evt {x : Events} (hl : x.lasts = t.evt.lasts) (hs : x.strobes = t.evt.strobes) :
    s.Fabric { t with evt := x } :=
  h.trans ⟨(t.keepsWords_refl _).of_regs rfl, hl, hs, rfl, rfl⟩

theorem State.Fabric.ite (k : s.Fabric u) {c : Prop} [Decidable c] : s.Fabric (if c then t else u) := by
  split
  · exact h
  · exact k

theorem State.Fabric.forUpto {f : State → Nat → State} {n : Nat} (hf : ∀ u k, State.Fabric u (f u k)) :
    s.Fabric (forUpto f n t) := by
  induction n with
  | zero => exact h
  | succ n ih => exact ih.trans (hf _ n)

theorem State.Fabric.forEach {α : Type} {f : State → α → State} {l : List α} (hf : ∀ u a, State.Fabric u (f u a)) :
    s.Fabric (forEach f l t) := by
  induction l generalizing t with
  | nil => exact h
  | cons a l ih => exact ih (h.trans (hf t a))

/-- What reads the registers of the fabric sees the same. -/
theorem State.Fabric.shadowOf {f : Fld} (hf : fabricReg f.addr) : t.shadowOf f = s.shadowOf f := by
  simp only [State.shadowOf, State.shadow, h.wrote, h.words _ hf]

end

/-! ## Timers and triggers -/

section
variable (s : State)

theorem State.tmrStop_fabric (n : Nat) : s.Fabric (s.tmrStop n) := by
  have h : s.Fabric { s with evt := { s.evt with timers := mdel s.evt.timers n } } := (State.Fabric.refl s).of_evt rfl rfl
  exact h.put 0 (not_fabricReg (by dsimp only [Reg.EVT_TMR_CTRL_RUN]; omega))

theorem State.tmrStart_fabric (n : Nat) : s.Fabric (s.tmrStart n) := by
  have h : ∀ m, s.Fabric { s with evt := { s.evt with timers := m } } := fun m => (State.Fabric.refl s).of_evt rfl rfl
  unfold State.tmrStart
  exact (s.tmrStop_fabric n).ite ((h _).put 1 (not_fabricReg (by dsimp only [Reg.EVT_TMR_CTRL_RUN]; omega)))

theorem State.trigRead_fabric (n : Nat) : s.Fabric (s.trigRead n) := (State.Fabric.refl s).of_evt rfl rfl

theorem State.evtXfr_fabric (l : List Xfr) : s.Fabric (s.evtXfr l) := by
  unfold State.evtXfr
  refine ((State.Fabric.refl s).forUpto fun u n => (u.trigRead_fabric n).ite (State.Fabric.refl u)).forUpto fun u n => ?_
  split
  · refine State.Fabric.ite ?_ (State.Fabric.refl u)
    exact (State.Fabric.refl u).of_evt rfl rfl
  · exact State.Fabric.refl u

end

/-! ## What a strobe transfers -/

section
variable (s : State) (g : Nat)

/-- s with the host's commits of group g made, which come before its transfers. -/
def State.hostCommits : State := forUpto (fun s p => if s.shadowOf (Reg.GRP_CTRL_UPD_GRP p) = g then s.hostCommit p else s) 8 s

/-- s with the levels noted that wait for the commits of the cycle. -/
def State.lateLevels : State := { s with evt := { s.evt with
  levels := s.evt.levels ++ ((s.pendingXfrs g).filterMap s.levelWaits).dedup.map (fun q => (g, q)) } }

/-- The transfers of group g that do not wait. -/
def State.promptXfrs : List Xfr := (s.pendingXfrs g).filter (fun x => (s.levelWaits x).isNone)

/-- Those of them that are made. -/
def State.madeXfrs : List Xfr := (s.promptXfrs g).filter (s.lateLevels g).transfers

/-- s with the transfers of group g made. -/
def State.transferred : State := (forEach State.transfer (s.madeXfrs g) (s.lateLevels g)).unwritten (s.madeXfrs g) (s.promptXfrs g)

/-- s with what transfers l of all that were pending cause. -/
def State.afterXfrs (l all : List Xfr) (up en : Nat) : State :=
  let s1 := forUpto (fun s w => s.wavXfr g l all w) 8 s
  let s2 := forUpto (fun s c => s.capXfr g l all c) 8 s1
  let s3 := (forUpto (fun s p => s.grpXfr l all p) 8 s2).evtXfr l
  let s4 := if alters l Reg.CLK_CTRL_REF_SEL then s3.refSelected else s3
  let s5 := if touches l Reg.CLK_OUT_CFG_EN.addr then s4.judgeOut else s4
  if touches l Reg.TXL_CFG_UP.addr then s5.txlConfigured up en else s5

theorem State.transferGroup_eq : s.transferGroup g = let t := s.hostCommits g
    (t.transferred g).afterXfrs g (t.madeXfrs g) (t.promptXfrs g) (t.lateLevels g).upPort
      ((t.lateLevels g).active Reg.TXL_CFG_PORT_EN) := rfl

theorem State.hostCommits_fabric : s.Fabric (s.hostCommits g) :=
  (State.Fabric.refl s).forUpto fun u p => ((State.Fabric.refl u).of_keeps State.hostCommit_moves.1 (by decide)
    (u.hostCommit_keepsFabric p)).ite (State.Fabric.refl u)

theorem State.lateLevels_fabric : s.Fabric (s.lateLevels g) := (State.Fabric.refl s).of_evt rfl rfl

theorem State.transferred_fabric : s.Fabric (s.transferred g) := by
  have h : s.Fabric (forEach State.transfer (s.madeXfrs g) (s.lateLevels g)) :=
    (s.lateLevels_fabric g).forEach fun u _ => (State.Fabric.refl u).of_writes State.putActive_moves.1 (by decide)
  exact h.of_evt rfl rfl

theorem State.afterXfrs_fabric (l all : List Xfr) (up en : Nat) : s.Fabric (s.afterXfrs g l all up en) := by
  unfold State.afterXfrs
  extract_lets s1 s2 s3 s4 s5
  have h1 : s.Fabric s1 := (State.Fabric.refl s).forUpto fun u w => (State.Fabric.refl u).of_keeps State.wavXfr_moves.1
    (by decide) (u.wavXfr_keepsFabric g l all w)
  have h2 : s.Fabric s2 := h1.forUpto fun u c => (State.Fabric.refl u).of_keeps State.capXfr_moves.1 (by decide)
    (u.capXfr_keepsFabric g l all c)
  have h3 : s.Fabric s3 := (h2.forUpto fun u p => (State.Fabric.refl u).of_keeps State.grpXfr_moves.1 (by decide)
    (u.grpXfr_keepsFabric l all p)).trans (State.evtXfr_fabric _ l)
  have h4 : s.Fabric s4 := (h3.of_keeps State.refSelected_moves.1 (by decide) s3.refSelected_keepsFabric).ite h3
  have h5 : s.Fabric s5 := (h4.of_writes State.judgeOut_moves.1 (by decide)).ite h4
  exact (h5.of_keeps State.txlConfigured_moves.1 (by decide) (s5.txlConfigured_keepsFabric up en)).ite h5

theorem State.transferGroup_fabric : s.Fabric (s.transferGroup g) := by
  rw [State.transferGroup_eq]
  exact ((s.hostCommits_fabric g).trans (State.transferred_fabric _ g)).trans (State.afterXfrs_fabric _ g _ _ _ _)

end

/-! ## Strobes -/

section
variable (s : State) (g : Nat)

/-- s with a strobe of group g noted in this cycle. -/
def State.strobeNoted : State := { s with evt := { s.evt with strobes := mins s.evt.strobes g s.now } }

/-- s with what a strobe of group g does once its shadows are active. -/
def State.strobeUses (applied : Bool) : State :=
  let s2 := forUpto (fun s t => s.strobeTile g t) 16 s
  let s3 := s2.strobeRedirects g
  let s4 := forUpto (fun s c => if s.shadowOf (Reg.CAP_CTRL_UPD_GRP c) = g then
    (s.syncWhen c 2).swapWhen c 2 0 else s) 8 s3
  let s5 := forUpto (fun s b => s.strobeRec g b) 16 s4
  let s6 := forUpto (fun s n =>
    if s.active (Reg.EVT_TMR_CTRL_START_SRC n) = 2 ∧ s.active (Reg.EVT_TMR_CTRL_UPD_GRP n) = g then s.tmrStart n else s) 16 s5
  let s7 := if s6.shadowOf Reg.CLK_CTRL_UPD_GRP = g then s6.rampStrobe applied else s6
  s7.monSelect 2 g

variable {s g} in
theorem State.strobe_of_first (applied : Bool) (h : mfind s.evt.strobes g ≠ some s.now) :
    s.strobe g applied = ((s.strobeNoted g).transferGroup g).strobeUses g applied := if_neg h

theorem State.strobeUses_fabric (applied : Bool) : s.Fabric (s.strobeUses g applied) := by
  unfold State.strobeUses
  extract_lets s2 s3 s4 s5 s6 s7
  have h2 : s.Fabric s2 := (State.Fabric.refl s).forUpto fun u t =>
    (State.Fabric.refl u).of_writes State.strobeTile_moves.1 (by decide)
  have h3 : s.Fabric s3 := h2.of_writes State.strobeRedirects_moves.1 (by decide)
  have h4 : s.Fabric s4 := h3.forUpto fun u c => (((State.Fabric.refl u).of_keeps State.syncWhen_moves.1 (by decide)
    (u.syncWhen_keepsFabric c 2)).of_keeps State.swapWhen_moves.1 (by decide)
      ((u.syncWhen c 2).swapWhen_keepsFabric c 2 0)).ite (State.Fabric.refl u)
  have h5 : s.Fabric s5 := h4.forUpto fun u b => (State.Fabric.refl u).ite ((State.Fabric.refl u).of_keeps
    State.recAt_moves.1 (by decide) (u.recAt_keepsFabric b _ _ _ _))
  have h6 : s.Fabric s6 := h5.forUpto fun u n => (u.tmrStart_fabric n).ite (State.Fabric.refl u)
  have h7 : s.Fabric s7 := (h6.of_keeps State.rampStrobe_moves.1 (by decide) (s6.rampStrobe_keepsFabric applied)).ite h6
  exact h7.of_keeps State.monSelect_moves.1 (by decide) (s7.monSelect_keepsFabric 2 g)

variable {s g} in
/-- A first strobe of a group in a cycle notes itself, and leaves the rest of the fabric alone. -/
theorem State.strobe_fabric (applied : Bool) (h : mfind s.evt.strobes g ≠ some s.now) :
    (s.strobeNoted g).Fabric (s.strobe g applied) := by
  rw [State.strobe_of_first applied h]
  exact (State.transferGroup_fabric _ g).trans (State.strobeUses_fabric _ g applied)

end

end Sys2Proof.Machine
end

/-! # Registrations (R96, R99, R116, R117) -/

section
namespace Sys2Proof.Machine

/-- t has the last registrations of s, and what it reports of late system events. -/
structure State.KeepsReports (s t : State) : Prop where
  lasts : t.evt.lasts = s.evt.lasts
  count : t.get Reg.EVT_SYS_LATE_CNT = s.get Reg.EVT_SYS_LATE_CNT
  late : t.get Reg.EVT_STATUS_SYS_LATE = s.get Reg.EVT_STATUS_SYS_LATE

theorem State.KeepsReports.refl (s : State) : s.KeepsReports s := ⟨rfl, rfl, rfl⟩

section
variable {s t u : State}

theorem State.KeepsReports.trans (h : s.KeepsReports t) (k : t.KeepsReports u) : s.KeepsReports u :=
  ⟨k.lasts.trans h.lasts, k.count.trans h.count, k.late.trans h.late⟩

theorem State.Fabric.reports (h : s.Fabric t) : s.KeepsReports t :=
  ⟨h.lasts, h.words.get (by decide), h.words.get (by decide)⟩

theorem State.KeepsReports.ite (h : s.KeepsReports t) (k : s.KeepsReports u) {c : Prop} [Decidable c] :
    s.KeepsReports (if c then t else u) := by
  split
  · exact h
  · exact k

theorem State.KeepsReports.forUpto (h : s.KeepsReports t) {f : State → Nat → State} {n : Nat}
    (hf : ∀ u k, State.KeepsReports u (f u k)) : s.KeepsReports (forUpto f n t) := by
  induction n with
  | zero => exact h
  | succ n ih => exact ih.trans (hf _ n)

end

section
variable (s : State)

theorem State.strobeNoted_reports (g : Nat) : s.KeepsReports (s.strobeNoted g) := ⟨rfl, rfl, rfl⟩

theorem State.strobe_reports (g : Nat) (applied : Bool) : s.KeepsReports (s.strobe g applied) := by
  by_cases h : mfind s.evt.strobes g = some s.now
  · have hs : s.strobe g applied = s := if_pos h
    rw [hs]
    exact State.KeepsReports.refl s
  · exact (s.strobeNoted_reports g).trans (State.strobe_fabric applied h).reports

theorem State.strobeFrom_reports (kind n : Nat) : s.KeepsReports (s.strobeFrom kind n) :=
  (State.KeepsReports.refl s).forUpto fun u g => (u.strobe_reports g false).ite (State.KeepsReports.refl u)

theorem State.logWrite_reports (e : LogEnt) : s.KeepsReports (s.logWrite e) := by
  have hput (v : State) : v.KeepsReports (v.put Reg.EVT_STATUS_LOG_WRAP 1) :=
    ⟨rfl, v.get_put_other _ (by decide), v.get_put_of_apart _ (by decide) (by decide)⟩
  unfold State.logWrite
  refine State.KeepsReports.ite ?_ (State.KeepsReports.refl s)
  extract_lets s1 x s2
  have h1 : s.KeepsReports s1 := (hput s).ite (State.KeepsReports.refl s)
  clear_value s1
  have h2 : s.KeepsReports s2 := h1.trans ⟨rfl, rfl, rfl⟩
  clear_value s2
  exact h2.trans ⟨rfl, s2.get_put_other _ (by decide), s2.get_put_other _ (by decide)⟩

theorem State.sysExport_fabric (n : Nat) (ts : Ts) (i : Nat) : s.Fabric (s.sysExport n ts i) := by
  unfold State.sysExport
  refine State.Fabric.ite ?_ (State.Fabric.refl s)
  exact (State.Fabric.refl s).of_evt rfl rfl

theorem State.regUses_reports (n : Nat) (ts : Ts) : s.KeepsReports (s.regUses n ts) := by
  unfold State.regUses
  extract_lets s1 s2 s3 s4 s5
  have h1 : s.Fabric s1 := (State.Fabric.refl s).forUpto fun u t =>
    (State.Fabric.refl u).of_writes State.waitRelease_moves.1 (by decide)
  have h2 : s.Fabric s2 := h1.forUpto fun u m => (u.tmrStart_fabric m).ite (State.Fabric.refl u)
  have h3 : s.Fabric s3 := (h2.of_writes State.notify_moves.1 (by decide)).ite h2
  have h4 : s.Fabric s4 := h3.forUpto fun u b => (State.Fabric.refl u).of_keeps State.recAt_moves.1 (by decide)
    (u.recAt_keepsFabric b _ _ _ _)
  have h5 : s.Fabric s5 := h4.forUpto fun u c => (State.Fabric.refl u).of_keeps State.swapWhen_moves.1 (by decide)
    (u.swapWhen_keepsFabric c 3 n)
  exact (h5.of_keeps State.monSelect_moves.1 (by decide) (s5.monSelect_keepsFabric 1 n)).reports.trans
    (State.strobeFrom_reports _ 1 n)

/-- s with a registration of event n noted as its last. -/
def State.regNoted (n : Nat) (ts : Ts) : State := { s with evt := { s.evt with
  lasts := mins s.evt.lasts n ⟨some s.now, ts, satAdd32 (s.lastReg n).count 1⟩ } }

theorem State.regNoted_lastReg (n : Nat) (ts : Ts) :
    (s.regNoted n ts).lastReg n = ⟨some s.now, ts, min ((s.lastReg n).count + 1) 0xFFFFFFFF⟩ := by
  rw [State.lastReg]
  exact mget_mins_same _ s.evt.lasts n _

/-- All that a registration does beside noting itself leaves the last registrations alone. -/
theorem State.regEvent_reports (n : Nat) (ts : Ts) (logged : Bool) (kind : Nat) :
    (s.regNoted n ts).KeepsReports (s.regEvent n ts logged kind) := by
  unfold State.regEvent
  extract_lets r x s1 s2 y s3 s4
  have h2 : s1.KeepsReports s2 := (s1.logWrite_reports _).ite (State.KeepsReports.refl s1)
  clear_value s2
  have h3 : s1.KeepsReports s3 := h2.trans ⟨rfl, rfl, rfl⟩
  clear_value s3
  have h4 : s1.KeepsReports s4 :=
    (h3.trans ((State.Fabric.refl s3).forUpto fun u i => u.sysExport_fabric n ts i).reports).ite h3
  exact h4.trans (s4.regUses_reports n ts)

end

section
variable {s : State}

theorem State.lastReg_congr {t : State} (h : t.evt.lasts = s.evt.lasts) (n : Nat) : t.lastReg n = s.lastReg n := by
  rw [State.lastReg, h, State.lastReg]

theorem State.regEvent_lastReg (s : State) (n : Nat) (ts : Ts) (logged : Bool) (kind : Nat) :
    (s.regEvent n ts logged kind).lastReg n = ⟨some s.now, ts, min ((s.lastReg n).count + 1) 0xFFFFFFFF⟩ :=
  (State.lastReg_congr (s.regEvent_reports n ts logged kind).lasts n).trans (s.regNoted_lastReg n ts)

/-- A system event that registers, the first of its cycle. -/
theorem State.regSystem_facts {r : SysReg} (h : (s.lastReg (768 + r.se)).cyc ≠ some s.now) :
    (s.regSystem r).lastReg (768 + r.se) = ⟨some s.now, r.ts, min ((s.lastReg (768 + r.se)).count + 1) 0xFFFFFFFF⟩ ∧
    (s.regSystem r).get Reg.EVT_SYS_LATE_CNT = s.get Reg.EVT_SYS_LATE_CNT ∧
    (s.regSystem r).get Reg.EVT_STATUS_SYS_LATE = s.get Reg.EVT_STATUS_SYS_LATE := by
  unfold State.regSystem
  extract_lets due x s1 s2
  have h1 : s.Fabric s1 := (State.Fabric.refl s).of_evt rfl rfl
  have h2 : s.Fabric s2 := h1.of_writes State.monMark_moves.1 (by decide)
  have hlast : s2.lastReg (768 + r.se) = s.lastReg (768 + r.se) := State.lastReg_congr h2.lasts _
  rw [hlast, h2.now, if_neg h]
  obtain ⟨-, hcount, hlate⟩ := s2.regEvent_reports (768 + r.se) r.ts true (if r.late then 3 else 0)
  refine ⟨(s2.regEvent_lastReg _ _ _ _).trans ?_, hcount.trans h2.reports.count, hlate.trans h2.reports.late⟩
  rw [hlast, h2.now]

theorem eventRegistration_local {n : EvtNo} {ts : Ts} (hn : n.val < 768) (h : s.admits n = true) :
    Answers (.eventRegistration n ts) s fun u =>
      u.lastReg n = ⟨some s.now, ts, min ((s.lastReg n).count + 1) 0xFFFFFFFF⟩ := by
  have hsrc : s.active (Reg.EVT_MAP_SRC n) ≠ 0 := by
    simp only [State.admits, Bool.and_eq_true, decide_eq_true_eq] at h
    exact h.1.2
  obtain ⟨v, hv⟩ : ∃ v, v = s.monMark (s.active (Reg.EVT_MAP_SRC n)) := ⟨_, rfl⟩
  have hw : s.writes v [.mon] := hv ▸ State.monMark_moves.1
  have hlast : v.lastReg n = s.lastReg n := State.lastReg_congr (congrArg Events.lasts (hw .evt (by decide))) _
  have hadm : v.admits n = true := by
    rw [← h, State.admits, State.admits, hlast, (hw .now (by decide) : v.now = s.now), State.active_of_writes hw (by decide),
      State.active_of_writes hw (by decide), State.active_of_writes hw (by decide)]
  refine ⟨v.regEvent n ts (decide (v.active (Reg.EVT_MAP_LOG n) = 1)) 0, congrArg Host.Outcome.next ?_, ?_⟩
  · rw [if_pos hn, if_neg hsrc, ← hv, State.regLocal, if_pos hadm]
  · beta_reduce
    rw [State.regEvent_lastReg, hlast, (hw .now (by decide) : v.now = s.now)]

theorem eventRegistration_system {n : EvtNo} {ts : Ts} (hn : 768 ≤ n.val) (h : (s.lastReg n).cyc ≠ some s.now) :
    Answers (.eventRegistration n ts) s fun u =>
      u.lastReg n = ⟨some s.now, ts, min ((s.lastReg n).count + 1) 0xFFFFFFFF⟩ := by
  have he : 768 + (n.val - 768) = n.val := by omega
  obtain ⟨r, hr⟩ : ∃ r : SysReg, r = ⟨n.val - 768, s.now, ts, s.now + Config.L, false⟩ := ⟨_, rfl⟩
  have hse : 768 + r.se = n.val := by rw [hr, he]
  obtain ⟨hlast, -, -⟩ := State.regSystem_facts (s := s) (r := r) (by rw [hse]; exact h)
  refine ⟨s.regSystem r, congrArg Host.Outcome.next ?_, ?_⟩
  · rw [if_neg (by omega), hr]
  · beta_reduce
    rw [hse] at hlast
    rw [hlast, hr]

variable {se : BitVec 8} {origin : BitVec 9} {ts : Ts} {apply : BitVec 64} {port : PortNo} (ht : s.portTalks port = true)
  (hj : s.get Reg.TXL_STATUS_JOINED = 1)
include ht hj

theorem systemEventMessage_waits (h : s.sysTime s.now + Config.L ≤ apply.toNat) :
    Answers (.systemEventMessage se origin ts apply port) s fun u =>
      s.writes u [.evt] ∧ ∃ n, s.sysTime s.now + (n - s.now) + Config.L = apply.toNat ∧ s.now ≤ n ∧
        u.evt = { s.evt with sys := s.evt.sys ++ [⟨se.toNat, n, ts, n + Config.L, false⟩] } := by
  have hskip : ¬ ((!s.portTalks port) = true ∨ s.get Reg.TXL_STATUS_JOINED = 0) := by simp [ht, hj]
  refine ⟨_, congrArg Host.Outcome.next ((if_neg hskip).trans (if_pos (by omega))), s.with_evt_writes _, _, ?_,
    Nat.le_add_right _ _, rfl⟩
  omega

theorem systemEventMessage_late (h : apply.toNat < s.sysTime s.now + Config.L) (hL : Config.L ≤ apply.toNat)
    (hc : (s.lastReg (768 + se.toNat)).cyc ≠ some s.now) :
    Answers (.systemEventMessage se origin ts apply port) s fun u =>
      u.lastReg (768 + se.toNat) = ⟨some s.now, ts, min ((s.lastReg (768 + se.toNat)).count + 1) 0xFFFFFFFF⟩ ∧
      u.get Reg.EVT_SYS_LATE_CNT = min (s.get Reg.EVT_SYS_LATE_CNT + 1) 0xFFFFFFFF ∧
      u.get Reg.EVT_STATUS_SYS_LATE = 1 := by
  have hskip : ¬ ((!s.portTalks port) = true ∨ s.get Reg.TXL_STATUS_JOINED = 0) := by simp [ht, hj]
  obtain ⟨v, hv⟩ : ∃ v, v = (s.put Reg.EVT_STATUS_SYS_LATE 1).bump Reg.EVT_SYS_LATE_CNT := ⟨_, rfl⟩
  have hsets := hv ▸ (s.setsFields_refl.next Reg.EVT_STATUS_SYS_LATE 1 rfl).bump Reg.EVT_SYS_LATE_CNT 1 rfl rfl
  have hw : s.writes v [.regs] := hv ▸ State.writes_of State.bump_moves.1 (by decide) State.put_writes
  have hevt : v.evt = s.evt := hw .evt (by decide)
  have hnow : v.now = s.now := hw .now (by decide)
  have hlast (n : Nat) : v.lastReg n = s.lastReg n := State.lastReg_congr (congrArg Events.lasts hevt) n
  obtain ⟨r, hr⟩ : ∃ r : SysReg, r = ⟨se.toNat, s.now, ts, s.now + Config.L, true⟩ := ⟨_, rfl⟩
  have hse : r.se = se.toNat := by rw [hr]
  obtain ⟨hreg, hcount, hlate⟩ := State.regSystem_facts (s := v) (r := r) (by rw [hse, hlast, hnow]; exact hc)
  rw [hse, hlast, hnow] at hreg
  refine ⟨v.regSystem r, congrArg Host.Outcome.next ?_, hreg.trans (by rw [hr]), hcount.trans (hsets.get (by simp)),
    hlate.trans (hsets.get (by simp))⟩
  rw [if_neg hskip]
  exact (if_neg (by omega)).trans (by rw [hv, hr])

end

/-- Settles O39: a registration notes itself first, and nothing that it causes, the strobes among them, writes the last
registrations or the reports of late system events. -/
theorem registrationsAreNoted : Obligations.RegistrationsAreNoted := by
  unfold Obligations.RegistrationsAreNoted
  exact fun s => ⟨fun n ts hn h => eventRegistration_local hn h, fun n ts hn h => eventRegistration_system hn h,
    fun se origin ts apply port ht hj h => systemEventMessage_waits ht hj h,
    fun se origin ts apply port ht hj h hL hc => systemEventMessage_late ht hj h hL hc⟩

end Sys2Proof.Machine
end

/-! # The shadows that a strobe makes active (R321 to R323) -/

section
namespace Sys2Proof.Machine

/-! ## Maps by key -/

section
variable {α : Type}

theorem mget_eq_getD_mfind (d : Nat → α) (m : SMap α) (k : Nat) : mget d m k = (mfind m k).getD (d k) := by
  induction m with
  | nil => rfl
  | cons p m ih =>
    rw [mget, mfind]
    split
    · rfl
    · exact ih

theorem mem_of_mfind {m : SMap α} {k : Nat} (h : (mfind m k).isSome = true) : ∃ a, (k, a) ∈ m := by
  induction m with
  | nil => exact absurd h (by simp [mfind])
  | cons p m ih =>
    rw [mfind] at h
    split at h
    · next e => exact ⟨p.2, e ▸ List.mem_cons_self⟩
    · obtain ⟨a, ha⟩ := ih h
      exact ⟨a, List.mem_cons_of_mem _ ha⟩

end

/-! ## Transfers of active values -/

/-- The field that a transfer writes. -/
def Xfr.place (x : Xfr) : Fld := ⟨x.addr, x.lo, x.n⟩

theorem State.active_putActive_of_apart (s : State) {F g : Fld} (v : Nat) (hF : F.lo + F.n ≤ 32) (h : g.apart F) :
    (s.putActive F v).active g = s.active g := by
  simp only [State.active, State.putActive]
  by_cases e : g.addr = F.addr
  · rw [e, State.actWord_setActWord, BitVec.toNat_ofNat, Nat.mod_eq_of_lt (withField_lt v (s.actWord F.addr).isLt hF)]
    exact fieldOf_withField_apart _ _ (h.resolve_left (fun k => k e))
  · rw [State.actWord_setActWord_other _ _ e]

section
variable {F : Fld} {v : Nat} {l : List Xfr}

/-- Transfers that do not touch a field leave it. -/
theorem State.transfers_active_kept (s : State) (h : ∀ x ∈ l, x.addr ≠ F.addr) :
    (forEach State.transfer l s).active F = s.active F := by
  induction l generalizing s with
  | nil => rfl
  | cons x l ih =>
    obtain ⟨hx, hl⟩ := List.forall_mem_cons.mp h
    refine (ih (s.transfer x) hl).trans ?_
    simp only [State.active, State.transfer, State.putActive, State.actWord_setActWord_other s _ (Ne.symm hx)]

/-- Transfers that write v to a field, or leave it, one of them writing it where it is not v, make it v. -/
theorem State.transfers_active (s : State) (hn : 0 < F.n) (hv : v < 2 ^ F.n) (hw : ∀ x ∈ l, x.addr = F.addr → x.lo + x.n ≤ 32)
    (h : ∀ x ∈ l, F.apart x.place ∨ (x.place = F ∧ x.v = v)) (h0 : s.active F = v ∨ ∃ x ∈ l, x.place = F) :
    (forEach State.transfer l s).active F = v := by
  induction l generalizing s with
  | nil => exact h0.resolve_right (by simp)
  | cons x l ih =>
    obtain ⟨hx, hl⟩ := List.forall_mem_cons.mp h
    obtain ⟨hwx, hwl⟩ := List.forall_mem_cons.mp hw
    refine ih (s.transfer x) hwl hl ?_
    rcases hx with hap | ⟨he, hxv⟩
    · have hkeep : (s.transfer x).active F = s.active F := by
        by_cases ha : x.addr = F.addr
        · exact s.active_putActive_of_apart x.v (hwx ha) hap
        · exact State.transfers_active_kept (l := [x]) s (by simpa using ha)
      rw [hkeep]
      refine h0.imp id fun ⟨y, hy, hp⟩ => ?_
      rcases List.mem_cons.mp hy with rfl | hyl
      · rw [hp] at hap
        simp only [Fld.apart, ne_eq, not_true_eq_false, false_or] at hap
        omega
      · exact ⟨y, hyl, hp⟩
    · left
      have hput := s.active_putActive x.place x.v (hwx (congrArg Fld.addr he))
      rw [he, hxv, Nat.mod_eq_of_lt hv] at hput
      have htr : s.transfer x = s.putActive F v := by rw [← hxv, ← he]; rfl
      rw [htr]
      exact hput

end

/-! ## A register that a strobe always transfers -/

/-- F is a field of a register that d describes, of the blocks that the update group G governs; its shadow always transfers. -/
structure ShadowReg (F G : Fld) (d : RegD) : Prop where
  found : ∃ p, regAt F.addr = some (d, p)
  group : updFld d.upd F.addr = some G
  field : ∃ f ∈ d.flds, f.acc = .rws ∧ f.lo = F.lo ∧ f.n = F.n
  fields : ∀ f ∈ d.flds, (f.lo = F.lo ∧ f.n = F.n) ∨ F.lo + F.n ≤ f.lo ∨ f.lo + f.n ≤ F.lo
  words : ∀ f ∈ d.flds, f.lo + f.n ≤ 32
  width : 0 < F.n
  legal : ∀ v, fieldLegal d.base F.lo v = true
  prompt : levelAt F.addr = none
  free : ¬ (d.base = 0x05000C ∨ d.base = 0x050010) ∧ deferredClass d.base F.lo = false ∧ filterClass d.base = false
  kept : fabricReg F.addr
  groupKept : fabricReg G.addr

theorem shadowReg_of_mem {F G : Fld} (h : (F, G) ∈ [(Reg.EVT_SYS_BUDGET, Reg.EVT_CTRL_UPD_GRP),
    (Reg.EVT_CTRL_LOG_EN, Reg.EVT_CTRL_UPD_GRP), (Reg.MEM_CTRL_SR_EN, Reg.MEM_CTRL_UPD_GRP),
    (Reg.CLK_CTRL_RECOVER, Reg.CLK_CTRL_UPD_GRP)]) : ∃ d, ShadowReg F G d := by
  simp only [List.mem_cons, Prod.mk.injEq, List.not_mem_nil, or_false] at h
  rcases h with ⟨rfl, rfl⟩ | ⟨rfl, rfl⟩ | ⟨rfl, rfl⟩ | ⟨rfl, rfl⟩ <;>
    exact ⟨_, ⟨_, rfl⟩, rfl, by decide, by decide, by decide, by decide, fun _ => rfl, by decide, by decide, by decide,
      by decide⟩

section
variable (s : State) (g : Nat) {F G : Fld} {d : RegD}

theorem State.shadowOf_lt (f : Fld) : s.shadowOf f < 2 ^ f.n := fieldOf_lt _ _ _

/-- The registers that a strobe of group g looks at. -/
def State.strobeKeys : List Nat :=
  let stored := s.regs.map (fun p => p.1) ++ (s.act.filter (fun p => (mfind s.regs p.1).isNone)).map (fun p => p.1) ++
    (s.wrote.filter (fun p => (mfind s.regs p.1).isNone && (mfind s.act p.1).isNone)).map (fun p => p.1)
  stored ++ s.evt.written.filter (fun a => !stored.contains a)

/-- A register that a strobe does not look at reads its reset value, active as in its shadow. -/
theorem State.shadow_of_not_key {a : Nat} (h : a ∉ s.strobeKeys) : s.shadow a = s.actWord a := by
  simp only [State.strobeKeys, List.mem_append, List.mem_map, List.mem_filter, not_or, not_exists, not_and] at h
  obtain ⟨⟨⟨hregs, hact⟩, hwrote⟩, -⟩ := h
  have hr : mfind s.regs a = none := by
    by_contra hne
    obtain ⟨w, hw⟩ := mem_of_mfind (Option.isSome_iff_ne_none.mpr hne)
    exact hregs _ hw rfl
  have ha : mfind s.act a = none := by
    by_contra hne
    obtain ⟨w, hw⟩ := mem_of_mfind (Option.isSome_iff_ne_none.mpr hne)
    exact hact _ ⟨hw, by simp [hr]⟩ rfl
  have hw : mfind s.wrote a = none := by
    by_contra hne
    obtain ⟨w, hw⟩ := mem_of_mfind (Option.isSome_iff_ne_none.mpr hne)
    exact hwrote _ ⟨hw, by simp [hr, ha]⟩ rfl
  rw [State.shadow, hw, Option.getD_none, State.regWord, State.actWord, mget_eq_getD_mfind, mget_eq_getD_mfind, hr, ha]

variable (hF : ShadowReg F G d)
include hF

/-- The transfers pending of F's register are those of its fields, in a strobe of its group alone. -/
theorem State.pendingXfrs_of_addr {x : Xfr} (h : x ∈ s.pendingXfrs g) (ha : x.addr = F.addr) :
    s.shadowOf G = g ∧ x ∈ s.changed d F.addr := by
  obtain ⟨p, hp⟩ := hF.found
  obtain ⟨a, -, hx⟩ := List.mem_flatMap.mp h
  split at hx
  · next e i j he =>
    split at hx
    · next f hf =>
      split at hx
      · next hg =>
        have hxa : x.addr = a := by
          obtain ⟨hmem, -⟩ := List.mem_filter.mp hx
          obtain ⟨q, -, rfl⟩ := List.mem_map.mp hmem
          rfl
        obtain rfl : a = F.addr := hxa.symm.trans ha
        obtain rfl : e = d := congrArg Prod.fst (Option.some.inj (he.symm.trans hp))
        obtain rfl : f = G := Option.some.inj (hf.symm.trans hF.group)
        exact ⟨hg, hx⟩
      · exact absurd hx List.not_mem_nil
    · exact absurd hx List.not_mem_nil
  · exact absurd hx List.not_mem_nil

theorem State.mem_pendingXfrs {x : Xfr} (hk : F.addr ∈ s.strobeKeys) (hg : s.shadowOf G = g) (hx : x ∈ s.changed d F.addr) :
    x ∈ s.pendingXfrs g := by
  obtain ⟨⟨i, j⟩, hp⟩ := hF.found
  refine List.mem_flatMap.mpr ⟨F.addr, hk, ?_⟩
  rw [hp]
  dsimp only
  rw [hF.group]
  dsimp only
  rw [if_pos hg]
  exact hx

/-- A transfer of F's register writes F its shadow, or a field apart from F. -/
theorem State.changed_place {x : Xfr} (h : x ∈ s.changed d F.addr) : x.addr = F.addr ∧ x.lo + x.n ≤ 32 ∧
    (F.apart x.place ∨ (x.place = F ∧ x.v = s.shadowOf F)) := by
  obtain ⟨hmem, -⟩ := List.mem_filter.mp h
  obtain ⟨f, hf, rfl⟩ := List.mem_map.mp hmem
  obtain ⟨hfl, -⟩ := List.mem_filter.mp hf
  refine ⟨rfl, hF.words f hfl, ?_⟩
  rcases hF.fields f hfl with ⟨hlo, hn⟩ | hap
  · refine .inr ⟨?_, ?_⟩
    · rw [Xfr.place, hlo, hn]
    · dsimp only
      rw [hlo, hn, State.shadowOf]
  · exact .inl (.inr hap)

/-- The transfer of F, where it is to change. -/
theorem State.changed_of_ne (h : s.active F ≠ s.shadowOf F) :
    ⟨d.base, F.addr, F.lo, F.n, s.shadowOf F, s.active F⟩ ∈ s.changed d F.addr := by
  obtain ⟨f, hf, hacc, hlo, hn⟩ := hF.field
  refine List.mem_filter.mpr ⟨List.mem_map.mpr ⟨f, List.mem_filter.mpr ⟨hf, by simp [hacc]⟩, ?_⟩, ?_⟩
  · rw [hlo, hn]
    rfl
  · simp [Xfr.news, Ne.symm h]

theorem ShadowReg.transfers (v old : Nat) : s.transfers ⟨d.base, F.addr, F.lo, F.n, v, old⟩ = true := by
  obtain ⟨hsync, hdef, hfil⟩ := hF.free
  simp only [State.transfers, hF.legal, hF.prompt, hdef, hfil, if_neg hsync]
  rfl

/-- A strobe of F's group makes F's shadow active. -/
theorem State.transferred_active (hg : s.shadowOf G = g) : (s.transferred g).active F = s.shadowOf F := by
  have hpend : ∀ x ∈ s.madeXfrs g, x.addr = F.addr → x ∈ s.changed d F.addr := fun x hx ha =>
    (s.pendingXfrs_of_addr g hF (List.mem_filter.mp (List.mem_filter.mp hx).1).1 ha).2
  refine State.transfers_active (s.lateLevels g) hF.width (s.shadowOf_lt F) (fun x hx ha => ?_) (fun x hx => ?_) ?_
  · exact (s.changed_place hF (hpend x hx ha)).2.1
  · by_cases ha : x.addr = F.addr
    · exact (s.changed_place hF (hpend x hx ha)).2.2
    · exact .inl (.inl (Ne.symm ha))
  · by_cases hne : s.active F = s.shadowOf F
    · exact .inl hne
    · refine .inr ⟨⟨d.base, F.addr, F.lo, F.n, s.shadowOf F, s.active F⟩, ?_, rfl⟩
      have hkey : F.addr ∈ s.strobeKeys := by
        by_contra hk
        exact hne (by rw [State.shadowOf, s.shadow_of_not_key hk, State.active])
      refine List.mem_filter.mpr ⟨List.mem_filter.mpr ⟨s.mem_pendingXfrs g hF hkey hg (s.changed_of_ne hF hne), ?_⟩,
        ShadowReg.transfers _ hF _ _⟩
      simp only [State.levelWaits, hF.prompt, Option.isNone_none]

/-- A strobe of another group leaves F. -/
theorem State.transferred_active_kept (hg : s.shadowOf G ≠ g) : (s.transferred g).active F = s.active F :=
  State.transfers_active_kept (s.lateLevels g) fun _ hx ha =>
    hg (s.pendingXfrs_of_addr g hF (List.mem_filter.mp (List.mem_filter.mp hx).1).1 ha).1

end

/-! ## Strobes -/

section
variable (s : State) (g : Nat)

/-- Nothing but a transfer writes the active values. -/
theorem State.active_of_moves {s t : State} {W : List Piece} {F : Fld} {v : Nat} (h : s.moves t W) (hW : Piece.act ∉ W)
    (hv : s.active F = v) : t.active F = v :=
  (State.active_of_writes h.1 hW F).trans hv

theorem State.active_ite {s t : State} {F : Fld} {v : Nat} {c : Prop} [Decidable c] (hs : s.active F = v)
    (ht : t.active F = v) : (if c then s else t).active F = v := by
  split
  · exact hs
  · exact ht

section
variable {s} {F : Fld} {v : Nat} (h : s.active F = v)
include h

theorem State.hostCommits_active : (s.hostCommits g).active F = v :=
  forUpto_keeps (P := fun u => u.active F = v) (fun _ _ hu =>
    State.active_ite (State.active_of_moves State.hostCommit_moves (by decide) hu) hu) 8 h

theorem State.afterXfrs_active (l all : List Xfr) (up en : Nat) : (s.afterXfrs g l all up en).active F = v := by
  unfold State.afterXfrs
  extract_lets s1 s2 s3 s4 s5
  have h1 : s1.active F = v := forUpto_keeps (P := fun u => u.active F = v)
    (fun _ _ => State.active_of_moves State.wavXfr_moves (by decide)) 8 h
  have h2 : s2.active F = v := forUpto_keeps (P := fun u => u.active F = v)
    (fun _ _ => State.active_of_moves State.capXfr_moves (by decide)) 8 h1
  have hgrp := forUpto_keeps (P := fun u => u.active F = v) (f := fun s p => s.grpXfr l all p)
    (fun _ _ => State.active_of_moves State.grpXfr_moves (by decide)) 8 h2
  have h3 : s3.active F = v := State.active_of_moves State.evtXfr_moves (by decide) hgrp
  have h4 : s4.active F = v := State.active_ite (State.active_of_moves State.refSelected_moves (by decide) h3) h3
  have h5 : s5.active F = v := State.active_ite (State.active_of_moves State.judgeOut_moves (by decide) h4) h4
  exact State.active_ite (State.active_of_moves State.txlConfigured_moves (by decide) h5) h5

theorem State.strobeUses_active (applied : Bool) : (s.strobeUses g applied).active F = v := by
  unfold State.strobeUses
  extract_lets s2 s3 s4 s5 s6 s7
  have h2 : s2.active F = v := forUpto_keeps (P := fun u => u.active F = v)
    (fun _ _ => State.active_of_moves State.strobeTile_moves (by decide)) 16 h
  have h3 : s3.active F = v := State.active_of_moves State.strobeRedirects_moves (by decide) h2
  have h4 : s4.active F = v := forUpto_keeps (P := fun u => u.active F = v) (fun _ _ hu => State.active_ite
    (State.active_of_moves State.swapWhen_moves (by decide) (State.active_of_moves State.syncWhen_moves (by decide) hu)) hu) 8 h3
  have h5 : s5.active F = v := forUpto_keeps (P := fun u => u.active F = v)
    (fun _ _ => State.active_of_moves State.strobeRec_moves (by decide)) 16 h4
  have h6 : s6.active F = v := forUpto_keeps (P := fun u => u.active F = v) (fun _ _ hu =>
    State.active_ite (State.active_of_moves State.tmrStart_moves (by decide) hu) hu) 16 h5
  have h7 : s7.active F = v := State.active_ite (State.active_of_moves State.rampStrobe_moves (by decide) h6) h6
  exact State.active_of_moves State.monSelect_moves (by decide) h7

end

theorem State.strobe_now (applied : Bool) : (s.strobe g applied).now = s.now := State.strobe_moves.1 .now (by decide)

/-- A strobe of a group is the last of its group, and of no other. -/
theorem State.strobe_strobes (applied : Bool) (j : Nat) : mfind (s.strobe g applied).evt.strobes j =
    if j = g then some s.now else mfind s.evt.strobes j := by
  by_cases h : mfind s.evt.strobes g = some s.now
  · have hs : s.strobe g applied = s := if_pos h
    rw [hs]
    split
    · next e => rw [e, h]
    · rfl
  · rw [(State.strobe_fabric applied h).strobes]
    exact mfind_mins _ _ _ _

theorem State.strobe_shadowOf (applied : Bool) {f : Fld} (hf : fabricReg f.addr) :
    (s.strobe g applied).shadowOf f = s.shadowOf f := by
  by_cases h : mfind s.evt.strobes g = some s.now
  · exact congrArg (State.shadowOf · f) (if_pos h)
  · exact (State.strobe_fabric applied h).shadowOf hf

variable {F G : Fld} {d : RegD} (hF : ShadowReg F G d)
include hF

theorem State.strobe_active {s : State} {g : Nat} (applied : Bool) (h : mfind s.evt.strobes g ≠ some s.now)
    (hg : s.shadowOf G = g) : (s.strobe g applied).active F = s.shadowOf F := by
  have hcommits := (s.strobeNoted g).hostCommits_fabric g
  rw [State.strobe_of_first applied h, State.transferGroup_eq]
  refine State.strobeUses_active g (State.afterXfrs_active g ?_ _ _ _ _) applied
  rw [State.transferred_active _ g hF ((hcommits.shadowOf hF.groupKept).trans hg)]
  exact hcommits.shadowOf hF.kept

theorem State.strobe_active_kept (applied : Bool) (hg : s.shadowOf G ≠ g) : (s.strobe g applied).active F = s.active F := by
  by_cases h : mfind s.evt.strobes g = some s.now
  · exact congrArg (State.active · F) (if_pos h)
  · have hcommits := (s.strobeNoted g).hostCommits_fabric g
    rw [State.strobe_of_first applied h, State.transferGroup_eq]
    refine State.strobeUses_active g (State.afterXfrs_active g ?_ _ _ _ _) applied
    rw [State.transferred_active_kept _ g hF (by rw [hcommits.shadowOf hF.groupKept]; exact hg)]
    exact State.hostCommits_active g (s := s.strobeNoted g) rfl

end

/-! ## The write of GLB_UPDATE -/

/-- s with the groups below n strobed whose bits v has. -/
def State.strobed (s : State) (v : Word) (n : Nat) : State := forUpto (fun s g => if v.getLsbD g then s.strobe g false else s) n s

section
variable (s : State) (v : Word) {g : Nat} (hv : v.getLsbD g = true)

theorem State.strobed_succ (n : Nat) : s.strobed v (n + 1) =
    if v.getLsbD n then (s.strobed v n).strobe n false else s.strobed v n := rfl

theorem State.strobed_now (n : Nat) : (s.strobed v n).now = s.now :=
  forUpto_keeps (P := fun u => u.now = s.now) (fun u k hu => by
    split
    · exact (u.strobe_now k false).trans hu
    · exact hu) n rfl

theorem State.strobed_shadowOf (n : Nat) {f : Fld} (hf : fabricReg f.addr) : (s.strobed v n).shadowOf f = s.shadowOf f :=
  forUpto_keeps (P := fun u => u.shadowOf f = s.shadowOf f) (fun u k hu => by
    split
    · exact (u.strobe_shadowOf k false hf).trans hu
    · exact hu) n rfl

include hv

theorem State.strobed_strobes (n : Nat) : mfind (s.strobed v n).evt.strobes g =
    if g < n then some s.now else mfind s.evt.strobes g := by
  induction n with
  | zero => rfl
  | succ n ih =>
    rw [State.strobed_succ]
    rcases Nat.lt_trichotomy g n with hlt | rfl | hgt
    · rw [if_pos (Nat.lt_succ_of_lt hlt)]
      rw [if_pos hlt] at ih
      split
      · rw [State.strobe_strobes, if_neg (by omega), ih]
      · exact ih
    · rw [if_pos hv, State.strobe_strobes, if_pos rfl, if_pos g.lt_succ_self, State.strobed_now]
    · rw [if_neg (by omega : ¬ g < n + 1)]
      rw [if_neg (by omega : ¬ g < n)] at ih
      split
      · rw [State.strobe_strobes, if_neg (by omega), ih]
      · exact ih

variable {F G : Fld} {d : RegD} (hF : ShadowReg F G d) (hG : s.shadowOf G = g) (hs : mfind s.evt.strobes g ≠ some s.now)
include hF hG hs

theorem State.strobed_active {n : Nat} (hn : g < n) : (s.strobed v n).active F = s.shadowOf F := by
  induction n with
  | zero => exact absurd hn (by omega)
  | succ n ih =>
    have hgroup : (s.strobed v n).shadowOf G = g := (s.strobed_shadowOf v n hF.groupKept).trans hG
    rw [State.strobed_succ]
    rcases Nat.lt_succ_iff_lt_or_eq.mp hn with hlt | rfl
    · split
      · rw [State.strobe_active_kept _ n hF false (by omega), ih hlt]
      · exact ih hlt
    · rw [if_pos hv, State.strobe_active hF false _ hgroup, s.strobed_shadowOf v g hF.kept]
      rw [s.strobed_strobes v hv, if_neg (by omega), s.strobed_now]
      exact hs

end

/-- Settles O40: no strobe writes the registers of `fabricReg`, so a strobe sees the shadows of the cycle's beginning, and the
strobe of their group is the only one that transfers them. -/
theorem strobesTransferShadows : Obligations.StrobesTransferShadows := by
  unfold Obligations.StrobesTransferShadows
  intro s v g hg hv hs
  refine ⟨s.strobed v 16, rfl, ?_, fun F G hmem hG => ?_⟩
  · rw [s.strobed_strobes v hv, if_pos hg]
  · obtain ⟨d, hF⟩ := shadowReg_of_mem hmem
    exact s.strobed_active v hv hF hG hs hg

end Sys2Proof.Machine
end
